-- ==== Sys2Proof/Word.lean ====
section
/-! DEFINITION. The word types of the KRM's registers and the sparse tables its stores are held in. -/

namespace Sys2Proof

/-- A 32-bit register or packet word (R13, R412). -/
abbrev Word := BitVec 32

/-- One byte. -/
abbrev Byte := BitVec 8

/-- A sparse table by number: strictly rising keys, no entry equal to what an unlisted key reads as. -/
abbrev Table (α : Type) := List (Nat × α)

/-- The prime of the residue arithmetic, p = 2^61 - 1 (R103). -/
def p61 : Nat := 0x1FFFFFFFFFFFFFFF

end Sys2Proof
end

