-- ==== Sys2Proof/Types.lean ====
section
/-! DEFINITION. The plain data that commands carry and State holds: identifiers, requests, frames, plans, digests, packages. -/

namespace Sys2Proof

/-- The two hub dies: `a` is die 96, `b` is die 97 (Table 0.2). -/
inductive Hub where
  | a
  | b
deriving DecidableEq, Repr, Inhabited

/-- Privileges (R423, Table 13.1 PRIV): 0 Vendor, 1 Operator, 2 Tenant, 3 none. -/
inductive Priv where
  | vendor
  | operator
  | tenant
  | none
deriving DecidableEq, Repr, Inhabited

/-- One access to a KRM window: 40-bit address, size in bytes, the privilege mark and the context tag it carries (R13, R486). -/
structure Access where
  addr : Nat
  size : Nat
  priv : Priv
  tag : Option Nat
deriving DecidableEq, Repr, Inhabited

/-- The path a command packet comes by (R410, R422): a slot of the aperture, a source EID on a management port, or on an I3C target. -/
inductive Path where
  | aperture (slot : Nat)
  | mgmt (hub : Hub) (eid : Nat)
  | i3c (hub : Hub) (eid : Nat)
deriving DecidableEq, Repr, Inhabited

/-- A command packet's header and what the checks of Table 13.3 need of the packet: TAG, PRIV, CTX, SESSION, TOKEN (Table 13.1),
    whether LENGTH is valid and agrees with the packet delivered (R409, R412), the CRC-32C that names the packet (R416), whether
    every reserved bit and padding byte is zero (R419 step 7), and SIG_R and SIG_S of a packet that carries a signature (R422, R425). -/
structure Req where
  path : Path
  tag : Nat
  priv : Priv
  ctx : Nat
  session : Nat
  token : Nat
  lenOk : Bool
  crc : Nat
  reservedZero : Bool
  sigR : Nat
  sigS : Nat
deriving DecidableEq, Repr, Inhabited

/-- What an arriving Felt transaction's frame header gives (Table 11.4): source die, SEQ, ring, and the epoch its first payload word
    carries when a Vat sent it (R318). -/
structure Hdr where
  src : Nat
  seq : Nat
  ring : Nat
  epoch : Nat
deriving DecidableEq, Repr, Inhabited

/-- A digest record (Table 4.2). -/
structure DigestRec where
  tensor : Nat
  pass : Nat
  count : Nat
  flags : Nat
  d0 : Nat
  d1 : Nat
deriving DecidableEq, Repr, Inhabited

/-- One slot entry of the plan's slot table (R125): byte range and initial state, 0 EMPTY, 1 WRITING, 2 FILLED, none when the entry has none. -/
structure PlanSlot where
  index : Nat
  base : Nat
  len : Nat
  init : Option Nat
deriving DecidableEq, Repr, Inhabited

/-- One window that the plan opens at context load (R277): index, base, length, granted writer tags. -/
structure PlanWin where
  index : Nat
  base : Nat
  len : Nat
  grants : List Nat
deriving DecidableEq, Repr, Inhabited

/-- The plan's index map of one release unit (R136): base logical index, row stride and column stride, and whether this logical core completes the
    reduction and rounds, so that its elements enter the digest. -/
structure IndexMap where
  base : Nat
  row : Nat
  col : Nat
  completes : Bool
deriving DecidableEq, Repr, Inhabited

/-- What the plan gives one logical core: its check descriptors (eight words each, Table 3.2), slots, windows, press group (0xFFFF for
    none), digest ring offset (R143), rollback set (R98), the partial order fixed for each of its joins (R127), the index maps of each descriptor's
    release units in schedule order, taken in turn (R136), and the slot states of a cancelled branch, as (descriptor index, slot, state) (R174). -/
structure PlanLc where
  lc : Nat
  descs : List (List Nat)
  slots : List PlanSlot
  wins : List PlanWin
  pressGroup : Nat
  ringOffset : Nat
  rollback : List Nat
  joins : List (List Nat)
  maps : List (List IndexMap)
  cancels : List (Nat × Nat × Nat)
deriving DecidableEq, Repr, Inhabited

/-- One random stream of the plan (R306): stream ID, base position, draws each iteration, draws before each snapshot point. -/
structure PlanStream where
  id : Nat
  base : Nat
  perIter : Nat
  before : List Nat
deriving DecidableEq, Repr, Inhabited

/-- One tensor of the plan's tensor table (R135, R140): ID, kind (Table 4.1: 0 output of an accumulating operator, 1 blocked format, 2 RAW64), layer,
    operator, element total, whether it is replica state (R148) and whether it is in the snapshot set (R301). -/
structure PlanTensor where
  id : Nat
  kind : Nat
  layer : Nat
  oper : Nat
  total : Nat
  replica : Bool
  snapshot : Bool
deriving DecidableEq, Repr, Inhabited

/-- A reference record of a tensor, or of one logical core's shard of it (R146, R147). -/
structure RefRec where
  lc : Option Nat
  digest : DigestRec
deriving DecidableEq, Repr, Inhabited

/-- The content of a check plan that the KRM reads (R41, Table 1.6): the manual gives no byte format, so it is plain data. -/
structure Plan where
  lcs : List PlanLc
  training : Bool
  tensors : List PlanTensor
  /-- Update operators, as (layer, operator) pairs (R148). -/
  updateOps : List (Nat × Nat)
  /-- Operators of each layer in schedule order, as (layer, operator) pairs (R144, Table 4.4 step 2). -/
  layerOps : List (Nat × Nat)
  streams : List PlanStream
  /-- Draw operators, as (stream ID, layer, operator, draws) (R306). -/
  drawOps : List (Nat × Nat × Nat × Nat)
  samplesPerIter : Nat
  samplesBefore : List Nat
  /-- For each snapshot point of an iteration, the operator of the schedule that follows it, as (layer, operator) (R301). -/
  points : List (Nat × Nat) := []
  /-- Expected records of constant tensors and canary outputs, of a tensor or of a logical core's shard (R146). -/
  expected : List RefRec
  /-- Whether the header and every table are well formed and within their limits, as far as the format itself decides (Table 13.5a order 5). -/
  formatOk : Bool
deriving DecidableEq, Repr, Inhabited

/-- What the active Vat reads at a CTX_LOAD's plan address: the SHA-384 of the bytes read and the plan they spell. -/
structure PlanRead where
  sha : Nat
  plan : Plan
deriving DecidableEq, Repr, Inhabited

/-- The configuration fields of a CTX_LOAD as asked for (Table 13.6), and the plan's digest parameter. -/
structure LoadFields where
  poisonMode : Nat
  autoSnap : Nat
  hangT : Nat
  xwaitT : Nat
  riskT : Nat
  snapMin : Nat
  planSha : Nat
deriving DecidableEq, Repr, Inhabited

/-- One shard of a ream (R305): holder fabric address, die, shard index, area offset, length, digest; and whether its holder is on this package. -/
structure Shard where
  holder : Nat
  die : Nat
  index : Nat
  offset : Nat
  length : Nat
  digest : Nat
  here : Bool
deriving DecidableEq, Repr, Inhabited

/-- One ream of a map (R296, R305): n and its n + 2 shards. -/
structure Ream where
  n : Nat
  shards : List Shard
deriving DecidableEq, Repr, Inhabited

/-- A ream map as read from its address, and whether it covers the plan's snapshot set (Table 9.4 MAP_INVALID). -/
structure ReamMap where
  reams : List Ream
  covers : Bool
deriving DecidableEq, Repr, Inhabited

/-- The elements of a snapshot-set tensor that a block carries (R304): the tensor's ID, and each element's value (Table 4.1) and logical index. -/
structure TensorPart where
  id : Nat
  elems : List (Nat × Nat)
deriving DecidableEq, Repr, Inhabited

/-- A group table (R308): group ID, epoch, rank count, own rank, the fabric address of each rank. -/
structure GroupTable where
  id : Nat
  epoch : Nat
  ranks : Nat
  rank : Nat
  addrs : List Nat
deriving DecidableEq, Repr, Inhabited

/-- A snapshot manifest (Table 9.6). `streams` holds (stream ID, recorded position), `steps` holds (logical core, count). -/
structure Manifest where
  id : Nat
  tag : Nat
  valid : Bool
  package : Bool
  replicaPending : Bool
  iter : Nat
  point : Nat
  reams : List Ream
  streams : List (Nat × Nat)
  steps : List (Nat × Nat)
  dcursor : Nat
  d0 : Nat
  d1 : Nat
  count : Nat
  planSha : Nat
  group : GroupTable
  /-- Whether the comparison of this snapshot's replicas agreed (Table 9.1 NO_MAJORITY row). -/
  agreed : Bool
deriving DecidableEq, Repr, Inhabited

/-- The header of a Vat firmware image (Table 10.6), and whether every field that must be zero is. -/
structure FwHeader where
  magic : Nat
  format : Nat
  step : Nat
  keyId : Nat
  serial : Nat
  payloadLen : Nat
  entry : Nat
  sha : Nat
  r : Nat
  s : Nat
  zeros : Bool
deriving DecidableEq, Repr, Inhabited

/-- The fields of a licence (Table 13.5), its signature, and whether its zero field is zero. -/
structure Licence where
  magic : Nat
  format : Nat
  step : Nat
  keyId : Nat
  serial : Nat
  uid : Nat
  dieMask : Nat
  features : Nat
  zeros : Bool
  sigR : Nat
  sigS : Nat
deriving DecidableEq, Repr, Inhabited

/-- Counts of one lane's qualification or in-service window (R380): lane ID, bits, corrected bit errors, codewords, corrected, uncorrectable. -/
structure LaneCount where
  lane : Nat
  bits : Nat
  errors : Nat
  codewords : Nat
  corrected : Nat
  uncorrectable : Nat
deriving DecidableEq, Repr, Inhabited

/-- One unit named by DUMP (Table 14.12): kind, unit ID, offset, length. -/
structure DumpUnit where
  kind : Nat
  unit : Nat
  offset : Nat
  length : Nat
deriving DecidableEq, Repr, Inhabited

/-- The contents of the failure registers for one detection (Table 16.4): row, A and B. -/
structure FailRegs where
  row : Nat
  a : Nat
  b : Nat
deriving DecidableEq, Repr, Inhabited

/-- How a replay ended (R175): every check passed; a detection with its failure registers; poison read that the original read clean;
    poison that the original read too; or not completed. -/
inductive ReplayEnd where
  | pass
  | failed (primary : Nat) (regs : FailRegs)
  | poisonedNew
  | poisonedOld
deriving DecidableEq, Repr, Inhabited

/-- One row's data of a Laid check (R106): drained accumulators, seeds, and the activations as (mantissa, biased exponent). -/
structure LaidRow where
  acc : List Int
  seed : List Int
  x : List (Int × Nat)
deriving DecidableEq, Repr, Inhabited

/-- A column-sum vector as streamed (R114): header count and seal, and the 64-bit entries. -/
structure CsvData where
  count : Nat
  sealWord : Nat
  entries : List Nat
deriving DecidableEq, Repr, Inhabited

/-- A Duplex or gate partner's digest report (R116, R118): context, the reporting and the other logical core, operator, sequence number,
    ticket, whether it is a gate digest, DA (or DG) and DR. -/
structure PairReport where
  ctx : Nat
  lc : Nat
  partner : Nat
  layer : Nat
  oper : Nat
  rseq : Nat
  ticket : Nat
  gate : Bool
  da : Nat
  dr : Nat
deriving DecidableEq, Repr, Inhabited

/-- A Laid group member's residues (R111): context, operator, logical core, anchor, sequence number, ticket, lhs of each row, and the
    anchor's own rhs of each row (empty for another member). -/
structure LaidReport where
  ctx : Nat
  layer : Nat
  oper : Nat
  lc : Nat
  anchor : Nat
  rseq : Nat
  ticket : Nat
  lhs : List Nat
  rhs : List Nat
deriving DecidableEq, Repr, Inhabited

/-- The kind of an access to scratchpad (Table 14.1 KINDS): local or remote read or write, fill signal, drain signal. -/
inductive AccKind where
  | localRead
  | localWrite
  | remoteRead
  | remoteWrite
  | fill
  | drain
deriving DecidableEq, Repr, Inhabited

/-- One access to a core's scratchpad as its tap sees it: byte range, kind, context tag carried, how the symbol code read the words
    (0 clean, 1 one symbol corrected, 2 two symbols in error), whether a word read is poisoned, and the ticket index of the release unit
    that the words enter, if they enter one, and the ticket ID of the release unit that wrote the words or gave the signal, if one did (R31, R101, R125,
    R244-R246, R436). -/
structure SpadAccess where
  off : Nat
  len : Nat
  kind : AccKind
  tag : Nat
  ecc : Nat
  poisoned : Bool
  unit : Option Nat
  writer : Option Nat
deriving DecidableEq, Repr, Inhabited

/-- What a mesh transfer carries beside its tag (R165, R277, R308): a Sizing group's generation, a window index, generation and range, a
    collective's group and epoch, or nothing more. -/
inductive XferKind where
  | plain
  | sizing (group : Nat) (gen : Nat)
  | window (index : Nat) (gen : Nat) (off : Nat) (len : Nat)
  | collective (group : Nat) (epoch : Nat)
deriving DecidableEq, Repr, Inhabited

/-- Where an outbound transfer of a core goes (Table 5.3): a logical core, the host bridge, another package. -/
inductive Dest where
  | lc (n : Nat)
  | host
  | package
deriving DecidableEq, Repr, Inhabited

/-- A mesh transfer arriving at a logical core: context tag, what it carries, and where it comes from: a logical core, the host bridge, or another
    package. -/
structure Xfer where
  dstLc : Nat
  tag : Nat
  kind : XferKind
  src : Dest := .package
deriving DecidableEq, Repr, Inhabited

/-- The release unit of a transfer at a gate (R99, R102): its ticket, and its release sequence number where it may be another than that of the unit that
    holds the ticket now, since an ID can be opened again as soon as it is FREE (R159). -/
structure UnitRef where
  ticket : Nat
  rseq : Option Nat := none
deriving DecidableEq, Repr, Inhabited

/-- Where a rounded group lies in its release unit (R136): row and first column, and the logical token index of the row, which takes the row's place
    for an expert block. -/
structure GroupAt where
  row : Nat
  col : Nat
  tau : Nat
deriving DecidableEq, Repr, Inhabited

/-- A transfer at a release gate (R99, R100): the unit's ticket, the destination, whether it carries a decision vector (R118), whether it leaves
    poisoned (R102), whether it waits for the decision that governs its speculative unit (R174), whether the tap holds it for its destination (Table
    5.3), and the logical step count at which it was presented. -/
structure GateXfer where
  ticket : Option Nat
  dst : Dest
  decision : Bool
  poisoned : Bool
  spec : Bool
  stray : Bool
  step : Nat
deriving DecidableEq, Repr, Inhabited

/-- What an issue step is (R55, R451). -/
inductive StepKind where
  | scheduled
  | idle
  | window
  | replay
deriving DecidableEq, Repr, Inhabited

/-- Detail a counted event carries into its FAULT record (Table 7.8): context ID, layer ID or class detail, operator ID; and whether the event faults
    its context where its class alone does not say so (R246, Table 7.7). -/
structure Detail where
  ctx : Nat
  p2 : Nat
  p3 : Nat
  kills : Bool := false
deriving DecidableEq, Repr, Inhabited

/-- A batch of first-stage increments forwarded for one source (R25, R233): number, saturation flag, reel count of the first, details. -/
structure CountBatch where
  source : Nat
  count : Nat
  sat : Bool
  reel : Nat
  details : List Detail
deriving DecidableEq, Repr, Inhabited

/-- A reaction command to an agent (R235): NMI, BLK of the source's unit, PIN of its latch. -/
structure Reaction where
  source : Nat
  nmi : Bool
  blk : Bool
  pin : Bool
deriving DecidableEq, Repr, Inhabited

/-- A stop-table entry (Table 14.6): physical core, logical core, tag, carrying, held, parked, unreadable, stall reason, HALT_REEL, step counts. -/
structure StopEntry where
  pcore : Nat
  lc : Nat
  tag : Nat
  carrying : Bool
  held : Bool
  parked : Bool
  unreadable : Bool
  stall : Nat
  haltReel : Nat
  lstep : Nat
  pstep : Nat
deriving DecidableEq, Repr, Inhabited

/-- A health report (R337). -/
structure Health where
  role : Nat
  failed : Nat
  cycleReel : Nat
  mirrorSeq : Nat
  serial : Nat
deriving DecidableEq, Repr, Inhabited

/-- A fence, deckle or reset order to an agent (Table 11.6 FENCE_CMD): a new physical entry of a core, a new home entry, or a reset of a
    core or of a cluster. -/
inductive FenceOrder where
  | phys (core : Nat) (entry : Nat)
  | home (index : Nat) (entry : Nat)
  | resetCore (core : Nat)
  | resetCluster (cluster : Nat)
deriving DecidableEq, Repr, Inhabited

/-- A die-local command of AGENT_CMD (Table 11.6): a read or a write of a Couch window register forwarded under R491, by transfer number. -/
inductive AgentOp where
  | read (id : Nat) (off : Nat) (priv : Priv) (tag : Option Nat)
  | write (id : Nat) (off : Nat) (value : Word) (priv : Priv) (tag : Option Nat)
  | selfTest (core : Nat)
  | unpark (core : Nat)
deriving DecidableEq, Repr, Inhabited

/-- One step of a hang walk (R269): the chain of logical cores so far, oldest first. -/
structure WalkStep where
  chain : List Nat
  ctx : Nat
deriving DecidableEq, Repr, Inhabited

end Sys2Proof
end

