-- ==== Sys2Proof/Syntax.lean ====
section
/-! DEFINITION. The commands of the KRM: one constructor for each row of spec/opcode_table.json. -/

namespace Sys2Proof

/-- A command: what a requester, a register access, the network, a core, a sensor, the tray controller or a timer does to the KRM.
    A packet command carries its header `rq`; an arriving Felt transaction carries its frame header `h`. -/
inductive Instr where
  /-- A write to a KRM register that has no row of its own stores its fields by access type, with locks, clamping and privilege applied. (R15) -/
  | registerWrite (a : Access) (v : Word)
  /-- A read of a 64-bit counter's LO register returns it and latches the HI register. (R60) -/
  | registerLoRead (a : Access)
  /-- A read of MTP_WM_OPER latches the whole watermark set in one step. (R498) -/
  | mtpWmOperRead (a : Access)
  /-- A read of MTP_STALL_LO latches MTP_STALL_HI for the reason selected at that moment. (R499) -/
  | mtpStallLoRead (a : Access)
  /-- A read of VAT_CPL_DATA is forwarded as AGENT_CMD and returns the addressed Couch register. (R491) -/
  | vatCplDataRead (a : Access)
  /-- A write of VAT_CPL_DATA is forwarded as AGENT_CMD to the addressed Couch register. (R491) -/
  | vatCplDataWrite (a : Access) (v : Word)
  /-- No AGENT_REPLY arrives within 100 µs for a forwarded access, which completes with an error response. (R491) -/
  | vatCplForwardTimeout (id : Nat)
  /-- Writing 1 to VAT_CLEAR.REPL_AGREE zeroes VAT_REPL_AGREE. (R490) -/
  | vatClearReplAgree (a : Access) (v : Word)
  /-- Writing 1 to VAT_CLEAR.PRIV_DENY zeroes VAT_PRIV_DENY. (R490) -/
  | vatClearPrivDeny (a : Access) (v : Word)
  /-- Writing 1 to VAT_CLEAR.APT_DROP zeroes VAT_APT_DROP. (R490) -/
  | vatClearAptDrop (a : Access) (v : Word)
  /-- A write of MTP_CTRL.SEQ_CMP_EN turns sequencer comparison off or on, writes SEQ_CMP_OFF and moves the bound-void flag. (R124) -/
  | seqCmpEnWrite (a : Access) (v : Word)
  /-- An OPEN written to MTP_WIN_CMD opens the selected closed window under the writer's tag, or is rejected and counted. (R500) -/
  | mtpWinCmdOpen (a : Access) (v : Word)
  /-- A CLOSE written to MTP_WIN_CMD closes the selected window at once and increments its generation. (R278) -/
  | mtpWinCmdClose (a : Access) (v : Word)
  /-- A write to a command slot's packet area stores a word and moves the slot to FILLING, or is dropped and counted while RUNNING. (R407) -/
  | aperturePacketWrite (a : Access) (v : Word)
  /-- The IDENT command returns the package identity, licence and scratchpad size. (R421) -/
  | ident (rq : Req)
  /-- AUTH_OPEN names a privilege and key and returns a session number and nonce. (R422) -/
  | authOpen (rq : Req) (priv keyId : Nat)
  /-- AUTH_PROVE checks the signature over the nonce and returns the session token. (R422) -/
  | authProve (rq : Req) (session : Nat)
  /-- The 10 s in which AUTH_PROVE must follow AUTH_OPEN expires. (R422) -/
  | authProveWindowExpiry (session : Nat)
  /-- AUTH_CLOSE ends the session. (R426) -/
  | authClose (rq : Req)
  /-- A session with no command for 1 h of reel time ends. (R426) -/
  | sessionExpiry (session : Nat)
  /-- VAT_HEALTH returns the health reports of both Vats and the recorder status. (R337) -/
  | vatHealth (rq : Req)
  /-- CTX_LOAD checks the refusals in order and loads a context with its check plan and fields. (R432) -/
  | ctxLoad (rq : Req) (f : LoadFields) (pr : PlanRead)
  /-- LAUNCH_AT sets the launch count and sends arms to the agents of the context's dies. (R75) -/
  | launchAt (rq : Req) (count : Nat)
  /-- CTX_KILL starts the teardown of the context. (R274) -/
  | ctxKill (rq : Req)
  /-- CTX_STATUS returns the context's state, incarnation, iteration, risk and newest snapshot. (R421) -/
  | ctxStatus (rq : Req)
  /-- RELAX_SET turns relaxed mode on or off for a partition. (R89) -/
  | relaxSet (rq : Req) (part enable : Nat)
  /-- RELAX_READ returns, and optionally clears, the partition's relaxed-choice sum. (R91) -/
  | relaxRead (rq : Req) (part clear : Nat)
  /-- FAULT_READ returns the counters of the sources named, applying the leak first. (R239) -/
  | faultRead (rq : Req) (first count : Nat)
  /-- FAULT_CFG sets the reactions, threshold and RECORD of a source class, with clamping. (R238) -/
  | faultCfg (rq : Req) (template each thresh n w record : Nat)
  /-- FAULT_ZERO zeroes and arms the counters named and writes COUNT_CLEAR. (R239) -/
  | faultZero (rq : Req) (first count : Nat)
  /-- FAULT_CLEAR clears a PIN latch, or refuses with ST_BUSY while its condition persists. (R242) -/
  | faultClear (rq : Req) (source : Nat)
  /-- FAULT_PENDING returns and removes sources from the pending list. (R235) -/
  | faultPending (rq : Req)
  /-- DECKLE_READ returns one segment of a die's deckle map slice. (R256) -/
  | deckleRead (rq : Req) (die segment : Nat)
  /-- CORE_RETURN returns an ESCAPED core to service as a spare. (R181) -/
  | coreReturn (rq : Req) (pcore : Nat)
  /-- RESET requests a reset of a core, cluster, agent, partition or package at its ladder rung. (R279) -/
  | reset (rq : Req) (domain target : Nat)
  /-- LADDER_CFG sets N and W of the partition's CORE_RUNG counter. (R283) -/
  | ladderCfg (rq : Req) (part n w : Nat)
  /-- PART_RELEASE ends a rung-2 partition hold. (R283) -/
  | partRelease (rq : Req) (part : Nat)
  /-- OOS_ENTER puts the package out of service. (R286) -/
  | oosEnter (rq : Req)
  /-- SERVICE_RESUME ends out of service, zeroes PKG_RESET COUNT and takes an uncounted package reset. (R287) -/
  | serviceResume (rq : Req)
  /-- WM_KEY_SET sets the context's watermark seed lanes, clamping each. (R137) -/
  | wmKeySet (rq : Req) (s0 s1 : Nat)
  /-- WM_READ returns entries of the watermark log. (R144) -/
  | wmRead (rq : Req) (first count : Nat)
  /-- WM_VERIFY starts the agents' rereads of constant tensors for comparison with expected records. (R146) -/
  | wmVerify (rq : Req)
  /-- The agents finish rereading the tensor shards and the Vat compares the records and replies. (R146) -/
  | wmVerifyReadDone (ctx : Nat) (recs : List DigestRec)
  /-- WM_LOCATE locates a divergence through layer, operator and core records and queues Beater runs. (R147) -/
  | wmLocate (rq : Req) (refs : List RefRec) (samePlan : Bool)
  /-- REPLICA_CFG sets group, replica count, index and interval K for a context. (R148) -/
  | replicaCfg (rq : Req) (group r index k : Nat)
  /-- REPLICA_EXPEL tears down an expelled replica's context and runs location. (R154) -/
  | replicaExpel (rq : Req) (group iter : Nat)
  /-- REPLICA_MEMBERS gives a surviving package its new replica count and index. (R154) -/
  | replicaMembers (rq : Req) (r index : Nat)
  /-- TICKET_READ returns the authoritative copy of a ticket entry. (R156) -/
  | ticketRead (rq : Req) (ticket : Nat)
  /-- SCREEN_RUN queues a targeted or diagnostic Beater run on a core. (R189) -/
  | screenRun (rq : Req) (pcore kind : Nat)
  /-- SCREEN_STATUS reports furnish serials, keys, ages and the greatest screen age. (R225) -/
  | screenStatus (rq : Req)
  /-- TORTY_WRITE places package bytes into the Vat's staging buffer. (R216) -/
  | tortyWrite (rq : Req) (chunk : Nat) (bytes : List Byte)
  /-- TORTY_COMMIT checks the staged package and starts its flash write or distribution. (R216) -/
  | tortyCommit (rq : Req) (kind len activation dieMask : Nat)
  /-- The package's write to its inactive flash half completes and its distribution starts. (R216) -/
  | tortyFlashWriteDone (kind : Nat)
  /-- REAM_AREA_SET reserves a ream area on a die. (R300) -/
  | reamAreaSet (rq : Req) (die off len : Nat)
  /-- SNAP_BEGIN checks a snapshot request and arms the hold at its target point. (R302) -/
  | snapBegin (rq : Req) (snap iter point : Nat) (package : Bool) (delta deadline : Nat) (m : ReamMap)
  /-- SNAP_RELEASE frees the shards of a snapshot. (R300) -/
  | snapRelease (rq : Req) (snap : Nat)
  /-- RESTORE checks the manifest and starts gathering the snapshot's shards. (R310) -/
  | restore (rq : Req) (snap delta : Nat) (man : Manifest) (crc : Nat) (g : GroupTable)
  /-- GROUP_SET replaces the context's group table when the epoch is higher and the context is held or not launched. (R309) -/
  | groupSet (rq : Req) (g : GroupTable)
  /-- RECLAIM notifies the fabric manager and awaits snapshots before tearing down contexts of the named partitions. (R312) -/
  | reclaim (rq : Req) (parts deadline : Nat)
  /-- SNAP_DEFAULT checks and sets the context's default ream map and data cursor base. (R295) -/
  | snapDefault (rq : Req) (package : Bool) (base : Nat) (m : ReamMap)
  /-- VAT_SWITCH makes the active Vat stop, gate itself and hand over with a gated DEPOSE. (R329) -/
  | vatSwitch (rq : Req)
  /-- VAT_STANDBY_RETRY releases a standby held OFFLINE after repeated self-test failure. (R338) -/
  | vatStandbyRetry (rq : Req)
  /-- FW_BEGIN checks an image header and erases the image region. (R343) -/
  | fwBegin (rq : Req) (header : List Byte)
  /-- FW_WRITE writes image bytes into flash. (R343) -/
  | fwWrite (rq : Req) (off : Nat) (bytes : List Byte)
  /-- FW_COMMIT reads back the image region and checks its payload digest. (R343) -/
  | fwCommit (rq : Req)
  /-- LINK_QUAL starts PRBS31 qualification of every die-to-die and optical lane. (R380) -/
  | linkQual (rq : Req)
  /-- Every lane has carried 10^11 bits; lanes are judged and failures recorded. (R380) -/
  | linkQualDone (lanes : List LaneCount)
  /-- LINK_QUAL_READ returns the qualification counts of lanes. (R380) -/
  | linkQualRead (rq : Req) (first count : Nat)
  /-- FELT_STATUS returns each ring's state and down links. (R421) -/
  | feltStatus (rq : Req)
  /-- CAL_SET writes a user calibration field, clamped, to take effect at the next sample. (R387) -/
  | calSet (rq : Req) (field scope : Nat) (value : Int)
  /-- SENSOR_SUBST marks a failed sensor as substituted. (R394) -/
  | sensorSubst (rq : Req) (die sensor : Nat)
  /-- ANALOG_LOOPBACK runs an intrusive loopback on an unused link or engine. (R402) -/
  | analogLoopback (rq : Req) (lane bits errors : Nat)
  /-- SENSOR_READ returns a die's temperatures, voltages, paces and flags. (R421) -/
  | sensorRead (rq : Req) (die : Nat)
  /-- LIFECYCLE_SET changes the life-cycle fuses as permitted and takes an uncounted package reset. (R428) -/
  | lifecycleSet (rq : Req) (state : Nat)
  /-- KEY_ENROLL adds an Operator or Tenant key. (R424) -/
  | keyEnroll (rq : Req) (cls keyId base count x y : Nat)
  /-- KEY_REVOKE removes a key and closes its sessions. (R424) -/
  | keyRevoke (rq : Req) (cls keyId : Nat)
  /-- LICENCE_INSTALL checks a licence and stores it to come into force at the next reset. (R430) -/
  | licenceInstall (rq : Req) (raw : List Byte)
  /-- LICENCE_READ returns the licence in force and any licence awaiting reset. (R421) -/
  | licenceRead (rq : Req)
  /-- WATCH_SET sets a watchpoint on a tap. (R435) -/
  | watchSet (rq : Req) (index lc base len kinds tagMatch action : Nat)
  /-- WATCH_CLEAR clears a watchpoint and returns its hit count. (R435) -/
  | watchClear (rq : Req) (lc index : Nat)
  /-- BRK_SET sets a breakpoint of a context. (R438) -/
  | brkSet (rq : Req) (kind scope arg arg2 : Nat)
  /-- BRK_CLEAR clears one or all breakpoints. (R438) -/
  | brkClear (rq : Req) (number : Nat)
  /-- BRK_RESUME ends a breakpoint hold, optionally re-holding after RUN steps. (R441) -/
  | brkResume (rq : Req) (run : Nat)
  /-- GSTOP initiates a global stop and completes with the smear. (R443) -/
  | gstop (rq : Req)
  /-- GSTOP_RELEASE resumes the package at an activation count or holds it until reset. (R447) -/
  | gstopRelease (rq : Req) (resume : Nat)
  /-- STOP_READ returns stop table entries. (R445) -/
  | stopRead (rq : Req) (first count : Nat)
  /-- DUMP scans out the named units into the Vat's dump buffer. (R448) -/
  | dump (rq : Req) (lock : Nat) (units : List DumpUnit)
  /-- DUMP_READ returns bytes of the dump buffer and optionally unlocks it. (R450) -/
  | dumpRead (rq : Req) (off unlock : Nat)
  /-- RING_READ returns a tap or agent event ring, masked for tenants, and optionally clears a frozen ring. (R456) -/
  | ringRead (rq : Req) (ring target first count clear : Nat)
  /-- COUNTER_READ returns, and optionally clears, busy, idle, hold and stall counters. (R451) -/
  | counterRead (rq : Req) (pcore count clear : Nat)
  /-- PROF_READ returns profile table entries of a die. (R453) -/
  | profRead (rq : Req) (die first count : Nat)
  /-- PROF_CLEAR clears profile entries. (R453) -/
  | profClear (rq : Req) (die : Nat)
  /-- REC_READ returns records of the roll or head area. (R464) -/
  | recRead (rq : Req) (area first count : Nat)
  /-- REC_CLEAR empties the roll or head area and writes REC_CLEAR. (R465) -/
  | recClear (rq : Req) (scope : Nat)
  /-- A command packet arrives by MCTP with an opcode not in Table 13.6, or with an invalid LENGTH, and completes with ST_BADOP or ST_BADLEN. (R419) -/
  | badopCommandPacket (path : Path) (opcode tag crc : Nat) (lenOk : Bool)
  /-- The MCTP control command Set Endpoint ID assigns the endpoint's EID. (R376) -/
  | setEndpointId (hub : Hub) (i3c : Bool) (eid setter : Nat)
  /-- The MCTP control command Get Endpoint ID returns the EID. (R376) -/
  | getEndpointId (hub : Hub) (i3c : Bool)
  /-- The MCTP control command Get MCTP Version Support returns versions. (R376) -/
  | getMctpVersionSupport (hub : Hub) (i3c : Bool) (msgType : Nat)
  /-- The MCTP control command Get Message Type Support returns message types. (R376) -/
  | getMessageTypeSupport (hub : Hub) (i3c : Bool)
  /-- The MCTP control command returns Skewald's enterprise number. (R376) -/
  | getVendorDefinedMessageSupport (hub : Hub) (i3c : Bool)
  /-- PLDM GetTID returns the terminus ID. (R377) -/
  | getTid (hub : Hub)
  /-- PLDM GetPLDMVersion returns the version. (R377) -/
  | getPldmVersion (hub : Hub) (pldmType : Nat)
  /-- PLDM GetPLDMTypes returns the supported types. (R377) -/
  | getPldmTypes (hub : Hub)
  /-- PLDM GetPLDMCommands returns the supported commands. (R377) -/
  | getPldmCommands (hub : Hub) (pldmType : Nat)
  /-- PLDM GetPDRRepositoryInfo returns repository information. (R377) -/
  | getPdrRepositoryInfo (hub : Hub)
  /-- PLDM GetPDR returns a sensor PDR. (R377) -/
  | getPdr (hub : Hub) (record : Nat)
  /-- PLDM GetSensorReading returns a numeric sensor reading. (R377) -/
  | getSensorReading (hub : Hub) (sensor : Nat)
  /-- PLDM GetStateSensorReadings returns state sensor readings. (R377) -/
  | getStateSensorReadings (hub : Hub) (sensor : Nat)
  /-- The I3C ENTDAA procedure assigns the hub's dynamic address. (R378) -/
  | entdaa (hub : Hub) (addr : Nat)
  /-- A message from the fabric manager waiting in the inbound queue enters Felt as FC2 when credit allows. (R374) -/
  | bridgeInboundAdmit (hub : Hub)
  /-- A release unit's first accumulation step begins; the tap reads its descriptor and opens a ticket. (R98) -/
  | releaseUnitOpen (core descIdx : Nat) (spec last : Bool)
  /-- A core completes an issue step; sequencers are compared and step counters advance. (R123) -/
  | issueStep (core : Nat) (kind : StepKind) (seqA seqB : List Nat) (pressPoint : Bool)
  /-- An addition, seed load or partial combination enters the accumulator and is checked for overflow and range. (R122) -/
  | accumulatorAdd (core ticket row col : Nat) (acc addend : Int) (scale : Option Int)
  /-- The Laid check of a unit completes after its last drain, comparing lhs and rhs per row. (R106) -/
  | laidCheckResolve (core ticket : Nat) (rows : List LaidRow) (csv : CsvData)
  /-- A rounded output group is checked against its envelope and format. (R120) -/
  | roundedGroupCheck (core ticket group expo : Nat) (mants accs : List Int) (place : GroupAt) (last : Bool)
  /-- After an expert block's last row the tap compares row count and tally with the dispatch header. (R110) -/
  | dispatchTallyCheck (core ticket : Nat) (taus : List Nat) (n tally : Nat)
  /-- A Duplex or gate partner's digest report arrives and the pair is compared by agent or Vat. (R116) -/
  | pairDigest (h : Hdr) (r : PairReport)
  /-- A Laid group member's lhs residues arrive and the group verdict is decided. (R111) -/
  | laidRes (h : Hdr) (r : LaidReport)
  /-- A local or remote access or semaphore signal touches scratchpad and is watched by the tap. (R125) -/
  | scratchpadAccess (core : Nat) (x : SpadAccess)
  /-- A long partial arrives at a join and its order and origin are checked. (R127) -/
  | joinPartialArrival (core ticket join fromLc : Nat) (acc value : Int) (poisoned : Bool)
  /-- An outbound transfer reaches the release gate and is passed or held by level. (R99) -/
  | releaseGateTransfer (core : Nat) (ticket : Option UnitRef) (dst : Dest) (words decision : List Nat) (last : Bool)
  /-- An invalid rail code appears in a tap's checker. (R130) -/
  | checkerRail (core : Nat)
  /-- A mesh transfer reaches its target and is accepted or discarded by generation, tag, window and epoch. (R165) -/
  | dataTransferArrival (x : Xfer)
  /-- A request or reply meets a raised fence and is absorbed with poisoned data or discarded. (R281) -/
  | meshAccessAtFence (die : Nat) (reply : Bool)
  /-- A die-to-die link codeword is corrected or is uncorrectable and poisons its words. (R245) -/
  | d2dCodewordError (die link : Nat) (corrected : Bool)
  /-- A router buffer read corrects a symbol or poisons the word. (R245) -/
  | routerBufferEcc (die : Nat) (cluster : Option Nat) (corrected : Bool)
  /-- A cluster buffer read corrects a symbol or poisons the word. (R245) -/
  | clusterBufferEcc (die cluster : Nat) (corrected : Bool)
  /-- An optical lane delivers an uncorrectable codeword whose words are poisoned. (R245) -/
  | uncorrCw (die engine lane : Nat)
  /-- The agent's duplicated state machine mismatches, taking BLK, INT and PIN. (R236) -/
  | agentInternal (die : Nat)
  /-- A parity error in a ticket entry or restart register triages every open unit. (R230) -/
  | ticketState (core : Nat)
  /-- A parity error in a step or screen counter clears its valid bit. (R230) -/
  | counterParity (core : Nat) (screen : Bool)
  /-- A pass or fail verdict for an AWAIT ticket arrives and the ticket moves. (R159) -/
  | verdict (h : Hdr) (ticket : Nat) (pass : Bool)
  /-- An FC0 fault report reaches the active Vat and triage starts or is queued. (R30) -/
  | faultReport (h : Hdr) (words : List Nat)
  /-- The same-core replay completes and its result is classed pass, same or different. (R168) -/
  | triageStageADone (core : Nat) (r : ReplayEnd) (digest : List Nat)
  /-- The same-core replay of stage A is judged not to have completed, for example because the core hangs, so stage S is skipped and stage B decides.
  (R176) -/
  | stageANotCompleted (core : Nat)
  /-- A tap's known-answer self-check completes and sets MTP_SELFTEST. (R128) -/
  | tapSelftestDone (core cases : Nat)
  /-- A fill to a spare or lender completes and digests are compared. (R260) -/
  | spareFillDone (lc : Nat) (sent received : List Nat)
  /-- The replay on the spare completes and the verdict is taken. (R169) -/
  | triageStageBDone (core : Nat) (r : ReplayEnd) (digest : List Nat)
  /-- The new carrier's replay of open tickets completes and the deckle map is rewritten and issue resumes. (R260) -/
  | replacementReplayDone (lc : Nat)
  /-- A planned or homecoming re-placement starts once its cluster is free of triage and a spare is free. (R261) -/
  | replacementStart (lc : Nat)
  /-- A planned re-placement has waited 10 min for its cluster spare and turns to a borrow. (R261) -/
  | plannedReplaceSpareTimeout (lc : Nat)
  /-- A spare becomes free and an unplaced logical core is placed there. (R266) -/
  | latePlacement (lc spare : Nat)
  /-- A pool block request or loan passes between an agent and the active Vat. (R157) -/
  | poolLoan (h : Hdr) (die : Nat) (block : Option Nat)
  /-- An agent's highest block has been wholly free for 1 ms and is returned. (R157) -/
  | poolBlockReturn (die : Nat)
  /-- The target's step count reaches a window start minus 16,384 and a lease is requested. (R194) -/
  | sizingWindowLeaseRequest (core start len : Nat)
  /-- A window starts without a lease grant and is forfeited. (R194) -/
  | sizingWindowForfeit (die : Nat)
  /-- The Beater parks its target and begins a slice. (R185) -/
  | sliceStart (die core : Nat)
  /-- A shift segment completes and the slice continues or stops at this boundary. (R185) -/
  | shiftSegmentDone (die misr : Nat)
  /-- A slice ends, the core is unparked and the MISR is compared with the signature. (R185) -/
  | sliceEnd (die : Nat) (retained : Bool)
  /-- A lease request reaches the active Vat, which grants or refuses it. (R195) -/
  | leaseReq (h : Hdr) (kind : Nat)
  /-- A lease grant reaches an agent. (R193) -/
  | leaseGrant (h : Hdr) (die kind expiry : Nat)
  /-- A returned lease reaches the Vat, which may grant the next start-up lease. (R193) -/
  | leaseReturn (h : Hdr)
  /-- A lease reaches its expiry count and stops counting as outstanding. (R193) -/
  | leaseExpiry (die : Nat)
  /-- 40 µs after a refusal the agent repeats its lease request. (R195) -/
  | leaseRetryTick (die : Nat)
  /-- 80 µs after becoming active the Vat may grant leases. (R197) -/
  | leaseBlackoutEnd
  /-- In relaxed mode a core has waited 2 µs on a handshake and the Beater uses the stall. (R90) -/
  | relaxedStallScan (core reason : Nat) (awaited : Option Nat)
  /-- A core's screen age reaches 12 min. (R200) -/
  | screenLate (core : Nat)
  /-- A core's screen age reaches 15 min and the bound-void flag is set. (R200) -/
  | screenOverdue (core : Nat)
  /-- The fleet furnish age reaches 720 operating hours. (R211) -/
  | fleetStale
  /-- DIST_OPEN reaches an agent, which answers READY or BUSY and copies the other kind into staging. (R209) -/
  | distOpen (h : Hdr) (die dist kind chunks : Nat) (hdr : List Byte)
  /-- The agent finishes copying the other kind's package into its staging bank. (R209) -/
  | stagingCopyDone (die : Nat)
  /-- Every 25 µs the Vat sends the next chunk or resend. (R218) -/
  | chunkPaceTick (kind : Nat)
  /-- A chunk reaches an agent and is stored or discarded. (R219) -/
  | chunk (die dist number : Nat) (bytes : List Byte) (crc : Nat)
  /-- DIST_POLL reaches an agent, which answers with its missing-chunk bitmap. (R218) -/
  | distPoll (h : Hdr) (die dist : Nat)
  /-- A missing-chunk bitmap reaches the Vat, which schedules resends or ends repair. (R218) -/
  | bitmap (h : Hdr) (dist : Nat) (words : List Nat)
  /-- An agent's payload hash check completes and it answers COMPLETE or HASH_FAIL. (R218) -/
  | payloadHashDone (die : Nat)
  /-- An agent's READY, BUSY, COMPLETE or HASH_FAIL reaches the Vat. (R218) -/
  | distAgentAnswer (h : Hdr) (dist answer : Nat)
  /-- DIST_ARM reaches an agent, which acknowledges and arms for count A. (R221) -/
  | distArm (h : Hdr) (die dist count : Nat)
  /-- A − 1 ms arrives with an acknowledgement missing and the Vat disarms and rearms. (R221) -/
  | distAckDeadline (kind : Nat)
  /-- DIST_DISARM reaches an agent, which drops its arm. (R221) -/
  | distDisarm (h : Hdr) (die dist : Nat)
  /-- An armed agent reaches A and activates its staging bank. (R222) -/
  | distActivation (die : Nat)
  /-- The agent reaches a point with no microcode sequence running and changes microcode banks. (R222) -/
  | ucodeBankSwitch (die : Nat)
  /-- 10 µs after a first-stage increment the agent forwards its counts over FC0. (R25) -/
  | firstStageForward (die : Nat)
  /-- A forwarded count batch reaches the Vat and is applied to the counter store. (R233) -/
  | countFwd (h : Hdr) (batches : List CountBatch)
  /-- A reaction command reaches an agent, which takes BLK, PIN or a threshold action. (R235) -/
  | react (h : Hdr) (die : Nat) (r : Reaction)
  /-- An NMI multicast reaches a partition's agents, which trap its control cores. (R235) -/
  | nmi (h : Hdr) (die source : Nat)
  /-- Once per 10 µs the Vat posts one interrupt covering newly pending sources. (R235) -/
  | intPostTick
  /-- The host bridge has not accepted a message interrupt within 100 µs; an event is recorded. (R45) -/
  | msiAcceptTimeout
  /-- A source's one-second notification period ends and its latest held record is notified. (R250) -/
  | notifySourceSecondEnd (source : Nat)
  /-- A management port gains link and queued notifications resume. (R250) -/
  | mgmtLinkUp (hub : Hub)
  /-- A management port loses link. (R250) -/
  | mgmtLinkDown (hub : Hub)
  /-- The tray controller reads a notification from the I3C queue. (R250) -/
  | i3cNotifyRead
  /-- A notification relayed over FC2 reaches the standby hub and leaves its port. (R250) -/
  | notifyRelay (h : Hdr) (number : Nat)
  /-- A tap's hang watchdog expires and the agent starts the hang walk. (R268) -/
  | hangWatchdogExpiry (core : Nat)
  /-- A hang walk step reaches the agent of the awaited core and follows its stall reason. (R269) -/
  | hangWalk (h : Hdr) (w : WalkStep)
  /-- A hung core's freeze has not taken effect after 10 µs and its router ports are fenced. (R271) -/
  | hangFreezeTimeout (core : Nat)
  /-- A tag revocation reaches an agent, which starts teardown of the context on its die. (R274) -/
  | tagRevoke (h : Hdr) (die tag : Nat)
  /-- The teardown drain ends at a barrier or after 50 µs, and tickets, completions and CTX_KILLED follow. (R274) -/
  | teardownDrainEnd (ctx discarded : Nat) (barrier : Bool)
  /-- The context's ranges and windows have been zeroed and the logical cores become free. (R274) -/
  | scrubDone (ctx : Nat)
  /-- A teardown exceeds its bound and cores that have not stopped are reset. (R283) -/
  | teardownOverrun (ctx : Nat) (cores : List Nat)
  /-- A fence, deckle or reset order reaches an agent and is executed. (R260) -/
  | fenceCmd (h : Hdr) (die : Nat) (o : FenceOrder)
  /-- A freeze order reaches an agent, which stops the named cores at their next step boundary. (R260) -/
  | freeze (h : Hdr) (die : Nat) (cores : List Nat) (reason : Nat)
  /-- A new press-group generation reaches the members' taps. (R171) -/
  | genSet (h : Hdr) (die group gen : Nat)
  /-- A core, cluster or partition reset completes, the fence is lowered and RESET_DONE is written. (R280) -/
  | domainResetDone (domain target : Nat)
  /-- A reset exceeds its completion bound and the action moves up the ladder. (R283) -/
  | resetOverrun (domain target : Nat)
  /-- A Couch agent reset completes, its banks are reloaded and its reel copy realigns. (R279) -/
  | agentResetDone (die : Nat)
  /-- Every 1 s the power-cycle request is repeated to the tray controller. (R285) -/
  | powerCycleReqRepeat
  /-- Every 10 ms the Vat recomputes each training context's risk score. (R292) -/
  | riskRecompute
  /-- A wait on another package's logical core exceeds XWAIT_T. (R291) -/
  | xpkgWait (core : Nat)
  /-- A logical core reaches the snapshot target point and is held. (R303) -/
  | snapPointReached (lc : Nat)
  /-- Every core is held and every ticket closed; manifest items are recorded and copy-out starts. (R303) -/
  | snapBarrierComplete (ctx : Nat) (poisoned : Bool)
  /-- A shard holder acknowledges; after the last, the hold ends and the manifest is completed. (R303) -/
  | snapHolderAck (ctx ream shard : Nat) (words : List Nat) (poisoned failed : Bool) (set : List TensorPart)
  /-- A snapshot's deadline passes before copy-out completed and it ends with DEADLINE. (R302) -/
  | snapDeadlineExpiry (ctx : Nat)
  /-- Manifest bulk arrives over FC3. (R305) -/
  | manifest (h : Hdr) (ctx : Nat) (man : Manifest)
  /-- Shards are gathered and rebuilt, the state is written and compared, and the restore completes. (R310) -/
  | restoreGatherDone (ctx : Nat) (remote : List ((Nat × Nat) × Option (List Nat))) (poisoned : List (Nat × Nat)) (set : List TensorPart)
  /-- No SNAP_BEGIN arrived within 1 s of RECLAIM and the default map is used. (R312) -/
  | reclaimAutoSnapTimeout (ctx : Nat)
  /-- The reclamation deadline passes and the context is torn down. (R312) -/
  | reclaimDeadline
  /-- A die watermark record reaches the Vat and is combined into operator and layer records. (R144) -/
  | wmDie (h : Hdr) (ctx layer oper : Nat) (r : DigestRec)
  /-- A die's replica partial reaches the Vat and the package record goes into the digest slot. (R150) -/
  | replPart (h : Hdr) (ctx iter : Nat) (r : DigestRec)
  /-- The last replica record is read from the slot and the verdict is decided. (R151) -/
  | replicaSlotRead (ctx : Nat) (recs : List DigestRec) (conflict : Bool)
  /-- The two-replica reread of replica-state tensors completes. (R152) -/
  | replicaRereadDone (ctx : Nat) (shards : List (Nat × DigestRec))
  /-- The other replica's reread record arrives and the two-replica verdict is decided. (R152) -/
  | replicaRereadExchange (ctx group iter : Nat) (other otherInPass : DigestRec) (tensors : List DigestRec) (otherFailing : Bool)
  /-- Every 5 µs the active Vat sends LIVE on both rings. (R321) -/
  | livePeriod
  /-- A LIVE reaches an agent or the standby, which records its reel count. (R321) -/
  | live (h : Hdr) (die : Nat)
  /-- Every 5 µs the standby sends STBY_LIVE with its health. (R321) -/
  | stbyLivePeriod
  /-- A STBY_LIVE reaches the active Vat. (R321) -/
  | stbyLive (h : Hdr) (r : Health)
  /-- A BRIDGED transaction reaches the hub station and enters the outbound queue or is refused with BRIDGE_FULL. (R374) -/
  | bridged (h : Hdr) (payload : List Nat)
  /-- An agent's reply reaches the Vat. (R364) -/
  | agentReply (h : Hdr) (id : Nat) (value : Word) (error : Bool)
  /-- A die's stop-table entries reach the Vat; after the last, GSTOP is written. (R443) -/
  | stopTable (h : Hdr) (words : List Nat)
  /-- Crash dump data from an agent reaches the Vat's dump buffer. (R448) -/
  | feltDump (h : Hdr) (off : Nat) (bytes : List Byte)
  /-- The standby has had no LIVE for 15 µs and starts a switch-over. (R322) -/
  | liveTimeout
  /-- The active Vat fails to service its watchdog or send LIVE and its hub agent gates it. (R322) -/
  | fwWatchdogExpiry
  /-- VAT_SEQ, TICKET_ECC, COUNTER_ECC or a hub BLK on the active Vat makes its hub agent gate it. (R322) -/
  | activeVatFault (trigger source : Nat)
  /-- VAT_FAILED reaches the standby, which starts a switch-over. (R322) -/
  | vatFailed (h : Hdr) (trigger : Nat)
  /-- 100 µs after a trigger with no standby the hub agent starts a package reset. (R323) -/
  | noStandbyReset
  /-- The old Vat's hub agent confirms gating and the standby sends a gated DEPOSE. (R325) -/
  | gateConfirm (h : Hdr)
  /-- No gating confirmation within 2 µs and the DEPOSE is sent ungated. (R325) -/
  | deposeGateTimeout
  /-- A DEPOSE reaches an agent, which acknowledges and raises its epoch or answers NAK. (R325) -/
  | depose (h : Hdr) (die : Nat) (gated : Bool)
  /-- ANNOUNCE reaches an agent, which returns what it holds for the Vat. (R324) -/
  | announce (h : Hdr) (die : Nat)
  /-- An agent's returned items reach the new Vat; after the last it issues its first command. (R324) -/
  | announceReturn (h : Hdr)
  /-- EPOCH_STALE reaches a Vat, which stops issuing and goes OFFLINE to reload. (R327) -/
  | epochStale (h : Hdr) (hub : Hub) (epoch : Nat)
  /-- No STBY_LIVE for 15 µs and the active Vat marks the standby OFFLINE and resets it. (R328) -/
  | stbyLiveTimeout
  /-- A mirrored change reaches the standby, which applies and acknowledges it. (R333) -/
  | mirror (h : Hdr) (seq : Nat)
  /-- A SYNCING standby finishes copying the mirrored image and becomes STANDBY. (R335) -/
  | mirrorSynced
  /-- A standby self-test item completes; a failure leaves STANDBY. (R336) -/
  | standbySelftestItemDone (item : Nat) (pass : Bool)
  /-- Vat A has finished loading, or 300 ms have passed, and Vat B starts its firmware load. (R340) -/
  | vatBLoadStart
  /-- A Vat's image load and verification complete. (R340) -/
  | fwLoadDone (hub : Hub) (readErrors : Nat)
  /-- A frame reaches a station that is not its only target and is forwarded or discarded by TTL. (R361) -/
  | transitFrame (die port : Nat) (flits : List Nat)
  /-- A spacer phase does not complete within 1 µs and is a link error. (R352) -/
  | feltSpacerTimeout (die port : Nat)
  /-- An ACK reaches a sender with its status. (R363) -/
  | feltAck (h : Hdr) (die txn status : Nat) (reelLo : Nat)
  /-- A CREDIT flit returns flit credits to a sender. (R359) -/
  | credit (die port data : Nat)
  /-- After 2 µs without a flit the station sends IDLE. (R354) -/
  | idle (die port : Nat)
  /-- A PROBE reaches a station, which echoes it. (R354) -/
  | probe (die port value : Nat)
  /-- An ECHO returns and after 1 ms of clean probes the join is broadcast. (R370) -/
  | echo (die port value : Nat)
  /-- Every 100 µs a down link sends a PROBE. (R370) -/
  | probePeriod (die port : Nat)
  /-- A LINK_DOWN reaches a neighbour, which declares the link down. (R368) -/
  | linkDown (die port : Nat)
  /-- A frame has waited 20 µs without credit and the link is declared down. (R360) -/
  | creditTimeout (die port : Nat)
  /-- No flit for 10 µs and the link is declared down. (R368) -/
  | linkSilenceTimeout (die port : Nat)
  /-- 50 µs pass without a transaction's next segment and it is discarded. (R356) -/
  | partialTxnTimeout (die src cls : Nat)
  /-- No ACK within the class's resend time and the transaction is resent, or TXN_FAILED after 8 times. (R363) -/
  | txnResendTimeout (die cls seq : Nat)
  /-- RING_BREAK reaches a station, which switches that ring's routing to LINE or SPLIT. (R369) -/
  | ringBreak (h : Hdr) (die ring link : Nat)
  /-- RING_JOIN reaches a station, which schedules restoration at its activation count. (R370) -/
  | ringJoin (h : Hdr) (die ring link count : Nat)
  /-- The join activation count arrives and routing returns to the previous ring state. (R370) -/
  | ringJoinActivation (die ring : Nat)
  /-- A station has had no LIVE on either ring for 100 µs and freezes its die. (R371) -/
  | stationIsolation (die : Nat)
  /-- The active Vat has heard nothing from a die for 100 µs and takes a PKG request. (R371) -/
  | stationIsolated (die : Nat)
  /-- STOP rises on a station's input; it latches the stop and propagates it. (R367) -/
  | stopRise (die : Nat)
  /-- A BARRIER reaches an agent, which starts watching its links' counts. (R366) -/
  | barrier (h : Hdr) (die tag : Nat) (gen : Option Nat)
  /-- An agent's link counts balance and queues empty, so it acknowledges the barrier. (R366) -/
  | barrierDrained (die seq : Nat)
  /-- A die-local command reaches an agent, whose microcode executes it and replies. (R364) -/
  | agentCmd (h : Hdr) (die : Nat) (op : AgentOp)
  /-- A lane completes a 10^11-bit in-service window and its error rate is judged. (R381) -/
  | laneBerWindowEnd (c : LaneCount) (optical : Bool)
  /-- A link's 4,096 bring-up probes complete and it passes or is declared down. (R379) -/
  | feltLinkQualDone (die port echoed errors : Nat)
  /-- An ALIGN_PROBE reaches a neighbour, which echoes it. (R66) -/
  | alignProbe (h : Hdr) (die value : Nat)
  /-- An echo returns and the aligned die validates round trips and sends ALIGN_SET. (R67) -/
  | alignEcho (die neighbour port : Nat) (rt1 rt2 rt3 : Nat)
  /-- ALIGN_SET reaches a neighbour, which sets its reel copy to the estimated count. (R66) -/
  | alignSet (h : Hdr) (die t halfRt edgeIn : Nat)
  /-- The root declares alignment complete. (R66) -/
  | alignDone
  /-- Every 1 ms an agent compares its reel copy with its upstream neighbour. (R70) -/
  | reelCompareTick (die : Nat)
  /-- A reel comparison reaches a die; a mismatch counts REEL_ALIGN and starts a correction. (R70) -/
  | reelCmp (h : Hdr) (die count : Nat)
  /-- The correct count reaches a held-ahead reel copy and it resumes counting. (R71) -/
  | reelCorrectionResume (die : Nat)
  /-- A die's multiplier loses lock and its copy is marked unaligned. (R72) -/
  | reelLockLoss (die : Nat)
  /-- Lock returns and the copy realigns forward to its neighbours. (R72) -/
  | reelLockReturn (die : Nat)
  /-- The substrate reference is lost at every die. (R72) -/
  | refLoss
  /-- A launch arm reaches an agent, which releases cores at once when the count has passed. (R75) -/
  | launchArm (h : Hdr) (die ctx count : Nat)
  /-- An armed agent's reel copy reaches the launch count and it releases the context's cores. (R75) -/
  | launchRelease (die ctx : Nat)
  /-- A hold reaches 0xFF_FFFF µs and the stall record pair is written and a new interval begins. (R86) -/
  | stallIntervalSaturate (region : Nat)
  /-- A temperature sample is taken and NEAR, limits, holds, windows and screening permission are decided. (R390) -/
  | tempSample (die sensor raw : Nat)
  /-- A voltage sample is taken and VMON, holds and windows are decided. (R395) -/
  | vmonSample (die monitor raw nominal : Nat)
  /-- A pace sample is taken and the PACE_LOW flag set or cleared. (R396) -/
  | paceSample (die monitor raw : Nat)
  /-- Every 10 ms each sensor is checked against the reference junction. (R392) -/
  | sensorRefCheck (die sensor : Nat) (value ref : Int)
  /-- An in-service analogue BIST slice runs one item. (R402) -/
  | analogBistSlice (die item index : Nat) (measured second : Int) (signal : Bool)
  /-- A control core reaches a breakpoint address and a breakpoint hold starts. (R438) -/
  | brkAddrTrap (die addr : Nat)
  /-- The breakpoint drain ends and the hold is in force with BRK_HIT written. (R439) -/
  | brkDrainEnd (ctx : Nat)
  /-- A core held more than 1 s at a breakpoint is screened back to back. (R440) -/
  | brkHoldScreen (core : Nat)
  /-- The IEEE 1149.1 stop instruction initiates a global stop. (R442) -/
  | gstopJtag (hub : Hub)
  /-- A global stop release reaches a station, which schedules resume at A. (R447) -/
  | gstopRel (h : Hdr) (die count : Nat)
  /-- The release count arrives; routers, then cores, resume and stop latches clear. (R447) -/
  | gstopReleaseActivation
  /-- A unit's scan returns its marker and its image is stored. (R449) -/
  | dumpUnitDone (markerOk : Bool) (image : List Byte)
  /-- A unit's scan misses its timeout and the unit is marked UNREADABLE. (R449) -/
  | dumpUnitTimeout
  /-- A record's MRAM write is read back; a failure is retried or counted at MRAM_WRITE. (R462) -/
  | recordWriteDone (hub : Hub) (ok retryOk : Bool)
  /-- Every 60 s the operating hours are written to MRAM on both hubs. (R472) -/
  | hoursPersistTick
  /-- The tray controller releases SYS_RST_N at T0 and bring-up starts. (R470) -/
  | sysRstNRelease
  /-- SYS_RST_N is asserted with supplies held and the hours are written in an orderly shutdown. (R472) -/
  | sysRstNAssert
  /-- Power is lost without an orderly shutdown. (R473) -/
  | powerLoss
  /-- A Vat's bring-up self-BIST completes; a failure makes it OFFLINE. (R476) -/
  | vatSelfBistDone (hub : Hub) (logicOk memoryOk : Bool) (test : Nat)
  /-- A Couch agent's bring-up self-BIST completes; a failure makes its die unusable. (R476) -/
  | agentSelfBistDone (die : Nat) (ok calOk : Bool) (test : Nat)
  /-- 60 s after T0 a die's unscreened good cores are placed as though they had passed. (R481) -/
  | startupScreenTimeout
  /-- Step 6 has ended and the deckle map and router home tables are built. (R478) -/
  | deckleMapBuild
  /-- A BRIDGED message from the fabric manager arrives at a management port and enters its inbound queue of 64, or is dropped and counted when the
  queue is full. (R374) -/
  | inboundBridgedMessage (hub : Hub) (i3c : Bool) (payload : List Nat)
  /-- The host bridge accepts a posted message interrupt, which ends its 100 µs wait and, for the ready vector, sets VAT_INT_PEND.READY_POSTED. (R45) -/
  | messageInterruptAccepted
  /-- A compute die is assigned to a partition other than partition 0, or returned to partition 0. (R504) -/
  | partitionAssignment (die part : Nat)
  /-- A PLDM command outside the supported set arrives and completes with ERROR_UNSUPPORTED_PLDM_CMD. (R377) -/
  | unsupportedPldmCommand (hub : Hub) (pldmType command : Nat)
deriving DecidableEq, Repr, Inhabited

end Sys2Proof
end

