-- ==== Sys2Proof/Decode.lean ====
section
/-! DEFINITION. The command that a word spells by the opcode table's bits. No row of the table gives bits, so no word spells one. -/

namespace Sys2Proof

/-- spec/opcode_table.json gives none of its rows an encoding in bits (98): every word is refused. -/
def decodeTableWord (_nbits _w : Nat) : Option Instr := none

end Sys2Proof
end

