-- ==== Sys2Proof/Config.lean ====
section
/-! DEFINITION. What the implementation fixes and the spec leaves open. The opaque constants are free values: no proof can see them. -/

namespace Sys2Proof.Config

/-- The nonce of an AUTH_OPEN (R422: from the hub's entropy source), by the count of free values drawn. A free value. -/
opaque nonce : Nat → Nat
/-- The 48-bit token of an AUTH_PROVE (R422), by the count of free values drawn. A free value. -/
opaque token : Nat → Nat
/-- Which of the unused session numbers an AUTH_OPEN takes (R422 gives no rule), by the count of free values drawn. A free value. -/
opaque sessionPick : Nat → Nat
/-- The 16-bit identifier of a distribution (Table 6.10 gives no rule). A free value. -/
opaque distributionId : Nat → Nat
/-- The 16-bit identifier of a dump (Table 14.12 gives no rule). A free value. -/
opaque dumpId : Nat → Nat
/-- Counts that a die's local oscillator makes while the reference makes 2^20 (R72): constant from one loss of lock to the return of lock, by die and
    the count at the loss (log 94). A free value. -/
opaque oscillatorRate : Nat → Nat → Nat
/-- The address of a dynamic-address procedure answered by the hub (R378) is the controller's; the hub's provisioned ID above bits [31:0]. A free value. -/
opaque provisionedIdHigh : Nat → Nat
/-- Bytes of an MCTP control reply whose content the manual leaves to DMTF DSP0236 (R376), by command. A free value. -/
opaque mctpReply : Nat → List Nat
/-- Bytes of a PLDM reply whose content the manual leaves to DMTF's PLDM specifications (R377), by command. A free value. -/
opaque pldmReply : Nat → Nat → List Nat
/-- What a gate decision that takes effect does to a speculative unit (R119, R174): 0 nothing, 1 selects it, 2 cancels it, by the count of free
    values drawn. A free value (log 23). -/
opaque gateDecision : Nat → Nat
/-- A parameter of the event records 0x0401 and 0x0402 that the manual does not lay out, by the count of free values drawn. A free value (log 24). -/
opaque recordParam : Nat → Nat
/-- SHA-384 of bytes (R212: FIPS 180-4, which the manual names and does not restate). Uninterpreted (log 112). -/
opaque sha384 : List Nat → Nat
/-- Whether an ECDSA P-384 signature (r, s) of a digest verifies under the public key (x, y) (R212, R422: FIPS 186-5). Uninterpreted (log 112). -/
opaque ecdsaVerifies (x y digest r s : Nat) : Bool
/-- The public key in mask ROM of a Vendor key identifier (R424: its value is not given). A free value (log 112). -/
opaque vendorKey (keyId : Nat) : Nat × Nat
/-- The loop slice's signature in the microcode of a serial (R203, R208: its place in the package is not given). A free value (log 113). -/
opaque loopSignature : Nat → Nat
/-- A voltage reading in 0.5 mV from a conversion result and the monitor's VGAIN (Table 12.2 names the field and gives no formula). A free value
    (log 116). -/
opaque voltReading (raw vgain : Nat) : Nat
/-- A pace reading in M steps/s from a conversion result and the monitor's PSCALE (Table 12.2). A free value (log 116). -/
opaque paceReading (raw pscale : Nat) : Nat
/-- The flits in the buffer of a die-to-die link of the data mesh, by link ID and the count of free values drawn: no command moves a flit of the mesh
    (Table 14.4 step 4). A free value (log 118). -/
opaque linkFlits (link n : Nat) : Nat
/-- The value of a PROBE flit (R370 gives no rule), by the count of free values drawn. A free value. -/
opaque probeValue : Nat → Nat
/-- Skewald's IANA enterprise number (R376). A free value. -/
opaque enterpriseNumber : Nat

/-- Scratchpad bytes of each core: the capability register's reset value (Table 16.1, VAT_CAP_SPAD). -/
def scratchpadBytes : Nat := 0x200000
/-- Silicon step B1 (Table 16.1, VAT_ID). -/
def siliconStep : Nat := 0x0B01

end Sys2Proof.Config
end

