-- ==== Sys2Proof/Machine/State.lean ====
section
/-! DEFINITION. The KRM's state as plain data, and State.reset. Each field's comment gives its width, the file and rule that name it and its
reset value; "n/a" as a width marks a list or a field of the model's own. -/

namespace Sys2Proof.Machine

/-- Reasons a command cannot be an event of this machine. -/
inductive Fault where
  /-- An event names a die, core, logical core, ticket or other part outside the range of R6 (00): no such part exists. Raised by the event
      commands that name a part. Safe: no part does anything. -/
  | invalidIdentifier
deriving DecidableEq, Repr

/-- Reasons a command has no meaning. -/
inductive Refusal where
  /-- The command has no meaning in the model yet. Raised only by exec's arms that name it. Safe: nothing is claimed of it. -/
  | notModelled (mnemonic : String)
deriving DecidableEq, Repr

/-- Vat roles, in the order of Table 10.1 (R316). -/
inductive Role where
  | active
  | standby
  | syncing
  | offline
  | romMinimal
deriving DecidableEq, Repr, Inhabited

/-- The part of bring-up that has been reached (Table 15.1): held in SYS_RST_N, a step number 1 to 8, ready, or stopped without readiness. -/
inductive Boot where
  | held
  | step (n : Nat)
  | ready
  | stopped
deriving DecidableEq, Repr, Inhabited

/-- One event record (Table 14.11) with its record sequence number (R460). `severity` is FLAGS[2:0]. -/
structure Rec where
  seq : Nat
  code : Nat
  severity : Nat
  unaligned : Bool
  staged : Bool
  single : Bool
  source : Nat
  pcycle : Nat
  hours : Nat
  reel : Nat
  p1 : Nat
  p2 : Nat
  p3 : Nat
deriving DecidableEq, Repr, Inhabited

/-- One clamp-report entry (R420): field index, width, value asked for, value used. -/
structure Clamp where
  field : Nat
  width : Nat
  asked : Nat
  used : Nat
deriving DecidableEq, Repr, Inhabited

/-- A command reply (R414): opcode, tag, status, clamps, result data as (width in bits, value) fields, reel count [31:0] at completion. -/
structure Reply where
  opcode : Nat
  tag : Nat
  status : Nat
  clamps : List Clamp
  data : List (Nat × Nat)
  reel : Nat
deriving DecidableEq, Repr, Inhabited

/-- A Felt transaction as sent (Table 11.4, Table 11.6): source die, type, mode 0 unicast, 1 broadcast, 2 partition multicast, destination
    die or partition, SEQ, payload words. -/
structure Txn where
  src : Nat
  type : Nat
  mode : Nat
  dst : Nat
  seq : Nat
  words : List Nat
  /-- The ring that it must travel (R67), none when either serves. -/
  ring : Option Nat := none
deriving DecidableEq, Repr, Inhabited

/-- What the KRM does at its boundary or sends over Felt. -/
inductive Out where
  /-- A register read completes with a value (R15). -/
  | readValue (v : Word)
  /-- A register write completes (R15). -/
  | writeDone
  /-- An access completes with an error response (R13, R487). -/
  | errorResponse
  /-- A Felt transaction leaves a station (R364). -/
  | felt (t : Txn)
  /-- A Felt transaction is answered by ACK: station, source answered, TYPE, SEQ, status, second word of a DEPOSE acknowledgement (R364). -/
  | ack (die : Nat) (dst : Nat) (type : Nat) (seq : Nat) (status : Nat) (extra : Nat)
  /-- A link control flit (Table 11.3): station, port (ring * 2, plus 1 for the down port), code, data. -/
  | flit (die port code data : Nat)
  /-- The last flit of a frame leaves a station, one that it forwards or its own: station, ring, class, words (R355, R358, R361, R362). -/
  | frame (die ring cls : Nat) (words : List Nat)
  /-- STOP is asserted on every outgoing link of a station (R367). -/
  | stopWave (die : Nat)
  /-- A message interrupt is posted: vector 0 fault, 1 command, 2 ready; address; data (R492). -/
  | msi (vector addr data : Nat)
  /-- A notification leaves: 0 management port of hub A, 1 of hub B, 2 I3C queue; sequence number; held count; record (R250). -/
  | notify (path number held : Nat) (r : Rec)
  /-- A command reply is sent over MCTP (R409). -/
  | reply (p : Path) (r : Reply)
  /-- An MCTP control reply: hub, whether on I3C, command, completion code, data (R376). -/
  | mctp (hub : Hub) (i3c : Bool) (command code : Nat) (data : List Nat)
  /-- A PLDM reply: hub, type, command, completion code, data (R377). -/
  | pldm (hub : Hub) (type command code : Nat) (data : List Nat)
  /-- A vendor message of Table 11.9 leaves: sub-type, content. -/
  | vendor (subtype : Nat) (data : List Nat)
  /-- SNAP_DONE with its manifest goes to the fabric manager (Table 9.5 step 7). -/
  | snapDone (m : Manifest)
  /-- A non-maskable trap to a die's control cores, carrying the source (R235). -/
  | trap (die source : Nat)
  /-- A host completion is posted with the full tag of its context and a status: 0 done, 1 POISONED, 2 KILLED (R273, Table 5.10). -/
  | completion (tag status : Nat)
  /-- Host reads of the scratchpad of a tag's context complete with an error and poisoned data (Table 8.8 step 5). -/
  | hostReadsFailed (tag : Nat)
  /-- Poison is written into the data that a unit of a failing core or a killed context would have produced for its consumers: core, ticket (R245,
      Table 1.2). -/
  | poisonData (core ticket : Nat)
  /-- A cluster's buffers are zeroed: die, cluster (R280). -/
  | clusterZeroed (die cluster : Nat)
  /-- A replica barrier is signalled (0) or completed with REPLICA_ABORT (1) (Table 4.5). -/
  | barrier (ctx status : Nat)
  /-- The package replica record goes into the collective's digest slot (Table 4.5 step 2). -/
  | digestSlot (ctx : Nat) (r : DigestRec)
  /-- A mesh access is completed at a fence with an error completion and poisoned data (R281). -/
  | poisonedCompletion (die : Nat)
  /-- A tap hands residues or digests of a unit to its die's agent (R111, R116): core, 0 Laid residues or 1 pair digests, words. -/
  | report (core kind : Nat) (words : List Nat)
  /-- A held transfer of a core leaves its release gate, or is discarded there (R99, R174). -/
  | gate (core : Nat) (ticket : Option Nat) (released : Bool)
  /-- Words are returned poisoned to a reader (R126, R245). -/
  | poisonWord (core : Nat)
  /-- Words carried or held by a part of a die become poisoned (R245): 0 die-to-die link, 1 router buffer, 2 cluster buffer, 3 optical lane. -/
  | poisonPart (die kind index : Nat)
  /-- The agent sets a core's issue to a point of its logical core's schedule: core, logical core, the step count of that point (Table 5.6 step 4). -/
  | reissue (core lc step : Nat)
  /-- The core is ordered to replay from a logical step count up to another (R168, R169, Table 8.3). -/
  | replay (core lc fromStep toStep : Nat)
  /-- A fill from one core's scratchpad to another's is ordered; `zeros` when it fills from zeros (R260, R266). -/
  | fill (src dst : Nat) (zeros : Bool)
  /-- A scratchpad or cluster-buffer range is zeroed: core (Table 8.8 step 7, R280). -/
  | zeroed (core : Nat)
  /-- A snapshot-set shard is written to the scratchpads of a context's logical cores at a restore: context, ream, shard index, words (Table 9.7 step 4). -/
  | writeBack (ctx ream shard : Nat) (words : List Nat)
  /-- A core is reset (Table 8.10). -/
  | coreReset (core : Nat)
  /-- Patterns are shifted: the die's Beater starts shifting a slice on a core (R185). -/
  | shift (die core slice : Nat)
  /-- A chunk of a distribution leaves: distribution, chunk number, target die, or none when broadcast, the chunk's bytes and its CRC-32C (R219). -/
  | chunk (dist number : Nat) (target : Option Nat) (bytes : List Byte) (crc : Nat)
  /-- The active Vat reloads an agent's active bank of a kind from flash by unicast: the package's bytes (R224). -/
  | reload (die kind : Nat) (package : List Host.Cell)
  /-- PRBS31 qualification of every lane starts (R380). -/
  | qualify
  /-- A number of PROBE flits leave by each link of a station (R379). -/
  | probes (die count : Nat)
  /-- The unit scan of a dump starts: kind, unit ID (R448). -/
  | scan (kind unit : Nat)
deriving DecidableEq, Repr

/-- One command slot of the aperture (R406, R407). -/
structure ApSlot where
  /-- SLOT.state: 2 bits; 13_commands R407; reset 0 IDLE (1 FILLING, 2 RUNNING, 3 DONE). -/
  state : Nat := 0
  /-- SLOT.packet: 512 bytes as 128 words; 13_commands R406; reset DESIGN CHOICE 0 (log 3). -/
  packet : Table Word := []
  /-- SLOT.reply: 512 bytes; 13_commands R406, R414; reset none (reads all zero). -/
  reply : Option Reply := none
  /-- SLOT.crc: 32 bits, CRC-32C of the packet that produced the reply; 13_commands R416; reset DESIGN CHOICE 0 (log 3). -/
  crc : Nat := 0
deriving DecidableEq, Repr, Inhabited

/-- A command that runs (R410). -/
structure Run where
  path : Path
  tag : Nat
  crc : Nat
  opcode : Nat
  ctx : Nat
  start : Nat
  clamps : List Clamp
  /-- What the command is about beside its context (a kind, a domain target, a die), 0 otherwise. -/
  arg : Nat
deriving DecidableEq, Repr, Inhabited

/-- A retained MCTP reply (R416). -/
structure Retained where
  path : Path
  tag : Nat
  crc : Nat
  reply : Reply
deriving DecidableEq, Repr, Inhabited

/-- A session (R422, R426). -/
structure Session where
  /-- SESSION.priv: 2 bits; 13_commands R422; reset n/a (no session). -/
  priv : Priv := .none
  /-- SESSION.keyId: 32 bits; 13_commands R422; reset n/a. -/
  keyId : Nat := 0
  /-- SESSION.path: n/a; 13_commands R422; reset n/a. -/
  path : Path := .aperture 0
  /-- SESSION.nonce: 384 bits; 13_commands R422; reset n/a. -/
  nonce : Nat := 0
  /-- SESSION.token: 48 bits, none until proved; 13_commands R422; reset n/a. -/
  token : Option Nat := none
  /-- SESSION.opened: 64-bit reel count; 13_commands R422; reset n/a. -/
  opened : Nat := 0
  /-- SESSION.last: 64-bit reel count of the last command; 13_commands R426; reset n/a. -/
  last : Nat := 0
  /-- SESSION.signed: 32-bit signed-command count; 13_commands R425; reset 0 at opening. -/
  signed : Nat := 0
deriving DecidableEq, Repr, Inhabited

/-- An enrolled key (R424). -/
structure Key where
  /-- KEY.cls: 1 Operator, 2 Tenant; 13_commands R424; reset n/a. -/
  cls : Nat
  /-- KEY.id: 32 bits; 13_commands R424; reset n/a. -/
  id : Nat
  /-- KEY.base: 16 bits, context base; 13_commands R424; reset n/a. -/
  base : Nat
  /-- KEY.count: 16 bits, context count; 13_commands R424; reset n/a. -/
  count : Nat
  /-- KEY.x: 384 bits; 13_commands R424; reset n/a. -/
  x : Nat
  /-- KEY.y: 384 bits; 13_commands R424; reset n/a. -/
  y : Nat
deriving DecidableEq, Repr, Inhabited

/-- One fault counter (R232). -/
structure Counter where
  /-- COUNTER.count: 16 bits; 07_fault_collection R232; reset 0. -/
  count : Nat := 0
  /-- COUNTER.total: 32 bits; 07_fault_collection R232; reset 0. -/
  total : Nat := 0
  /-- COUNTER.cross: 8 bits; 07_fault_collection R232; reset 0. -/
  cross : Nat := 0
  /-- COUNTER.armed: 1 bit; 07_fault_collection R232; reset 1. -/
  armed : Bool := true
  /-- COUNTER.ref: reel time in us of the leak; 07_fault_collection R234; reset 0. -/
  ref : Nat := 0
deriving DecidableEq, Repr, Inhabited

/-- The configuration of a source class (R238). Reactions: [4] INT, [3] NMI, [2] BLK, [1] PKG, [0] PIN. -/
structure ClassCfg where
  /-- CLASS.each: 5 bits; 07_fault_collection R230, R238; reset Tables 7.2-7.5. -/
  each : Nat
  /-- CLASS.thresh: 5 bits; 07_fault_collection R230, R238; reset Tables 7.2-7.5. -/
  thresh : Nat
  /-- CLASS.n: 12 bits; 07_fault_collection R238; reset Tables 7.2-7.5. -/
  n : Nat
  /-- CLASS.w: 32 bits, ms; 07_fault_collection R238; reset Tables 7.2-7.5. -/
  w : Nat
  /-- CLASS.record: 1 bit; 07_fault_collection R238, R249; reset off where both each-event cells are dashes, else on. -/
  record : Bool
deriving DecidableEq, Repr, Inhabited

/-- The state of a ticket entry (Table 5.1 STATE). -/
inductive TState where
  | free
  | opened
  | await
  | triage
deriving DecidableEq, Repr, Inhabited

/-- A ticket entry (Table 5.1). -/
structure Ticket where
  /-- TICKET.state: 3 bits; 05 R156; reset 0 FREE. -/
  state : TState := .free
  /-- TICKET.last: 3 bits; 05 R156; reset 0 none. -/
  last : Nat := 0
  /-- TICKET.level: 2 bits; 05 R156; reset 0. -/
  level : Nat := 0
  /-- TICKET.remote: 1 bit; 05 R156; reset 0. -/
  remote : Bool := false
  /-- TICKET.cross: 1 bit; 05 R156; reset 0. -/
  cross : Bool := false
  /-- TICKET.primary: 5 bits; 05 R156; reset 0. -/
  primary : Nat := 0
  /-- TICKET.spec: 1 bit; 05 R156; reset 0. -/
  spec : Bool := false
  /-- TICKET.nreplay: 4 bits; 05 R156; reset 0. -/
  nreplay : Nat := 0
  /-- TICKET.ctx: 12 bits; 05 R156; reset 0. -/
  ctx : Nat := 0
  /-- TICKET.layer: 16 bits; 05 R156; reset 0. -/
  layer : Nat := 0
  /-- TICKET.oper: 16 bits; 05 R156; reset 0. -/
  oper : Nat := 0
  /-- TICKET.rseq: 32 bits; 05 R156; reset 0. -/
  rseq : Nat := 0
  /-- TICKET.lc: 14 bits; 05 R156; reset 0. -/
  lc : Nat := 0
  /-- TICKET.pool: 18 bits; 05 R156; reset 0. -/
  pool : Nat := 0
  /-- TICKET.rstep: 64 bits; 05 R156; reset 0. -/
  rstep : Nat := 0
  /-- TICKET.pgrp: 16 bits; 05 R156; reset 0xFFFF. -/
  pgrp : Nat := 0xFFFF
  /-- TICKET.gen: 8 bits; 05 R156; reset 0. -/
  gen : Nat := 0
  /-- TICKET.descIdx: index of the unit's check descriptor, part of the broke hold (R98, R166); 03 R95; reset 0. -/
  descIdx : Nat := 0
  /-- TICKET.checks: 6 bits, parts of the unit's checks that are complete (1 rounded groups, 2 Laid, 4 tally, 8 pair or group verdict, 16 gate
      verdict, 32 speculation decided); 05 Table 5.2; reset 0. -/
  checks : Nat := 0
  /-- TICKET.digest: the digests or residues that the unit's tap reported to a comparison (R111, R116); 03 R116; reset none. -/
  digest : List Nat := []
  /-- TICKET.codes: 24 bits, detections of the unit so far (R130); 03 R130; reset 0. -/
  codes : Nat := 0
  /-- TICKET.mark: the unit's digest contribution so far, D0, D1 and COUNT; 04 R142; reset 0. -/
  mark : Nat × Nat × Nat := (0, 0, 0)
  /-- TICKET.da: DA so far and the next accumulator's ordinal; 03 R116; reset 0. -/
  da : Nat × Nat := (0, 0)
  /-- TICKET.dr: DR so far and the next outbound word's ordinal; 03 R116; reset 0. -/
  dr : Nat × Nat := (0, 0)
  /-- TICKET.ends: 2 bits, the unit's last rounded group (1) and its last outbound transfer (2) have passed the tap; 03 R116; reset 0. -/
  ends : Nat := 0
  /-- TICKET.pass: the operator's execution that the unit belongs to, from 0 (Table 4.2 PASS); 04 R142; reset 0. -/
  pass : Nat := 0
  /-- TICKET.sent: transfers of the unit that have left the gate; 05 Table 5.10; reset 0. -/
  sent : Nat := 0
  /-- TICKET.skip: transfers of the unit's replay still to come that have left already; 05 Table 5.10; reset 0. -/
  skip : Nat := 0
  /-- TICKET.restart: the sequencer state at the unit's restart point, part of its broke hold (R166); 05 R166; reset none. -/
  restart : List Nat := []
  /-- TICKET.seeds: the incoming long partials that seed the unit, part of its broke hold (R166); 05 R166; reset none. -/
  seeds : List Int := []
  /-- TICKET.replaying: the unit is being executed again under R162; 05 R162; reset 0. -/
  replaying : Bool := false
  /-- TICKET.start: the steps of the plan that its logical core had executed when the unit was opened, replays left out; 05 R164; reset 0. -/
  start : Nat := 0
  /-- TICKET.doneAt: its logical core's step count when its last rounded group was checked, from which its latency counts; 03 R101; reset none. -/
  doneAt : Option Nat := none
  /-- TICKET.prior: release sequence number and outcome of the unit that held the ticket before; 03 R102; reset 0, 0. -/
  prior : Nat × Nat := (0, 0)
  /-- TICKET.rows: a dispatch whose tally waits for its gate's replay: tokens of the rows, count, tally; 03 Table 3.9; reset none. -/
  rows : Option (List Nat × Nat × Nat) := none
  /-- TICKET.agreed: comparisons with other cores that the unit has passed, as part of its checks and its own digests; 05 R168; reset none. -/
  agreed : List (Nat × List Nat) := []
  /-- TICKET.origCodes: the detections of the original computation, once a replay has been ordered; 05 R175; reset 0. -/
  origCodes : Nat := 0
  /-- TICKET.replayCodes: the detections of the replay under way; 05 R175; reset 0. -/
  replayCodes : Nat := 0
  /-- TICKET.released: a verdict has released the result, which waits for the decision that governs it; 05 R174; reset 0. -/
  released : Bool := false
deriving DecidableEq, Repr, Inhabited

/-- A Felt pair comparison that waits for the other partner's digest (R116). -/
structure PairWait where
  since : Nat
  r : PairReport
deriving DecidableEq, Repr, Inhabited

/-- A Laid group's residues collected so far (R111). -/
structure GroupWait where
  since : Nat
  members : List LaidReport
deriving DecidableEq, Repr, Inhabited

/-- A breakpoint (R438). -/
structure Brk where
  /-- BRK.number: 8 bits; 14 R438; reset n/a. -/
  number : Nat
  /-- BRK.kind: 8 bits, Table 14.2; 14 R438; reset n/a. -/
  kind : Nat
  /-- BRK.scope: 0 CONTEXT, 1 PARTITION; 14 R438; reset n/a. -/
  scope : Nat
  /-- BRK.arg: 64 bits; 14 Table 14.2; reset n/a. -/
  arg : Nat
  /-- BRK.arg2: 64 bits; 14 Table 14.2; reset n/a. -/
  arg2 : Nat
deriving DecidableEq, Repr, Inhabited

/-- A breakpoint hold of a context (R439). -/
structure BrkHold where
  /-- BRKHOLD.kind: 4 bits; 14 R439; reset n/a. -/
  kind : Nat
  /-- BRKHOLD.scope: 4 bits; 14 R439; reset n/a. -/
  scope : Nat
  /-- BRKHOLD.number: 8 bits; 14 R439; reset n/a. -/
  number : Nat
  /-- BRKHOLD.start: reel count of the trigger; 14 R439; reset n/a. -/
  start : Nat
  /-- BRKHOLD.inForce: the drain has ended; 14 Table 14.3; reset n/a. -/
  inForce : Bool
  /-- BRKHOLD.resume: a BRK_RESUME that waits for the drain's end (Table 14.14); 14 R469; reset n/a. -/
  resume : Option Nat
  /-- BRKHOLD.after: the hold takes effect at the release of a global stop (Table 14.14); 14 R469; reset n/a. -/
  after : Bool
deriving DecidableEq, Repr, Inhabited

/-- A snapshot in progress on the package (R303). `step` is the step of Table 9.5 it has reached. -/
structure Snap where
  id : Nat
  iter : Nat
  point : Nat
  package : Bool
  delta : Nat
  deadline : Nat
  step : Nat
  held : List Nat
  barrierReel : Nat
  reams : List Ream
  acked : List (Nat × Nat)
  /-- Shards whose holder failed during copy-out, as (ream, shard index). -/
  lost : List (Nat × Nat)
  man : Option Manifest
  /-- The 64-bit words of the data shards copied out so far, by (ream, shard index), which the P and Q holders fold; 09 R303 step 5; reset n/a. -/
  data : List ((Nat × Nat) × List Nat)
  /-- The state digest that the taps have folded so far: D0, D1, COUNT; 09 R304; reset n/a. -/
  state : Nat × Nat × Nat
deriving DecidableEq, Repr, Inhabited

/-- A teardown in progress (R274). `step` is the step of Table 8.8 last completed. -/
structure Teardown where
  trigger : Nat
  start : Nat
  step : Nat
  discarded : Nat
deriving DecidableEq, Repr, Inhabited

/-- A press group of a context (R163, R165). -/
structure PGroup where
  /-- PGROUP.gen: 8-bit rollback generation; 05 R165; reset 0 at load. -/
  gen : Nat := 0
  /-- PGROUP.rolling: step of Table 5.6 in progress, 0 none; 05 R171; reset 0. -/
  rolling : Nat := 0
  /-- PGROUP.rollbacks: rollbacks to the boundary so far; 05 Table 5.11; reset 0. -/
  rollbacks : Nat := 0
  /-- PGROUP.failing: cores whose failures joined the rollback; 05 Table 5.11; reset none. -/
  failing : List Nat := []
deriving DecidableEq, Repr, Inhabited

/-- Replica comparison of a context (R148). -/
structure Replica where
  /-- REPL.group: 16 bits; 04 R148; reset n/a (no REPLICA_CFG). -/
  group : Nat := 0
  /-- REPL.r: 8 bits; 04 R148; reset n/a. -/
  r : Nat := 0
  /-- REPL.index: 8 bits; 04 R148; reset n/a. -/
  index : Nat := 0
  /-- REPL.k: 1-256; 04 R148; reset 16 (the default). -/
  k : Nat := 16
  /-- REPL.nextK: a K that waits for the pending verdict (R148, Table 4.8); 04 R155; reset none. -/
  next : Option (Nat × Nat × Nat × Nat) := none
  /-- REPL.pending: iteration whose verdict is pending; 04 R150; reset none. -/
  pending : Option Nat := none
  /-- REPL.parts: die partials received, by die; 04 Table 4.5; reset none. -/
  parts : Table DigestRec := []
  /-- REPL.inPass: this package's replica record of the iteration; 04 R149; reset none. -/
  inPass : Option DigestRec := none
  /-- REPL.reread: the reread record of Table 4.7 step 1; 04 R152; reset none. -/
  reread : Option DigestRec := none
  /-- REPL.slot: the records read from the slot while a breakpoint or a global stop holds, and whether two packages conflict; 04 R155; reset none. -/
  slot : Option (List DigestRec × Bool) := none
  /-- REPL.aborted: the barrier has been completed with REPLICA_ABORT; 04 Table 4.5; reset 0. -/
  aborted : Bool := false
  /-- REPL.dies: the dies that have sent, or still hold, a partial of the comparison; 04 Table 4.5 step 1; reset none. -/
  dies : List Nat := []
  /-- REPL.shards: the shard records that the reread formed, by logical core; 04 Table 4.7 step 1; reset none. -/
  shards : List (Nat × DigestRec) := []
  /-- REPL.located: at a marked iteration, location between the replicas has run; 04 Table 4.7 step 6; reset 0. -/
  located : Bool := false
  /-- REPL.runs: cores whose targeted run of Table 4.7 step 6 has not ended; 04 R152; reset none. -/
  runs : List Nat := []
  /-- REPL.runFailed: one of those runs has found a failing core; 04 R152; reset 0. -/
  runFailed : Bool := false
  /-- REPL.otherFailing: whether the other replica has a failing core, once it has said so; 04 Table 4.7 step 6; reset none. -/
  otherFailing : Option Bool := none
  /-- REPL.exchange: the other replica's records that have come before the own reread's end: its reread record, its in-passing record, its tensor
      records; 04 Table 4.7 step 2; reset none. -/
  exchange : Option (DigestRec × DigestRec × List DigestRec) := none
deriving DecidableEq, Repr, Inhabited

/-- A package operator record being combined (R144): the operator (layer * 65,536 + operator), the pass, and the die records received. -/
structure OpMark where
  key : Nat
  pass : Nat
  got : List (Nat × DigestRec)
deriving DecidableEq, Repr, Inhabited

/-- A logical core's part of an operator's execution (pass * 2^32 + layer * 65,536 + operator) that has left in a die record: the die, and which of its
    records of the execution that is. -/
structure SentPart where
  lc : Nat
  exec : Nat
  die : Nat
  ord : Nat
deriving DecidableEq, Repr, Inhabited

/-- A replica-state tensor of an expelled replica's context (R154): its ID, its operator, and the logical cores that wrote it with their carriers. -/
structure LostTensor where
  id : Nat
  layer : Nat
  oper : Nat
  cores : List (Nat × Nat)
deriving DecidableEq, Repr, Inhabited

/-- One context (R273, R421 CTX_STATUS). -/
structure Ctx where
  /-- CTX.state: 0 free, 1 loaded, 2 launched, 3 teardown; 13 Table 13.6; reset 0. -/
  state : Nat := 0
  /-- CTX.incarnation: 4 bits; 08 R273; reset 0. -/
  incarnation : Nat := 0
  /-- CTX.poisonMode: 0 KILL, 1 CARRY; 13 Table 13.6; reset 0. -/
  poisonMode : Nat := 0
  /-- CTX.autoSnap: 1 bit; 09 R294; reset 0. -/
  autoSnap : Nat := 0
  /-- CTX.hangT: 32 bits, us; 08 R268; reset 10,000 (the default). -/
  hangT : Nat := 10000
  /-- CTX.xwaitT: 32 bits, ms; 09 R291; reset 1,000 (the default). -/
  xwaitT : Nat := 1000
  /-- CTX.riskT: 16 bits; 09 R293; reset 16,000 (the default). -/
  riskT : Nat := 16000
  /-- CTX.snapMin: 32 bits, s; 09 R293; reset 600 (the default). -/
  snapMin : Nat := 600
  /-- CTX.plan: the loaded check plan; 01 R41; reset none. -/
  plan : Option Plan := none
  /-- CTX.planSha: 384 bits; 10 Table 10.4 check-plan hashes; reset 0. -/
  planSha : Nat := 0
  /-- CTX.s0: 61-bit seed lane 0; 04 R137; reset 0x0123456789ABCDEF. -/
  s0 : Nat := 0x0123456789ABCDEF
  /-- CTX.s1: 61-bit seed lane 1; 04 R137; reset 0x0FEDCBA987654321. -/
  s1 : Nat := 0x0FEDCBA987654321
  /-- CTX.launch: armed launch count; 02 R75; reset none. -/
  launch : Option Nat := none
  /-- CTX.released: reel counts at which agents released cores, by die; 02 R78; reset none. -/
  released : Table Nat := []
  /-- CTX.freedAt: reel count of the last teardown's completion; 08 R276; reset none. -/
  freedAt : Option Nat := none
  /-- CTX.teardown: teardown in progress; 08 R274; reset none. -/
  teardown : Option Teardown := none
  /-- CTX.iter: 32-bit iteration counter I; 04 R148; reset 0. -/
  iter : Nat := 0
  /-- CTX.point: snapshot points of the iteration that the context has passed; 09 R294, R301; reset 0. -/
  point : Nat := 0
  /-- CTX.risk: 16-bit risk score; 09 R292; reset 0. -/
  risk : Nat := 0
  /-- CTX.riskShown: SNAP_RISK has been written and the score has not fallen below RISK_T / 2 since; 09 R293; reset 0. -/
  riskShown : Bool := false
  /-- CTX.manifests: newest two valid snapshots, newest first; 09 R305; reset none. -/
  manifests : List Manifest := []
  /-- CTX.snapAt: snapshot ID and reel count of completion of each manifest kept, newest first; 09 R293, R299; reset none. -/
  snapAt : List (Nat × Nat) := []
  /-- CTX.snap: snapshot in progress; 09 R303; reset none. -/
  snap : Option Snap := none
  /-- CTX.autoId: next automatic snapshot ID, from 0xFFFF0000 on; 09 R294; reset 0xFFFF0000. -/
  autoId : Nat := 0xFFFF0000
  /-- CTX.defaultMap: default ream map with scope and DCUR_BASE; 09 R295; reset none. -/
  defaultMap : Option (Bool × Nat × ReamMap) := none
  /-- CTX.group: group table; 09 R308; reset none. -/
  group : Option GroupTable := none
  /-- CTX.streams: actual stream positions; 09 R306; reset the base positions at load. -/
  streams : Table Nat := []
  /-- CTX.replica: replica configuration and comparison; 04 R148; reset none. -/
  replica : Option Replica := none
  /-- CTX.pgroups: press groups; 05 R163; reset generation 0 at load. -/
  pgroups : Table PGroup := []
  /-- CTX.restoring: a RESTORE in progress, with its manifest and the group table; 09 R310; reset none. -/
  restoring : Option (Manifest × GroupTable × Nat) := none
  /-- CTX.rerun: the restored iteration whose comparison runs before its barrier (Table 9.7 step 6); 09 R310; reset none. -/
  rerun : Option Nat := none
  /-- CTX.reclaimAt: reel count of a reclamation notice; 09 R312; reset none. -/
  reclaimAt : Option Nat := none
  /-- CTX.brks: breakpoints, at most 16; 14 R438; reset none. -/
  brks : List Brk := []
  /-- CTX.brkHold: breakpoint hold; 14 R439; reset none. -/
  brkHold : Option BrkHold := none
  /-- CTX.runHold: the breakpoint hold that a BRK_RESUME with RUN repeats; 14 R441; reset none. -/
  runHold : Option BrkHold := none
  /-- CTX.hosts: host completions outstanding in the plan's order: logical core, and the status once it may be posted; 05 Table 5.10; reset none. -/
  hosts : List (Nat × Option Nat) := []
  /-- CTX.opDone: logical cores on which an operator's execution has ended, as (logical core, pass * 2^32 + layer * 65,536 + operator); 04 R144; reset
      none. -/
  opDone : List (Nat × Nat) := []
  /-- CTX.updOps: update operators complete on the package in this iteration; 04 R148; reset none. -/
  updOps : List Nat := []
  /-- CTX.opMarks: operator records being combined, one for each operator and pass; 04 R144; reset none. -/
  opMarks : List OpMark := []
  /-- CTX.opSent: parts of executions that have left in die records and whose layer record is not formed; 04 R144; reset none. -/
  opSent : List SentPart := []
  /-- CTX.opOut: executions of an operator, by layer * 65,536 + operator, complete on the package; 04 R148, 09 R306; reset 0. -/
  opOut : Table Nat := []
  /-- CTX.opLogged: passes of an operator whose layer record is formed; 04 R144; reset 0. -/
  opLogged : Table Nat := []
  /-- CTX.lost: the replica-state tensors of an expelled replica, kept for the location that follows its teardown; 04 R154; reset none. -/
  lost : List LostTensor := []
deriving DecidableEq, Repr, Inhabited

/-- One entry of the watermark log (R144). -/
structure LogEntry where
  digest : DigestRec
  ctx : Nat
  layer : Nat
  oper : Nat
deriving DecidableEq, Repr, Inhabited

/-- The end of a stage of triage as the verdict tables read it: 0 pass, 1 same, 2 different, 3 not run (Table 5.9). -/
abbrev Stage := Nat

/-- One core in triage (R506), with what its verdict and recovery record need. -/
structure Triage where
  core : Nat
  lc : Nat
  ticket : Nat
  ctx : Nat
  layer : Nat
  oper : Nat
  source : Nat
  primary : Nat
  detReel : Nat
  detStep : Nat
  startReel : Nat
  regs : FailRegs
  /-- Partner's logical core for a Duplex or gate mismatch. -/
  partner : Option Nat
  /-- Press group of a Sizing failure. -/
  pgroup : Option Nat
  stageA : Stage
  stageADone : Bool
  /-- none until stage S has run; then whether it passed. -/
  stageS : Option Bool
  stageB : Stage
  stageBDone : Bool
  /-- The digests or residues of a comparison: originals (o of R179), stage A's (r) and the spare's (s). -/
  orig : List Nat
  replayed : Option (List Nat)
  spareDigest : Option (List Nat)
  /-- The spare or lender that is filled, whether the fill is complete, and whether it is borrowed. -/
  spare : Option Nat
  filled : Bool
  borrowed : Bool
  lendersFailed : Nat
  needReel : Nat
  /-- Reel counts at which rows of Table 1.3 ended: frozen, started, stage A and S done, filled, stage B done. -/
  frozenReel : Nat
  aReel : Nat
  fillReel : Nat
  bReel : Nat
  /-- Replay length added so far on this logical core (R57). -/
  replayLen : Nat
  /-- The verdict of Table 5.9 once taken, and whether the logical core is being re-placed under it. -/
  verdict : Option Nat
  /-- Stage B has been ordered; the replay that places the logical core on the spare has been ordered. -/
  bStarted : Bool
  placing : Bool
  /-- The core that ran stage B, none when it did not run. -/
  bCore : Option Nat
  /-- RSTEP of the unit, and the logical step count at the freeze. -/
  rstep : Nat
  freezeStep : Nat
  /-- Of a Laid group: whether this is its anchor, and how many members it has. -/
  anchor : Bool
  members : Nat
  /-- Reel count at which the current fill was ordered. -/
  fillStart : Nat
  /-- The anchor of a Laid group and the unit's release sequence number (R180). -/
  anchorLc : Nat
  rseq : Nat
  /-- The failure has joined a rollback of its press group (Table 5.11). -/
  joined : Bool
  /-- Length of the replay of Table 8.3 step 4, set when it is ordered. -/
  placeLen : Nat
  /-- A stage A that has ended but for a comparison with another core: its result and digest (Table 3.9, Table 5.11). -/
  waitA : Option (ReplayEnd × List Nat)
  /-- Stage B has passed at its tap and its digests wait for the other cores' (R162). -/
  waitB : Option (List Nat) := none
  /-- The comparison of the triage is gate duplication's. -/
  asGate : Bool := false
  /-- The right digests of a partner whose own replays do not give its result: its unit is replayed on its new carrier (Table 5.7 rows 4 and 6). -/
  redo : Option (List Nat) := none
deriving DecidableEq, Repr, Inhabited

/-- A re-placement in progress or waiting (Table 8.4): kind 0 triage, 1 screen, 2 planned, 3 homecoming, 4 hang, 5 late. -/
structure Replace where
  lc : Nat
  kind : Nat
  cause : Nat
  defective : Bool
  old : Nat
  new : Option Nat
  borrowed : Bool
  filled : Bool
  started : Bool
  /-- Reel count of the trigger, and of the freeze. -/
  since : Nat
  freezeReel : Nat
  needReel : Nat
  lendersFailed : Nat
  exhausted : Bool
  /-- Logical step count at which the old carrier was frozen (Table 8.3 step 4). -/
  freezeStep : Nat := 0
  /-- Length of the replay of Table 8.3 step 4, set when it is ordered. -/
  replayLen : Nat := 0
deriving DecidableEq, Repr, Inhabited

/-- One queued Beater run (R190): core index, kind of Table 6.2. -/
structure BeatRun where
  core : Nat
  kind : Nat
  /-- The triage verdict that queued it (R181), or 0xF. -/
  why : Nat
deriving DecidableEq, Repr, Inhabited

/-- What the active package of a kind shows: serial, key, operating hours at activation, slices, bytes (R207, R225). -/
structure Pack where
  serial : Nat
  keyId : Nat
  hours : Nat
  slices : Nat
  bytes : Nat
deriving DecidableEq, Repr, Inhabited

/-- The active Vat's view of one distribution (Table 6.10). -/
structure Dist where
  id : Nat
  kind : Nat
  serial : Nat
  chunks : Nat
  /-- Step of Table 6.10 reached. -/
  step : Nat
  targets : List Nat
  ready : List Nat
  complete : List Nat
  hashFail : List Nat
  next : Nat
  resend : List (Nat × Nat)
  polled : List Nat
  repaired : Nat
  rounds : Nat
  armCount : Nat
  acked : List Nat
  activated : List Nat
  late : Nat
  /-- The activation count of the first DIST_ARM (R221); reset none. -/
  firstArm : Option Nat
  asked : Option Nat
  /-- The package, header included: its bytes by offset, and how many they are (R219). -/
  data : List Host.Cell
  bytes : Nat
deriving DecidableEq, Repr, Inhabited

/-- What the active Vat has under way for one kind of package in the flash (R206, R210, R216, R223). -/
structure FlashKind where
  /-- FLASH.bad: reason code of Table 6.9 of the active package's check at the last package reset, 0 for a package that passed; 06 R210; reset 0. -/
  bad : Nat := 0
  /-- FLASH.dirPending: half that an activation has made active and the directory does not name yet, with the operating hours; 06 R223; reset none. -/
  dirPending : Option (Nat × Nat) := none
  /-- FLASH.overtaken: a pending directory write that a package reset has overtaken, its half and hours, until FURNISH_REVERT; 06 R223; reset none. -/
  overtaken : Option (Nat × Nat) := none
  /-- FLASH.writing: package whose write to the inactive half is under way; 06 R216; reset none. -/
  writing : Option (List Host.Cell) := none
  /-- FLASH.asked: activation count of the TORTY_COMMIT that waits for the write; 06 R217; reset none. -/
  asked : Option Nat := none
deriving DecidableEq, Repr, Inhabited

/-- One notification that waits for a path or for its source's second (R250). -/
structure Note where
  number : Nat
  held : Nat
  entry : Rec
deriving DecidableEq, Repr, Inhabited

/-- Pacing of one source's notifications (R250). -/
structure Pace where
  since : Nat
  held : Nat
  latest : Option Rec
deriving DecidableEq, Repr, Inhabited

/-- The stall interval of a held region (R84-R87): reason of the first hold, begin, step count, layer, operator and core index at begin,
    further holds, holds in force (reason + 16 * holder, begin), whether the region is a die, and whether it follows a saturated interval. -/
structure Interval where
  reason : Nat
  start : Nat
  step : Nat
  layer : Nat
  oper : Nat
  core : Nat
  further : Nat
  inForce : List (Nat × Nat)
  kind : Nat
  cont : Bool
deriving DecidableEq, Repr, Inhabited

/-- An access that the active Vat has forwarded to a Couch window (R491). -/
structure Fwd where
  id : Nat
  die : Nat
  write : Bool
  start : Nat
deriving DecidableEq, Repr, Inhabited

/-- The switch-over in progress (R324). -/
structure Gap where
  trigger : Nat
  start : Nat
  /-- Steps of Table 10.3 completed. -/
  step : Nat
  newActive : Hub
  epoch : Nat
  gated : Bool
  confirmed : Bool
  deposeReel : Nat
  asked : Nat
  acks : List Nat
  naks : List Nat
  lastAck : Nat
  returned : List Nat
  /-- Dies that answered DEPOSE with RESETTING (R325, R365). -/
  others : List Nat
  /-- What the agents have returned since ANNOUNCE, by die, in order of arrival (R330). -/
  items : List (Nat × Instr)
  /-- Held accesses of the alias (R14), oldest first. -/
  held : List (Access × Option Word)
  /-- The path, tag and crc of a VAT_SWITCH whose reply the new active Vat posts (R329). -/
  switchRun : Bool
deriving DecidableEq, Repr, Inhabited

/-- What each Vat holds for itself (not mirrored). -/
structure Vat where
  /-- VAT_ROLE.ROLE: 3 bits; 16 R490; reset 3 OFFLINE. -/
  role : Role := .offline
  /-- VAT_EPOCH: 32 bits; 16 R490, 10 R318; reset 0. -/
  epoch : Nat := 0
  /-- MRAM epoch: 32 bits, kept in MRAM; 10 R318; reset DESIGN CHOICE 0 (log 3; first power-on). -/
  mramEpoch : Nat := 0
  /-- MRAM role: the Vat that the last switch-over or bring-up made ACTIVE; 10 Table 10.3 step 3; reset DESIGN CHOICE none (log 3; first power-on). -/
  mramRole : Option Hub := none
  /-- Epoch, 32 bits, and role held in retention while the hub's MRAM window is closed; 10 R318; reset none. -/
  staged : Option (Nat × Hub) := none
  /-- VAT_FW_SERIAL: 32 bits; 16 R490; reset 0. -/
  fwSerial : Nat := 0
  /-- VAT_PRIV_DENY: 32 bits; 16 R490; reset 0. -/
  privDeny : Nat := 0
  /-- VAT_CPL_ADDR.DIE: 7 bits; 16 R490; reset 0. -/
  cplDie : Nat := 0
  /-- VAT_CPL_ADDR.OFFSET: 14 bits (word offset); 16 R490; reset 0. -/
  cplOff : Nat := 0
  /-- VAT_REEL_HI latch: 32 bits; 02 R60; reset 0. -/
  reelHi : Nat := 0
  /-- Vat gated: its Felt ports and alias side are cut (R322); 10 R322; reset 0. -/
  gated : Bool := false
  /-- Self-BIST passed (R476); 15 R476; reset none (not run). -/
  bist : Option Bool := none
  /-- Image load: none not done, some verified (R340); 10 R340; reset none. -/
  image : Option Bool := none
  /-- Load started at reel count (R340); 10 R340; reset none. -/
  loadStart : Option Nat := none
  /-- MRAM window open (Table 12.4); 12 R397; reset 0 (Table 16.1 MRAM_WIN). -/
  mramWin : Bool := false
  /-- MRAM window: reel count since when every governing sensor has read at least 2 C inside; 12 R397; reset none. -/
  mramOkSince : Option Nat := none
  /-- MRAM writes held back while the window was closed; 12 Table 12.7; reset 0. -/
  mramHeld : Nat := 0
  /-- Record writes waiting for the hub's MRAM, oldest first; 14 R463; reset none. -/
  writing : List Rec := []
  /-- Staging buffer, at most 1,024 records, oldest first; 14 R463; reset none. -/
  staging : List Rec := []
  /-- Records dropped since the last STAGE_LOST; 14 R463; reset 0. -/
  lost : Nat := 0
  /-- First dropped record's sequence number; 14 Table 14.13; reset 0. -/
  lostFirst : Nat := 0
  /-- Recorder roll area, 65,536 slots; 14 R457; reset DESIGN CHOICE empty (log 3). -/
  roll : Table Rec := []
  /-- Recorder head area, 4,096 slots, in slot order; 14 R461; reset DESIGN CHOICE empty (log 3). -/
  head : List Rec := []
  /-- Last applied mirror sequence number: 32 bits; 10 R333; reset 0. -/
  mirrorApplied : Nat := 0
  /-- Items of the running self-test cycle that have passed: 7 bits; 10 R336; reset 0. -/
  cycleItems : Nat := 0
  /-- Failed-item bitmap of the last cycle: 7 bits; 10 R337; reset 0. -/
  lastFailed : Nat := 0
  /-- Reel count at which the last self-test cycle completed; 10 R337; reset none. -/
  cycleReel : Option Nat := none
  /-- Operating hours of the last self-test failure; 10 R338; reset none. -/
  selfFailHours : Option Nat := none
  /-- Held OFFLINE after a second failure (R338); 10 R338; reset 0. -/
  heldOffline : Bool := false
  /-- Last health report received from the other Vat (R337); 16 VAT_PEER_HEALTH; reset none (ROLE 3, AGE 0xFFF). -/
  peer : Option Health := none
  /-- Reel count of the last LIVE or STBY_LIVE received; 10 R321; reset none. -/
  heardReel : Option Nat := none
  /-- Replies of packets whose final word was written to this Vat's own window while it was not ACTIVE, by slot; 10 R331; reset none. -/
  refused : Table (Option Reply) := []
  /-- Reel count when SYNCING began; 10 R335; reset none. -/
  syncStart : Option Nat := none
  /-- Management port has a link; 07 R250; reset DESIGN CHOICE up (log 4). -/
  linkUp : Bool := true
  /-- MCTP EID of the management port: 8 bits; 11 R376; reset none. -/
  eid : Option Nat := none
  /-- EID that last set the port's EID: 8 bits; 11 R376; reset none. -/
  setter : Option Nat := none
  /-- MCTP EID of the I3C target: 8 bits; 11 R376; reset none. -/
  i3cEid : Option Nat := none
  /-- EID that last set the I3C target's EID: 8 bits; 11 R376; reset none. -/
  i3cSetter : Option Nat := none
  /-- I3C dynamic address: 7 bits; 11 R378; reset none. -/
  i3cAddr : Option Nat := none
  /-- Outbound queue of the management port, at most 64 messages, oldest first; 11 R374; reset none. -/
  outQ : List (List Nat) := []
  /-- Inbound queue of the management port, at most 64 messages, oldest first; 11 R374; reset none. -/
  inQ : List (List Nat) := []
deriving DecidableEq, Repr, Inhabited

/-- The latest-value stores of Table 12.5 as both hubs' MRAM hold them while both windows are closed and retention holds what has changed since. -/
structure Durable where
  /-- MRAM.pins, the PIN latches; 07 R243, 12 Table 12.5; reset none. -/
  pins : List Nat := []
  /-- MRAM.counters, PKG_RESET and OUT_OF_SERVICE with their leak reference; 08 R284, 12 Table 12.5; reset none. -/
  counters : Table Counter := []
  /-- MRAM.classCfg, the class configuration; 07 R238, 12 Table 12.5; reset the defaults. -/
  classCfg : Table (Option ClassCfg) := []
  /-- MRAM.ladderCfg, the ladder configuration; 07 R238, 12 Table 12.5; reset the defaults. -/
  ladderCfg : Table (Option (Nat × Nat)) := []
  /-- MRAM.oos, the out-of-service state; 08 R286, 12 Table 12.5; reset 0. -/
  oos : Bool := false
  /-- MRAM.marks, the DEFECTIVE marks; 08 R262, 12 Table 12.5; reset DESIGN CHOICE none (log 3). -/
  marks : Table (Option Nat) := []
  /-- MRAM.fwMin, FW_MIN_SERIAL: 32 bits; 10 R340, 12 Table 12.5; reset DESIGN CHOICE 0 (log 3). -/
  fwMin : Nat := 0
  /-- MRAM.userOffset, user calibration; 12 R387, Table 12.5; reset 0. -/
  userOffset : Table Int := []
  /-- MRAM.high, user calibration; 12 R387, Table 12.5; reset 0. -/
  high : Table Int := []
  /-- MRAM.low, user calibration; 12 R387, Table 12.5; reset 0. -/
  low : Table Int := []
  /-- MRAM.screenMargin, user calibration; 12 R387, Table 12.5; reset 10. -/
  screenMargin : Nat := 10
  /-- MRAM.vmonTol, user calibration; 12 R387, Table 12.5; reset 40. -/
  vmonTol : Nat := 40
  /-- MRAM.paceMin, user calibration; 12 R387, Table 12.5; reset 900. -/
  paceMin : Nat := 900
  /-- MRAM.voidReasons, the bound-void reasons: 5 bits; 07 R254, 12 Table 12.5; reset DESIGN CHOICE 0 (log 3). -/
  voidReasons : Nat := 0
  /-- MRAM.voidHours, VAT_VOID_HOURS: 32 bits, with the counts below one unit of it; 07 R254, 12 Table 12.5; reset DESIGN CHOICE 0 (log 3). -/
  voidHours : Nat × Nat := (0, 0)
  /-- MRAM.voidSince and MRAM.voidCleared, of the bound-void record; 07 Table 7.8, 12 Table 12.5; reset DESIGN CHOICE 0 (log 3). -/
  voidSpan : Nat × Nat := (0, 0)
deriving DecidableEq, Repr, Inhabited

/-- State of the package as a whole, and what its persistent stores hold. -/
structure Pkg where
  /-- Supplies are within limits; 15 R470; reset 1 (log 2). -/
  powered : Bool := true
  /-- SYS_RST_N asserted, or bring-up step reached; 15 R474; reset held. -/
  boot : Boot := .held
  /-- Counts from T0 to the start of the reel copies (Table 2.3 step 2); 15 R470; reset 0. -/
  t0 : Nat := 0
  /-- Warm-start marker; 15 R471; reset 0 (cold). -/
  warm : Bool := false
  /-- Power has been lost since the last start; 15 R471, R485; reset DESIGN CHOICE 1 (log 2). -/
  powerLost : Bool := true
  /-- A PIN latch was set when the last start began, so FAULT_N is low from then on (R243); 07 R243; reset 0. -/
  pinKept : Bool := false
  /-- Ports whose ring-0 alignment hop was left after 8 invalid attempts, as die * 4 + port (R67); 02 R67; reset none. -/
  alignBlocked : List Nat := []
  /-- The root has repeated the alignment (R69); 02 R69; reset 0. -/
  alignRepeated : Bool := false
  /-- The link qualification of bring-up runs (Table 15.1 step 6); 15 R474; reset 0. -/
  qualifying : Bool := false
  /-- VAT_PCYCLE: 24 bits, MRAM of both hubs; 16 R490, 15 R471; reset DESIGN CHOICE 0 (log 3). -/
  pcycle : Nat := 0
  /-- VAT_HOURS: 32 bits in 1/4096 h, retention copy; 15 R472; reset DESIGN CHOICE 0 (log 3). -/
  hours : Nat := 0
  /-- Operating hours in MRAM; 15 R472; reset DESIGN CHOICE 0 (log 3). -/
  hoursMram : Nat := 0
  /-- Reel counts already turned into operating hours (fraction of 1/4096 h); 15 R472; reset 0. -/
  hoursFrac : Nat := 0
  /-- Life-cycle state: 3 bits, fuses; 13 R428; reset DESIGN CHOICE 2 Field (log 5). -/
  lifecycle : Nat := 2
  /-- Field-to-Return changes so far; 13 R428; reset DESIGN CHOICE 0 (log 3). -/
  returns : Nat := 0
  /-- VAT_UID: 128 bits, fused; 16 R490; reset DESIGN CHOICE 0 (log 3). -/
  uid : Nat := 0
  /-- Vendor keys in mask ROM, by KEY_ID; 13 R424; reset DESIGN CHOICE none (log 3). -/
  vendorKeys : List Nat := []
  /-- Enrolled keys, at most 8 Operator and 64 Tenant; 13 R424; reset DESIGN CHOICE none (log 3). -/
  keys : List Key := []
  /-- Licence in force; 13 R430; reset DESIGN CHOICE none (log 3). -/
  licence : Option Licence := none
  /-- Licence awaiting reset; 13 R430; reset none. -/
  licenceNext : Option Licence := none
  /-- VAT_DIE_MASK: 96 bits; 16 R490; reset 0. -/
  dieMask : Nat := 0
  /-- VAT_CAP.DUPLEX: 1 bit; 16 R490; reset 0. -/
  duplex : Bool := false
  /-- VAT_CAP.VENDOR_DEBUG: 1 bit; 16 R490; reset 0. -/
  vendorDebug : Bool := false
  /-- VAT_CAP_SPAD: 32 bits; 16 R490, 00 R2; reset 0x00200000. -/
  spad : Nat := 0x200000
  /-- VAT_READY.READY: 1 bit; 16 R490; reset 0. -/
  ready : Bool := false
  /-- Reel count of the ready declaration, from which screen ages run (R192); 06 R192; reset 0. -/
  readyReel : Nat := 0
  /-- VAT_READY.NOTREADY: 4 bits; 16 R490; reset 0. -/
  notReady : Nat := 0
  /-- VAT_READY.DEGRADED: 16 bits; 16 R490; reset 0. -/
  degraded : Nat := 0
  /-- FW_MIN_SERIAL: 32 bits, MRAM; 10 R340; reset DESIGN CHOICE 0 (log 3). -/
  fwMin : Nat := 0
  /-- Out of service, MRAM; 08 R286; reset 0. -/
  oos : Bool := false
  /-- POWER_CYCLE_PENDING flag, MRAM; 08 R285; reset 0. -/
  powerPending : Bool := false
  /-- Source of the action that asked for the power cycle; 08 R285; reset 0. -/
  powerSource : Nat := 0
  /-- Power-cycle request repetitions sent; 08 R285; reset 0. -/
  powerReqs : Nat := 0
  /-- Bound-void reasons in force: 5 bits, MRAM; 07 R254; reset DESIGN CHOICE 0 (log 3). -/
  voidReasons : Nat := 0
  /-- VAT_VOID_HOURS: 32 bits, MRAM; 07 R254; reset DESIGN CHOICE 0 (log 3). -/
  voidHours : Nat := 0
  /-- Counts of operating hours below one unit of VAT_VOID_HOURS with the flag set, MRAM; 07 R254; reset DESIGN CHOICE 0 (log 3). -/
  voidFrac : Nat := 0
  /-- Operating time in counts at which the void began, MRAM; 07 Table 7.8; reset 0. -/
  voidSince : Nat := 0
  /-- Reasons cleared since the flag was set, MRAM: 5 bits; 07 Table 7.8; reset DESIGN CHOICE 0 (log 3). -/
  voidCleared : Nat := 0
  /-- Dies whose THERM_LIMIT set THERMAL, with the reel count the die's limit condition ended, none while it lasts; 07 Table 7.10; reset none. -/
  thermalDies : Table (Option Nat) := []
  /-- SEQ_OFF: reel count since when every tap has had SEQ_CMP_EN 1; 03 R124; reset none. -/
  seqOnSince : Option Nat := none
  /-- DEFECTIVE marks in MRAM: cause by physical core; 08 R262, 15 R479; reset DESIGN CHOICE none (log 3). -/
  marks : Table (Option Nat) := []
  /-- Factory defect data: cores named; 15 R479; reset DESIGN CHOICE none (log 3). -/
  factoryBad : List Nat := []
  /-- Factory data's preferred spare by die * 12 + cluster; 15 R479; reset DESIGN CHOICE 12 (log 3). -/
  prefSpare : Table Nat := []
  /-- Placement table of the firmware image: logical core by home slot die * 144 + cluster * 12 + slot, as the offset to add modulo 13,824;
      15 R478; reset DESIGN CHOICE 0, logical core n in slot n (log 3). -/
  placement : Table Nat := []
  /-- Bring-up results of cores that are not good: cause by physical core; 15 R479; reset none. -/
  bringupBad : Table (Option Nat) := []
  /-- Cores placed unscreened (R481); 15 R481; reset 0. -/
  unscreened : Bool := false
  /-- Partition of each compute die: 5 bits; 00 R504; reset 0. -/
  partition : Table Nat := []
  /-- Relaxed mode by partition: 1 bit; 02 R89; reset 0. -/
  relaxed : Table Bool := []
  /-- Relaxed-choice sum by partition: 64 bits; 02 R91; reset 0. -/
  relaxSum : Table Nat := []
  /-- Partitions under a rung-2 hold; 08 Table 8.11; reset none. -/
  partHeld : List Nat := []
  /-- Firmware write session: header checked by FW_BEGIN; 10 R343; reset none. -/
  fwWriting : Option FwHeader := none
  /-- Erases (none) and writes (offset, bytes) of the firmware region that wait while Calender forbids flash writes, oldest first; 10 R343; reset none. -/
  fwQueue : List (Option (Nat × List Byte)) := []
  /-- What is under way in the flash by kind: 1 base, 2 fleet, 3 microcode; 06 R206; reset none. -/
  flash : Table FlashKind := []
  /-- The substrate flash: the firmware region, the package halves and the directory copies, by flash offset; 06 Table 6.5, R206, R207, 10 R339; reset
      DESIGN CHOICE unlisted, and erased, reads 0 (log 3). -/
  flashMem : List Host.Cell := []
  /-- VAT_REC_STAT.FLASH_WIN, the flash window; 12 R397; reset 0. -/
  flashWin : Bool := false
  /-- Flash window: reel count since when every governing sensor has read at least 2 C inside; 12 R397; reset none. -/
  flashOkSince : Option Nat := none
  /-- Flash writes held back while the window was closed; 12 Table 12.7; reset 0. -/
  flashHeld : Nat := 0
  /-- User HIGH by die kind (0 compute, 1 hub, 2 photonic) in C, held as the difference from its default 100, 100, 80, MRAM; 12 R387; reset 0. -/
  high : Table Int := []
  /-- User LOW by die kind in C, held as the difference from its default 0, 0, 5, MRAM; 12 R387; reset 0. -/
  low : Table Int := []
  /-- User USER_OFFSET by die * 16 + sensor, 1/8 C, MRAM; 12 R387; reset 0. -/
  userOffset : Table Int := []
  /-- SCREEN_MARGIN in C, MRAM; 12 R387; reset 10. -/
  screenMargin : Nat := 10
  /-- VMON_TOL in 0.1 %, MRAM; 12 R387; reset 40. -/
  vmonTol : Nat := 40
  /-- PACE_MIN in M steps/s, MRAM; 12 R387; reset 900. -/
  paceMin : Nat := 900
  /-- Factory GAIN by die * 16 + sensor; 12 R386; reset DESIGN CHOICE 0 (log 3). -/
  gain : Table Nat := []
  /-- Factory OFFSET by die * 16 + sensor, 1/8 C; 12 R386; reset DESIGN CHOICE 0 (log 3). -/
  offset : Table Int := []
  /-- Factory VGAIN by die * 4 + voltage monitor, one-time-programmable; 12 R386, Table 12.2; reset DESIGN CHOICE 0 (log 3). -/
  vgain : Table Nat := []
  /-- Factory PSCALE by die * 4 + pace monitor, one-time-programmable; 12 R386, Table 12.2; reset DESIGN CHOICE 0 (log 3). -/
  pscale : Table Nat := []
  /-- Factory LASER_REF in 0.01 dBm by die * 16 + optical engine, one-time-programmable; 12 R386, Table 12.2; reset DESIGN CHOICE 0 (log 3). -/
  laserRef : Table Int := []
  /-- Factory EYE_REF in mV by lane ID, one-time-programmable; 12 R386, Table 12.2; reset DESIGN CHOICE 0 (log 3). -/
  eyeRef : Table Nat := []
  /-- Words that shards have left in the ream areas, by die * 2^40 + word offset; 09 R300; reset 0 each (Table 8.10). -/
  reamWords : Table Nat := []
  /-- REAM.written: the shards that ream areas hold, each by its die times 2 ^ 40 plus its offset in words, as written since the die was last reset;
      09 R299; reset none. -/
  reamShards : List Nat := []
  /-- Ream areas by die: offset and length; 09 R300; reset none. -/
  reamAreas : Table (Option (Nat × Nat)) := []
  /-- HOST.REVOKED: the tags that the host bridge holds as revoked; 08 R274, R275; reset none. -/
  hostRevoked : List Nat := []
  /-- The source of the package reset that the ladder requested and that bring-up still follows; 08 Table 8.11; reset none. -/
  ladderReset : Option Nat := none
  /-- Reclamations in progress: partition bitmap and deadline reel count; 09 R312; reset none. -/
  reclaim : List (Nat × Nat) := []
  /-- Highest epoch proposed in a DEPOSE; 10 R325; reset 0. -/
  proposed : Nat := 0
  /-- What MRAM holds of the latest-value stores since both windows closed; none while a window is open, when MRAM holds what the stores' own fields hold;
      12 R398, Table 12.5; reset the stores' reset values. -/
  mram : Option Durable := some {}
deriving DecidableEq, Repr, Inhabited

/-- Global stop and dump state (14). -/
structure Debug where
  /-- Global stop: initiator (0 command, 1 watchpoint, 2 IEEE 1149.1) and reel count at initiation; 14 R442; reset none. -/
  gstop : Option (Nat × Nat) := none
  /-- Stop table by physical core; 14 R445; reset none. -/
  stopTable : Table (Option StopEntry) := []
  /-- Link words of the stop table, by die (Table 11.6, Table 14.4 step 4); 14 R443; reset none. -/
  stopLinks : List (Nat × Option (List Nat)) := []
  /-- Smear of the last stop: 32 bits, ns; 14 R446; reset 0. -/
  smear : Nat := 0
  /-- Stop held until package reset (R447); 14 R447; reset 0. -/
  stopHeld : Bool := false
  /-- Release activation count; 14 R447; reset none. -/
  releaseAt : Option Nat := none
  /-- A unit has been marked unreadable since the stop; 14 R447; reset 0. -/
  unreadable : Bool := false
  /-- Dump buffer, 8 MiB: images; 14 R450; reset empty. -/
  dumpBytes : List Host.Cell := []
  /-- Dump directory: kind, status, unit ID, offset, length; 14 R450; reset none. -/
  dumpDir : List (Nat × Nat × Nat × Nat × Nat) := []
  /-- Dump held: ID and whether locked; 14 R450; reset none. -/
  dumpHeld : Option (Nat × Bool) := none
  /-- Units of the running dump still to scan; 14 R448; reset none. -/
  dumpTodo : List DumpUnit := []
  /-- The running dump is a hang's automatic capture; 14 R450; reset 0. -/
  dumpAuto : Bool := false
  /-- Dump truncated (R450); 14 R450; reset 0. -/
  truncated : Bool := false
  /-- Next free offset of the dump buffer; 14 R450; reset 0. -/
  dumpNext : Nat := 0
deriving DecidableEq, Repr, Inhabited

/-- A copy of a die's slice of the deckle map (R24, R256): map generation, physical entries by core index, home entries by cluster * 12 + slot. -/
structure DeckleSlice where
  /-- SLICE.gen: 32 bits; 08 R256; reset 0. -/
  gen : Nat := 0
  /-- SLICE.phys: 32 bits each; 08 Table 8.1; reset 0. -/
  phys : Table Nat := []
  /-- SLICE.home: 32 bits each; 08 Table 8.2; reset 0. -/
  home : Table Nat := []
deriving DecidableEq, Repr, Inhabited

/-- The active Vat's mirrored state (Table 10.4), and the parts of it that are not mirrored. -/
structure Shared where
  /-- Ticket table, 262,144 entries; 05 R156; reset FREE. -/
  tickets : Table Ticket := []
  /-- Pool blocks by number 0-159: die it is lent to, none in reserve; 05 R157; reset block d lent to compute die d (at bring-up). -/
  pool : Table (Option Nat) := []
  /-- Pool requests that wait for a block, by die, oldest first; 05 R157; reset none. -/
  poolWait : List Nat := []
  /-- Fault counters by source; 07 R232; reset zero and armed. -/
  counters : Table Counter := []
  /-- Ladder counters CORE_RUNG by partition; 08 R283; reset zero and armed. -/
  coreRung : Table Counter := []
  /-- Class configuration set by FAULT_CFG, MRAM; 07 R238; reset the defaults. -/
  classCfg : Table (Option ClassCfg) := []
  /-- CORE_RUNG N and W (ms) by partition, MRAM; 08 R283; reset 8 in 1 h. -/
  ladderCfg : Table (Option (Nat × Nat)) := []
  /-- PIN latches: sources set, MRAM copy; 07 R240, R243; reset none. -/
  pins : List Nat := []
  /-- FAULT_PENDING list, oldest first; 07 R235; reset none. -/
  pendingList : List Nat := []
  /-- Sources added since the last interrupt was posted; 07 R235; reset 0. -/
  intNew : Bool := false
  /-- Reactions that the drop of a record or an NMI has called for and that have not been taken yet (R235, R463): source, reactions; 07 R235; reset
      none. -/
  reactDue : List (Nat × Nat) := []
  /-- Resets that agents have begun by BLK while no Vat acted, whose ladder count and fences wait for it (Table 1.2): domain (5 a context's teardown),
      target, source; 01 R23; reset none. -/
  resetDue : List (Nat × Nat × Nat) := []
  /-- Reel count at which the last fault interrupt was posted (R235); 07 R235; reset none. -/
  intAt : Option Nat := none
  /-- Message interrupts not yet accepted, oldest first: vector, reel count posted; 01 R45; reset none. -/
  msiWait : List (Nat × Nat) := []
  /-- Contexts by ID; 08 R273; reset free, incarnation 0. -/
  ctxs : Table Ctx := []
  /-- Sessions by number; 13 R426; reset none. -/
  sessions : Table (Option Session) := []
  /-- Command slots 0-63; 13 R406; reset IDLE. -/
  slots : Table ApSlot := []
  /-- Running commands, oldest first, at most 64; 13 R410; reset none. -/
  runs : List Run := []
  /-- Retained MCTP replies, newest first, 256 for each requester; 13 R416; reset none. -/
  retained : List Retained := []
  /-- VAT_APT_DONE: 64 bits; 16 R490; reset 0. -/
  aptDone : Nat := 0
  /-- VAT_APT_DROP: 32 bits; 16 R490; reset 0. -/
  aptDrop : Nat := 0
  /-- VAT_REPL_AGREE: 32 bits; 16 R490; reset 0. -/
  replAgree : Nat := 0
  /-- VAT_INT_PEND.READY_POSTED: 1 bit; 16 R490; reset 0. -/
  readyPosted : Bool := false
  /-- VAT_MSI_CTL: LOCK bit 31, EN_READY, EN_CMD, EN_FAULT bits 2-0; 16 R490; reset 0. -/
  msiCtl : Nat := 0
  /-- VAT_MSI_ADDR: 64 bits, [1:0] zero; 16 R490; reset 0. -/
  msiAddr : Nat := 0
  /-- VAT_MSI_DATA_FAULT: 32 bits; 16 R490; reset 0. -/
  msiFault : Nat := 0
  /-- VAT_MSI_DATA_CMD: 32 bits; 16 R490; reset 0. -/
  msiCmd : Nat := 0
  /-- VAT_MSI_DATA_READY: 32 bits; 16 R490; reset 0. -/
  msiReady : Nat := 0
  /-- VAT_REC_SEQ: 32 bits, next record sequence number; 14 R460; reset DESIGN CHOICE 0 (log 3). -/
  recSeq : Nat := 0
  /-- HEAD_FULL flag; 14 R461; reset 0. -/
  headFull : Bool := false
  /-- Notification sequence number of the next notification: 32 bits; 07 R250; reset DESIGN CHOICE 0 (log 4). -/
  noteNext : Nat := 0
  /-- Queue of the management path, at most 256, oldest first; 07 R250; reset none. -/
  mgmtQ : List Note := []
  /-- Queue of the I3C path, at most 256, oldest first; 07 R250; reset none. -/
  i3cQ : List Note := []
  /-- Drops on the management path since its last NOTIFY_LOST, and the first number dropped; 07 R250; reset none. -/
  mgmtLost : Nat × Nat := (0, 0)
  /-- Drops on the I3C path since its last NOTIFY_LOST, and the first number dropped; 07 R250; reset none. -/
  i3cLost : Nat × Nat := (0, 0)
  /-- One-second pacing by source; 07 R250; reset none. -/
  pacing : Table (Option Pace) := []
  /-- Watermark log, newest first, at most 65,536 entries; 04 R144; reset none. -/
  wmLog : List LogEntry := []
  /-- Layer locations in progress (not mirrored): WM_VERIFY contexts; 04 R146; reset none. -/
  verifying : List Nat := []
  /-- Iterations marked under Table 4.7 step 5: group, iteration; 04 R152; reset none. -/
  replMarks : List (Nat × Nat) := []
  /-- Triages in progress, oldest first; 05 R506; reset none. -/
  triages : List Triage := []
  /-- Failures queued behind a cluster's triage, in report order (R37); 01 R37; reset none. -/
  triageQ : List Triage := []
  /-- Re-placements other than a triage's, oldest first; 08 R261; reset none. -/
  replaces : List Replace := []
  /-- Unplaced logical cores: old carrier and reel count of SPARE_EXHAUSTED (R266); 08 R266; reset none. -/
  unplaced : Table (Option (Nat × Nat)) := []
  /-- Pair comparisons waiting at a die agent or at the Vat (R116); 03 R116; reset none. -/
  pairs : List PairWait := []
  /-- Laid groups collecting residues (R111); 03 R111; reset none. -/
  groups : List GroupWait := []
  /-- The active Vat's copy of each die's deckle slice (R24); 01 R24; reset zero. -/
  deckleCopy : Table DeckleSlice := []
  /-- Stall intervals by region: source ID of the region; 02 R84; reset none. -/
  intervals : Table (Option Interval) := []
  /-- Mirror sequence number last used: 32 bits; 10 R333; reset 0. -/
  mirrorSeq : Nat := 0
  /-- Reel counts of THRESHOLD records on core, die and cluster sources, newest first (R292 input 0): (reel, source); 09 R292; reset none. -/
  riskThresh : List (Nat × Nat) := []
  /-- Reel count of the last switch-over (R292 input 4); 09 R292; reset none. -/
  lastSwitch : Option Nat := none
  /-- Commands that arrived at a management port or I3C target during a switch-over gap, held by the port, oldest first; 10 R332; reset none. -/
  portHeld : List Instr := []
  /-- Commands of the aperture that came while no Vat acted, in a gap or while a VAT_SWITCH waits, with their opcode, oldest first; 10 R331; reset
      none. -/
  apHeld : List (Instr × Req × Nat) := []
  /-- The active Vat has stopped issuing for a VAT_SWITCH that waits for the mirror; 10 R329; reset 0. -/
  switching : Bool := false
  /-- Events whose verdict, fence, re-placement or map change the active Vat alone decides, that came while no Vat acted, oldest first (Table 1.2);
      01 R23; reset none. -/
  vatHeld : List Instr := []
  /-- Records held because no Vat is active, oldest first (Table 1.2); 01 R23; reset none. -/
  heldRecs : List Rec := []
  /-- Forwarded accesses in flight (R491); 16 R491; reset none. -/
  fwds : List Fwd := []
  /-- The switch-over in progress; 10 R324; reset none. -/
  gap : Option Gap := none
  /-- Reel count at which a trigger found no standby (R323); 10 R323; reset none. -/
  noStandby : Option Nat := none
  /-- Staging buffer for a Torty package, 4 MiB; 06 R216; reset empty. -/
  torty : List Host.Cell := []
  /-- Distributions in progress by kind (not mirrored); 06 R217; reset none. -/
  dists : Table (Option Dist) := []
  /-- Shift leases outstanding: die, kind (0 window slice, 1 other slice, 2 start-up), expiry (not mirrored); 06 R193; reset none. -/
  leases : List (Nat × Nat × Nat) := []
  /-- Consecutive window refusals by die; 06 R196; reset 0. -/
  refusals : Table Nat := []
  /-- Dies with three consecutive refusals, oldest first; 06 R196; reset none. -/
  starved : List Nat := []
  /-- Dies whose window request may not be refused again and waits for a lease, oldest first (R196); 06 R196; reset none. -/
  leaseWait : List Nat := []
  /-- Dies that wait for a start-up lease, in grant order (R205); 06 R205; reset none. -/
  startupQ : List Nat := []
  /-- Reel count until which a new active Vat grants no lease (R197); 06 R197; reset 0. -/
  blackout : Nat := 0
  /-- Dies that report NEAR to the Vat (R401); 12 R401; reset none. -/
  nearDies : List Nat := []
  /-- Lane counts of the last qualification by lane ID (R380); 11 R380; reset none. -/
  lanes : Table (Option LaneCount) := []
  /-- Resets in progress: domain, target, start, source, requested by command; 08 R279; reset none. -/
  resets : List (Nat × Nat × Nat × Nat × Bool) := []
deriving DecidableEq, Repr, Inhabited

/-- One temperature sensor (Table 12.1, Table 16.2 CPL_TEMP). -/
structure Sensor where
  /-- CPL_TEMP.SAMPLED: 1 bit; 16 R493; reset 0. -/
  sampled : Bool := false
  /-- CPL_TEMP.FAILED: 1 bit; 16 R493; reset 0. -/
  failed : Bool := false
  /-- CPL_TEMP.SUBST: 1 bit; 16 R493; reset 0. -/
  subst : Bool := false
  /-- CPL_TEMP.TEMP: 12-bit two's complement, 1/8 C; 16 R493; reset 0. -/
  temp : Int := 0
  /-- Beyond HIGH or LOW since its last crossing (R391); 12 R391; reset 0. -/
  beyond : Bool := false
  /-- Consecutive passing reference checks while failed (R393); 12 R393; reset 0. -/
  passes : Nat := 0
deriving DecidableEq, Repr, Inhabited

/-- One voltage monitor (CPL_VMON). -/
structure Vmon where
  /-- CPL_VMON.SAMPLED: 1 bit; 16 R493; reset 0. -/
  sampled : Bool := false
  /-- CPL_VMON.OUT: 1 bit; 16 R493; reset 0. -/
  out : Bool := false
  /-- CPL_VMON.UNVERIFIED: 1 bit; 16 R493; reset 0. -/
  unverified : Bool := false
  /-- CPL_VMON.VOLT: 16 bits; 16 R493; reset 0. -/
  volt : Nat := 0
deriving DecidableEq, Repr, Inhabited

/-- One pace monitor (CPL_PACE). -/
structure PaceMon where
  /-- CPL_PACE.SAMPLED: 1 bit; 16 R493; reset 0. -/
  sampled : Bool := false
  /-- CPL_PACE.LOW: 1 bit; 16 R493; reset 0. -/
  low : Bool := false
  /-- CPL_PACE.PACE: 16 bits; 16 R493; reset 0. -/
  pace : Nat := 0
deriving DecidableEq, Repr, Inhabited

/-- The Calender part of an agent (12). -/
structure Cal where
  /-- CPL_TEMP_n by sensor; 16 R493; reset unsampled. -/
  temps : Table Sensor := []
  /-- CPL_VMON_n by monitor; 16 R493; reset unsampled. -/
  vmons : Table Vmon := []
  /-- CPL_PACE_n by monitor; 16 R493; reset unsampled. -/
  paces : Table PaceMon := []
  /-- CPL_CAL_STATE.NEAR: 1 bit; 16 R493; reset 0. -/
  near : Bool := false
  /-- Reel count since when every sensor has read more than 7 C from every limit (R390); 12 R390; reset none. -/
  farSince : Option Nat := none
  /-- Thermal condition of the Calender hold; 12 R391; reset 0. -/
  thermHold : Bool := false
  /-- Voltage condition of the Calender hold; 12 R395; reset 0. -/
  vmonHold : Bool := false
  /-- Reel count since when every sensor has read within LOW + 3 to HIGH - 3; 12 R391; reset none. -/
  thermOkSince : Option Nat := none
  /-- Reel count since when every monitor has read within tolerance; 12 R395; reset none. -/
  vmonOkSince : Option Nat := none
  /-- CPL_CAL_STATE.PACE_LOW: 1 bit; 16 R493; reset 0. -/
  paceLow : Bool := false
  /-- Reel count since when paces have read at or above PACE_MIN; 12 R396; reset none. -/
  paceOkSince : Option Nat := none
  /-- CPL_CAL_STATE.FLASH_WIN: 1 bit, of a hub die; 16 R493; reset 0. -/
  flashWin : Bool := false
  /-- CPL_CAL_STATE.MRAM_WIN: 1 bit, of a hub die; 16 R493; reset 0. -/
  mramWin : Bool := false
  /-- CPL_CAL_STATE.FCAL_OK: 1 bit; 16 R493; reset 0. -/
  fcalOk : Bool := false
  /-- CPL_CAL_STATE.VREF_OK: 1 bit; 16 R493; reset 1. -/
  vrefOk : Bool := true
deriving DecidableEq, Repr, Inhabited

/-- The Beater of a compute die (06). -/
structure Beater where
  /-- CPL_STATE.BEATER_UNUSABLE: 1 bit; 16 R493; reset 0. -/
  unusable : Bool := false
  /-- CPL_BEATER.TARGET with BUSY: core index of the target; 16 R493; reset none. -/
  target : Option Nat := none
  /-- CPL_BEATER.KIND: 3 bits; 16 R493; reset 0. -/
  kind : Nat := 0
  /-- CPL_BEATER.SLICE: 10 bits; 16 R493; reset 0. -/
  slice : Nat := 0
  /-- CPL_BEATER.LEASE: lease held, with its expiry; 16 R493; reset none. -/
  lease : Option Nat := none
  /-- A slice is shifting; 06 R185; reset 0. -/
  shifting : Bool := false
  /-- The slice uses a relaxed-mode stall (R90); 02 R90; reset 0. -/
  stall : Bool := false
  /-- A fault on the core stops the slice, which counts as not completed (Table 1.4); 01 R38; reset 0. -/
  faulted : Bool := false
  /-- Why the running slice stops at its next segment boundary; 06 Table 6.12; reset 0. -/
  stopping : Bool := false
  /-- Confirmation stage of R203: 0 none, 1 loop slice, 2 first rerun, 3 second rerun; 06 R203; reset 0. -/
  confirm : Nat := 0
  /-- MISR of the first rerun and whether it failed; 06 Table 6.4; reset none. -/
  rerun1 : Option (Nat × Bool) := none
  /-- BEATER.misr: 64-bit MISR of the running slice; 06 R185; reset 0. -/
  misr : Nat := 0
  /-- The slice stopped between two segments at a handshake's arrival, and goes on from there (R90); 02 R90; reset 0. -/
  partway : Bool := false
  /-- The slice's signature waits to be judged (R185, Table 1.2); 06 R185; reset 0. -/
  judge : Bool := false
  /-- The periodic run is abandoned at its next segment boundary, its core having been fenced by triage; 06 Table 6.12; reset 0. -/
  abandon : Bool := false
  /-- The furnish bank that the run reads, 0 or 1 (R222); 06 R222; reset 0. -/
  bank : Nat := 0
  /-- First failing slice of the run; 06 R182; reset none. -/
  firstFail : Option Nat := none
  /-- Slices applied in the run; 05 Table 5.9; reset 0. -/
  applied : Nat := 0
  /-- Run has failed (Table 5.8); 06 R204; reset 0. -/
  failed : Bool := false
  /-- Reel count at the start of the run (R192); 06 R192; reset 0. -/
  runStart : Nat := 0
  /-- Triage verdict that queued the running targeted run, 0xF none; 05 R181; reset 0xF. -/
  why : Nat := 0xF
  /-- Targeted and diagnostic runs queued; 06 R190; reset none. -/
  queue : List BeatRun := []
  /-- Lease request outstanding (kind) and reel count of the first request; 06 R195; reset none. -/
  request : Option (Nat × Nat) := none
  /-- Sizing window open: start and length in logical steps; 06 R194; reset none. -/
  window : Option (Nat × Nat) := none
  /-- Kind of the lease held: 0 window slice, 1 other slice, 2 start-up; 06 R193; reset 0. -/
  leaseKind : Nat := 0
  /-- Start-up run: core index whose start-up slices come next; 06 R205; reset none. -/
  startCore : Option Nat := none
deriving DecidableEq, Repr, Inhabited

/-- One kind's package in an agent's staging bank (R208, R209, R218-R222). -/
structure Staging where
  /-- STAGING.dist: 16-bit distribution ID; 06 Table 6.10; reset n/a (no distribution). -/
  dist : Nat
  /-- STAGING.total: chunk count; 06 R219; reset n/a. -/
  total : Nat
  /-- STAGING.header: the 256 header bytes that DIST_OPEN carried; 06 R219; reset n/a. -/
  header : List Byte
  /-- STAGING.bank: the furnish bank that receives the package, or the microcode bank; 06 R208, R222; reset n/a. -/
  bank : Nat
  /-- STAGING.chunks: chunks held; 06 R219; reset none. -/
  chunks : List Nat
  /-- STAGING.copied: the copy of the other kind is complete; 06 R209; reset n/a. -/
  copied : Bool
  /-- STAGING.hashed: the payload's hash check has passed; 06 Table 6.10; reset 0. -/
  hashed : Bool
  /-- STAGING.arm: armed activation count A; 06 R221; reset none. -/
  arm : Option Nat
deriving DecidableEq, Repr, Inhabited

/-- The furnish and microcode side of an agent (06). -/
structure Furnish where
  /-- FURNISH.bank0: furnish bank 0, 4 MiB: base region at 0, fleet region at 0x30_0000; 06 R208; reset DESIGN CHOICE empty (log 3). -/
  bank0 : List Host.Cell := []
  /-- FURNISH.bank1: furnish bank 1, as bank 0; 06 R208; reset DESIGN CHOICE empty (log 3). -/
  bank1 : List Host.Cell := []
  /-- FURNISH.bank: the active furnish bank, 0 or 1; 06 R208; reset DESIGN CHOICE 0 (log 3). -/
  bank : Nat := 0
  /-- FURNISH.diag: the staging bank holds a whole diagnostic package; 06 R208; reset 0. -/
  diag : Bool := false
  /-- FURNISH.staging: the staging banks by kind; 06 R208; reset none. -/
  staging : Table (Option Staging) := []
  /-- FURNISH.ucode0: microcode bank 0, 64 KiB; 06 R208; reset DESIGN CHOICE empty (log 3). -/
  ucode0 : List Host.Cell := []
  /-- FURNISH.ucode1: microcode bank 1, 64 KiB; 06 R208; reset DESIGN CHOICE empty (log 3). -/
  ucode1 : List Host.Cell := []
  /-- CPL_STATE.UCODE_BANK: 1 bit; 16 R493; reset 0. -/
  ucodeBank : Nat := 0
  /-- CPL_STATE.UCODE_ROM: 1 bit; 16 R493; reset 1. -/
  ucodeRom : Bool := true
  /-- FURNISH.ucodePending: activation count of a microcode bank change that waits (R222); 06 R222; reset none. -/
  ucodePending : Option Nat := none
deriving DecidableEq, Repr, Inhabited

/-- First-stage counter of one source (R25). -/
structure FirstStage where
  /-- FIRST.count: 0-255; 01 R25; reset 0. -/
  count : Nat := 0
  /-- FIRST.sat: saturation flag; 01 R25; reset 0. -/
  sat : Bool := false
  /-- FIRST.reel: reel count of the first increment; 01 R25; reset 0. -/
  reel : Nat := 0
  /-- FIRST.details: what each increment carries into its FAULT record; 07 Table 7.8; reset none. -/
  details : List Detail := []
deriving DecidableEq, Repr, Inhabited

/-- An event-ring entry (R455): kind, context ID, detail, layer, operator or logical core, step count, reel count. -/
structure RingEntry where
  kind : Nat
  ctx : Nat
  detail : Nat
  w1 : Nat
  step : Nat
  reel : Nat
deriving DecidableEq, Repr, Inhabited

/-- A profile entry (Table 14.9). -/
structure ProfEntry where
  tag : Nat
  layer : Nat
  oper : Nat
  execs : Nat
  busy : Nat
  idle : Nat
  hold : Nat
  stall : List Nat
deriving DecidableEq, Repr, Inhabited

/-- A die watermark record (R144): its context, operator (layer * 65,536 + operator) and pass, the shard records combined, by logical core, and the
    record as it was sent, once it has been. -/
structure WmDie where
  ctx : Nat
  key : Nat
  pass : Nat
  parts : List (Nat × DigestRec)
  sent : Option DigestRec
deriving DecidableEq, Repr, Inhabited

/-- One die: its Couch agent and Felt station. -/
structure Die where
  /-- Agent left reset and passed its self-BIST (R476); 15 R476; reset none. -/
  bist : Option Bool := none
  /-- Agent in reset (R494); 08 R279; reset 0. -/
  inReset : Bool := false
  /-- CPL_EPOCH: 32 bits; 16 R493; reset 0. -/
  epoch : Nat := 0
  /-- CPL_LIVE_LO: reel count of the last LIVE; 16 R493; reset none (reads 0). -/
  live : Option Nat := none
  /-- Epoch of the last LIVE (R325); 10 R325; reset 0. -/
  liveEpoch : Nat := 0
  /-- CPL_REEL: the copy runs (Table 2.3); 02 R66; reset 0. -/
  reelOn : Bool := false
  /-- CPL_REEL: copy minus the true count while it runs; 02 R65; reset 0. -/
  reelAdj : Int := 0
  /-- CPL_REEL: a copy found ahead holds this count (R71); 02 R71; reset none. -/
  reelHeld : Option Nat := none
  /-- CPL_REEL: the copy's count and the reel count at the loss of lock, while it counts on the die's local oscillator (R72); 02 R72; reset none. -/
  reelFree : Option (Nat × Nat) := none
  /-- CPL_REEL at the reference edge of the comparison that is under way (R70); 02 R70; reset none. -/
  reelEdge : Option Nat := none
  /-- CPL_STATE.REEL_LOCK: 1 bit; 16 R493; reset 0. -/
  reelLock : Bool := false
  /-- CPL_STATE.REEL_UNALIGNED: 1 bit; 16 R493; reset 1. -/
  unaligned : Bool := true
  /-- Latched HI registers by offset (R60); 02 R60; reset 0. -/
  hi : Table Nat := []
  /-- CPL_RELAX_CNT: 32 bits; 16 R493; reset 0. -/
  relaxCnt : Nat := 0
  /-- CPL_LEASE_GRANT: 32 bits; 16 R493; reset 0. -/
  leaseGrant : Nat := 0
  /-- CPL_LEASE_REFUSE: 32 bits; 16 R493; reset 0. -/
  leaseRefuse : Nat := 0
  /-- CPL_BND_ABSORB: 32 bits; 16 R493; reset 0. -/
  absorb : Nat := 0
  /-- CPL_BND_DISCARD: 32 bits; 16 R493; reset 0. -/
  discard : Nat := 0
  /-- CPL_PRIV_DENY: 32 bits; 16 R493; reset 0. -/
  privDeny : Nat := 0
  /-- CPL_DECKLE_GEN: 32 bits; 16 R493; reset 0. -/
  deckleGen : Nat := 0
  /-- CPL_PHYS_n by core index: 32 bits; 16 R493; reset 0. -/
  phys : Table Nat := []
  /-- CPL_HOME_n by cluster * 12 + slot: 32 bits; 16 R493; reset 0. -/
  home : Table Nat := []
  /-- CPL_STATE.ISOLATED: 1 bit; 16 R493; reset 0. -/
  isolated : Bool := false
  /-- CPL_STATE.STOP_LATCH: 1 bit; 16 R493; reset 0. -/
  stopLatch : Bool := false
  /-- Ring state as the station sees it, ring 0 and ring 1: 0 WHOLE, 1 LINE, 2 SPLIT, 3 FAILOVER; 16 R493; reset 0. -/
  ring0 : Nat := 0
  /-- As ring0, for ring 1; 16 R493; reset 0. -/
  ring1 : Nat := 0
  /-- First-stage counters by source; 01 R25; reset 0. -/
  first : Table FirstStage := []
  /-- FC0 messages held for the Vat during a gap, oldest first: transaction type and words; 10 Table 10.3; reset none. -/
  held : List (Nat × List Nat) := []
  /-- Agent event ring, 256 entries, newest first; 14 R455; reset none. -/
  ring : List RingEntry := []
  /-- Profile table, 512 entries; 14 R453; reset none. -/
  prof : List ProfEntry := []
  /-- Overflow entry of the profile table; 14 R453; reset 0. -/
  profOver : Option ProfEntry := none
  /-- PROF_STATUS: totals sent to the overflow entry; 14 R453; reset 0. -/
  profLost : Nat := 0
  /-- Armed launches: context and count; 02 R75; reset none. -/
  arms : Table (Option Nat) := []
  /-- The agent has been reset and its active banks are not reloaded yet; 06 R224; reset 0. -/
  unloaded : Bool := false
  /-- Revoked tags (R274); 08 Table 8.8; reset none. -/
  revoked : List Nat := []
  /-- Die watermark records being combined or awaiting acknowledgement; 04 R144, Table 4.8; reset none. -/
  wm : List WmDie := []
  /-- Shard records of replica-state tensors of an iteration, by context: the logical core, layer * 65,536 + operator, the record; their combination is
      the die's replica partial; 04 R149, Table 4.8; reset none. -/
  repl : Table (List (Nat × Nat × DigestRec)) := []
  /-- Fences raised: clusters (0-11 core ports by index are 16 + core index) absorbed; 08 R281; reset none. -/
  fences : List Nat := []
  /-- Fence counts since it was raised: absorbed, discarded; 08 Table 8.12; reset 0. -/
  fenceCount : Nat × Nat := (0, 0)
  /-- Pool IDs wholly free since (R157): reel count for the highest block; 05 R157; reset none. -/
  poolFreeSince : Option Nat := none
  /-- A pool-block request is outstanding (R157); 05 R157; reset 0. -/
  poolAsked : Bool := false
  /-- Barrier transactions the agent watches: source, SEQ, tag, generation; 11 R366; reset none. -/
  barriers : List (Nat × Nat × Nat × Option Nat) := []
  /-- Address comparators armed for breakpoints (R438); 14 R438; reset none. -/
  comparators : List (Nat × Nat) := []
  /-- Calender; 12 R384; reset per its fields. -/
  cal : Cal := {}
  /-- Beater; 06 R185; reset per its fields. -/
  beater : Beater := {}
  /-- Furnish banks and microcode; 06 R208; reset per its fields. -/
  furnish : Furnish := {}
  /-- FC0-FC2 commands repeated after the die's RESET_DONE (R365), as transactions; 11 R365; reset none. -/
  repeats : List Txn := []
  /-- AGENT_REPLY sent for each of the last 64 AGENT_CMDs executed: source, SEQ, words; 11 R363; reset none. -/
  replied : List (Nat × Nat × List Nat) := []
deriving DecidableEq, Repr, Inhabited

/-- A watermark set (R498): layer, operator, record, whether it is an open partial. -/
structure WmSet where
  layer : Nat
  oper : Nat
  digest : DigestRec
  opened : Bool
deriving DecidableEq, Repr, Inhabited

/-- A window-table entry (R277). -/
structure Win where
  /-- MTP_WIN_BASE: 32 bits; 16 R495; reset 0. -/
  base : Nat := 0
  /-- MTP_WIN_LEN: 32 bits; 16 R495; reset 0. -/
  len : Nat := 0
  /-- MTP_WIN_STATE.OWNER: 16 bits; 16 R495; reset 0. -/
  owner : Nat := 0
  /-- MTP_WIN_STATE.GEN: 8 bits; 16 R495; reset 0. -/
  gen : Nat := 0
  /-- MTP_WIN_STATE.GRANTV: 4 bits; 16 R495; reset 0. -/
  grantv : Nat := 0
  /-- MTP_WIN_STATE.PLAN: 1 bit; 16 R495; reset 0. -/
  plan : Bool := false
  /-- MTP_WIN_STATE.OPEN: 1 bit; 16 R495; reset 0. -/
  opened : Bool := false
  /-- MTP_WIN_GRANT0 and 1: tags 0-3, 16 bits each; 16 R495; reset 0. -/
  tag0 : Nat := 0
  /-- As tag0, tag 1; 16 R495; reset 0. -/
  tag1 : Nat := 0
  /-- As tag0, tag 2; 16 R495; reset 0. -/
  tag2 : Nat := 0
  /-- As tag0, tag 3; 16 R495; reset 0. -/
  tag3 : Nat := 0
deriving DecidableEq, Repr, Inhabited

/-- A watchpoint (R435). -/
structure Watch where
  /-- WATCH.base: 32 bits; 14 R435; reset n/a (cleared). -/
  base : Nat
  /-- WATCH.len: 32 bits; 14 R435; reset n/a. -/
  len : Nat
  /-- WATCH.kinds: 6 bits; 14 R435; reset n/a. -/
  kinds : Nat
  /-- WATCH.tagMatch: 1 bit; 14 R435; reset n/a. -/
  tagMatch : Bool
  /-- WATCH.action: 4 bits; 14 R435; reset n/a. -/
  action : Nat
  /-- WATCH.tag: tag of the setting context; 14 R436; reset n/a. -/
  tag : Nat
  /-- WATCH.hits: 32 bits; 14 Table 14.12; reset 0 at WATCH_SET. -/
  hits : Nat
deriving DecidableEq, Repr, Inhabited

/-- What a parked core's agent keeps for its tap (R188). -/
inductive Deferred where
  /-- A write to a register of the MTP block: offset, value, privilege, tag. -/
  | write (off : Nat) (v : Word) (priv : Priv) (tag : Option Nat)
  /-- A verdict on a ticket. -/
  | verdict (ticket : Nat) (pass : Bool)
  /-- A self-check. -/
  | selfTest
  /-- A mesh access to the core's scratchpad. -/
  | access (x : SpadAccess)
  /-- A transfer to the logical core that it carries. -/
  | xfer (x : Xfer)
  /-- A watchpoint of its logical core is set, or cleared: logical core, index (R435). -/
  | watch (lc index : Nat) (w : Option Watch)
deriving DecidableEq, Repr, Inhabited

/-- One tap and its physical core. -/
structure Core where
  /-- MTP_CTRL.LOCK: 1 bit; 16 R495; reset 0. -/
  lock : Bool := false
  /-- MTP_CTRL.SEQ_CMP_EN: 1 bit; 16 R495; reset 1. -/
  seqCmp : Bool := true
  /-- MTP_SELFTEST.RESULT: 2 bits; 16 R495; reset 0. -/
  selftest : Nat := 0
  /-- MTP_SELFTEST.CASES: 8 bits; 16 R495; reset 0. -/
  cases : Nat := 0
  /-- MTP_FAIL_CODE.VALID: 1 bit; 16 R495; reset 0. -/
  failValid : Bool := false
  /-- MTP_FAIL_CODE.PRIMARY: 5 bits; 16 R495; reset 0. -/
  failPrimary : Nat := 0
  /-- MTP_FAIL_CODE.CODES: 24 bits; 16 R495; reset 0. -/
  failCodes : Nat := 0
  /-- MTP_FAIL_ROW.TICKET: 4 bits; 16 R495; reset 0. -/
  failTicket : Nat := 0
  /-- MTP_FAIL_ROW.ROW: 16 bits; 16 R495; reset 0. -/
  failRow : Nat := 0
  /-- MTP_FAIL_A: 61 bits; 16 R495; reset 0. -/
  failA : Nat := 0
  /-- MTP_FAIL_B: 61 bits; 16 R495; reset 0. -/
  failB : Nat := 0
  /-- The ticket whose failure the registers hold (R497); 16 R497; reset none. -/
  failUnit : Option Nat := none
  /-- MTP_PSTEP: 64 bits; 16 R495; reset 0. -/
  pstep : Nat := 0
  /-- MTP_STATUS.PSTEP_VALID: 1 bit; 16 R495; reset 1. -/
  pstepValid : Bool := true
  /-- MTP_SCREEN: 64 bits; 16 R495; reset 0. -/
  screen : Nat := 0
  /-- MTP_STATUS.SCREEN_VALID: 1 bit; 16 R495; reset 0. -/
  screenValid : Bool := false
  /-- MTP_LSTEP of the last logical core carried (R58): 64 bits; 16 R495; reset 0. -/
  lastLstep : Nat := 0
  /-- MTP_BUSY: 64 bits; 16 R495; reset 0. -/
  busy : Nat := 0
  /-- MTP_IDLE: 64 bits; 16 R495; reset 0. -/
  idle : Nat := 0
  /-- MTP_HOLD: 64 bits, ns, before holdBase is subtracted; 16 R495; reset 0. -/
  hold : Nat := 0
  /-- MTP_HOLD's own total at the last COUNTER_READ with CLEAR, subtracted when it reads: n/a, the model's own; 14 R451; reset 0. -/
  holdBase : Nat := 0
  /-- MTP_STALL by reason 1-10: 64 bits, ns; 16 R495; reset 0. -/
  stall : Table Nat := []
  /-- MTP_STALL_SEL.REASON: 4 bits; 16 R495; reset 1. -/
  stallSel : Nat := 1
  /-- MTP_STALL_NOW.REASON: 4 bits; 16 R495; reset 0. -/
  stallNow : Nat := 0
  /-- MTP_STALL_NOW.LC with AWAITED: 14 bits; 16 R495; reset none. -/
  awaited : Option Nat := none
  /-- The ticket for whose verdict a core waits that would read its unit's words (R31, R101), none for any of its own; 01 R31; reset none. -/
  stallOn : Option Nat := none
  /-- Reel count at which the stall or hold began; 14 R451; reset 0. -/
  stallSince : Nat := 0
  /-- Latched HI registers by offset (R60, R499); 02 R60; reset 0. -/
  hi : Table Nat := []
  /-- Watermark set latched by a read of MTP_WM_OPER (R498); 16 R498; reset zero. -/
  wmLatch : WmSet := default
  /-- MTP_RING: tap event ring, 64 entries, newest first; 14 R455; reset none. -/
  ring : List RingEntry := []
  /-- MTP_RING_CTL.NEXT: 6 bits; 16 R495; reset 0. -/
  ringNext : Nat := 0
  /-- MTP_RING_CTL.FROZEN: 1 bit; 16 R495; reset 0. -/
  ringFrozen : Bool := false
  /-- MTP_RING_CTL.FREEZE_ON_DETECT: 1 bit; 16 R495; reset 0. -/
  freezeOnDetect : Bool := false
  /-- MTP_WIN_SEL.INDEX: 6 bits; 16 R495; reset 0. -/
  winSel : Nat := 0
  /-- MTP_WIN_REJECT: 32 bits; 16 R495; reset 0. -/
  winReject : Nat := 0
  /-- The window table of a tap that carries no logical core: 64 entries; 16 R495, 08 R277; reset CLOSED, zero. -/
  wins : Table Win := []
  /-- Relaxed mode is in effect for the core (R89); 02 R89; reset 0. -/
  relaxed : Bool := false
  /-- Issue steps completed of the replay that runs on the core (R55); 02 R55; reset 0. -/
  replaySteps : Nat := 0
  /-- Triage freeze (R30); 01 R30; reset 0. -/
  frozen : Bool := false
  /-- Holds of this core in force: (reason + 16 * holder, begin), oldest first; 02 R83, R87; reset none. -/
  holds : List (Nat × Nat) := []
  /-- Parked for a slice (R186), or left parked after a failed slice (R201); 06 R186; reset 0. -/
  parked : Bool := false
  /-- Resetting (R496); 08 R279; reset 0. -/
  resetting : Bool := false
  /-- Local router ports fenced (R280); 08 R280; reset 0. -/
  portFence : Bool := false
  /-- What waits for the core's unpark, oldest first: register writes, verdicts, self-checks, mesh accesses and transfers (R188, R496); verdicts also
      for the end of a breakpoint hold (R440); 06 R188; reset none. -/
  deferred : List Deferred := []
  /-- Restart register: the sequencer state at the restart point of the unit opened last; 05 R166; reset none. -/
  restart : List Nat := []
  /-- The sequencer state presented at the last issue step; 03 R123; reset none. -/
  seqNow : List Nat := []
  /-- Hang watchdog: reel count of the last completed issue step (R268); 08 R268; reset 0. -/
  lastIssue : Nat := 0
  /-- KRM waits of this core seen by hang walks since its last step (R270); 08 R270; reset 0. -/
  krmWaits : Nat := 0
  /-- A hang check runs on the core (R268); 08 R268; reset 0. -/
  hangCheck : Bool := false
  /-- HALT_REEL latched at a global stop; 14 R443; reset none. -/
  haltReel : Option Nat := none
  /-- Logical step count at which the RUN of a BRK_RESUME holds the core again; 14 R441; reset none. -/
  runTo : Option Nat := none
  /-- SCREEN_LATE has been written since the last passing periodic run; 06 R200; reset 0. -/
  lateShown : Bool := false
  /-- SCREEN_OVERDUE has been written since the last passing periodic run; 06 R200; reset 0. -/
  overShown : Bool := false
  /-- A breakpoint hold of more than 1 s opens the core to screening outside windows; 14 Table 14.3; reset 0. -/
  openScreen : Bool := false
  /-- A screen verdict of Table 6.4 that waits for the re-placement of the core's logical core; 06 R203; reset none. -/
  screenVerdict : Option Nat := none
  /-- The core runs the hang sequence of Table 8.7 from its re-placement to the end of its targeted run; 08 R271; reset 0. -/
  hung : Bool := false
  /-- CORE.HANGRESET: the core reset of its hang sequence has run; 08 Table 8.7; reset 0. -/
  hangReset : Bool := false
  /-- A BLK of the core that waits for its triage (Table 8.13): its source; 08 R289; reset none. -/
  blkWait : Option Nat := none
  /-- Final class ESCAPED (Table 5.8): returns only by CORE_RETURN after a later fleet run passes; 05 R181; reset none. -/
  escaped : Option Bool := none
deriving DecidableEq, Repr, Inhabited

/-- A semaphore-protected slot (R125). -/
structure Slot where
  /-- SLOT.base: byte offset; 03 R125; reset n/a (the plan gives it). -/
  base : Nat
  /-- SLOT.len: bytes; 03 R125; reset n/a. -/
  len : Nat
  /-- SLOT.state: 0 EMPTY, 1 WRITING, 2 FILLED; 03 R125; reset n/a (the plan gives it). -/
  state : Nat
  /-- SLOT.readers: open tickets whose units read the slot (R167); 05 R167; reset none. -/
  readers : List Nat
  /-- SLOT.drainWait: the slot's drain signal is delayed (R167); 05 R167; reset 0. -/
  drainWait : Bool
  /-- SLOT.owner: tag of the context whose load filled the entry; 08 R273; reset n/a (the load gives it). -/
  owner : Nat := 0
deriving DecidableEq, Repr, Inhabited

/-- A press point of a logical core, with what is saved of its state there (R142, R163, R171). -/
structure PressPoint where
  /-- POINT.step: logical step count; 05 R163; reset 0. -/
  step : Nat := 0
  /-- POINT.start: the steps of the plan that the logical core had executed at the point, replays left out; 05 R164; reset 0. -/
  start : Nat := 0
  /-- POINT.wait: tickets opened before the point that have not closed as passed or poisoned; 05 R163; reset none. -/
  wait : List Nat := []
  /-- POINT.slots: slot states; 05 Table 5.6; reset none. -/
  slots : Table (Option Slot) := []
  /-- POINT.partials: operator partials, of the units opened before the point; 04 R142; reset none. -/
  partials : List WmSet := []
  /-- POINT.rseq: release sequence numbers; 03 R113; reset 0. -/
  rseq : Table Nat := []
  /-- POINT.joins: join positions; 05 Table 5.6; reset 0. -/
  joins : Table Nat := []
  /-- POINT.opLast: executions whose last unit had been opened; 05 Table 5.6; reset none. -/
  opLast : List Nat := []
  /-- POINT.seq: the sequencer state there; 05 Table 5.6; reset none. -/
  seq : List Nat := []
  /-- POINT.passes: executions ended; 05 Table 5.6; reset 0. -/
  passes : Table Nat := []
deriving DecidableEq, Repr, Inhabited

/-- What belongs to a logical core and moves with it (R58, R143, R437, R501). -/
structure Lc where
  /-- MTP_LSTEP: 64 bits; 02 R55; reset 0 (context load). -/
  lstep : Nat := 0
  /-- MTP_STATUS.LSTEP_VALID: 1 bit; 16 R495; reset 0. -/
  lstepValid : Bool := false
  /-- MTP_PLACE.TAG with CTX_VALID: 16 bits; 16 R495; reset none. -/
  tag : Option Nat := none
  /-- Replay steps that the count includes and that are no steps of the plan (R57, R164); 05 R164; reset 0. -/
  extra : Nat := 0
  /-- Released to issue (R75); 02 R75; reset 0. -/
  issuing : Bool := false
  /-- Slot table, at most 256; 03 R125; reset none (the plan gives it). -/
  slots : Table (Option Slot) := []
  /-- Window table, 64 entries; 08 R277; reset CLOSED, zero. -/
  wins : Table Win := []
  /-- Watchpoints 0-7; 14 R435; reset none. -/
  watch : Table (Option Watch) := []
  /-- MTP_WM: open operator partials; 04 R142; reset none. -/
  partials : List WmSet := []
  /-- Last shard record written; 04 R143; reset none. -/
  lastShard : Option WmSet := none
  /-- Shard ring, 256 records, newest first; 04 R143; reset none. -/
  shards : List DigestRec := []
  /-- Core that carried the logical core when each shard record was written, newest first; 04 R147; reset none. -/
  ringCores : List Nat := []
  /-- Shard records written since the last restore, at most 256; 04 Table 4.7 step 6; reset 0. -/
  ringNew : Nat := 0
  /-- Steps below this count are executed again after a rollback, so their units set REPLAYED (R139); 04 R139; reset 0. -/
  redo : Nat := 0
  /-- Shard-ring offset; 04 R143; reset 0 (the plan gives it). -/
  ringOffset : Nat := 0
  /-- Release sequence numbers by layer * 65,536 + operator; 03 R113; reset 0. -/
  rseq : Table Nat := []
  /-- The press boundary: its step count, and the state saved there; 05 R163, R171; reset step 0, nothing saved. -/
  base : PressPoint := {}
  /-- Press points that issue has passed since the boundary, oldest first; 05 R163; reset none. -/
  points : List PressPoint := []
  /-- A ticket opened since the boundary has closed neither as passed nor as poisoned, so no later point is reached (R163); 05 R163; reset 0. -/
  lost : Bool := false
  /-- Rollback generation its tap holds (R165): 8 bits; 05 R165; reset 0. -/
  gen : Nat := 0
  /-- Current operator (layer, operator); 14 Table 14.2; reset none. -/
  oper : Option (Nat × Nat) := none
  /-- Executions whose last release unit has been opened and that have not ended, oldest first, as layer * 65,536 + operator; 04 R143; reset none. -/
  opLast : List Nat := []
  /-- Executions of each operator that have ended, by layer * 65,536 + operator: the PASS of its next record; 04 Table 4.2; reset 0. -/
  passes : Table Nat := []
  /-- Transfers held at the release gate, oldest first; 03 R99; reset none. -/
  gate : List GateXfer := []
  /-- Order position of each join (R127); 03 R127; reset 0. -/
  joins : Table Nat := []
  /-- Logical cores whose failures have marked this one, so that it is held back from consuming marked input (R31); 01 R31; reset none. -/
  marked : List Nat := []
  /-- Held at a snapshot point (Table 9.5); 09 R303; reset 0. -/
  snapHeld : Bool := false
  /-- The carrier's busy, idle and hold totals when its current operator's execution began; 14 R453; reset 0. -/
  prof : Nat × Nat × Nat := (0, 0, 0)
  /-- As prof, the stall totals by reason; 14 R453; reset 0. -/
  profStall : Table Nat := []
  /-- Whether transfers addressed to it are held at its home die (R259); 08 R259; reset 0. -/
  xferHold : Bool := false
  /-- Pending transfers held (R259), oldest first; 08 R259; reset none. -/
  heldXfers : List Xfer := []
  /-- Carrier at the logical core's hang, and whether its first release unit has closed since (R272); 08 R272; reset none. -/
  hangFrom : Option Nat := none
  /-- Reel count since when it waits on another package (R291); 09 R291; reset none. -/
  xwaitSince : Option Nat := none
deriving DecidableEq, Repr, Inhabited

/-- A transaction sent that waits for its ACK (R363): the transaction and resends so far. -/
structure Pend where
  t : Txn
  resends : Nat
  /-- Targets that have acknowledged. -/
  acked : List Nat
deriving DecidableEq, Repr, Inhabited

/-- A frame that waits for an output port or is being sent there (R355, R358). -/
structure FeltFrame where
  /-- FRAME.cls: 2 bits, FC0-FC3; 11 R353; reset n/a. -/
  cls : Nat
  /-- FRAME.own: the station injects it, rather than forwards it; 11 R358; reset n/a. -/
  own : Bool
  /-- FRAME.port: the port of the station that received a transit frame, 0-3; 11 R359; reset n/a. -/
  port : Nat
  /-- FRAME.words: two header words, 0-16 payload words, the CRC, 32 bits each; 11 R355, Table 11.4; reset n/a. -/
  words : List Nat
  /-- FRAME.left: flits not sent yet; 11 R358; reset n/a. -/
  left : Nat
deriving DecidableEq, Repr, Inhabited

/-- Whose turn it is at an output port within a class (R358). -/
structure Turn where
  /-- TURN.lastOwn: the last frame sent was the station's own; 11 R358; reset DESIGN CHOICE 0 (log 76). -/
  lastOwn : Bool := false
  /-- TURN.run: transit frames in a row, 0-16; 11 R358; reset 0. -/
  run : Nat := 0
deriving DecidableEq, Repr, Inhabited

/-- One port of a station, port = die * 4 + ring * 2 + (0 up, 1 down) (R347). -/
structure Port where
  /-- Link down (R368); 11 R368; reset 0. -/
  down : Bool := false
  /-- Reel counts of the last link errors, newest first (R368); 11 R368; reset none. -/
  errors : List Nat := []
  /-- Flit credits held, FC0-FC3 (R359); 11 R359; reset 48, 64, 64, 64. -/
  credits : Nat × Nat × Nat × Nat := (48, 64, 64, 64)
  /-- Probe value outstanding on a down link; 11 R370; reset none. -/
  probe : Option Nat := none
  /-- Reel count since when probes have been echoed correctly; 11 R370; reset none. -/
  cleanSince : Option Nat := none
  /-- Reel count at which the link was declared down; 11 R382; reset 0. -/
  downSince : Nat := 0
  /-- Why the link was declared down, as RING_FAILOVER's cause: 2 bits; 11 R382; reset 0. -/
  cause : Nat := 0
  /-- Alignment attempts that were not valid (R67): 0-8; 02 R67; reset 0. -/
  tries : Nat := 0
  /-- Frames that wait for the port or are being sent, oldest first (R358); 11 R358; reset none. -/
  queue : List FeltFrame := []
  /-- Link control flits that wait for the port, oldest first: code, data (R358); 11 R358; reset none. -/
  ctl : List (Nat × Nat) := []
  /-- Position in the round of 8 flits that FC1-FC3 share (Table 11.5); 11 R358; reset DESIGN CHOICE 0 (log 76). -/
  slot : Nat := 0
  /-- Flits sent since the last link control flit, 0-7 (R358); 11 R358; reset 7. -/
  sinceCtl : Nat := 7
  /-- Turns within each class; 11 R358; reset none taken. -/
  turns : Table Turn := []
deriving DecidableEq, Repr, Inhabited

/-- The Felt network (11). -/
structure Felt where
  /-- Ports by die * 4 + ring * 2 + direction; 11 R347; reset up with full credit. -/
  ports : Table Port := []
  /-- Next SEQ by die * 4 + class: 16 bits; 11 R363; reset DESIGN CHOICE 0 (log 4). -/
  seq : Table Nat := []
  /-- Transactions that wait for an ACK, oldest first; 11 R363; reset none. -/
  waiting : List Pend := []
  /-- Receiver: SEQs executed by (receiver die * 128 + source) * 4 + class, newest first, at most 65; 11 R363; reset none. -/
  seen : Table (List Nat) := []
  /-- Link in the middle of a ring: broken links by ring * 128 + lower position; 11 R369; reset none. -/
  broken : List Nat := []
  /-- Broken links, as above, whose RING_FAILOVER the active Vat has written; 11 Table 11.7; reset none. -/
  logged : List Nat := []
  /-- RING_JOIN activation counts by ring * 128 + lower position; 11 R370; reset none. -/
  joins : Table (Option Nat) := []
  /-- Partly received transactions: receiver, source, class, reel count of the last segment; 11 R356; reset none. -/
  partialTxns : List (Nat × Nat × Nat × Nat) := []
  /-- Reel count of the last message received from each die by the active Vat (R371); 11 R371; reset none. -/
  heard : Table (Option Nat) := []
deriving DecidableEq, Repr, Inhabited

/-- The whole machine. -/
structure State where
  /-- The command queue, first in first out: n/a; the model's form; reset empty. -/
  pending : List Instr
  /-- Boundary outputs, newest first: n/a; the model's own field; reset empty. -/
  out : List Out
  /-- Free values drawn so far: n/a; the model's own field; reset DESIGN CHOICE 0 (log 6). -/
  fresh : Nat
  /-- The correct reel count: 64 bits; 00 R5; reset 0. -/
  reel : Nat
  pkg : Pkg
  vatA : Vat
  vatB : Vat
  sh : Shared
  dbg : Debug
  /-- Dies 0-99: see Die. -/
  dies : Table Die
  /-- Taps by physical core ID: see Core. -/
  cores : Table Core
  /-- Logical cores 0-13,823: see Lc. -/
  lcs : Table Lc
  felt : Felt
deriving DecidableEq, Repr

/-- The machine right after reset, SYS_RST_N still asserted: every field at its reset value, every table unlisted (R15, R470; log 2). -/
def State.reset : State :=
  { pending := [], out := [], fresh := 0, reel := 0, pkg := {}, vatA := {}, vatB := {}, sh := {}, dbg := {}, dies := [], cores := [],
    lcs := [], felt := {} }

end Sys2Proof.Machine
end

