-- ==== Sys2Proof/Machine/Tables.lean ====
section
/-! DEFINITION. Sparse tables, and the small arithmetic of fields. -/

namespace Sys2Proof.Machine

/-! ## Sparse tables -/

/-- The entry of key `n`, or `d` when it is unlisted. -/
def tget {α : Type} (d : α) : Table α → Nat → α
  | [], _ => d
  | (k, v) :: t, n => if n = k then v else tget d t n

/-- Removes the entry of key `n`. -/
def tdel {α : Type} (t : Table α) (n : Nat) : Table α := t.filter fun e => e.1 != n

/-- Inserts an entry before the first larger key. -/
def tins {α : Type} (n : Nat) (v : α) : Table α → Table α
  | [] => [(n, v)]
  | (k, w) :: t => if n < k then (n, v) :: (k, w) :: t else (k, w) :: tins n v t

/-- Sets the entry of key `n`, keeping the canonical form: writing `d` removes the entry. -/
def tset {α : Type} [DecidableEq α] (d : α) (t : Table α) (n : Nat) (v : α) : Table α :=
  if v = d then tdel t n else tins n v (tdel t n)

/-- The canonical form above key `lo`: rising keys, no entry equal to `d`. -/
def tfrom {α : Type} [DecidableEq α] (d : α) (lo : Nat) : Table α → Bool
  | [] => true
  | (k, v) :: t => decide (lo ≤ k) && decide (v ≠ d) && tfrom d (k + 1) t

/-- The canonical form of a table. -/
def twf {α : Type} [DecidableEq α] (d : α) (t : Table α) : Bool := tfrom d 0 t

/-- A table over the keys `n`, `n+1`, ... from a list of entries. -/
def tput {α : Type} [DecidableEq α] (d : α) (t : Table α) (n : Nat) : List α → Table α
  | [] => t
  | v :: vs => tput d (tset d t n v) (n + 1) vs

/-- Inserts into a strictly rising list of numbers. -/
def insertNat (n : Nat) : List Nat → List Nat
  | [] => [n]
  | k :: t => if n < k then n :: k :: t else if n = k then k :: t else k :: insertNat n t

/-- Saturating addition at `2 ^ w - 1`. -/
def satAdd (w a b : Nat) : Nat := min (2 ^ w - 1) (a + b)
/-- Saturation at `2 ^ w - 1`. -/
def sat (w a : Nat) : Nat := min (2 ^ w - 1) a
/-- Bits `[lo + w - 1 : lo]` of a number. -/
def bits (v lo w : Nat) : Nat := v / 2 ^ lo % 2 ^ w
/-- Bit `b` of a number. -/
def bit (v b : Nat) : Bool := v / 2 ^ b % 2 == 1
/-- 1 or 0. -/
def b2n (b : Bool) : Nat := if b then 1 else 0
/-- Division rounded up. -/
def ceilDiv (a b : Nat) : Nat := (a + b - 1) / b
/-- Applies `f` for each element of a list, in order. -/
def each {α β : Type} (l : List α) (f : β → α → β) (b : β) : β := l.foldl f b
/-- A two's-complement field of `w` bits. -/
def twos (w : Nat) (v : Int) : Nat := (v % (2 ^ w : Nat)).toNat

end Sys2Proof.Machine
end

