-- ==== Sys2Proof/Machine/Frames.lean ====
section
/-! DEFINITION. The forms of Felt's flits and frames (R353-R356), and CRC-32C. -/

namespace Sys2Proof.Machine

/-! ## CRC-32C (R355, R416, R458) -/

/-- One bit of CRC-32C, reflected polynomial 0x82F63B78. -/
def crcBit (c : Nat) : Nat := if c % 2 = 1 then c / 2 ^^^ 0x82F63B78 else c / 2
/-- One byte of CRC-32C. -/
def crcByte (c b : Nat) : Nat := crcBit (crcBit (crcBit (crcBit (crcBit (crcBit (crcBit (crcBit (c ^^^ b))))))))
/-- CRC-32C of bytes: initial value and final XOR 0xFFFFFFFF (R458). -/
def crc32c (l : List Nat) : Nat := l.foldl crcByte 0xFFFFFFFF ^^^ 0xFFFFFFFF
/-- The bytes of a number, least significant first. -/
def numBytes : Nat → Nat → List Nat
  | 0, _ => []
  | n + 1, v => v % 256 :: numBytes n (v / 256)
/-- The bytes of a word, least significant first. -/
def wordBytes (w : Nat) : List Nat := [w % 256, w / 256 % 256, w / 65536 % 256, w / 16777216 % 256]

/-! ## Flits (R353, R354) -/

/-- The class of a transaction type (Table 11.6). -/
def typeClass (ty : Nat) : Nat := if ty < 0x40 then 0 else if ty < 0x80 then 1 else if ty < 0xC0 then 2 else 3

/-- The exclusive or of the low `n` nibbles of a number. -/
def xorNibbles : Nat → Nat → Nat
  | 0, _ => 0
  | n + 1, v => v % 16 ^^^ xorNibbles n (v / 16)
/-- The control nibble of a flit: class, SOF, EOF. -/
def flitControl (cls : Nat) (sof eof : Bool) : Nat := cls % 4 * 4 + b2n sof * 2 + b2n eof
/-- A flit's 40 bits: control nibble, check, data (R353). -/
def flitNum (cls : Nat) (sof eof : Bool) (data : Nat) : Nat :=
  let c := flitControl cls sof eof
  c * 2 ^ 36 + (c ^^^ xorNibbles 8 data) * 2 ^ 32 + data % 2 ^ 32
/-- The ten nibbles of a flit in the order sent, from bits [39:36] down. -/
def flitNibbles (f : Nat) : List Nat := (List.range 10).map fun i => bits f (36 - 4 * i) 4
/-- A flit whose check nibble is the exclusive or of the other nine. -/
def flitOk (f : Nat) : Bool := xorNibbles 10 f == 0
/-- What a receiver makes of a flit: a link control code with its data, a flit of a frame as class, SOF, EOF and data, or a link error (R354). -/
inductive FlitKind where
  | control (code data : Nat)
  | frame (cls : Nat) (sof eof : Bool) (data : Nat)
  | error
deriving DecidableEq, Repr, Inhabited
/-- The receiver's reading of a flit (R353, R354). -/
def readFlit (f : Nat) : FlitKind :=
  let cls := bits f 38 2
  if !flitOk f then .error
  else if bit f 37 && bit f 36 then
    (if cls = 0 && 1 ≤ bits f 24 8 && bits f 24 8 ≤ 5 then .control (bits f 24 8) (bits f 0 24) else .error)
  else .frame cls (bit f 37) (bit f 36) (bits f 0 32)
/-- A link control flit (Table 11.3). -/
def controlFlit (code data : Nat) : Nat := flitNum 0 true true (code * 2 ^ 24 + data % 2 ^ 24)

/-! ## Frames (R355, R356, R361, R362) -/

/-- The DST field of a transaction: the die, the partition of a multicast, zero for a broadcast (Table 11.4). -/
def dstField (t : Txn) : Nat := if t.mode = 0 then t.dst % 128 else if t.mode = 2 then t.dst % 32 else 0
/-- Header word 0 (Table 11.4). -/
def headWord0 (t : Txn) (plen : Nat) : Nat := t.type % 256 * 2 ^ 24 + t.mode % 4 * 2 ^ 22 + dstField t * 2 ^ 15 + t.src % 128 * 2 ^ 8 + plen % 32 * 2 ^ 3
/-- Header word 1 (Table 11.4). -/
def headWord1 (seq ttl ring seg : Nat) (last : Bool) : Nat :=
  seq % 2 ^ 16 * 2 ^ 16 + ttl % 128 * 2 ^ 9 + ring % 2 * 2 ^ 8 + seg % 32 * 2 ^ 3 + b2n last * 2 ^ 2
/-- A frame's words: two header words, the payload, and the trailer with the CRC-32C of the words before it, each least significant byte first. -/
def frameWords (t : Txn) (ttl ring seg : Nat) (last : Bool) (payload : List Nat) : List Nat :=
  let l := headWord0 t payload.length :: headWord1 t.seq ttl ring seg last :: payload
  l ++ [crc32c (l.flatMap wordBytes)]
/-- A frame's flits: every one of the frame's class, SOF on the first and EOF on the trailer. -/
def frameFlits (cls : Nat) (words : List Nat) : List Nat :=
  words.zipIdx.map fun e => flitNum cls (e.2 == 0) (e.2 + 1 == words.length) e.1
/-- Payload flits of a frame at most: 8 in FC0, else 16 (R356). -/
def frameLimit (cls : Nat) : Nat := if cls = 0 then 8 else 16
/-- The segments of a payload, in SEG order (R356); `k` bounds their number. -/
def segments : Nat → Nat → List Nat → List (List Nat)
  | 0, _, _ => []
  | k + 1, n, l => if l.length ≤ n then [l] else l.take n :: segments k n (l.drop n)
/-- The frames of one copy of a transaction on a ring, as words (R355, R356). -/
def wireFrames (t : Txn) (ttl ring : Nat) : List (List Nat) :=
  let l := segments 32 (frameLimit (typeClass t.type)) t.words
  l.zipIdx.map fun e => frameWords t ttl ring e.2 (e.2 + 1 == l.length) e.1
/-- A frame as received: class, header words, payload. -/
structure FrameIn where
  cls : Nat
  w0 : Nat
  w1 : Nat
  payload : List Nat
deriving DecidableEq, Repr, Inhabited
/-- What a receiver makes of the flits of one class from SOF to EOF (R353-R356): a frame whose flits check, whose PLEN is its flit count, of a length that
    its class allows, with the right CRC; otherwise none. -/
def readFrame (flits : List Nat) : Option FrameIn :=
  let l := flits.map readFlit
  let ok := l.zipIdx.all fun e => match e.1 with
    | .frame _ sof eof _ => sof == (e.2 == 0) && eof == (e.2 + 1 == l.length)
    | _ => false
  let cls := match l.head? with | some (.frame c _ _ _) => c | _ => 0
  let same := l.all fun x => match x with | .frame c _ _ _ => c == cls | _ => false
  let w := l.map fun x => match x with | .frame _ _ _ v => v | _ => 0
  let n := l.length - 3
  if ok && same && decide (3 ≤ l.length) && decide (n ≤ frameLimit cls) && bits (w.getD 0 0) 3 5 == n &&
      crc32c ((w.take (n + 2)).flatMap wordBytes) == w.getD (n + 2) 0 then
    some { cls := cls, w0 := w.getD 0 0, w1 := w.getD 1 0, payload := (w.drop 2).take n }
  else none
/-- TTL of a frame. -/
def FrameIn.ttl (f : FrameIn) : Nat := bits f.w1 9 7
/-- MODE of a frame. -/
def FrameIn.mode (f : FrameIn) : Nat := bits f.w0 22 2
/-- DST of a frame. -/
def FrameIn.dst (f : FrameIn) : Nat := bits f.w0 15 7
/-- SRC of a frame. -/
def FrameIn.src (f : FrameIn) : Nat := bits f.w0 8 7
/-- SEQ of a frame. -/
def FrameIn.seq (f : FrameIn) : Nat := bits f.w1 16 16
/-- LASTSEG of a frame. -/
def FrameIn.last (f : FrameIn) : Bool := bit f.w1 2
/-- A frame's words as the station sends it on: TTL one lower, the CRC made anew. -/
def FrameIn.forward (f : FrameIn) : List Nat :=
  let l := f.w0 :: (f.w1 - 2 ^ 9) :: f.payload
  l ++ [crc32c (l.flatMap wordBytes)]

end Sys2Proof.Machine
end

