-- ==== Sys2Proof/Machine/Ops.lean ====
section
/-! DEFINITION. The shared operations: identifiers, access to the parts of State, reel copies, roles, Felt transactions,
the mirror, interrupts and guards. -/

namespace Sys2Proof.Machine

/-! ## Identifiers (R6, R8, R228) -/

/-- The die number of a hub (Table 0.2). -/
def hubDie : Hub → Nat
  | .a => 96
  | .b => 97
/-- The other hub. -/
def otherHub : Hub → Hub
  | .a => .b
  | .b => .a
/-- 0 for Vat A, 1 for Vat B. -/
def hubNum : Hub → Nat
  | .a => 0
  | .b => 1
/-- The hub of a hub die. -/
def dieHub (d : Nat) : Option Hub := if d = 96 then some .a else if d = 97 then some .b else none
/-- A compute die. -/
def isCompute (d : Nat) : Bool := d < 96
/-- A die that exists (Table 0.2). -/
def isDie (d : Nat) : Bool := d < 100
/-- A physical core ID in range (Table 0.3). -/
def validCore (p : Nat) : Bool := p / 256 < 96 && p / 16 % 16 < 12 && p % 16 < 13
/-- The die of a physical core ID. -/
def coreDie (p : Nat) : Nat := p / 256
/-- The cluster of a physical core ID. -/
def coreCluster (p : Nat) : Nat := p / 16 % 16
/-- Core index in die, cluster * 13 + core. -/
def coreIndex (p : Nat) : Nat := p / 16 % 16 * 13 + p % 16
/-- The physical core ID of a core index of a die. -/
def pcoreOf (d i : Nat) : Nat := d * 256 + i / 13 * 16 + i % 13
/-- The physical core IDs of a cluster, ascending. -/
def clusterCores (d c : Nat) : List Nat := (List.range 13).map fun i => d * 256 + c * 16 + i
/-- The physical core IDs of a compute die, ascending. -/
def dieCores (d : Nat) : List Nat := (List.range 156).map (pcoreOf d)
/-- A core source (R8). -/
def coreSource (p off : Nat) : Nat := coreDie p * 8192 + coreIndex p * 48 + off
/-- A die-level source (Table 7.3). -/
def dieSource (d k : Nat) : Nat := d * 8192 + 7488 + k
/-- A cluster source (Table 7.4). -/
def clusterSource (d c kind : Nat) : Nat := dieSource d (32 + c * 8 + kind)
/-- A hub source, d 32 + `k` (Table 7.4). -/
def hubSource (h : Hub) (k : Nat) : Nat := dieSource (hubDie h) (32 + k)
/-- An optical engine source (Table 7.4). -/
def engineSource (d e kind : Nat) : Nat := dieSource d (32 + e * 4 + kind)
/-- A package source (Table 7.5). -/
def pkgSource (n : Nat) : Nat := 100 * 8192 + n
/-- A partition source (Table 7.5). -/
def partSource (p kind : Nat) : Nat := 101 * 8192 + p * 16 + kind
/-- A context source (Table 7.5). -/
def ctxSource (c kind : Nat) : Nat := (104 + c / 1024) * 8192 + c % 1024 * 8 + kind
/-- The die field of a source ID. -/
def sourceDie (src : Nat) : Nat := src / 8192
/-- The core of a core source, none for another source. -/
def sourceCore (src : Nat) : Option Nat :=
  if sourceDie src < 96 && src % 8192 < 7488 then some (pcoreOf (sourceDie src) (src % 8192 / 48)) else none
/-- The context of a context source. -/
def sourceCtx (src : Nat) : Option Nat :=
  if 104 ≤ sourceDie src && sourceDie src < 108 then some ((sourceDie src - 104) * 1024 + src % 8192 / 8) else none
/-- The ring position of a die (Table 11.1). -/
def ringPos (d : Nat) : Nat := if d < 48 then d else if d < 96 then d + 2 else if d < 98 then d - 48 else d
/-- The die at a ring position (Table 11.1). -/
def posDie (p : Nat) : Nat := if p < 48 then p else if p < 50 then p + 48 else if p < 98 then p - 2 else p
/-- The downstream neighbour of a die, the next ring position (R348). -/
def nextDie (d : Nat) : Nat := posDie ((ringPos d + 1) % 100)
/-- The upstream neighbour of a die (R348). -/
def prevDie (d : Nat) : Nat := posDie ((ringPos d + 99) % 100)
/-- Hops between two dies on a whole ring. -/
def ringHops (a b : Nat) : Nat := let k := (ringPos a + 100 - ringPos b) % 100; min k (100 - k)

/-! ## Parts of the state -/

/-- Updates the package part. -/
def State.modPkg (s : State) (f : Pkg → Pkg) : State := { s with pkg := f s.pkg }
/-- Updates the mirrored part. -/
def State.modSh (s : State) (f : Shared → Shared) : State := { s with sh := f s.sh }
/-- Updates the debug part. -/
def State.modDbg (s : State) (f : Debug → Debug) : State := { s with dbg := f s.dbg }
/-- Updates the Felt part. -/
def State.modFelt (s : State) (f : Felt → Felt) : State := { s with felt := f s.felt }
/-- One Vat. -/
def State.vat (s : State) : Hub → Vat
  | .a => s.vatA
  | .b => s.vatB
/-- Updates one Vat. -/
def State.modVat (s : State) (h : Hub) (f : Vat → Vat) : State :=
  match h with
  | .a => { s with vatA := f s.vatA }
  | .b => { s with vatB := f s.vatB }
/-- One die. -/
def State.die (s : State) (d : Nat) : Die := tget {} s.dies d
/-- Updates one die. -/
def State.modDie (s : State) (d : Nat) (f : Die → Die) : State := { s with dies := tset {} s.dies d (f (s.die d)) }
/-- One tap. -/
def State.core (s : State) (p : Nat) : Core := tget {} s.cores p
/-- Updates one tap. -/
def State.modCore (s : State) (p : Nat) (f : Core → Core) : State := { s with cores := tset {} s.cores p (f (s.core p)) }
/-- One logical core. -/
def State.lc (s : State) (n : Nat) : Lc := tget {} s.lcs n
/-- Updates one logical core. -/
def State.modLc (s : State) (n : Nat) (f : Lc → Lc) : State := { s with lcs := tset {} s.lcs n (f (s.lc n)) }
/-- One context. -/
def State.ctx (s : State) (c : Nat) : Ctx := tget {} s.sh.ctxs c
/-- Updates one context. -/
def State.modCtx (s : State) (c : Nat) (f : Ctx → Ctx) : State :=
  s.modSh fun h => { h with ctxs := tset {} h.ctxs c (f (tget {} h.ctxs c)) }
/-- One ticket. -/
def State.ticket (s : State) (t : Nat) : Ticket := tget {} s.sh.tickets t
/-- Updates one ticket. -/
def State.modTicket (s : State) (t : Nat) (f : Ticket → Ticket) : State :=
  s.modSh fun h => { h with tickets := tset {} h.tickets t (f (tget {} h.tickets t)) }
/-- One Felt port, die * 4 + ring * 2 + direction. -/
def State.port (s : State) (k : Nat) : Port := tget {} s.felt.ports k
/-- Updates one Felt port. -/
def State.modPort (s : State) (k : Nat) (f : Port → Port) : State :=
  s.modFelt fun n => { n with ports := tset {} n.ports k (f (tget {} n.ports k)) }
/-- One fault counter. -/
def State.counter (s : State) (src : Nat) : Counter := tget {} s.sh.counters src
/-- Adds a boundary output. -/
def State.emit (s : State) (o : Out) : State := { s with out := o :: s.out }
/-- Draws a free value: its number, and the state with the count advanced. -/
def State.draw (s : State) : Nat × State := (s.fresh, { s with fresh := s.fresh + 1 })

/-! ## Roles (R316) -/

/-- The hub whose Vat is ACTIVE. -/
def State.activeHub (s : State) : Option Hub :=
  if s.vatA.role = .active then some .a else if s.vatB.role = .active then some .b else none
/-- The hub whose Vat acts: the active one while it issues (R329), or Vat A in ROM minimal mode (R342). -/
def State.acting (s : State) : Option Hub :=
  match s.activeHub with
  | some h => if s.sh.switching then none else some h
  | none => if s.vatA.role = .romMinimal then some .a else none
/-- The hub that serves the alias: the acting one's, also while it waits for the mirror (R14, R329). -/
def State.aliasHub (s : State) : Option Hub := if s.sh.switching then s.activeHub else s.acting
/-- A Vat acts and is not in ROM minimal mode: resets and fencing orders are carried out (R342, Table 1.2). -/
def State.orders (s : State) : Bool := s.acting.isSome && s.activeHub.isSome
/-- The hub that follows the active one's mirror. -/
def State.standbyHub (s : State) : Option Hub :=
  match s.activeHub with
  | some h => if (s.vat (otherHub h)).role = .standby || (s.vat (otherHub h)).role = .syncing then some (otherHub h) else none
  | none => none
/-- The die whose hub acts; hub A's when none does. -/
def State.actDie (s : State) : Nat := match s.acting with | some h => hubDie h | none => 96
/-- The epoch of the acting Vat. -/
def State.epoch (s : State) : Nat := match s.acting with | some h => (s.vat h).epoch | none => 0
/-- The code of a role (Table 10.1, VAT_ROLE). -/
def roleCode : Role → Nat
  | .active => 0
  | .standby => 1
  | .syncing => 2
  | .offline => 3
  | .romMinimal => 4

/-! ## Reel copies (R65-R74) -/

/-- What a die's reel copy reads: zero until it starts, held while it is found ahead (R71), its local oscillator's counts from the loss of lock on
    while lock is lost (R72). -/
def State.dieReel (s : State) (d : Nat) : Nat :=
  let k := s.die d
  if !k.reelOn then 0
  else match k.reelFree with
    | some x => x.1 + (s.reel - x.2) * Config.oscillatorRate d x.1 / 2 ^ 20
    | none => match k.reelHeld with
      | some h => max h (s.reel + k.reelAdj).toNat
      | none => (s.reel + k.reelAdj).toNat
/-- The acting Vat's reel count (R74). -/
def State.now (s : State) : Nat := s.dieReel s.actDie

/-! ## Placement (R256-R258, R478) -/

/-- A physical entry (Table 8.1). -/
def physWord (state : Nat) (borrow : Bool) (lc cause : Nat) : Nat := state * 2 ^ 29 + b2n borrow * 2 ^ 28 + lc * 2 ^ 14 + cause * 2 ^ 8
/-- A home entry (Table 8.2). -/
def homeWord (valid : Bool) (lc pcore : Nat) : Nat := b2n valid * 2 ^ 31 + lc * 2 ^ 17 + pcore
/-- STATE of a physical entry: 0 SPARE, 1 SERVICE, 2 FENCED, 3 DEFECTIVE, 4 ABSENT. -/
def physState (w : Nat) : Nat := bits w 29 3
/-- The logical core that the placement table homes in a slot, die * 144 + cluster * 12 + slot. -/
def State.slotLc (s : State) (h : Nat) : Nat := (h + tget 0 s.pkg.placement h) % 13824
/-- The home slot of a logical core. -/
def State.homeSlot (s : State) (n : Nat) : Nat :=
  if tget 0 s.pkg.placement n = 0 then n
  else match s.pkg.placement.find? fun e => (e.1 + e.2) % 13824 == n with
    | some e => e.1
    | none => n
/-- The home die of a logical core (R258). -/
def State.homeDie (s : State) (n : Nat) : Nat := s.homeSlot n / 144
/-- The home cluster of a logical core. -/
def State.homeCluster (s : State) (n : Nat) : Nat := s.homeSlot n % 144 / 12
/-- The home entry of a logical core. -/
def State.home (s : State) (n : Nat) : Nat := tget 0 (s.die (s.homeDie n)).home (s.homeSlot n % 144)
/-- The carrier of a logical core, none when it is not placed. -/
def State.carrier (s : State) (n : Nat) : Option Nat := if bit (s.home n) 31 then some (bits (s.home n) 0 16) else none
/-- The physical entry of a core. -/
def State.phys (s : State) (p : Nat) : Nat := tget 0 (s.die (coreDie p)).phys (coreIndex p)
/-- The logical core that a core carries. -/
def State.lcOf (s : State) (p : Nat) : Option Nat := if physState (s.phys p) = 1 then some (bits (s.phys p) 14 14) else none
/-- A die's own slice of the deckle map (R24). -/
def State.slice (s : State) (d : Nat) : DeckleSlice := { gen := (s.die d).deckleGen, phys := (s.die d).phys, home := (s.die d).home }
/-- A change that the active Vat has ordered is made in the agent's slice and in the Vat's copy of it alike (R24). -/
def State.modSlice (s : State) (d : Nat) (f : DeckleSlice → DeckleSlice) : State :=
  let x := f (s.slice d)
  (s.modDie d fun k => { k with deckleGen := x.gen, phys := x.phys, home := x.home }).modSh fun h =>
    { h with deckleCopy := tset {} h.deckleCopy d (f (tget {} h.deckleCopy d)) }
/-- A physical entry written into a slice, with its map generation (R256). -/
def DeckleSlice.setPhys (i w : Nat) (k : DeckleSlice) : DeckleSlice := { k with gen := (k.gen + 1) % 2 ^ 32, phys := tset 0 k.phys i w }
/-- A home entry written into a slice, with its map generation (R256). -/
def DeckleSlice.setHome (i w : Nat) (k : DeckleSlice) : DeckleSlice := { k with gen := (k.gen + 1) % 2 ^ 32, home := tset 0 k.home i w }
/-- Writes a physical entry; a change increments the map generation (R256). -/
def State.setPhys (s : State) (p w : Nat) : State :=
  if s.phys p = w then s else s.modSlice (coreDie p) (DeckleSlice.setPhys (coreIndex p) w)
/-- Writes a home entry of a die; a change increments the map generation (R256). -/
def State.setHome (s : State) (d i w : Nat) : State :=
  if tget 0 (s.die d).home i = w then s else s.modSlice d (DeckleSlice.setHome i w)
/-- The partition of a compute die (R504). -/
def State.partOf (s : State) (d : Nat) : Nat := tget 0 s.pkg.partition d
/-- The compute dies of a partition, ascending. -/
def State.partDies (s : State) (p : Nat) : List Nat := (List.range 96).filter fun d => s.partOf d == p
/-- The partitions that hold a die, ascending. -/
def State.partsInUse (s : State) : List Nat := (List.range 32).filter fun p => (List.range 96).any fun d => s.partOf d == p
/-- A compute die that the licence and life-cycle state enable (R431, R477). -/
def State.enabled (s : State) (d : Nat) : Bool := isCompute d && bit s.pkg.dieMask d
/-- The context ID of a logical core's tag. -/
def State.lcCtx (s : State) (n : Nat) : Option Nat := (s.lc n).tag.map (· % 4096)
/-- The context that a core runs. -/
def State.coreCtx (s : State) (p : Nat) : Option Nat := (s.lcOf p).bind s.lcCtx
/-- What an event of a core source carries into its record (Table 7.8): the context, current layer and operator of the logical core it carries. -/
def State.coreDetail (s : State) (p : Nat) : Detail :=
  match s.lcOf p with
  | none => default
  | some n => let o := (s.lc n).oper.getD (0, 0); { ctx := (s.lcCtx n).getD 0, p2 := o.1, p3 := o.2 }
/-- The tag of a context: incarnation and ID (R273). -/
def State.tagOf (s : State) (c : Nat) : Nat := (s.ctx c).incarnation * 4096 + c
/-- The logical cores of a context's plan. -/
def State.ctxLcs (s : State) (c : Nat) : List Nat := match (s.ctx c).plan with | some p => p.lcs.map (·.lc) | none => []
/-- The physical cores of a context. -/
def State.ctxCores (s : State) (c : Nat) : List Nat := (s.ctxLcs c).filterMap s.carrier
/-- The compute dies that hold a core of a context, ascending. -/
def State.ctxDies (s : State) (c : Nat) : List Nat := ((s.ctxCores c).map coreDie).foldl (fun l d => insertNat d l) []
/-- The partitions that hold a core of a context, ascending. -/
def State.ctxParts (s : State) (c : Nat) : List Nat := ((s.ctxDies c).map s.partOf).foldl (fun l d => insertNat d l) []
/-- The plan's entry for a logical core of a context. -/
def State.planLc (s : State) (c n : Nat) : Option PlanLc :=
  match (s.ctx c).plan with | some p => p.lcs.find? fun e => e.lc == n | none => none

/-! ## Felt transactions (R363-R365) -/

/-- The types that Table 11.6 lists. -/
def knownTypes : List Nat :=
  [0x01, 0x02, 0x03, 0x04, 0x05, 0x06, 0x08, 0x09, 0x0A, 0x0B, 0x0C, 0x0D, 0x0E, 0x0F, 0x10, 0x11, 0x12, 0x3E, 0x40, 0x41, 0x42, 0x43, 0x44,
   0x7E, 0x80, 0x81, 0x82, 0x83, 0x84, 0x85, 0x86, 0x87, 0x88, 0x89, 0x8A, 0x8B, 0x8C, 0x8D, 0x8E, 0x8F, 0x90, 0x91, 0x92, 0x93, 0xBE, 0xC0,
   0xC1, 0xC2, 0xC3, 0xC4, 0xFE]
/-- The types that are not answered by ACK (Table 11.6). -/
def unackedTypes : List Nat :=
  [0x01, 0x02, 0x06, 0x11, 0x3E, 0x7E, 0x80, 0x81, 0x82, 0x83, 0x85, 0x87, 0x88, 0xBE, 0xC0, 0xFE]
/-- Whether a type is acknowledged by ACK. -/
def ackedType (ty : Nat) : Bool := !unackedTypes.contains ty
/-- Whether a sender waits for an answer: an ACK, or the AGENT_REPLY of an AGENT_CMD (Table 11.6). -/
def answeredType (ty : Nat) : Bool := ackedType ty || ty == 0x80

/-! ## Output ports and routing (R355-R362) -/

/-- Flits of the largest frame of a class (Table 11.5). -/
def largestFrame (cls : Nat) : Nat := if cls = 0 then 11 else 19
/-- The flit credit of a port for a class. -/
def Port.credit (p : Port) (cls : Nat) : Nat :=
  match cls with | 0 => p.credits.1 | 1 => p.credits.2.1 | 2 => p.credits.2.2.1 | _ => p.credits.2.2.2
/-- A port's flit credits with `n` of a class taken. -/
def Port.spend (p : Port) (cls n : Nat) : Nat × Nat × Nat × Nat :=
  let c := p.credits
  match cls with | 0 => (c.1 - n, c.2) | 1 => (c.1, c.2.1 - n, c.2.2) | 2 => (c.1, c.2.1, c.2.2.1 - n, c.2.2.2) | _ => (c.1, c.2.1, c.2.2.1, c.2.2.2 - n)
/-- The next buffer has credit for a frame: a transit frame needs its own length, an injected one the class's largest frame beside it (R359). -/
def Port.fits (p : Port) (f : FeltFrame) : Bool := decide (f.words.length + (if f.own then largestFrame f.cls else 0) ≤ p.credit f.cls)
/-- The frame of a class that the port sends a flit of next: the one under way, else of the oldest transit and the oldest own frame those that R359
    allows, in turn, and the station's own after 16 transit frames (R358). -/
def Port.nextFrame (p : Port) (cls : Nat) : Option FeltFrame :=
  let l := p.queue.filter fun f => f.cls == cls
  match l.find? fun f => f.left != f.words.length with
  | some f => some f
  | none =>
    let t := (l.find? fun f => !f.own).filter p.fits
    let o := (l.find? fun f => f.own).filter p.fits
    match t, o with
    | some t, some o => if !(tget {} p.turns cls).lastOwn || 16 ≤ (tget {} p.turns cls).run then some o else some t
    | some t, none => some t
    | none, o => o
/-- The class of each flit of a round of 8 (Table 11.5: FC1 4, FC2 2, FC3 2; their order within the round is log 76's). -/
def slotClass (k : Nat) : Nat := if k % 8 < 4 then 1 else if k % 8 < 6 then 2 else 3
/-- The frame that the port sends a flit of next, with the round's next position: FC0 first, then the first class of the round, from the present
    position on, that has a flit to send (R358). -/
def Port.choose (p : Port) : Option (FeltFrame × Nat) :=
  match p.nextFrame 0 with
  | some f => some (f, p.slot)
  | none => ((List.range 8).map (p.slot + ·)).findSome? fun k => (p.nextFrame (slotClass k)).map fun f => (f, (k + 1) % 8)
/-- One flit of a frame is sent: its first takes the credit for the frame, its last ends its turn. -/
def Port.sendFlit (p : Port) (f : FeltFrame) (slot : Nat) : Port :=
  let q := if f.left ≤ 1 then p.queue.erase f else p.queue.map fun g => if g = f then { f with left := f.left - 1 } else g
  let c := if f.left = f.words.length then p.spend f.cls f.words.length else p.credits
  let t := if f.left ≤ 1 then tset {} p.turns f.cls { lastOwn := f.own, run := if f.own then 0 else min 16 ((tget {} p.turns f.cls).run + 1) } else p.turns
  { p with queue := q, credits := c, slot := slot, sinceCtl := min 7 (p.sinceCtl + 1), turns := t }
/-- A port sends what it can, at most `n` flits: link control flits take precedence, at most one in every 8 flits while a frame waits (R358). A transit
    frame that has left gives its credit back by a CREDIT flit of the port that received it (R359). -/
def State.servePort : Nat → State → Nat → State
  | 0, s, _ => s
  | n + 1, s, k =>
    let p := s.port k
    match p.ctl, (if p.down then none else p.choose) with
    | [], none => s
    | (code, data) :: l, none =>
      State.servePort n ((s.modPort k fun p => { p with ctl := l, sinceCtl := 0 }).emit (.flit (k / 4) (k % 4) code data)) k
    | c, some (f, slot) =>
      match c.head?, decide (7 ≤ p.sinceCtl) with
      | some x, true => State.servePort n ((s.modPort k fun p => { p with ctl := p.ctl.drop 1, sinceCtl := 0 }).emit (.flit (k / 4) (k % 4) x.1 x.2)) k
      | _, _ =>
        let s := s.modPort k fun p => p.sendFlit f slot
        let s := if 1 < f.left then s
          else
            let s := s.emit (.frame (k / 4) (k % 4 / 2) f.cls f.words)
            if f.own then s
            else s.modPort (k / 4 * 4 + f.port) fun p => { p with ctl := p.ctl ++ [(1, f.words.length * 2 ^ (18 - 6 * f.cls))] }
        State.servePort n s k
/-- The flits that wait at a port. -/
def Port.waiting (p : Port) : Nat := p.ctl.length + (p.queue.map (·.left)).foldl (· + ·) 0
/-- A port sends everything that credit allows, and then the ring's other port of the station the CREDIT flits that follow from it. -/
def State.serve (s : State) (k : Nat) : State :=
  let s := State.servePort (s.port k).waiting s k
  let o := k / 2 * 2 + (k + 1) % 2
  State.servePort (s.port o).waiting s o
/-- A link control flit of a station (Table 11.3). -/
def State.control (s : State) (k code data : Nat) : State := (s.modPort k fun p => { p with ctl := p.ctl ++ [(code, data)] }).serve k
/-- Frames that a station discards leave the input buffers of the ports that received them, which return their flits (R359). -/
def State.discardFrames (s : State) (d : Nat) (l : List FeltFrame) : State :=
  each (l.filter fun f => !f.own) (fun s f => s.control (d * 4 + f.port) 1 (f.words.length * 2 ^ (18 - 6 * f.cls))) s
/-- Frames join a port's queue; a port of a down link discards them (Table 11.7). -/
def State.enqueue (s : State) (k : Nat) (l : List FeltFrame) : State :=
  if (s.port k).down then s.discardFrames (k / 4) l else (s.modPort k fun p => { p with queue := p.queue ++ l }).serve k
/-- Hops from a die up the ring to its first broken link. -/
def State.endUp (s : State) (d ring : Nat) : Option Nat :=
  ((s.felt.broken.filter fun l => l / 128 == ring).map fun l => (l % 128 + 100 - ringPos d) % 100).foldl (fun m h => some (min h (m.getD h))) none
/-- Hops from a die down the ring to its first broken link. -/
def State.endDown (s : State) (d ring : Nat) : Option Nat :=
  ((s.felt.broken.filter fun l => l / 128 == ring).map fun l => (ringPos d + 99 - l % 128) % 100).foldl (fun m h => some (min h (m.getD h))) none
/-- The copies of a transaction on a ring, as port of the station and TTL: unicast the shorter way, at 50 hops up, that crosses no break; broadcast and
    multicast both ways, to the middle of a whole ring or to the line's ends (R361, R362). -/
def State.copies (s : State) (t : Txn) (ring : Nat) : List (Nat × Nat) :=
  let u := s.endUp t.src ring
  let d := s.endDown t.src ring
  if t.mode = 0 then
    let h := (ringPos t.dst + 100 - ringPos t.src) % 100
    let up := match u with | some e => decide (h ≤ e) | none => true
    let down := match d with | some e => decide (100 - h ≤ e) | none => true
    if h = 0 then [] else if up && (decide (h ≤ 50) || !down) then [(ring * 2, h)] else if down then [(ring * 2 + 1, 100 - h)] else []
  else (if u = some 0 then [] else [(ring * 2, u.getD 50)]) ++ (if d = some 0 then [] else [(ring * 2 + 1, d.getD 49)])
/-- The frames of one copy of a transaction, as they wait at an output port (R355, R356). -/
def txnFrames (t : Txn) (ttl ring : Nat) : List FeltFrame :=
  (wireFrames t ttl ring).map fun w => { cls := typeClass t.type, own := true, port := 0, words := w, left := w.length }
/-- The rings that a station sends a transaction on (Table 11.5): both for FC0, the one that it must travel, else ring 0 while that is WHOLE or LINE. -/
def State.ringsFor (s : State) (t : Txn) : List Nat :=
  match t.ring with
  | some r => [r]
  | none => if typeClass t.type = 0 then [0, 1] else if (s.die t.src).ring0 < 2 then [0] else [1]
/-- A station injects a transaction's frames at its output ports (R358). -/
def State.inject (s : State) (t : Txn) : State :=
  each (s.ringsFor t) (fun s r => each (s.copies t r) (fun s c =>
    s.enqueue (t.src * 4 + c.1) (txnFrames t c.2 r)) s) s

/-! ## Sending and receiving (R363-R365) -/

/-- Sends a transaction, over one ring when the sender says so: it takes the next SEQ of its class, leaves the station, and waits for its answer when
    its type has one. -/
def State.feltSend (s : State) (src ty mode dst : Nat) (words : List Nat) (ring : Option Nat := none) : State :=
  let k := src * 4 + typeClass ty
  let t : Txn := { src := src, type := ty, mode := mode, dst := dst, seq := tget 0 s.felt.seq k, words := words, ring := ring }
  let s := s.modFelt fun n =>
    { n with seq := tset 0 n.seq k ((t.seq + 1) % 65536)
             waiting := if answeredType ty then n.waiting ++ [{ t := t, resends := 0, acked := [] }] else n.waiting }
  (s.inject t).emit (.felt t)
/-- A command of the acting Vat: its first word is the epoch (R318). -/
def State.vatSend (s : State) (ty mode dst : Nat) (words : List Nat) : State := s.feltSend s.actDie ty mode dst (s.epoch :: words)
/-- How far SEQ `a` is ahead of `b`, modulo 2^16. -/
def seqAhead (a b : Nat) : Nat := (a + 65536 - b) % 65536
/-- Whether a SEQ has been executed: it is in the window kept, or more than 64 behind the highest (log 8). -/
def seqSeen (l : List Nat) (q : Nat) : Bool :=
  match l with
  | [] => false
  | m :: _ => l.contains q || (seqAhead m q < 32768 && 64 < seqAhead m q)
/-- Notes a SEQ as executed: the highest first, and those at most 64 behind it. -/
def seqNote (l : List Nat) (q : Nat) : List Nat :=
  match l with
  | [] => [q]
  | m :: r => if seqAhead q m < 32768 then q :: (m :: r).filter (fun x => decide (seqAhead q x ≤ 64)) else m :: q :: r
/-- The key of the receive window of a receiver, source and class. -/
def seenKey (rcv src ty : Nat) : Nat := (rcv * 128 + src) * 4 + typeClass ty
/-- Notes a transaction as executed at a receiver (R363). -/
def State.noteSeen (s : State) (rcv src ty seq : Nat) : State :=
  let k := seenKey rcv src ty
  s.modFelt fun n => { n with seen := tset [] n.seen k (seqNote (tget [] n.seen k) seq) }
/-- Answers a transaction by ACK in its own class, with a second word for a DEPOSE (R363, R364). -/
def State.ackWith (s : State) (die dst ty seq status : Nat) (extra : Option Nat) : State :=
  let cls := typeClass ty
  let word := ty * 2 ^ 24 + seq % 65536 * 2 ^ 8 + status
  (s.inject { src := die, type := 0x3E + 0x40 * cls, mode := 0, dst := dst, seq := 0, words := word :: extra.toList }).emit
    (.ack die dst ty seq status (extra.getD 0))
/-- Answers a transaction by ACK (R364). -/
def State.ack (s : State) (die dst ty seq status : Nat) : State := s.ackWith die dst ty seq status none
/-- The arrival of a transaction at a receiver: a duplicate is answered again and not executed; otherwise `f` executes it and it is answered
    when its type is acknowledged (R363). -/
def State.recv (s : State) (rcv : Nat) (h : Hdr) (ty : Nat) (f : State → State) : State :=
  let answer := fun s : State => if ackedType ty then s.ack rcv h.src ty h.seq 0 else s
  if seqSeen (tget [] s.felt.seen (seenKey rcv h.src ty)) h.seq then answer s
  else answer (f (s.noteSeen rcv h.src ty h.seq))
/-- The reel count of the last message that the acting Vat received from a die (R371). -/
def State.hear (s : State) (d : Nat) : State := s.modFelt fun n => { n with heard := tset none n.heard d (some s.reel) }
/-- The arrival of an agent's transaction, by its row `i`, at the active Vat. After ANNOUNCE it is returned to the new Vat, which takes it at the end of
    the gap (R330); with no active Vat otherwise it is not answered, and its sender resends it (R363). -/
def State.recvVat (s : State) (i : Instr) (h : Hdr) (ty : Nat) (f : State → State) : State :=
  match (s.sh.gap.map (·.step)) == some 4, s.acting with
  | true, _ => s.modSh fun x => { x with gap := x.gap.map fun g => { g with items := g.items ++ [(h.src, i)] } }
  | false, none => s
  | false, some v => (s.hear h.src).recv (hubDie v) h ty f
/-- A message of an agent to the active Vat: sent over Felt, or held while there is none (Table 1.2). -/
def State.toVat (s : State) (die ty : Nat) (words : List Nat) : State :=
  match s.acting with
  | none => s.modDie die fun k => { k with held := k.held ++ [(ty, words)] }
  | some v => s.feltSend die ty 0 (hubDie v) words
/-! ## The mirror (R333) -/

/-- One mirrored change: it takes the next mirror sequence number and goes to the standby when there is one. -/
def State.mirror (s : State) : State :=
  match s.activeHub with
  | none => s
  | some h =>
    let n := (s.sh.mirrorSeq + 1) % 2 ^ 32
    let s := s.modSh fun x => { x with mirrorSeq := n }
    match s.standbyHub with
    | none => s
    | some sb => s.feltSend (hubDie h) 0x8F 0 (hubDie sb) [s.epoch, n]

/-- The epoch that a hub holds: the one staged in its retention, else its MRAM's (R318). -/
def Vat.heldEpoch (v : Vat) : Nat := match v.staged with | some x => x.1 | none => v.mramEpoch
/-- The highest epoch of the two copies. -/
def State.lastEpoch (s : State) : Nat := max s.vatA.heldEpoch s.vatB.heldEpoch
/-- A hub's copy of the epoch and of the ACTIVE role: in its MRAM, or staged in its retention while its window is closed (R318, Table 10.3 step 3). -/
def Vat.putEpoch (e : Nat) (r : Hub) (v : Vat) : Vat :=
  if v.mramWin then { v with mramEpoch := e, mramRole := some r, staged := none } else { v with staged := some (e, r), mramHeld := v.mramHeld + 1 }
/-- What is staged of a hub's epoch lands as its MRAM window opens (R318, Table 12.5). -/
def Vat.landEpoch (v : Vat) : Vat :=
  match v.staged with | some x => { v with mramEpoch := x.1, mramRole := some x.2, staged := none } | none => v
/-- The new epoch and role are written to both copies (R318). -/
def State.putEpoch (s : State) (e : Nat) (r : Hub) : State := (s.modVat .a (Vat.putEpoch e r)).modVat .b (Vat.putEpoch e r)
/-- A write to MRAM's latest-value stores waits in retention on a hub whose window is closed (R398, Table 12.5); it counts as held back there. -/
def State.mramWrite (s : State) : State :=
  let f := fun v : Vat => if v.mramWin then v else { v with mramHeld := v.mramHeld + 1 }
  (s.modVat .a f).modVat .b f

/-- The latest-value stores of Table 12.5 as they stand: counters 7 and 8 of the package are PKG_RESET and OUT_OF_SERVICE. -/
def State.durable (s : State) : Durable :=
  let g := s.pkg
  { pins := s.sh.pins, counters := s.sh.counters.filter (fun e => e.1 == pkgSource 7 || e.1 == pkgSource 8), classCfg := s.sh.classCfg
    ladderCfg := s.sh.ladderCfg, oos := g.oos, marks := g.marks, fwMin := g.fwMin, userOffset := g.userOffset, high := g.high, low := g.low
    screenMargin := g.screenMargin, vmonTol := g.vmonTol, paceMin := g.paceMin, voidReasons := g.voidReasons, voidHours := (g.voidHours, g.voidFrac)
    voidSpan := (g.voidSince, g.voidCleared) }
/-- As the second MRAM window closes, MRAM keeps what it holds: later changes wait in retention (R398). -/
def State.keepDurable (s : State) : State :=
  if s.vatA.mramWin || s.vatB.mramWin || s.pkg.mram.isSome then s else s.modPkg fun g => { g with mram := some s.durable }
/-- Retention is lost with power: the latest-value stores fall back to what MRAM holds (R398, R471; log 58). -/
def State.loseRetention (s : State) : State :=
  match s.pkg.mram with
  | none => s
  | some d =>
    (s.modPkg fun g =>
      { g with oos := d.oos, marks := d.marks, fwMin := d.fwMin, userOffset := d.userOffset, high := d.high, low := d.low
               screenMargin := d.screenMargin, vmonTol := d.vmonTol, paceMin := d.paceMin, voidReasons := d.voidReasons
               voidHours := d.voidHours.1, voidFrac := d.voidHours.2, voidSince := d.voidSpan.1, voidCleared := d.voidSpan.2 }).modSh fun h =>
      { h with pins := d.pins, counters := d.counters, classCfg := d.classCfg, ladderCfg := d.ladderCfg }

/-! ## Interrupts (R235) -/

/-- INT: adds the source to the pending list, once, and asks for an interrupt. -/
def State.postInt (s : State) (src : Nat) : State :=
  if s.sh.pendingList.contains src then s
  else s.modSh fun h => { h with pendingList := h.pendingList ++ [src], intNew := true }
/-- Posts a message interrupt when its vector is enabled: 0 fault, 1 command, 2 ready (R492). -/
def State.msi (s : State) (vector : Nat) : State :=
  if bit s.sh.msiCtl vector then
    let data := if vector = 0 then s.sh.msiFault else if vector = 1 then s.sh.msiCmd else s.sh.msiReady
    (s.emit (.msi vector s.sh.msiAddr data)).modSh fun h => { h with msiWait := h.msiWait ++ [(vector, s.now)] }
  else s

/-! ## Guards -/

/-- What the active Vat alone decides waits while no Vat acts (Table 1.2): the event is held, and comes again when one does. -/
def State.whenActing (s : State) (i : Instr) (f : State → State) : State :=
  match s.acting with
  | none => s.modSh fun h => { h with vatHeld := h.vatHeld ++ [i] }
  | some _ => f s

/-- An event that names a part that does not exist is no event of this machine (R6). -/
def guardId (ok : Bool) (t : State) : Host.Outcome State Fault Refusal := if ok then .next t else .fault .invalidIdentifier

end Sys2Proof.Machine
end

