-- ==== Sys2Proof/Machine/Flags.lean ====
section
/-! DEFINITION. Fault classes with their defaults (Tables 7.2 to 7.5) and the arithmetic of the leaky-window counters (R232-R234). -/

namespace Sys2Proof.Machine

/-- The key of a source's class (R229): core offset o; 64 + d; 128 + cluster kind; 160 + (d - 32) on a hub; 192 + optical kind; 208 + package
    source; 224 + partition kind; 232 + context kind. None for a reserved or record-only source. -/
def classOf (src : Nat) : Option Nat :=
  let d := sourceDie src
  let i := src % 8192
  if d < 96 && i < 7488 then (if i % 48 < 34 then some (i % 48) else none)
  else if d < 100 && 7488 ≤ i && i < 7520 then (if 1 ≤ i - 7488 && i - 7488 ≤ 22 then some (64 + (i - 7488)) else none)
  else if d < 96 && 7520 ≤ i && i < 7616 then (if (i - 7520) % 8 < 5 then some (128 + (i - 7520) % 8) else none)
  else if (d = 96 || d = 97) && 7520 ≤ i && i < 7534 then some (160 + (i - 7520))
  else if (d = 98 || d = 99) && 7520 ≤ i && i < 7584 then some (192 + (i - 7520) % 4)
  else if d = 100 && i < 11 then some (208 + i)
  else if d = 101 && i < 512 then (if i % 16 < 3 then some (224 + i % 16) else none)
  else if 104 ≤ d && d < 108 then (if i % 8 < 5 then some (232 + i % 8) else none)
  else none

/-- The key of the class that a template names in FAULT_CFG (R238): also that of the record-only source DIE_REGION (d 0, key 64), which never
    increments. None for a reserved source. -/
def cfgClassOf (src : Nat) : Option Nat := if sourceDie src < 100 && src % 8192 = 7488 then some 64 else classOf src

/-- What Tables 7.2 to 7.5 give a class: reactions on each event and at threshold ([4] INT, [3] NMI, [2] BLK, [1] PKG, [0] PIN), N, W in ms, and
    whether it has a fixed action on each event. N is 0 for a class without a threshold. -/
structure ClassInfo where
  each : Nat
  thresh : Nat
  n : Nat
  w : Nat
  fixed : Bool
deriving DecidableEq, Repr, Inhabited

/-- 24 h in ms. -/
def day : Nat := 86400000
/-- 1 h in ms. -/
def hour : Nat := 3600000
/-- 1 min in ms. -/
def minute : Nat := 60000

/-- Table 7.2: the core classes. -/
def coreClass (k : Nat) : ClassInfo :=
  match k with
  | 0 => ⟨0, 16, 3, day, true⟩
  | 1 => ⟨16, 16, 2, day, true⟩
  | 2 => ⟨16, 16, 2, day, true⟩
  | 22 => ⟨0, 16, 64, minute, true⟩
  | 23 => ⟨0, 0, 4095, 1000, true⟩
  | 24 => ⟨0, 16, 2, day, true⟩
  | 25 => ⟨0, 16, 3, day, true⟩
  | 26 => ⟨0, 16, 3, day, false⟩
  | 27 => ⟨0, 16, 64, hour, true⟩
  | 28 => ⟨0, 16, 2, day, true⟩
  | 29 => ⟨16, 0, 2, day, true⟩
  | 30 => ⟨0, 16, 1024, 1000, true⟩
  | 31 => ⟨20, 0, 2, day, true⟩
  | 32 => ⟨16, 0, 2, day, true⟩
  | 33 => ⟨16, 0, 2, day, true⟩
  | k => if k < 16 then ⟨0, 16, 4, hour, true⟩ else ⟨8, 16, 16, minute, true⟩
/-- Table 7.3: the die-level classes, by d. -/
def dieClass (d : Nat) : ClassInfo :=
  match d with
  | 0 => ⟨0, 0, 0, 0, false⟩
  | 1 => ⟨0, 17, 3, hour, true⟩
  | 2 => ⟨16, 1, 3, hour, true⟩
  | 3 => ⟨16, 0, 1, day, true⟩
  | 4 => ⟨0, 16, 256, 1000, true⟩
  | 5 => ⟨16, 0, 2, hour, true⟩
  | 6 => ⟨16, 1, 2, day, true⟩
  | 7 => ⟨21, 2, 2, day, false⟩
  | 8 => ⟨16, 0, 1, hour, false⟩
  | 9 => ⟨16, 0, 1, hour, true⟩
  | 10 => ⟨0, 16, 16, 1000, true⟩
  | 11 => ⟨0, 16, 16, 1000, true⟩
  | 12 => ⟨16, 1, 2, hour, true⟩
  | 13 => ⟨0, 16, 4095, 1000, false⟩
  | 14 => ⟨16, 1, 4, hour, true⟩
  | 15 => ⟨0, 16, 4095, 1000, false⟩
  | 16 => ⟨16, 1, 4, hour, true⟩
  | 17 => ⟨17, 0, 1, hour, true⟩
  | 18 => ⟨16, 0, 1, hour, true⟩
  | 19 => ⟨0, 16, 16, hour, true⟩
  | 20 => ⟨17, 0, 1, hour, true⟩
  | 21 => ⟨16, 0, 1, day, true⟩
  | _ => ⟨16, 0, 1, day, true⟩
/-- Table 7.4: the cluster classes, by kind. -/
def clusterClass (k : Nat) : ClassInfo :=
  match k with
  | 0 => ⟨0, 16, 64, hour, false⟩
  | 1 => ⟨16, 1, 2, day, true⟩
  | 2 => ⟨16, 0, 2, day, true⟩
  | 3 => ⟨0, 16, 4095, 1000, false⟩
  | _ => ⟨16, 1, 4, hour, true⟩
/-- Table 7.4: the hub classes, by d - 32. -/
def hubClass (k : Nat) : ClassInfo :=
  match k with
  | 0 => ⟨17, 0, 1, day, true⟩
  | 1 => ⟨16, 1, 2, day, true⟩
  | 2 => ⟨16, 1, 2, day, true⟩
  | 3 => ⟨16, 1, 2, day, true⟩
  | 4 => ⟨16, 1, 2, day, true⟩
  | 5 => ⟨16, 1, 2, hour, true⟩
  | 6 => ⟨0, 16, 16, minute, true⟩
  | 7 => ⟨16, 0, 2, day, false⟩
  | 8 => ⟨16, 0, 2, day, false⟩
  | 9 => ⟨17, 0, 1, day, true⟩
  | 10 => ⟨0, 1, 16, minute, false⟩
  | 11 => ⟨0, 0, 1, hour, true⟩
  | 12 => ⟨0, 16, 16, minute, false⟩
  | _ => ⟨1, 0, 1, day, true⟩
/-- Table 7.4: the optical engine classes, by kind. -/
def opticClass (k : Nat) : ClassInfo :=
  match k with
  | 0 => ⟨16, 0, 4, hour, false⟩
  | 1 => ⟨16, 1, 4, hour, true⟩
  | _ => ⟨16, 1, 1, day, true⟩
/-- Table 7.5: the package classes. -/
def pkgClass (k : Nat) : ClassInfo :=
  match k with
  | 0 => ⟨17, 0, 1, hour, false⟩
  | 1 => ⟨16, 0, 1, day, true⟩
  | 2 => ⟨16, 0, 4, hour, false⟩
  | 3 => ⟨16, 0, 4, hour, true⟩
  | 4 => ⟨16, 1, 3, day, true⟩
  | 5 => ⟨16, 1, 2, day, true⟩
  | 6 => ⟨16, 1, 3, hour, false⟩
  | 7 => ⟨0, 0, 3, day, true⟩
  | 8 => ⟨1, 0, 0, 0, true⟩
  | 9 => ⟨16, 0, 1, hour, true⟩
  | _ => ⟨16, 0, 1, hour, true⟩
/-- Table 7.5: the partition classes. -/
def partClass (k : Nat) : ClassInfo :=
  match k with
  | 0 => ⟨0, 0, 3, day, true⟩
  | 1 => ⟨0, 16, 16, minute, false⟩
  | _ => ⟨0, 16, 3, hour, true⟩
/-- Table 7.5: the context classes. -/
def ctxClass (k : Nat) : ClassInfo :=
  match k with
  | 0 => ⟨24, 0, 1, 1000, true⟩
  | 1 => ⟨0, 0, 16, minute, false⟩
  | 2 => ⟨0, 16, 1024, 1000, false⟩
  | 3 => ⟨0, 0, 64, minute, true⟩
  | _ => ⟨0, 16, 4, minute, true⟩
/-- The defaults of a class by its key. -/
def classInfo (key : Nat) : ClassInfo :=
  if key < 64 then coreClass key else if key < 128 then dieClass (key - 64) else if key < 160 then clusterClass (key - 128)
  else if key < 192 then hubClass (key - 160) else if key < 208 then opticClass (key - 192) else if key < 224 then pkgClass (key - 208)
  else if key < 232 then partClass (key - 224) else ctxClass (key - 232)
/-- The default configuration of a class; RECORD is off where both each-event cells are dashes (R249). -/
def classDefault (key : Nat) : ClassCfg :=
  let i := classInfo key
  { each := i.each, thresh := i.thresh, n := i.n, w := i.w, record := i.fixed || i.each != 0 }
/-- The configuration in force for a class (R238). -/
def State.cfg (s : State) (key : Nat) : ClassCfg := (tget none s.sh.classCfg key).getD (classDefault key)
/-- BLK is permitted for a class (R236): core, cluster, d 6 and 7, hub, partition and context sources. -/
def blkAllowed (key : Nat) : Bool :=
  key < 64 || key = 70 || key = 71 || (128 ≤ key && key < 192) || 224 ≤ key

/-- The leak period in us (R234). -/
def leakPeriod (n w : Nat) : Nat := if n = 0 then 1 else max 1 (w * 1000 / n)
/-- The leak step of a counter at time `t` in us (R234). -/
def leak (n p t : Nat) (c : Counter) : Counter :=
  if 0 < c.count then
    let k := (t - c.ref) / p
    let v := c.count - k
    { c with count := v, ref := c.ref + k * p, armed := c.armed || decide (v < n) }
  else c
/-- One increment at time `t`, after the leak step, and whether the threshold is crossed (R234). -/
def bumpOne (n p t : Nat) (c : Counter) : Counter × Bool :=
  let c := leak n p t c
  let c := if c.count = 0 then { c with ref := t } else c
  let c := { c with count := satAdd 16 c.count 1, total := satAdd 32 c.total 1 }
  if n ≠ 0 && c.armed && n ≤ c.count then ({ c with armed := false, cross := satAdd 8 c.cross 1 }, true) else (c, false)
/-- `m` increments at one time; the number of the increment that crosses the threshold, if one does (R233). -/
def bumpMany (n p t : Nat) : Nat → Counter → Counter × Option Nat
  | 0, c => (c, none)
  | m + 1, c =>
    let r := bumpMany n p t m c
    let q := bumpOne n p t r.1
    (q.1, if q.2 then some m else r.2)
/-- Time in us for the leak of a class: operating hours for PKG_RESET and OUT_OF_SERVICE, reel time otherwise (R234). -/
def State.leakTime (s : State) (key reel : Nat) : Nat :=
  if key = 215 || key = 216 then (s.pkg.hours * 878906250 + s.pkg.hoursFrac) / 1000 else reel / 1000
/-- A counter with the leak applied, as FAULT_READ reads it (R234). -/
def State.leaked (s : State) (src : Nat) : Counter :=
  match classOf src with
  | none => s.counter src
  | some key => leak (s.cfg key).n (leakPeriod (s.cfg key).n (s.cfg key).w) (s.leakTime key s.now) (s.counter src)
/-- Applies `m` increments to a source's counter at a reel count, as one mirrored change; says which increment crosses. -/
def State.bump (s : State) (src m reel : Nat) : State × Option Nat :=
  match classOf src with
  | none => (s, none)
  | some key =>
    let g := s.cfg key
    let r := bumpMany g.n (leakPeriod g.n g.w) (s.leakTime key reel) m (s.counter src)
    ((s.modSh fun h => { h with counters := tset {} h.counters src r.1 }).mirror, r.2)

/-- Severity by reactions (Table 7.7): FATAL PKG, CRITICAL PIN, ERROR NMI or BLK or a core or context taken out, else `base`. -/
def sevOf (reactions : Nat) (takes : Bool) (base : Nat) : Nat :=
  if bit reactions 1 then 5 else if bit reactions 0 then 4 else if bit reactions 3 || bit reactions 2 || takes then 3 else base
/-- Fixed actions on each event that fence a core or fault a context (Table 7.7): contract breaches, SCREEN_SLICE, RETAIN_FAULT, HANG, SPARE_FILL,
    whose spare stays fenced, and CTX_FAULT. -/
def eachTakes (key : Nat) : Bool := (16 ≤ key && key ≤ 21) || key = 24 || key = 29 || key = 31 || key = 130 || key = 232
/-- Threshold actions that fence or mark a core or fault a context (Table 7.2, Table 7.5). -/
def threshTakes (key : Nat) : Bool := (25 ≤ key && key ≤ 29) || key = 31 || key = 32 || key = 235

end Sys2Proof.Machine
end

