-- ==== Sys2Proof/Machine/Records.lean ====
section
/-! DEFINITION. The event recorder, notifications, PIN latches, holds with their stall intervals, and event rings. -/

namespace Sys2Proof.Machine

/-! ## The event recorder and notifications (R50, R250, R460, R463) -/

/-- Sends a notification on the management path: through the active hub's port, by relay through the other hub's port, or it queues. -/
def State.sendMgmt (s : State) (n : Note) : State :=
  let queue := fun s : State => s.modSh fun h =>
    let full := 256 ≤ h.mgmtQ.length
    { h with mgmtQ := (if full then h.mgmtQ.drop 1 else h.mgmtQ) ++ [n]
             mgmtLost := if full then (h.mgmtLost.1 + 1, if h.mgmtLost.1 = 0 then (h.mgmtQ.headD n).number else h.mgmtLost.2) else h.mgmtLost }
  match s.acting with
  | none => queue s
  | some v =>
    if (s.vat v).linkUp then s.emit (.notify (hubNum v) n.number n.held n.entry)
    else if (s.vat (otherHub v)).linkUp then (queue s).feltSend (hubDie v) 0x90 0 (hubDie (otherHub v)) [s.epoch, n.number]
    else queue s
/-- Queues a notification for the tray controller (R250). -/
def State.sendI3c (s : State) (n : Note) : State := s.modSh fun h =>
  let full := 256 ≤ h.i3cQ.length
  { h with i3cQ := (if full then h.i3cQ.drop 1 else h.i3cQ) ++ [n]
           i3cLost := if full then (h.i3cLost.1 + 1, if h.i3cLost.1 = 0 then (h.i3cQ.headD n).number else h.i3cLost.2) else h.i3cLost }
/-- One notification leaves: it takes the next number and goes to both paths. -/
def State.sendNote (s : State) (r : Rec) (held : Nat) : State :=
  let n : Note := { number := s.sh.noteNext, held := sat 16 held, entry := r }
  ((s.modSh fun h => { h with noteNext := (h.noteNext + 1) % 2 ^ 32 }).sendMgmt n).sendI3c n
/-- Notifies a record, at most once a second for each source; a record in between is held (R250). -/
def State.notify (s : State) (r : Rec) : State :=
  match tget none s.sh.pacing r.source with
  | some p =>
    if s.reel < p.since + 1000000000 then
      s.modSh fun h => { h with pacing := tset none h.pacing r.source (some { p with held := p.held + 1, latest := some r }) }
    else (s.modSh fun h => { h with pacing := tset none h.pacing r.source (some { since := s.reel, held := 0, latest := none }) }).sendNote r 0
  | none => (s.modSh fun h => { h with pacing := tset none h.pacing r.source (some { since := s.reel, held := 0, latest := none }) }).sendNote r 0
/-- Records that are notified: WARN or higher, and READY and NOT_READY (R250, R483, R484). -/
def notified (r : Rec) : Bool := 2 ≤ r.severity || r.code == 0x0F00 || r.code == 0x0F01
/-- The record has been written (R50). -/
def State.written (s : State) (r : Rec) : State := if notified r then s.notify r else s
/-- Drops a record from a full staging buffer: STAGE_OVERFLOW is counted, with its INT, and no record is written (R463); its other configured
    reactions follow at the next count of the clock (log 97). -/
def State.dropRec (s : State) (h : Hub) (r : Rec) : State :=
  let s := s.modVat h fun v => { v with lost := v.lost + 1, lostFirst := if v.lost = 0 then r.seq else v.lostFirst }
  let r := s.bump (pkgSource 9) 1 s.now
  let m := (s.cfg 217).each ||| (if r.2.isSome then (s.cfg 217).thresh else 0)
  let s := if bit m 4 then r.1.postInt (pkgSource 9) else r.1
  if m % 16 = 0 then s else s.modSh fun h => { h with reactDue := h.reactDue ++ [(pkgSource 9, m % 16)] }
/-- Stages a record on a hub: NOTICE and INFO are dropped when the buffer is full, WARN and higher replace the oldest of lower severity (R463). -/
def State.stage (s : State) (h : Hub) (r : Rec) : State :=
  let l := (s.vat h).staging
  let r := { r with staged := true }
  if l.length < 1024 then s.modVat h fun v => { v with staging := l ++ [r] }
  else if r.severity < 2 then s.dropRec h r
  else match l.find? fun x => x.severity < r.severity with
    | some o => (s.modVat h fun v => { v with staging := l.erase o ++ [r] }).dropRec h o
    | none => s.dropRec h r
/-- A record enters a hub: into its MRAM queue when the window is open and a write can begin within 10 us, else staged (R463). -/
def State.hubEnter (s : State) (h : Hub) (r : Rec) : State :=
  let v := s.vat h
  if v.mramWin && v.staging.isEmpty && decide (v.writing.length < 2) then s.modVat h fun v => { v with writing := v.writing ++ [r] }
  else s.stage h r
/-- A record enters the recorder: it takes the next sequence number and goes to both hubs (R460, R463); it counts as written at once when it
    is staged on both (R50). -/
def State.enterRec (s : State) (r : Rec) : State :=
  let r := { r with seq := s.sh.recSeq }
  let s := (s.modSh fun h => { h with recSeq := (h.recSeq + 1) % 2 ^ 32 }).mirror
  let s := (s.hubEnter .a r).hubEnter .b r
  let inStage := fun h : Hub => (s.vat h).staging.any fun x => x.seq == r.seq
  if inStage .a && inStage .b then s.written { r with staged := true } else s
/-- Writes an event record with a given reel count and unaligned flag; held while no Vat acts (Table 1.2). -/
def State.recordAt (s : State) (code severity source reel : Nat) (unaligned : Bool) (p1 p2 p3 : Nat) : State :=
  let r : Rec := { seq := 0, code := code, severity := severity, unaligned := unaligned, staged := false, single := false, source := source,
                   pcycle := s.pkg.pcycle, hours := s.pkg.hours, reel := reel % 2 ^ 48, p1 := p1 % 2 ^ 24, p2 := p2 % 2 ^ 24, p3 := p3 % 2 ^ 24 }
  match s.acting with
  | none => s.modSh fun h => { h with heldRecs := h.heldRecs ++ [r] }
  | some _ => s.enterRec r
/-- Writes an event record of the moment: its reel count is that of the source's die, or of the acting Vat's (R459). -/
def State.record (s : State) (code severity source p1 p2 p3 : Nat) : State :=
  let d := if sourceDie source < 100 then sourceDie source else s.actDie
  s.recordAt code severity source (s.dieReel d) (s.die d).unaligned p1 p2 p3

/-! ## PIN latches (R240-R243) -/

/-- PIN: sets the source's latch; each set writes PIN_SET (R242). -/
def State.setPin (s : State) (src : Nat) : State :=
  if s.sh.pins.contains src then s
  else (s.modSh fun h => { h with pins := insertNat src h.pins }).mramWrite.record 0x0702 4 src 0 0 0
/-- FAULT_N is driven low: a PIN latch is set, the package is powered and has started, and an agent has left reset or a latch was already set in
    MRAM when the package started (R240, R241, R243). -/
def State.faultN (s : State) : Bool :=
  !s.sh.pins.isEmpty && s.pkg.powered && !s.pkg.powerLost && (s.pkg.pinKept || s.dies.any fun e => e.2.bist.isSome)

/-! ## Event rings (R455) -/

/-- An entry of a tap's event ring; FREEZE_ON_DETECT stops the ring after a detection (R456). -/
def State.tapRing (s : State) (p kind detail : Nat) : State :=
  if (s.core p).ringFrozen then s
  else
    let n := s.lcOf p
    let o := match n with | some n => (s.lc n).oper.getD (0, 0) | none => (0, 0)
    let e : RingEntry := { kind := kind, ctx := (s.coreCtx p).getD 0, detail := detail % 4096
                           w1 := if kind = 9 || kind = 10 then n.getD 0 else o.1 * 65536 + o.2
                           step := (match n with | some n => (s.lc n).lstep | none => (s.core p).lastLstep) % 2 ^ 32
                           reel := s.dieReel (coreDie p) % 2 ^ 32 }
    s.modCore p fun c => { c with ring := (e :: c.ring).take 64, ringNext := (c.ringNext + 1) % 64, ringFrozen := c.freezeOnDetect && kind == 1 }
/-- An entry of an agent's event ring. -/
def State.dieRing (s : State) (d kind detail : Nat) : State :=
  s.modDie d fun k => { k with ring := ({ kind := kind, ctx := 0, detail := detail % 4096, w1 := 0, step := 0,
                                          reel := s.dieReel d % 2 ^ 32 } :: k.ring).take 256 }

/-- A hold of a region is known by its reason of Table 2.5 and by who holds it, so that a second hold of one reason is a hold of its own (R87):
    `who` tells a triage freeze from a rollback's, one context's breakpoint from another's, one reset domain from another. -/
def holdKey (reason who : Nat) : Nat := reason + 16 * who
/-- The reason of a hold. -/
def holdReason (key : Nat) : Nat := key % 16
/-- The breakpoint hold of a context. -/
def brkKey (c : Nat) : Nat := holdKey 2 c
/-- The freeze of a Sizing rollback, beside a member's own triage freeze. -/
def rollKey : Nat := holdKey 0 1
/-- The fence hold of an isolated die (R371), of a partition held at rung 2 (Table 8.11), and of every core at rung 4 (R285). -/
def isolateKey : Nat := holdKey 1 1
/-- As isolateKey, for a partition at rung 2. -/
def rungKey : Nat := holdKey 1 2
/-- As isolateKey, for the package at rung 4. -/
def powerKey : Nat := holdKey 1 3
/-- The reset drain of a domain. -/
def resetKey (domain : Nat) : Nat := holdKey 5 domain
/-- The ring entry of a hold's begin or end; a freeze, reason 0, has its own kinds (Table 14.10). -/
def State.ringHold (s : State) (p key : Nat) (start : Bool) : State :=
  if holdReason key = 0 then s.tapRing p (if start then 3 else 4) 0 else s.tapRing p (if start then 5 else 6) (holdReason key)

/-! ## Holds and stall intervals (R83-R88) -/

/-- The reference core of a die: the lowest core index that carries a logical core (R85). -/
def State.refCore (s : State) (d : Nat) : Option Nat := (dieCores d).find? fun p => (s.lcOf p).isSome
/-- The region of a core, or of a die: its source ID (Table 2.4). -/
def coreRegion (p : Nat) : Nat := coreSource p 0
/-- The region of a die: its source ID (Table 2.4). -/
def dieRegion (d : Nat) : Nat := dieSource d 0
/-- The core that stands for a region: itself, or the reference core of the die. -/
def State.regionCore (s : State) (region : Nat) : Option Nat :=
  match sourceCore region with | some p => some p | none => s.refCore (sourceDie region)
/-- A new stall interval of a region, from its region core. `kind` is 0 core, 1 die, 2 partition, 3 package. A held core that carries no logical core
    shows step count, layer and operator 0, as a die without a reference core does (DESIGN CHOICE, log 122). -/
def State.newInterval (s : State) (region key kind further : Nat) (inForce : List (Nat × Nat)) (cont : Bool) : Interval :=
  let base : Interval := { reason := holdReason key, start := s.now, step := 0, layer := 0, oper := 0, core := 0xFF, further := further,
                           inForce := inForce, kind := kind, cont := cont }
  match s.regionCore region with
  | none => base
  | some p => match s.lcOf p with
    | none => { base with core := coreIndex p }
    | some n => { base with step := (s.lc n).lstep, layer := ((s.lc n).oper.getD (0, 0)).1, oper := ((s.lc n).oper.getD (0, 0)).2, core := coreIndex p }
/-- A hold of a region begins: a new interval, or a further hold of the one in force (R87). Holds of a die, of its partition and of the package that
    cover one die are holds of that die's one region, whose pair shows the first hold's kind (DESIGN CHOICE, log 123). -/
def State.holdRegion (s : State) (region key kind : Nat) : State :=
  match tget none s.sh.intervals region with
  | none => s.modSh fun h => { h with intervals := tset none h.intervals region (some (s.newInterval region key kind 0 [(key, s.now)] false)) }
  | some i =>
    if i.inForce.any fun x => x.1 == key then s
    else
      let i := { i with further := min 15 (i.further + 1), inForce := i.inForce ++ [(key, s.now)] }
      s.modSh fun h => { h with intervals := tset none h.intervals region (some i) }
/-- Writes the pair of stall interval records of an interval (Table 2.4). -/
def State.writeInterval (s : State) (region : Nat) (i : Interval) : State :=
  let len := sat 24 ((s.now - i.start) / 1000)
  let u := (s.die (sourceDie region)).unaligned
  let s := s.recordAt 0x0310 0 region i.start u len i.layer i.oper
  s.recordAt 0x0311 0 region i.start u (i.step % 2 ^ 24) (i.step / 2 ^ 24 % 2 ^ 24) (i.kind * 2 ^ 20 + i.reason * 2 ^ 16 + i.further * 2 ^ 12 + i.core)
/-- A hold of a region ends: at the last hold's end the pair is written when the interval lasted at least 10 us or continues another (R84, R86). -/
def State.unholdRegion (s : State) (region key : Nat) : State :=
  match tget none s.sh.intervals region with
  | none => s
  | some i =>
    let rest := i.inForce.filter fun x => x.1 != key
    if rest.length = i.inForce.length then s
    else if rest.isEmpty then
      let s := s.modSh fun h => { h with intervals := tset none h.intervals region none }
      if i.cont || 10000 ≤ s.now - i.start then s.writeInterval region i else s
    else s.modSh fun h => { h with intervals := tset none h.intervals region (some { i with inForce := rest }) }
/-- A hold of one core begins. -/
def State.holdCore (s : State) (p key : Nat) : State :=
  let s := if (s.core p).holds.any fun x => x.1 == key then s
    else (s.modCore p fun c => { c with holds := c.holds ++ [(key, s.now)] }).ringHold p key true
  s.holdRegion (coreRegion p) key 0
/-- The reel count at which the earliest hold in force on a core began, its own or its die's. -/
def State.heldSince (s : State) (p : Nat) : Option Nat :=
  match ((s.core p).holds ++ (match tget none s.sh.intervals (dieRegion (coreDie p)) with | some i => i.inForce | none => [])).map (·.2) with
  | [] => none
  | b :: l => some (l.foldl min b)
/-- MTP_HOLD grows by the part of a hold that began at `b` and ends now that no hold still in force covers (R451). -/
def State.chargeHold (s : State) (p b : Nat) : State :=
  let e := match s.heldSince p with | some r => min r s.now | none => s.now
  s.modCore p fun c => { c with hold := c.hold + (e - b) }
/-- A hold of one core ends. -/
def State.unholdCore (s : State) (p key : Nat) : State :=
  match (s.core p).holds.find? fun x => x.1 == key with
  | none => s
  | some x =>
    let s := (s.modCore p fun c => { c with holds := c.holds.filter fun y => y.1 != key }).ringHold p key false
    (s.chargeHold p x.2).unholdRegion (coreRegion p) key
/-- A hold of a compute die, or of anything larger that covers it, begins. -/
def State.holdDie (s : State) (d key kind : Nat) : State :=
  if !isCompute d then s
  else if (match tget none s.sh.intervals (dieRegion d) with | some i => i.inForce.any fun x => x.1 == key | none => false) then s
  else (each (dieCores d) (fun s p => s.ringHold p key true) s).holdRegion (dieRegion d) key kind
/-- A hold of a compute die ends. -/
def State.unholdDie (s : State) (d key : Nat) : State :=
  match tget none s.sh.intervals (dieRegion d) with
  | none => s
  | some i => match i.inForce.find? fun x => x.1 == key with
    | none => s
    | some x =>
      let s := s.unholdRegion (dieRegion d) key
      each (dieCores d) (fun s p => (s.ringHold p key false).chargeHold p x.2) s
/-- The holds in force on a core, its own and its die's, as (hold key, begin). -/
def State.holdsOn (s : State) (p : Nat) : List (Nat × Nat) :=
  (s.core p).holds ++ (match tget none s.sh.intervals (dieRegion (coreDie p)) with | some i => i.inForce | none => [])
/-- A breakpoint holds the core: its gate releases nothing (Table 14.3). -/
def State.brkHeld (s : State) (p : Nat) : Bool := (s.holdsOn p).any fun x => holdReason x.1 == 2
/-- A core is held, frozen, parked or in reset: it does not issue (R83). -/
def State.stopped (s : State) (p : Nat) : Bool :=
  (s.core p).frozen || (s.core p).parked || (s.core p).resetting || !(s.holdsOn p).isEmpty
/-- A core's stall reason changes: the time with the old reason is added to MTP_STALL (R451, R452). -/
def State.setStall (s : State) (p reason : Nat) (awaited : Option Nat) : State :=
  let c := s.core p
  if c.stallNow = reason && c.awaited = awaited then s
  else s.modCore p fun c =>
    { c with stallNow := reason, awaited := awaited, stallOn := none, stallSince := s.now
             stall := if c.stallNow = 0 then c.stall
               else tset 0 c.stall c.stallNow (sat 64 (tget 0 c.stall c.stallNow + (s.now - c.stallSince))) }
/-- The triage freeze of a core (R30): a hold of reason 0. -/
def State.freezeCore (s : State) (p : Nat) : State := (s.modCore p fun c => { c with frozen := true }).holdCore p 0
/-- The end of a triage freeze. -/
def State.thawCore (s : State) (p : Nat) : State := (s.modCore p fun c => { c with frozen := false }).unholdCore p 0

end Sys2Proof.Machine
end

