-- ==== Sys2Proof/Machine/Replies.lean ====
section
/-! DEFINITION. Command replies and running commands (R408, R410, R414-R418). -/

namespace Sys2Proof.Machine

/-- ST_OK and its fellows (Table 13.2). -/
def stOk : Nat := 0
/-- ST_PENDING. -/
def stPending : Nat := 1
/-- ST_CLAMPED. -/
def stClamped : Nat := 2
/-- ST_DENIED. -/
def stDenied : Nat := 3
/-- ST_BADLEN. -/
def stBadLen : Nat := 4
/-- ST_BUSY. -/
def stBusy : Nat := 5
/-- ST_NOTREADY. -/
def stNotReady : Nat := 6
/-- ST_BADOP. -/
def stBadOp : Nat := 7
/-- ST_BADPARAM. -/
def stBadParam : Nat := 8
/-- ST_FAULT. -/
def stFault : Nat := 9

/-- A reply: a command with any clamp and no other outcome than success reads ST_CLAMPED (R420). -/
def State.mkReply (s : State) (opcode tag status : Nat) (clamps : List Clamp) (data : List (Nat × Nat)) : Reply :=
  { opcode := opcode, tag := tag, status := if status = 0 && !clamps.isEmpty then 2 else status, clamps := clamps, data := data,
    reel := s.now % 2 ^ 32 }
/-- A header-only ST_PENDING reply (R414). -/
def pendingReply (opcode tag : Nat) : Reply := { opcode := opcode, tag := tag, status := 1, clamps := [], data := [], reel := 0 }
/-- Retains an MCTP reply, at most the last 256 of its requester (R416). -/
def retain (l : List Retained) (r : Retained) : List Retained :=
  let mine := (l.filter fun x => x.path == r.path && x.tag != r.tag).take 255
  r :: (l.filter fun x => x.path != r.path || mine.contains x)
/-- Gives a command's reply: into the slot's reply area, or sent once and retained over MCTP (R406, R409, R416). -/
def State.deliver (s : State) (path : Path) (tag crc : Nat) (r : Reply) : State :=
  match path with
  | .aperture k => s.modSh fun h => { h with slots := tset {} h.slots k { (tget {} h.slots k) with state := 3, reply := some r, crc := crc } }
  | p => (s.emit (.reply p r)).modSh fun h => { h with retained := retain h.retained { path := p, tag := tag, crc := crc, reply := r } }
/-- A command starts to run and its reply reads ST_PENDING (R410, R414). -/
def State.beginRun (s : State) (rq : Req) (opcode ctx arg : Nat) (clamps : List Clamp) : State :=
  let s := s.modSh fun h =>
    { h with runs := h.runs ++ [{ path := rq.path, tag := rq.tag, crc := rq.crc, opcode := opcode, ctx := ctx, start := s.reel,
                                  clamps := clamps, arg := arg }] }
  match rq.path with
  | .aperture k => s.modSh fun h =>
      { h with slots := tset {} h.slots k { (tget {} h.slots k) with state := 2, reply := some (pendingReply opcode rq.tag), crc := rq.crc } }
  | _ => s
/-- A running command completes; through the aperture, after more than 100 us it also sets its done bit and posts the command interrupt (R408). -/
def State.endRun (s : State) (x : Run) (status : Nat) (data : List (Nat × Nat)) : State :=
  let s := s.modSh fun h => { h with runs := h.runs.erase x }
  let s := s.deliver x.path x.tag x.crc (s.mkReply x.opcode x.tag status x.clamps data)
  match x.path with
  | .aperture k =>
    if 100000 < s.reel - x.start then
      (s.modSh fun h => { h with aptDone := if bit h.aptDone k then h.aptDone else h.aptDone + 2 ^ k }).msi 1
    else s
  | _ => s
/-- Completes every running command that `p` picks. -/
def State.endRuns (s : State) (p : Run → Bool) (status : Nat) (data : List (Nat × Nat)) : State :=
  each (s.sh.runs.filter p) (fun s x => s.endRun x status data) s
/-- Completes the running commands of an opcode and context. -/
def State.endOp (s : State) (opcode ctx status : Nat) (data : List (Nat × Nat)) : State :=
  s.endRuns (fun x => x.opcode == opcode && x.ctx == ctx) status data
/-- A command of an opcode and context runs. -/
def State.running (s : State) (opcode ctx : Nat) : Bool := s.sh.runs.any fun x => x.opcode == opcode && x.ctx == ctx

end Sys2Proof.Machine
end

