-- ==== Sys2Proof/Machine/Reset.lean ====
section
/-! DEFINITION. Fencing, teardown, resets and the escalation ladder as shared operations (R256-R287), and the start of bring-up (R470-R473). -/

namespace Sys2Proof.Machine

/-! ## The deckle map -/

/-- A logical core's home entry loses VALID (R266). -/
def State.unplace (s : State) (n : Nat) : State :=
  s.setHome (s.homeDie n) (s.homeSlot n % 144) (homeWord false n 0)
/-- A free spare of a cluster: a SPARE core that is the target of no fill (R261). -/
def State.freeSpare (s : State) (d c : Nat) : Option Nat :=
  (clusterCores d c).find? fun p => physState (s.phys p) = 0 && s.enabled d && (s.die d).bist == some true &&
    !(s.sh.triages.any fun t => t.spare == some p) && !(s.sh.replaces.any fun r => r.new == some p) && !(s.core p).parked && !(s.core p).resetting
/-- Distance of two clusters by number. -/
def clusterDist (a b : Nat) : Nat := if a < b then b - a else a - b
/-- The best of a list by a key, the first on ties. -/
def bestBy {α : Type} (key : α → Nat) : List α → Option α
  | [] => none
  | x :: l => match bestBy key l with | some y => if key y < key x then some y else some x | none => some x
/-- The spare of the nearest cluster of a die (R263). -/
def State.nearSpare (s : State) (d c : Nat) (skip : Nat → Bool) : Option Nat :=
  bestBy (fun p => clusterDist (coreCluster p) c) (((List.range 12).filter (fun k => !skip k)).filterMap fun k => s.freeSpare d k)
/-- The lender for a logical core (R263): on its home die, else on the die of the partition with fewest ring-0 hops. -/
def State.lender (s : State) (n : Nat) : Option Nat :=
  let d := s.homeDie n
  let c := s.homeCluster n
  match s.nearSpare d c (fun k => k == c) with
  | some p => some p
  | none =>
    let others := ((s.partDies (s.partOf d)).filter (fun x => x != d)).filterMap fun x => s.nearSpare x c (fun _ => false)
    bestBy (fun p => ringHops (coreDie p) d) others
/-- The spare of the home cluster, or a lender: the core, and whether it is borrowed. -/
def State.spareFor (s : State) (n : Nat) : Option (Nat × Bool) :=
  match s.freeSpare (s.homeDie n) (s.homeCluster n) with
  | some p => some (p, false)
  | none => (s.lender n).map fun p => (p, true)
/-- The active Vat orders a fill for a logical core: its home die's routers hold its transfers (R259, Table 8.3 step 2). -/
def State.orderFill (s : State) (n src dst : Nat) (zeros : Bool) : State :=
  (s.modLc n fun l => { l with xferHold := true }).emit (.fill src dst zeros)
/-! ## Teardown (R274) -/

/-- A teardown starts: the tag is revoked over Felt and at the host bridge (Table 8.8 step 1). -/
def State.startTeardown (s : State) (c trigger : Nat) : State :=
  let x := s.ctx c
  if x.state = 1 || x.state = 2 then
    let s := (s.modCtx c fun x => { x with state := 3, teardown := some { trigger := trigger, start := s.now, step := 1, discarded := 0 } }).mirror
    let s := s.modPkg fun g => { g with hostRevoked := insertNat (s.tagOf c) g.hostRevoked }
    each (s.ctxParts c) (fun s p => s.vatSend 0x0D 2 p [s.tagOf c]) s
  else s
/-- Every context is torn down (R285, R286). -/
def State.teardownAll (s : State) (trigger : Nat) : State := each (s.sh.ctxs.map (·.1)) (fun s c => s.startTeardown c trigger) s
/-- A context fault that a part of a die reports is counted at CTX_FAULT by the agent; this is its effect at the Vat (Table 7.5). -/
def State.ctxFault (s : State) (c : Nat) : State := s.startTeardown c 0

/-! ## Fences and resets (R279-R282) -/

/-- A fence is raised at a die: cluster c as c, a core's port as 16 + core index. -/
def State.raiseFence (s : State) (d f : Nat) : State :=
  (s.modDie d fun k => { k with fences := insertNat f k.fences, fenceCount := if k.fences.isEmpty then (0, 0) else k.fenceCount }).dieRing d 0x20
    (if f < 16 then f * 13 else f - 16)
/-- A fence is lowered. -/
def State.lowerFence (s : State) (d f : Nat) : State := s.modDie d fun k => { k with fences := k.fences.filter (· != f) }
/-- The cores inside a reset domain: 0 core, 1 cluster (die * 16 + cluster), 3 partition. -/
def State.domainCores (s : State) (domain target : Nat) : List Nat :=
  match domain with
  | 0 => [target]
  | 1 => clusterCores (target / 16) (target % 16)
  | 3 => (s.partDies target).flatMap dieCores
  | _ => []
/-- The source that RESET_DONE names for a domain (Table 8.12). -/
def domainSource (domain target : Nat) : Nat :=
  match domain with
  | 0 => coreSource target 0
  | 1 => dieSource (target / 16) 0
  | 2 => dieSource target 0
  | _ => partSource target 0
/-- The domain is already in reset, or inside one that is (R289). -/
def State.resetting (s : State) (domain target : Nat) : Bool :=
  s.sh.resets.any fun r => (r.1 == domain && r.2.1 == target) ||
    (domain == 0 && r.1 == 1 && r.2.1 == coreDie target * 16 + coreCluster target) ||
    (domain == 0 && r.1 == 3 && r.2.1 == s.partOf (coreDie target)) || (domain == 1 && r.1 == 3 && r.2.1 == s.partOf (target / 16))
/-- The spares and lenders that a fill from a core is filling. -/
def State.fillsFrom (s : State) (p : Nat) : List Nat :=
  ((s.sh.replaces.filter fun r => r.old == p && r.started && !r.filled).filterMap (·.new)) ++
    ((s.sh.triages.filter fun t => t.core == p && !t.filled).filterMap (·.spare))
/-- The first-stage counter of a source takes events, saturating at 255 (R25). -/
def State.firstStage (s : State) (d src : Nat) (details : List Detail) : State :=
  if (s.die d).inReset then s
  else s.modDie d fun k =>
    let f := tget {} k.first src
    let n := f.count + details.length
    { k with first := tset {} k.first src
               { count := min 255 n, sat := f.sat || decide (255 < n), reel := if f.count = 0 then s.dieReel d else f.reel,
                 details := f.details ++ details } }
/-- An event of a source whose reactions follow at the next count of the clock: counted at the die's first stage (log 97). -/
def State.countLater (s : State) (d src key : Nat) : State :=
  let s := s.firstStage d src [default]
  let m := (s.cfg key).each
  let m := if bit m 1 then m % 16 - 2 - (if bit m 2 then 4 else 0) else m % 16
  if m = 0 then s else s.modSh fun h => { h with reactDue := h.reactDue ++ [(src, m)] }

/-! ## Orders whose effect is part of the same row (R318, R319, R363) -/

/-- A die's agent obeys the acting Vat: it has not seen a higher epoch (R319). -/
def State.obeys (s : State) (die : Nat) : Bool := decide ((s.die die).epoch ≤ s.epoch)
/-- A Vat order that an agent executes at once: sent, executed and answered, so that its arrival finds a duplicate. One under a lower epoch than the
    agent's is discarded, counted at DUAL_ACTIVE and answered with EPOCH_STALE; a higher one raises CPL_EPOCH (R319). -/
def State.orderNow (s : State) (die ty : Nat) (words : List Nat) : State :=
  let src := s.actDie
  let seq := tget 0 s.felt.seq (src * 4 + typeClass ty)
  let t : Txn := { src := src, type := ty, mode := 0, dst := die, seq := seq, words := s.epoch :: words }
  let ok := s.obeys die
  let s := s.modFelt fun n => { n with seq := tset 0 n.seq (src * 4 + typeClass ty) ((seq + 1) % 65536) }
  let s := (s.inject t).emit (.felt t)
  if ok then ((s.modDie die fun k => { k with epoch := s.epoch }).noteSeen die src ty seq).ack die src ty seq 0
  else (s.countLater die (pkgSource 5) 213).feltSend die 0x06 0 src [(s.die die).epoch]
/-- A command marked (A) in Table 13.6: its parameters go to the die's agent as AGENT_CMD, which AGENT_REPLY answers, and `f` is what it does. One
    that the agent discards as stale runs on, until the new active Vat ends it (R319, R331). -/
def State.askAgent (s : State) (rq : Req) (die opcode : Nat) (params : List Nat) (f : State → State) : State :=
  let t := s.orderNow die 0x80 (opcode :: params)
  if s.obeys die then f (t.feltSend die 0x81 0 s.actDie [opcode]) else t.beginRun rq opcode 0 0 []
/-- A core changes its state outside a re-placement: its physical entry, and the FENCE record (R262, Table 8.12). -/
def State.fenceCore (s : State) (p state cause : Nat) : State :=
  if physState (s.phys p) = state then s
  else
    let t := s.orderNow (coreDie p) 0x0C [p, state, cause]
    if s.obeys (coreDie p) then
      (t.setPhys p (physWord state false 0 (if state = 0 then 0 else cause))).record 0x0802 3 (coreSource p 0) (state * 2 ^ 20 + p) cause 0
    else t
/-- The old carrier of a fill has become unreadable: the fill stops, its target is filled from zeros, and the context of its logical core is faulted
    (Table 8.6, log 142). -/
def State.loseScratchpad (s : State) (p : Nat) : State :=
  let l := s.fillsFrom p
  let s := each l (fun s q => s.emit (.fill p q true)) s
  match s.coreCtx p with
  | some c =>
    if l.isEmpty || ((s.ctx c).state != 1 && (s.ctx c).state != 2) then s
    else
      let o := match s.lcOf p with | some n => (s.lc n).oper.getD (0, 0) | none => (0, 0)
      (s.firstStage (coreDie p) (ctxSource c 0) [{ ctx := c, p2 := o.1, p3 := o.2 }]).startTeardown c 0
  | none => s
/-- A core enters reset: a fill that reads its scratchpad stops (Table 8.6), the context of its logical core is torn down (R280 step 1, log 9), and the
    core is held with reason 5. -/
def State.resetCoreBegin (domain : Nat) (s : State) (p : Nat) : State :=
  let s := s.loseScratchpad p
  let s := match s.coreCtx p with | some c => s.startTeardown c 5 | none => s
  (s.modCore p fun c => { c with resetting := true }).holdCore p (resetKey domain)
/-- A reset begins, running the boundary sequence of R280 up to step 3. -/
def State.beginReset (s : State) (domain target source : Nat) : State :=
  if s.resetting domain target then s
  else
    let s := s.modSh fun h => { h with resets := h.resets ++ [(domain, target, s.now, source, source == 0)] }
    match domain with
    | 0 => State.resetCoreBegin 0 (s.raiseFence (coreDie target) (16 + coreIndex target)) target
    | 1 => each (clusterCores (target / 16) (target % 16)) (State.resetCoreBegin 1) (s.raiseFence (target / 16) (target % 16))
    | 2 => ((s.modDie target fun k => { k with inReset := true, first := [] }).dieRing target 0x23 target).holdDie target (resetKey 2) 1
    | _ =>
      let ds := s.partDies target
      let s := each ds (fun s d => each (List.range 12) (fun s c => s.raiseFence d c) s) s
      let s := each (ds.flatMap dieCores) (fun s p =>
        let s := s.loseScratchpad p
        (match s.coreCtx p with | some c => s.startTeardown c 5 | none => s).modCore p fun c => { c with resetting := true }) s
      each ds (fun s d => s.holdDie d (resetKey 3) 2) s

/-- A DEFECTIVE core is power-gated behind the boundary of a core reset (R262, R280). -/
def State.gateCore (s : State) (p : Nat) : State := s.beginReset 0 p (coreSource p 0)
/-- A core is marked DEFECTIVE: its entry, its mark in MRAM, and its power-gating (R262). -/
def State.markDefective (s : State) (p cause : Nat) : State :=
  let t := ((s.fenceCore p 3 cause).modPkg fun g => { g with marks := tset none g.marks p (some cause) }).mramWrite
  if physState (s.phys p) = 3 then t else t.gateCore p
/-- A planned re-placement is queued, once for each logical core (R237, R261). -/
def State.planReplace (s : State) (p cause : Nat) (defective : Bool) : State :=
  match s.lcOf p with
  | none => if defective then s.markDefective p cause else s
  | some n =>
    if s.sh.replaces.any fun r => r.lc == n then
      s.modSh fun h => { h with replaces := h.replaces.map fun r => if r.lc == n then { r with defective := r.defective || defective } else r }
    else s.modSh fun h =>
      { h with replaces := h.replaces ++ [{ lc := n, kind := 2, cause := cause, defective := defective, old := p, new := none, borrowed := false,
                                            filled := false, started := false, since := s.now, freezeReel := 0, needReel := s.now,
                                            lendersFailed := 0, exhausted := false }] }

/-! ## The ladder (R283-R287) -/

/-- The state of a counter with its leak applied, of an N and W in ms. -/
def leakedAt (n w t : Nat) (c : Counter) : Counter := leak n (leakPeriod n w) t c
/-- N and W of CORE_RUNG of a partition (R283). -/
def State.ladder (s : State) (p : Nat) : Nat × Nat := (tget none s.sh.ladderCfg p).getD (8, hour)
/-- CORE_RUNG of a partition with its leak applied. -/
def State.coreRung (s : State) (p : Nat) : Counter := leakedAt (s.ladder p).1 (s.ladder p).2 (s.now / 1000) (tget {} s.sh.coreRung p)
/-- ESCALATE: from and to rung, 0 overrun or 1 rate limit, the rung's COUNT; FATAL from rung 3 on, ERROR below (Table 8.12). -/
def State.escalate (s : State) (source fromRung toRung why count : Nat) : State :=
  s.record 0x0806 (if 3 ≤ toRung then 5 else 3) source (fromRung * 2 ^ 20 + toRung * 2 ^ 16) why count

/-! ## Reactions that the Vat tells (R235, R236) -/

/-- The partitions that an NMI of a source goes to (R236). -/
def State.nmiParts (s : State) (src : Nat) : List Nat :=
  let d := sourceDie src
  match sourceCtx src with
  | some c => s.ctxParts c
  | none =>
    if d < 96 then [s.partOf d]
    else if d = 101 then [src % 8192 / 16]
    else if d = 100 || ((d = 96 || d = 97) && 7520 ≤ src % 8192) then s.partsInUse
    else []
/-- NMI: a multicast to each target partition, counted at its PART_NMI (Table 7.6). Reactions that FAULT_CFG has given PART_NMI follow at the next
    count of the clock (log 97); its PKG is the Vat's, when the count reaches it. -/
def State.sendNmi (s : State) (d src : Nat) : State :=
  each (s.nmiParts src) (fun s p =>
    (s.feltSend d 0x0E 2 p [src]).countLater d (partSource p 1) 225) s
/-- INT, NMI and PIN of an event that the Vat itself counts (Table 7.6). -/
def State.tellReactions (s : State) (src reactions : Nat) : State :=
  let s := if bit reactions 4 then s.postInt src else s
  let s := if bit reactions 3 then s.sendNmi s.actDie src else s
  if bit reactions 0 then s.setPin src else s
/-- One event of PKG_RESET or OUT_OF_SERVICE: its counter, its FAULT record, and the INT, NMI and PIN configured for it, on the event and at a
    crossing (R235, R238); there is no THRESHOLD record (R284). A PKG configured for either asks for the rung that the ladder is deciding on already
    (log 97). -/
def State.countLadder (s : State) (k p2 p3 : Nat) : State :=
  let g := s.cfg (208 + k)
  let r := s.bump (pkgSource k) 1 s.now
  let s := (r.1.record 0x0700 5 (pkgSource k) (g.each * 2 ^ 7) p2 p3).tellReactions (pkgSource k) g.each
  if r.2.isSome then s.tellReactions (pkgSource k) g.thresh else s
/-- The FAULT record of one PKG_RESET increment (R284): COUNT after it, and the source of the action that led to the reset. -/
def State.countPkgReset (s : State) (source : Nat) : State :=
  s.countLadder 7 ((s.bump (pkgSource 7) 1 s.now).1.counter (pkgSource 7)).count source
/-- Out of service begins (R286): 0 by the count limit, 1 by the Operator. -/
def State.enterOos (s : State) (reason : Nat) : State :=
  if s.pkg.oos then s
  else
    let s := s.modPkg fun g => { g with oos := true, powerPending := false }
    let s := s.record 0x0808 5 (pkgSource 8) reason (s.leaked (pkgSource 7)).count 0
    ((s.countLadder 8 0 0).setPin (pkgSource 8)).teardownAll 5
/-- One power-cycle request, or out of service at COUNT 5 (R283, R285). -/
def State.sendPowerReq (s : State) : State :=
  let n := (s.leaked (pkgSource 7)).count
  if 5 ≤ n then s.enterOos 0
  else
    let s := s.record 0x0807 5 (pkgSource 7) n s.pkg.powerReqs 0
    let s := s.emit (.vendor 7 [s.pkg.powerSource, n])
    s.modPkg fun g => { g with powerReqs := g.powerReqs + 1 }
/-- Rung 4: every context is torn down, every core held, and a power cycle requested (R285). The spec names no reason code for that hold: it is
    given reason 0x1 Fence with region kind 3 package (DESIGN CHOICE, log 93). -/
def State.requestPowerCycle (s : State) (source : Nat) : State :=
  let s := s.teardownAll 5
  let s := each (List.range 96) (fun s d => s.holdDie d powerKey 3) s
  let s := s.modPkg fun g => { g with powerPending := true, powerSource := source, powerReqs := 0 }
  (s.countPkgReset source).sendPowerReq

/-- What the Vat keeps across a package reset: its MRAM, its recorder, its staged records, the management port's link. -/
def keepVat (v : Vat) : Vat :=
  { ({} : Vat) with mramEpoch := v.mramEpoch, mramRole := v.mramRole, staged := v.staged, roll := v.roll, head := v.head, writing := v.writing
                    staging := v.staging, lost := v.lost, lostFirst := v.lostFirst, selfFailHours := v.selfFailHours, linkUp := v.linkUp }
/-- What the mirrored stores keep in MRAM and retention across a package reset: PKG_RESET and OUT_OF_SERVICE (R232), class and ladder configuration
    (R238), PIN latches (R243), the record sequence number (R460) and HEAD_FULL, records that no Vat has taken. Block d of the ticket pool is lent to
    compute die d (R157). -/
def keepSh (h : Shared) : Shared :=
  { ({} : Shared) with counters := h.counters.filter (fun e => e.1 == pkgSource 7 || e.1 == pkgSource 8), classCfg := h.classCfg,
                       ladderCfg := h.ladderCfg, pins := h.pins, pool := tput none [] 0 ((List.range 96).map some), recSeq := h.recSeq
                       headFull := h.headFull, heldRecs := h.heldRecs }
/-- What the package keeps across a package reset: its fuses, retention and MRAM. Every tap comes out of it with SEQ_CMP_EN 1, so a SEQ_OFF that is
    carried across it clears by the periodic runs that start from then on (R124, R254). -/
def keepPkg (g : Pkg) : Pkg :=
  { g with ready := false, readyReel := 0, notReady := 0, degraded := 0, dieMask := 0, duplex := false, vendorDebug := false, t0 := 0, bringupBad := [],
           unscreened := false, hostRevoked := [], partition := [], relaxed := [], relaxSum := [], partHeld := [], flashWin := false, flashOkSince := none,
           alignBlocked := [], alignRepeated := false, qualifying := false, fwWriting := none, fwQueue := [], reamAreas := [], reamWords := []
           reamShards := [], reclaim := [], proposed := 0, seqOnSince := if bit g.voidReasons 0 then some 0 else none,
           thermalDies := g.thermalDies.map fun e => (e.1, e.2.map fun _ => 0),
           flash := g.flash.map fun e => (e.1, { e.2 with writing := none, dirPending := none,
                                                          overtaken := match e.2.dirPending with | some x => some x | none => e.2.overtaken }) }
/-- Bring-up starts at T0 (R470): everything is reset but what is kept; step 1 of Table 15.1 is done. A start after a loss of power is a
    cold start and increments the power-cycle count (R471, R485). Alias accesses that a switch-over gap holds are dropped with the gap, without a
    completion or an error response (DESIGN CHOICE, log 92). -/
def State.bringUp (s : State) : State :=
  let g := keepPkg s.pkg
  let t : State := { s with reel := 0, vatA := keepVat s.vatA, vatB := keepVat s.vatB, sh := keepSh s.sh, dbg := {}, dies := [], cores := [], lcs := []
                            felt := {}
                            pkg := { g with boot := .step 2, pcycle := if g.powerLost then satAdd 24 g.pcycle 1 else g.pcycle,
                                            powerLost := false, pinKept := !s.sh.pins.isEmpty, hours := max g.hours g.hoursMram } }
  t.keepDurable
/-- A package reset is entered (R279). `counted` is false for the resets that R286, R287 and R428 leave uncounted; with PKG_RESET at or above its N the
    request moves to rung 4, and while a power-cycle request waits it is counted there; COUNT 5 begins out of service (R283, R286, Table 8.13). -/
def State.packageReset (s : State) (source : Nat) (counted : Bool) : State :=
  if counted && !s.pkg.oos then
    let n := (s.leaked (pkgSource 7)).count
    if s.pkg.powerPending then
      let s := (s.escalate source 3 4 1 n).countPkgReset source
      if 5 ≤ (s.leaked (pkgSource 7)).count then s.enterOos 0 else s
    else if (s.cfg 215).n ≤ n then (s.escalate source 3 4 1 n).requestPowerCycle source
    else
      let s := s.countPkgReset source
      let s := if 5 ≤ (s.leaked (pkgSource 7)).count then s.enterOos 0 else s
      (s.modPkg fun g => { g with ladderReset := some source }).bringUp
  else (s.modPkg fun g => { g with ladderReset := none }).bringUp
/-- A partition is held at rung 2: its dies are fenced and held (Table 8.11). -/
def State.holdPart (s : State) (p : Nat) : State :=
  let s := s.modPkg fun g => { g with partHeld := insertNat p g.partHeld }
  each (s.partDies p) (fun s d => (each (List.range 12) (fun s c => s.raiseFence d c) s).holdDie d rungKey 2) s
/-- A request at rung 2: a partition reset, counted at PART_RESET; at its threshold the partition is held (Table 7.5, Table 8.11). -/
def State.requestPart (s : State) (p source : Nat) : State :=
  let src := partSource p 0
  let g := s.cfg 224
  if s.resetting 3 p then s
  else if g.n ≤ (s.leaked src).count then s.holdPart p
  else
    let r := s.bump src 1 s.now
    let s := (r.1.record 0x0700 (sevOf g.each false 1) src (g.each * 2 ^ 7) 0 0).tellReactions src g.each
    let s := s.beginReset 3 p source
    let s := if r.2.isSome then
        ((s.record 0x0701 (sevOf g.thresh true 2) src (g.thresh * 2 ^ 7) (s.counter src).count g.n).tellReactions src g.thresh).holdPart p
      else s
    if bit g.each 1 || (r.2.isSome && bit g.thresh 1) then s.packageReset src true else s
/-- A request at rung 1: a core or cluster reset, counted at CORE_RUNG; at or above its N a partition reset is taken (R283). -/
def State.requestCore (s : State) (domain target source : Nat) : State :=
  let d := if domain = 0 then coreDie target else target / 16
  let p := s.partOf d
  let c := s.coreRung p
  if s.resetting domain target then s
  else if (s.ladder p).1 ≤ c.count then (s.escalate source 1 2 1 c.count).requestPart p source
  else
    let r := bumpOne (s.ladder p).1 (leakPeriod (s.ladder p).1 (s.ladder p).2) (s.now / 1000) (tget {} s.sh.coreRung p)
    (s.modSh fun h => { h with coreRung := tset {} h.coreRung p r.1 }).beginReset domain target source
/-- The cores of a domain are held for its reset (R83, reason 5). -/
def State.holdDomain (s : State) (domain target : Nat) : State :=
  if domain = 3 then each (s.partDies target) (fun s d => s.holdDie d (resetKey 3) 2) s
  else each (s.domainCores domain target) (fun s p => s.holdCore p (resetKey domain)) s
/-- A reset that an agent's BLK begins while no Vat acts: its cores are held, and the ladder's count, the fence and the teardown wait for the Vat
    (Table 1.2, log 97). -/
def State.queueReset (s : State) (domain target source : Nat) : State :=
  (s.holdDomain domain target).modSh fun h => { h with resetDue := h.resetDue ++ [(domain, target, source)] }
/-- A reset is requested at the ladder rung of its domain (R279, Table 8.11); while no Vat gives orders it waits (Table 1.2, R342): 0 core, 1 cluster, 2
    agent, 3 partition, 4 package. -/
def State.requestReset (s : State) (domain target source : Nat) : State :=
  if !s.orders && (domain = 0 || domain = 1 || domain = 3) then s.queueReset domain target source
  else match domain with
  | 0 => s.requestCore 0 target source
  | 1 => s.requestCore 1 target source
  | 2 => s.beginReset 2 target source
  | 3 => s.requestPart target source
  | _ => s.packageReset source true

end Sys2Proof.Machine
end

