-- ==== Sys2Proof/Machine/Count.lean ====
section
/-! DEFINITION. Counting of fault events: the agents' first stage, the Vat's counter store, reactions and threshold actions (R25, R230-R239),
the bound-void flag (R254), and the gating of a Vat (R322). -/

namespace Sys2Proof.Machine

/-! ## Gating a Vat (R322, R323, R327) -/

/-- The accesses that an active Vat has forwarded complete with an error response when it leaves service (Table 16.5). -/
def State.dropFwds (s : State) (h : Hub) : State :=
  if (s.vat h).role = .active then
    ((each s.sh.fwds (fun s _ => s.emit .errorResponse) s).modFelt fun n =>
      { n with waiting := n.waiting.filter fun w => !(w.t.type == 0x80 && s.sh.fwds.any fun f => f.id == w.t.seq && w.t.src == hubDie h) }).modSh fun x =>
        { x with fwds := [] }
  else s
/-- A Vat leaves service: it is OFFLINE, its control cores and registers reset but for what a retention block keeps (R488), the epoch's MRAM copy kept, its
    hub's MRAM window to be decided anew, and its image to be loaded again (R15, R327, R397). -/
def State.vatDown (s : State) (h : Hub) : State :=
  ((s.dropFwds h).modVat h fun v => { v with role := .offline, gated := true, image := none, loadStart := some s.reel, cplDie := 0, mramWin := false,
                                             mramOkSince := none, cplOff := 0, privDeny := 0, fwSerial := 0, epoch := 0, peer := none, syncStart := none, mirrorApplied := 0,
                                             cycleItems := 0 }).keepDurable
/-- A new switch-over gap (R324): `step` is 1 when its trigger is detected. -/
def State.newGap (s : State) (trigger : Nat) (newActive : Hub) (start : Nat) (gated run : Bool) : Gap :=
  { trigger := trigger, start := start, step := 1, newActive := newActive,
    epoch := max s.lastEpoch s.pkg.proposed + 1,
    gated := gated, confirmed := gated, deposeReel := 0, asked := 0, acks := [], naks := [], lastAck := 0, returned := [], others := [], items := [],
    held := [],
    switchRun := run }
/-- Updates the switch-over in progress. -/
def State.modGap (s : State) (f : Gap → Gap) : State := s.modSh fun x => { x with gap := x.gap.map f }
/-- A Vat that could promote: in STANDBY, its last self-test cycle without a failed item, with an epoch left (R320, R323, Table 10.8). -/
def State.canPromote (s : State) (h : Hub) : Bool :=
  (s.vat h).role == .standby && (s.vat h).lastFailed == 0 && decide (max s.lastEpoch s.pkg.proposed + 1 < 2 ^ 32)
/-- A trigger finds the active Vat gated: VAT_FAILED goes to the standby when it can promote; otherwise there is no switch-over, and a package reset
    follows after 100 us (R322, R323). -/
def State.failOver (s : State) (h : Hub) (code : Nat) : State :=
  if s.canPromote (otherHub h) then
    let g := s.newGap code (otherHub h) s.reel true false
    ((s.vatDown h).modSh fun x => { x with gap := some g, switching := false }).feltSend (hubDie h) 0x03 0 (hubDie (otherHub h)) [code]
  else (s.vatDown h).modSh fun x => { x with noStandby := some s.reel, switching := false }
/-- The Vat that was to become active fails during the gap (Table 10.8): a package reset follows after 100 us, and the accesses that the alias holds,
    which no Vat serves, complete with an error response (log 92). An old Vat that is not gated stays active, and takes them (log 92). -/
def State.gapFails (s : State) (g : Gap) : State :=
  let s := (s.vatDown g.newActive).modSh fun x => { x with gap := none }
  if (s.vat (otherHub g.newActive)).role = .active then
    s.modSh fun x => { x with vatHeld := x.vatHeld ++ g.held.map fun a => match a.2 with | some v => .registerWrite a.1 v | none => .registerLoRead a.1 }
  else each g.held (fun s _ => s.emit .errorResponse) (s.modSh fun x => { x with noStandby := some s.reel })
/-- A trigger of Table 10.2, codes 2 to 5, on a hub. One during a switch-over joins it (Table 10.8): the old Vat is gated and VAT_FAILED sent. A Vat
    that is not active is reset. -/
def State.vatTrigger (s : State) (h : Hub) (code : Nat) : State :=
  match s.sh.gap with
  | some g =>
    if g.newActive = h then s.gapFails g
    else if (s.vat h).role = .active then
      ((s.vatDown h).modGap fun g => { g with gated := g.gated || g.step == 1 }).feltSend (hubDie h) 0x03 0 (hubDie g.newActive) [code]
    else s
  | none =>
    if s.activeHub = some h then s.failOver h code
    else if (s.vat h).role = .standby || (s.vat h).role = .syncing then s.vatDown h else s

/-! ## Reactions (R235-R237) -/

/-- BLK: the reset of the source's unit (R236); a core in triage waits for its verdict (Table 8.13), and a hang runs its own sequence (R271). -/
def State.takeBlk (s : State) (src : Nat) : State :=
  match classOf src with
  | none => s
  | some key =>
    if key = 31 then s
    else if key < 64 then
      let p := (sourceCore src).getD 0
      if (s.core p).frozen || s.sh.triages.any (fun t => t.core == p) || (key < 16 && (s.lcOf p).isSome) then
        s.modCore p fun c => { c with blkWait := some src }
      else s.requestReset 0 p src
    else if key = 70 || key = 71 then s.requestReset 2 (sourceDie src) src
    else if 128 ≤ key && key < 160 then s.requestReset 1 (sourceDie src * 16 + (src % 8192 - 7520) / 8) src
    else if 160 ≤ key && key < 192 then (match dieHub (sourceDie src) with | some h => s.vatTrigger h 5 | none => s)
    else if 224 ≤ key && key < 232 then s.requestReset 3 (src % 8192 / 16) src
    else match sourceCtx src with
      | some c => if !s.orders then s.queueReset 5 c src else s.startTeardown c 0
      | none => s
/-- The reactions that an agent takes: NMI, BLK and PIN; with PKG, BLK is not taken (R235, R237). -/
def State.agentReact (s : State) (d src reactions : Nat) : State :=
  let s := if bit reactions 3 then s.sendNmi d src else s
  let s := if bit reactions 0 then s.setPin src else s
  if bit reactions 2 && !bit reactions 1 then s.takeBlk src else s
/-- A fault on a core while its Beater slice runs stops the slice at its next shift boundary, as not completed (Table 1.4). -/
def State.stopSlice (s : State) (src : Nat) : State :=
  match sourceCore src with
  | none => s
  | some p =>
    let b := (s.die (coreDie p)).beater
    if b.shifting && b.target == some (coreIndex p) then
      s.modDie (coreDie p) fun k => { k with beater := { k.beater with stopping := true, faulted := true } }
    else s
/-- The next event of a source crosses its class's threshold, with the events of it that its agent has not forwarded yet (R234). -/
def State.crossesNext (s : State) (d src : Nat) : Bool := (s.bump src ((tget {} (s.die d).first src).count + 1) s.now).2.isSome
/-- The reactions on each event that are taken: an event that calls for PKG, by itself or by the threshold that it crosses, takes no BLK (R237). -/
def ClassCfg.eachTaken (g : ClassCfg) (crosses : Bool) : Nat :=
  if bit g.each 2 && (bit g.each 1 || (bit g.thresh 1 && crosses)) then g.each - 4 else g.each
/-- The reactions at a crossing that are taken: an event that calls for PKG, by itself or by the crossing, takes no BLK (R237). -/
def ClassCfg.threshTaken (g : ClassCfg) : Nat := if bit g.thresh 2 && (bit g.thresh 1 || bit g.each 1) then g.thresh - 4 else g.thresh
/-- The reactions on an event that the agent takes (R237, log 97). -/
def State.reactionsOf (s : State) (d src key : Nat) : Nat := (s.cfg key).eachTaken (bit (s.cfg key).thresh 1 && s.crossesNext d src)
/-- The words of COUNT_FWD for the agent's counts. -/
def Die.firstWords (k : Die) : List Nat := k.first.flatMap fun e => [e.1, e.2.count, b2n e.2.sat, e.2.reel % 2 ^ 32, e.2.reel / 2 ^ 32]
/-- FIRST_STAGE_FORWARD (R25): the agent forwards its counts to the active Vat over FC0; with none they wait. -/
def State.forwardFirst (s : State) (die : Nat) : State :=
  if (s.die die).inReset || s.acting.isNone || (s.die die).first.isEmpty then s
  else (s.modDie die fun k => { k with first := [] }).toVat die 0x09 (s.die die).firstWords
/-- One event of a source, detected on a die: counted at the first stage, with the agent's reactions on each event (Table 1.2). An agent that resets
    itself forwards its counts first, within its 10 us (R25, Table 7.11, log 97). -/
def State.agentCount (s : State) (d src : Nat) (detail : Detail) : State :=
  match classOf src with
  | none => s
  | some key =>
    let m := s.reactionsOf d src key
    let s := (s.stopSlice src).firstStage d src [detail]
    (if (key = 70 || key = 71) && bit m 2 then s.forwardFirst d else s).agentReact d src m

/-- A Vat's command at a die's agent: RESETTING while the agent is in reset (R365); a lower epoch is discarded, counted at DUAL_ACTIVE and
    answered with EPOCH_STALE, a higher one raises CPL_EPOCH (R319); then as any transaction (R363). -/
def State.recvCmd (s : State) (die : Nat) (h : Hdr) (ty : Nat) (f : State → State) : State :=
  let k := s.die die
  if k.inReset then (if answeredType ty then s.ack die h.src ty h.seq 2 else s)
  else if h.epoch < k.epoch then (s.agentCount die (pkgSource 5) default).feltSend die 0x06 0 h.src [k.epoch]
  else (s.modDie die fun k => { k with epoch := h.epoch }).recv die h ty f

/-! ## The counter store (R232-R234) -/

/-- The die whose agent takes a source's reactions (Table 7.6). -/
def State.agentOf (s : State) (src : Nat) : Nat := if sourceDie src < 100 then sourceDie src else s.actDie
/-- The FAULT records of a batch's events (R249); `crossing` is the number of the event that crosses. -/
def State.faultRecs (s : State) (src key reel : Nat) (crossing : Option Nat) (details : List Detail) : State :=
  let g := s.cfg key
  if key = 217 || key = 218 || !(g.record || g.each != 0 || (classInfo key).fixed) then s
  else
    let u := (s.die (s.agentOf src)).unaligned
    each details.zipIdx (fun s e =>
      let m := g.eachTaken (crossing == some e.2)
      s.recordAt 0x0700 (sevOf m (eachTakes key || e.1.kills) 1) src reel u (e.1.ctx * 2 ^ 12 + m * 2 ^ 7) e.1.p2 e.1.p3) s
/-- A crossing of CTX_POISON faults its context: it runs in CARRY mode and is not in teardown (R246, Table 7.11). -/
def State.carryFault (s : State) (src key : Nat) : Bool :=
  key == 235 && match sourceCtx src with
    | some c => (s.ctx c).poisonMode == 1 && ((s.ctx c).state == 1 || (s.ctx c).state == 2)
    | none => false
/-- The fixed action of a crossing (Table 7.2, Table 7.5); none in ROM minimal mode, which gives no fencing orders (R342). -/
def State.threshAction (s : State) (src key : Nat) : State :=
  match sourceCore src with
  | some p =>
    if !s.orders then s
    else if key = 25 || key = 29 || key = 31 || key = 32 || key = 26 || key = 28 then s.planReplace p key true
    else if key = 27 then s.planReplace p key false
    else s
  | none => s
/-- Applies a batch of events at the Vat: the counter, FAULT records, INT, and at a crossing THRESHOLD with its reactions (R233-R235, R249). -/
def State.applyOne (s : State) (src key reel : Nat) (details : List Detail) : State :=
  let g := s.cfg key
  let r := s.bump src details.length reel
  let s' := r.1.faultRecs src key reel r.2 details
  let s' := if bit g.each 4 && !details.isEmpty then s'.postInt src else s'
  match r.2 with
  | none => s'
  | some i =>
    let d := details.getD i default
    let own := key < 64 || 232 ≤ key
    let cal := 81 ≤ key && key ≤ 86
    let c := (s.bump src (i + 1) reel).1.counter src
    let m := g.threshTaken
    let takes := if key = 235 then s.carryFault src key else threshTakes key
    let s := if key = 217 then s'
      else s'.recordAt 0x0701 (sevOf m takes 2) src reel (s'.die (s'.agentOf src)).unaligned (d.ctx * 2 ^ 12 + m * 2 ^ 7)
        (if own || cal then d.p2 else c.count) (if own then d.p3 else g.n)
    let s := if key < 96 || (128 ≤ key && key < 160) then s.modSh fun h => { h with riskThresh := h.riskThresh ++ [(s.now, src)] } else s
    let s := if bit g.thresh 4 then s.postInt src else s
    let s := if bit m 3 || bit m 2 || bit m 0 then s.vatSend 0x0A 0 (s.agentOf src) [src, m] else s
    s.threshAction src key
/-- The package rung that a batch asks for: PKG on each event, or at a crossing. -/
def State.pkgAfter (s : State) (src key : Nat) (crossed : Bool) : State :=
  let g := s.cfg key
  if bit g.each 1 || (bit g.thresh 1 && crossed) then s.packageReset src true else s
/-- A batch of events of one source at the Vat, with the teardown at CTX_FAULT and a request at the package rung. -/
def State.applyBase (s : State) (src key reel : Nat) (details : List Detail) : State :=
  let crossed := (s.bump src details.length reel).2.isSome
  let s := s.applyOne src key reel details
  let s := match sourceCtx src with
    | some c => if key = 232 && !details.isEmpty then s.ctxFault c else s
    | none => s
  s.pkgAfter src key crossed
/-- A batch of events of one source at the Vat, with what follows from it: at the CTX_POISON threshold in CARRY mode a context fault, which counts
    with its own reactions (R246). -/
def State.applyCount (s : State) (src reel : Nat) (details : List Detail) : State :=
  match classOf src with
  | none => s
  | some key =>
    let t := s.applyBase src key reel details
    match (s.bump src details.length reel).2, sourceCtx src with
    | some i, some c =>
      if s.carryFault src key then
        let f := ctxSource c 0
        (t.agentReact t.actDie f (t.reactionsOf t.actDie f 232)).applyBase f 232 reel [details.getD i default]
      else t
    | _, _ => t
/-- One event that the Vat itself detects: the reactions of its hub's agent, and its counter; while no Vat acts the agent's first stage keeps the
    count (Table 1.2). -/
def State.vatCount (s : State) (src : Nat) (detail : Detail) : State :=
  match classOf src with
  | none => s
  | some key =>
    let d := s.agentOf src
    let t := s.agentReact d src (s.reactionsOf d src key)
    if s.acting.isNone then t.firstStage d src [detail] else t.applyCount src t.now [detail]
/-- One event that the Vat itself detects and records whatever its class's RECORD says (R45). -/
def State.vatCountRecorded (s : State) (src : Nat) (detail : Detail) : State :=
  match classOf src with
  | none => s
  | some key =>
    let g := s.cfg key
    let s := if g.record || g.each != 0 || (classInfo key).fixed then s
      else s.record 0x0700 (sevOf g.each (eachTakes key) 1) src (detail.ctx * 2 ^ 12) detail.p2 detail.p3
    s.vatCount src detail
/-- The reactions that the drop of a record or an NMI called for are taken at the next count of the clock (R235, R463, log 97); a request at the
    package rung waits for a Vat (Table 1.2). -/
def State.takeReact (s : State) : State :=
  match s.sh.reactDue with
  | [] => s
  | x :: l =>
    if bit x.2 1 && s.acting.isNone then s
    else
      let s := (s.modSh fun h => { h with reactDue := l }).agentReact (s.agentOf x.1) x.1 x.2
      if bit x.2 1 then s.packageReset x.1 true else s
/-- A reset that an agent began while no Vat acted is counted at its rung and goes on, once one does (Table 1.2, log 97). -/
def State.takeReset (s : State) : State :=
  match s.sh.resetDue with
  | [] => s
  | x :: l =>
    if !s.orders then s
    else
      let s := s.modSh fun h => { h with resetDue := l }
      if x.1 = 5 then s.startTeardown x.2.1 0 else s.requestReset x.1 x.2.1 x.2.2
/-- What is due at a count of the clock. -/
def State.takeDue (s : State) : State := s.takeReact.takeReset

/-! ## The bound-void flag (R254) -/

/-- Operating time in counts of 1 ns (R472): it goes on through resets, unlike the reel count. -/
def Pkg.opTime (g : Pkg) : Nat := g.hours * 878906250 + g.hoursFrac
/-- A reason of Table 7.10 sets: BOUND_VOID is written and counted. -/
def State.setVoid (s : State) (b : Nat) : State :=
  if bit s.pkg.voidReasons b then s
  else
    let v := s.pkg.voidReasons + 2 ^ b
    let s := s.modPkg fun g => { g with voidReasons := v, voidSince := if g.voidReasons = 0 then g.opTime else g.voidSince
                                        voidCleared := if g.voidReasons = 0 then 0 else g.voidCleared }
    (s.record 0x0704 2 (pkgSource 1) (2 ^ b) v 0).vatCount (pkgSource 1) default
/-- A reason of Table 7.10 clears: when the last one does, BOUND_RESTORED is written with the reasons cleared since the flag was set (log 121). -/
def State.clearVoid (s : State) (b : Nat) : State :=
  if bit s.pkg.voidReasons b then
    let v := s.pkg.voidReasons - 2 ^ b
    let s := s.modPkg fun g => { g with voidReasons := v, voidCleared := g.voidCleared ||| 2 ^ b }
    if v = 0 then s.record 0x0705 0 (pkgSource 1) s.pkg.voidCleared (sat 24 ((s.pkg.opTime - s.pkg.voidSince) / 1000000000)) 0 else s
  else s

end Sys2Proof.Machine
end

