-- ==== Sys2Proof/Machine/Operands.lean ====
section
/-! DEFINITION. Operand forms: register windows and their registers (R10-R20, R486-R501), packets and their checks (R406-R427). -/

namespace Sys2Proof.Machine

/-! ## Calender's limits and permission (R387-R391, R400) -/

/-- 0 compute, 1 hub, 2 photonic. -/
def dieKind (d : Nat) : Nat := if d < 96 then 0 else if d < 98 then 1 else 2
/-- Temperature sensors of a die (Table 12.1). -/
def sensorCount (d : Nat) : Nat := if d < 96 then 16 else 8
/-- Pace monitors of a die (Table 12.1). -/
def paceCount (d : Nat) : Nat := if d < 96 then 4 else 0
/-- HIGH of a die in 1/8 C (Table 12.2). -/
def State.highOf (s : State) (d : Nat) : Int := ((if d < 98 then 100 else 80) + tget 0 s.pkg.high (dieKind d)) * 8
/-- LOW of a die in 1/8 C (Table 12.2). -/
def State.lowOf (s : State) (d : Nat) : Int := ((if d < 98 then 0 else 5) + tget 0 s.pkg.low (dieKind d)) * 8
/-- A sensor of a die. -/
def State.sensor (s : State) (d n : Nat) : Sensor := tget {} (s.die d).cal.temps n
/-- A Calender hold is in force on a die (R391, R395). -/
def State.calHold (s : State) (d : Nat) : Bool := (s.die d).cal.thermHold || (s.die d).cal.vmonHold
/-- Calender permits screening on a compute die (R400), once every sensor has been sampled (log 12). -/
def State.screenOk (s : State) (d : Nat) : Bool :=
  isCompute d && !(s.die d).cal.near && !s.calHold d && !(s.die d).cal.paceLow && (s.die d).cal.vrefOk &&
  (List.range 16).all fun n => (s.sensor d n).sampled && decide ((s.sensor d n).temp ≤ s.highOf d - 8 * s.pkg.screenMargin)

/-! ## Privilege (R423, R487) -/

/-- Vendor 0, Operator 1, Tenant 2, none 3. -/
def privRank : Priv → Nat
  | .vendor => 0
  | .operator => 1
  | .tenant => 2
  | .none => 3
/-- A privilege meets a least privilege: "Any" is `none`. -/
def privMeets (p least : Priv) : Bool := privRank p ≤ privRank least
/-- An access meets the least privilege of an MTP register of a core (R487). -/
def State.tapMeets (s : State) (p : Nat) (least priv : Priv) (tag : Option Nat) : Bool :=
  match priv with
  | .tenant =>
    if least = .tenant then
      match s.lcOf p with
      | some n => (s.lc n).tag.isSome && decide ((s.lc n).tag = tag)
      | none => false
    else privMeets priv least
  | _ => privMeets priv least

/-! ## The VAT block (Table 16.1) -/

/-- Least privilege for reading a VAT register; a write-only register takes that of its write. -/
def vatReadPriv (off : Nat) : Priv :=
  if [0x000, 0x004, 0x00C, 0x010, 0x014, 0x018, 0x01C, 0x020, 0x030, 0x034, 0x04C, 0x054, 0x058, 0x05C, 0x060, 0x068, 0x06C, 0x070, 0x078, 0x07C,
      0x080, 0x084].contains off then .none
  else if off ≤ 0x0B8 then .operator else .none
/-- Least privilege for writing a VAT register; a read-only register takes that of its read. -/
def vatWritePriv (off : Nat) : Priv := vatReadPriv off
/-- A mirrored field as a Vat shows it: the shared value in ACTIVE, STANDBY and ROM_MINIMAL, its reset value otherwise (R488, R489). -/
def State.mirrored (s : State) (h : Hub) (v : Nat) : Nat :=
  if (s.vat h).role = .active || (s.vat h).role = .standby || (s.vat h).role = .romMinimal then v else 0
/-- VAT_PEER_HEALTH's HEALTHY (R337): a report whose reel count of the last cycle reads 0 has no completed cycle (log 149). -/
def healthy (now : Nat) (p : Health) : Bool := p.role == 1 && p.failed == 0 && p.cycleReel != 0 && decide (now - p.cycleReel ≤ 1000000000)
/-- The ring state of a station: 0 WHOLE, 1 LINE, 2 SPLIT, 3 FAILOVER. -/
def ringOf (k : Die) (ring : Nat) : Nat := if ring = 0 then k.ring0 else k.ring1
/-- Pool blocks held in reserve (R157). -/
def State.poolReserve (s : State) : Nat := ((List.range 160).filter fun b => (tget none s.sh.pool b).isNone).length
/-- The value of a VAT register of a hub's window, without any latching. -/
def State.vatReg (s : State) (h : Hub) (off : Nat) : Nat :=
  let v := s.vat h
  let m := s.mirrored h
  match off with
  | 0x000 => Config.siliconStep * 2 ^ 16 + hubNum h
  | 0x004 => roleCode v.role
  | 0x008 => v.epoch
  | 0x00C => m (b2n s.pkg.ready * 2 ^ 31 + s.pkg.notReady * 2 ^ 16 + s.pkg.degraded)
  | 0x010 => s.pkg.spad
  | 0x014 => ((List.range 96).filter fun d => bit s.pkg.dieMask d).length * 2 ^ 16 + s.pkg.lifecycle * 2 ^ 13 + b2n s.pkg.duplex * 2 ^ 12 +
      b2n s.pkg.vendorDebug * 2 ^ 11 + 16
  | 0x018 => bits s.pkg.dieMask 0 32
  | 0x01C => bits s.pkg.dieMask 32 32
  | 0x020 => bits s.pkg.dieMask 64 32
  | 0x024 => match v.peer with
    | none => 3 * 2 ^ 28 + 0xFFF * 2 ^ 16
    | some p => b2n (healthy s.now p) * 2 ^ 31 + p.role * 2 ^ 28 + min 0xFFF ((s.now - p.cycleReel) / 1000000) * 2 ^ 16 + p.failed % 128
  | 0x028 => match v.peer with | none => 0 | some p => p.mirrorSeq
  | 0x02C => match v.peer with | none => 0 | some p => p.serial
  | 0x030 => s.dieReel (hubDie h) % 2 ^ 32
  | 0x034 => v.reelHi
  | 0x038 => s.pkg.hours
  | 0x03C => s.pkg.pcycle
  | 0x040 => m (b2n (s.pkg.voidReasons != 0) * 2 ^ 31 + s.pkg.voidReasons)
  | 0x044 => m s.pkg.voidHours
  | 0x048 => m s.sh.replAgree
  | 0x04C => v.fwSerial
  | 0x050 => s.pkg.fwMin
  | 0x054 => bits s.pkg.uid 0 32
  | 0x058 => bits s.pkg.uid 32 32
  | 0x05C => bits s.pkg.uid 64 32
  | 0x060 => bits s.pkg.uid 96 32
  | 0x064 => m (b2n s.sh.readyPosted * 2 + b2n (!s.sh.pendingList.isEmpty))
  | 0x068 => m (bits s.sh.aptDone 0 32)
  | 0x06C => m (bits s.sh.aptDone 32 32)
  | 0x070 => m s.sh.aptDrop
  | 0x074 => v.privDeny
  | 0x088 => s.sh.recSeq
  | 0x08C => b2n s.pkg.flashWin * 2 ^ 26 + b2n v.mramWin * 2 ^ 25 + b2n s.sh.headFull * 2 ^ 24 + v.staging.length * 2 ^ 13 + v.head.length
  | 0x090 => m s.sh.msiCtl
  | 0x094 => m (s.sh.msiAddr % 2 ^ 32)
  | 0x098 => m (bits s.sh.msiAddr 32 32)
  | 0x09C => m s.sh.msiFault
  | 0x0A0 => m s.sh.msiCmd
  | 0x0A4 => m s.sh.msiReady
  | 0x0A8 => v.cplDie * 2 ^ 16 + v.cplOff * 4
  | 0x0B0 => s.felt.broken.length % 256 * 2 ^ 8 + (s.die (hubDie h)).ring1 * 4 + (s.die (hubDie h)).ring0
  | 0x0B4 => ((List.range 96).filter fun d => 3 ≤ tget 0 s.sh.refusals d).length * 2 ^ 16 + min 64 s.poolReserve * 2 ^ 8 + s.sh.leases.length
  | _ =>
    if 0x078 ≤ off && off ≤ 0x084 then
      m (((List.range 16).map fun i => (tget {} s.sh.slots ((off - 0x078) / 4 * 16 + i)).state * 4 ^ i).foldl (· + ·) 0)
    else 0

/-! ## The aperture's packets and replies (R406, R414) -/

/-- The little-endian words of a list of (width in bits, value) fields, packed from bit 0 (R413, R414). -/
def packFields : List (Nat × Nat) → Nat
  | [] => 0
  | (w, v) :: l => v % 2 ^ w + 2 ^ w * packFields l
/-- The width of a list of fields, in bits. -/
def fieldBits (l : List (Nat × Nat)) : Nat := (l.map (·.1)).foldl (· + ·) 0
/-- The clamp-report entry of a field (R420). -/
def clampFields (c : Clamp) : List (Nat × Nat) := [(16, c.field), (8, c.width), (40, 0), (64, c.asked), (64, c.used)]
/-- The fields of a reply after its header: the first 20 clamps, then the result data (R414, R420). -/
def replyBody (r : Reply) : List (Nat × Nat) := (r.clamps.take 20).flatMap clampFields ++ r.data
/-- LENGTH of a reply: its bytes, in whole words. -/
def replyLength (r : Reply) : Nat := 16 + ceilDiv (fieldBits (replyBody r)) 32 * 4
/-- A reply as one number, byte 0 lowest (R414). -/
def replyNum (r : Reply) : Nat :=
  packFields ([(16, r.opcode), (16, r.tag), (16, replyLength r), (16, r.status), (16, r.clamps.length), (16, 0), (32, r.reel)] ++ replyBody r)
/-- The word of a slot's reply area (R406). -/
def State.replyWord (s : State) (slot word : Nat) : Nat :=
  match (tget {} s.sh.slots slot).reply with
  | some r => bits (replyNum r) (32 * word) 32
  | none => 0

/-! ## The CPL block (Table 16.2) -/

/-- The reel count from which a core's screen age runs (R192). -/
def State.screenStart (s : State) (p : Nat) : Nat := if (s.core p).screenValid then (s.core p).screen else s.pkg.readyReel
/-- The screen age of a core in ns (R192). -/
def State.screenAge (s : State) (p : Nat) : Nat := s.now - s.screenStart p
/-- The cores of a die that are in service or a spare (CPL_SCREEN_AGE). -/
def State.usable (s : State) (d : Nat) : List Nat := (dieCores d).filter fun p => physState (s.phys p) ≤ 1 && s.enabled d
/-- SCREEN_OVERDUE clears when no core in service or spare has a screen age of 15 min any more (Table 7.10): at the ready declaration, where screen
    ages restart, or later (R254). -/
def State.clearOverdue (s : State) : State :=
  if bit s.pkg.voidReasons 1 && s.pkg.ready && ((List.range 96).flatMap s.usable).all fun p => decide (s.screenAge p < 900000000000) then s.clearVoid 1
  else s
/-- Offsets of the CPL registers that a die has (R493). -/
def cplListed (d off : Nat) : Bool :=
  off % 4 == 0 && (off < 0x40 && (isCompute d || (off != 0x30 && off != 0x34 && off != 0x38)) || (0x40 ≤ off && off < 0xA0) ||
    (isCompute d && ((0x100 ≤ off && off < 0x370) || (0x400 ≤ off && off < 0x640))))
/-- Least privilege for reading a CPL register. -/
def cplPriv (off : Nat) : Priv := if off = 0 || off = 0x10 || off = 0x14 then .none else .operator
/-- A sum of shifted flags. -/
def flag (b : Bool) (n : Nat) : Nat := b2n b * 2 ^ n
/-- The value of a CPL register, without any latching. -/
def State.cplReg (s : State) (d off : Nat) : Nat :=
  let k := s.die d
  if !cplListed d off then 0
  else match off with
  | 0x00 => (if isCompute d then 156 else 0) * 2 ^ 16 + dieKind d * 2 ^ 8 + d
  | 0x04 => (if isCompute d then ((List.range 12).filter fun c => (clusterCores d c).any fun p => physState (s.phys p) == 0 && s.enabled d).length
      else 0) * 2 ^ 16 + k.ring1 * 2 ^ 10 + k.ring0 * 2 ^ 8 + flag k.stopLatch 6 + flag k.reelLock 5 + flag k.unaligned 4 + flag k.isolated 3 +
      flag k.beater.unusable 2 + k.furnish.ucodeBank * 2 + b2n k.furnish.ucodeRom
  | 0x08 => k.epoch
  | 0x0C => (k.live.getD 0) % 2 ^ 32
  | 0x10 => s.dieReel d % 2 ^ 32
  | 0x14 => tget 0 k.hi 0x14
  | 0x18 => k.relaxCnt
  | 0x1C => k.leaseGrant
  | 0x20 => k.leaseRefuse
  | 0x24 => k.absorb
  | 0x28 => k.discard
  | 0x2C =>
    flag k.cal.flashWin 9 + flag k.cal.mramWin 8 +
    flag ((List.range (sensorCount d)).any fun n => (s.sensor d n).beyond) 6 + flag k.cal.fcalOk 5 + flag k.cal.vrefOk 4 + flag k.cal.paceLow 3 +
    flag (s.calHold d) 2 + flag k.cal.near 1 + b2n (s.screenOk d)
  | 0x30 => k.deckleGen
  | 0x34 => flag k.beater.target.isSome 31 + k.beater.kind * 2 ^ 28 + flag k.beater.lease.isSome 24 + k.beater.target.getD 0 * 2 ^ 16 + k.beater.slice
  | 0x38 => ((s.usable d).map fun p => s.screenAge p / 1000000000).foldl max 0
  | 0x3C => k.privDeny
  | _ =>
    if off < 0x80 then
      let n := (off - 0x40) / 4
      if n < sensorCount d then
        let t := s.sensor d n
        flag true 31 + flag t.sampled 30 + flag t.failed 15 + flag t.subst 14 + twos 12 t.temp
      else 0
    else if off < 0x90 then
      let v := tget {} k.cal.vmons ((off - 0x80) / 4)
      flag true 31 + flag v.sampled 30 + flag v.out 17 + flag v.unverified 16 + v.volt
    else if off < 0xA0 then
      let n := (off - 0x90) / 4
      if n < paceCount d then
        let v := tget {} k.cal.paces n
        flag true 31 + flag v.sampled 30 + flag v.low 16 + v.pace
      else 0
    else if off < 0x370 then tget 0 k.phys ((off - 0x100) / 4)
    else tget 0 k.home ((off - 0x400) / 4)

/-! ## The MTP block (Table 16.3) -/

/-- CSTATE of a core: 0 ISSUING, 1 WAITING, 2 FROZEN, 3 HELD, 4 PARKED, 5 IDLE, 6 RESETTING, 7 GATED. -/
def State.cstate (s : State) (p : Nat) : Nat :=
  let c := s.core p
  if 3 ≤ physState (s.phys p) then 7
  else if c.resetting then 6
  else if c.parked then 4
  else if c.frozen || (s.holdsOn p).any (fun x => holdReason x.1 == 0) then 2
  else if !(s.holdsOn p).isEmpty then 3
  else match s.lcOf p with
    | none => 5
    | some n => if !(s.lc n).issuing then 5 else if c.stallNow = 0 then 0 else 1
/-- The reason of the earliest hold still in force on a core (MTP_STATUS.HOLD). -/
def State.shownReason (s : State) (p : Nat) : Nat :=
  match bestBy (fun x : Nat × Nat => x.2) (s.holdsOn p) with | some x => holdReason x.1 | none => 0
/-- MTP_HOLD as it reads: the time stored and that of the holds in force. -/
def State.holdTime (s : State) (p : Nat) : Nat :=
  sat 64 ((s.core p).hold + (match s.heldSince p with | some b => s.now - b | none => 0) - (s.core p).holdBase)
/-- MTP_STALL of a reason as it reads. -/
def State.stallTime (s : State) (p r : Nat) : Nat :=
  let c := s.core p
  sat 64 (tget 0 c.stall r + (if c.stallNow = r && r != 0 then s.now - c.stallSince else 0))
/-- The window entry that MTP_WIN_SEL selects, of the logical core's table, or of the tap's own when it carries none (R495, R501). -/
def State.win (s : State) (p : Nat) : Win :=
  tget {} (match s.lcOf p with | some n => (s.lc n).wins | none => (s.core p).wins) (s.core p).winSel
/-- The ticket IDs of a logical core (R28). -/
def lcTickets (n : Nat) : List Nat := (List.range 16).map fun i => n * 16 + i
/-- The watermark set that a read of MTP_WM_OPER latches: the open partial, else the last shard record (R498). -/
def State.wmSet (s : State) (p : Nat) : WmSet :=
  match s.lcOf p with
  | none => default
  | some n => match (s.lc n).partials.find? fun w => (s.lc n).oper == some (w.layer, w.oper) with
    | some w => { w with opened := true }
    | none => match (s.lc n).lastShard with | some w => { w with opened := false } | none => default
/-- Least privilege for reading an MTP register. -/
def mtpReadPriv (off : Nat) : Priv :=
  if off = 0x00 || off = 0x08 || off = 0x0C || off = 0x2C || off = 0x30 || (0x44 ≤ off && off ≤ 0x60) || (0x90 ≤ off && off ≤ 0xA8) || off = 0xB0 then
    .tenant
  else if off < 0xB4 then .operator else .none
/-- Least privilege for writing an MTP register; a read-only register takes that of its read. -/
def mtpWritePriv (off : Nat) : Priv := mtpReadPriv off
/-- The fields that only a package reset covers, of a register (R488): the whole register, or MTP_STATUS's and MTP_RING_CTL's marked fields. -/
def mtpKept (off v : Nat) : Nat :=
  if (0x34 ≤ off && off ≤ 0x40) || (0x64 ≤ off && off ≤ 0x78) || off = 0x80 || off = 0x84 then v
  else if off = 0x8C then v / 2 * 2 else 0
/-- The reset value of the other fields. -/
def mtpReset (off : Nat) : Nat := if off = 0x04 || off = 0x7C then 1 else 0
/-- The value of an MTP register of a core in no special state, without any latching. -/
def State.mtpVal (s : State) (p off : Nat) : Nat :=
  let c := s.core p
  let n := s.lcOf p
  let l := match n with | some n => s.lc n | none => {}
  let step := match n with | some _ => l.lstep | none => c.lastLstep
  match off with
  | 0x00 => coreIndex p * 2 ^ 16 + p
  | 0x04 => flag c.lock 31 + b2n c.seqCmp
  | 0x08 => match n with
    | none => 0
    | some k => 2 ^ 31 + flag l.tag.isSome 30 + k * 2 ^ 16 + l.tag.getD 0
  | 0x0C => s.cstate p * 2 ^ 29 + flag (n.isSome && l.lstepValid) 28 + flag c.pstepValid 27 + flag c.screenValid 26 +
      (if s.cstate p = 3 then s.shownReason p else 0) * 2 ^ 20
  | 0x10 => c.selftest * 2 ^ 30 + c.cases
  | 0x14 => flag c.failValid 31 + c.failPrimary * 2 ^ 24 + c.failCodes
  | 0x18 => c.failTicket * 2 ^ 16 + c.failRow
  | 0x1C => c.failA % 2 ^ 32
  | 0x24 => c.failB % 2 ^ 32
  | 0x2C => step % 2 ^ 32
  | 0x34 => c.pstep % 2 ^ 32
  | 0x3C => c.screen % 2 ^ 32
  | 0x44 => c.wmLatch.layer * 2 ^ 16 + c.wmLatch.oper
  | 0x48 => c.wmLatch.digest.pass
  | 0x4C => c.wmLatch.digest.d0 % 2 ^ 32
  | 0x50 => bits c.wmLatch.digest.d0 32 29
  | 0x54 => c.wmLatch.digest.d1 % 2 ^ 32
  | 0x58 => bits c.wmLatch.digest.d1 32 29
  | 0x5C => c.wmLatch.digest.count % 2 ^ 32
  | 0x60 => flag c.wmLatch.opened 31 + c.wmLatch.digest.flags % 16 * 2 ^ 16 + bits c.wmLatch.digest.count 32 16
  | 0x64 => c.busy % 2 ^ 32
  | 0x6C => c.idle % 2 ^ 32
  | 0x74 => s.holdTime p % 2 ^ 32
  | 0x7C => c.stallSel
  | 0x80 => s.stallTime p c.stallSel % 2 ^ 32
  | 0x88 => flag c.awaited.isSome 31 + c.awaited.getD 0 * 2 ^ 16 + c.stallNow
  | 0x8C => c.ringNext * 2 ^ 16 + c.ring.length * 2 ^ 8 + flag c.ringFrozen 1 + b2n c.freezeOnDetect
  | 0x90 => c.winSel
  | 0x94 => (s.win p).base
  | 0x98 => (s.win p).len
  | 0x9C => (s.win p).owner * 2 ^ 16 + (s.win p).gen * 2 ^ 8 + (s.win p).grantv * 2 ^ 4 + flag (s.win p).plan 1 + b2n (s.win p).opened
  | 0xA0 => (s.win p).tag1 * 2 ^ 16 + (s.win p).tag0
  | 0xA4 => (s.win p).tag3 * 2 ^ 16 + (s.win p).tag2
  | 0xAC => c.winReject
  | 0xB0 => match n with
    | none => 0
    | some k =>
      let b := (List.range 16).filter fun i => (s.ticket (k * 16 + i)).state != .free
      (b.map (2 ^ ·)).foldl (· + ·) 0 * 2 ^ 16 + b.length
  | _ => if [0x20, 0x28, 0x30, 0x38, 0x40, 0x68, 0x70, 0x78, 0x84].contains off then tget 0 c.hi off else 0
/-- The value of an MTP register in the core's special states (R496). -/
def State.mtpReg (s : State) (p off : Nat) : Nat :=
  let v := s.mtpVal p off
  match s.cstate p with
  | 6 => if off = 0 then v else if off = 0x0C then s.cstate p * 2 ^ 29 + v % 2 ^ 28 / 2 ^ 26 * 2 ^ 26 else mtpKept off v + mtpReset off
  | 7 => if off = 0 || off = 0x0C then v else mtpKept off v
  | _ => v
/-- The 64-bit value whose HI half a read of a LO register latches (R60), by the LO offset. -/
def State.mtpWide (s : State) (p off : Nat) : Option Nat :=
  let c := s.core p
  match off with
  | 0x1C => some c.failA
  | 0x24 => some c.failB
  | 0x2C => some (match s.lcOf p with | some n => (s.lc n).lstep | none => c.lastLstep)
  | 0x34 => some c.pstep
  | 0x3C => some c.screen
  | 0x64 => some c.busy
  | 0x6C => some c.idle
  | 0x74 => some (s.holdTime p)
  | 0x80 => some (s.stallTime p c.stallSel)
  | _ => none
/-- A read of an MTP register: a LO read latches its HI register (R60, R499), a read of MTP_WM_OPER the watermark set (R498). -/
def State.mtpRead (s : State) (p off : Nat) : Nat × State :=
  if off = 0x44 && s.cstate p < 6 then
    let s := s.modCore p fun c => { c with wmLatch := s.wmSet p }
    (s.mtpReg p off, s)
  else match s.mtpWide p off with
    | some w => (s.mtpReg p off, s.modCore p fun c => { c with hi := tset 0 c.hi (off + 4) (bits w 32 32) })
    | none => (s.mtpReg p off, s)

/-! ## Writes to the MTP block -/

/-- A window register write without effect is counted (R500). -/
def State.winReject (s : State) (p : Nat) : State := s.modCore p fun c => { c with winReject := satAdd 32 c.winReject 1 }
/-- Writes the selected window entry, of the logical core's table or of the tap's own. -/
def State.setWin (s : State) (p : Nat) (w : Win) : State :=
  match s.lcOf p with
  | some n => s.modLc n fun l => { l with wins := tset {} l.wins (s.core p).winSel w }
  | none => s.modCore p fun c => { c with wins := tset {} c.wins c.winSel w }
/-- The end of a window's range after clamping: LEN between 64 bytes and the scratchpad size less BASE (R500). -/
def clampLen (spad base len : Nat) : Nat := min (max len 64) (spad - base)
/-- Closing a window: CLOSED at once, its generation incremented (R278). -/
def closeWin (w : Win) : Win := { w with opened := false, gen := (w.gen + 1) % 256, grantv := 0, plan := false }
/-- A write of MTP_CTRL: SEQ_CMP_EN while unlocked, then the lock (R17, R18); a change writes SEQ_CMP_OFF, and turning off sets bound-void
    reason SEQ_OFF (R124, Table 3.8). -/
def State.writeCtrl (s : State) (p v : Nat) (priv : Priv) : State :=
  let c := s.core p
  if c.lock then s
  else
    let s := s.modCore p fun c => { c with lock := bit v 31, seqCmp := bit v 0 }
    if c.seqCmp = bit v 0 then s
    else
      let off := (s.cores.filter fun e => !e.2.seqCmp).length
      let s := s.record 0x0320 2 (coreSource p 0) (flag (bit v 0) 23 + p) (privRank priv) (sat 24 off)
      if bit v 0 then (if off = 0 then s.modPkg fun g => { g with seqOnSince := some s.reel } else s)
      else (s.modPkg fun g => { g with seqOnSince := none }).setVoid 0
/-- A byte range meets another. -/
def overlap (a la b lb : Nat) : Bool := decide (a < b + lb) && decide (b < a + la)
/-- A range of the scratchpads of a die meets its ream area (R300). -/
def State.inReamArea (s : State) (d off len : Nat) : Bool :=
  match tget none s.pkg.reamAreas d with | some a => overlap off len a.1 a.2 | none => false
/-- OPEN and CLOSE of the selected window (R500, R278); a range of a ream area is never a window (R300). -/
def State.writeWinCmd (s : State) (p v : Nat) (priv : Priv) (tag : Option Nat) : State :=
  let w := s.win p
  let own := match s.lcOf p with | some n => (s.lc n).tag | none => none
  match v % 4 with
  | 1 =>
    let len := clampLen s.pkg.spad w.base w.len
    let live := match own with | some t => !(s.die (coreDie p)).revoked.contains t && (s.ctx (t % 4096)).state != 3 | none => false
    if !w.opened && priv = .tenant && own.isSome && tag = own && live && w.base + len ≤ s.pkg.spad && !s.inReamArea (coreDie p) w.base len then
      s.setWin p { w with opened := true, plan := false, len := len, owner := tag.getD 0, grantv := bits v 4 4 }
    else s.winReject p
  | 2 => if w.opened && (priv = .vendor || priv = .operator || tag = some w.owner) then s.setWin p (closeWin w) else s.winReject p
  | _ => s.winReject p
/-- A write to the MTP block, its privilege met (Table 16.3). -/
def State.mtpWrite (s : State) (p off v : Nat) (priv : Priv) (tag : Option Nat) : State :=
  let w := s.win p
  match off with
  | 0x04 => s.writeCtrl p v priv
  | 0x7C => s.modCore p fun c => { c with stallSel := min 10 (max 1 (v % 16)) }
  | 0x8C => s.modCore p fun c => { c with freezeOnDetect := bit v 0 }
  | 0x90 => s.modCore p fun c => { c with winSel := v % 64 }
  | 0x94 => if w.opened then s.winReject p else s.setWin p { w with base := min (v / 64 * 64) (s.pkg.spad - 64) }
  | 0x98 => if w.opened then s.winReject p else s.setWin p { w with len := clampLen s.pkg.spad w.base (v / 64 * 64) }
  | 0x9C => s.winReject p
  | 0xA0 => if w.opened then s.winReject p else s.setWin p { w with tag0 := v % 65536, tag1 := v / 65536 }
  | 0xA4 => if w.opened then s.winReject p else s.setWin p { w with tag2 := v % 65536, tag3 := v / 65536 }
  | 0xA8 => s.writeWinCmd p v priv tag
  | _ => s
/-- A write to the MTP block by the core's state: deferred while parked, without effect while resetting or gated (R496). -/
def State.mtpWriteIn (s : State) (p off : Nat) (v : Word) (priv : Priv) (tag : Option Nat) : State :=
  match s.cstate p with
  | 4 => s.modCore p fun c => { c with deferred := c.deferred ++ [.write off v priv tag] }
  | 6 => s
  | 7 => s
  | _ => s.mtpWrite p off v.toNat priv tag

/-! ## A Couch window (R10, R487, R494) -/

/-- A denied access to a Couch window (R487). -/
def State.cplDeny (s : State) (d : Nat) : State := s.modDie d fun k => { k with privDeny := satAdd 32 k.privDeny 1 }
/-- The tap that an offset of a compute die's window lies in. -/
def tapAt (d off : Nat) : Option Nat := if isCompute d && 0x6000 ≤ off && off < 0xFC00 then some (pcoreOf d ((off - 0x6000) / 0x100)) else none
/-- A read in a Couch window: its value, or none for an error response. -/
def State.couchRead (s : State) (d off : Nat) (priv : Priv) (tag : Option Nat) : Option Nat × State :=
  if (s.die d).inReset then (none, s)
  else match tapAt d off with
    | some p =>
      if s.tapMeets p (mtpReadPriv (off % 0x100)) priv tag then
        let r := s.mtpRead p (off % 0x100)
        (some r.1, r.2)
      else (none, s.cplDeny d)
    | none =>
      if cplListed d off && !privMeets priv (cplPriv off) then (none, s.cplDeny d)
      else if off = 0x10 then (some (s.cplReg d off), s.modDie d fun k => { k with hi := tset 0 k.hi 0x14 (bits (s.dieReel d) 32 32) })
      else (some (s.cplReg d off), s)
/-- A write in a Couch window: whether it completes, or with an error response. -/
def State.couchWrite (s : State) (d off : Nat) (v : Word) (priv : Priv) (tag : Option Nat) : Bool × State :=
  if (s.die d).inReset then (false, s)
  else match tapAt d off with
    | some p =>
      if s.tapMeets p (mtpWritePriv (off % 0x100)) priv tag then (true, s.mtpWriteIn p (off % 0x100) v priv tag) else (false, s.cplDeny d)
    | none => if cplListed d off && !privMeets priv (cplPriv off) then (false, s.cplDeny d) else (true, s)

/-! ## Accesses to the windows (R10-R14) -/

/-- Where an address lies. -/
inductive Place where
  | vatWin (h : Option Hub) (off : Nat)
  | couchWin (d off : Nat)
  | reserved
  | outside
deriving DecidableEq, Repr
/-- Table 0.4 and R11; `none` for the alias. -/
def placeOf (a : Nat) : Place :=
  if 0xF0000000 ≤ a && a < 0xF0100000 then .vatWin (some .a) (a - 0xF0000000)
  else if 0xF0100000 ≤ a && a < 0xF0200000 then .vatWin (some .b) (a - 0xF0100000)
  else if 0xF0200000 ≤ a && a < 0xF0300000 then .vatWin none (a - 0xF0200000)
  else if 0xE0000000 ≤ a && a < 0xE0640000 then .couchWin ((a - 0xE0000000) / 0x10000) ((a - 0xE0000000) % 0x10000)
  else if 0xE0640000 ≤ a && a < 0xE0800000 then .reserved
  else .outside
/-- The KRM windows are served: the active Vat has been chosen (R12, R475). -/
def State.served (s : State) : Bool := s.aliasHub.isSome || s.sh.gap.isSome || s.sh.noStandby.isSome
/-- A denied access to a Vat window (R487). -/
def State.vatDeny (s : State) (h : Hub) : State := s.modVat h fun v => { v with privDeny := satAdd 32 v.privDeny 1 }

end Sys2Proof.Machine
end

