-- ==== Sys2Proof/Machine/Packets.lean ====
section
/-! DEFINITION. Command packets: the opcodes, the checks of Table 13.3, clamping, and what is common to every command (R406-R427). -/

namespace Sys2Proof.Machine

/-- How the life-cycle state and ROM minimal mode treat an opcode (Table 13.4, R342). -/
inductive OpKind where
  /-- IDENT, VAT_HEALTH and session commands. -/
  | base
  /-- A read command. -/
  | read
  /-- Firmware, LIFECYCLE_SET, KEY_ENROLL and LICENCE_INSTALL: allowed in Blank. -/
  | setup
  /-- Every other command. -/
  | other
deriving DecidableEq, Repr, Inhabited

/-- One opcode of Table 13.6 or Table 14.12. -/
structure OpInfo where
  code : Nat
  least : Priv
  kind : OpKind
  signed : Bool := false
  /-- Of a signed command: its parameters as (width in bits, value), which its signature covers (R425). -/
  params : List (Nat × Nat) := []
  /-- Reads core or scratchpad state: needs VENDOR_DEBUG in Field for a Vendor session (R431, log 13). -/
  debug : Bool := false
  /-- Answered in ROM minimal mode (R342). -/
  rom : Bool := false
deriving DecidableEq, Repr, Inhabited

/-- The opcodes (R421, R466). -/
def opcodes : List Nat :=
  [0x0001, 0x0002, 0x0003, 0x0004, 0x0005, 0x0100, 0x0101, 0x0102, 0x0103, 0x0104, 0x0105, 0x0200, 0x0201, 0x0202, 0x0203, 0x0204, 0x0300, 0x0301,
   0x0302, 0x0303, 0x0304, 0x0305, 0x0306, 0x0400, 0x0401, 0x0402, 0x0403, 0x0404, 0x0405, 0x0406, 0x0500, 0x0600, 0x0601, 0x0602, 0x0603, 0x0700,
   0x0701, 0x0702, 0x0703, 0x0704, 0x0705, 0x0706, 0x0800, 0x0801, 0x0802, 0x0803, 0x0804, 0x0900, 0x0901, 0x0902, 0x0A00, 0x0A01, 0x0A02, 0x0A03,
   0x0B00, 0x0B01, 0x0B02, 0x0B03, 0x0B04, 0x0C00, 0x0C01, 0x0C02, 0x0C03, 0x0C04, 0x0C05, 0x0C06, 0x0C07, 0x0C08, 0x0C09, 0x0C0A, 0x0C0B, 0x0C0C,
   0x0C0D, 0x0C0E, 0x0C0F]

/-- Two requesters share a session's path: the aperture, or one port with one source EID (R422). -/
def samePath : Path → Path → Bool
  | .aperture _, .aperture _ => true
  | .mgmt h e, .mgmt g f => h == g && e == f
  | .i3c h e, .i3c g f => h == g && e == f
  | _, _ => false
/-- The hub that a path enters by; none for the aperture. -/
def pathHub : Path → Option Hub
  | .aperture _ => none
  | .mgmt h _ => some h
  | .i3c h _ => some h
/-- A session by number. -/
def State.session (s : State) (n : Nat) : Option Session := tget none s.sh.sessions n
/-- The public key that a key identifier names for a privilege: a Vendor key in mask ROM, or an enrolled key of its class (R424). -/
def State.publicKey (s : State) (p : Priv) (id : Nat) : Option (Nat × Nat) :=
  match p with
  | .vendor => if s.pkg.vendorKeys.contains id then some (Config.vendorKey id) else none
  | .operator => (s.pkg.keys.find? fun k => k.cls == 1 && k.id == id).map fun k => (k.x, k.y)
  | .tenant => (s.pkg.keys.find? fun k => k.cls == 2 && k.id == id).map fun k => (k.x, k.y)
  | .none => none
/-- A signature over the SHA-384 digest of bytes verifies under the key that a privilege and a key identifier name (R422, R425, R429). -/
def State.verifies (s : State) (p : Priv) (id : Nat) (bytes : List Nat) (sigR sigS : Nat) : Bool :=
  match s.publicKey p id with
  | some k => Config.ecdsaVerifies k.1 k.2 (Config.sha384 bytes) sigR sigS
  | none => false
/-- The bytes that a parameter of a width takes (R413). -/
def fieldSize (w : Nat) : Nat := if w ≤ 8 then 1 else if w ≤ 16 then 2 else if w ≤ 32 then 4 else if w ≤ 64 then 8 else ceilDiv w 8
/-- Parameters laid out from an offset: each starts at a multiple of its size, one wider than 64 bits at a multiple of 4, padded with zeros to a
    whole word (R413). -/
def layParams : Nat → List (Nat × Nat) → List Nat
  | off, [] => List.replicate ((4 - off % 4) % 4) 0
  | off, (w, v) :: l =>
    let a := if 64 < w then 4 else fieldSize w
    let pad := (a - off % a) % a
    List.replicate pad 0 ++ numBytes (fieldSize w) (v % 2 ^ w) ++ layParams (off + pad + fieldSize w) l
/-- The bytes of a signed command's packet before its signature (Table 13.1, R413, R425; reserved bits as zero: log 117). -/
def signedBytes (rq : Req) (op : OpInfo) : List Nat :=
  let b := layParams 16 op.params
  numBytes 2 op.code ++ numBytes 2 rq.tag ++ numBytes 2 (16 + b.length + 96) ++ numBytes 2 (privRank rq.priv * 0x4000 + rq.ctx % 4096) ++
    numBytes 6 rq.token ++ numBytes 2 rq.session ++ b
/-- The signature of a signed command verifies: over its bytes, then the session's nonce and its signed-command count (R425). -/
def State.signedOk (s : State) (rq : Req) (op : OpInfo) : Bool :=
  match s.session rq.session with
  | some x => s.verifies x.priv x.keyId (signedBytes rq op ++ numBytes 48 x.nonce ++ numBytes 4 x.signed) rq.sigR rq.sigS
  | none => false
/-- The context range of a session: its Tenant key's, or every context (R424, R427). -/
def State.inRange (s : State) (rq : Req) (c : Nat) : Bool :=
  match rq.priv with
  | .tenant =>
    match s.session rq.session with
    | some x => s.pkg.keys.any fun k => k.cls == 2 && k.id == x.keyId && decide (k.base ≤ c) && decide (c < k.base + k.count)
    | none => false
  | _ => true
/-- The first failure of steps 1 to 7 of Table 13.3, as status and reason. `ctxs` are the contexts the command names; `idsOk` says that its
    identifiers are in range. Step 2 holds of every command here. -/
def State.checkPacket (s : State) (rq : Req) (op : OpInfo) (ctxs : List Nat) (idsOk : Bool) : Option (Nat × Nat) :=
  let x := s.session rq.session
  let lc := s.pkg.lifecycle
  if !rq.lenOk then some (stBadLen, 0)
  else if rq.priv = .none && op.least != .none then some (stDenied, 1)
  else if rq.priv != .none && (match x with | some x => x.token != some rq.token || x.priv != rq.priv | none => true) then some (stDenied, 1)
  else if rq.priv != .none && (match x with | some x => !samePath x.path rq.path | none => false) then some (stDenied, 2)
  else if op.signed && !s.signedOk rq op then some (stDenied, 3)
  else if !privMeets rq.priv op.least then some (stDenied, 4)
  else if ctxs.any fun c => !s.inRange rq c then some (stDenied, 5)
  else if lc = 0 && op.kind != .base && (rq.priv != .vendor || op.kind = .other) then some (stDenied, 6)
  else if (lc = 1 || lc = 3) && rq.priv = .tenant then some (stDenied, 6)
  else if lc = 4 && (op.kind = .setup || op.kind = .other) then some (stDenied, 6)
  else if lc = 2 && op.debug && rq.priv = .vendor && !s.pkg.vendorDebug then some (stDenied, 7)
  else if s.activeHub.isNone && op.kind != .base && !op.rom then some (stNotReady, 0)
  else if !idsOk || !rq.reservedZero || decide (4096 ≤ rq.ctx) then some (stBadParam, 0)
  else none
/-- The limits of R410: 16 running commands of one MCTP requester, 64 in all. -/
def State.atLimit (s : State) (rq : Req) : Bool :=
  64 ≤ s.sh.runs.length || (pathHub rq.path != none && 16 ≤ (s.sh.runs.filter fun x => x.path == rq.path).length)
/-- A command completes with a status, clamps and result data. -/
def State.finish (s : State) (rq : Req) (op : Nat) (status : Nat) (clamps : List Clamp) (data : List (Nat × Nat)) : State :=
  s.deliver rq.path rq.tag rq.crc (s.mkReply op rq.tag status clamps data)
/-- A refusal with a reason code as the first word of its result data (R415). -/
def State.refuse (s : State) (rq : Req) (op status reason : Nat) : State := s.finish rq op status [] [(32, reason)]
/-- A session's last command, and its count of signed commands accepted (R425, R426). A packet of privilege None is under no session. -/
def State.touch (s : State) (rq : Req) (signed : Bool) : State :=
  match rq.priv, s.session rq.session with
  | .none, _ => s
  | _, none => s
  | _, some x => s.modSh fun h =>
      { h with sessions := tset none h.sessions rq.session (some { x with last := s.reel, signed := x.signed + b2n signed }) }
/-- A duplicate of a retained or running command (R416, R417): over MCTP the reply is sent again, or a header-only ST_PENDING; through the
    aperture the slot keeps showing it. None when the packet is no duplicate; a retained tag with another CRC drops the retained reply. -/
def State.duplicate (s : State) (rq : Req) (op : Nat) : Option State :=
  match rq.path with
  | .aperture k =>
    let t := tget {} s.sh.slots k
    match t.reply with
    | some r => if t.state = 3 && r.tag == rq.tag && t.crc == rq.crc then some s else none
    | none => none
  | p =>
    if s.sh.runs.any fun x => x.path == p && x.tag == rq.tag && x.crc == rq.crc then some (s.emit (.reply p (pendingReply op rq.tag)))
    else match s.sh.retained.find? fun x => x.path == p && x.tag == rq.tag && x.crc == rq.crc with
      | some x => some (s.emit (.reply p x.reply))
      | none => none
/-- A command that finds no acting Vat, or a port in a gap: a management port or I3C target holds it until the gap ends (R332); one of the aperture is kept
    for the new active Vat (R331), or for the active one that waits for the mirror (R329). -/
def State.hold (s : State) (i : Instr) (rq : Req) (op : Nat) : State :=
  if s.sh.gap.isNone && !s.sh.switching then s
  else if pathHub rq.path = none then s.modSh fun h => { h with apHeld := h.apHeld ++ [(i, rq, op)] }
  else s.modSh fun h => { h with portHeld := h.portHeld ++ [i] }
/-- What is common to every command `i`: during a gap its port holds it (R332); else it is taken by the acting Vat; a management port or I3C target of
    the other hub refuses it (R49); a duplicate is answered again; the checks of Table 13.3 run in order, a failure at step 3 counting AUTH_FAIL (R419); a
    Tenant's command on a context in teardown completes with ST_NOTREADY (Table 13.7); then `f` runs. -/
def State.command (s : State) (i : Instr) (rq : Req) (op : OpInfo) (ctxs : List Nat) (idsOk : Bool) (f : State → State) : State :=
  match (if s.sh.gap.isSome && pathHub rq.path != none then none else s.acting) with
  | none => s.hold i rq op.code
  | some v =>
    if (match pathHub rq.path with | some h => decide (h ≠ v) | none => false) && op.code != 5 then s.finish rq op.code stNotReady [] []
    else match s.duplicate rq op.code with
      | some t => t
      | none =>
        let s := s.modSh fun h => { h with retained := h.retained.filter fun x => x.path != rq.path || x.tag != rq.tag }
        match s.checkPacket rq op ctxs idsOk with
        | some (st, r) =>
          let s := if st = stDenied && r ≤ 3 then s.vatCount (hubSource v 6) default else s
          s.finish rq op.code st [] (if st = stDenied then [(32, r)] else [])
        | none =>
          let s := s.touch rq (op.signed && !s.atLimit rq)
          if s.atLimit rq then s.finish rq op.code stBusy [] []
          else if rq.priv = .tenant && op.code != 0x0100 && op.code != 0x0102 && ctxs.any (fun c => (s.ctx c).state == 3) then
            s.finish rq op.code stNotReady [] []
          else f s
/-- Clamps a configuration field to its range, noting the clamp (R420). -/
def clampTo (field width lo hi v : Nat) : Nat × List Clamp :=
  let u := min hi (max lo v)
  (u, if u = v then [] else [{ field := field, width := width, asked := v, used := u }])
/-- As `clampTo`, where 0 selects the default (R420). -/
def clampOr (field width lo hi dflt v : Nat) : Nat × List Clamp := if v = 0 then (dflt, []) else clampTo field width lo hi v
/-- The privilege code in a record: 0 Vendor, 1 Operator, 2 Tenant. -/
def privCode (p : Priv) : Nat := privRank p

end Sys2Proof.Machine
end

