-- ==== Sys2Proof/Machine/Recorder.lean ====
section
/-! DEFINITION. The event recorder's MRAM writes, its windows, REC_READ and REC_CLEAR, and the operating hours in MRAM (R457-R465, R472). -/

namespace Sys2Proof.Machine

/-! ## Writing -/

/-- Bytes 0 to 27 of a record as one number (Table 14.11). -/
def recBody (r : Rec) : Nat :=
  packFields [(16, r.code), (8, r.severity + flag r.unaligned 3 + flag r.staged 4 + flag r.single 5), (24, r.source), (24, r.pcycle), (32, r.hours),
    (48, r.reel), (24, r.p1), (24, r.p2), (24, r.p3)]
/-- A record's 32 bytes as one number, its CRC included (Table 14.11, R458). -/
def recNum (r : Rec) : Nat := recBody r + crc32c (numBytes 28 (recBody r)) * 2 ^ 224
/-- STAGE_LOST is written when space returns after drops (R463). -/
def State.stageLost (s : State) (h : Hub) : State :=
  let v := s.vat h
  if 0 < v.lost && v.staging.length < 1024 then
    (s.modVat h fun v => { v with lost := 0, lostFirst := 0 }).record 0x0E06 2 (pkgSource 9) (sat 24 v.lost) (v.lostFirst % 2 ^ 24) (hubNum h)
  else s
/-- Staged records enter the hub's MRAM queue in sequence order while its window is open and the queue has room (R463). -/
def State.refill (s : State) (h : Hub) : State :=
  let v := s.vat h
  if v.mramWin then
    let n := 2 - v.writing.length
    (s.modVat h fun v => { v with writing := v.writing ++ v.staging.take n, staging := v.staging.drop n }).stageLost h
  else s
/-- Whether a record already counted as written before a hub completes its copy (R50). -/
def State.wasWritten (s : State) (h : Hub) (r : Rec) : Bool :=
  let o := s.vat (otherHub h)
  (match o.roll.find? fun e => e.2.seq == r.seq with | some _ => true | none => false) ||
  (r.staged && ((o.staging.any fun x => x.seq == r.seq) || (o.writing.any fun x => x.seq == r.seq && x.staged)))
/-- A record that goes to the head area too (R461). -/
def headRec (r : Rec) : Bool := 4 ≤ r.severity || r.code == 0x0E05
/-- Stores a record's copy on a hub: its roll slot, and the next head slot for those that R461 names. -/
def State.storeRec (s : State) (h : Hub) (r : Rec) : State :=
  s.modVat h fun v =>
    { v with roll := tset default v.roll (r.seq % 65536) r
             head := if headRec r && decide (v.head.length < 4096) then v.head ++ [r] else v.head }
/-- HEAD_FULL is written once when the head area fills (R461). -/
def State.checkHead (s : State) (h : Hub) : State :=
  if 4096 ≤ (s.vat h).head.length && !s.sh.headFull then (s.modSh fun x => { x with headFull := true }).record 0x0E07 2 (pkgSource 9) 0 0 0 else s
/-- SINGLE is set on the other hub's copy (R462). -/
def State.markSingle (s : State) (h : Hub) (seq : Nat) : State :=
  let f := fun r : Rec => if r.seq == seq then { r with single := true } else r
  s.modVat h fun v => { v with roll := v.roll.map fun e => (e.1, f e.2)
                               head := v.head.map f, writing := v.writing.map f, staging := v.staging.map f }
/-- RECORD_WRITE_DONE (R50, R461-R463): the write at the front of a hub's queue has been read back, and retried once if it failed. -/
def execRecordWriteDone (hub : Hub) (ok retryOk : Bool) (s : State) : Host.Outcome State Fault Refusal :=
  match (s.vat hub).writing with
  | [] => .next s
  | r :: rest =>
    let done := s.wasWritten hub r
    let s := s.modVat hub fun v => { v with writing := rest }
    if ok || retryOk then
      let s := (s.storeRec hub r).checkHead hub
      let s := if done then s else s.written r
      .next (s.refill hub)
    else .next (((s.markSingle (otherHub hub) r.seq).vatCount (hubSource hub 3) default).refill hub)

/-! ## REC_READ and REC_CLEAR -/

/-- The copy of a roll-area record, the acting Vat's hub preferred (R464). -/
def State.rollRec (s : State) (seq : Nat) : Option Rec :=
  let at_ := fun h : Hub => (s.vat h).roll.find? fun e => e.1 == seq % 65536 && e.2.seq == seq
  let h := (s.acting).getD .a
  match at_ h with
  | some e => some e.2
  | none => (at_ (otherHub h)).map (·.2)
/-- The copy of a head-area slot (R464). -/
def State.headSlot (s : State) (i : Nat) : Option Rec :=
  let h := (s.acting).getD .a
  match (s.vat h).head[i]? with
  | some r => some r
  | none => (s.vat (otherHub h)).head[i]?
/-- REC_READ (R464). -/
def execRecRead (rq : Req) (area first count : Nat) (s : State) : Host.Outcome State Fault Refusal :=
  .next (s.command (.recRead rq area first count) rq { code := 0x0C0E, least := .operator, kind := .read, rom := true } [] (decide (area ≤ 1) &&
    (area == 0 || decide (first < 4096)))
    fun s =>
      let c := clampTo 2 8 1 14 count
      let l := (List.range c.1).map fun i => if area = 0 then s.rollRec ((first + i) % 2 ^ 32) else s.headSlot (first + i)
      s.finish rq 0x0C0E stOk c.2 ([(8, (l.filter (·.isNone)).length), (24, 0)] ++
        l.map fun r => (256, match r with | some r => recNum r | none => 0)))
/-- Both hubs' MRAM windows are open. -/
def State.bothWindows (s : State) : Bool := s.vatA.mramWin && s.vatB.mramWin
/-- The sequence numbers in an area, over both hubs. -/
def State.areaSeqs (s : State) (scope : Nat) : List Nat :=
  if scope = 0 then (s.vatA.roll ++ s.vatB.roll).map (·.2.seq) else (s.vatA.head ++ s.vatB.head).map (·.seq)
/-- An area is cleared on both hubs and REC_CLEAR written, ahead of the records staged before it (R465). -/
def State.recClear (s : State) (scope priv : Nat) : State :=
  let l := s.areaSeqs scope
  let lo := l.foldl min (l.headD 0)
  let hi := l.foldl max 0
  let f := fun v : Vat => if scope = 0 then { v with roll := [] } else { v with head := [] }
  let s := (s.modVat .a f).modVat .b f
  let s := if scope = 1 then s.modSh fun x => { x with headFull := false } else s
  let q := s.sh.recSeq
  let s := s.record 0x0E05 0 (dieSource s.actDie 0) (lo % 2 ^ 24) (hi % 2 ^ 24) (scope + priv * 4)
  let first := fun v : Vat => { v with staging := (v.staging.filter fun r => r.seq == q) ++ v.staging.filter fun r => r.seq != q }
  (s.modVat .a first).modVat .b first
/-- REC_CLEAR (R461, R465): it waits while either MRAM window is closed; scope HEAD needs Vendor privilege in Factory or Return. -/
def execRecClear (rq : Req) (scope : Nat) (s : State) : Host.Outcome State Fault Refusal :=
  .next (s.command (.recClear rq scope) rq { code := 0x0C0F, least := .operator, kind := .other, signed := true, params := [(8, scope)] } []
      (decide (scope ≤ 1)) fun s =>
    if scope = 1 && rq.priv != .vendor then s.refuse rq 0x0C0F stDenied 4
    else if scope = 1 && s.pkg.lifecycle ≠ 1 && s.pkg.lifecycle ≠ 3 then s.refuse rq 0x0C0F stDenied 6
    else if s.bothWindows then (s.recClear scope (privCode rq.priv)).finish rq 0x0C0F stOk [] []
    else s.beginRun rq 0x0C0F 0 (scope + privCode rq.priv * 4) [])
/-- The clears that waited for the MRAM windows take place (R465). -/
def State.clearWaiting (s : State) : State :=
  if s.bothWindows then
    each (s.sh.runs.filter fun x => x.opcode == 0x0C0F) (fun s x => (s.recClear (x.arg % 4) (x.arg / 4)).endRun x stOk []) s
  else s

/-! ## Operating hours (R472) -/

/-- HOURS_PERSIST_TICK: the count goes to MRAM on each hub whose window is open, and waits in retention on the other (Table 12.5). -/
def execHoursPersistTick (s : State) : Host.Outcome State Fault Refusal :=
  if s.acting.isNone then .next s
  else
  let s := if s.vatA.mramWin || s.vatB.mramWin then s.modPkg fun g => { g with hoursMram := g.hours } else s
  .next s.mramWrite

end Sys2Proof.Machine
end

