-- ==== Sys2Proof/Machine/Directory.lean ====
section
/-! DEFINITION. Bytes of the flash and of the banks, and the flash directory (R206, R207). -/

namespace Sys2Proof.Machine

/-! ## Bytes -/

/-- A byte of a memory. -/
def byteAt (m : List Host.Cell) (a : Nat) : Nat := (tget (0 : Byte) m a).toNat
/-- `n` bytes of a memory from an address on. -/
def bytesAt (m : List Host.Cell) (a n : Nat) : List Nat := (List.range n).map fun i => byteAt m (a + i)
/-- A little-endian number of bytes. -/
def leNum (l : List Nat) : Nat := l.foldr (fun b v => b + 256 * v) 0
/-- A big-endian number of bytes. -/
def beNum (l : List Nat) : Nat := l.foldl (fun v b => b + 256 * v) 0
/-- A little-endian field of `n` bytes of a memory. -/
def fieldAt (m : List Host.Cell) (a n : Nat) : Nat := leNum (bytesAt m a n)
/-- The cells of a range, with addresses counted from its start. -/
def cutCells (m : List Host.Cell) (a n : Nat) : List Host.Cell :=
  (m.filter fun e => decide (a ≤ e.1) && decide (e.1 < a + n)).map fun e => (e.1 - a, e.2)
/-- A range takes the cells of a memory of its length. -/
def putCells (m : List Host.Cell) (a n : Nat) (l : List Host.Cell) : List Host.Cell :=
  (m.filter fun e => decide (e.1 < a)) ++ ((l.filter fun e => decide (e.1 < n)).map fun e => (e.1 + a, e.2)) ++
    m.filter fun e => decide (a + n ≤ e.1)
/-- Bytes written one after another from an address on. -/
def putBytes (m : List Host.Cell) (a : Nat) (l : List Nat) : List Host.Cell := tput (0 : Byte) m a (l.map fun b => BitVec.ofNat 8 b)

/-! ## The directory (R207) -/

/-- The flash offset of a half of a kind (Table 6.5). -/
def halfAt (kind half : Nat) : Nat := (if kind = 3 then 0x04000000 else if kind = 1 then 0x04800000 else 0x05000000) + half % 2 * 0x400000
/-- SERIAL of the package in a half (Table 6.6). -/
def serialAt (m : List Host.Cell) (kind half : Nat) : Nat := fieldAt m (halfAt kind half + 32) 4
/-- The place of a kind in a directory copy: microcode, base, fleet (R207). -/
def dirSlot (kind : Nat) : Nat := if kind = 3 then 0 else kind
/-- A directory copy's bytes: its sequence number, for each kind the active half, serial and operating hours, and the CRC-32C (R207). -/
def dirBytes (seq : Nat) (l : List (Nat × Nat × Nat)) : List Nat :=
  let b := numBytes 4 seq ++ l.flatMap fun e => e.1 % 2 :: 0 :: 0 :: 0 :: numBytes 4 e.2.1 ++ numBytes 8 e.2.2
  b ++ numBytes 4 (crc32c b)
/-- The flash offset of a directory copy. -/
def dirAt (copy : Nat) : Nat := 0x05800000 + copy * 0x1000
/-- A directory copy is valid: its CRC agrees. -/
def dirValid (m : List Host.Cell) (copy : Nat) : Bool := crc32c (bytesAt m (dirAt copy) 52) == fieldAt m (dirAt copy + 52) 4
/-- The valid copy with the higher sequence number, none when neither is valid (R207). -/
def dirCopy (m : List Host.Cell) : Option Nat :=
  match dirValid m 0, dirValid m 1 with
  | true, true => some (if fieldAt m (dirAt 0) 4 < fieldAt m (dirAt 1) 4 then 1 else 0)
  | true, false => some 0
  | false, true => some 1
  | false, false => none
/-- A kind's entry in the directory: active half, serial, operating hours at activation; half 0 of every kind when no copy is valid (R207). -/
def dirEntry (m : List Host.Cell) (kind : Nat) : Nat × Nat × Nat :=
  match dirCopy m with
  | none => (0, 0, 0)
  | some c => let a := dirAt c + 4 + dirSlot kind * 16; (byteAt m a % 2, fieldAt m (a + 4) 4, fieldAt m (a + 8) 8)
/-- The directory is written with a new entry for a kind: the copy with the lower sequence number, or one that is not valid, takes a sequence number
    one higher than the other's (R207). -/
def writeDir (m : List Host.Cell) (kind half serial hours : Nat) : List Host.Cell :=
  let l := [3, 1, 2].map fun k => if k = kind then (half, serial, hours) else dirEntry m k
  let c := match dirCopy m with | some c => 1 - c | none => 0
  putBytes m (dirAt c) (dirBytes ((fieldAt m (dirAt (1 - c)) 4 + 1) % 2 ^ 32) l)

/-- What an erase or a write does to the firmware region, from flash offset 0 to 0x0400_0000 (Table 6.5, R343). -/
def fwApply (m : List Host.Cell) : Option (Nat × List Byte) → List Host.Cell
  | none => m.filter fun e => decide (0x04000000 ≤ e.1)
  | some (off, l) => tput (0 : Byte) m off l

end Sys2Proof.Machine
end

