-- ==== Sys2Proof/Machine/Registers.lean ====
section
/-! DEFINITION. Accesses to the KRM windows: register reads and writes, the forwarded Couch accesses, the command aperture (R10-R20, R60, R406-R408,
R486-R501). -/

namespace Sys2Proof.Machine

/-! ## Accesses to a Vat window -/

/-- An access completes with an error response and no effect (R13). -/
def State.fail (s : State) : State := s.emit .errorResponse
/-- An access through VAT_CPL_DATA is forwarded as AGENT_CMD with its privilege, or fails at once (R486, R491); only an Operator or Vendor access
    of the host gets here, and it carries no tag. -/
def State.forward (s : State) (h : Hub) (v : Option Word) (priv : Priv) : State :=
  let d := (s.vat h).cplDie
  if s.activeHub ≠ some h || 100 ≤ d || (s.die d).inReset then s.fail
  else
    let id := tget 0 s.felt.seq (hubDie h * 4 + 2)
    (s.modSh fun x => { x with fwds := x.fwds ++ [{ id := id, die := d, write := v.isSome, start := s.reel }] }).feltSend (hubDie h) 0x80 0 d
      [(s.vat h).epoch, b2n v.isSome, (s.vat h).cplOff * 4, (match v with | some w => w.toNat | none => 0), privRank priv]
/-- A read in a Vat window (R489, Table 16.1). -/
def State.vatRead (s : State) (h : Hub) (off : Nat) (priv : Priv) : State :=
  if 0x80000 ≤ off && off < 0x88000 then
    s.emit (.readValue (tget 0 (tget {} s.sh.slots ((off - 0x80000) / 0x200)).packet (off % 0x200 / 4)))
  else if 0x90000 ≤ off && off < 0x98000 then
    s.emit (.readValue (BitVec.ofNat 32 (match tget none (s.vat h).refused ((off - 0x90000) / 0x200) with
      | some r => bits (replyNum r) (32 * (off % 0x200 / 4)) 32
      | none => s.replyWord ((off - 0x90000) / 0x200) (off % 0x200 / 4))))
  else if !privMeets priv (vatReadPriv off) then (s.vatDeny h).fail
  else if off = 0x0AC then s.forward h none priv
  else
    let t := s.emit (.readValue (BitVec.ofNat 32 (s.vatReg h off)))
    if off = 0x030 then t.modVat h fun v => { v with reelHi := bits (s.dieReel (hubDie h)) 32 32 } else t
/-- Stores an RWL field of the MSI registers while LOCK is 0 (R17, R18). -/
def State.writeMsi (s : State) (f : Shared → Shared) : State := if bit s.sh.msiCtl 31 then s else (s.modSh f).mirror
/-- A write to a VAT register of the active Vat, its privilege met (Table 16.1). -/
def State.vatWriteReg (s : State) (h : Hub) (off v : Nat) : State :=
  match off with
  | 0x068 => (s.modSh fun x => { x with aptDone := x.aptDone - (x.aptDone &&& v) }).mirror
  | 0x06C => (s.modSh fun x => { x with aptDone := x.aptDone - (x.aptDone &&& (v * 2 ^ 32)) }).mirror
  | 0x090 => s.writeMsi fun x => { x with msiCtl := v &&& 0x80000007 }
  | 0x094 => s.writeMsi fun x => { x with msiAddr := x.msiAddr / 2 ^ 32 * 2 ^ 32 + v / 4 * 4 }
  | 0x098 => s.writeMsi fun x => { x with msiAddr := v * 2 ^ 32 + x.msiAddr % 2 ^ 32 }
  | 0x09C => s.writeMsi fun x => { x with msiFault := v }
  | 0x0A0 => s.writeMsi fun x => { x with msiCmd := v }
  | 0x0A4 => s.writeMsi fun x => { x with msiReady := v }
  | 0x0A8 => s.modVat h fun x => { x with cplDie := bits v 16 7, cplOff := bits v 2 14 }
  | 0x0B8 =>
    let s := if bit v 2 then (s.modSh fun x => { x with replAgree := 0 }).mirror else s
    let s := if bit v 1 then s.modVat h fun x => { x with privDeny := 0 } else s
    if bit v 0 then (s.modSh fun x => { x with aptDrop := 0 }).mirror else s
  | _ => s

/-! ## The command aperture (R406-R408) -/

/-- LENGTH of the packet that a slot holds (Table 13.1). -/
def apLength (k : ApSlot) : Nat := (tget 0 k.packet 1).toNat % 65536
/-- A LENGTH that is valid under R412. -/
def lengthOk (l : Nat) : Bool := 16 ≤ l && l ≤ 512 && l % 4 == 0
/-- The offset in a slot whose write starts the command (R407). -/
def startWord (k : ApSlot) : Nat := if lengthOk (apLength k) then apLength k - 4 else 0x1FC
/-- The bytes of a slot's packet. -/
def apBytes (k : ApSlot) : List Nat :=
  (List.range (if lengthOk (apLength k) then apLength k / 4 else 128)).flatMap fun i => wordBytes (tget 0 k.packet i).toNat
/-- A packet's command starts (R407, R417): a duplicate keeps the retained reply; an invalid LENGTH and an unknown OPCODE complete at once;
    otherwise the slot is RUNNING and its reply reads ST_PENDING until the command's own row. -/
def State.apStart (s : State) (n : Nat) (k : ApSlot) : State :=
  let op := (tget 0 k.packet 0).toNat % 65536
  let tag := (tget 0 k.packet 0).toNat / 65536
  let crc := crc32c (apBytes k)
  let set := fun (s : State) (k : ApSlot) => s.modSh fun x => { x with slots := tset {} x.slots n k }
  let same := match k.reply with | some r => r.tag == tag && k.crc == crc && r.status != stPending | none => false
  if same then set s { k with state := 3 }
  else if !lengthOk (apLength k) then (set s k).deliver (.aperture n) tag crc (s.mkReply op tag stBadLen [] [])
  else if !opcodes.contains op then (set s k).deliver (.aperture n) tag crc (s.mkReply op tag stBadOp [] [])
  else set s { k with state := 2, reply := some (pendingReply op tag), crc := crc }
/-- A word written to a packet area (R406-R408); through a Vat that is not ACTIVE it is not stored, and a packet whose final word it is
    completes with ST_NOTREADY, in that window's own reply area (R331). -/
def State.apWrite (s : State) (h : Hub) (off : Nat) (v : Word) : State :=
  let n := (off - 0x80000) / 0x200
  let k := tget {} s.sh.slots n
  if s.aliasHub ≠ some h then
    if off % 0x200 = startWord k then
      let r := s.mkReply ((tget 0 k.packet 0).toNat % 65536) ((tget 0 k.packet 0).toNat / 65536) stNotReady [] []
      (s.modVat h fun v => { v with refused := tset none v.refused n (some r) }).emit (.reply (.aperture n) r)
    else s
  else if k.state = 2 then (s.modSh fun x => { x with aptDrop := satAdd 32 x.aptDrop 1 }).mirror
  else
    let k := { k with state := 1, packet := tset 0 k.packet (off % 0x200 / 4) v }
    let s := (s.modSh fun x => { x with slots := tset {} x.slots n k }).mirror
    if off % 0x200 = startWord k then s.apStart n k else s
/-- A write in a Vat window (R489): to a packet area, or to a register; a Vat that is not ACTIVE discards it. -/
def State.vatWrite (s : State) (h : Hub) (off : Nat) (v : Word) (priv : Priv) : State :=
  if 0x80000 ≤ off && off < 0x88000 then (s.apWrite h off v).emit .writeDone
  else if !privMeets priv (vatWritePriv off) then (s.vatDeny h).fail
  else if off = 0x0AC then s.forward h (some v) priv
  else if (s.vat h).role = .active then (s.vatWriteReg h off v.toNat).emit .writeDone
  else s.emit .writeDone

/-! ## Any access -/

/-- A read by address: in a Vat window, the alias, or a Couch window (R10-R14). -/
def State.accessRead (s : State) (a : Access) : State :=
  match placeOf a.addr with
  | .outside => s
  | p =>
    if a.size ≠ 4 || a.addr % 4 ≠ 0 || !s.served then s.fail
    else match p with
      | .vatWin (some h) off => s.vatRead h off a.priv
      | .vatWin none off =>
        if s.sh.gap.isSome then s.modSh fun x => { x with gap := x.gap.map fun g => { g with held := g.held ++ [(a, none)] } }
        else (match s.aliasHub with | some h => s.vatRead h off a.priv | none => s.fail)
      | .couchWin d off =>
        let r := s.couchRead d off a.priv a.tag
        (match r.1 with | some v => r.2.emit (.readValue (BitVec.ofNat 32 v)) | none => r.2.fail)
      | _ => s.emit (.readValue 0)
/-- A write by address (R10-R14). -/
def State.accessWrite (s : State) (a : Access) (v : Word) : State :=
  match placeOf a.addr with
  | .outside => s
  | p =>
    if a.size ≠ 4 || a.addr % 4 ≠ 0 || !s.served then s.fail
    else match p with
      | .vatWin (some h) off => s.vatWrite h off v a.priv
      | .vatWin none off =>
        if s.sh.gap.isSome then s.modSh fun x => { x with gap := x.gap.map fun g => { g with held := g.held ++ [(a, some v)] } }
        else (match s.aliasHub with | some h => s.vatWrite h off v a.priv | none => s.fail)
      | .couchWin d off =>
        let r := s.couchWrite d off v a.priv a.tag
        if r.1 then r.2.emit .writeDone else r.2.fail
      | _ => s.emit .writeDone
/-- The alias releases the accesses it held across a gap, in arrival order (R14). -/
def State.releaseHeld (s : State) (l : List (Access × Option Word)) : State :=
  each l (fun s x => match x.2 with | some v => s.accessWrite x.1 v | none => s.accessRead x.1) s

/-! ## Meanings -/

/-- REGISTER_WRITE (R15): any register write, by address. -/
def execRegisterWrite (a : Access) (v : Word) (s : State) : Host.Outcome State Fault Refusal := .next (s.accessWrite a v)
/-- REGISTER_LO_READ (R60, R74): a read by address; a LO register's read latches its HI register. -/
def execRegisterLoRead (a : Access) (s : State) : Host.Outcome State Fault Refusal := .next (s.accessRead a)
/-- MTP_WM_OPER_READ (R498): a read by address; MTP_WM_OPER's latches the watermark set. -/
def execMtpWmOperRead (a : Access) (s : State) : Host.Outcome State Fault Refusal := .next (s.accessRead a)
/-- MTP_STALL_LO_READ (R499): a read by address; MTP_STALL_LO's latches MTP_STALL_HI for the selected reason. -/
def execMtpStallLoRead (a : Access) (s : State) : Host.Outcome State Fault Refusal := .next (s.accessRead a)
/-- VAT_CPL_DATA_READ (R491): a read by address; VAT_CPL_DATA's is forwarded as AGENT_CMD. -/
def execVatCplDataRead (a : Access) (s : State) : Host.Outcome State Fault Refusal := .next (s.accessRead a)
/-- VAT_CPL_DATA_WRITE (R491): a write by address; VAT_CPL_DATA's is forwarded as AGENT_CMD. -/
def execVatCplDataWrite (a : Access) (v : Word) (s : State) : Host.Outcome State Fault Refusal := .next (s.accessWrite a v)
/-- VAT_CPL_FORWARD_TIMEOUT (R491): the forwarded access of that transfer number completes with an error response. -/
def execVatCplForwardTimeout (id : Nat) (s : State) : Host.Outcome State Fault Refusal :=
  if s.sh.fwds.any fun f => f.id == id then
    .next ((s.modSh fun x => { x with fwds := x.fwds.filter fun f => f.id != id }).fail)
  else .next s
/-- VAT_CLEAR_REPL_AGREE (R490): the write's bit 2 alone. -/
def execVatClearReplAgree (a : Access) (v : Word) (s : State) : Host.Outcome State Fault Refusal := .next (s.accessWrite a (v &&& 4))
/-- VAT_CLEAR_PRIV_DENY (R490): the write's bit 1 alone. -/
def execVatClearPrivDeny (a : Access) (v : Word) (s : State) : Host.Outcome State Fault Refusal := .next (s.accessWrite a (v &&& 2))
/-- VAT_CLEAR_APT_DROP (R490): the write's bit 0 alone. -/
def execVatClearAptDrop (a : Access) (v : Word) (s : State) : Host.Outcome State Fault Refusal := .next (s.accessWrite a (v &&& 1))
/-- SEQ_CMP_EN_WRITE (R18, R124): a write by address; MTP_CTRL's writes SEQ_CMP_EN and LOCK. -/
def execSeqCmpEnWrite (a : Access) (v : Word) (s : State) : Host.Outcome State Fault Refusal := .next (s.accessWrite a v)
/-- MTP_WIN_CMD_OPEN (R500): a write by address; MTP_WIN_CMD's OP 1 opens the selected window. -/
def execMtpWinCmdOpen (a : Access) (v : Word) (s : State) : Host.Outcome State Fault Refusal := .next (s.accessWrite a v)
/-- MTP_WIN_CMD_CLOSE (R278, R500): a write by address; MTP_WIN_CMD's OP 2 closes the selected window. -/
def execMtpWinCmdClose (a : Access) (v : Word) (s : State) : Host.Outcome State Fault Refusal := .next (s.accessWrite a v)
/-- APERTURE_PACKET_WRITE (R406-R408): a write by address; a packet area's stores a word and may start its command. -/
def execAperturePacketWrite (a : Access) (v : Word) (s : State) : Host.Outcome State Fault Refusal := .next (s.accessWrite a v)

end Sys2Proof.Machine
end

