-- ==== Sys2Proof/Machine/Vats.lean ====
section
/-! DEFINITION. Vat redundancy up to a promotion: heartbeats, triggers, DEPOSE, the standby's mirror and self-test, firmware writes (R316-R343). -/

namespace Sys2Proof.Machine

/-! ## What waits while no Vat acts (Table 1.2) -/

/-- Records that no Vat had taken enter the recorder (Table 1.2). -/
def State.takeHeldRecs (s : State) : State :=
  let l := s.sh.heldRecs
  each l (fun s r => s.enterRec r) (s.modSh fun h => { h with heldRecs := [] })
/-- A die sends the messages that it held for the Vat. -/
def State.sendHeld (s : State) (d : Nat) : State :=
  let l := (s.die d).held
  each l (fun s m => s.toVat d m.1 m.2) (s.modDie d fun k => { k with held := [] })
/-- Every die does, in ascending order (R330). -/
def State.sendAllHeld (s : State) : State := each ((List.range 100).filter fun d => !(s.die d).held.isEmpty) State.sendHeld s
/-- A VAT_SWITCH that waits for the mirror ends when the other Vat can promote no more: it completes with ST_BUSY, and the active Vat issues again
    (R323, log 150). -/
def State.endSwitchWait (s : State) : State :=
  match s.activeHub with
  | none => s
  | some h =>
    if !s.sh.switching || s.sh.gap.isSome || s.canPromote (otherHub h) then s
    else
      let s := s.modSh fun x => { x with switching := false, apHeld := [], portHeld := x.portHeld ++ x.apHeld.map (·.1) }
      ((s.endOp 0x0800 0 stBusy []).takeHeldRecs).sendAllHeld

/-! ## Heartbeats (R321, R328) -/

/-- LIVE_PERIOD (R321). -/
def execLivePeriod (s : State) : Host.Outcome State Fault Refusal :=
  match s.activeHub with
  | some h => .next (s.feltSend (hubDie h) 0x01 1 0 [(s.vat h).epoch, s.sh.mirrorSeq])
  | none => .next s
/-- LIVE (R319, R321): the agent notes the reel count; a hub die's Vat that is not ACTIVE notes the epoch (VAT_EPOCH). -/
def execLive (h : Hdr) (die : Nat) (s : State) : Host.Outcome State Fault Refusal :=
  guardId (isDie die)
    (s.recvCmd die h 0x01 fun s =>
      let s := s.modDie die fun k => { k with live := some (s.dieReel die), liveEpoch := h.epoch }
      let s := if (s.die die).isolated then (s.modDie die fun k => { k with isolated := false }).unholdDie die isolateKey else s
      match dieHub die with
      | some v => if (s.vat v).role = .active then s else s.modVat v fun x => { x with heardReel := some s.reel, epoch := h.epoch }
      | none => s)
/-- STBY_LIVE_PERIOD (R321, R337). -/
def execStbyLivePeriod (s : State) : Host.Outcome State Fault Refusal :=
  match s.standbyHub, s.activeHub with
  | some sb, some h => .next (s.feltSend (hubDie sb) 0x02 0 (hubDie h) [roleCode (s.vat sb).role, (s.vat sb).lastFailed, (s.vat sb).cycleReel.getD 0,
      (s.vat sb).mirrorApplied, (s.vat sb).fwSerial])
  | _, _ => .next s
/-- STBY_LIVE (R337): VAT_PEER_HEALTH shows the report. -/
def execStbyLive (h : Hdr) (r : Health) (s : State) : Host.Outcome State Fault Refusal :=
  guardId (isDie h.src)
    (s.recvVat (.stbyLive h r) h 0x02 fun s => s.modVat (s.acting.getD .a) fun v => { v with peer := some r, heardReel := some s.reel })
/-- STANDBY_HEALTH (Table 10.7). -/
def State.standbyHealth (s : State) (h : Hub) : State :=
  s.record 0x0A02 2 (pkgSource 6) (roleCode (s.vat h).role * 2 ^ 20 + (s.vat h).lastFailed) (s.sh.mirrorSeq % 2 ^ 24) 0
/-- The active Vat marks the standby OFFLINE in its health report (R328, R337). -/
def State.peerOffline (s : State) (h : Hub) : State :=
  s.modVat (otherHub h) fun v => { v with peer := v.peer.map fun r => { r with role := roleCode .offline, failed := (s.vat h).lastFailed } }
/-- STBY_LIVE_TIMEOUT (R328): the standby is marked OFFLINE and reset once. -/
def execStbyLiveTimeout (s : State) : Host.Outcome State Fault Refusal :=
  match s.standbyHub with
  | some h => .next (((s.vatDown h).peerOffline h).standbyHealth h).endSwitchWait
  | none => .next s

/-! ## Triggers and DEPOSE (R322-R327) -/

/-- DEPOSE goes to every agent, and the request to gate the old Vat waits no more (Table 10.3 step 2). -/
def State.sendDepose (s : State) (g : Gap) (gated : Bool) : State :=
  let s := s.modGap fun g => { g with gated := gated, step := 2, deposeReel := s.dieReel (hubDie g.newActive) }
  let s := s.modFelt fun n => { n with waiting := n.waiting.filter fun w => !(w.t.type == 0x80 && w.t.src == hubDie g.newActive) }
  (s.modPkg fun x => { x with proposed := g.epoch }).feltSend (hubDie g.newActive) 0x04 1 0 [g.epoch, b2n gated]
/-- LIVE_TIMEOUT (R322 code 0x1): the standby asks the old Vat's hub agent to gate it, or finds it gated and deposes. -/
def execLiveTimeout (s : State) : Host.Outcome State Fault Refusal :=
  let h := if (s.vat .a).role = .standby then Hub.a else Hub.b
  if s.sh.gap.isSome || !s.canPromote h then .next s
  else
    let o := otherHub h
    let gated := (s.vat o).role != .active
    let g := { s.newGap 1 h ((s.vat h).heardReel.getD s.reel) gated false with asked := s.reel }
    let s := s.modSh fun x => { x with gap := some g }
    .next (if gated then s.sendDepose g true else s.feltSend (hubDie h) 0x80 0 (hubDie o) [(s.vat h).epoch, 2])
/-- The hub whose Vat a watchdog or fault of an active Vat concerns: the active one's, or in a gap the one's that becomes active. -/
def State.watchedHub (s : State) : Option Hub :=
  match s.activeHub with
  | some h => some h
  | none => s.sh.gap.map (·.newActive)
/-- The hub whose stopped Vat no longer sends LIVE while no switch-over goes on: the other can promote, or none can (R325, R327). -/
def State.stoppedHub (s : State) : Hub := if s.canPromote .a then .b else .a
/-- The active Vat has been chosen since the package reset (R317). -/
def Boot.chosen : Boot → Bool
  | .ready => true
  | .step n => decide (4 ≤ n)
  | _ => false
/-- FW_WATCHDOG_EXPIRY (R322 code 0x4): of the active Vat; in a gap of the one that becomes active; or the silence of one that has stopped under R327
    after an abandoned switch-over, which its hub agent finds (R325). -/
def execFwWatchdogExpiry (s : State) : Host.Outcome State Fault Refusal :=
  .next (match s.watchedHub with
    | some h => s.vatTrigger h 4
    | none => if s.sh.noStandby.isSome || s.acting.isSome || !s.pkg.boot.chosen then s else s.failOver s.stoppedHub 4)
/-- ACTIVE_VAT_FAULT (R322 codes 0x2, 0x3, 0x5): the hub's agent gates the Vat that the source names, and the source is counted. -/
def execActiveVatFault (trigger source : Nat) (s : State) : Host.Outcome State Fault Refusal :=
  guardId ((trigger = 2 || trigger = 3 || trigger = 5) && (dieHub (sourceDie source)).isSome)
    (match dieHub (sourceDie source) with
     | none => s
     | some h =>
       let t := if s.activeHub = some h || s.sh.gap.isSome then s.vatTrigger h trigger else s
       t.agentCount (hubDie h) source default)
/-- VAT_FAILED (Table 10.3): the standby deposes the gated Vat. -/
def execVatFailed (h : Hdr) (_trigger : Nat) (s : State) : Host.Outcome State Fault Refusal :=
  match s.sh.gap with
  | some g => .next (s.recv (hubDie g.newActive) h 0x03 fun s => if g.step = 1 then s.sendDepose g true else s)
  | none => .next s
/-- GATE_CONFIRM (R325): the old Vat's hub agent has gated it. -/
def execGateConfirm (_h : Hdr) (s : State) : Host.Outcome State Fault Refusal :=
  match s.sh.gap with
  | some g => .next (if g.step = 1 && !g.gated then ((s.vatDown (otherHub g.newActive)).modGap fun g => { g with confirmed := true }).sendDepose g true
      else s)
  | none => .next s
/-- DEPOSE_GATE_TIMEOUT (R325): no confirmation within 2 us. -/
def execDeposeGateTimeout (s : State) : Host.Outcome State Fault Refusal :=
  match s.sh.gap with
  | some g => .next (if g.step = 1 && !g.gated then s.sendDepose g false else s)
  | none => .next s
/-- DEPOSE (R319, R325, R327): a gated one is acknowledged; an ungated one gets NAK while the agent hears the current epoch's LIVE. The
    acknowledgement carries the agent's reel count (R364), and the old Vat on that die leaves service. A repeated one is answered again (R363). -/
def execDepose (h : Hdr) (die : Nat) (gated : Bool) (s : State) : Host.Outcome State Fault Refusal :=
  guardId (isDie die)
    (let k := s.die die
     let now := s.dieReel die
     let hears := match k.live with | some t => k.liveEpoch == k.epoch && decide (now ≤ t + 10000) | none => false
     if k.inReset then s.ack die h.src 0x04 h.seq 2
     else if h.epoch < k.epoch then (s.agentCount die (pkgSource 5) default).feltSend die 0x06 0 h.src [k.epoch]
     else if seqSeen (tget [] s.felt.seen (seenKey die h.src 0x04)) h.seq then
       if k.epoch = h.epoch then s.ackWith die h.src 0x04 h.seq 0 (some (now % 2 ^ 32)) else s.ack die h.src 0x04 h.seq 1
     else if !gated && hears && decide (k.epoch < h.epoch) then (s.noteSeen die h.src 0x04 h.seq).ack die h.src 0x04 h.seq 1
     else
       let s := ((s.noteSeen die h.src 0x04 h.seq).modDie die fun k => { k with epoch := h.epoch }).ackWith die h.src 0x04 h.seq 0 (some (now % 2 ^ 32))
       match dieHub die with
       | some v => if (s.vat v).role = .active && decide ((s.vat v).epoch < h.epoch) then s.vatDown v else s
       | none => s)
/-- EPOCH_STALE (R327): a Vat that receives it for a higher epoch than its own leaves service. -/
def execEpochStale (_h : Hdr) (hub : Hub) (epoch : Nat) (s : State) : Host.Outcome State Fault Refusal :=
  .next (if (s.vat hub).role = .active && decide ((s.vat hub).epoch < epoch) then s.vatDown hub else s)
/-- The standby abandons the switch-over: DEPOSE_REFUSED, and the alias serves the old Vat again (R325). -/
def State.refuseDepose (s : State) (g : Gap) : State :=
  let s := s.modSh fun x => { x with gap := none }
  (s.record 0x0A01 4 (pkgSource 6) (sat 8 g.naks.length * 2 ^ 8 + sat 8 g.acks.length) (g.epoch % 2 ^ 24) 0).releaseHeld g.held
/-- Steps 3 and 4: the new epoch and role are in both MRAM copies, and ANNOUNCE goes to every agent (Table 10.3). -/
def State.announce (s : State) (g : Gap) : State :=
  let s := ((s.putEpoch g.epoch g.newActive).modVat g.newActive fun v => { v with epoch := g.epoch }).modGap fun g => { g with step := 4 }
  s.feltSend (hubDie g.newActive) 0x05 1 0 [g.epoch]
/-- The answers to DEPOSE so far decide: a NAK refuses; every agent's acknowledgement promotes; when no more answers will come (`last`), or every agent
    has answered, some with RESETTING, a gated
    DEPOSE promotes, an ungated one with at least 51 acknowledgements (R325). -/
def State.decideDepose (s : State) (last : Bool) : State :=
  match s.sh.gap with
  | none => s
  | some g =>
    if g.step ≠ 2 then s
    else if !g.gated && !g.naks.isEmpty then s.refuseDepose g
    else
      let last := last || 100 ≤ g.acks.length + g.others.length
      if 100 ≤ g.acks.length || (last && (g.gated || 51 ≤ g.acks.length)) then s.announce g
      else if last then s.refuseDepose g
      else s
/-- An answer to DEPOSE reaches the standby: status and the agent's reel count (R325, R326). -/
def State.deposeAnswer (s : State) (die status reelLo : Nat) : State :=
  match s.sh.gap with
  | none => s
  | some g =>
    if g.step ≠ 2 || g.acks.contains die || g.naks.contains die then s
    else if status = 1 then (s.modGap fun g => { g with naks := g.naks ++ [die] }).decideDepose false
    else if status = 0 then
      let past := (reelLo + 2 ^ 32 - g.deposeReel % 2 ^ 32) % 2 ^ 32
      let full := g.deposeReel + (if past < 2 ^ 31 then past else 0)
      (s.modGap fun g => { g with acks := g.acks ++ [die], others := g.others.erase die, lastAck := max g.lastAck full }).decideDepose false
    else if status = 2 then (s.modGap fun g => { g with others := insertNat die g.others }).decideDepose false
    else s
/-- NO_STANDBY_RESET (R323): 100 us after a trigger without a standby, a package reset, counted. -/
def execNoStandbyReset (s : State) : Host.Outcome State Fault Refusal :=
  match s.sh.noStandby with
  | some _ => .next ((s.modSh fun x => { x with noStandby := none }).packageReset (pkgSource 6) true)
  | none => .next s

/-! ## VAT_SWITCH and VAT_STANDBY_RETRY (R329, R338) -/

/-- The active Vat has its hub agent gate it and the switch-over starts from step 2. -/
def State.startSwitch (s : State) : State :=
  match s.activeHub with
  | none => s
  | some h =>
    let g := s.newGap 6 (otherHub h) s.reel true true
    ((s.vatDown h).modSh fun x => { x with gap := some g, switching := false }).sendDepose g true
/-- The standby has acknowledged the last mirror sequence number. -/
def State.caughtUp (s : State) : Bool :=
  match s.standbyHub with | some sb => (s.vat sb).mirrorApplied == s.sh.mirrorSeq | none => false
/-- VAT_SWITCH (R329): the active Vat stops issuing and waits for the mirror, then the new active Vat posts the reply. -/
def execVatSwitch (rq : Req) (s : State) : Host.Outcome State Fault Refusal :=
  .next (s.command (.vatSwitch rq) rq { code := 0x0800, least := .operator, kind := .other } [] true fun s =>
    match s.activeHub with
    | none => s.finish rq 0x0800 stNotReady [] []
    | some h =>
      if !s.canPromote (otherHub h) || s.sh.gap.isSome then s.finish rq 0x0800 stBusy [] []
      else
        let s := s.beginRun rq 0x0800 0 0 []
        if s.caughtUp then s.startSwitch else s.modSh fun x => { x with switching := true })
/-- VAT_STANDBY_RETRY (R338). -/
def execVatStandbyRetry (rq : Req) (s : State) : Host.Outcome State Fault Refusal :=
  .next (s.command (.vatStandbyRetry rq) rq { code := 0x0801, least := .operator, kind := .other } [] true fun s =>
    match s.activeHub with
    | none => s.finish rq 0x0801 stNotReady [] []
    | some h =>
      let o := otherHub h
      if (s.vat o).heldOffline && decide (s.lastEpoch < 0xFFFFFFFF) then
        (s.modVat o fun v => { v with heldOffline := false, image := none, loadStart := some s.reel }).finish rq 0x0801 stOk [] []
      else s.finish rq 0x0801 stNotReady [] [])

/-! ## The mirror and the self-test (R333-R338) -/

/-- MIRROR (R333): the standby applies a change and acknowledges it; a VAT_SWITCH that waited for the last one proceeds. -/
def execMirror (h : Hdr) (seq : Nat) (s : State) : Host.Outcome State Fault Refusal :=
  match s.standbyHub with
  | none => .next s
  | some sb =>
    .next (s.recvCmd (hubDie sb) h 0x8F fun s =>
      let s := s.modVat sb fun v => { v with mirrorApplied := seq % 2 ^ 32 }
      if s.sh.switching && s.caughtUp && s.sh.gap.isNone && s.canPromote sb then s.startSwitch else s.endSwitchWait)
/-- A Vat enters SYNCING (R335). -/
def State.enterSync (s : State) (h : Hub) : State := s.modVat h fun v => { v with role := .syncing, syncStart := some s.reel, gated := false }
/-- A mirror change is lost: the standby resyncs, and MIRROR_FAULT of its hub is counted (R335). -/
def State.mirrorLost (s : State) : State :=
  match s.standbyHub with
  | some sb => ((s.enterSync sb).endSwitchWait).vatCount (hubSource sb 5) default
  | none => s
/-- MIRROR_SYNCED (R335): the standby's image is complete. -/
def execMirrorSynced (s : State) : Host.Outcome State Fault Refusal :=
  match s.standbyHub with
  | some sb =>
    if (s.vat sb).role = .syncing then
      let ms := (s.reel - (s.vat sb).syncStart.getD s.reel) / 1000000
      let s := s.modVat sb fun v => { v with role := .standby, mirrorApplied := s.sh.mirrorSeq, syncStart := none }
      .next (s.record 0x0A03 0 (pkgSource 6) (sat 24 ms) (s.sh.mirrorSeq % 2 ^ 24) 0)
    else .next s
  | none => .next s
/-- STANDBY_SELFTEST_ITEM_DONE (R336-R338): a cycle is complete once each of its items has passed; a failure resets the standby, and a second one within
    24 h of operating hours holds it OFFLINE. Item 2 counts RECORD_CRC too, and item 6 MIRROR_FAULT (R335, R462). -/
def execStandbySelftestItemDone (item : Nat) (pass : Bool) (s : State) : Host.Outcome State Fault Refusal :=
  guardId (decide (item < 7))
    (match s.standbyHub with
     | none => s
     | some sb =>
       if pass then
         let items := (s.vat sb).cycleItems ||| 2 ^ item
         if items = 127 then s.modVat sb fun v => { v with lastFailed := 0, cycleItems := 0, cycleReel := some s.reel }
         else s.modVat sb fun v => { v with cycleItems := items }
       else
         let again := match (s.vat sb).selfFailHours with | some t => decide (s.pkg.hours < t + 24 * 4096) | none => false
         let s := s.modVat sb fun v => { v with lastFailed := 2 ^ item, cycleItems := 0, selfFailHours := some s.pkg.hours, heldOffline := again }
         let s := ((s.vatDown sb).peerOffline sb).endSwitchWait.vatCount (hubSource sb 9) { ctx := 0, p2 := item, p3 := 0 }
         let s := if item = 6 then s.vatCount (hubSource sb 5) default else if item = 2 then s.vatCount (hubSource sb 4) default else s
         s.standbyHealth sb)

/-! ## Firmware writes (R339, R340, R343) -/

/-- A header of 256 bytes (Table 10.6). -/
def fwHeader (l : List Nat) : FwHeader :=
  let f := fun o n => leNum ((l.drop o).take n)
  { magic := f 0 4, format := f 4 2, step := f 6 2, keyId := f 8 4, serial := f 12 4, payloadLen := f 16 4, entry := f 20 4, sha := f 48 48,
    r := beNum ((l.drop 160).take 48), s := beNum ((l.drop 208).take 48), zeros := f 24 24 == 0 && f 96 64 == 0 }
/-- A header's fields, its signature over the digest of its bytes 0 to 159, and its serial are as R340 asks, without the payload digest. -/
def State.fwHeaderOk (s : State) (l : List Nat) : Bool :=
  let h := fwHeader l
  h.magic == 0x4D524B56 && h.format == 1 && h.step == Config.siliconStep && h.zeros && s.pkg.vendorKeys.contains h.keyId &&
  s.verifies .vendor h.keyId (l.take 160) h.r h.s && decide (1 ≤ h.payloadLen) && decide (h.payloadLen ≤ 67108864 - 256) &&
  (decide (s.pkg.fwMin ≤ h.serial) || s.pkg.lifecycle == 1 || s.pkg.lifecycle == 3)
/-- The payload in the flash has the digest that a header gives (R340). -/
def State.fwPayloadOk (s : State) (h : FwHeader) : Bool := Config.sha384 (bytesAt s.pkg.flashMem 256 h.payloadLen) % 2 ^ 384 == h.sha
/-- An erase or a write of the firmware region is done, or waits while Calender forbids flash writes; so does its command (R343, Table 12.5). -/
def State.flashDo (s : State) (rq : Req) (op : Nat) (x : Option (Nat × List Byte)) : State :=
  if s.pkg.flashWin then (s.modPkg fun g => { g with flashMem := fwApply g.flashMem x }).finish rq op stOk [] []
  else (s.modPkg fun g => { g with fwQueue := g.fwQueue ++ [x], flashHeld := g.flashHeld + 1 }).beginRun rq op 0 0 []
/-- FW_BEGIN (R343): the header is checked and the image region erased. -/
def execFwBegin (rq : Req) (header : List Byte) (s : State) : Host.Outcome State Fault Refusal :=
  .next (s.command (.fwBegin rq header) rq { code := 0x0802, least := .operator, kind := .setup, rom := true } [] (decide (header.length = 256)) fun s =>
    let l := header.map (·.toNat)
    if !s.fwHeaderOk l then s.finish rq 0x0802 stDenied [] []
    else (s.modPkg fun g => { g with fwWriting := some (fwHeader l) }).flashDo rq 0x0802 none)
/-- FW_WRITE (R343). -/
def execFwWrite (rq : Req) (off : Nat) (bytes : List Byte) (s : State) : Host.Outcome State Fault Refusal :=
  .next (s.command (.fwWrite rq off bytes) rq { code := 0x0803, least := .operator, kind := .setup, rom := true } []
      (decide (bytes.length ≤ 492) && decide (off + bytes.length ≤ 67108864)) fun s =>
    match s.pkg.fwWriting with
    | none => s.finish rq 0x0803 stNotReady [] []
    | some _ => s.flashDo rq 0x0803 (some (off, bytes)))
/-- FW_COMMIT (R343): the region is read back and its payload digest checked. -/
def execFwCommit (rq : Req) (s : State) : Host.Outcome State Fault Refusal :=
  .next (s.command (.fwCommit rq) rq { code := 0x0804, least := .operator, kind := .setup, rom := true } [] true fun s =>
    match s.pkg.fwWriting with
    | none => s.finish rq 0x0804 stNotReady [] []
    | some h =>
      if !s.pkg.fwQueue.isEmpty then s.finish rq 0x0804 stBusy [] []
      else if s.fwPayloadOk h then (s.modPkg fun g => { g with fwWriting := none }).finish rq 0x0804 stOk [] []
      else s.finish rq 0x0804 stDenied [] [])

end Sys2Proof.Machine
end

