-- ==== Sys2Proof/Machine/Clock.lean ====
section
/-! DEFINITION. One count of the reel's reference with no command waiting: what the machine's own clock changes (R5, R254, R472). -/

namespace Sys2Proof.Machine

/-- One count of 1 ns of operating hours: a fraction of 1/4096 h, 878,906,250 counts long (R472), and the void hours beside it (R254). -/
def Pkg.count (g : Pkg) : Pkg :=
  let g := if g.voidReasons = 0 then g
    else if g.voidFrac + 1 < 878906250 then { g with voidFrac := g.voidFrac + 1 }
    else { g with voidFrac := 0, voidHours := satAdd 32 g.voidHours 1 }
  if g.hoursFrac + 1 < 878906250 then { g with hoursFrac := g.hoursFrac + 1 } else { g with hoursFrac := 0, hours := satAdd 32 g.hours 1 }
/-- The oldest event that waited for the active Vat, or else the oldest command that a port has held, once the gap has ended and a Vat acts, with the
    state that it is handled in (Table 1.2, R332); or the replica comparison that waited for a hold's end (Table 4.8). -/
def State.released (s : State) : Option (Instr × State) :=
  if s.sh.gap.isSome || s.acting.isNone then none
  else match s.sh.vatHeld, s.sh.portHeld with
    | c :: l, _ => some (c, s.modSh fun h => { h with vatHeld := l })
    | [], c :: l => some (c, s.modSh fun h => { h with portHeld := l })
    | [], [] =>
      if s.dbg.gstop.isSome then none
      else s.sh.ctxs.findSome? fun e =>
        match e.2.replica.bind (·.slot), e.2.brkHold with
        | some x, none => some (.replicaSlotRead e.1 x.1 x.2, s.modCtx e.1 fun y => { y with replica := y.replica.map fun r => { r with slot := none } })
        | _, _ => none
/-- The block idles for one count of the reference (log 1): reel time and operating hours advance while power is on and SYS_RST_N is released, and
    the acting Vat takes the reactions that are due (log 97) and clears SCREEN_OVERDUE. -/
def State.idle (s : State) : State :=
  if s.pkg.powered && s.pkg.boot != .held then
    let s := { s with reel := (s.reel + 1) % 2 ^ 64, pkg := s.pkg.count }
    let s := s.takeDue.endSwitchWait
    if s.acting.isSome then s.clearOverdue else s
  else s

end Sys2Proof.Machine
end

