-- ==== Sys2Proof/Machine/Felt.lean ====
section
/-! DEFINITION. The Felt network's links, rings, credits, resends, barriers, bridges and link qualification (R347-R383). -/

namespace Sys2Proof.Machine

/-! ## Links and rings (R347, R348, R368) -/

/-- The number of a port, die * 4 + ring * 2, plus 1 for the down port. -/
def portKey (die port : Nat) : Nat := die * 4 + port % 4
/-- A link, ring * 128 + the position of its lower end, from which it goes up (log 18). -/
def linkOf (die port : Nat) : Nat := port % 4 / 2 * 128 + (if port % 2 = 0 then ringPos die else (ringPos die + 99) % 100)
/-- The two ports of a link: the up port of its lower end and the down port of the other. -/
def linkPorts (link : Nat) : Nat × Nat :=
  (posDie (link % 128) * 4 + link / 128 * 2, posDie ((link % 128 + 1) % 100) * 4 + link / 128 * 2 + 1)
/-- The ring state that the broken links leave: 0 WHOLE, 1 LINE, 2 SPLIT (R368). -/
def State.settledRing (s : State) (ring : Nat) : Nat := min 2 (s.felt.broken.filter fun l => l / 128 == ring).length
/-- Sets a station's ring state. -/
def State.setRing (s : State) (die ring v : Nat) : State :=
  s.modDie die fun k => if ring = 0 then { k with ring0 := v } else { k with ring1 := v }
/-- The port whose declaration of a broken link came first. -/
def State.firstPort (s : State) (link : Nat) : Port :=
  let p := linkPorts link
  if (s.port p.1).down && (!(s.port p.2).down || decide ((s.port p.1).downSince ≤ (s.port p.2).downSince)) then s.port p.1 else s.port p.2
/-- The source of a link's records: FELT_LINK0 or FELT_LINK1 of its lower end's die (R382). -/
def linkSource (link : Nat) : Nat := dieSource (posDie (link % 128)) (10 + link / 128)
/-- Parameter 1 of RING_FAILOVER and RING_RESTORED (Table 11.10). -/
def State.ringWord (s : State) (link cause : Nat) : Nat := link / 128 * 2 ^ 23 + link % 128 * 2 ^ 16 + cause * 2 ^ 8 + s.settledRing (link / 128)
/-- A station declares a link down (R368): LINK_DOWN goes to its neighbour, RING_BREAK to every station, and a pending RING_JOIN of the ring is
    abandoned (Tables 11.7, 11.11). -/
def State.declareDown (s : State) (die port cause : Nat) : State :=
  let k := portKey die port
  let link := linkOf die port
  if (s.port k).down then s
  else
    let lost := (s.port k).queue
    let s := s.modPort k fun _ => { down := true, errors := [], credits := (48, 64, 64, 64), probe := none, cleanSince := none,
                                    downSince := s.reel, cause := cause, tries := 0 }
    let gone := s.felt.joins.filter fun e => e.1 / 128 == link / 128
    let s := each gone (fun s e => s.modPort (linkPorts e.1).1 fun p => { p with cleanSince := none }) s
    let s := s.modFelt fun n => { n with broken := insertNat link n.broken, joins := n.joins.filter fun e => e.1 / 128 != link / 128 }
    let s := (((s.discardFrames die lost).control k 5 0).dieRing die 0x25 link).setRing die (link / 128) 3
    s.feltSend die 0x11 1 0 [link / 128, link % 128]
/-- A link error at a station's port: counted at FELT_LINK0 or FELT_LINK1; the fourth within 100 us takes the link down (R352, R368). -/
def State.linkError (s : State) (die port : Nat) : State :=
  let s := s.agentCount die (dieSource die (10 + port % 4 / 2)) default
  let l := (s.reel :: (s.port (portKey die port)).errors).take 4
  let s := s.modPort (portKey die port) fun p => { p with errors := l }
  if l.length = 4 && decide (s.reel ≤ l.getD 3 0 + 100000) then s.declareDown die port 1 else s

/-- A received frame leaves the station's input buffer: the receiver returns its flits by CREDIT (R359). -/
def State.returnCredit (s : State) (die port cls flits : Nat) : State := s.control (portKey die port) 1 (flits * 2 ^ (18 - 6 * cls))
/-- A station is a target of a frame (R362). -/
def State.frameTarget (s : State) (die : Nat) (f : FrameIn) : Bool :=
  if f.mode = 0 then f.dst == die else f.mode == 1 || 96 ≤ die && die ≤ 97 || s.partOf die == f.dst % 32 && isCompute die
/-- A segment reaches a target: the transaction is partly received until its last one does (R356). -/
def State.takeSegment (s : State) (die : Nat) (f : FrameIn) : State :=
  let x := (die, f.src, f.cls, f.seq)
  s.modFelt fun n => { n with partialTxns := if f.last then n.partialTxns.filter (· != x) else if n.partialTxns.contains x then n.partialTxns
                              else n.partialTxns ++ [x] }
/-- TRANSIT_FRAME (R353-R356, R358, R361, R362): the flits of a frame arrive at a port. A frame that does not check is discarded as a link error of that
    port. Each target takes its own copy, and answers one of a TYPE that Table 11.6 does not list with UNSUPPORTED (R364), and the frame waits for the
    opposite port of the ring while TTL lasts; a unicast copy that runs out of it elsewhere is discarded and counted as a link error. A station forwards
    nothing while the package is held in reset or without power (R347). -/
def execTransitFrame (die port : Nat) (flits : List Nat) (s : State) : Host.Outcome State Fault Refusal :=
  guardId (isDie die && decide (port < 4) && flits.all fun f => decide (f < 2 ^ 40))
    (if s.pkg.boot = .held then s else match readFrame flits with
     | none => (s.linkError die port).returnCredit die port (bits (flits.headD 0) 38 2) (min flits.length (largestFrame (bits (flits.headD 0) 38 2)))
     | some f =>
       let mine := s.frameTarget die f
       let s := if mine then s.takeSegment die f else s
       let s := if mine && f.last && !knownTypes.contains (bits f.w0 24 8) then s.ack die f.src (bits f.w0 24 8) f.seq 3 else s
       if (f.mode ≠ 0 || !mine) && 2 ≤ f.ttl then
         s.enqueue (portKey die (port / 2 * 2 + (port + 1) % 2))
           [{ cls := f.cls, own := false, port := port, words := f.forward, left := flits.length }]
       else if f.mode = 0 && !mine then (s.linkError die port).returnCredit die port f.cls flits.length
       else s.returnCredit die port f.cls flits.length)
/-- FELT_SPACER_TIMEOUT (R352): a link error. -/
def execFeltSpacerTimeout (die port : Nat) (s : State) : Host.Outcome State Fault Refusal :=
  guardId (isDie die && decide (port < 4)) (s.linkError die port)
/-- CREDIT (R359): flit credits come back, up to the buffer sizes of Table 11.5, and the port sends what waited for them. -/
def execCredit (die port data : Nat) (s : State) : Host.Outcome State Fault Refusal :=
  guardId (isDie die && decide (port < 4))
    ((s.modPort (portKey die port) fun p =>
      { p with credits := (min 48 (p.credits.1 + bits data 18 6), min 64 (p.credits.2.1 + bits data 12 6),
                           min 64 (p.credits.2.2.1 + bits data 6 6), min 64 (p.credits.2.2.2 + bits data 0 6)) }).serve (portKey die port))
/-- IDLE (Table 11.3). -/
def execIdle (die port : Nat) (s : State) : Host.Outcome State Fault Refusal :=
  guardId (isDie die && decide (port < 4)) (s.control (portKey die port) 2 0)
/-- PROBE (Table 11.3): the receiver echoes the value. -/
def execProbe (die port value : Nat) (s : State) : Host.Outcome State Fault Refusal :=
  guardId (isDie die && decide (port < 4)) (s.control (portKey die port) 4 (value % 2 ^ 24))
/-- PROBE_PERIOD (R370): a down link sends a PROBE; one not echoed since the last ends the clean time. -/
def execProbePeriod (die port : Nat) (s : State) : Host.Outcome State Fault Refusal :=
  guardId (isDie die && decide (port < 4))
    (if (s.port (portKey die port)).down then
       let v := Config.probeValue s.fresh % 2 ^ 24
       let s := s.draw.2
       (s.modPort (portKey die port) fun p => { p with cleanSince := if p.probe.isSome then none else p.cleanSince, probe := some v }).control
         (portKey die port) 3 v
     else s)
/-- ECHO (R370): after 1 ms of correct echoes the lower end station broadcasts RING_JOIN, 100 us ahead. -/
def execEcho (die port value : Nat) (s : State) : Host.Outcome State Fault Refusal :=
  guardId (isDie die && decide (port < 4))
    (let k := portKey die port
     let link := linkOf die port
     let p := s.port k
     if !p.down || p.probe.isNone then s
     else if p.probe ≠ some value then s.modPort k fun p => { p with probe := none, cleanSince := none }
     else
       let since := p.cleanSince.getD s.reel
       let s := s.modPort k fun p => { p with probe := none, cleanSince := some since }
       if port % 2 = 0 && 1000000 ≤ s.reel - since && (tget none s.felt.joins link).isNone then
         let a := s.dieReel die + 100000
         (s.modFelt fun n => { n with joins := tset none n.joins link (some a) }).feltSend die 0x12 1 0
           [link / 128, link % 128, a % 2 ^ 32, bits a 32 32]
       else s)
/-- LINK_DOWN (R368): the neighbour has declared the link down. -/
def execLinkDown (die port : Nat) (s : State) : Host.Outcome State Fault Refusal :=
  guardId (isDie die && decide (port < 4)) (s.declareDown die port 2)
/-- CREDIT_TIMEOUT (R360): counted at FELT_CREDIT, and the link is declared down. -/
def execCreditTimeout (die port : Nat) (s : State) : Host.Outcome State Fault Refusal :=
  guardId (isDie die && decide (port < 4)) ((s.agentCount die (dieSource die 12) default).declareDown die port 0)
/-- LINK_SILENCE_TIMEOUT (R368). -/
def execLinkSilenceTimeout (die port : Nat) (s : State) : Host.Outcome State Fault Refusal :=
  guardId (isDie die && decide (port < 4)) (s.declareDown die port 3)
/-- RING_BREAK (R369): the station settles its routing; at the acting Vat's station the first one for a link writes RING_FAILOVER. -/
def execRingBreak (h : Hdr) (die ring link : Nat) (s : State) : Host.Outcome State Fault Refusal :=
  guardId (isDie die && decide (ring < 2) && decide (link < 100))
    (s.recv die h 0x11 fun s =>
      let l := ring * 128 + link
      let s := s.modFelt fun n => { n with broken := insertNat l n.broken }
      let s := s.setRing die ring (s.settledRing ring)
      if s.acting.isSome && die = s.actDie && !s.felt.logged.contains l then
        let p := s.firstPort l
        (s.modFelt fun n => { n with logged := insertNat l n.logged }).record 0x0B00 2 (linkSource l) (s.ringWord l p.cause)
          (sat 24 ((s.reel - p.downSince) / 10)) 0
      else s)
/-- RING_JOIN (R370): the station notes the activation count of a link that is still broken. -/
def execRingJoin (h : Hdr) (die ring link count : Nat) (s : State) : Host.Outcome State Fault Refusal :=
  guardId (isDie die && decide (ring < 2) && decide (link < 100))
    (s.recv die h 0x12 fun s =>
      let l := ring * 128 + link
      if s.felt.broken.contains l then s.modFelt fun n => { n with joins := tset none n.joins l (some count) } else s)
/-- RING_JOIN_ACTIVATION (R370): the station restores its routing; with the first of them the link's ports are up again, and RING_RESTORED is
    written. -/
def execRingJoinActivation (die ring : Nat) (s : State) : Host.Outcome State Fault Refusal :=
  guardId (isDie die && decide (ring < 2))
    (let ls := (s.felt.joins.map (·.1)).filter fun l => l / 128 == ring
     let back := ls.filter s.felt.broken.contains
     let s := s.modFelt fun n => { n with broken := n.broken.filter fun l => !ls.contains l, joins := n.joins.filter fun e => !ls.contains e.1 }
     let s := each back (fun s l =>
       let p := s.firstPort l
       let s := if s.felt.logged.contains l then
           s.record 0x0B01 0 (linkSource l) (s.ringWord l p.cause) (sat 24 ((s.reel - p.downSince) / 1000000)) 0
         else s
       (((s.modPort (linkPorts l).1 fun _ => {}).modPort (linkPorts l).2 fun _ => {}).dieRing ((linkPorts l).1 / 4) 0x26 l).dieRing ((linkPorts l).2 / 4) 0x26 l) s
     let s := s.modFelt fun n => { n with logged := n.logged.filter fun l => !back.contains l }
     s.setRing die ring (s.settledRing ring))

/-! ## Isolation (R371) -/

/-- STATION_ISOLATION (R371): the die's cores freeze with hold reason 1, and FELT_CREDIT's PIN latch sets; not before the ready declaration
    (Table 15.2). -/
def execStationIsolation (die : Nat) (s : State) : Host.Outcome State Fault Refusal :=
  guardId (isDie die)
    (if s.pkg.ready then ((s.modDie die fun k => { k with isolated := true }).holdDie die isolateKey 1).setPin (dieSource die 12) else s)
/-- STATION_ISOLATED (R371): the Vat records it and takes a PKG request; not before the ready declaration (Table 15.2). -/
def execStationIsolated (die : Nat) (s : State) : Host.Outcome State Fault Refusal :=
  guardId (isDie die)
    (if s.acting.isSome && s.pkg.ready then (s.record 0x0B02 5 (dieSource die 12) die 0 0).packageReset (dieSource die 12) true else s)

/-! ## Transactions (R356, R363) -/

/-- PARTIAL_TXN_TIMEOUT (R356): the partly received transaction is discarded. -/
def execPartialTxnTimeout (die src cls : Nat) (s : State) : Host.Outcome State Fault Refusal :=
  guardId (isDie die && isDie src)
    (s.modFelt fun n => { n with partialTxns := n.partialTxns.filter fun x => !(x.1 == die && x.2.1 == src && x.2.2.1 == cls) })
/-- The dies that a transaction goes to: a broadcast to every die, a multicast to its partition's and the hub dies (R362). -/
def State.txnTargets (s : State) (t : Txn) : List Nat :=
  if t.mode = 0 then [t.dst] else if t.mode = 1 then List.range 100 else s.partDies t.dst ++ [96, 97]
/-- A transaction has failed after its resends: TXN_FAILED for each die that has not answered (log 151), and what its originating rule decides (R325,
    R335, R363). -/
def State.txnFailed (s : State) (w : Pend) : State :=
  let t := w.t
  let ring := if typeClass t.type ≠ 0 && 2 ≤ (s.die t.src).ring0 then 1 else 0
  let s := each ((s.txnTargets t).filter fun d => !w.acked.contains d) (fun s d =>
    s.record 0x0B04 2 (dieSource d (10 + ring)) (t.type * 2 ^ 16 + t.seq) d 0) s
  if t.type = 0x8F then s.mirrorLost else if t.type = 0x04 then s.decideDepose true else s
/-- Resends before a transaction fails: 8, and 2 of a mirrored change (R335, R363). -/
def resendLimit (ty : Nat) : Nat := if ty = 0x8F then 2 else 8
/-! ## Barriers (R366) -/

/-- BARRIER (R366): the agent watches the tag's transfers; it is acknowledged when they are drained. -/
def execBarrier (h : Hdr) (die tag : Nat) (gen : Option Nat) (s : State) : Host.Outcome State Fault Refusal :=
  guardId (isDie die)
    (let k := s.die die
     if k.inReset then s.ack die h.src 0x10 h.seq 2
     else if h.epoch < k.epoch then (s.agentCount die (pkgSource 5) default).feltSend die 0x06 0 h.src [k.epoch]
     else
       let s := s.modDie die fun k => { k with epoch := h.epoch }
       if seqSeen (tget [] s.felt.seen (seenKey die h.src 0x10)) h.seq then
         if k.barriers.any fun b => b.1 == h.src && b.2.1 == h.seq then s else s.ack die h.src 0x10 h.seq 0
       else (s.noteSeen die h.src 0x10 h.seq).modDie die fun k => { k with barriers := k.barriers ++ [(h.src, h.seq, tag, gen)] })
/-- BARRIER_DRAINED (R366): counts balance on every link of the die, and its queues hold no such transfer. -/
def execBarrierDrained (die seq : Nat) (s : State) : Host.Outcome State Fault Refusal :=
  guardId (isDie die)
    (each ((s.die die).barriers.filter fun b => b.2.1 == seq) (fun s b => s.ack die b.1 0x10 seq 0)
      (s.modDie die fun k => { k with barriers := k.barriers.filter fun b => b.2.1 != seq }))

/-! ## Bridges (R374) -/

/-- BRIDGED (R374): into the port's outbound queue of 64, or BRIDGE_FULL. -/
def execBridged (h : Hdr) (payload : List Nat) (s : State) : Host.Outcome State Fault Refusal :=
  match s.acting with
  | none => .next s
  | some v =>
    .next (if (s.vat v).linkUp || decide ((s.vat v).outQ.length < 64) || seqSeen (tget [] s.felt.seen (seenKey (hubDie v) h.src 0x92)) h.seq then
        s.recvVat (.bridged h payload) h 0x92 fun s =>
          if (s.vat v).linkUp then s.emit (.vendor 4 payload) else s.modVat v fun x => { x with outQ := x.outQ ++ [payload] }
      else (s.hear h.src).ack (hubDie v) h.src 0x92 h.seq 4)
/-- INBOUND_BRIDGED_MESSAGE (R374): into the inbound queue of 64, or dropped and counted at I3C_FAULT or MGMT_LINK_DOWN of the hub. -/
def execInboundBridgedMessage (hub : Hub) (i3c : Bool) (payload : List Nat) (s : State) : Host.Outcome State Fault Refusal :=
  .next (if (s.vat hub).inQ.length < 64 then s.modVat hub fun v => { v with inQ := v.inQ ++ [payload] }
    else s.agentCount (hubDie hub) (hubSource hub (if i3c then 12 else 11)) default)
/-- BRIDGE_INBOUND_ADMIT (R374): the oldest message enters Felt as FC2, addressed to the acting Vat's die (log 18). -/
def execBridgeInboundAdmit (hub : Hub) (s : State) : Host.Outcome State Fault Refusal :=
  match (s.vat hub).inQ with
  | [] => .next s
  | m :: q => .next ((s.modVat hub fun v => { v with inQ := q }).feltSend (hubDie hub) 0x92 0 s.actDie m)

/-! ## Link qualification (R379-R381) -/

/-- A lane fails: its bit error ratio is above 2.4e-4, or it has an uncorrectable codeword (R380). -/
def laneFails (c : LaneCount) : Bool := decide (c.bits * 24 < c.errors * 100000) || c.uncorrectable != 0
/-- LINK_QUAL (R380). -/
def execLinkQual (rq : Req) (s : State) : Host.Outcome State Fault Refusal :=
  .next (s.command (.linkQual rq) rq { code := 0x0900, least := .operator, kind := .other } [] true fun s =>
    if s.running 0x0900 0 || s.pkg.qualifying then s.finish rq 0x0900 stBusy [] [] else (s.beginRun rq 0x0900 0 0 []).emit .qualify)
/-- The counts of a qualification are kept, and each failing lane writes LINK_QUAL_FAIL (R380). -/
def State.noteLanes (s : State) (lanes : List LaneCount) : State :=
  let s := s.modSh fun h => { h with lanes := each lanes (fun t c => tset none t c.lane (some c)) [] }
  each (lanes.filter laneFails) (fun s c =>
    s.record 0x0B03 3 (dieSource (c.lane / 512 % 128) 0) c.lane (sat 24 (c.errors / 2 ^ 16)) (sat 24 c.uncorrectable)) s
/-- LINK_QUAL_DONE (R380): the counts, and the reply of a LINK_QUAL that runs. -/
def execLinkQualDone (lanes : List LaneCount) (s : State) : Host.Outcome State Fault Refusal :=
  let bad := (lanes.filter laneFails).length
  .next (((s.noteLanes lanes).modPkg fun g => { g with qualifying := false }).endOp 0x0900 0 stOk [(32, lanes.length - bad), (32, bad)])
/-- LINK_QUAL_READ (R380): 32 bytes a lane, from a lane ID on. -/
def execLinkQualRead (rq : Req) (first count : Nat) (s : State) : Host.Outcome State Fault Refusal :=
  .next (s.command (.linkQualRead rq first count) rq { code := 0x0901, least := .operator, kind := .read } [] true fun s =>
    let n := clampTo 1 8 1 15 count
    let l := ((s.sh.lanes.filterMap (·.2)).filter fun c => decide (first ≤ c.lane)).take n.1
    s.finish rq 0x0901 stOk n.2 (l.flatMap fun c =>
      [(16, c.lane), (16, 0), (64, c.bits), (64, c.errors), (32, c.codewords), (32, c.corrected), (32, c.uncorrectable)]))
/-- FELT_STATUS (Table 13.6): for each ring its state as the acting Vat's station sees it, and the positions of its down links. -/
def execFeltStatus (rq : Req) (s : State) : Host.Outcome State Fault Refusal :=
  .next (s.command (.feltStatus rq) rq { code := 0x0902, least := .operator, kind := .read } [] true fun s =>
    s.finish rq 0x0902 stOk [] ([0, 1].flatMap fun r =>
      (8, ringOf (s.die s.actDie) r) :: (s.felt.broken.filter fun l => l / 128 == r).map fun l => (8, l % 128)))
/-- LANE_BER_WINDOW_END (R381): an optical lane over the limit counts LANE_BER. -/
def execLaneBerWindowEnd (c : LaneCount) (optical : Bool) (s : State) : Host.Outcome State Fault Refusal :=
  let d := c.lane / 512 % 128
  guardId (isDie d)
    (if optical && decide (c.bits * 24 < c.errors * 100000) then s.agentCount d (engineSource d (c.lane / 32 % 16) 0) { ctx := 0, p2 := c.lane, p3 := 0 }
     else s)
/-- A block fails its bring-up test: BIST_BLOCK and a count at its source (R476). -/
def State.bistBlock (s : State) (src block ident test : Nat) : State :=
  (s.record 0x0F02 3 src (block * 2 ^ 16 + ident) test s.pkg.pcycle).agentCount (sourceDie src) src default
/-- The Couch agent of a die fails its bring-up test, or is unreachable (Table 15.2): a compute die's physical entries read ABSENT, a hub's Vat is
    OFFLINE. -/
def State.agentOut (s : State) (die test : Nat) : State :=
  let s := (s.modDie die fun k => { k with bist := some false }).bistBlock (dieSource die 7) 1 die test
  if isCompute die then s.modDie die fun k => { k with phys := tput 0 [] 0 (List.replicate 156 (physWord 4 false 0 0)) }
  else match dieHub die with
    | some h => s.modVat h fun v => if v.role = .active then v else { v with role := .offline, bist := some false, loadStart := none }
    | none => s
/-- The links of a ring, by lower position, that a frame passes on its way up from one position to another. -/
def arc (ring a b : Nat) : List Nat := (List.range ((b + 100 - a) % 100)).map fun i => ring * 128 + (a + i) % 100
/-- A station cannot be reached from another on either ring: both ways round pass a broken link. -/
def State.cutOff (s : State) (root die : Nat) : Bool :=
  let a := ringPos root
  let b := ringPos die
  [0, 1].all fun r => (arc r a b).any s.felt.broken.contains && (arc r b a).any s.felt.broken.contains
/-- Before the ready declaration a station that the active Vat cannot reach on either ring counts as a failed agent of its die (Table 15.2). -/
def State.dropCutOff (s : State) : State :=
  if s.pkg.ready || s.activeHub.isNone || s.felt.broken.isEmpty then s
  else each ((List.range 100).filter fun d => (s.die d).bist != some false && s.cutOff s.actDie d) (fun s d => s.agentOut d 0) s
/-- FELT_LINK_QUAL_DONE (R379, R476): of 4,096 bring-up probes some came back, with link errors; a link that fails is declared down. -/
def execFeltLinkQualDone (die port echoed errors : Nat) (s : State) : Host.Outcome State Fault Refusal :=
  guardId (isDie die && decide (port < 4))
    (if s.pkg.ready || (echoed == 4096 && errors == 0) then s
     else (s.bistBlock (dieSource die (10 + port / 2)) 2 (linkOf die port % 128) 0).declareDown die port 1 |>.dropCutOff)

end Sys2Proof.Machine
end

