-- ==== Sys2Proof/Machine/Timebase.lean ====
section
/-! DEFINITION. The reel counter's alignment and correction, launch, stall intervals that saturate, relaxed mode's commands (R65-R92). -/

namespace Sys2Proof.Machine

/-! ## Alignment (R66, R67) -/

/-- The nearest multiple of 10, a tie going up (R66 part 4). -/
def nearest10 (v : Nat) : Nat := (v + 5) / 10 * 10
/-- A copy takes the correct count, never backward (R71): one found behind jumps forward; one found ahead holds until the count reaches it. -/
def State.correctReel (s : State) (d correct : Nat) : State :=
  let own := s.dieReel d
  s.modDie d fun k =>
    { k with reelOn := true, reelLock := true, reelFree := none, reelAdj := (correct : Int) - s.reel,
             reelHeld := if own ≤ correct then none else some own, unaligned := decide (correct < own) }
/-- The aligned die's three probes of a neighbour over a ring (R66 part 1). -/
def State.alignHop (s : State) (d n ring : Nat) : State :=
  each [0, 1, 2] (fun s i => s.feltSend d 0x82 0 n [i] (some ring)) s
/-- The root aligns its two neighbours over ring 0, and they the dies beyond them (Table 2.3 step 3). -/
def State.alignAll (s : State) (root : Nat) : State := (s.alignHop root (nextDie root) 0).alignHop root (prevDie root) 0
/-- The root's die starts its copy at zero: the correct count starts there (Table 2.3 step 2), and its neighbours are aligned next. -/
def State.startReel (s : State) (root : Nat) : State :=
  let s := { s with pkg := { s.pkg with t0 := s.pkg.t0 + s.reel }, reel := 0 }
  (s.correctReel root 0).alignAll root
/-- ALIGN_PROBE (R66 part 1): echoed over the same ring. -/
def execAlignProbe (h : Hdr) (die value : Nat) (s : State) : Host.Outcome State Fault Refusal :=
  guardId (isDie die) (s.recv die h 0x82 fun s => s.feltSend die 0x83 0 h.src [value] (some h.ring))
/-- A hop is left after its eighth invalid attempt: the neighbour is marked unaligned. The dies beyond it are reached from the other direction of ring
    0; once a hop of each direction has been left, the hops that were left are made over ring 1 (R67). -/
def State.leaveHop (s : State) (die neighbour port : Nat) : State :=
  let s := s.modDie neighbour fun d => { d with unaligned := true }
  if 2 ≤ port then s
  else
    let l := insertNat (portKey die port) s.pkg.alignBlocked
    let s := s.modPkg fun g => { g with alignBlocked := l }
    if l.any (fun k => k % 2 == 0) && l.any fun k => k % 2 == 1 then
      each l (fun s k => s.alignHop (k / 4) (if k % 2 = 0 then nextDie (k / 4) else prevDie (k / 4)) 1) s
    else s
/-- Whether three round trips make a valid attempt (R67). -/
def hopValid (a b c : Nat) : Bool :=
  decide (max a (max b c) ≤ 1000) && decide (max a (max b c) ≤ min a (min b c) + 4)
/-- ALIGN_ECHO (R66, R67): with the third echo a valid attempt sends ALIGN_SET; an invalid one is repeated, and the eighth leaves the
    neighbour unaligned. The mean RT and RT / 2 are both truncated to whole counts (DESIGN CHOICE, log 95). -/
def execAlignEcho (die neighbour port rt1 rt2 rt3 : Nat) (s : State) : Host.Outcome State Fault Refusal :=
  guardId (isDie die && isDie neighbour && decide (port < 4))
    (let k := portKey die port
     if hopValid rt1 rt2 rt3 then
       let s := s.modPort k fun p => { p with tries := 0 }
       let t := s.dieReel die
       s.feltSend die 0x84 0 neighbour [t % 2 ^ 32, bits t 32 32, (rt1 + rt2 + rt3) / 3 / 2] (some (port / 2))
     else
       let n := (s.port k).tries + 1
       let s := s.modPort k fun p => { p with tries := min 8 n }
       if 8 ≤ n then s.leaveHop die neighbour port else s.alignHop die neighbour (port / 2))
/-- ALIGN_SET (R66 part 4): the neighbour's next reference edge, `edgeIn` counts away, receives the nearest multiple of 10 to T + RT / 2 carried
    forward, never backward (R71); it then aligns the die beyond it over the same ring. -/
def execAlignSet (h : Hdr) (die t halfRt edgeIn : Nat) (s : State) : Host.Outcome State Fault Refusal :=
  guardId (isDie die && isDie h.src)
    (s.recv die h 0x84 fun s =>
      let s := s.correctReel die (nearest10 (t + halfRt + edgeIn) - edgeIn)
      let n := if h.src = prevDie die then nextDie die else prevDie die
      if (s.die n).unaligned then s.alignHop die n h.ring else s)

/-! ## Comparison and correction (R70-R72) -/

/-- REEL_COMPARE_TICK (R70): the die's copy at a reference edge goes to the ring-0 neighbour that has it upstream, which keeps its own copy at the same
    edge (log 20). -/
def execReelCompareTick (die : Nat) (s : State) : Host.Outcome State Fault Refusal :=
  guardId (isDie die)
    ((s.modDie (nextDie die) fun k => { k with reelEdge := some (s.dieReel (nextDie die)) }).feltSend die 0x86 0 (nextDie die)
      [s.dieReel die % 2 ^ 32, bits (s.dieReel die) 32 32] (some 0))
/-- REEL_CMP (R70-R72): a copy that differed from its upstream neighbour's at the edge counts REEL_ALIGN and is corrected to that neighbour's count
    carried forward from the edge; one whose multiplier has lost lock is counted only, and realigns when lock returns. With no copy kept of an edge
    nothing is compared (log 88). -/
def execReelCmp (h : Hdr) (die count : Nat) (s : State) : Host.Outcome State Fault Refusal :=
  guardId (isDie die)
    (s.recv die h 0x86 fun s =>
      match (s.die die).reelEdge with
      | none => s
      | some edge =>
        let s := s.modDie die fun k => { k with reelEdge := none }
        if edge = count then s
        else
          let t := s.agentCount die (dieSource die 1) default
          if (s.die die).reelFree.isSome then t else t.correctReel die (s.dieReel die + count - edge))
/-- The copies of a die's ring neighbours that its comparison reads: at most four, over the links of ring 0 and ring 1 that are up, of dies whose copy
    is aligned (Table 2.3 step 4, R69). -/
def State.ringCopies (s : State) (d : Nat) : List Nat :=
  ((List.range 4).filter fun p => !(s.port (portKey d p)).down).filterMap fun p =>
    let n := if p % 2 = 0 then nextDie d else prevDie d
    if (s.die n).unaligned then none else some (s.dieReel n)
/-- A die's copy differs from a neighbour's at the edge. -/
def State.copyDiffers (s : State) (d : Nat) : Bool := !(s.die d).unaligned && (s.ringCopies d).any fun v => v != s.dieReel d
/-- A die disagrees with the majority of its up to four ring neighbours (R69). -/
def State.copyOdd (s : State) (d : Nat) : Bool :=
  !(s.die d).unaligned && decide ((s.ringCopies d).length < 2 * ((s.ringCopies d).filter fun v => v != s.dieReel d).length)
/-- REEL_CORRECTION_RESUME (R71): the correct count has reached a copy that was ahead. -/
def execReelCorrectionResume (die : Nat) (s : State) : Host.Outcome State Fault Refusal :=
  guardId (isDie die)
    (if (s.die die).reelHeld.isSome then s.modDie die fun k => { k with reelHeld := none, unaligned := false } else s)
/-- A die's multiplier has lost lock: its copy counts on from where it is on the local oscillator, unaligned (R72). -/
def State.loseLock (s : State) (d : Nat) : State :=
  let own := s.dieReel d
  s.modDie d fun k => { k with reelLock := false, unaligned := true, reelFree := if k.reelFree.isSome then k.reelFree else some (own, s.reel) }
/-- REEL_LOCK_LOSS (R72): counted at REEL_LOCK; the die counts on its local oscillator, unaligned. -/
def execReelLockLoss (die : Nat) (s : State) : Host.Outcome State Fault Refusal :=
  guardId (isDie die) ((s.loseLock die).agentCount die (dieSource die 2) default)
/-- REEL_LOCK_RETURN (R71, R72): the die realigns to its neighbours, forward only. -/
def execReelLockReturn (die : Nat) (s : State) : Host.Outcome State Fault Refusal :=
  guardId (isDie die) (if (s.die die).reelOn then s.correctReel die s.reel else s.modDie die fun k => { k with reelLock := true })
/-- REF_LOSS (R72, Table 7.5): every die's multiplier has lost the reference. -/
def execRefLoss (s : State) : Host.Outcome State Fault Refusal :=
  .next ((each (List.range 100) (fun s d => s.loseLock d) s).vatCount (pkgSource 0) default)

/-! ## Launch (R75-R81) -/

/-- The LAUNCH_AT reply completes when every agent has released the context's cores (R78). -/
def State.launchDone (s : State) (c : Nat) : State :=
  let l := (s.ctx c).released.map (·.2)
  if !l.isEmpty && (s.ctxDies c).all fun d => (s.ctx c).released.any fun e => e.1 == d then
    s.endOp 0x0101 c stOk [(64, l.foldl min (l.headD 0)), (64, l.foldl max 0)]
  else s
/-- An agent releases a context's cores on its die (R75, R76); a held core stays held (R81). -/
def State.launchRelease (s : State) (d c : Nat) : State :=
  let now := s.dieReel d
  let s := s.modDie d fun k => { k with arms := tset none k.arms c none }
  let s := each (s.ctxLcs c) (fun s n =>
    match s.carrier n with
    | some p => if coreDie p = d then (s.modLc n fun l => { l with issuing := true }).modCore p fun k => { k with lastIssue := now } else s
    | none => s) s
  ((s.modCtx c fun x => { x with state := if x.state = 1 then 2 else x.state, released := tset 0 x.released d now }).mirror).launchDone c
/-- LAUNCH_AT (R75, R79, R80, R475): the count is clamped to 60 s after the command; one multicast arms each partition of the context. -/
def execLaunchAt (rq : Req) (count : Nat) (s : State) : Host.Outcome State Fault Refusal :=
  .next (s.command (.launchAt rq count) rq { code := 0x0101, least := .tenant, kind := .other } [rq.ctx] true fun s =>
    let c := rq.ctx
    if !s.pkg.ready || (s.ctx c).plan.isNone || (s.ctx c).state = 3 || (s.ctx c).restoring.isSome then s.finish rq 0x0101 stNotReady [] []
    else if (s.ctx c).launch.isSome then s.finish rq 0x0101 stBusy [] []
    else
      let a := clampTo 0 64 0 (s.now + 60000000000) count
      let s := ((s.modCtx c fun x => { x with launch := some a.1 }).mirror).beginRun rq 0x0101 c 0 a.2
      each (s.ctxParts c) (fun s p => s.vatSend 0x07 2 p [c, a.1 % 2 ^ 32, bits a.1 32 32]) s)
/-- LAUNCH_ARM (R75, R77): an agent that carries a core of the context is armed; at or after the count it releases on receipt. A logical core that is
    re-placed, between arming and the count, onto a die that holds no arm is not released by it (DESIGN CHOICE, log 125). -/
def execLaunchArm (h : Hdr) (die ctx count : Nat) (s : State) : Host.Outcome State Fault Refusal :=
  guardId (isDie die && decide (ctx < 4096))
    (s.recvCmd die h 0x07 fun s =>
      if !(s.ctxDies ctx).contains die || (s.die die).revoked.contains (s.tagOf ctx) then s
      else if count ≤ s.dieReel die then s.launchRelease die ctx
      else s.modDie die fun k => { k with arms := tset none k.arms ctx (some count) })
/-- LAUNCH_RELEASE (R75): an armed agent's copy has reached the launch count. -/
def execLaunchRelease (die ctx : Nat) (s : State) : Host.Outcome State Fault Refusal :=
  guardId (isDie die && decide (ctx < 4096)) (if (tget none (s.die die).arms ctx).isSome then s.launchRelease die ctx else s)

/-! ## Stall intervals that saturate (R86) -/

/-- STALL_INTERVAL_SATURATE (R86): the pair is written now, and a new interval begins with the earliest hold still in force. -/
def execStallIntervalSaturate (region : Nat) (s : State) : Host.Outcome State Fault Refusal :=
  match tget none s.sh.intervals region with
  | none => .next s
  | some i =>
    let s := s.writeInterval region i
    let j := s.newInterval region (i.inForce.headD (0, 0)).1 i.kind (min 15 (i.inForce.length - 1)) i.inForce true
    .next (s.modSh fun h => { h with intervals := tset none h.intervals region (some j) })

/-! ## Relaxed mode's commands (R89, R91) -/

/-- RELAX_SET (R89); a slice that uses a stall stops at its next segment boundary when the mode goes off (R90). -/
def execRelaxSet (rq : Req) (part enable : Nat) (s : State) : Host.Outcome State Fault Refusal :=
  .next (s.command (.relaxSet rq part enable) rq { code := 0x0104, least := .operator, kind := .other } [] (decide (part < 32)) fun s =>
    let e := clampTo 1 8 0 1 enable
    let s := s.modPkg fun g => { g with relaxed := tset false g.relaxed part (e.1 == 1) }
    let s := if e.1 = 1 then s
      else each (s.partDies part) (fun s d => if (s.die d).beater.stall then s.modDie d fun k => { k with beater := { k.beater with stopping := true } }
        else s) s
    s.finish rq 0x0104 stOk e.2 [])
/-- RELAX_READ (R91): the partition's sum; `clear` zeroes it and its dies' counters. -/
def execRelaxRead (rq : Req) (part clear : Nat) (s : State) : Host.Outcome State Fault Refusal :=
  .next (s.command (.relaxRead rq part clear) rq { code := 0x0105, least := .operator, kind := .read } [] (decide (part < 32) && decide (clear ≤ 1)) fun s =>
    let v := tget 0 s.pkg.relaxSum part
    let s := if clear = 1 then
        each (s.partDies part) (fun s d => s.modDie d fun k => { k with relaxCnt := 0 })
          (s.modPkg fun g => { g with relaxSum := tset 0 g.relaxSum part 0 })
      else s
    s.finish rq 0x0105 stOk [] [(64, v)])

end Sys2Proof.Machine
end

