-- ==== Sys2Proof/Machine/Break.lean ====
section
/-! DEFINITION. Watchpoints, breakpoints and the start of a global stop (R435-R442, R367). -/

namespace Sys2Proof.Machine

/-! ## Triggers (R439) -/

/-- A context's whole hold begins on its scope: its own cores, or the dies of its partitions (R438); a Felt BARRIER over the scope's dies follows
    (Table 14.3 steps 2 and 3). -/
def State.holdScope (s : State) (c scope : Nat) : State :=
  let s := if scope = 1 then each ((s.ctxParts c).flatMap s.partDies) (fun s d => s.holdDie d (brkKey c) 2) s
    else each (s.ctxCores c) (fun s p => s.holdCore p (brkKey c)) s
  each (s.ctxParts c) (fun s p => s.vatSend 0x10 2 p [s.tagOf c]) s
/-- A core leaves a context's breakpoint hold; screening that such a hold opened ends with the last. -/
def State.freeCore (s : State) (c p : Nat) : State :=
  let s := (s.modCore p fun k => { k with runTo := none }).unholdCore p (brkKey c)
  if s.brkHeld p then s else s.modCore p fun k => { k with openScreen := false }
/-- The cores of a context's breakpoint scope (R438). -/
def State.scopeCores (s : State) (c scope : Nat) : List Nat :=
  if scope = 1 then ((s.ctxParts c).flatMap s.partDies).flatMap dieCores else s.ctxCores c
/-- A breakpoint hold of a scope ends at every core of it. -/
def State.freeScope (s : State) (c scope : Nat) : State :=
  let s := if scope = 1 then each ((s.ctxParts c).flatMap s.partDies) (fun s d => s.unholdDie d (brkKey c)) s else s
  each (s.scopeCores c scope) (fun s p => s.freeCore c p) s
/-- A breakpoint triggers at a die: FREEZE goes to the scope's dies and its cores are held. While the scope is held already, or under a global
    stop, the trigger is recorded; under the stop the hold takes effect at its release (Table 14.14). -/
def State.brkTrigger (s : State) (d c : Nat) (b : Brk) : State :=
  match (s.ctx c).brkHold with
  | some x => s.record 0x0E00 0 (ctxSource c 0) (b.kind * 2 ^ 20 + b.scope * 2 ^ 16 + c) b.number (sat 24 ((s.now - x.start) / 1000))
  | none =>
    let stopped := s.dbg.gstop.isSome
    let s := s.modCtx c fun x => { x with brkHold := some { kind := b.kind, scope := b.scope, number := b.number, start := s.now, inForce := false,
                                                            resume := none, after := stopped } }
    let s := each (s.ctxParts c) (fun s p => s.feltSend d 0x0B 2 p [2, s.tagOf c, b.scope]) s
    if stopped then s else s.holdScope c b.scope
/-- The breakpoints of a context that `p` picks trigger at a die. -/
def State.brkTriggers (s : State) (d c : Nat) (p : Brk → Bool) : State := each ((s.ctx c).brks.filter p) (fun s b => s.brkTrigger d c b) s
/-- BRK_ADDR_TRAP (R438 kind 0): a control core of a die reaches an armed address. -/
def execBrkAddrTrap (die addr : Nat) (s : State) : Host.Outcome State Fault Refusal :=
  guardId (isDie die)
    (each ((s.die die).comparators.filter fun x => x.2 == addr) (fun s x => s.brkTriggers die x.1 fun b => b.kind == 0 && b.arg == addr) s)

/-! ## The start of a global stop (R367, R442, Table 14.4 steps 1 and 2) -/

/-- The stop-table entry of a core (Table 14.6): held before the stop means held by another hold that began no later; a core in reset is unreadable
    and its counts are zero (R446, R449). -/
def State.stopEntry (s : State) (p : Nat) : StopEntry :=
  let c := s.core p
  let t := match s.dbg.gstop with | some x => x.2 | none => s.now
  let live := !c.resetting
  { pcore := p, lc := (s.lcOf p).getD 0, tag := (match s.lcOf p with | some n => (s.lc n).tag.getD 0 | none => 0), carrying := (s.lcOf p).isSome
    held := (s.holdsOn p).any fun x => holdReason x.1 != 3 && decide (x.2 ≤ t)
    parked := c.parked, unreadable := !live, stall := c.stallNow, haltReel := if live then c.haltReel.getD 0 else 0
    lstep := (match s.lcOf p with | some n => if live then (s.lc n).lstep else 0 | none => 0), pstep := if live then c.pstep else 0 }
/-- A stop-table entry's 32 bytes as fields (Table 14.6). -/
def stopFields (e : StopEntry) : List (Nat × Nat) :=
  [(16, e.lc), (16, e.pcore), (8, e.stall), (8, b2n e.carrying + flag e.held 1 + flag e.parked 2 + flag e.unreadable 3), (16, e.tag), (64, e.haltReel),
   (64, e.lstep), (64, e.pstep)]
/-- A stop-table entry as its eight words. -/
def stopWords (e : StopEntry) : List Nat := (List.range 8).map fun i => bits (packFields (stopFields e)) (32 * i) 32
/-- The entry that eight words hold (Table 14.6). -/
def readStop (w : List Nat) : StopEntry :=
  let a := w.getD 0 0
  let b := w.getD 1 0
  let two := fun i => w.getD i 0 + w.getD (i + 1) 0 * 2 ^ 32
  { pcore := bits a 16 16, lc := bits a 0 14, tag := bits b 16 16, carrying := bit b 8, held := bit b 9, parked := bit b 10, unreadable := bit b 11,
    stall := bits b 0 8, haltReel := two 2, lstep := two 4, pstep := two 6 }
/-- The die's STOP_TABLE transactions go to the acting Vat: its cores' entries, 63 in one, and the occupancy of its four link buffers (Table 11.6,
    Table 14.4 step 4). -/
def State.sendStop (s : State) (d : Nat) : State :=
  let s := if isCompute d then
      each [0, 63, 126] (fun s i =>
        let l := ((dieCores d).drop i).take 63
        s.toVat d 0xC4 ((i * 2 ^ 16 + l.length) :: l.flatMap fun p => stopWords (s.stopEntry p))) s
    else s
  let v := s.draw
  v.2.toVat d 0xC4 ((2 ^ 24 + 4) :: (List.range 4).map fun port => (d * 512 + port * 32) * 2 ^ 16 + Config.linkFlits (d * 512 + port * 32) v.1 % 2 ^ 16)
/-- A station latches the stop: it passes it on, its cores halt with HALT_REEL latched, a slice stops at its next segment boundary, and the stop
    table of the die goes to the Vat (Table 14.4). -/
def State.latchStop (s : State) (d : Nat) : State :=
  if (s.die d).stopLatch then s
  else
    let s := (s.modDie d fun k => { k with stopLatch := true, beater := { k.beater with stopping := k.beater.stopping || k.beater.shifting } }).emit
      (.stopWave d)
    let s := if isCompute d then
        each (dieCores d) (fun s p => (s.tapRing p 0x0D (s.core p).stallNow).modCore p fun c => { c with haltReel := some (s.dieReel d) }) (s.holdDie d 3 3)
      else s
    s.sendStop d
/-- A global stop is initiated at a station: 0 by command, 1 by a watchpoint, 2 over IEEE 1149.1. -/
def State.startStop (s : State) (d initiator : Nat) : State :=
  if s.dbg.gstop.isSome then s
  else (s.modDbg fun g => { g with gstop := some (initiator, s.now), stopTable := [], stopLinks := [], releaseAt := none, unreadable := false }).latchStop d

/-! ## Commands (R435, R438, R466) -/

/-- A core is in triage (R506): frozen for it, with a triage that has not ended. -/
def State.inTriage (s : State) (p : Nat) : Bool :=
  (s.core p).frozen || s.sh.triages.any (fun t => t.core == p) || s.sh.triageQ.any fun t => t.core == p
/-- A logical core's carrier is in triage. -/
def State.lcTriage (s : State) (n : Nat) : Bool := match s.carrier n with | some p => s.inTriage p | none => false
/-- A Tenant session may act on a logical core only when it carries the session's context. -/
def State.lcDenied (s : State) (rq : Req) (n : Nat) : Bool := rq.priv == .tenant && s.lcCtx n != some rq.ctx
/-- A watchpoint is set or cleared at the tap of a logical core's carrier, once the core is unparked (R188, R435). -/
def State.putWatch (s : State) (n index : Nat) (w : Option Watch) : State :=
  match s.carrier n with
  | some p => if (s.core p).parked then s.modCore p fun c => { c with deferred := c.deferred ++ [.watch n index w] }
    else s.modLc n fun l => { l with watch := tset none l.watch index w }
  | none => s.modLc n fun l => { l with watch := tset none l.watch index w }
/-- WATCH_SET (R435, R437, Table 1.4): the command completes when the order is given (log 143). -/
def execWatchSet (rq : Req) (index lc base len kinds tagMatch action : Nat) (s : State) : Host.Outcome State Fault Refusal :=
  .next (s.command (.watchSet rq index lc base len kinds tagMatch action) rq { code := 0x0C00, least := .tenant, kind := .other } [rq.ctx]
      (decide (index < 8) && decide (lc < 13824) && base % 64 == 0 && decide (base + 64 ≤ s.pkg.spad) && decide (kinds < 64) &&
        decide (tagMatch ≤ 1) && decide (action < 16) && s.enabled (s.homeDie lc)) fun s =>
    if s.lcDenied rq lc || (rq.priv == .tenant && decide (4 ≤ index)) then s.refuse rq 0x0C00 stDenied 5
    else if rq.priv = .tenant && bit action 3 then s.refuse rq 0x0C00 stDenied 4
    else if s.lcTriage lc then s.finish rq 0x0C00 stBusy [] []
    else
      let n := min (s.pkg.spad - base) (max 64 (len / 64 * 64))
      let w : Watch := { base := base, len := n, kinds := kinds, tagMatch := tagMatch == 1 || rq.priv == .tenant, action := action,
                         tag := s.tagOf rq.ctx, hits := 0 }
      (s.putWatch lc index (some w)).finish rq 0x0C00 stOk
        (if n = len then [] else [{ field := 3, width := 32, asked := len, used := n }]) [])
/-- WATCH_CLEAR (R435): the hits since it was set. -/
def execWatchClear (rq : Req) (lc index : Nat) (s : State) : Host.Outcome State Fault Refusal :=
  .next (s.command (.watchClear rq lc index) rq { code := 0x0C01, least := .tenant, kind := .other } [rq.ctx]
      (decide (index < 8) && decide (lc < 13824) && s.enabled (s.homeDie lc)) fun s =>
    if s.lcDenied rq lc || (rq.priv == .tenant && decide (4 ≤ index)) then s.refuse rq 0x0C01 stDenied 5
    else if s.lcTriage lc then s.finish rq 0x0C01 stBusy [] []
    else
      let hits := match tget none (s.lc lc).watch index with | some w => w.hits | none => 0
      (s.putWatch lc index none).finish rq 0x0C01 stOk [] [(32, hits)])
/-- The lowest breakpoint number that a context does not use. -/
def freeBrk (l : List Brk) : Nat := ((List.range 16).find? fun n => !(l.any fun b => b.number == n)).getD 0
/-- BRK_SET (R438): kind 3 is set by WATCH_SET only. -/
def execBrkSet (rq : Req) (kind scope arg arg2 : Nat) (s : State) : Host.Outcome State Fault Refusal :=
  .next (s.command (.brkSet rq kind scope arg arg2) rq { code := 0x0C02, least := .tenant, kind := .other } [rq.ctx]
      (decide (kind < 3) && decide (scope ≤ 1) && (kind != 0 || decide (arg < 2 ^ 40)) && (kind != 1 || decide (arg < 13824)) &&
        (kind != 2 || (decide (arg < 65536) && decide (arg2 < 65536)))) fun s =>
    let c := rq.ctx
    if scope = 1 && rq.priv = .tenant then s.refuse rq 0x0C02 stDenied 4
    else if (s.ctx c).state = 0 || (s.ctx c).state = 3 then s.finish rq 0x0C02 stNotReady [] []
    else if 16 ≤ (s.ctx c).brks.length then s.finish rq 0x0C02 stBusy [] []
    else
      let n := freeBrk (s.ctx c).brks
      let s := s.modCtx c fun x => { x with brks := x.brks ++ [{ number := n, kind := kind, scope := scope, arg := arg, arg2 := arg2 }] }
      let s := if kind = 0 then
          each ((s.ctxParts c).flatMap s.partDies) (fun s d => s.modDie d fun k => { k with comparators := k.comparators ++ [(c, arg)] }) s
        else s
      s.mirror.finish rq 0x0C02 stOk [] [(8, n)])
/-- A context's breakpoints that `p` picks are cleared, with the comparators of the addresses that no other needs. -/
def State.clearBrks (s : State) (c : Nat) (p : Brk → Bool) : State :=
  let s := s.modCtx c fun x => { x with brks := x.brks.filter fun b => !p b }
  let keep := ((s.ctx c).brks.filter fun b => b.kind == 0).map (·.arg)
  each (List.range 96) (fun s d =>
    if (s.die d).comparators.any fun x => x.1 == c && !keep.contains x.2 then
      s.modDie d fun k => { k with comparators := k.comparators.filter fun x => x.1 != c || keep.contains x.2 }
    else s) s
/-- BRK_CLEAR (R438). -/
def execBrkClear (rq : Req) (number : Nat) (s : State) : Host.Outcome State Fault Refusal :=
  .next (s.command (.brkClear rq number) rq { code := 0x0C03, least := .tenant, kind := .other } [rq.ctx] (decide (number < 16) || number == 0xFF) fun s =>
    ((s.clearBrks rq.ctx fun b => number == 0xFF || b.number == number).mirror).finish rq 0x0C03 stOk [] [])

end Sys2Proof.Machine
end

