-- ==== Sys2Proof/Machine/Calender.lean ====
section
/-! DEFINITION. Calender: temperatures, voltages, paces, holds, write windows, screening permission, analogue BIST (R384-R405). -/

namespace Sys2Proof.Machine

/-! ## Readings and limits -/

/-- Saturation of a temperature to -40 C and +150 C in 1/8 C (R385). -/
def satTemp (t : Int) : Int := max (-320) (min 1200 t)
/-- Top of range, 0x4B0 (R385). -/
def topTemp : Int := 1200
/-- The limits that a sensor governs, as (low, high) in 1/8 C (R389, R397). -/
def State.limits (s : State) (d n : Nat) : List (Int × Int) :=
  if d = 96 || d = 97 then (if n < 7 then [(s.lowOf d, s.highOf d), (-80, 840)] else [(0, 680)]) else [(s.lowOf d, s.highOf d)]
/-- A sensor has HIGH and LOW: all but hub sensor 7 (R389). -/
def hasLimit (d n : Nat) : Bool := !((d == 96 || d == 97) && n == 7)
/-- A reading within 5 C of a limit, at it or beyond it (R390). -/
def State.isNear (s : State) (d n : Nat) (t : Int) : Bool := (s.limits d n).any fun l => decide (t ≤ l.1 + 40) || decide (l.2 - 40 ≤ t)
/-- A reading more than 7 C from every limit (R390). -/
def State.isFar (s : State) (d n : Nat) (t : Int) : Bool := (s.limits d n).all fun l => decide (l.1 + 56 < t) && decide (t < l.2 - 56)
/-- A reading above HIGH or below LOW (R391). -/
def State.isBeyond (s : State) (d n : Nat) (t : Int) : Bool := hasLimit d n && (decide (s.highOf d < t) || decide (t < s.lowOf d))
/-- The sampled sensors of a die satisfy `p`. -/
def State.sensorsAll (s : State) (d : Nat) (p : Nat → Int → Bool) : Bool :=
  (List.range (sensorCount d)).all fun n => !(s.sensor d n).sampled || p n (s.sensor d n).temp
/-- The reading of a substituted sensor (R394): hub sensor 7 reads the other hub's; any other the highest non-failed one of its die plus 5 C. -/
def State.substReading (s : State) (d n : Nat) : Int :=
  if (d = 96 || d = 97) && n = 7 then (s.sensor (if d = 96 then 97 else 96) 7).temp
  else
    let l := ((List.range (sensorCount d)).filter fun k => k != n && (s.sensor d k).sampled && !(s.sensor d k).failed).map fun k => (s.sensor d k).temp
    match l with
    | [] => topTemp
    | t :: l => satTemp (l.foldl max t + 40)
/-- What a conversion reads (R388, R393, R394). -/
def State.reading (s : State) (d n raw : Nat) : Int :=
  let t := s.sensor d n
  if t.failed then (if t.subst then s.substReading d n else topTemp)
  else
    let k := d * 16 + n
    satTemp (((raw % 65536 * tget 0 s.pkg.gain k / 65536 : Nat) : Int) + tget 0 s.pkg.offset k + tget 0 s.pkg.userOffset k)
/-- Parameter 2 of a Calender source's records: reading code, kind, index (R404). -/
def calDetail (code kind index : Nat) : Detail := { ctx := 0, p2 := code % 4096 * 4096 + kind % 16 * 256 + index % 256, p3 := 0 }
/-- Updates the Calender part of a die. -/
def State.modCal (s : State) (d : Nat) (f : Cal → Cal) : State := s.modDie d fun k => { k with cal := f k.cal }
/-- Since when a condition has held: kept while it holds, started when it begins. -/
def since (ok : Bool) (old : Option Nat) (now : Nat) : Option Nat := if ok then some (old.getD now) else none
/-- A condition has held for `n` counts. -/
def heldFor (since : Option Nat) (now n : Nat) : Bool := match since with | some t => decide (t + n ≤ now) | none => false

/-! ## NEAR (R390, R401) -/

/-- The NEAR state after a sample of sensor `n`. -/
def State.evalNear (s : State) (d n : Nat) (t : Int) : State :=
  if !(s.die d).cal.near then
    if s.isNear d n t then
      let s := s.modCal d fun c => { c with near := true, farSince := none }
      let s := if isCompute d then s.modSh fun h => { h with nearDies := insertNat d h.nearDies } else s
      s.agentCount d (dieSource d 19) (calDetail (twos 12 t) 0 n)
    else s
  else
    let f := since (s.sensorsAll d (s.isFar d)) (s.die d).cal.farSince s.reel
    if heldFor f s.reel 100000000 then
      (s.modCal d fun c => { c with near := false, farSince := none }).modSh fun h => { h with nearDies := h.nearDies.filter (· != d) }
    else s.modCal d fun c => { c with farSince := f }

/-! ## Holds (R391, R395) -/

/-- A Calender hold begins on a compute die for one of its two conditions. -/
def State.beginCalHold (s : State) (d : Nat) (therm : Bool) : State :=
  if isCompute d then
    (s.modCal d fun c => if therm then { c with thermHold := true, thermOkSince := none } else { c with vmonHold := true, vmonOkSince := none }).holdDie
      d 4 1
  else s
/-- Both conditions of ending hold: the hold ends (Table 12.8). -/
def State.endCalHold (s : State) (d : Nat) : State := if s.calHold d then s else s.unholdDie d 4
/-- The thermal condition of ending, after a sample: every sensor within LOW + 3 C to HIGH - 3 C for 10 ms. -/
def State.evalThermHold (s : State) (d : Nat) : State :=
  if (s.die d).cal.thermHold then
    let ok := s.sensorsAll d fun n t => !hasLimit d n || (decide (s.lowOf d + 24 ≤ t) && decide (t ≤ s.highOf d - 24))
    let f := since ok (s.die d).cal.thermOkSince s.reel
    if heldFor f s.reel 10000000 then (s.modCal d fun c => { c with thermHold := false, thermOkSince := none }).endCalHold d
    else s.modCal d fun c => { c with thermOkSince := f }
  else s

/-! ## The bound-void reason THERMAL (Table 7.10) -/

/-- Every sensor of a die with limits has been sampled and reads within them. -/
def State.dieWithin (s : State) (d : Nat) : Bool :=
  (List.range (sensorCount d)).all fun n => !hasLimit d n || ((s.sensor d n).sampled && !s.isBeyond d n (s.sensor d n).temp)
/-- A die crosses a limit: it is concerned until it is within its limits again. -/
def State.noteThermal (s : State) (d : Nat) : State :=
  if d < 98 then (s.modPkg fun g => { g with thermalDies := (g.thermalDies.filter fun e => e.1 != d) ++ [(d, none)] }).setVoid 4 else s
/-- A core has passed a periodic run that started at or after a reel count. -/
def State.screenedSince (s : State) (p t : Nat) : Bool := (s.core p).screenValid && decide (t ≤ (s.core p).screen)
/-- THERMAL clears when every die concerned is within its limits and its cores have passed a periodic run started after that. -/
def State.evalThermal (s : State) : State :=
  if bit s.pkg.voidReasons 4 then
    let s := s.modPkg fun g => { g with thermalDies := g.thermalDies.map fun e => (e.1, if s.dieWithin e.1 then some (e.2.getD s.reel) else none) }
    let done := s.pkg.thermalDies.all fun e =>
      match e.2 with | some t => !isCompute e.1 || (s.usable e.1).all fun p => s.screenedSince p t | none => false
    if done then (s.modPkg fun g => { g with thermalDies := [] }).clearVoid 4 else s
  else s

/-! ## Write windows (R397-R399) -/

/-- Every voltage monitor of a die is within tolerance. -/
def State.vmonsOk (s : State) (d : Nat) : Bool := (List.range 4).all fun m => !(tget {} (s.die d).cal.vmons m).out
/-- WRITE_WINDOW (Table 12.7): store 0, 1 or 2. -/
def State.windowRec (s : State) (store : Nat) (opened : Bool) (code held : Nat) : State :=
  s.record 0x0C00 1 (dieSource (if store < 2 then 96 + store else s.actDie) 0) (store * 2 ^ 16 + b2n opened) code (sat 24 held)
/-- The code of the governing reading nearest an edge of a window. -/
def nearestCode (lo hi : Int) (l : List Int) : Nat :=
  match bestBy (fun t : Int => (min (t - lo) (hi - t)).toNat) l with | some t => twos 12 t | none => 0
/-- A hub's MRAM window closes. -/
def State.closeMram (s : State) (h : Hub) (code : Nat) : State :=
  if (s.vat h).mramWin then (s.modVat h fun v => { v with mramWin := false, mramOkSince := none,
                                                          mramHeld := 0 }).keepDurable.windowRec (hubNum h) false code 0 else s
/-- A hub's MRAM window opens: staged records are written in order, and a clear that waited takes place. -/
def State.openMram (s : State) (h : Hub) : State :=
  let held := (s.vat h).mramHeld + (s.vat h).staging.length
  let code := nearestCode (-80) 840 ((List.range 7).map fun n => (s.sensor (hubDie h) n).temp)
  let waits := decide (0 < (s.vat h).mramHeld)
  let s := (s.modVat h fun v => { v.landEpoch with mramWin := true, mramOkSince := none, mramHeld := 0 }).modPkg fun g => { g with mram := none }
  let s := if waits then s.modPkg fun g => { g with hoursMram := g.hours } else s
  ((s.refill h).windowRec (hubNum h) true code held).clearWaiting
/-- The flash window closes. -/
def State.closeFlash (s : State) (code : Nat) : State :=
  if s.pkg.flashWin then (s.modPkg fun g => { g with flashWin := false, flashOkSince := none, flashHeld := 0 }).windowRec 2 false code 0 else s
/-- The flash window opens: firmware writes that waited complete, and the flash directory takes a pending activation (Table 12.5). -/
def State.openFlash (s : State) : State :=
  let held := s.pkg.flashHeld
  let code := nearestCode 0 680 [(s.sensor 96 7).temp, (s.sensor 97 7).temp]
  let s := s.modPkg fun g =>
    { g with flashWin := true, flashOkSince := none, flashHeld := 0, fwQueue := []
             flashMem := each g.flash (fun m e => match e.2.dirPending with | some x => writeDir m e.1 x.1 (serialAt m e.1 x.1) x.2 | none => m) (each g.fwQueue fwApply g.flashMem)
             flash := g.flash.map fun e => (e.1, { e.2 with dirPending := none }) }
  let s := s.windowRec 2 true code held
  s.endRuns (fun x => x.opcode == 0x0802 || x.opcode == 0x0803) stOk []
/-- A hub's MRAM window after a sample (R397). -/
def State.evalMram (s : State) (h : Hub) (n : Nat) (t : Int) : State :=
  if (s.vat h).mramWin then (if n < 7 && (decide (t < -80) || decide (840 < t)) then s.closeMram h (twos 12 t) else s)
  else
    let ok := s.vmonsOk (hubDie h) && (List.range 7).all fun n =>
      (s.sensor (hubDie h) n).sampled && decide (-64 ≤ (s.sensor (hubDie h) n).temp) && decide ((s.sensor (hubDie h) n).temp ≤ 824)
    let f := since ok (s.vat h).mramOkSince s.reel
    if heldFor f s.reel 10000000 then s.openMram h else s.modVat h fun v => { v with mramOkSince := f }
/-- The flash window after a sample of a hub: the acting Vat decides it (R397). -/
def State.evalFlash (s : State) (n : Nat) (t : Int) : State :=
  match s.acting with
  | none => s
  | some v =>
    if s.pkg.flashWin then (if n = 7 && (decide (t < 0) || decide (680 < t)) then s.closeFlash (twos 12 t) else s)
    else
      let ok := s.vmonsOk (hubDie v) && [96, 97].all fun d =>
        (s.sensor d 7).sampled && decide (16 ≤ (s.sensor d 7).temp) && decide ((s.sensor d 7).temp ≤ 664)
      let f := since ok s.pkg.flashOkSince s.reel
      if heldFor f s.reel 10000000 then s.openFlash else s.modPkg fun g => { g with flashOkSince := f }

/-- CPL_CAL_STATE of a hub die shows its MRAM window, and the flash window as its Vat last decided it (R493). -/
def State.showWins (s : State) (h : Hub) : State :=
  s.modCal (hubDie h) fun c => { c with mramWin := (s.vat h).mramWin, flashWin := if s.acting = some h then s.pkg.flashWin else c.flashWin }

/-! ## A temperature reading and what follows -/

/-- A reading of a sensor is taken: NEAR, THERM_LIMIT with its hold, the hold's end, the write windows, the reason THERMAL. -/
def State.takeTemp (s : State) (d n : Nat) (t : Int) : State :=
  let was := (s.sensor d n).beyond
  let now := s.isBeyond d n t
  let s := s.modCal d fun c => { c with temps := tset {} c.temps n { (tget {} c.temps n) with sampled := true, temp := t, beyond := now } }
  let s := s.evalNear d n t
  let s := if now && !was then ((s.agentCount d (dieSource d 20) (calDetail (twos 12 t) 0 n)).beginCalHold d true).noteThermal d else s
  let s := s.evalThermHold d
  let s := match dieHub d with | some h => ((s.evalMram h n t).evalFlash n t).showWins h | none => s
  s.evalThermal
/-- TEMP_SAMPLE (R388-R391, R393, R394, R397). -/
def execTempSample (die sensor raw : Nat) (s : State) : Host.Outcome State Fault Refusal :=
  guardId (isDie die && decide (sensor < sensorCount die))
    (if (s.die die).inReset then s else s.takeTemp die sensor (s.reading die sensor raw))
/-- A factory calibration that has failed its CRC leaves every sensor of the die failed (R386, R393). -/
def Cal.allFailed (c : Cal) (n : Nat) : Cal :=
  { c with temps := tput {} c.temps 0 ((List.range n).map fun i => { (tget {} c.temps i) with failed := true }) }
/-- VMON_SAMPLE (R386, R395): the nominal value is the monitor's own; without factory calibration the monitor reports its raw value. -/
def execVmonSample (die monitor raw nominal : Nat) (s : State) : Host.Outcome State Fault Refusal :=
  guardId (isDie die && decide (monitor < 4))
    (if (s.die die).inReset then s
     else
      let v := (if (s.die die).cal.fcalOk then Config.voltReading (raw % 65536) (tget 0 s.pkg.vgain (die * 4 + monitor)) else raw) % 65536
      let out := decide (nominal * s.pkg.vmonTol < (if v < nominal then nominal - v else v - nominal) * 1000)
      let s := s.modCal die fun c =>
        { c with vmons := tset {} c.vmons monitor { sampled := true, out := out, unverified := !c.vrefOk, volt := v } }
      let s := if out then (s.agentCount die (dieSource die 17) (calDetail v 1 monitor)).beginCalHold die false else s
      let s := if (s.die die).cal.vmonHold then
          let f := since (s.vmonsOk die) (s.die die).cal.vmonOkSince s.reel
          if heldFor f s.reel 10000000 then (s.modCal die fun c => { c with vmonHold := false, vmonOkSince := none }).endCalHold die
          else s.modCal die fun c => { c with vmonOkSince := f }
        else s
      match dieHub die with
      | some h =>
        if out then
          let s := s.closeMram h (v % 4096)
          (if s.acting = some h then s.closeFlash (v % 4096) else s).showWins h
        else s
      | none => s)
/-- PACE_SAMPLE (R386, R396). -/
def execPaceSample (die monitor raw : Nat) (s : State) : Host.Outcome State Fault Refusal :=
  guardId (isDie die && decide (monitor < paceCount die))
    (if (s.die die).inReset then s
     else
      let v := (if (s.die die).cal.fcalOk then Config.paceReading (raw % 65536) (tget 0 s.pkg.pscale (die * 4 + monitor)) else raw) % 65536
      let low := decide (v < s.pkg.paceMin)
      let s := s.modCal die fun c => { c with paces := tset {} c.paces monitor { sampled := true, low := low, pace := v } }
      if low then
        (s.modCal die fun c => { c with paceLow := true, paceOkSince := none }).agentCount die (dieSource die 18) (calDetail v 2 monitor)
      else if (s.die die).cal.paceLow then
        let f := since ((List.range 4).all fun m => !(tget {} (s.die die).cal.paces m).low) (s.die die).cal.paceOkSince s.reel
        if heldFor f s.reel 1000000000 then s.modCal die fun c => { c with paceLow := false, paceOkSince := none }
        else s.modCal die fun c => { c with paceOkSince := f }
      else s)
/-- Updates one sensor of a die. -/
def State.modSensor (s : State) (d n : Nat) (f : Sensor → Sensor) : State :=
  s.modCal d fun c => { c with temps := tset {} c.temps n (f (tget {} c.temps n)) }
/-- SENSOR_REF_CHECK (R392, R393): a conversion against the reference junction that differs by more than 3 C from the factory's reference value
    fails. A failing check counts SENSOR_REF and the sensor reads top of range; 100 passing checks recover it. -/
def execSensorRefCheck (die sensor : Nat) (value ref : Int) (s : State) : Host.Outcome State Fault Refusal :=
  guardId (isDie die && decide (sensor < sensorCount die))
    (let pass := decide ((value - ref).natAbs ≤ 24)
     if (s.die die).inReset then s
     else if pass then
      let t := s.sensor die sensor
      if !t.failed || !(s.die die).cal.fcalOk then s
      else if 99 ≤ t.passes then s.modSensor die sensor fun t => { t with failed := false, subst := false, passes := 0 }
      else s.modSensor die sensor fun t => { t with passes := t.passes + 1 }
    else
      let s := s.modSensor die sensor fun t => { t with failed := true, passes := 0 }
      let t := if (s.sensor die sensor).subst then s.substReading die sensor else topTemp
      (s.agentCount die (dieSource die 21) (calDetail (twos 12 t) 0 sensor)).takeTemp die sensor t)

/-! ## Analogue BIST (R402, R403) -/

/-- The source of a failing item of a die (Table 12.6). -/
def bistSource (d item index : Nat) : Nat :=
  let engine := if item = 1 then index % 16 else index / 32 % 16
  match item with
  | 1 => engineSource d engine 2
  | 2 => engineSource d engine 3
  | 4 => dieSource d 21
  | 5 => if 98 ≤ d then engineSource d engine 3 else dieSource d 22
  | _ => dieSource d 22
/-- A failing item: BIST_FAIL and its source's count (R403, R404). -/
def State.bistFail (s : State) (d item index : Nat) (measured limit : Int) : State :=
  (s.record 0x0C03 3 (bistSource d item index) (item * 2 ^ 16 + index % 65536) (twos 24 measured) (twos 24 limit)).agentCount d (bistSource d item index)
    (calDetail (twos 12 measured) 3 item)
/-- What an item is held against (Table 12.6), as a value that its measurement must reach, or, for the differences of items 3 and 4 and the errors of item
    5, must not exceed: 70 % of EYE_REF, 1.5 dB below LASER_REF, 0.5 % of the first bandgap, 3 C, no error. -/
def State.bistLimit (s : State) (d item index : Nat) (measured : Int) : Int :=
  match item with
  | 1 => tget 0 s.pkg.laserRef (d * 16 + index % 16) - 150
  | 3 => (measured.natAbs / 200 : Nat)
  | 4 => 24
  | 5 => 0
  | _ => (ceilDiv (tget 0 s.pkg.eyeRef index * 70) 100 : Nat)
/-- Whether an item passes (Table 12.6): `second` is the other bandgap's voltage of item 3, the factory's reference value of item 4; `signal` whether the
    receiver of item 2 detects a signal. -/
def State.bistPasses (s : State) (d item index : Nat) (measured second : Int) (signal : Bool) : Bool :=
  let lim := s.bistLimit d item index measured
  match item with
  | 3 => decide ((measured - second).natAbs * 200 ≤ measured.natAbs)
  | 4 => decide (((measured - second).natAbs : Int) ≤ lim)
  | 5 => decide (measured ≤ lim)
  | 2 => signal && decide (lim ≤ measured)
  | _ => decide (lim ≤ measured)
/-- Intrusive loopback outside ANALOG_LOOPBACK: at bring-up, in Factory and Return (R402). -/
def State.intrusive (s : State) : Bool := s.pkg.lifecycle == 1 || s.pkg.lifecycle == 3 || !s.pkg.ready
/-- ANALOG_BIST_SLICE (R402, R403): a global stop ends a slice unrecorded (Table 12.8). -/
def execAnalogBistSlice (die item index : Nat) (measured second : Int) (signal : Bool) (s : State) : Host.Outcome State Fault Refusal :=
  guardId (isDie die && decide (item ≤ 5))
    (if (s.die die).inReset || s.dbg.gstop.isSome || (item = 5 && !s.intrusive) then s
     else
      let pass := s.bistPasses die item index measured second signal
      let s := if item = 3 then s.modCal die fun c => { c with vrefOk := pass, vmons := c.vmons.map fun e => (e.1, { e.2 with unverified := !pass }) }
        else s
      if pass then s else s.bistFail die item index measured (s.bistLimit die item index measured))
/-- The link or engine of a lane is used by a launched context: for a compute die, one with a core on it (log 16). -/
def State.laneUsed (s : State) (lane : Nat) : Bool :=
  s.sh.ctxs.any fun e => e.2.state == 2 && (!isCompute (lane / 512) || (s.ctxDies e.1).contains (lane / 512))
/-- ANALOG_LOOPBACK (R402): bits and errors are what the loopback measures. -/
def execAnalogLoopback (rq : Req) (lane bits errors : Nat) (s : State) : Host.Outcome State Fault Refusal :=
  .next (s.command (.analogLoopback rq lane bits errors) rq { code := 0x0A02, least := .operator, kind := .other } [] (isDie (lane / 512)) fun s =>
    if s.laneUsed lane then s.finish rq 0x0A02 stBusy [] []
    else if (s.die (lane / 512)).inReset then s.finish rq 0x0A02 stNotReady [] []
    else s.askAgent rq (lane / 512) 0x0A02 [lane] fun s =>
      let s := if errors = 0 then s else s.bistFail (lane / 512) 5 lane errors 0
      s.finish rq 0x0A02 stOk [] [(64, bits), (64, errors)])

/-! ## Calender's commands -/

/-- Range and default of a user calibration field (Table 12.2), by field and scope: low, high, default. -/
def calRange (field scope : Nat) : Int × Int × Int :=
  match field with
  | 0 => (-64, 64, 0)
  | 1 => if scope = 2 then (60, 85, 80) else (70, 105, 100)
  | 2 => (-10, 20, if scope = 2 then 5 else 0)
  | 3 => (5, 30, 10)
  | 4 => (20, 60, 40)
  | _ => (850, 1000, 900)
/-- A field and its scope that exist (Table 13.6). -/
def calScopeOk (field scope : Nat) : Bool :=
  match field with
  | 0 => isDie (scope / 16) && decide (scope % 16 < sensorCount (scope / 16))
  | 1 => decide (scope ≤ 2)
  | 2 => decide (scope ≤ 2)
  | f => decide (f ≤ 5) && scope == 0
/-- CAL_SET (R387, R404, R420). -/
def execCalSet (rq : Req) (field scope : Nat) (value : Int) (s : State) : Host.Outcome State Fault Refusal :=
  .next (s.command (.calSet rq field scope value) rq { code := 0x0A00, least := .operator, kind := .other } [] (calScopeOk field scope) fun s =>
    let r := calRange field scope
    let u := if value = 0 then r.2.2 else max r.1 (min r.2.1 value)
    let clamped := decide (value ≠ 0) && decide (u ≠ value)
    let s := s.modPkg fun g =>
      match field with
      | 0 => { g with userOffset := tset 0 g.userOffset scope u }
      | 1 => { g with high := tset 0 g.high scope (u - r.2.2) }
      | 2 => { g with low := tset 0 g.low scope (u - r.2.2) }
      | 3 => { g with screenMargin := u.toNat }
      | 4 => { g with vmonTol := u.toNat }
      | _ => { g with paceMin := u.toNat }
    let s := s.mramWrite.record 0x0C02 0 (dieSource s.actDie 0) (b2n clamped) (if clamped then field + 5 else 0) (privCode rq.priv)
    s.finish rq 0x0A00 stOk (if clamped then [{ field := 2, width := 32, asked := twos 64 value, used := twos 64 u }] else []) [])
/-- SENSOR_SUBST (R394, R404). -/
def execSensorSubst (rq : Req) (die sensor : Nat) (s : State) : Host.Outcome State Fault Refusal :=
  .next (s.command (.sensorSubst rq die sensor) rq { code := 0x0A01, least := .operator, kind := .other } [] (isDie die &&
    decide (sensor < sensorCount die)) fun s =>
    if !(s.sensor die sensor).failed then s.finish rq 0x0A01 stDenied [] []
    else
      let t := s.substReading die sensor
      let s := s.modSensor die sensor fun x => { x with subst := true, temp := t }
      (s.record 0x0C01 0 (dieSource die 21) sensor (twos 12 t) (privCode rq.priv)).finish rq 0x0A01 stOk [] [])
/-- The flags of a die's sensors that `p` picks, as a bitmap. -/
def State.sensorBits (s : State) (d : Nat) (p : Sensor → Bool) : Nat :=
  (((List.range 16).filter fun n => p (s.sensor d n)).map (2 ^ ·)).foldl (· + ·) 0
/-- SENSOR_READ (R421). -/
def execSensorRead (rq : Req) (die : Nat) (s : State) : Host.Outcome State Fault Refusal :=
  .next (s.command (.sensorRead rq die) rq { code := 0x0A03, least := .operator, kind := .read, rom := true } [] (isDie die) fun s =>
    if (s.die die).inReset then s.finish rq 0x0A03 stNotReady [] []
    else s.askAgent rq die 0x0A03 [] fun s => s.finish rq 0x0A03 stOk []
      (((List.range 16).map fun n => (16, twos 16 (s.sensor die n).temp)) ++
       ((List.range 4).map fun m => (16, (tget {} (s.die die).cal.vmons m).volt)) ++
       ((List.range 4).map fun m => (16, (tget {} (s.die die).cal.paces m).pace)) ++
       [(32, s.sensorBits die (·.subst) * 65536 + s.sensorBits die (·.failed))]))

end Sys2Proof.Machine
end

