-- ==== Sys2Proof/Machine/Keys.lean ====
section
/-! DEFINITION. Life-cycle states, keys and licences (R424, R428-R433). -/

namespace Sys2Proof.Machine

/-- DIE_REGION of the acting Vat's hub (R433). -/
def State.hubRegion (s : State) : Nat := dieSource s.actDie 0
/-- A snapshot runs on the package. -/
def State.snapshotRuns (s : State) : Bool := s.sh.ctxs.any fun e => e.2.snap.isSome
/-- A distribution runs. -/
def State.distRuns (s : State) : Bool := s.sh.dists.any fun e => e.2.isSome
/-- A change of life-cycle state that Table 13.4 allows a Vendor. -/
def lifecycleOk (old new returns : Nat) : Bool :=
  (old, new) == (0, 1) || (old, new) == (1, 2) || (old, new) == (3, 2) || ((old, new) == (2, 3) && decide (returns < 15)) ||
  (old, new) == (1, 4) || (old, new) == (2, 4) || (old, new) == (3, 4)
/-- LIFECYCLE_SET (R428, R433, R434, Table 13.4): the reply, LIFECYCLE, then a package reset that is not counted. -/
def execLifecycleSet (rq : Req) (state : Nat) (s : State) : Host.Outcome State Fault Refusal :=
  .next (s.command (.lifecycleSet rq state) rq { code := 0x0B00, least := .operator, kind := .setup, signed := true,
                                                 params := [(8, state)] } [] (decide (state ≤ 4)) fun s =>
    let old := s.pkg.lifecycle
    if rq.priv ≠ .vendor && (old, state) != (2, 4) then s.refuse rq 0x0B00 stDenied 4
    else if !lifecycleOk old state s.pkg.returns then s.refuse rq 0x0B00 stDenied 6
    else if s.distRuns || s.snapshotRuns || s.pkg.fwWriting.isSome then s.finish rq 0x0B00 stBusy [] []
    else
      let n := if old = 2 && state = 3 then s.pkg.returns + 1 else s.pkg.returns
      let s := s.modPkg fun g =>
        { g with lifecycle := state, returns := n, keys := if state = 4 then [] else g.keys
                 licence := if state = 4 then none else g.licence, licenceNext := if state = 4 then none else g.licenceNext }
      let s := s.record 0x0D00 2 s.hubRegion (old * 2 ^ 20 + state * 2 ^ 16 + min 15 n) (privCode rq.priv) 0
      (s.finish rq 0x0B00 stOk [] []).packageReset s.hubRegion false)
/-- The keys of a class. -/
def State.keysOf (s : State) (cls : Nat) : List Key := s.pkg.keys.filter fun k => k.cls == cls
/-- KEY_ENROLL (R424): the context count of a Tenant key is clamped to 1 to 4,096 less its base. -/
def execKeyEnroll (rq : Req) (cls keyId base count x y : Nat) (s : State) : Host.Outcome State Fault Refusal :=
  .next (s.command (.keyEnroll rq cls keyId base count x y) rq { code := 0x0B01, least := .operator, kind := .setup, signed := true,
                                                                 params := [(8, cls), (32, keyId), (16, base), (16, count), (384, x), (384, y)] }
      [] ((cls == 1 || cls == 2) && decide (base < 4096)) fun s =>
    let rest := s.pkg.keys.filter fun k => !(k.cls == cls && k.id == keyId)
    let c := clampTo 3 16 1 (4096 - base) count
    if (if cls = 1 then 8 else 64) ≤ (rest.filter fun k => k.cls == cls).length then s.finish rq 0x0B01 stBusy [] []
    else
      let s := s.modPkg fun g => { g with keys := rest ++ [{ cls := cls, id := keyId, base := base, count := c.1, x := x, y := y }] }
      s.finish rq 0x0B01 stOk c.2 [])
/-- KEY_REVOKE (R424): the key leaves the store and every session opened with it closes. -/
def execKeyRevoke (rq : Req) (cls keyId : Nat) (s : State) : Host.Outcome State Fault Refusal :=
  .next (s.command (.keyRevoke rq cls keyId) rq { code := 0x0B02, least := .operator, kind := .other, signed := true, params := [(8, cls), (32, keyId)] } []
      (cls == 1 || cls == 2) fun s =>
    if !(s.pkg.keys.any fun k => k.cls == cls && k.id == keyId) then s.finish rq 0x0B02 stNotReady [] []
    else
      let p : Priv := if cls = 1 then .operator else .tenant
      let s := s.modPkg fun g => { g with keys := g.keys.filter fun k => !(k.cls == cls && k.id == keyId) }
      let s := (s.modSh fun h => { h with sessions := h.sessions.filter fun e =>
        !(match e.2 with | some x => x.priv == p && x.keyId == keyId | none => true) }).mirror
      s.finish rq 0x0B02 stOk [] [])
/-- The number of bits set in a number of 96 bits. -/
def ones (m : Nat) : Nat := ((List.range 96).filter fun d => bit m d).length
/-- The licence that 256 bytes hold (Table 13.5). -/
def licenceOf (l : List Nat) : Licence :=
  let f := fun o n => leNum ((l.drop o).take n)
  { magic := f 0 4, format := f 4 2, step := f 6 2, keyId := f 8 4, serial := f 12 4, uid := f 16 16, dieMask := f 32 12, features := f 44 1,
    zeros := f 45 115 == 0, sigR := beNum ((l.drop 160).take 48), sigS := beNum ((l.drop 208).take 48) }
/-- The bytes of a number in reverse order: a big-endian field of `n` bytes. -/
def bigEndian : Nat → Nat → Nat
  | 0, _ => 0
  | n + 1, v => v % 256 * 256 ^ n + bigEndian n (v / 256)
/-- A licence as 256 bytes, byte 0 lowest (Table 13.5). -/
def licenceNum (l : Licence) : Nat :=
  packFields [(32, l.magic), (16, l.format), (16, l.step), (32, l.keyId), (32, l.serial), (128, l.uid), (96, l.dieMask), (8, l.features), (920, 0),
    (384, bigEndian 48 l.sigR), (384, bigEndian 48 l.sigS)]
/-- The first failing check of R430, orders 1 to 6. -/
def State.licenceFault (s : State) (l : Licence) : Option Nat :=
  if l.magic ≠ 0x4E43494C || l.format ≠ 1 || !l.zeros || 4 ≤ l.features then some 1
  else if l.step ≠ Config.siliconStep then some 2
  else if l.uid ≠ s.pkg.uid then some 3
  else if !s.pkg.vendorKeys.contains l.keyId then some 4
  else if !s.verifies .vendor l.keyId (numBytes 160 (licenceNum l)) l.sigR l.sigS then some 5
  else if ones l.dieMask ≠ 48 && ones l.dieMask ≠ 72 && ones l.dieMask ≠ 96 then some 6
  else none
/-- SERIAL is greater than that of the licence in force and of any awaiting reset (R430 order 7). -/
def State.licenceNewer (s : State) (l : Licence) : Bool :=
  (match s.pkg.licence with | some k => decide (k.serial < l.serial) | none => true) &&
  (match s.pkg.licenceNext with | some k => decide (k.serial < l.serial) | none => true)
/-- LICENCE_INSTALL (R430, R433): an accepted licence awaits the next package reset. -/
def execLicenceInstall (rq : Req) (raw : List Byte) (s : State) : Host.Outcome State Fault Refusal :=
  .next (s.command (.licenceInstall rq raw) rq { code := 0x0B03, least := .operator, kind := .setup } [] (decide (raw.length = 256)) fun s =>
    let l := licenceOf (raw.map (·.toNat))
    match (match s.licenceFault l with | some r => some r | none => if s.licenceNewer l then none else some 7) with
    | some r => (s.record 0x0D01 2 s.hubRegion r (l.serial % 2 ^ 24) 0).refuse rq 0x0B03 stDenied r
    | none => (s.modPkg fun g => { g with licenceNext := some l }).finish rq 0x0B03 stOk [] [])
/-- LICENCE_READ (R421). -/
def execLicenceRead (rq : Req) (s : State) : Host.Outcome State Fault Refusal :=
  .next (s.command (.licenceRead rq) rq { code := 0x0B04, least := .operator, kind := .read } [] true fun s =>
    s.finish rq 0x0B04 stOk [] [(2048, match s.pkg.licence with | some l => licenceNum l | none => 0),
      (2048, match s.pkg.licenceNext with | some l => licenceNum l | none => 0)])

end Sys2Proof.Machine
end

