-- ==== Sys2Proof/Machine/Units.lean ====
section
/-! DEFINITION. Release units as shared operations: residues, check descriptors, digests, the release gate, ticket closes, press boundaries,
detections and contract breaches (R93-R134, R140-R174). -/

namespace Sys2Proof.Machine

/-! ## Residues (R103, R104) -/

/-- The residue of an integer, 0 to p - 1 (R103). Of a 128-bit accumulator it is res128 (R104). -/
def res (v : Int) : Nat := (v % (p61 : Int)).toNat
/-- A residue times 2^e (R104). -/
def mulpow2 (r : Nat) (e : Int) : Nat := r * 2 ^ (e % 61).toNat % p61
/-- The terms of a digest of R116 from ordinal `q` on: each residue shifted by its ordinal. -/
def ordSum (q : Nat) (l : List Nat) : Nat := l.zipIdx.foldl (fun a e => (a + mulpow2 e.1 (q + e.2)) % p61) 0
/-- A digest of R116 so far and its next ordinal, with further terms. -/
def ordFold (x : Nat × Nat) (l : List Nat) : Nat × Nat := ((x.1 + ordSum x.2 l) % p61, x.2 + l.length)
/-- A 64-bit value as two payload words, low word first. -/
def w64 (v : Nat) : List Nat := [v % 2 ^ 32, v / 2 ^ 32 % 2 ^ 32]
/-- The sum of a list of integers. -/
def sumInt (l : List Int) : Int := l.foldl (· + ·) 0

/-! ## Check descriptors (Table 3.2) -/

/-- A descriptor word. -/
def descWord (d : List Nat) (i : Nat) : Nat := d.getD i 0
/-- LAYER. -/
def descLayer (d : List Nat) : Nat := bits (descWord d 0) 16 16
/-- OPER. -/
def descOper (d : List Nat) : Nat := bits (descWord d 0) 0 16
/-- LEVEL: 0 Sizing, 1 Laid, 2 Duplex. -/
def descLevel (d : List Nat) : Nat := bits (descWord d 1) 30 2
/-- KIND. -/
def descKind (d : List Nat) : Nat := bits (descWord d 1) 28 2
/-- FMT_X. -/
def descFmtX (d : List Nat) : Nat := bits (descWord d 1) 22 2
/-- FMT_OUT. -/
def descFmtOut (d : List Nat) : Nat := bits (descWord d 1) 18 2
/-- GATE. -/
def descGate (d : List Nat) : Bool := bit (descWord d 1) 17
/-- LATENCY in steps. -/
def descLatency (d : List Nat) : Nat := bits (descWord d 1) 0 16
/-- EMIN, signed. -/
def descEmin (d : List Nat) : Int := let v := bits (descWord d 2) 22 10; if v < 512 then v else (v : Int) - 1024
/-- CSV_LEN. -/
def descCsvLen (d : List Nat) : Nat := bits (descWord d 4) 16 16
/-- ROWS. -/
def descRows (d : List Nat) : Nat := bits (descWord d 4) 0 16
/-- ANCHOR_LC. -/
def descAnchor (d : List Nat) : Nat := bits (descWord d 5) 16 14
/-- GRP_N. -/
def descGrpN (d : List Nat) : Nat := bits (descWord d 5) 8 8
/-- DUP_LC. -/
def descDupLc (d : List Nat) : Nat := bits (descWord d 6) 18 14
/-- GATE_LC. -/
def descGateLc (d : List Nat) : Nat := bits (descWord d 6) 4 14
/-- The bits of an element of a format: 0 B4, 1 B6, 2 B8. -/
def fmtBits (f : Nat) : Nat := 4 + 2 * f
/-- The Laid checksum runs: LEVEL Laid and an accumulating operator (R93, R94). -/
def descLaid (d : List Nat) : Bool := descLevel d == 1 && decide (descKind d < 3)
/-- The operator belongs to a Laid group; an expert block never does (R96). -/
def descGroup (d : List Nat) : Bool := descLevel d == 1 && descKind d != 2 && bit (descWord d 5) 31
/-- This logical core is the group's anchor. -/
def descIsAnchor (d : List Nat) : Bool := bit (descWord d 5) 30
/-- The key of an operator: layer * 65,536 + operator. -/
def operKey (layer oper : Nat) : Nat := layer * 65536 + oper
/-- A plan entry executes an operator. -/
def planRuns (e : PlanLc) (layer oper : Nat) : Bool := e.descs.any fun d => descLayer d == layer && descOper d == oper
/-- The logical cores of a context that execute an operator. -/
def State.opLcs (s : State) (c layer oper : Nat) : List Nat :=
  match (s.ctx c).plan with | some p => (p.lcs.filter fun e => planRuns e layer oper).map (·.lc) | none => []
/-- The members of a Laid group, the anchor included. -/
def State.groupLcs (s : State) (c anchor layer oper : Nat) : List Nat :=
  match (s.ctx c).plan with
  | some p => (p.lcs.filter fun e =>
      e.descs.any fun d => descGroup d && descAnchor d == anchor && descLayer d == layer && descOper d == oper).map (·.lc)
  | none => []
/-- The die that carries a logical core, its home die when it is not placed. -/
def State.lcDie (s : State) (n : Nat) : Nat := match s.carrier n with | some p => coreDie p | none => s.homeDie n
/-- The logical cores whose results a unit's check compares: a Duplex partner, a gate partner, the members of a Laid group. -/
def State.checkPeers (s : State) (c : Nat) (d : List Nat) : List Nat :=
  (if descLevel d = 2 then [descDupLc d] else []) ++ (if descGate d then [descGateLc d] else []) ++
    (if descGroup d then descAnchor d :: s.groupLcs c (descAnchor d) (descLayer d) (descOper d) else [])
/-- The least LATENCY of Table 3.7, with dies taken from the home slots (log 25). -/
def State.leastLatency (s : State) (c n : Nat) (d : List Nat) : Nat :=
  let peers := s.checkPeers c d
  if peers.any fun m => s.homeDie m != s.homeDie n then 5400
  else if !peers.isEmpty then 360
  else if descLaid d then (if descFmtX d = 2 then 32 else if descFmtX d = 1 then 36 else 40)
  else 6
/-- A descriptor is valid (R96). -/
def State.descOk (s : State) (c n : Nat) (d : List Nat) : Bool :=
  let w := descWord d
  let k := bits (w 1) 24 4
  descLevel d != 3 && (if descKind d = 1 then 0 < k else k = 0) && descFmtX d != 3 && bits (w 1) 20 2 != 3 && descFmtOut d != 3 && !bit (w 1) 16 &&
    bits (w 2) 0 14 == 0 && (descKind d == 2 || bits (w 2) 14 8 == 0) && 0 < descRows d &&
    (descKind d == 2 || bits (w 5) 0 8 == 0) && bits (w 6) 0 4 == 0 && bits (w 7) 0 3 == 0 &&
    decide (s.leastLatency c n d ≤ descLatency d) && 0 < descLatency d && (descLevel d != 2 || s.pkg.duplex) &&
    (!descLaid d || (w 3 % 8 == 0 && 0 < descCsvLen d && decide (w 3 + 16 + 8 * descCsvLen d ≤ s.pkg.spad))) &&
    (!descGroup d || (decide (descAnchor d < 13824) && decide (2 ≤ descGrpN d) && decide (descGrpN d ≤ 64))) &&
    (descKind d != 2 || (w 5 % 16 == 0 && decide (w 5 + 16 ≤ s.pkg.spad))) &&
    (descLevel d != 2 || (decide (descDupLc d < 13824) && descDupLc d != n)) && (!descGate d || (decide (descGateLc d < 13824) && descGateLc d != n))
/-- The check descriptor of a ticket's unit. -/
def State.unitDesc (s : State) (t : Nat) : List Nat :=
  ((s.planLc (s.ticket t).ctx (s.ticket t).lc).bind fun e => e.descs[(s.ticket t).descIdx]?).getD []
/-- The parts of a unit's checks (Table 3.1): 1 rounded groups, 2 Laid, 4 tally, 8 pair or group verdict, 16 gate verdict, 32 speculation decided. -/
def unitNeeds (d : List Nat) (spec : Bool) : Nat :=
  1 + (if descLaid d then 2 else 0) + (if descKind d = 2 then 4 else 0) +
    (if descLevel d = 2 || descGroup d then 8 else 0) + (if descGate d then 16 else 0) + (if spec then 32 else 0)

/-! ## Elements (R135-R138) -/

/-- The power of a residue, by the bits of the exponent; `k` bounds them. -/
def powMod : Nat → Nat → Nat → Nat
  | 0, _, _ => 1
  | k + 1, b, e => (if e % 2 = 1 then b else 1) * powMod k (b * b % p61) (e / 2) % p61
/-- The key of a lane for a tensor: res(s * (T + 1)) (R137). -/
def tensorKey (seed tensor : Nat) : Nat := seed * (tensor + 1) % p61
/-- The index hash of an element: k ^ (i + 1) mod p (R138). -/
def indexHash (key i : Nat) : Nat := powMod 41 key (i + 1)
/-- The value of an element of a blocked-format tensor (Table 4.1). -/
def blockedValue (fmt expo mant : Nat) : Nat := (fmt * 2 ^ 16 + expo % 256 * 2 ^ 8 + mant % 256) % p61
/-- The value of an element of an accumulating operator's output (Table 4.1). -/
def accValue (acc : Int) (emin : Int) : Nat := mulpow2 (res acc) emin
/-- The digest of a set of elements, each a value and a logical index, under the two keys of its tensor (R138). -/
def digestOf (k0 k1 : Nat) (l : List (Nat × Nat)) : Nat × Nat :=
  (l.foldl (fun a e => (a + e.1 * indexHash k0 e.2) % p61) 0, l.foldl (fun a e => (a + e.1 * indexHash k1 e.2) % p61) 0)
/-- The value of an element of a tensor of a kind (Table 4.1), from its group's exponent, its mantissa, and its accumulator or raw word. -/
def elemValue (kind : Nat) (d : List Nat) (expo : Nat) (mant acc : Int) : Nat :=
  if kind = 0 then accValue acc (descEmin d)
  else if kind = 1 then blockedValue (descFmtOut d) expo (twos (fmtBits (descFmtOut d)) mant)
  else res acc
/-- The logical index of a group's element: the row term is the token's for an expert block (R136). -/
def elemIndex (m : IndexMap) (d : List Nat) (x : GroupAt) (i : Nat) : Nat :=
  (m.base + (if descKind d = 2 then x.tau else x.row) * m.row + (x.col + i) * m.col) % 2 ^ 40
/-- The index map of a ticket's unit: its descriptor's maps in turn, by the release sequence number (R136, log 99). -/
def State.unitMap (s : State) (t : Nat) : Option IndexMap :=
  let k := s.ticket t
  match s.planLc k.ctx k.lc with
  | some e => (e.maps.getD k.descIdx [])[k.rseq % (e.maps.getD k.descIdx []).length]?
  | none => none
/-- The element total that the plan gives for the tensor of an operator, and its tensor (R140). -/
def State.opTensor (s : State) (c layer oper : Nat) : Option PlanTensor :=
  match (s.ctx c).plan with | some p => p.tensors.find? fun x => x.layer == layer && x.oper == oper | none => none
/-- A rounded group's part of its unit's digests: the watermark contribution, when this logical core completes the reduction (R136, R138, R142), and
    under Duplex DA, of an operator that accumulates (R116). -/
def State.foldGroup (s : State) (t expo : Nat) (mants accs : List Int) (x : GroupAt) : State :=
  let k := s.ticket t
  let d := s.unitDesc t
  let s := if descLevel d = 2 && descKind d ≠ 3 then s.modTicket t fun k => { k with da := ordFold k.da (accs.map res) } else s
  match s.opTensor k.ctx k.layer k.oper, s.unitMap t with
  | some y, some m =>
    if !m.completes then s
    else
      let l := mants.zipIdx.map fun e => (elemValue y.kind d expo e.1 (accs.getD e.2 0), elemIndex m d x e.2)
      let g := digestOf (tensorKey (s.ctx k.ctx).s0 y.id) (tensorKey (s.ctx k.ctx).s1 y.id) l
      s.modTicket t fun k => { k with mark := ((k.mark.1 + g.1) % p61, (k.mark.2.1 + g.2) % p61, k.mark.2.2 + l.length) }
  | _, _ => s

/-! ## Digest records (R139-R143) -/

/-- Two records of one TENSOR and PASS combine; PARTIAL stays set unless the count equals the total (R140). -/
def combineRec (total : Nat) (a b : DigestRec) : DigestRec :=
  { tensor := a.tensor, pass := a.pass, count := (a.count + b.count) % 2 ^ 48,
    flags := ((a.flags ||| b.flags) &&& 13) + (if (a.count + b.count) % 2 ^ 48 = total then 0 else 2),
    d0 := (a.d0 + b.d0) % p61, d1 := (a.d1 + b.d1) % p61 }
/-- The payload words of a record on FC1 (Table 4.2). -/
def recWords (r : DigestRec) : List Nat := [r.tensor, r.pass, r.count % 2 ^ 32, r.count / 2 ^ 32 % 2 ^ 16 + r.flags * 2 ^ 16] ++ w64 r.d0 ++ w64 r.d1
/-- The record of an operator's tensor before anything is folded. -/
def State.emptyRec (s : State) (c layer oper pass : Nat) : DigestRec :=
  { tensor := match s.opTensor c layer oper with | some x => x.id | none => 0, pass := pass, count := 0, flags := 2, d0 := 0, d1 := 0 }
/-- The element total of an operator's tensor. -/
def State.opTotal (s : State) (c layer oper : Nat) : Nat := match s.opTensor c layer oper with | some x => x.total | none => 0
/-- The open partial of an operator's execution in a list, or a new one (R142). -/
def State.partialOf (s : State) (c layer oper pass : Nat) (l : List WmSet) : WmSet :=
  match l.find? fun w => w.layer == layer && w.oper == oper && w.digest.pass == pass with
  | some w => w
  | none => { layer := layer, oper := oper, digest := s.emptyRec c layer oper pass, opened := true }
/-- A list of partials without that of an operator's execution. -/
def dropPartial (layer oper pass : Nat) (l : List WmSet) : List WmSet :=
  l.filter fun x => x.layer != layer || x.oper != oper || x.digest.pass != pass
/-- The unit of a ticket changes its operator's partial, and the one saved at each press point that the unit was opened before (R142). -/
def State.foldPartial (s : State) (t : Nat) (f : DigestRec → DigestRec) : State :=
  let k := s.ticket t
  let g := fun l : List WmSet =>
    let w := s.partialOf k.ctx k.layer k.oper k.pass l
    dropPartial k.layer k.oper k.pass l ++ [{ w with digest := f w.digest }]
  s.modLc k.lc fun l =>
    { l with partials := g l.partials
             points := l.points.map fun p => if p.wait.contains t then { p with partials := g p.partials } else p }
/-- A record's count above its total counts WM_RECORD (R140): at the active Vat, or at the die that combined it. -/
def State.checkTotal (s : State) (die : Option Nat) (total : Nat) (r : DigestRec) (d : Detail) : State :=
  if total < r.count then (match die with | some x => s.agentCount x (pkgSource 2) d | none => s.vatCount (pkgSource 2) d) else s
/-- A unit that closed as passed is folded into its logical core's operator partial (R142). -/
def State.foldUnit (s : State) (t : Nat) (replayed : Bool) : State :=
  let k := s.ticket t
  let total := s.opTotal k.ctx k.layer k.oper
  let f := fun w : DigestRec => combineRec total w
    { tensor := w.tensor, pass := w.pass, count := k.mark.2.2, flags := if replayed then 8 else 0, d0 := k.mark.1, d1 := k.mark.2.1 }
  let s := s.foldPartial t f
  match s.carrier k.lc with
  | some p => s.checkTotal (some (coreDie p)) total (s.partialOf k.ctx k.layer k.oper k.pass (s.lc k.lc).partials).digest { ctx := k.ctx, p2 := k.layer, p3 := k.oper }
  | none => s
/-- A unit that closed as poisoned sets POISONED in the operator partial (R142). In CARRY mode, poisoned data for a replica-state tensor faults the
    context (R246). -/
def State.foldPoison (s : State) (t : Nat) : State :=
  let k := s.ticket t
  let s := s.foldPartial t fun w => { w with flags := w.flags ||| 1 }
  if (s.ctx k.ctx).poisonMode = 1 && (s.ctx k.ctx).state ≠ 3 && (s.opTensor k.ctx k.layer k.oper).any (·.replica) then
    s.agentCount (s.lcDie k.lc) (ctxSource k.ctx 0) { ctx := k.ctx, p2 := k.layer, p3 := k.oper }
  else s

/-! ## The profile table (R453) -/

/-- The four totals of an execution as one entry. -/
def profSum (a b : ProfEntry) : ProfEntry :=
  { a with execs := satAdd 32 a.execs b.execs, busy := satAdd 64 a.busy b.busy, idle := satAdd 64 a.idle b.idle, hold := satAdd 64 a.hold b.hold,
           stall := List.zipWith (· + ·) a.stall b.stall }
/-- Adds an execution's totals into the die's profile table; a new key of a full table goes to the overflow entry. -/
def State.profAdd (s : State) (d : Nat) (e : ProfEntry) : State :=
  s.modDie d fun k =>
    if k.prof.any fun x => x.tag == e.tag && x.layer == e.layer && x.oper == e.oper then
      { k with prof := k.prof.map fun x => if x.tag == e.tag && x.layer == e.layer && x.oper == e.oper then profSum x e else x }
    else if k.prof.length < 512 then { k with prof := k.prof ++ [e] }
    else
      let o := k.profOver.getD { tag := 0, layer := 0xFFFF, oper := 0xFFFF, execs := 0, busy := 0, idle := 0, hold := 0, stall := List.replicate 10 0 }
      { k with profOver := some (profSum o e), profLost := k.profLost + 1 }
/-- The totals of a core since its logical core's current operator began. -/
def State.profNow (s : State) (p n layer oper execs : Nat) : ProfEntry :=
  let l := s.lc n
  let c := s.core p
  { tag := l.tag.getD 0, layer := layer, oper := oper, execs := execs, busy := c.busy - l.prof.1, idle := c.idle - l.prof.2.1,
    hold := s.holdTime p - l.prof.2.2, stall := (List.range 10).map fun i => s.stallTime p (i + 1) - tget 0 l.profStall (i + 1) }
/-- The totals from which the next execution on the core counts. -/
def State.profStart (s : State) (p n : Nat) : State :=
  s.modLc n fun l => { l with prof := ((s.core p).busy, (s.core p).idle, s.holdTime p)
                              profStall := tput 0 [] 1 ((List.range 10).map fun i => s.stallTime p (i + 1)) }
/-- A part of an execution's totals goes to the profile table of the carrier's die, and the next part starts. -/
def State.profFlush (s : State) (p n layer oper execs : Nat) : State := (s.profAdd (coreDie p) (s.profNow p n layer oper execs)).profStart p n

/-! ## Operators that end (R143, R144, R148, R306) -/

/-- The element total of a context's replica-state tensors. -/
def State.replicaTotal (s : State) (c : Nat) : Nat :=
  match (s.ctx c).plan with | some p => ((p.tensors.filter (·.replica)).map (·.total)).foldl (· + ·) 0 | none => 0
/-- The dies that hold a part of a context's replica state: those of the logical cores that write its replica-state tensors (R148, R149). -/
def State.replicaDies (s : State) (c : Nat) : List Nat :=
  match (s.ctx c).plan with
  | some p => ((p.tensors.filter (·.replica)).flatMap fun x => (s.opLcs c x.layer x.oper).map s.lcDie).foldl (fun l d => insertNat d l) []
  | none => []
/-- Updates a context's replica configuration. -/
def State.modReplica (s : State) (c : Nat) (f : Replica → Replica) : State := s.modCtx c fun x => { x with replica := x.replica.map f }
/-- The combination of records into one of a tensor and a pass (R140). -/
def combineAll (total tensor pass : Nat) (l : List DigestRec) : DigestRec :=
  l.foldl (combineRec total) { tensor := tensor, pass := pass, count := 0, flags := if total = 0 then 0 else 2, d0 := 0, d1 := 0 }
/-- The combination of records into a replica record of an index and iteration (R149). -/
def replicaRec (total index iter : Nat) (l : List DigestRec) : DigestRec := combineAll total (0xFFFE0000 + index) iter l
/-- The shard records of a context's replica-state tensors that a die holds. -/
def State.replParts (s : State) (c d : Nat) : List (Nat × Nat × DigestRec) := tget [] (s.die d).repl c
/-- A logical core's shard record of a replica-state operator enters its die's replica partial, in place of an earlier one of the same operator (R149). -/
def State.addRepl (s : State) (c n key : Nat) (r : DigestRec) : State :=
  s.modDie (s.lcDie n) fun k => { k with repl := tset [] k.repl c (((tget [] k.repl c).filter fun x => x.1 != n || x.2.1 != key) ++ [(n, key, r)]) }
/-- The dies drop their replica partials of a context. -/
def State.dropRepl (s : State) (c : Nat) : State :=
  each ((List.range 96).filter fun d => !(s.replParts c d).isEmpty) (fun s d => s.modDie d fun k => { k with repl := tset [] k.repl c [] }) s
/-- A die sends its replica partial of an iteration to the Vat (Table 4.5 step 1). -/
def State.sendPart (s : State) (c iter index d : Nat) : State :=
  let r := replicaRec (s.replicaTotal c) index iter ((s.replParts c d).map (·.2.2))
  (s.checkTotal (some d) (s.replicaTotal c) r { ctx := c, p2 := 0, p3 := 0 }).toVat d 0x44 (c :: recWords r)
/-- The partials of every die that sent one have come: the package's replica record goes into the collective's digest slot (Table 4.5 step 2). -/
def State.formReplica (s : State) (c : Nat) : State :=
  match (s.ctx c).replica with
  | none => s
  | some o => match o.pending with
    | none => s
    | some i =>
      if o.inPass.isSome || !(o.dies.all fun d => o.parts.any fun e => e.1 == d) then s
      else
        let m := replicaRec (s.replicaTotal c) o.index i (o.parts.map (·.2))
        let s := s.checkTotal none (s.replicaTotal c) m { ctx := c, p2 := 0, p3 := 0 }
        ((s.modReplica c fun o => { o with inPass := some m }).mirror).emit (.digestSlot c m)
/-- A replica comparison of an iteration begins: each die that holds a part of the replica state sends its partial (R150). -/
def State.beginCompare (s : State) (c iter : Nat) : State :=
  let dies := (List.range 96).filter fun d => !(s.replParts c d).isEmpty
  let s := s.modReplica c fun o =>
    { o with pending := some iter, dies := dies, parts := [], inPass := none, reread := none, slot := none, aborted := false, shards := [],
             located := false, runs := [], runFailed := false, otherFailing := none, exchange := none }
  let index := match (s.ctx c).replica with | some o => o.index | none => 0
  (each dies (fun s d => s.sendPart c iter index d) s).formReplica c
/-- The iteration counter increments; at a non-zero multiple of K a replica comparison begins (R148, R150). -/
def State.iterate (s : State) (c : Nat) : State :=
  let i := ((s.ctx c).iter + 1) % 2 ^ 32
  let s := (s.modCtx c fun x => { x with iter := i, point := 0, updOps := [] }).mirror
  match (s.ctx c).replica with
  | some r => if i % r.k = 0 && i ≠ 0 then s.beginCompare c i else s.dropRepl c
  | none => s.dropRepl c
/-- An operator is complete on the package: its draws advance their streams (R306), and the last update operator ends the iteration (R148). -/
def State.opComplete (s : State) (c layer oper pass : Nat) : State :=
  let key := operKey layer oper
  let s := s.modCtx c fun x =>
    { x with opDone := x.opDone.filter fun e => e.2 != pass * 2 ^ 32 + key
             opOut := tset 0 x.opOut key (max (tget 0 x.opOut key) (pass + 1))
             streams := match x.plan with
               | some p => each (p.drawOps.filter fun e => e.2.1 == layer && e.2.2.1 == oper) (fun t e => tset 0 t e.1 (tget 0 t e.1 + e.2.2.2)) x.streams
               | none => x.streams }
  match (s.ctx c).plan with
  | some p =>
    if p.updateOps.contains (layer, oper) then
      let s := s.modCtx c fun x => { x with updOps := insertNat key x.updOps }
      if p.updateOps.all fun e => (s.ctx c).updOps.contains (operKey e.1 e.2) then s.iterate c else s
    else s
  | none => s
/-- An operator's execution, as the operator and the pass. -/
def execKey (pass key : Nat) : Nat := pass * 2 ^ 32 + key
/-- The order of a die's next record of an execution among those it has sent. -/
def nextOrd (l : List SentPart) (x d : Nat) : Nat := ((l.filter fun e => e.exec == x && e.die == d).map fun e => e.ord + 1).foldl max 0
/-- A die record goes to the active Vat, which acknowledges it (R144, Table 4.8). -/
def State.sendWmOne (s : State) (d : Nat) (w : WmDie) : State :=
  let layer := w.key / 65536
  let oper := w.key % 65536
  let total := s.opTotal w.ctx layer oper
  let r := combineAll total ((w.parts.map (·.2.tensor)).headD 0) w.pass (w.parts.map (·.2))
  let s := s.modDie d fun k => { k with wm := k.wm.map fun y => if y = w then { w with sent := some r } else y }
  let s := if 2 ≤ w.parts.length then s.checkTotal (some d) total r { ctx := w.ctx, p2 := layer, p3 := oper } else s
  let s := s.modCtx w.ctx fun x =>
    { x with opSent := x.opSent ++ w.parts.map fun e => { lc := e.1, exec := execKey w.pass w.key, die := d,
                                                          ord := nextOrd x.opSent (execKey w.pass w.key) d } }
  s.toVat d 0x43 ([w.ctx, w.key] ++ recWords r)
/-- The die records of a context on a die for which every logical core of the operator there has contributed go to the active Vat (R144). -/
def State.sendWm (s : State) (c d : Nat) : State :=
  let full := fun w : WmDie => w.ctx == c && w.sent.isNone && (s.opLcs c (w.key / 65536) (w.key % 65536)).all fun m =>
    s.lcDie m != d || (s.ctx c).opDone.contains (m, execKey w.pass w.key)
  each ((s.die d).wm.filter full) (fun s w => s.sendWmOne d w) s
/-- A shard record enters its die's record of the operator and pass, in place of one that a rollback took back, unless it has left already (R144). A
    replica-state tensor's record also enters the die's replica partial (R149). -/
def State.dieShard (s : State) (c n layer oper : Nat) (r : DigestRec) : State :=
  let d := s.lcDie n
  let key := operKey layer oper
  let x := s.ctx c
  let mine := fun w : WmDie => w.ctx == c && w.key == key && w.pass == r.pass && w.sent.isNone
  let s :=
    if r.pass < tget 0 x.opLogged key || x.opSent.any fun e => e.lc == n && e.exec == execKey r.pass key then s
    else
      s.modDie d fun k =>
        match k.wm.find? mine with
        | some w => { k with wm := (k.wm.filter fun y => !mine y) ++ [{ w with parts := (w.parts.filter fun e => e.1 != n) ++ [(n, r)] }] }
        | none => { k with wm := k.wm ++ [{ ctx := c, key := key, pass := r.pass, parts := [(n, r)], sent := none }] }
  if (s.opTensor c layer oper).any (·.replica) then s.addRepl c n key r else s
/-- A rollback takes back what a logical core's operators that ended since its press boundary gave their dies, where it has not left (R142, R149). -/
def State.unshard (s : State) (c n : Nat) (passes : Table Nat) : State :=
  let out := (s.ctx c).opOut
  let undone := fun key pass : Nat => tget 0 passes key ≤ pass && tget 0 out key ≤ pass
  let s := s.modCtx c fun x => { x with opDone := x.opDone.filter fun e => e.1 != n || tget 0 passes (e.2 % 2 ^ 32) * 2 ^ 32 > e.2 }
  each (List.range 96) (fun s d =>
    if (s.die d).wm.isEmpty && (s.replParts c d).isEmpty then s
    else
      s.modDie d fun k =>
        { k with wm := (k.wm.map fun w => if w.ctx == c && w.sent.isNone && undone w.key w.pass then { w with parts := w.parts.filter fun e => e.1 != n }
                 else w).filter
                         fun w => !w.parts.isEmpty
                 repl := tset [] k.repl c ((tget [] k.repl c).filter fun e => e.1 != n || !undone e.2.1 e.2.2.pass) }) s
/-- An operator's execution ends on a logical core: its shard record goes into the shard ring and to its agent, its totals into the profile table
    (R143, R453); a press point passed since its last unit opened saves it as ended. An execution that a rollback repeats after it was complete on the
    package changes nothing there again. -/
def State.endOper (s : State) (c n layer oper pass : Nat) : State :=
  let key := operKey layer oper
  let w := s.partialOf c layer oper pass (s.lc n).partials
  let open_ := fun t : Nat => (s.ticket t).state != .free && operKey (s.ticket t).layer (s.ticket t).oper == key && (s.ticket t).pass == pass
  let s := s.modLc n fun l =>
    { l with shards := (w.digest :: l.shards).take 256, ringCores := ((s.carrier n).getD 0xFFFF :: l.ringCores).take 256
             ringNew := min 256 (l.ringNew + 1), lastShard := some { w with opened := false }, opLast := l.opLast.erase key
             partials := dropPartial layer oper pass l.partials, passes := tset 0 l.passes key (tget 0 l.passes key + 1)
             points := l.points.map fun p =>
               if p.opLast.contains key && !p.wait.any open_ then
                 { p with opLast := p.opLast.erase key, partials := dropPartial layer oper pass p.partials
                          passes := tset 0 p.passes key (tget 0 p.passes key + 1) }
               else p }
  let s := match s.carrier n with | some p => s.profFlush p n layer oper 1 | none => s
  if pass < tget 0 (s.ctx c).opOut key then s
  else
    let x := execKey pass key
    let s := s.modCtx c fun y => { y with opDone := if y.opDone.contains (n, x) then y.opDone else y.opDone ++ [(n, x)] }
    let s := (s.dieShard c n layer oper w.digest).sendWm c (s.lcDie n)
    if (s.opLcs c layer oper).all fun m => (s.ctx c).opDone.contains (m, x) then s.opComplete c layer oper pass else s
/-- The execution of a unit's operator ends when its last unit has been opened and none of its tickets is open. -/
def State.endIfLast (s : State) (k : Ticket) : State :=
  let l := s.lc k.lc
  let key := operKey k.layer k.oper
  if k.pass < tget 0 l.passes key + (l.opLast.filter (· == key)).length && !(lcTickets k.lc).any fun t =>
      (s.ticket t).state != .free && (s.ticket t).ctx == k.ctx && (s.ticket t).layer == k.layer && (s.ticket t).oper == k.oper &&
        (s.ticket t).pass == k.pass then
    s.endOper k.ctx k.lc k.layer k.oper k.pass
  else s

/-! ## Press boundaries (R163, R167) -/

/-- The delayed drains of a logical core's slots that `p` picks take place. -/
def drainSlots (p : Slot → Bool) (t : Table (Option Slot)) : Table (Option Slot) :=
  t.map fun e => (e.1, e.2.map fun x => if x.drainWait && p x then { x with state := 0, drainWait := false, readers := [] } else x)
/-- A ticket's unit lies ahead of its logical core's issue: a rollback has taken issue back to before it. -/
def State.ahead (s : State) (t : Nat) : Bool :=
  let k := s.ticket t
  decide ((k.rseq + 2 ^ 32 - tget 0 (s.lc k.lc).rseq (operKey k.layer k.oper)) % 2 ^ 32 < 2 ^ 31)
/-- Issue passes a press point: the tickets opened before it, which it waits for, and the state that a rollback to it restores (R113, R142, R163,
    R171). -/
def State.passPoint (s : State) (n : Nat) : State :=
  let wait := ((lcTickets n).filter fun t => (s.ticket t).state != .free && !s.ahead t) ++ if (s.lc n).lost then [2 ^ 18] else []
  let seq := match s.carrier n with | some p => (s.core p).seqNow | none => []
  s.modLc n fun l =>
    { l with points := l.points ++ [{ step := l.lstep, start := l.lstep - l.extra, wait := wait, slots := l.slots, partials := l.partials, rseq := l.rseq,
                                      joins := l.joins,
                                      opLast := l.opLast, passes := l.passes, seq := seq }] }
/-- The steps of the plan that a logical core has executed: its count without the replays (R57, R164). -/
def Lc.planSteps (l : Lc) : Nat := l.lstep - l.extra
/-- The steps of the plan executed at the last press point that issue has passed. -/
def Lc.lastPress (l : Lc) : Nat := match l.points.getLast? with | some p => p.start | none => l.base.start
/-- The press boundary of a logical core moves to the oldest point passed; a drain that Sizing delayed before the point takes place, unless a unit
    still reads the slot (R167). -/
def State.moveBoundary (s : State) (n : Nat) : State :=
  match (s.lc n).points with
  | [] => s
  | p :: rest =>
    let due := fun i : Nat => (match tget none p.slots i with | some x => x.drainWait | none => false) &&
      (match tget none (s.lc n).slots i with | some x => x.readers.isEmpty | none => true)
    let f := fun t : Table (Option Slot) => t.map fun e =>
      (e.1, e.2.map fun x => if x.drainWait && due e.1 then { x with state := 0, drainWait := false, readers := [] } else x)
    s.modLc n fun l => { l with base := { p with slots := f p.slots }, slots := f l.slots, points := rest.map fun q => { q with slots := f q.slots } }
/-- The members of a press group. -/
def State.groupOf (s : State) (c g : Nat) : List Nat :=
  match (s.ctx c).plan with | some p => (p.lcs.filter fun e => e.pressGroup == g).map (·.lc) | none => []
/-- The press group of a logical core, 0xFFFF for none. -/
def State.pressGroup (s : State) (c n : Nat) : Nat := match s.planLc c n with | some e => e.pressGroup | none => 0xFFFF
/-- A press group's state. -/
def State.pgroup (s : State) (c g : Nat) : PGroup := tget {} (s.ctx c).pgroups g
/-- Updates a press group. -/
def State.modGroup (s : State) (c g : Nat) (f : PGroup → PGroup) : State :=
  s.modCtx c fun x => { x with pgroups := tset {} x.pgroups g (f (tget {} x.pgroups g)) }
/-- A logical core has reached its oldest press point (R163). -/
def State.reached (s : State) (n : Nat) : Bool := match (s.lc n).points.head? with | some p => p.wait.isEmpty | none => false
/-- The press boundary moves as far as it may: that of a press group when every member has reached the point, that of any other logical core when it
    has (R163). During a rollback, which goes back to it, it stays (R171). -/
def State.movePress : Nat → State → Nat → Nat → State
  | 0, s, _, _ => s
  | k + 1, s, c, n =>
    let g := s.pressGroup c n
    if g = 0xFFFF then (if s.reached n then State.movePress k (s.moveBoundary n) c n else s)
    else if (s.pgroup c g).rolling = 0 && (s.groupOf c g).all s.reached && !(s.groupOf c g).isEmpty then
      State.movePress k (each (s.groupOf c g) State.moveBoundary (s.modGroup c g fun x => { x with rollbacks := 0 })) c n
    else s
/-- A ticket has closed as passed or poisoned: no press point waits for it any longer, and the boundary may move (R160, R163). -/
def State.pressClosed (s : State) (c n t : Nat) : State :=
  let s := s.modLc n fun l => { l with points := l.points.map fun p => { p with wait := p.wait.filter (· != t) } }
  s.movePress (s.lc n).points.length c n
/-- A ticket has closed otherwise: a press point that waits for it, or that is passed later, is never reached (R163, log 64); its number may name another
    unit from now on. A rolled-back unit is executed again. -/
def State.pressLost (s : State) (n t : Nat) (again : Bool) : State :=
  s.modLc n fun l => { l with lost := l.lost || !again, points := l.points.map fun p => { p with wait := p.wait.map fun u => if u = t then t + 2 ^ 18 else u } }

/-! ## The release gate (R99, R100, R112, R174, R183) -/

/-- A ticket's unit is held under verify-before-release: by its level, in triage, or as a replay (R99, R162). -/
def State.gated (s : State) (t : Nat) : Bool :=
  let k := s.ticket t
  k.state != .free && (k.level != 0 || k.state == .triage || k.replaying)
/-- The unit itself keeps a transfer back: for the decision that governs it (R174), for its destination (Table 5.3), a gate's decision vector until gate
    duplication passes (R100, R119), a unit with a breach that Table 3.5 holds (R96, R127). -/
def State.unitHolds (s : State) (x : GateXfer) : Bool :=
  x.spec || x.stray || match x.ticket with
  | none => false
  | some t =>
    let k := s.ticket t
    k.state != .free && ((x.decision && !bit k.checks 4) || bit k.codes 19 || bit k.codes 20)
/-- A host completion waits: for every ticket of its work, and under Sizing for the press boundary (Table 5.10). -/
def State.hostWaits (s : State) (c n : Nat) (x : GateXfer) : Bool :=
  x.dst == .host && ((s.pressGroup c n != 0xFFFF && decide ((s.lc n).base.step < x.step)) ||
    (lcTickets n).any fun t => (s.ticket t).state != .free && decide ((s.ticket t).rstep < x.step))
/-- The gate holds a transfer: for itself, or behind a unit that is held, its own or an earlier one of the core (R99). -/
def State.gateHolds (s : State) (n : Nat) (x : GateXfer) : Bool :=
  s.unitHolds x || (lcTickets n).any fun t => s.gated t &&
    (match x.ticket with | some u => u == t || decide ((s.ticket t).rstep < (s.ticket u).rstep) | none => decide ((s.ticket t).rstep ≤ x.step))
/-- A Sizing unit may send to members of its own press group only, before the press point that closes its span (Table 5.3). -/
def State.sizingStray (s : State) (c n t : Nat) (dst : Dest) : Bool :=
  (s.ticket t).level == 0 && s.pressGroup c n != 0xFFFF && decide ((s.lc n).base.step ≤ (s.ticket t).rstep) &&
    (match dst with | .lc m => s.pressGroup c m != s.pressGroup c n | _ => true)
/-- The host completions at the head of a context's order whose status is known are posted (Table 5.10). -/
def State.postHosts (s : State) (c : Nat) : State :=
  let go := (s.ctx c).hosts.takeWhile fun x => x.2.isSome
  each go (fun s x => s.emit (.completion (s.tagOf c) (x.2.getD 0))) (s.modCtx c fun k => { k with hosts := k.hosts.drop go.length })
/-- A logical core's oldest outstanding host completion may be posted, with a status. -/
def State.hostReady (s : State) (c n status : Nat) : State :=
  match (s.ctx c).hosts.find? fun x => x.1 == n && x.2.isNone with
  | none => s
  | some x => (s.modCtx c fun k =>
      { k with hosts := k.hosts.set (k.hosts.findIdx fun y => y == x) (n, some status) }).postHosts c
/-- One transfer leaves the gate, poisoned when its unit is (R102); a host completion is posted with its status (Table 5.10). -/
def State.letGo (s : State) (p c n : Nat) (x : GateXfer) : State :=
  let s := s.emit (.gate p x.ticket true)
  let s := if x.poisoned then s.emit (.poisonWord p) else s
  let s := match x.ticket with | some t => s.modTicket t fun k => { k with sent := if k.state = .free then k.sent else k.sent + 1 } | none => s
  if x.dst = .host then s.hostReady c n (b2n x.poisoned) else s
/-- The transfers of a gate in program order, parted into those that leave and those that stay: one that the gate holds keeps every later one back
    (R99). A host completion whose posting alone is delayed holds none back (DEDUCED, log 132). -/
def State.gatePass (s : State) (c n : Nat) : List GateXfer → List GateXfer × List GateXfer
  | [] => ([], [])
  | x :: l =>
    if s.gateHolds n x then ([], x :: l)
    else
      let r := s.gatePass c n l
      if s.hostWaits c n x then (r.1, x :: r.2) else (x :: r.1, r.2)
/-- The transfers of a logical core's gate that nothing holds any more leave it, in program order. -/
def State.drainGate (s : State) (c n : Nat) : State :=
  match s.carrier n with
  | none => s
  | some p =>
    if s.brkHeld p then s
    else
      let r := s.gatePass c n (s.lc n).gate
      each r.1 (fun s x => s.letGo p c n x) (s.modLc n fun l => { l with gate := r.2 })
/-- The gate discards the transfers that `p` picks, and the host completions that they would have posted, which a teardown posts as KILLED. -/
def State.discard (s : State) (c n : Nat) (killed : Bool) (p : GateXfer → Bool) : State :=
  let l := (s.lc n).gate.filter p
  each l (fun s x =>
    let s := s.emit (.gate ((s.carrier n).getD 0) x.ticket false)
    if x.dst = .host && !killed then s.modCtx c fun k => { k with hosts := k.hosts.erase (n, none) } else s)
    (s.modLc n fun k => { k with gate := k.gate.filter fun x => !p x })
/-- The gate discards a unit's transfers. -/
def State.dropGate (s : State) (n t : Nat) : State := s.discard (s.ticket t).ctx n false fun x => x.ticket == some t
/-- Units of a logical core are ordered to be executed again on a core (R168, R169, Table 8.3 step 4): its sequencers are set from the restart register,
    each unit runs every check anew under R162, what its gate holds is presented again, and what has left already is not (Table 5.10). -/
def State.orderReplay (s : State) (p n fromStep toStep : Nat) (l : List Nat) : State :=
  let seq := l.find? fun t => (s.ticket t).rstep == fromStep
  let s := (s.emit (.replay p n fromStep toStep)).modCore p fun c =>
    { c with replaySteps := 0, seqNow := match seq with | some t => (s.ticket t).restart | none => c.seqNow }
  each l (fun s t => (s.dropGate n t).modTicket t fun k =>
    { k with replaying := k.state != .free, checks := k.checks &&& 32, mark := (0, 0, 0), da := (0, 0), dr := (0, 0), ends := 0, skip := k.sent
             origCodes := if k.replaying then k.origCodes else k.codes, replayCodes := 0 }) s

/-! ## Ticket closes (R159, R160) -/

/-- A stall on a ticket or a verdict of a logical core ends when the ticket that it waits for closes, or any of its own (R29, R101). -/
def State.endTicketStall (s : State) (n t : Nat) : State :=
  match s.carrier n with
  | some p =>
    if (s.core p).stallNow = 3 || ((s.core p).stallNow = 4 && ((s.core p).stallOn.isNone || (s.core p).stallOn = some t)) then s.setStall p 0 none else s
  | none => s
/-- The drains that a unit delayed take place when its ticket closes, unless the press boundary delays them (R167). -/
def State.freeReaders (s : State) (c n t : Nat) : State :=
  s.modLc n fun l =>
    let r := l.slots.map fun e => (e.1, e.2.map fun x => { x with readers := x.readers.filter (· != t) })
    { l with slots := if s.pressGroup c n = 0xFFFF then drainSlots (fun x => x.readers.isEmpty) r else r }
/-- The output slots of a cancelled unit return to the states that the plan gives (R174). -/
def State.cancelSlots (s : State) (k : Ticket) : State :=
  match s.planLc k.ctx k.lc with
  | none => s
  | some e => s.modLc k.lc fun l =>
      { l with slots := each (e.cancels.filter fun x => x.1 == k.descIdx) (fun t x =>
          match tget none t x.2.1 with | some y => tset none t x.2.1 (some { y with state := x.2.2, drainWait := false }) | none => t) l.slots }
/-- A ticket closes with an outcome of Table 5.1 LAST: 1 PASSED, 2 PASSED_REPLAYED, 3 POISONED, 4 KILLED, 5 ROLLED_BACK, 6 CANCELLED. A speculative
    unit's transfers go on waiting for their decision (R174); a poisoned one's leave poisoned (R102); of the others but a pass none leaves. What a killed
    unit would have produced for its consumers is poisoned (R245). The first release unit to close on a new carrier ends the watch of R272. -/
def State.closeTicket (s : State) (t last : Nat) : State :=
  let k := s.ticket t
  if k.state = .free then s
  else
    let n := k.lc
    let s := s.modTicket t fun k =>
      { k with state := .free, last := last, primary := 0, checks := k.checks &&& 32, codes := 0, replaying := false, skip := 0, rows := none,
               released := false }
    let s := match s.carrier n with | some p => s.tapRing p 2 (last + t % 16 * 8) | none => s
    let s := if last = 1 || last = 2 then s.foldUnit t (last == 2 || decide (0 < k.nreplay) || decide (k.rstep < (s.lc n).redo))
      else if last = 3 then s.foldPoison t else s
    let s := s.modLc n fun l => if k.replaying || l.hangFrom != s.carrier n then { l with hangFrom := none } else l
    let s := if last = 3 then s.modLc n fun l => { l with gate := l.gate.map fun x => if x.ticket = some t then { x with poisoned := true } else x } else s
    let s := if 4 ≤ last then s.discard k.ctx n (last == 4) fun x => x.ticket == some t else s
    let s := if last = 4 then s.emit (.poisonData ((s.carrier n).getD 0) t) else s
    let s := if last = 6 then s.cancelSlots k else s
    let s := (s.freeReaders k.ctx n t).endTicketStall n t
    let s := if last = 4 || last = 5 then s else s.endIfLast k
    let s := (if last ≤ 3 then s.pressClosed k.ctx n t else s.pressLost n t (last == 5)).drainGate k.ctx n
    if k.cross || k.state = .triage then s.mirror else s
/-- Parts of a unit's checks complete: with every part the ticket closes as passed; with every part of the tap, and a verdict to come, it awaits
    it (Table 5.2). A unit with a breach that Table 3.5 holds never passes (R96, R127). -/
def State.partDone (s : State) (t m : Nat) : State :=
  let k := s.ticket t
  if k.state = .opened || k.state = .await then
    let d := s.unitDesc t
    let needs := unitNeeds d k.spec
    let done := k.checks ||| m
    let tap := (needs % 8) &&& done == needs % 8 && (descLevel d != 2 || k.ends == 3)
    let s := s.modTicket t fun x => { x with checks := done, state := if k.remote && tap then .await else x.state }
    if needs &&& done = needs && !bit k.codes 19 && !bit k.codes 20 then s.closeTicket t (if k.released then 2 else 1)
      else (if m = 16 then s.drainGate k.ctx k.lc else s)
  else if k.state = .triage then s.modTicket t fun x => { x with checks := x.checks ||| m }
  else s

/-! ## Detections (R129, R130, R497) and contract breaches (R42, R126) -/

/-- The FC0 report of a failure (R30, R61, R364). The spec does not say what it shows for a core that carries no logical core: it shows logical core 0
    and the step count that the tap kept from the last one it carried (R58; DESIGN CHOICE, log 26). -/
def State.reportFault (s : State) (p t n c layer oper source : Nat) : State :=
  let r := s.dieReel (coreDie p)
  let k := if (s.lcOf p).isSome then (s.lc n).lstep else (s.core p).lastLstep
  s.toVat (coreDie p) 0x08 [t * 2 ^ 14 + n, p * 2 ^ 16 + c, layer * 2 ^ 16 + oper, source * 2 ^ 12, r % 2 ^ 32, bits r 32 32, k % 2 ^ 32, bits k 32 32]
/-- The failure registers (R497): written at the first detection of a unit; a later one sets its CODES bit. -/
def State.failRegs (s : State) (p t offset : Nat) (r : FailRegs) : State :=
  s.modCore p fun c =>
    if c.failUnit = some t then { c with failCodes := c.failCodes ||| 2 ^ offset }
    else { c with failValid := true, failPrimary := offset, failCodes := 2 ^ offset, failTicket := t % 16, failRow := r.row, failA := r.a,
                  failB := r.b, failUnit := some t }
/-- A unit in triage fails a comparison with other cores too, in its original computation: its triage is one of that comparison (R179, R180). -/
def State.noteCompare (s : State) (t offset : Nat) : State :=
  let d := s.unitDesc t
  let k := s.ticket t
  let f := fun x : Triage =>
    if x.ticket ≠ t || x.verdict.isSome then x
    else if offset = 7 then { x with members := descGrpN d, orig := k.digest }
    else if offset = 8 || offset = 9 then { x with partner := some (descDupLc d), asGate := false, orig := k.digest }
    else if offset = 10 && x.partner.isNone && x.members = 0 then { x with partner := some (descGateLc d), asGate := true, orig := k.digest.take 1 }
    else x
  if k.replaying || offset < 7 || 10 < offset then s
  else s.modSh fun h => { h with triages := h.triages.map f, triageQ := h.triageQ.map f }
/-- A unit fails its check: its ticket moves to TRIAGE, under Sizing its rollback set is marked, and the agent freezes the core and reports (R30, R31).
    A further detection of the unit with a lower offset becomes its primary cause and is reported as such (R130). -/
def State.failUnit (s : State) (p n t offset : Nat) : State :=
  let k := s.ticket t
  if k.state = .triage then
    if offset < k.primary then
      ((s.modTicket t fun k => { k with primary := offset }).noteCompare t offset).reportFault p t n k.ctx k.layer k.oper (coreSource p offset)
    else s.noteCompare t offset
  else if k.state = .free && (s.core p).frozen then s
  else
    let live := k.state != .free
    let c := (s.lcCtx n).getD k.ctx
    let o := if live then (k.layer, k.oper) else ((s.lc n).oper.getD (0, 0))
    let s := if live then (s.modTicket t fun k => { k with state := .triage, primary := offset }).mirror else s
    let s := if live && k.level = 0 then
        each (match s.planLc c n with | some e => e.rollback | none => []) (fun s m => s.modLc m fun l => { l with marked := insertNat n l.marked }) s
      else s
    let s := if (s.core p).frozen then s else s.freezeCore p
    s.reportFault p t n c o.1 o.2 (coreSource p offset)
/-- A check failure of a unit: counted, with its event-ring entry and its failure registers; of a ticket that is not open it is void (R102). -/
def State.checkFail (s : State) (t offset : Nat) (r : FailRegs) : State :=
  let k := s.ticket t
  match s.carrier k.lc with
  | none => s
  | some p =>
    if k.state = .free || (bit k.codes 22 && offset ≠ 0) then s
    else
      let s := s.agentCount (coreDie p) (coreSource p offset) { ctx := k.ctx, p2 := k.layer, p3 := k.oper }
      let s := ((s.tapRing p 1 (offset + t % 16 * 64)).failRegs p t offset r).modTicket t fun k =>
        { k with codes := k.codes ||| 2 ^ offset, replayCodes := k.replayCodes ||| 2 ^ offset }
      s.failUnit p k.lc t offset
/-- The ticket of the unit that a core executes: the open one with the latest restart point; its block's first ID when none is open (log 26). -/
def State.currentUnit (s : State) (n : Nat) : Nat :=
  match bestBy (fun t => 2 ^ 64 - (s.ticket t).rstep) ((lcTickets n).filter fun t => (s.ticket t).state != .free) with
  | some t => t
  | none => n * 16
/-- A check failure of a core rather than of a unit's result: SEQ_MISMATCH or CHECKER_RAIL. On a core that carries no logical core it is counted
    and reported without a ticket. -/
def State.coreFail (s : State) (p offset : Nat) : State :=
  match s.lcOf p with
  | some n =>
    let t := s.currentUnit n
    if (s.ticket t).state = .free then
      let o := (s.lc n).oper.getD (0, 0)
      let s := s.agentCount (coreDie p) (coreSource p offset) { ctx := (s.lcCtx n).getD 0, p2 := o.1, p3 := o.2 }
      ((s.tapRing p 1 offset).failRegs p t offset { row := 0, a := 0, b := 0 }).failUnit p n t offset
    else s.checkFail t offset { row := 0, a := 0, b := 0 }
  | none =>
    let s := (s.agentCount (coreDie p) (coreSource p offset) default).tapRing p 1 offset
    s.reportFault p 0x3FFFF 0 0 0 0 (coreSource p offset)
/-- A detection that is no check failure sets its bit in the unit's record and in the failure registers (R130, R497). -/
def State.noteUnit (s : State) (p offset : Nat) (t : Option Nat) : State :=
  match t with
  | some t =>
    if (s.ticket t).state = .free then s
    else (s.failRegs p t offset { row := 0, a := 0, b := 0 }).modTicket t fun k => { k with codes := k.codes ||| 2 ^ offset }
  | none => s
/-- A contract breach, charged to a context (R42, R126, Table 7.5): counted at the core, at the context, and as a context fault; it belongs to a unit
    when the access or result that breached does. -/
def State.breach (s : State) (p c offset layer oper : Nat) (t : Option Nat) : State :=
  let d : Detail := { ctx := c, p2 := layer, p3 := oper }
  (((s.noteUnit p offset t).agentCount (coreDie p) (coreSource p offset) d).agentCount (coreDie p) (ctxSource c 1) d).agentCount (coreDie p) (ctxSource c 0) d
/-- Poison is consumed into a release unit (R246): counted at the core and at the context; in KILL mode it is a context fault. -/
def State.consumePoison (s : State) (p c layer oper t : Nat) : State :=
  let d : Detail := { ctx := c, p2 := layer, p3 := oper, kills := (s.ctx c).poisonMode == 0 && (s.ctx c).state != 3 }
  let s := ((s.noteUnit p 22 (some t)).agentCount (coreDie p) (coreSource p 22) d).agentCount (coreDie p) (ctxSource c 3) d
  if d.kills then s.agentCount (coreDie p) (ctxSource c 0) d else s
/-- HOLD_LOST in a re-placement's replay (R260, Table 5.6a): the unit is killed, it is counted at the old carrier, and its context is faulted. -/
def State.holdLost (s : State) (p t : Nat) (d : Detail) : State :=
  let k := s.ticket t
  let q := (s.carrier k.lc).getD p
  ((s.closeTicket t 4).agentCount (coreDie q) (coreSource q 28) d).agentCount (coreDie q) (ctxSource k.ctx 0) d
/-- A unit's input is poisoned: its ticket closes as poisoned and its output words are written poisoned (R102, Table 5.2). In triage it closes so only
    when a replay reads what the original read poisoned too. In a re-placement's replay of a unit whose original read clean data it is HOLD_LOST (R260). -/
def State.poisonUnit (s : State) (p t : Nat) : State :=
  let k := s.ticket t
  let s := s.consumePoison p k.ctx k.layer k.oper t
  if (k.state = .opened || k.state = .await) && k.replaying && !bit k.origCodes 22 then s.holdLost p t { ctx := k.ctx, p2 := k.layer, p3 := k.oper }
  else if k.state = .opened || k.state = .await || (k.state = .triage && k.replaying && bit k.origCodes 22) then s.closeTicket t 3 else s

/-! ## The pool (R157, R158) -/

/-- The pool IDs of a block. -/
def poolIds (b : Nat) : List Nat := (List.range 256).map fun i => 221184 + b * 256 + i
/-- The pool blocks lent to a die, ascending. -/
def State.dieBlocks (s : State) (d : Nat) : List Nat := (List.range 160).filter fun b => tget none s.sh.pool b == some d
/-- The pool IDs of a die that are free, ascending. -/
def State.freePoolIds (s : State) (d : Nat) : List Nat := ((s.dieBlocks d).flatMap poolIds).filter fun t => (s.ticket t).state == .free
/-- A die's agent asks for another block when fewer than 32 of its pool IDs are free (R157). -/
def State.askPool (s : State) (d : Nat) : State :=
  if (s.freePoolIds d).length < 32 && !(s.die d).poolAsked then (s.modDie d fun k => { k with poolAsked := true }).toVat d 0x91 [] else s
/-- The participant whose die allocates the pool ticket of a check (R158): the lower of two partners, or a Laid group's anchor. The check is 8, Duplex
    or a Laid group, or 16, gate duplication. -/
def poolLc (n : Nat) (d : List Nat) (part : Nat) : Nat :=
  if part = 16 then min n (descGateLc d) else if descLevel d = 2 then min n (descDupLc d) else descAnchor d
/-- A check of a unit spans dies. -/
def State.crossPart (s : State) (c n : Nat) (d : List Nat) (part : Nat) : Bool :=
  if part = 16 then descGate d && s.lcDie (descGateLc d) != s.lcDie n
  else if descLevel d = 2 then s.lcDie (descDupLc d) != s.lcDie n
  else descGroup d && (s.groupLcs c (descAnchor d) (descLayer d) (descOper d)).any fun m => s.lcDie m != s.lcDie (descAnchor d)
/-- The pool ticket of a check of units of one sequence number, none when it has none yet. Its `checks` field names the check. -/
def State.poolOf (s : State) (c n : Nat) (d : List Nat) (rseq part : Nat) : Option Nat :=
  (s.sh.tickets.find? fun e => 221184 ≤ e.1 && e.2.state != .free && e.2.ctx == c && e.2.lc == poolLc n d part && e.2.layer == descLayer d &&
    e.2.oper == descOper d && e.2.rseq == rseq && e.2.checks == part).map (·.1)
/-- The pool ticket of a cross-die check: the one that another participant of the same units has allocated, or the lowest free one of the
    allocating agent; none when it must wait. -/
def State.takePool (s : State) (c n : Nat) (d : List Nat) (rseq part : Nat) : Option Nat × State :=
  match s.poolOf c n d rseq part with
  | some t => (some t, s)
  | none =>
    let a := poolLc n d part
    let die := s.lcDie a
    match (s.freePoolIds die).head? with
    | none => (none, s.askPool die)
    | some t =>
      let s := s.modTicket t fun k => { k with state := .opened, remote := true, cross := true, ctx := c, layer := descLayer d, oper := descOper d,
                                               rseq := rseq, lc := a, pool := t, level := descLevel d, checks := part }
      (some t, s.mirror.askPool die)
/-- A unit takes the pool tickets of its cross-die checks that are still to come; its entry names the one whose check comes first (Table 5.1). -/
def State.takePools (s : State) (t : Nat) : State :=
  let k := s.ticket t
  let d := s.unitDesc t
  let s := each [16, 8] (fun s part =>
    if s.crossPart k.ctx k.lc d part && (k.checks &&& part) = 0 then
      let v := s.takePool k.ctx k.lc d k.rseq part
      match v.1 with | some q => v.2.modTicket t fun k => { k with pool := q } | none => v.2
    else s) s
  if s.crossPart k.ctx k.lc d 8 && (k.checks &&& 8) = 0 && (s.poolOf k.ctx k.lc d k.rseq 8).isNone then s.modTicket t fun k => { k with pool := 0 } else s
/-- Units whose comparisons wait for a pool ticket of a die take one, in order. -/
def State.servePool (s : State) (d : Nat) : State :=
  let l := (s.sh.tickets.filter fun e => e.1 < 221184 && e.2.cross && (e.2.state == .opened || e.2.state == .await)).map (·.1)
  each l (fun s t =>
    let k := s.ticket t
    let w := s.unitDesc t
    if [8, 16].any fun part => s.crossPart k.ctx k.lc w part && (k.checks &&& part) = 0 && s.lcDie (poolLc k.lc w part) == d &&
        (s.poolOf k.ctx k.lc w k.rseq part).isNone then s.takePools t
    else s) s
/-- A pool ticket returns to FREE, with an outcome of its own or its last one (R158), and a unit that waits for one takes it. -/
def State.freePool (s : State) (t : Nat) (last : Option Nat) : State :=
  if 221184 ≤ t && (s.ticket t).state != .free then
    (s.modTicket t fun k => { k with state := .free, last := last.getD k.last, checks := 0 }).servePool (s.lcDie (s.ticket t).lc)
  else s
/-- The pool ticket of a check of units returns once the check is decided, and each unit's entry names the next check's. -/
def State.endPool (s : State) (l : List Nat) (part : Nat) (last : Option Nat) : State :=
  match l.head?.bind fun t => s.poolOf (s.ticket t).ctx (s.ticket t).lc (s.unitDesc t) (s.ticket t).rseq part with
  | none => s
  | some q =>
    (each l (fun s t =>
      let k := s.ticket t
      s.modTicket t fun x => { x with pool := if part = 8 then (s.poolOf k.ctx k.lc (s.unitDesc t) k.rseq 16).getD 0 else 0 }) s).freePool q last
/-- A comparison across dies has its pool ticket (R157). -/
def State.poolReady (s : State) (t part : Nat) : Bool :=
  let k := s.ticket t
  !s.crossPart k.ctx k.lc (s.unitDesc t) part || (s.poolOf k.ctx k.lc (s.unitDesc t) k.rseq part).isSome

/-! ## Verdicts (R159, R188, R440) -/

/-- The part of a ticket's checks that a verdict decides: the pair or group verdict first, then the gate's. -/
def State.verdictPart (s : State) (t : Nat) : Nat :=
  let needs := unitNeeds (s.unitDesc t) (s.ticket t).spec
  if bit needs 3 && !bit (s.ticket t).checks 3 then 8 else 16
/-- The detection that a failing verdict reports when none is known yet. -/
def State.verdictCode (s : State) (t : Nat) : Nat :=
  let k := s.ticket t
  match (List.range 24).find? fun i => bit k.codes i with
  | some i => i
  | none => if s.verdictPart t = 16 then 10 else if k.level = 2 then 8 else 7
/-- A verdict takes effect at the ticket. -/
def State.applyVerdict (s : State) (t : Nat) (pass : Bool) : State :=
  if pass then s.partDone t (s.verdictPart t)
  else if (s.ticket t).state = .await || (s.ticket t).state = .opened then s.checkFail t (s.verdictCode t) { row := 0, a := 0, b := 0 }
  else s
/-- A verdict arrives at a ticket's tap: it is kept while the core is parked or under a breakpoint hold (R188, R440). -/
def State.takeVerdict (s : State) (t : Nat) (pass : Bool) : State :=
  match s.carrier (s.ticket t).lc with
  | none => s
  | some p =>
    if (s.core p).parked || s.brkHeld p then s.modCore p fun c => { c with deferred := c.deferred ++ [.verdict t pass] }
    else s.applyVerdict t pass

end Sys2Proof.Machine
end

