-- ==== Sys2Proof/Machine/Checks.lean ====
section
/-! DEFINITION. What a tap sees: release units, issue steps, the checks of Table 3.1, scratchpad accesses, joins and the release gate
(R93-R134, R163-R167, R244-R246). -/

namespace Sys2Proof.Machine

/-! ## Release units (R95-R98, R101) -/

/-- An operator begins on a logical core: its totals start, and breakpoints of kind 2 trigger (R438, R453). -/
def State.beginOper (s : State) (p c n layer oper : Nat) : State :=
  if (s.lc n).oper = some (layer, oper) then s
  else
    ((s.profStart p n).modLc n fun l => { l with oper := some (layer, oper) }).brkTriggers (coreDie p) c fun b =>
      b.kind == 2 && b.arg == layer && b.arg2 == oper
/-- A unit of an operator opens: its context has passed the snapshot points of the iteration that come before that operator in the schedule (R301, log
    31). -/
def State.passPoints (s : State) (c layer oper : Nat) : State :=
  match (s.ctx c).plan with
  | none => s
  | some p =>
    let at_ := fun e : Nat × Nat => p.layerOps.findIdx? (· == e)
    match at_ (layer, oper) with
    | none => s
    | some i =>
      let n := (p.points.filter fun e => (at_ e).any fun j => decide (j ≤ i)).length
      if (s.ctx c).point < n then s.modCtx c fun x => { x with point := n } else s
/-- A release unit opens on a ticket (R98): its descriptor decides the checks; an invalid one, or none, is a contract breach (R96). -/
def State.openUnit (s : State) (p n c t descIdx : Nat) (spec last : Bool) : State :=
  let desc := (s.planLc c n).bind fun e => e.descs[descIdx]?
  let d := desc.getD []
  let ok := desc.isSome && s.descOk c n d
  let layer := descLayer d
  let oper := descOper d
  let key := operKey layer oper
  let s := (s.beginOper p c n layer oper).passPoints c layer oper
  let rseq := tget 0 (s.lc n).rseq key
  let pass := tget 0 (s.lc n).passes key + ((s.lc n).opLast.filter (· == key)).length
  let g := s.pressGroup c n
  let sizing := descLevel d == 0
  let s := s.modTicket t fun k =>
    { k with state := .opened, level := descLevel d, remote := ok && !(s.checkPeers c d).isEmpty, cross := ok && (s.crossPart c n d 8 || s.crossPart c n d 16),
             primary := 0, spec := spec, nreplay := 0, ctx := c, layer := layer, oper := oper, rseq := rseq, lc := n, pool := 0, rstep := (s.lc n).lstep,
             pgrp := if sizing then g else 0xFFFF, gen := if sizing && g != 0xFFFF then (s.pgroup c g).gen else 0, descIdx := descIdx, checks := 0,
             codes := 0, digest := [], mark := (0, 0, 0), da := (0, 0), dr := (0, 0), ends := 0, pass := pass, sent := 0, skip := 0,
             restart := (s.core p).seqNow, seeds := [], replaying := false, start := (s.lc n).planSteps, doneAt := none, rows := none, agreed := []
             origCodes := 0, replayCodes := 0, released := false
             prior := (k.rseq, k.last) }
  let s := s.modLc n fun l => { l with rseq := tset 0 l.rseq key ((rseq + 1) % 2 ^ 32), opLast := if last then l.opLast ++ [key] else l.opLast }
  let s := s.modCore p fun k => { k with failUnit := if k.failUnit = some t then none else k.failUnit, restart := k.seqNow }
  if !ok then s.breach p c 19 layer oper (some t) else if (s.ticket t).cross then s.takePools t else s
/-- The plan latency of a ticket's unit has elapsed (R101): that many steps since its last accumulation, which shows in the check of its last rounded
    group (DEDUCED, log 127). -/
def State.unitLate (s : State) (t : Nat) : Bool :=
  match (s.ticket t).doneAt with | some a => decide (a + descLatency (s.unitDesc t) ≤ (s.lc (s.ticket t).lc).lstep) | none => false
/-- A core waits at a step boundary for a ticket, for a verdict, or for the release of a handshake that the Beater uses (R29, R101, R90). -/
def State.stalled (s : State) (p : Nat) : Bool := (s.core p).stallNow == 3 || (s.core p).stallNow == 4 || (s.core p).stallNow == 0xA
/-- A core without a loaded check plan attempts to issue (R41): a context fault of the context it carries, counted at the core alone when it carries
    none (log 100). -/
def State.noPlan (s : State) (p n : Nat) : State :=
  match s.lcCtx n with
  | some c => s.breach p c 21 0 0 none
  | none => s.agentCount (coreDie p) (coreSource p 21) default
/-- The context whose plan a logical core runs. -/
def State.planned (s : State) (n : Nat) : Option Nat := (s.lcCtx n).filter fun c => (s.ctx c).plan.isSome
/-- The ticket in triage of the unit that a rolled-back logical core opens again: it keeps its ticket (Table 5.6 step 4). -/
def State.reopened (s : State) (n : Nat) (d : List Nat) : Option Nat :=
  (lcTickets n).find? fun t => (s.ticket t).state == .triage && operKey (s.ticket t).layer (s.ticket t).oper == operKey (descLayer d) (descOper d) &&
    (s.ticket t).rseq == tget 0 (s.lc n).rseq (operKey (descLayer d) (descOper d))
/-- A core re-executes its span since the press boundary in stage A of a Sizing failure (Table 5.6 step 5). -/
def State.spanRuns (s : State) (p : Nat) : Bool :=
  s.sh.triages.any fun t => t.core == p && t.pgroup.isSome && !t.stageADone && (s.pgroup t.ctx (t.pgroup.getD 0)).rolling == 0
/-- RELEASE_UNIT_OPEN (R98): the unit takes the lowest FREE ticket of its logical core; with none free the core stalls (R29), for a verdict when the
    plan latency of one of its units has elapsed (R101). -/
def execReleaseUnitOpen (core descIdx : Nat) (spec last : Bool) (s : State) : Host.Outcome State Fault Refusal :=
  guardId (validCore core)
    (match s.lcOf core with
     | none => s
     | some n => match s.planned n with
       | none => s.noPlan core n
       | some c =>
         let span := s.spanRuns core
         if !(s.lc n).issuing || (s.stopped core && !span) || s.stalled core then s
         else
           let d := ((s.planLc c n).bind fun e => e.descs[descIdx]?).getD []
           let key := operKey (descLayer d) (descOper d)
           match (if span then s.reopened n d else none) with
           | some t => (s.modTicket t fun k => { k with start := (s.lc n).planSteps, doneAt := none }).modLc n fun l =>
               { l with rseq := tset 0 l.rseq key ((tget 0 l.rseq key + 1) % 2 ^ 32), opLast := if last then l.opLast ++ [key] else l.opLast }
           | none => match (lcTickets n).find? fun t => (s.ticket t).state == .free with
             | none => s.setStall core (if (lcTickets n).any s.unitLate then 4 else 3) none
             | some t => s.openUnit core n c t descIdx spec last)

/-! ## Issue steps (R41, R55, R123, R163, R164, R438, R441, R451) -/

/-- The steps from a count on reach a value when a logical core's count is now `l`. -/
def reaches (old l v : Nat) : Bool := decide (old < v) && decide (v ≤ l)
/-- A step past the limits of Table 5.3 is a contract breach: the 131,073rd from the restart point of each open unit whose last accumulation is still to
    come, which holds the unit, and the 131,073rd past the last press point. Only steps of the plan count. -/
def State.stepLimits (s : State) (p c n old : Nat) : State :=
  let l := (s.lc n).planSteps
  let first := old - (s.lc n).extra
  let o := (s.lc n).oper.getD (0, 0)
  let late := (lcTickets n).filter fun t =>
    (s.ticket t).state == .opened && (s.ticket t).doneAt.isNone && reaches first l ((s.ticket t).start + 131073)
  let s := each late (fun s t => s.breach p c 19 (s.ticket t).layer (s.ticket t).oper (some t)) s
  if reaches first l ((s.lc n).lastPress + 131073) then s.breach p c 19 o.1 o.2 none else s
/-- The context whose BRK_RESUME with RUN released a core of context `c`: its own, or one whose hold covered the core's partition. -/
def State.runOwner (s : State) (p c : Nat) : Nat :=
  if (s.ctx c).runHold.isSome then c
  else match s.sh.ctxs.find? fun e => (match e.2.runHold with | some b => b.scope == 1 | none => false) &&
      (s.ctxParts e.1).contains (s.partOf (coreDie p)) with
    | some e => e.1
    | none => c
/-- A core that a BRK_RESUME with RUN released is held again at its step (R441): a new hold with the same record. -/
def State.runAgain (s : State) (p c n old : Nat) : State :=
  if (s.core p).runTo.any (reaches old (s.lc n).lstep) then
    let c := s.runOwner p c
    let s := (s.modCore p fun k => { k with runTo := none }).holdCore p (brkKey c)
    match (s.ctx c).brkHold, (s.ctx c).runHold with
    | none, some b => s.modCtx c fun x => { x with brkHold := some { b with start := s.now, inForce := false, resume := none, after := false } }
    | _, _ => s
  else s
/-- What follows when a logical core's count has advanced from `old`: the limits of Table 5.3, breakpoints of kind 1, and the hold of a RUN. -/
def State.advanced (s : State) (p c n old : Nat) : State :=
  let s := s.stepLimits p c n old
  let s := s.brkTriggers (coreDie p) c fun b => b.kind == 1 && b.arg == n && reaches old (s.lc n).lstep b.arg2
  s.runAgain p c n old
/-- A step completes: the counters advance; a press point is passed. Relaxed mode takes effect for the core at this boundary (R89). -/
def State.completeStep (s : State) (p c n : Nat) (kind : StepKind) (pressPoint : Bool) : State :=
  let work := kind = .scheduled
  let s := (s.setStall p 0 none).modCore p fun k =>
    { k with pstep := (k.pstep + 1) % 2 ^ 64, busy := satAdd 64 k.busy (b2n work), idle := satAdd 64 k.idle (b2n !work), lastIssue := s.now,
             krmWaits := 0, hangCheck := false, relaxed := tget false s.pkg.relaxed (s.partOf (coreDie p)) }
  let old := (s.lc n).lstep
  let s := s.modLc n fun l => { l with lstep := (l.lstep + 1) % 2 ^ 64, xwaitSince := none }
  let s := if pressPoint then let s := s.passPoint n; s.movePress (s.lc n).points.length c n else s
  s.advanced p c n old
/-- The Beater has used a sizing window of the logical core on its target: the count advances to the window's end, and MTP_IDLE with it (R56, R451,
    log 96), unless the core is held, when no count advances (R83) and the core itself passes the rest of the window once it issues again. -/
def State.creditWindow (s : State) (p : Nat) : State :=
  let b := (s.die (coreDie p)).beater
  match b.window, s.lcOf p with
  | some w, some n =>
    let old := (s.lc n).lstep
    if b.stall || (s.core p).frozen || !(s.holdsOn p).isEmpty || old < w.1 || w.1 + w.2 ≤ old then s
    else match s.lcCtx n with
      | some c =>
        ((s.modLc n fun l => { l with lstep := (w.1 + w.2) % 2 ^ 64 }).modCore p fun k => { k with idle := satAdd 64 k.idle (w.1 + w.2 - old) }).advanced
          p c n old
      | none => s
  | _, _ => s
/-- The logical core whose replay runs on a core: its own, in stage A of its triage; that of a triage for which it is the spare, in stage B or in the
    replay of Table 8.3 step 4; that of another re-placement. -/
def State.replaysOn (s : State) (p : Nat) : Option Nat :=
  match s.sh.triages.find? fun t => (t.core == p && !t.stageADone) || (t.bCore == some p && t.bStarted && !t.stageBDone) ||
    (t.spare == some p && t.placing) with
  | some t => some t.lc
  | none => (s.sh.replaces.find? fun r => r.new == some p && r.filled).map (·.lc)
/-- A replay step completes on a core: it counts at the logical core replayed and at the core (R55, R57, R83). A step of a span that is executed again
    from its press boundary is a step of the plan too. -/
def State.replayStep (s : State) (p n : Nat) : State :=
  (s.modLc n fun l => { l with lstep := (l.lstep + 1) % 2 ^ 64, extra := l.extra + b2n (!s.spanRuns p) }).modCore p fun k =>
    { k with pstep := (k.pstep + 1) % 2 ^ 64, busy := satAdd 64 k.busy 1, replaySteps := k.replaySteps + 1, lastIssue := s.now }
/-- A replay runs on a core that a triage freeze stops, and pauses for every other hold (Table 5.11). -/
def State.replayPaused (s : State) (p : Nat) : Bool :=
  (s.core p).parked || (s.core p).resetting || (s.holdsOn p).any fun x => holdReason x.1 != 0
/-- ISSUE_STEP (R123): the sequencers are compared before the step completes; a difference suppresses it and freezes the core. -/
def execIssueStep (core : Nat) (kind : StepKind) (seqA seqB : List Nat) (pressPoint : Bool) (s : State) : Host.Outcome State Fault Refusal :=
  guardId (validCore core)
    (if kind = .replay then
       match s.replaysOn core with
       | none => s
       | some n =>
         if s.replayPaused core || (s.spanRuns core && s.stalled core) then s
         else if (s.core core).seqCmp && seqA != seqB then s.coreFail core 0
         else
           let s := s.replayStep core n
           if pressPoint && s.spanRuns core then let s := s.passPoint n; s.movePress (s.lc n).points.length ((s.lcCtx n).getD 0) n else s
     else match s.lcOf core with
     | none => s
     | some n => match s.planned n with
       | none => s.noPlan core n
       | some c =>
         if !(s.lc n).issuing || s.stopped core || s.stalled core then s
         else if (s.core core).seqCmp && seqA != seqB then s.coreFail core 0
         else (s.modCore core fun k => { k with seqNow := seqA }).completeStep core c n kind pressPoint)

/-! ## Checks (R103-R122) -/

/-- The ticket is an open unit of the core's logical core, or of the one that is replayed on the core. -/
def State.unitOf (s : State) (p t : Nat) : Bool :=
  let k := s.ticket t
  t / 16 == k.lc && k.state != .free && (s.lcOf p == some k.lc || (k.replaying && k.state != .triage && s.replaysOn p == some k.lc))
/-- Stage B of the unit's triage runs on a core that does not carry its logical core (R169): its groups enter the unit's digests, and the end of the
    stage gives the result of its checks. -/
def State.stageBOn (s : State) (p t : Nat) : Bool :=
  (s.ticket t).state == .triage && s.sh.triages.any fun x => x.ticket == t && x.bCore == some p && x.bStarted && !x.stageBDone
/-- Fits a signed 128-bit accumulator. -/
def fits128 (v : Int) : Bool := decide (-(2 ^ 127) ≤ v) && decide (v < 2 ^ 127)
/-- ACCUMULATOR_ADD (R108, R122): the exact sum must fit 128 bits, and a product's scale must not lie below EMIN. -/
def execAccumulatorAdd (core ticket row col : Nat) (acc addend : Int) (scale : Option Int) (s : State) : Host.Outcome State Fault Refusal :=
  guardId (validCore core)
    (if s.unitOf core ticket then
       let r : FailRegs := { row := row, a := col, b := 0 }
       let low := match scale with | some e => decide (e < descEmin (s.unitDesc ticket)) | none => false
       let s := if fits128 (acc + addend) then s else s.checkFail ticket 3 r
       if low then s.checkFail ticket 4 r else s
     else s)
/-- lhs of a row (R106). -/
def laidLhs (r : LaidRow) : Nat := res (sumInt r.acc - sumInt r.seed)
/-- rhs of a row (R106). -/
def laidRhs (csv : List Nat) (emin : Int) (r : LaidRow) : Nat :=
  let terms := List.zipWith (fun (x : Int × Nat) (c : Nat) => mulpow2 (res x.1 * c % p61) ((x.2 : Int) - 127)) r.x csv
  mulpow2 (terms.foldl (· + ·) 0 % p61) (-emin)
/-- The seal of a column-sum vector (R114). -/
def csvSeal (l : List Nat) : Nat := (l.zipIdx.foldl (fun a e => a + (e.2 + 1) * e.1) 0) % p61
/-- The vector fails its seal or format (R115). -/
def csvBad (d : List Nat) (v : CsvData) : Bool :=
  csvSeal v.entries != v.sealWord || v.count != descCsvLen d || v.entries.any fun e => decide (p61 ≤ e)
/-- The first index at which a test holds. -/
def firstIdx {α : Type} (p : α → Bool) (l : List α) : Option Nat := if l.any p then some (l.findIdx p) else none
/-- The first activation group with the reserved exponent, as row and element (R105). -/
def badGroup (rows : List LaidRow) : Option Nat := (rows.filterMap fun r => firstIdx (fun x : Int × Nat => x.2 == 255) r.x).head?
/-- A tap's residues or digests go to the comparison: to the active Vat when it spans dies, else to the die's agent (R111, R116). -/
def State.sendReport (s : State) (p kind : Nat) (cross : Bool) (words : List Nat) : State :=
  if cross then s.toVat (coreDie p) (0x40 + kind) words else s.emit (.report p kind words)
/-- What every report names: context, ticket, logical core, the other logical core, operator, release sequence number (R111, R116). -/
def reportHead (t : Nat) (k : Ticket) (other : Nat) : List Nat := [k.ctx, t, k.lc, other, operKey k.layer k.oper, k.rseq]
/-- LAID_CHECK_RESOLVE (R105-R107, R109, R111, R114, R115): the seal first, then the activation groups, then each row; a group member's residues go to
    the anchor. With a reserved exponent there is no right-hand side, so nothing is compared (DESIGN CHOICE, log 101). -/
def execLaidCheckResolve (core ticket : Nat) (rows : List LaidRow) (csv : CsvData) (s : State) : Host.Outcome State Fault Refusal :=
  guardId (validCore core)
    (let d := s.unitDesc ticket
     if s.unitOf core ticket && descLaid d then
       let k := s.ticket ticket
       let streams := !descGroup d || descIsAnchor d
       let rhs := laidRhs csv.entries (descEmin d)
       let s := if streams && csvBad d csv then s.checkFail ticket 5 { row := 0, a := csvSeal csv.entries, b := csv.sealWord } else s
       match (if streams then badGroup rows else none) with
       | some i => s.checkFail ticket 12 { row := i / 32, a := i % 32 * 256 + 255, b := 0 }
       | none =>
         if descGroup d then
           (s.sendReport core 0 (s.crossPart k.ctx k.lc d 8)
             (reportHead ticket k (descAnchor d) ++ (rows.map laidLhs ++ if descIsAnchor d then rows.map rhs else []).flatMap w64)).partDone ticket 2
         else match rows.zipIdx.find? fun e => laidLhs e.1 != rhs e.1 with
           | some e => s.checkFail ticket 6 { row := e.2, a := laidLhs e.1, b := rhs e.1 }
           | none => s.partDone ticket 2
     else s)
/-- The envelope failures of a rounded group, each with the first offending element (R120). -/
def envelope (d : List Nat) (expo : Nat) (mants : List Int) : List (Nat × Nat) :=
  let w := descWord d 7
  let l := bits w 8 8
  let top := 2 ^ (fmtBits (descFmtOut d) - 1)
  let over_ := fun m : Int => if expo ≤ l then decide (2 ^ (l - expo) ≤ m.natAbs) else m != 0
  let full := fun m : Int => m == (top : Int) - 1 || m == -(top : Int)
  if expo = 255 then [(12, 0)]
  else
    (if mants.any (· != 0) && (decide (expo < bits w 24 8) || decide (bits w 16 8 < expo)) then [(13, 0)] else []) ++
    (if l < 255 then (match firstIdx over_ mants with | some i => [(14, i)] | none => []) else []) ++
    (if bits w 3 5 < (mants.filter full).length then [(15, (firstIdx full mants).getD 0)] else [])
/-- A Duplex unit's digests go to the comparison once its last group and its last outbound word have passed the tap (R116). -/
def State.pairReport (s : State) (p t : Nat) : State :=
  let k := s.ticket t
  let d := s.unitDesc t
  if descLevel d = 2 && k.ends = 3 && (k.state = .opened || k.state = .await) then
    (s.sendReport p 1 (s.crossPart k.ctx k.lc d 8) (reportHead t k (descDupLc d) ++ w64 k.da.1 ++ w64 k.dr.1)).partDone t 0
  else s
/-- ROUNDED_GROUP_CHECK (R105, R116, R120, R121, R142): every failure is counted, and the group enters the unit's digests; the unit's last group
    completes the envelope checks. -/
def execRoundedGroupCheck (core ticket group expo : Nat) (mants accs : List Int) (place : GroupAt) (last : Bool) (s : State) :
    Host.Outcome State Fault Refusal :=
  guardId (validCore core)
    (if s.unitOf core ticket then
       let f := envelope (s.unitDesc ticket) expo mants
       let s := each f (fun s e => s.checkFail ticket e.1 { row := group, a := e.2 * 256 + expo, b := 0 }) (s.foldGroup ticket expo mants accs place)
       if last then
         let s := (s.modTicket ticket fun k => { k with ends := k.ends ||| 1, doneAt := some (s.lc k.lc).lstep }).pairReport core ticket
         if f.isEmpty then s.partDone ticket 1 else s
       else s
     else if s.stageBOn core ticket then s.foldGroup ticket expo mants accs place
     else s)
/-- The tally of the rows received (R110). -/
def tallyOf (taus : List Nat) : Nat := (taus.foldl (fun a t => a + (t + 1)) 0) % p61
/-- A gate operator of a context's layer is in triage with a gate mismatch: the tally of an expert block of that layer, which awaits its dispatch, is not
    evaluated until the gate passes (Table 3.9; DEDUCED, log 133). -/
def State.gateFailed (s : State) (c layer : Nat) : Bool :=
  s.sh.tickets.any fun e => e.2.ctx == c && e.2.layer == layer && e.2.state == .triage && bit e.2.codes 10 && e.1 < 221184 && descGate (s.unitDesc e.1)
/-- The tally of a dispatch (R110): its count of rows, its tally, and the rows that the descriptor allows. -/
def State.checkTally (s : State) (t : Nat) (x : List Nat × Nat × Nat) : State :=
  if x.1.length ≠ x.2.1 || tallyOf x.1 ≠ x.2.2 || descRows (s.unitDesc t) < x.2.1 then
    s.checkFail t 11 { row := sat 16 x.1.length, a := tallyOf x.1, b := x.2.2 }
  else s.partDone t 4
/-- The tallies that waited for a gate are evaluated once it no longer fails (Table 3.9). -/
def State.waitedTallies (s : State) (c : Nat) : State :=
  each (s.sh.tickets.filter fun e => e.2.ctx == c && e.2.rows.isSome) (fun s e =>
    match e.2.rows with
    | some x => if s.gateFailed c e.2.layer then s else (s.modTicket e.1 fun k => { k with rows := none }).checkTally e.1 x
    | none => s) s
/-- DISPATCH_TALLY_CHECK (R110): evaluated at once, or when the gate that failed passes (Table 3.9). -/
def execDispatchTallyCheck (core ticket : Nat) (taus : List Nat) (n tally : Nat) (s : State) : Host.Outcome State Fault Refusal :=
  guardId (validCore core)
    (let d := s.unitDesc ticket
     if s.unitOf core ticket && descKind d == 2 then
       if s.gateFailed (s.ticket ticket).ctx (s.ticket ticket).layer then s.modTicket ticket fun k => { k with rows := some (taus, n, tally) }
       else s.checkTally ticket (taus, n, tally)
     else s)
/-- CHECKER_RAIL (R128, R130). -/
def execCheckerRail (core : Nat) (s : State) : Host.Outcome State Fault Refusal := guardId (validCore core) (s.coreFail core 1)
/-- TICKET_STATE (Table 7.2 offset 32): every unit with an open ticket is triaged as a check failure. -/
def State.ticketState (s : State) (p : Nat) : State :=
  match s.lcOf p with
  | none => s.agentCount (coreDie p) (coreSource p 32) default
  | some n =>
    let s := s.agentCount (coreDie p) (coreSource p 32) { ctx := (s.lcCtx n).getD 0, p2 := ((s.lc n).oper.getD (0, 0)).1, p3 := ((s.lc n).oper.getD (0, 0)).2 }
    each ((lcTickets n).filter fun t => (s.ticket t).state == .opened || (s.ticket t).state == .await) (fun s t => s.failUnit p n t 32) s
/-- TICKET_STATE: a parity error in a ticket entry or the restart register. -/
def execTicketState (core : Nat) (s : State) : Host.Outcome State Fault Refusal := guardId (validCore core) (s.ticketState core)

/-! ## Comparisons between cores (R111, R112, R116-R119, R158, R174) -/

/-- A verdict on a participant's ticket: at once when it is the agent's, by a VERDICT transaction when it is the Vat's. -/
def State.giveVerdict (s : State) (cross : Bool) (t : Nat) (pass : Bool) : State :=
  if cross then s.vatSend 0x42 0 (s.lcDie (s.ticket t).lc) [t, b2n pass] else s.takeVerdict t pass
/-- A gate decision takes effect: what it does to each speculative unit of its context is a free value (R119, R174, log 23). The transfers of one that
    it selects go on, those of one that it cancels are discarded. -/
def State.gateDecides (s : State) (c : Nat) : State :=
  let waits := fun t : Nat => (s.lc (t / 16)).gate.any fun x => x.ticket == some t && x.spec
  let l := (s.sh.tickets.filter fun e => e.1 < 221184 && e.2.ctx == c && e.2.spec && ((e.2.state != .free && !bit e.2.checks 5) || waits e.1)).map (·.1)
  each l (fun s t =>
    let v := s.draw
    let n := t / 16
    if Config.gateDecision v.1 = 1 then
      let s := v.2.modLc n fun k => { k with gate := k.gate.map fun x => if x.ticket = some t then { x with spec := false } else x }
      ((s.modTicket t fun k => { k with checks := k.checks ||| 32 }).partDone t 32).drainGate c n
    else if Config.gateDecision v.1 = 2 then (v.2.dropGate n t).closeTicket t 6
    else v.2) s
/-- Two reports are those of one pair's same unit (R116). -/
def samePair (a b : PairReport) : Bool :=
  a.ctx == b.ctx && a.lc == b.partner && a.partner == b.lc && a.layer == b.layer && a.oper == b.oper && a.rseq == b.rseq && a.gate == b.gate
/-- The failure of one partner: GATE_MISMATCH, DUPLEX_ACC or DUPLEX_REL, with its own digest and its partner's. -/
def State.pairFail (s : State) (own other : PairReport) : State :=
  let s := s.modTicket own.ticket fun k => { k with digest := [own.da, own.dr] }
  if own.gate then s.checkFail own.ticket 10 { row := 0, a := own.da, b := other.da }
  else if own.da ≠ other.da then s.checkFail own.ticket 8 { row := 0, a := own.da, b := other.da }
  else s.checkFail own.ticket 9 { row := 0, a := own.dr, b := other.dr }
/-- A comparison passes for a unit: what it agreed on is kept for a replay (R168). -/
def State.agree (s : State) (t part : Nat) (digest : List Nat) : State :=
  s.modTicket t fun k => { k with agreed := (k.agreed.filter fun a => a.1 != part) ++ [(part, digest)] }
/-- The pool ticket of a comparison that fails stays with it, in TRIAGE, until a verdict (R158, Table 5.2). -/
def State.failPool (s : State) (t part : Nat) : State :=
  match s.poolOf (s.ticket t).ctx (s.ticket t).lc (s.unitDesc t) (s.ticket t).rseq part with
  | some q => s.modTicket q fun k => { k with state := .triage, primary := if part = 16 then 10 else if k.level = 2 then 8 else 7 }
  | none => s
/-- The comparison of a pair: a pass gives both their verdict, and a gate's decision takes effect; any difference fails both (R116, R118). -/
def State.comparePair (s : State) (x y : PairReport) (cross : Bool) : State :=
  let equal := x.da == y.da && (x.gate || x.dr == y.dr)
  let part := if x.gate then 16 else 8
  let s := if equal then s.endPool [x.ticket, y.ticket] part (some 1) else s.failPool x.ticket part
  if equal then
    let s := (s.agree x.ticket part [x.da, x.dr]).agree y.ticket part [y.da, y.dr]
    let s := (s.giveVerdict cross x.ticket true).giveVerdict cross y.ticket true
    if x.gate then s.gateDecides x.ctx else s
  else
    let s := (s.pairFail x y).pairFail y x
    if cross then (s.giveVerdict true x.ticket false).giveVerdict true y.ticket false else s
/-- The sum of the members' lhs of a row, modulo p. -/
def groupLhs (l : List LaidReport) (i : Nat) : Nat := (l.foldl (fun a m => a + m.lhs.getD i 0) 0) % p61
/-- A Laid group is decided: every member passes, or every member fails with the first failing row (R111). -/
def State.decideGroup (s : State) (l : List LaidReport) (cross : Bool) : State :=
  let rhs := match l.find? fun m => m.lc == m.anchor with | some m => m.rhs | none => []
  let bad := (List.range rhs.length).find? fun i => groupLhs l i != rhs.getD i 0
  let s := if bad.isNone then s.endPool (l.map (·.ticket)) 8 (some 1) else s.failPool ((l.map (·.ticket)).headD 0) 8
  match bad with
  | none => each l (fun s m => (s.agree m.ticket 8 (m.lhs ++ m.rhs)).giveVerdict cross m.ticket true) s
  | some i =>
    let s := each l (fun s m => s.checkFail m.ticket 7
      (if m.lc = m.anchor then { row := i, a := groupLhs l i, b := rhs.getD i 0 } else { row := i, a := m.lhs.getD i 0, b := 0 })) s
    if cross then each l (fun s m => s.giveVerdict true m.ticket false) s else s
/-- Two reports whose comparison may be made: those of one pair's same unit, with a pool ticket when it spans dies (R116, R157). -/
def State.readyPair (s : State) : Option (PairWait × PairWait) :=
  s.sh.pairs.findSome? fun w =>
    if s.poolReady w.r.ticket (if w.r.gate then 16 else 8) then (s.sh.pairs.find? fun v => samePair w.r v.r).map fun v => (w, v) else none
/-- A Laid group that is whole, with a pool ticket when it spans dies (R111, R157). -/
def State.readyGroup (s : State) : Option GroupWait :=
  s.sh.groups.find? fun g => match g.members with
    | [] => false
    | m :: _ => let n := descGrpN (s.unitDesc m.ticket); 0 < n && decide (n ≤ g.members.length) && s.poolReady m.ticket 8
/-- Every comparison that may be made is made, oldest report first. -/
def State.settle : Nat → State → State
  | 0, s => s
  | k + 1, s =>
    match s.readyPair with
    | some (w, v) =>
      State.settle k ((s.modSh fun h => { h with pairs := (h.pairs.erase w).erase v }).comparePair w.r v.r (s.lcDie w.r.lc != s.lcDie w.r.partner))
    | none => match s.readyGroup with
      | none => s
      | some g => State.settle k ((s.modSh fun h => { h with groups := h.groups.erase g }).decideGroup g.members
          (g.members.any fun m => s.lcDie m.lc != s.lcDie m.anchor))
/-- Every comparison that may be made is made. -/
def State.settleAll (s : State) : State := State.settle (s.sh.pairs.length + s.sh.groups.length) s
/-- What a unit's report of a comparison agreed on when the unit passed it before (R168): the other core's result stands. -/
def State.agreedOn (s : State) (t part : Nat) : Option (List Nat) := ((s.ticket t).agreed.find? fun a => a.1 == part).map (·.2)
/-- A pair report reaches the agent or the Vat that compares. A unit whose ticket is not open any more has no comparison (R102); a replay of one that had
    passed it is compared with what the partners agreed on. -/
def State.takePair (s : State) (r : PairReport) : State :=
  let s := (s.modTicket r.ticket fun k => { k with digest := [r.da, r.dr] }).partDone r.ticket 0
  let cross := s.lcDie r.lc != s.lcDie r.partner
  if (s.ticket r.ticket).state = .free then s
  else match s.agreedOn r.ticket (if r.gate then 16 else 8) with
  | some a =>
    if a.getD 0 0 = r.da && (r.gate || a.getD 1 0 = r.dr) then s.giveVerdict cross r.ticket true
    else
      let s := s.pairFail r { r with da := a.getD 0 0, dr := a.getD 1 0 }
      if cross then s.giveVerdict true r.ticket false else s
  | none => (s.modSh fun h => { h with pairs := (h.pairs.filter fun w => !(w.r.ctx == r.ctx && w.r.lc == r.lc && w.r.partner == r.partner &&
                                       w.r.layer == r.layer &&
    w.r.oper == r.oper && w.r.rseq == r.rseq && w.r.gate == r.gate)) ++ [{ since := s.now, r := r }] }).settleAll
/-- A member's residues reach the anchor or the Vat. -/
def State.takeLaid (s : State) (r : LaidReport) : State :=
  let s := (s.modTicket r.ticket fun k => { k with digest := r.lhs ++ r.rhs }).partDone r.ticket 2
  let cross := (s.groupLcs r.ctx r.anchor r.layer r.oper).any fun m => s.lcDie m != s.lcDie r.anchor
  if (s.ticket r.ticket).state = .free then s
  else match s.agreedOn r.ticket 8 with
  | some a =>
    if a = r.lhs ++ r.rhs then s.giveVerdict cross r.ticket true
    else
      let s := s.checkFail r.ticket 7 { row := ((List.range r.lhs.length).find? fun i => r.lhs.getD i 0 != a.getD i 0).getD 0, a := r.lhs.headD 0, b := 0 }
      if cross then s.giveVerdict true r.ticket false else s
  | none =>
    let same := fun m : LaidReport => m.ctx == r.ctx && m.layer == r.layer && m.oper == r.oper && m.anchor == r.anchor && m.rseq == r.rseq
    let l := (match s.sh.groups.find? fun g => g.members.any same with | some g => g.members.filter (fun m => m.lc != r.lc) | none => []) ++ [r]
    (s.modSh fun h => { h with groups := (h.groups.filter fun g => !g.members.any same) ++ [{ since := s.now, members := l }] }).settleAll
/-! ## Scratchpad accesses (R125, R126, R167, R244-R246, R436) -/

/-- A read. -/
def isRead (k : AccKind) : Bool := k == .localRead || k == .remoteRead
/-- A write. -/
def isWrite (k : AccKind) : Bool := k == .localWrite || k == .remoteWrite
/-- The breach of an access to a slot in a state (Table 3.3), none when it is allowed. -/
def slotBreach (k : AccKind) (x : Slot) : Option Nat :=
  if isRead k then (if x.state = 2 then none else some 16)
  else if isWrite k then (if x.state = 2 then some 17 else none)
  else if k = .fill then (if x.state = 1 then none else some 18)
  else if x.state = 2 && !x.drainWait then none else some 18
/-- The slot after an allowed access; a drain signal waits for the units that read the slot, or for the press boundary (R167). -/
def slotStep (x : SpadAccess) (t : Option Nat) (grouped : Bool) (k : Slot) : Slot :=
  if isRead x.kind then { k with readers := match t with | some u => insertNat u k.readers | none => k.readers }
  else if isWrite x.kind then { k with state := if k.state = 0 then 1 else k.state }
  else if x.kind = .fill then { k with state := 2 }
  else if grouped || !k.readers.isEmpty then { k with drainWait := true }
  else { k with state := 0 }
/-- The slots that an access touches: number and content. -/
def touched (x : SpadAccess) (l : Table (Option Slot)) : List (Nat × Slot) :=
  l.filterMap fun e => match e.2 with | some k => if overlap x.off x.len k.base k.len then some (e.1, k) else none | none => none
/-- The breaches of an access, in the order of the slots that it touches, each with its slot (Table 3.3). -/
def State.slotBreaches (s : State) (n : Nat) (x : SpadAccess) : List (Nat × Nat) :=
  (touched x (s.lc n).slots).filterMap fun e => (slotBreach x.kind e.2).map fun b => (e.1, b)
/-- The slots are watched (Table 3.3): a breaching access changes nothing and is charged to the tag it carries (R126); of several slots that it
    breaches the first is charged (DESIGN CHOICE, log 102). The answer says whether the words read are poisoned. -/
def State.watchSlots (s : State) (p n : Nat) (x : SpadAccess) : State × Bool :=
  let l := touched x (s.lc n).slots
  let o := (s.lc n).oper.getD (0, 0)
  match (s.slotBreaches n x).head? with
  | some b =>
    let s := (s.tapRing p 0x0C b.1).breach p (x.tag % 4096) b.2 o.1 o.2 (x.unit.map fun i => n * 16 + i % 16)
    if b.2 = 16 then (s.emit (.poisonWord p), true) else (s, false)
  | none =>
    let grouped := match s.lcCtx n with | some c => s.pressGroup c n != 0xFFFF | none => false
    let t := x.unit.map fun i => n * 16 + i % 16
    (s.modLc n fun k => { k with slots := each l (fun m e => tset none m e.1 (some (slotStep x t grouped e.2))) k.slots }, false)
/-- The bit of KINDS for an access (Table 14.1). -/
def kindBit : AccKind → Nat
  | .localRead => 0
  | .localWrite => 1
  | .remoteRead => 2
  | .remoteWrite => 3
  | .fill => 4
  | .drain => 5
/-- A watchpoint hits (R436): its hit is counted, as a detection of the unit whose access hit where one did (R130), and each ACTION bit adds its
    effect. -/
def State.watchHit (s : State) (p n index : Nat) (w : Watch) (t : Option Nat) : State :=
  let o := (s.lc n).oper.getD (0, 0)
  let d : Detail := { ctx := w.tag % 4096, p2 := o.1, p3 := o.2 }
  let src := coreSource p 23
  let s := s.modLc n fun l => { l with watch := tset none l.watch index (some { w with hits := satAdd 32 w.hits 1 }) }
  let s := (s.noteUnit p 23 t).agentCount (coreDie p) src d
  let s := if bit w.action 0 then s.tapRing p 0x0B index else s
  let s := if bit w.action 1 && !(s.cfg 23).record then s.recordAt 0x0700 1 src (s.dieReel (coreDie p)) (s.die (coreDie p)).unaligned (d.ctx * 2 ^ 12) d.p2 d.p3 else s
  let s := if bit w.action 2 then
      s.brkTrigger (coreDie p) (w.tag % 4096) { number := 0xF0 + index, kind := 3, scope := 0, arg := 0, arg2 := 0 }
    else s
  if bit w.action 3 then s.startStop (coreDie p) 1 else s
/-- Every watchpoint that an access hits. -/
def State.watchAll (s : State) (p n : Nat) (x : SpadAccess) : State :=
  each (s.lc n).watch (fun s e =>
    match e.2 with
    | some w =>
      if bit w.kinds (kindBit x.kind) && overlap x.off x.len w.base w.len && (!w.tagMatch || w.tag == x.tag) then
        s.watchHit p n e.1 w (x.unit.map fun i => n * 16 + i % 16)
      else s
    | none => s) s
/-- The symbol code of the words accessed (R245): a corrected symbol, or two in error, is counted at the core. -/
def State.spadEcc (s : State) (p : Nat) (x : SpadAccess) : State :=
  let o := match s.lcOf p with | some n => (s.lc n).oper.getD (0, 0) | none => (0, 0)
  let d : Detail := { ctx := (s.coreCtx p).getD 0, p2 := o.1, p3 := o.2 }
  if x.ecc = 1 then s.agentCount (coreDie p) (coreSource p 27) d
  else if x.ecc = 2 then (s.agentCount (coreDie p) (coreSource p 28) d).emit (.poisonWord p)
  else s
/-- A handshake arrives at a core that waits with one of the stall reasons that it ends: the wait ends, or, when the Beater uses it, the slice stops at
    its segment's end and the core waits for its release (R90, R452). -/
def State.handshake (s : State) (p : Nat) (reasons : List Nat) : State :=
  let b := (s.die (coreDie p)).beater
  if !reasons.contains (s.core p).stallNow then s
  else if b.stall && b.shifting && b.target == some (coreIndex p) then
    (s.modDie (coreDie p) fun k => { k with beater := { k.beater with stopping := true } }).setStall p 0xA none
  else s.setStall p 0 none
/-- A handshake arrives at a parked core: what it brings waits for the unpark (R188), but a slice that uses the core's stall stops at its segment's end
    (R90). -/
def State.handshakeParked (s : State) (p : Nat) (reasons : List Nat) : State :=
  if (s.die (coreDie p)).beater.stall then s.handshake p reasons else s
/-- The stall that a fill or drain signal ends, of a core that awaits no named logical core, or the one whose unit gave the signal; a signal out of
    sequence ends none (R126). -/
def State.signalReasons (s : State) (p n : Nat) (x : SpadAccess) : List Nat :=
  let from_ := match (s.core p).awaited, x.writer with | some m, some t => t / 16 == m | _, _ => true
  if !from_ || !(s.slotBreaches n x).isEmpty then [] else if x.kind = .fill then [1] else if x.kind = .drain then [2] else []
/-- The words that a unit would read are not to be consumed yet: a failing unit's, by a member of its rollback set, until the verdict (R31); a unit's of
    the core itself whose verdict is missing past its plan latency (R101), and a gate's until gate duplication has passed (R119). -/
def State.inputWaits (s : State) (n : Nat) (x : SpadAccess) : Bool :=
  x.kind == .localRead && x.unit.isSome && (match x.writer with
    | none => false
    | some t => ((s.lc n).marked.contains (t / 16) && (s.ticket t).state == .triage) ||
        (t / 16 == n && (s.ticket t).state != .free && (((s.ticket t).level != 0 && s.unitLate t) ||
          (descGate (s.unitDesc t) && !bit (s.ticket t).checks 4))))
/-- An access to a core's scratchpad takes place (R125, R126, R244-R246, R436): a fill ends a wait on an operand, a drain one on a slot. -/
def State.accessPad (s : State) (core : Nat) (x : SpadAccess) : State :=
  match s.lcOf core with
  | none => s.spadEcc core x
  | some n =>
    if s.inputWaits n x then (s.setStall core 4 none).modCore core fun c => { c with stallOn := x.writer }
    else
      let r := s.signalReasons core n x
      let w := ((s.spadEcc core x).watchAll core n x).watchSlots core n x
      let s := w.1.handshake core r
      match x.unit with
      | some i => if x.kind = .localRead && (x.poisoned || w.2 || x.ecc = 2) then s.poisonUnit core (n * 16 + i % 16) else s
      | none => s
/-- SCRATCHPAD_ACCESS: an access to a parked core's scratchpad waits until it is unparked (R188). -/
def execScratchpadAccess (core : Nat) (x : SpadAccess) (s : State) : Host.Outcome State Fault Refusal :=
  guardId (validCore core)
    (if (s.core core).parked then
       let s := match s.lcOf core with | some n => s.handshakeParked core (s.signalReasons core n x) | none => s
       s.modCore core fun c => { c with deferred := c.deferred ++ [.access x] }
     else s.accessPad core x)

/-! ## Joins and outbound transfers (R99, R100, R122, R127, R164) -/

/-- JOIN_PARTIAL_ARRIVAL (R127): a partial out of the plan's order is a contract breach, is not combined and keeps its unit held; a poisoned one poisons
    the unit; the exact sum must fit 128 bits. -/
def execJoinPartialArrival (core ticket join fromLc : Nat) (acc value : Int) (poisoned : Bool) (s : State) : Host.Outcome State Fault Refusal :=
  guardId (validCore core && decide (ticket < 221184) && decide (fromLc < 13824))
    (match s.lcOf core with
     | none => s
     | some n => match s.lcCtx n with
       | none => s
       | some c =>
         let l := match s.planLc c n with | some e => e.joins.getD join [] | none => []
         let k := tget 0 (s.lc n).joins join
         let mine := s.unitOf core ticket
         let s := if (s.core core).awaited = some fromLc then s.handshake core [6] else s
         if l[k]? ≠ some fromLc then s.breach core c 20 (s.ticket ticket).layer (s.ticket ticket).oper (if mine then some ticket else none)
         else
           let s := s.modLc n fun x => { x with joins := tset 0 x.joins join (if k + 1 < l.length then k + 1 else 0) }
           if poisoned then s.poisonUnit core ticket
           else
             let s := if mine then s.modTicket ticket fun k => { k with seeds := k.seeds ++ [value] } else s
             if fits128 (acc + value) || !mine then s else s.checkFail ticket 3 { row := 0, a := 0, b := 0 })
/-- A unit's outbound words enter DR, and a gate's decision vector goes to its comparison (R116, R118). One transfer carries a decision vector whole
    (DESIGN CHOICE, log 128). -/
def State.outWords (s : State) (p t : Nat) (words decision : List Nat) (last : Bool) : State :=
  let k := s.ticket t
  let d := s.unitDesc t
  if k.state = .free then s
  else
    let s := s.modTicket t fun k =>
      { k with dr := if descLevel d = 2 then ordFold k.dr (words.map fun u => u % 2 ^ 64 % p61) else k.dr, ends := if last then k.ends ||| 2 else k.ends }
    let s := if last then s.pairReport p t else s
    if descGate d && !decision.isEmpty && k.state ≠ .triage then
      s.sendReport p 1 (s.crossPart k.ctx k.lc d 16) (reportHead t k (descGateLc d) ++ w64 (ordSum 0 (decision.map (· % p61))) ++ [1])
    else s
/-- A transfer of a unit comes to the gate: one that left before a replay, and one of a unit that closed without release, is discarded (R160, Table
    5.10); another waits or leaves in program order. A stray transfer of a Sizing unit is held and is a contract breach (R164). -/
def State.presentUnit (s : State) (p c n t : Nat) (dst : Dest) (decision : Bool) : State :=
  let k := s.ticket t
  if 0 < k.skip then (s.modTicket t fun k => { k with skip := k.skip - 1 }).emit (.gate p (some t) false)
  else if k.state = .free && 4 ≤ k.last then s.emit (.gate p (some t) false)
  else
    let stray := s.sizingStray c n t dst
    let x : GateXfer := { ticket := some t, dst := dst, decision := decision && descGate (s.unitDesc t), poisoned := k.state == .free && k.last == 3,
                          spec := k.spec && !bit k.checks 5, stray := stray, step := (s.lc n).lstep }
    let s := if dst = .host then s.modCtx c fun y => { y with hosts := y.hosts ++ [(n, none)] } else s
    let s := s.modLc n fun l => { l with gate := l.gate ++ [x] }
    (if stray then s.breach p c 19 k.layer k.oper (some t) else s).drainGate c n
/-- A transfer of a unit whose ticket another unit holds by now: it leaves, poisoned when its own unit closed as poisoned, and is discarded when that
    unit closed without release (R102, R160). -/
def State.presentPrior (s : State) (p c n t : Nat) (dst : Dest) : State :=
  let last := (s.ticket t).prior.2
  if 4 ≤ last then s.emit (.gate p (some t) false)
  else
    let x : GateXfer := { ticket := none, dst := dst, decision := false, poisoned := last == 3, spec := false, stray := false, step := (s.ticket t).rstep }
    let s := if dst = .host then s.modCtx c fun y => { y with hosts := y.hosts ++ [(n, none)] } else s
    (s.modLc n fun l => { l with gate := l.gate ++ [x] }).drainGate c n
/-- RELEASE_GATE_TRANSFER (R99, R100, R112): a transfer passes the gate, or is held for its unit or behind an earlier one. -/
def execReleaseGateTransfer (core : Nat) (ticket : Option UnitRef) (dst : Dest) (words decision : List Nat) (last : Bool) (s : State) :
    Host.Outcome State Fault Refusal :=
  guardId (validCore core && (match ticket with | some u => decide (u.ticket < 221184) | none => true) &&
    (match dst with | .lc m => decide (m < 13824) | _ => true))
    (match (match s.replaysOn core with | some n => some n | none => s.lcOf core) with
     | none => s
     | some n => match s.lcCtx n with
       | none => s
       | some c =>
         match ticket with
         | some u =>
           let t := u.ticket
           if t / 16 ≠ n then s
           else if u.rseq.all (· == (s.ticket t).rseq) then (s.outWords core t words decision last).presentUnit core c n t dst (!decision.isEmpty)
           else s.presentPrior core c n t dst
         | none =>
           let s := if dst = .host then s.modCtx c fun y => { y with hosts := y.hosts ++ [(n, none)] } else s
           (s.modLc n fun l =>
             { l with gate := l.gate ++ [{ ticket := none, dst := dst, decision := false, poisoned := false, spec := false, stray := false,
                                           step := l.lstep }] }).drainGate c n)

/-! ## The pool (R157) -/

/-- The active Vat lends the lowest block of its reserve to the die that has waited longest. -/
def State.lendPool (s : State) : State :=
  match s.sh.poolWait, (List.range 160).find? fun b => (tget none s.sh.pool b).isNone with
  | d :: rest, some b =>
    ((s.modSh fun h => { h with poolWait := rest, pool := tset none h.pool b (some d) }).mirror).vatSend 0x91 0 d [b]
  | _, _ => s
/-- POOL_BLOCK_RETURN (R157): the agent returns its highest block, wholly free for 1 ms, when it holds more than one. -/
def execPoolBlockReturn (die : Nat) (s : State) : Host.Outcome State Fault Refusal :=
  guardId (isCompute die)
    (let l := s.dieBlocks die
     match l.getLast? with
     | some b =>
       if 1 < l.length && (poolIds b).all (fun t => (s.ticket t).state == .free) then
         (((s.modSh fun h => { h with pool := tset none h.pool b none }).mirror).toVat die 0x91 [b]).lendPool
       else s
     | none => s)
/-- The words of a ticket entry (Table 5.1). -/
def ticketWords (t : Nat) (k : Ticket) : List Nat :=
  let st := match k.state with | .free => 0 | .opened => 1 | .await => 2 | .triage => 3
  [st * 2 ^ 29 + k.last * 2 ^ 26 + k.level * 2 ^ 24 + b2n k.remote * 2 ^ 23 + b2n k.cross * 2 ^ 22 + (if st = 3 then k.primary % 32 else 0) * 2 ^ 17 +
     b2n k.spec * 2 ^ 16 + k.nreplay * 2 ^ 12 + k.ctx,
   k.layer * 2 ^ 16 + k.oper, k.rseq, (if t < 221184 then t / 16 else k.lc) * 2 ^ 18 + (if t < 221184 then k.pool else t), k.rstep % 2 ^ 32, bits k.rstep 32 32,
   k.pgrp * 2 ^ 16 + k.gen * 2 ^ 8, 0]
/-- TICKET_READ (R156, R427): a Tenant reads only entries of its contexts. -/
def execTicketRead (rq : Req) (ticket : Nat) (s : State) : Host.Outcome State Fault Refusal :=
  .next (s.command (.ticketRead rq ticket) rq { code := 0x0500, least := .tenant, kind := .read } [] (decide (ticket < 262144)) fun s =>
    if !s.inRange rq (s.ticket ticket).ctx then s.refuse rq 0x0500 stDenied 5
    else s.finish rq 0x0500 stOk [] ((ticketWords ticket (s.ticket ticket)).map fun w => (32, w)))

end Sys2Proof.Machine
end

