-- ==== Sys2Proof/Machine/Marks.lean ====
section
/-! DEFINITION. Watermarks gathered, read, verified and located, and the comparison of replicas (R135-R155). -/

namespace Sys2Proof.Machine

/-! ## Comparing records (R141) -/

/-- A record without POISONED and PARTIAL. -/
def comparable (r : DigestRec) : Bool := r.flags % 4 == 0
/-- Two records hold the same digest of the same elements. -/
def sameDigest (a b : DigestRec) : Bool := a.count == b.count && a.d0 == b.d0 && a.d1 == b.d1
/-- Two records are of one TENSOR and PASS. -/
def samePass (a b : DigestRec) : Bool := a.tensor == b.tensor && a.pass == b.pass
/-- Two records agree (R141). -/
def agrees (a b : DigestRec) : Bool := samePass a b && sameDigest a b && comparable a && comparable b
/-- Two records of one TENSOR and PASS mismatch: both are comparable and they differ. -/
def mismatch (a b : DigestRec) : Bool := samePass a b && comparable a && comparable b && !sameDigest a b
/-- A free parameter of an event record of this chapter (log 24). -/
def State.freeParam (s : State) : Nat × State := let v := s.draw; (Config.recordParam v.1 % 2 ^ 24, v.2)
/-- An event record of this chapter with its first parameter; the manual lays out none of them, and the others are free values (log 24). -/
def State.markRecord (s : State) (code severity source p1 : Nat) : State :=
  let b := s.freeParam
  let c := b.2.freeParam
  c.2.record code severity source p1 b.1 c.1

/-! ## Locating a divergence (R147) -/

/-- A targeted or diagnostic Beater run is queued on a core, once; a triage verdict becomes the run's (R181, R190). -/
def State.queueBeat (s : State) (p kind why : Nat) : State :=
  s.modDie (coreDie p) fun d =>
    let mine := fun b : BeatRun => b.core == coreIndex p && b.kind == kind
    if d.beater.queue.any mine then
      { d with beater := { d.beater with queue := d.beater.queue.map fun b => if mine b && why != 0xF then { b with why := why } else b } }
    else { d with beater := { d.beater with queue := d.beater.queue ++ [{ core := coreIndex p, kind := kind, why := why }] } }
/-- A record mismatches one of the reference's records of a tensor, an operator or a layer. -/
def refMismatch (refs : List RefRec) (r : DigestRec) : Bool := refs.any fun x => x.lc.isNone && mismatch r x.digest
/-- The first layer record of a context in the log, oldest first, that mismatches the reference (Table 4.4 step 1). -/
def State.badLayer (s : State) (c : Nat) (refs : List RefRec) : Option LogEntry :=
  s.sh.wmLog.reverse.find? fun e => e.ctx == c && bit e.digest.flags 2 && refMismatch refs e.digest
/-- The first operator record of a layer's pass, in the plan's schedule order, that mismatches the reference (Table 4.4 step 2). -/
def State.badOper (s : State) (c : Nat) (refs : List RefRec) (l : LogEntry) : Option LogEntry :=
  match (s.ctx c).plan with
  | none => none
  | some p => (p.layerOps.filter fun o => o.1 == l.layer).findSome? fun o =>
      s.sh.wmLog.find? fun e => e.ctx == c && !bit e.digest.flags 2 && e.layer == o.1 && e.oper == o.2 && e.digest.pass == l.digest.pass &&
        refMismatch refs e.digest
/-- The logical cores whose shard record of an operator's pass mismatches the reference's, with the core that carried each at that pass; none unless the
    pass is still in every ring involved (Table 4.4 steps 3 and 4). -/
def State.badShards (s : State) (c : Nat) (e : LogEntry) (refs : List RefRec) : List (Nat × Nat) :=
  let l := s.opLcs c e.layer e.oper
  let shard := fun n : Nat => (s.lc n).shards.findIdx? fun r => samePass r e.digest
  if l.all fun n => (shard n).isSome then
    l.filterMap fun n =>
      let i := (shard n).getD 0
      if refs.any fun x => x.lc == some n && mismatch ((s.lc n).shards.getD i default) x.digest then some (n, (s.lc n).ringCores.getD i 0xFFFF) else none
  else []
/-- Location at tensor level in the context of an expelled replica, after its teardown (R154): the first record of a lost tensor in the log that mismatches
    the majority's, and the logical cores that wrote any such tensor, with the cores that carried them. -/
def State.locateLost (s : State) (c : Nat) (refs : List RefRec) : Nat × Nat × Nat × Nat × List (Nat × Nat) :=
  let bad := s.sh.wmLog.reverse.filter fun e => e.ctx == c && (s.ctx c).lost.any (fun x => x.id == e.digest.tensor) && refMismatch refs e.digest
  match bad with
  | [] => (0, 0, 0, 0xFFFF, [])
  | e :: _ => (2, e.layer, e.digest.pass, e.oper, (((s.ctx c).lost.filter fun x => bad.any fun e => e.digest.tensor == x.id).flatMap (·.cores)).eraseDups)
/-- The result of Table 4.4: its code (0 LOCATED_NONE, 1 LOCATED_OPERATOR, 2 LOCATED_CORE; log 103), the layer, the pass, the operator (0xFFFF for
    none) and the logical cores found, with the cores that carried them. Where a layer's record mismatches and none of its operators' does, Table 4.4 gives
    no result: 0, with that layer and pass, is the model's (DESIGN CHOICE, log 129). -/
def State.locate (s : State) (c : Nat) (refs : List RefRec) (samePlan : Bool) : Nat × Nat × Nat × Nat × List (Nat × Nat) :=
  if !(s.ctx c).lost.isEmpty then s.locateLost c refs
  else match s.badLayer c refs with
  | none => (0, 0, 0, 0xFFFF, [])
  | some l =>
    match s.badOper c refs l with
    | none => (0, l.layer, l.digest.pass, 0xFFFF, [])
    | some o =>
      let bad := if samePlan then s.badShards c o refs else []
      (if bad.isEmpty then 1 else 2, l.layer, l.digest.pass, o.oper, bad)
/-- Location runs: targeted Beater runs are queued on the physical cores found, and WM_LOCATED is written with the result code (Table 4.4, log 103). -/
def State.runLocate (s : State) (c : Nat) (refs : List RefRec) (samePlan : Bool) : State :=
  let l := s.locate c refs samePlan
  (each (l.2.2.2.2.filter fun x => validCore x.2) (fun s x => s.queueBeat x.2 1 0xF) s).markRecord 0x0402 1 (pkgSource 3) l.1
/-- An expected record mismatches (R146): WM_EXPECT is counted, the context is faulted, and location runs against the expected records. The
    spec gives 0x0401 and 0x0402 no severity and no source: ERROR and NOTICE, and WM_EXPECT, are the model's (DESIGN CHOICE, log 104). -/
def State.expectMismatch (s : State) (c layer oper : Nat) : State :=
  let refs := match (s.ctx c).plan with | some p => p.expected | none => []
  let d : Detail := { ctx := c, p2 := layer, p3 := oper }
  let v := s.freeParam
  let s := (v.2.markRecord 0x0401 3 (pkgSource 3) v.1).vatCount (pkgSource 3) d
  (s.vatCount (ctxSource c 0) d).runLocate c refs true

/-! ## Gathering at the Vat (R144) -/

/-- A record enters the watermark log. -/
def State.logMark (s : State) (e : LogEntry) : State := (s.modSh fun h => { h with wmLog := (e :: h.wmLog).take 65536 }).mirror
/-- The package record of an operator's pass being combined. -/
def State.opMark (s : State) (c layer oper pass : Nat) : Option OpMark :=
  (s.ctx c).opMarks.find? fun x => x.key == operKey layer oper && x.pass == pass
/-- An operator's record of a pass is whole: every logical core's part has left in a die record, and that record has come. -/
def State.opWhole (s : State) (c layer oper pass : Nat) : Bool :=
  match s.opMark c layer oper pass with
  | none => false
  | some x => (s.opLcs c layer oper).all fun m => (s.ctx c).opSent.any fun e =>
      e.lc == m && e.exec == execKey pass (operKey layer oper) && decide (e.ord < (x.got.filter fun g => g.1 == e.die).length)
/-- The combination of the die records of an operator's pass that have come (R140). -/
def State.markRec (s : State) (c layer oper : Nat) (m : OpMark) : DigestRec :=
  combineAll (s.opTotal c layer oper) ((m.got.map (·.2.tensor)).headD 0) m.pass (m.got.map (·.2))
/-- The layer's record of a pass is formed when every operator of the layer has completed; it combines their records (R140, R144). -/
def State.layerMark (s : State) (c layer pass : Nat) : State :=
  match (s.ctx c).plan with
  | none => s
  | some p =>
    let ops := p.layerOps.filter fun e => e.1 == layer
    if ops.isEmpty || !(ops.all fun e => s.opWhole c e.1 e.2 pass) then s
    else
      let recs := ops.filterMap fun e => (s.opMark c e.1 e.2 pass).map (s.markRec c e.1 e.2)
      let total := (ops.map fun e => s.opTotal c e.1 e.2).foldl (· + ·) 0
      let start : DigestRec := { tensor := 0xFFFF0000 + layer, pass := pass, count := 0, flags := 4, d0 := 0, d1 := 0 }
      let r := recs.foldl (combineRec total) start
      let mine := fun key : Nat => ops.any fun e => operKey e.1 e.2 == key
      let s := s.modCtx c fun x =>
        { x with opMarks := x.opMarks.filter fun m => m.pass != pass || !mine m.key
                 opSent := x.opSent.filter fun e => e.exec / 2 ^ 32 != pass || !mine (e.exec % 2 ^ 32)
                 opLogged := each ops (fun t e => tset 0 t (operKey e.1 e.2) (pass + 1)) x.opLogged }
      (s.checkTotal none total r { ctx := c, p2 := layer, p3 := 0xFFFF }).logMark { digest := r, ctx := c, layer := layer, oper := 0xFFFF }
/-- A package operator record is whole: it enters the log, a canary's expected record is compared, and the layer's record may follow (R144, R146). -/
def State.operMark (s : State) (c layer oper : Nat) (r : DigestRec) : State :=
  let s := s.logMark { digest := r, ctx := c, layer := layer, oper := oper }
  let s := match (s.ctx c).plan with
    | some p => if refMismatch p.expected r then s.expectMismatch c layer oper else s
    | none => s
  s.layerMark c layer r.pass
/-- WM_DIE (R140, R144, R146): a die record is combined, once, into the package operator record of its pass; a record that a die repeats is known by its
    content (log 136). -/
def execWmDie (h : Hdr) (ctx layer oper : Nat) (r : DigestRec) (s : State) : Host.Outcome State Fault Refusal :=
  guardId (decide (ctx < 4096) && isDie h.src && decide (layer < 65536) && decide (oper < 65536))
    (s.recvVat (.wmDie h ctx layer oper r) h 0x43 fun s =>
      let key := operKey layer oper
      if (s.ctx ctx).plan.isNone || (s.ctx ctx).state = 3 || r.pass < tget 0 (s.ctx ctx).opLogged key then s
      else
        let old := (s.opMark ctx layer oper r.pass).getD { key := key, pass := r.pass, got := [] }
        if old.got.contains (h.src, r) then s
        else
          let m := { old with got := old.got ++ [(h.src, r)] }
          let whole := s.opWhole ctx layer oper r.pass
          let s := s.modCtx ctx fun x => { x with opMarks := (x.opMarks.filter fun y => y.key != key || y.pass != r.pass) ++ [m] }
          let sum := s.markRec ctx layer oper m
          let s := if 2 ≤ m.got.length then s.checkTotal none (s.opTotal ctx layer oper) sum { ctx := ctx, p2 := layer, p3 := oper } else s
          if s.opWhole ctx layer oper r.pass && !whole then s.operMark ctx layer oper sum else s)

/-! ## Commands (R137, R144, R146, R147) -/

/-- WM_KEY_SET (R137, Table 4.8): before the context launches; each lane is clamped into 2 to p - 2. -/
def execWmKeySet (rq : Req) (s0 s1 : Nat) (s : State) : Host.Outcome State Fault Refusal :=
  .next (s.command (.wmKeySet rq s0 s1) rq { code := 0x0400, least := .tenant, kind := .other } [rq.ctx] true fun s =>
    if 2 ≤ (s.ctx rq.ctx).state then s.finish rq 0x0400 stBusy [] []
    else
      let a := clampTo 0 64 2 (p61 - 2) s0
      let b := clampTo 1 64 2 (p61 - 2) s1
      ((s.modCtx rq.ctx fun x => { x with s0 := a.1, s1 := b.1 }).mirror).finish rq 0x0400 stOk (a.2 ++ b.2) [])
/-- The fields of a digest record (Table 4.2). -/
def recFields (r : DigestRec) : List (Nat × Nat) := [(32, r.tensor), (32, r.pass), (48, r.count), (16, r.flags), (64, r.d0), (64, r.d1)]
/-- WM_READ (R144, R427): entries of the log, oldest first; a Tenant sees its own contexts' entries. -/
def execWmRead (rq : Req) (first count : Nat) (s : State) : Host.Outcome State Fault Refusal :=
  .next (s.command (.wmRead rq first count) rq { code := 0x0401, least := .tenant, kind := .read } [] (decide (first < 65536)) fun s =>
    let k := clampTo 1 8 1 12 count
    let l := ((s.sh.wmLog.reverse.filter fun e => s.inRange rq e.ctx).drop first).take k.1
    s.finish rq 0x0401 stOk k.2 (l.flatMap fun e => recFields e.digest ++ [(16, e.ctx), (16, e.layer), (16, e.oper), (16, 0)]))
/-- The context is held or not launched (R146). -/
def State.ctxStill (s : State) (c : Nat) : Bool := (s.ctx c).state == 1 || (s.ctxCores c).all fun p => !(s.holdsOn p).isEmpty
/-- WM_VERIFY (R146): the agents reread the context's tensor shards while it is held or not launched. -/
def execWmVerify (rq : Req) (s : State) : Host.Outcome State Fault Refusal :=
  .next (s.command (.wmVerify rq) rq { code := 0x0402, least := .tenant, kind := .other } [rq.ctx] true fun s =>
    if (s.ctx rq.ctx).plan.isNone || (s.ctx rq.ctx).state = 3 then s.finish rq 0x0402 stNotReady [] []
    else if !s.ctxStill rq.ctx || s.sh.verifying.contains rq.ctx then s.finish rq 0x0402 stBusy [] []
    else (s.modSh fun h => { h with verifying := insertNat rq.ctx h.verifying }).beginRun rq 0x0402 rq.ctx 0 [])
/-- The expected records of constant tensors: those that no operator writes (R146). -/
def constExpected (p : Plan) : List DigestRec :=
  (p.expected.filter fun e => e.lc.isNone && !(p.tensors.any fun t => t.id == e.digest.tensor && p.layerOps.contains (t.layer, t.oper))).map (·.digest)
/-- WM_VERIFY_READ_DONE (R146): the records are compared and the command completes. -/
def execWmVerifyReadDone (ctx : Nat) (recs : List DigestRec) (s : State) : Host.Outcome State Fault Refusal :=
  guardId (decide (ctx < 4096))
    (if !s.sh.verifying.contains ctx then s
     else
       let s := s.modSh fun h => { h with verifying := h.verifying.filter (· != ctx) }
       let l := match (s.ctx ctx).plan with | some p => constExpected p | none => []
       let ok := (l.filter fun e => recs.any (agrees e)).length
       let bad := l.filter fun e => recs.any (mismatch e)
       let s := match bad with
         | e :: _ =>
           let x : Option PlanTensor := (s.ctx ctx).plan.bind fun p => p.tensors.find? fun t => t.id == e.tensor
           s.expectMismatch ctx (match x with | some x => x.layer | none => 0) (match x with | some x => x.oper | none => 0)
         | [] => s
       s.endOp 0x0402 ctx stOk [(32, ok), (32, bad.length), (32, l.length - ok - bad.length)])
/-- WM_LOCATE (R147): the reply gives the result, the layer, the pass, the operator and up to 64 logical and physical cores. The
    codes, the fields' order and widths, and 0xFFFF for none are the model's (DESIGN CHOICE, log 103). -/
def execWmLocate (rq : Req) (refs : List RefRec) (samePlan : Bool) (s : State) : Host.Outcome State Fault Refusal :=
  .next (s.command (.wmLocate rq refs samePlan) rq { code := 0x0403, least := .tenant, kind := .read } [rq.ctx]
    (refs.all fun r => match r.lc with | some n => decide (n < 13824) | none => true) fun s =>
    let l := s.locate rq.ctx refs samePlan
    let cores := l.2.2.2.2
    let s := s.runLocate rq.ctx refs samePlan
    s.finish rq 0x0403 stOk []
      ([(8, l.1), (16, l.2.1), (32, l.2.2.1), (16, l.2.2.2.1), (16, cores.length - 64)] ++ (cores.take 64).flatMap fun x => [(16, x.1), (16, x.2)]))

/-! ## Replica comparison (R148-R155) -/

/-- A restored context's comparison of its iteration is armed to run before its barrier (Table 9.7 step 6, Table 4.8). -/
def State.armRerun (s : State) (c : Nat) : State :=
  match (s.ctx c).rerun, (s.ctx c).replica with
  | some i, some o => if o.pending.isSome then s else s.beginCompare c i
  | _, _ => s
/-- The taps have folded the replica-state tensors of a restored set as they were written: the dies hold its partials (R142, R149). A tensor's elements
    count at the first logical core of its operator (DESIGN CHOICE, log 137). -/
def State.restoredParts (s : State) (c : Nat) (set : List TensorPart) : State :=
  match (s.ctx c).plan with
  | none => s
  | some p =>
    each (p.tensors.filter (·.replica)) (fun s x =>
      let l := (set.filter fun e => e.id == x.id).flatMap (·.elems)
      let d := digestOf (tensorKey (s.ctx c).s0 x.id) (tensorKey (s.ctx c).s1 x.id) l
      let n := (s.opLcs c x.layer x.oper ++ p.lcs.map (·.lc)).headD 0
      if l.isEmpty then s
      else s.addRepl c n (operKey x.layer x.oper) { tensor := x.id, pass := 0, count := l.length, flags := if l.length = x.total then 0
                                                    else 2, d0 := d.1, d1 := d.2 })
      (s.dropRepl c)
/-- REPLICA_CFG (R148): while a verdict is pending the change waits for it. -/
def execReplicaCfg (rq : Req) (group r index k : Nat) (s : State) : Host.Outcome State Fault Refusal :=
  .next (s.command (.replicaCfg rq group r index k) rq { code := 0x0404, least := .operator, kind := .other } [rq.ctx] true fun s =>
    if (s.ctx rq.ctx).state = 0 || (s.ctx rq.ctx).state = 3 then s.finish rq 0x0404 stNotReady [] []
    else
      let cr := clampTo 1 8 2 255 r
      let ci := clampTo 2 8 0 (cr.1 - 1) index
      let ck := clampOr 3 16 1 256 16 k
      let s := s.modCtx rq.ctx fun x =>
        { x with replica := match x.replica with
            | some o => if o.pending.isSome then some { o with next := some (group, cr.1, ci.1, ck.1) }
              else some { o with group := group, r := cr.1, index := ci.1, k := ck.1 }
            | none => some { group := group, r := cr.1, index := ci.1, k := ck.1 } }
      (s.armRerun rq.ctx).mirror.finish rq 0x0404 stOk (cr.2 ++ ci.2 ++ ck.2) [])
/-- The replica-state tensors of a context, with the cores that wrote them as the shard rings name them, are kept for the location at tensor level that
    WM_LOCATE runs when the fabric manager supplies the majority's records (R154, log 138). -/
def State.keepLost (s : State) (c : Nat) : State :=
  match (s.ctx c).plan with
  | none => s
  | some p => s.modCtx c fun x => { x with lost := (p.tensors.filter (·.replica)).map fun t =>
      { id := t.id, layer := t.layer, oper := t.oper
        cores := ((s.opLcs c t.layer t.oper).flatMap fun n => (((s.lc n).shards.zip (s.lc n).ringCores).filter fun e => e.1.tensor == t.id).map fun e => (n, e.2)).eraseDups } }
/-- REPLICA_EXPEL (R154): the context of an expelled replica is torn down; what its location needs is kept. -/
def execReplicaExpel (rq : Req) (group iter : Nat) (s : State) : Host.Outcome State Fault Refusal :=
  .next (s.command (.replicaExpel rq group iter) rq { code := 0x0405, least := .operator, kind := .other } [rq.ctx] (decide (iter < 2 ^ 32)) fun s =>
    match (s.ctx rq.ctx).replica with
    | some o =>
      if o.group = group then ((s.keepLost rq.ctx).startTeardown rq.ctx 4).finish rq 0x0405 stOk [] [] else s.finish rq 0x0405 stBadParam [] []
    | none => s.finish rq 0x0405 stNotReady [] [])
/-- REPLICA_MEMBERS (R154): the new membership of a surviving package; its context stays held at the aborted barrier. -/
def execReplicaMembers (rq : Req) (r index : Nat) (s : State) : Host.Outcome State Fault Refusal :=
  .next (s.command (.replicaMembers rq r index) rq { code := 0x0406, least := .operator, kind := .other } [rq.ctx] true fun s =>
    if (s.ctx rq.ctx).replica.isNone then s.finish rq 0x0406 stNotReady [] []
    else
      let cr := clampTo 0 8 2 255 r
      let ci := clampTo 1 8 0 (cr.1 - 1) index
      ((s.modReplica rq.ctx fun o => { o with r := cr.1, index := ci.1 }).mirror).finish rq 0x0406 stOk (cr.2 ++ ci.2) [])
/-- REPL_PART (R149, R150): with the last die's partial the replica record goes into the collective's digest slot. -/
def execReplPart (h : Hdr) (ctx iter : Nat) (r : DigestRec) (s : State) : Host.Outcome State Fault Refusal :=
  guardId (decide (ctx < 4096) && isDie h.src)
    (s.recvVat (.replPart h ctx iter r) h 0x44 fun s =>
      match (s.ctx ctx).replica with
      | none => s
      | some o => if (s.ctx ctx).state = 3 then s else if o.pending = some iter &&
        o.inPass.isNone then (s.modReplica ctx fun o => { o with parts := tset default o.parts h.src r }).formReplica ctx else s)
/-- The records of each replica index, combined; none when a replica's is missing (R151). -/
def replicaRecs (total r iter : Nat) (recs : List DigestRec) : List (Option DigestRec) :=
  (List.range r).map fun i =>
    let l := recs.filter fun x => x.tensor == 0xFFFE0000 + i && x.pass == iter
    if l.isEmpty then none else some (replicaRec total i iter l)
/-- Two replicas' records agree: R141, their indices apart. -/
def replicasAgree (a b : Option DigestRec) : Bool :=
  match a, b with | some x, some y => x.pass == y.pass && sameDigest x y && comparable x && comparable y | _, _ => false
/-- The replicas whose records agree with a replica's. -/
def agreeing (l : List (Option DigestRec)) (i : Nat) : Nat := (l.filter fun x => replicasAgree (l.getD i none) x).length
/-- The bitmap of the replicas that a test picks. -/
def replicaMap (r : Nat) (p : Nat → Bool) : Nat := ((List.range r).filter p).foldl (fun a i => a + 2 ^ i) 0
/-- The verdict of Table 4.6: its code (0 AGREE, 1 EXPEL, 2 NO_MAJORITY, 3 SPLIT, 5 CONFIG; 4 UNDECIDED and 6 DIGEST_PATH come of Table 4.7), the bitmap
    and the record to report. The manual numbers no verdict, and gives CONFIG and
    DIGEST_PATH no bitmap: these codes and a bitmap of 0 are the model's (DESIGN CHOICE, log 105). -/
def replicaVerdict (total r iter own : Nat) (recs : List DigestRec) (conflict : Bool) : Nat × Nat × DigestRec :=
  let l := replicaRecs total r iter recs
  let mine := (l.getD own none).getD default
  let big := (List.range r).find? fun i => r < 2 * agreeing l i
  if conflict || l.any fun x => match x with | some y => decide (total < y.count) | none => false then (5, 0, mine)
  else match big with
    | some i =>
      let out := replicaMap r fun j => !replicasAgree (l.getD i none) (l.getD j none)
      (if out = 0 then 0 else 1, out, (l.getD i none).getD default)
    | none => (if r = 2 then 3 else 2, 2 ^ r - 1, mine)
/-- The event code of a verdict. -/
def replicaEvent (v : Nat) : Nat :=
  match v with | 1 => 0x0410 | 2 => 0x0411 | 3 => 0x0412 | 4 => 0x0413 | 5 => 0x0414 | _ => 0x0415
/-- The REPLICA_VERDICT message (R153). -/
def State.sendReplicaVerdict (s : State) (o : Replica) (iter v map : Nat) (r : DigestRec) : State :=
  s.emit (.vendor 5 [o.group, iter, v, o.r, map, r.tensor, r.pass, r.count, r.flags, r.d0, r.d1])
/-- A verdict other than AGREE: its event, with the low 72 bits of the bitmap as its parameters, its count at REPLICA_DISAGREE, and its message (R151,
    R153, Table 7.5). The event's severity WARN, its source and those parameters are the model's (DESIGN CHOICE, log 106). -/
def State.disagreed (s : State) (c : Nat) (o : Replica) (iter v map : Nat) (r : DigestRec) : State :=
  ((s.record (replicaEvent v) 2 (pkgSource 4) (map % 2 ^ 24) (bits map 24 24) (bits map 48 24)).vatCount (pkgSource 4)
    { ctx := c, p2 := 0, p3 := 0 }).sendReplicaVerdict o iter v map r
/-- The hold of a context's cores from a verdict on, of reason 0x6 (Table 2.5, log 107). -/
def replicaKey : Nat := holdKey 6 1
/-- Every core of a replica is held (Table 4.6 NO_MAJORITY, Table 4.7). -/
def State.holdReplica (s : State) (c : Nat) : State := each (s.ctxCores c) (fun s p => s.holdCore p replicaKey) s
/-- The cores of a replica are released. -/
def State.freeReplica (s : State) (c : Nat) : State := each (s.ctxCores c) (fun s p => s.unholdCore p replicaKey) s
/-- A comparison has ended: a configuration that waited for its verdict applies (R148), and the dies drop their partials. -/
def State.endCompare (s : State) (c : Nat) : State :=
  let s := s.modReplica c fun o =>
    let o := { o with pending := none, parts := [], slot := none }
    match o.next with | some n => { o with group := n.1, r := n.2.1, index := n.2.2.1, k := n.2.2.2, next := none } | none => o
  ((s.modCtx c fun x => { x with rerun := none }).dropRepl c).mirror
/-- The barrier of a comparison is signalled and the job goes on (Table 4.5 step 5). -/
def State.signalBarrier (s : State) (c : Nat) : State :=
  (((s.emit (.barrier c 0)).modReplica c fun o => { o with aborted := false }).freeReplica c).endCompare c
/-- The barrier is completed with REPLICA_ABORT (Table 4.5 step 6). -/
def State.abortBarrier (s : State) (c : Nat) : State := (s.emit (.barrier c 1)).modReplica c fun o => { o with aborted := true }
/-- A breakpoint or a global stop holds a context: its comparison resumes when the hold ends (Table 4.8). -/
def State.compareWaits (s : State) (c : Nat) : Bool := s.dbg.gstop.isSome || (s.ctx c).brkHold.isSome
/-- SPLIT (Table 4.7 step 1): the context is held, and its agents are ordered to reread every replica-state tensor. -/
def State.orderReread (s : State) (c : Nat) : State := each (s.replicaDies c) (fun s d => s.vatSend 0x80 0 d [c]) (s.holdReplica c)
/-- A record combined for a replica index whose COUNT is above the total counts WM_RECORD (R140). -/
def State.checkSlots (s : State) (c : Nat) (l : List (Option DigestRec)) : State :=
  each l (fun s x => match x with | some r => s.checkTotal none (s.replicaTotal c) r { ctx := c, p2 := 0, p3 := 0 } | none => s) s
/-- REPLICA_SLOT_READ (R150, R151, R153): the last record has been read and the verdict is reached. -/
def execReplicaSlotRead (ctx : Nat) (recs : List DigestRec) (conflict : Bool) (s : State) : Host.Outcome State Fault Refusal :=
  guardId (decide (ctx < 4096))
    (s.whenActing (.replicaSlotRead ctx recs conflict) fun s => match (s.ctx ctx).replica with
     | none => s
     | some o => match o.pending with
       | none => s
       | some i =>
         if s.compareWaits ctx then s.modReplica ctx fun o => { o with slot := some (recs, conflict) }
         else
           let s := s.checkSlots ctx (replicaRecs (s.replicaTotal ctx) o.r i recs)
           let v := replicaVerdict (s.replicaTotal ctx) o.r i o.index recs conflict
           if v.1 = 0 then
             let s := s.modSh fun h => { h with replAgree := satAdd 32 h.replAgree 1, replMarks := h.replMarks.filter (· != (o.group, i)) }
             (s.signalBarrier ctx).sendReplicaVerdict o i 0 0 v.2.2
           else
             let s := (s.abortBarrier ctx).disagreed ctx o i v.1 v.2.1 v.2.2
             if v.1 = 3 then s.orderReread ctx else (if v.1 = 2 then s.holdReplica ctx else s).endCompare ctx)
/-- A replica is expelled by the procedure of Table 4.7, which has no majority to report (R153): a survivor stays at the aborted barrier, an expelled
    replica held. -/
def State.expelTwo (s : State) (c : Nat) (o : Replica) (i map : Nat) (own : DigestRec) : State :=
  ((if bit map o.index then s else s.freeReplica c).disagreed c o i 1 map own).endCompare c
/-- Two records of one iteration that can be compared hold different digests (R141). -/
def differs (a b : DigestRec) : Bool := comparable a && comparable b && !sameDigest a b
/-- Step 3 (Table 4.7): the rereads agree, so a digest path is at fault. Each tap whose in-passing shard record differs from its reread shard record runs
    the self-check and a targeted run, and the barrier is signalled. -/
def State.digestPath (s : State) (c : Nat) (o : Replica) (i : Nat) (own : DigestRec) : State :=
  let bad := o.shards.filterMap fun e =>
    match (s.lc e.1).shards.findIdx? fun r => samePass r e.2 with
    | some j => if differs ((s.lc e.1).shards.getD j default) e.2 then some ((s.lc e.1).ringCores.getD j 0xFFFF) else none
    | none => none
  let s := each (bad.filter validCore) (fun s p => (s.queueBeat p 1 0xF).vatSend 0x80 0 (coreDie p) [p]) s
  (s.disagreed c o i 6 0 own).signalBarrier c
/-- The record of a tensor in a list of shard records of one context, combined; none where no shard is of the tensor. -/
def tensorRec (total id : Nat) (l : List DigestRec) : Option DigestRec :=
  match l.filter fun r => r.tensor == id with | [] => none | r :: m => some (combineAll total id r.pass (r :: m))
/-- The cores that wrote a tensor since the last restore, as the shard rings name them. -/
def State.writersOf (s : State) (c : Nat) (x : PlanTensor) : List Nat :=
  (s.opLcs c x.layer x.oper).flatMap fun n =>
    ((((s.lc n).shards.zip (s.lc n).ringCores).take (s.lc n).ringNew).filter fun e => e.1.tensor == x.id).map (·.2)
/-- Step 6 at a marked iteration, once its runs have ended and the other replica has named its result: one failing replica is expelled, or the verdict is
    UNDECIDED. -/
def State.decideMarked (s : State) (c : Nat) : State :=
  match (s.ctx c).replica with
  | none => s
  | some o => match o.pending, o.otherFailing, o.located && o.runs.isEmpty with
    | some i, some b, true =>
      let own := o.reread.getD default
      if o.runFailed != b then s.expelTwo c o i (2 ^ o.index * b2n o.runFailed + 2 ^ (1 - o.index) * b2n b) own
      else ((s.disagreed c o i 4 3 own).holdReplica c).endCompare c
    | _, _, _ => s
/-- Step 6, first part: location at tensor level between the replicas, and a targeted run on every core that wrote a differing tensor since the restore. -/
def State.locateBetween (s : State) (c : Nat) (o : Replica) (others : List DigestRec) : State :=
  let tensors : List PlanTensor := match (s.ctx c).plan with | some p => p.tensors.filter (·.replica) | none => []
  let diff := tensors.filter fun x =>
    match tensorRec x.total x.id (o.shards.map (·.2)), others.find? fun r => r.tensor == x.id with
    | some a, some b => samePass a b && differs a b
    | _, _ => false
  let cores := ((diff.flatMap (s.writersOf c)).filter validCore).eraseDups
  let s := each cores (fun s p => s.queueBeat p 1 0xF) s
  (s.modReplica c fun o => { o with located := true, runs := cores }).markRecord 0x0402 1 (pkgSource 3) (if diff.isEmpty then 0
    else if cores.isEmpty then 1 else 2)
/-- A targeted run of a core is queued or under way. -/
def State.beatOpen (s : State) (p : Nat) : Bool :=
  let b := (s.die (coreDie p)).beater
  (b.kind == 1 && b.target == some (coreIndex p)) || b.queue.any fun r => r.core == coreIndex p && r.kind == 1
/-- A targeted run that step 6 waits for has ended. -/
def State.runEnded (s : State) (p : Nat) (failed : Bool) : State :=
  each ((s.sh.ctxs.filter fun e => e.2.replica.any fun o => o.runs.contains p).map (·.1)) (fun s c =>
    (s.modReplica c fun o => { o with runs := o.runs.filter (· != p), runFailed := o.runFailed || failed }).decideMarked c) s
/-- Both rereads have come: Table 4.7 steps 3 to 6. Where both differ from their own in-passing records, both replicas are expelled (DESIGN CHOICE,
    log 109); a reread that cannot be compared differs from nothing, and steps 5 and 6 follow (DESIGN CHOICE, log 109). -/
def State.decideTwo (s : State) (c : Nat) (o : Replica) (i : Nat) (own other otherInPass : DigestRec) (others : List DigestRec) : State :=
  let inPass := o.inPass.getD default
  let s := s.modReplica c fun o => { o with exchange := none }
  if own.pass == other.pass && sameDigest own other && comparable own && comparable other then s.digestPath c o i own
  else
    let moved := 2 ^ o.index * b2n (differs own inPass) + 2 ^ (1 - o.index) * b2n (differs other otherInPass)
    if moved ≠ 0 then s.expelTwo c o i moved own
    else if !s.sh.replMarks.contains (o.group, i) then
      ((s.modSh fun h => { h with replMarks := h.replMarks ++ [(o.group, i)] }).modReplica c fun o => { o with reread := none }).endCompare c
    else s.locateBetween c o others
/-- REPLICA_REREAD_DONE (Table 4.7 steps 1 and 2): the reread shard records combine into the reread replica record, which goes to the fabric manager, in a
    second message of the verdict SPLIT, a form that the spec does not give (DESIGN CHOICE, log 108). -/
def execReplicaRereadDone (ctx : Nat) (shards : List (Nat × DigestRec)) (s : State) : Host.Outcome State Fault Refusal :=
  guardId (decide (ctx < 4096))
    (s.whenActing (.replicaRereadDone ctx shards) fun s => match (s.ctx ctx).replica with
     | none => s
     | some o => match o.pending with
       | some i =>
         let r := replicaRec (s.replicaTotal ctx) o.index i (shards.map (·.2))
         let s := (s.modReplica ctx fun o => { o with reread := some r, shards := shards }).sendReplicaVerdict o i 3 3 r
         match o.exchange with
         | some x => s.decideTwo ctx { o with reread := some r, shards := shards } i r x.1 x.2.1 x.2.2
         | none => s
       | none => s)
/-- REPLICA_REREAD_EXCHANGE (Table 4.7 steps 3 to 6): the other replica's records of a comparison come; at a marked iteration whose location has run, its
    word on whether it has a failing core. -/
def execReplicaRereadExchange (ctx group iter : Nat) (other otherInPass : DigestRec) (tensors : List DigestRec) (otherFailing : Bool) (s : State) :
    Host.Outcome State Fault Refusal :=
  guardId (decide (ctx < 4096))
    (s.whenActing (.replicaRereadExchange ctx group iter other otherInPass tensors otherFailing) fun s => match (s.ctx ctx).replica with
     | none => s
     | some o =>
       if o.pending ≠ some iter || o.group ≠ group then s
       else if o.located then
         (s.modReplica ctx fun o => { o with otherFailing := some otherFailing, runs := o.runs.filter s.beatOpen }).decideMarked ctx
       else match o.reread with
         | some own => s.decideTwo ctx o iter own other otherInPass tensors
         | none => s.modReplica ctx fun o => { o with exchange := some (other, otherInPass, tensors) })

end Sys2Proof.Machine
end

