-- ==== Sys2Proof/Machine/Place.lean ====
section
/-! DEFINITION. Re-placement: fills, replay on the new carrier, the rewritten deckle map, and what follows when no spare is left
(R58, R117, R256-R267). -/

namespace Sys2Proof.Machine

/-! ## The map's consistency (R24, R257) -/

/-- The active Vat's copy of a die's slice is compared with the agent's own: when they differ the copy is reloaded from the agent, and DECKLE_MISMATCH
    is counted (R24). -/
def State.checkDeckle (s : State) (d : Nat) : State :=
  if isCompute d && tget {} s.sh.deckleCopy d != s.slice d then
    (s.modSh fun x => { x with deckleCopy := tset {} x.deckleCopy d (s.slice d) }).vatCount (dieSource d 9) default
  else s
/-- A valid home entry names one SERVICE entry that carries its own logical core (R257). -/
def State.homeAgrees (s : State) (d i : Nat) : Bool :=
  let w := tget 0 (s.die d).home i
  !bit w 31 || s.lcOf (bits w 0 16) == some (bits w 17 14)
/-- The check of R257 on a die's slice after a change: a violation is counted at DECKLE_MISMATCH of the home die, and R24 applies. -/
def State.checkHome (s : State) (d : Nat) : State :=
  if (List.range 144).all (s.homeAgrees d) then s else (s.checkDeckle d).agentCount d (dieSource d 9) default

/-! ## Shared operations -/

/-- Offset of a core source as a physical entry's CAUSE, 0x3F for any other source (Table 8.1). -/
def causeOf (src : Nat) : Nat := if (sourceCore src).isSome then src % 8192 % 48 else 0x3F
/-- A context fault that the active Vat gives (R178, R266), with the layer and operator where they are known (R7): none to a context already in
    teardown. -/
def State.faultCtx (s : State) (c layer oper : Nat) : State :=
  if (s.ctx c).state = 1 || (s.ctx c).state = 2 then s.vatCount (ctxSource c 0) { ctx := c, p2 := layer, p3 := oper } else s
/-- The contexts whose plan uses a logical core. -/
def State.lcUsers (s : State) (n : Nat) : List Nat :=
  (s.sh.ctxs.filter fun e => e.2.state != 0 && (match e.2.plan with | some p => p.lcs.any fun x => x.lc == n | none => false)).map (·.1)
/-- Open tickets of a logical core. -/
def State.openTickets (s : State) (n : Nat) : List Nat := (lcTickets n).filter fun t => (s.ticket t).state != .free
/-- The earliest restart point of a logical core's open tickets, where the replay of Table 8.3 step 4 begins; a step count when it has none. -/
def State.openFrom (s : State) (n freeze : Nat) : Nat := ((s.openTickets n).map fun u => (s.ticket u).rstep).foldl min freeze
/-- What a replay's length exceeds the steps counted while it ran is added to both step counts and to the busy steps (R57, R451). -/
def State.addReplay (s : State) (p n len : Nat) : State :=
  (s.modLc n fun l => { l with lstep := (l.lstep + len) % 2 ^ 64, extra := l.extra + len }).modCore p fun c =>
    { c with pstep := (c.pstep + len) % 2 ^ 64, busy := satAdd 64 c.busy len }
/-- The tap of a logical core accepts a transfer (R165, R274, R277, R308): its tag is not revoked on the die, nor a host's at the host bridge (Table
    8.9), and is the core's own, with the
    generation of its Sizing group or the epoch of its group table; a window write needs an open window, its generation, a granted tag and range, and
    never reaches a ream area (R300). -/
def State.accepts (s : State) (p : Nat) (x : Xfer) : Bool :=
  let l := s.lc x.dstLc
  !(s.die (coreDie p)).revoked.contains x.tag && !(x.src == .host && s.pkg.hostRevoked.contains x.tag) &&
  match x.kind with
  | .plain => l.tag == some x.tag
  | .sizing g gen => l.tag == some x.tag && s.pressGroup (x.tag % 4096) x.dstLc == g && l.gen == gen
  | .window i gen off len =>
    let w := tget {} l.wins i
    let granted := fun b t => bit w.grantv b && t == x.tag
    w.opened && w.gen == gen && decide (w.base ≤ off) && decide (off + len ≤ w.base + w.len) && !s.inReamArea (coreDie p) off len &&
      (w.owner == x.tag || granted 0 w.tag0 || granted 1 w.tag1 || granted 2 w.tag2 || granted 3 w.tag3)
  | .collective g e => l.tag == some x.tag && ((s.ctx (x.tag % 4096)).group.any fun t => t.id == g && t.epoch == e)
/-- The waits that a transfer ends, by where it comes from: a mesh wait for a reply or credit of the logical core awaited, a wait on the host bridge, or
    one on another package (Table 14.8). -/
def State.xferReasons (s : State) (p : Nat) (x : Xfer) : List Nat :=
  match x.src with
  | .lc m => if (s.core p).awaited.all (· == m) then [5] else []
  | .host => [7]
  | .package => [8]
/-- A transfer reaches its target: accepted, it is the reply or credit that a mesh or cross-package wait awaits (R90, R452); discarded, it is counted at
    TGT_DISCARD of the target core and at CTX_DISCARD of the sender's context (R278), a collective one at CTX_DISCARD only (R308). At a parked core it
    waits until the core is unparked (R188). -/
def State.deliverXfer (s : State) (x : Xfer) : State :=
  let c := x.tag % 4096
  let o := (s.lc x.dstLc).oper.getD (0, 0)
  let d : Detail := { ctx := c, p2 := o.1, p3 := o.2 }
  match s.carrier x.dstLc with
  | none => s.agentCount (s.homeDie x.dstLc) (ctxSource c 2) d
  | some p =>
    if (s.core p).parked then
      (if s.accepts p x then s.handshakeParked p (s.xferReasons p x) else s).modCore p fun k => { k with deferred := k.deferred ++ [.xfer x] }
    else if s.accepts p x then s.handshake p (s.xferReasons p x)
    else
      let s := match x.kind with
        | .collective _ _ => s
        | _ => s.agentCount (coreDie p) (coreSource p 30) d
      s.agentCount (coreDie p) (ctxSource c 2) d
/-- What waited for a core's tap takes effect in arrival order, unless it must wait on (R188, R440). A self-check runs only on a frozen or idle core
    (R128). -/
def State.applyKept (s : State) (p : Nat) : State :=
  let l := (s.core p).deferred
  each l (fun s e =>
    match e with
    | .write off v priv tag => s.mtpWriteIn p off v priv tag
    | .verdict t pass => s.takeVerdict t pass
    | .selfTest => if s.cstate p = 2 || s.cstate p = 5 then s.modCore p fun c => { c with selftest := 1 } else s
    | .access x => if (s.core p).parked then s.modCore p fun c => { c with deferred := c.deferred ++ [.access x] } else s.accessPad p x
    | .xfer x => s.deliverXfer x
    | .watch n i w => s.modLc n fun l => { l with watch := tset none l.watch i w }) (s.modCore p fun c => { c with deferred := [] })
/-- The transfers held for a logical core are delivered to its carrier, in arrival order, and the cores that waited for them go on (R259, R452). -/
def State.releaseXfers (s : State) (n : Nat) : State :=
  let l := (s.lc n).heldXfers
  let s := each l State.deliverXfer (s.modLc n fun l => { l with xferHold := false, heldXfers := [] })
  each ((s.cores.filter fun e => e.2.stallNow == 9 && e.2.awaited == some n).map (·.1)) (fun s p => s.handshake p [9]) s
/-- The core is unparked: what waited for its tap takes effect in arrival order (R188). -/
def State.unpark (s : State) (p : Nat) : State :=
  if !(s.core p).parked then s
  else ((s.modCore p fun c => { c with parked := false }).tapRing p 8 (s.die (coreDie p)).beater.slice).applyKept p
/-- A core that its logical core has left is unparked, unless the Beater still has a slice of it in hand. -/
def State.freePark (s : State) (p : Nat) : State :=
  let b := (s.die (coreDie p)).beater
  if b.target = some (coreIndex p) && (b.shifting || b.judge || b.confirm != 0) then s else s.unpark p
/-- DATA_TRANSFER_ARRIVAL (R165, R259, R276-R278, R308): held at the home die while a fill runs, else accepted or discarded. -/
def execDataTransferArrival (x : Xfer) (s : State) : Host.Outcome State Fault Refusal :=
  guardId (decide (x.dstLc < 13824))
    (if (s.lc x.dstLc).xferHold then s.modLc x.dstLc fun l => { l with heldXfers := l.heldXfers ++ [x] } else s.deliverXfer x)
/-- The open units of a logical core are ordered to be replayed on its new carrier, up to the freeze (Table 8.3 step 4). -/
def State.replayOpen (s : State) (n p freeze : Nat) : State :=
  let l := s.openTickets n
  each l (fun s t => s.modTicket t fun k => { k with nreplay := satAdd 4 k.nreplay 1 }) (s.orderReplay p n (s.openFrom n freeze) freeze l)
/-- A partner in the same cluster as a logical core's new carrier is recorded (R117, R134). -/
def State.coloc (s : State) (n p : Nat) : State :=
  let l := match (s.lcCtx n).bind fun c => s.planLc c n with
    | some e => ((e.descs.filter fun d => descLevel d == 2).map descDupLc).eraseDups
    | none => []
  each l (fun s m =>
    match s.carrier m with
    | some q =>
      if coreDie q = coreDie p && coreCluster q = coreCluster p then
        s.record 0x0321 1 (coreSource (if m < n then q else p) 0) (min m n) (max m n) (coreDie p * 16 + coreCluster p)
      else s
    | none => s) s
/-- The holds of a core that belong to its logical core move with it: breakpoint and snapshot holds. -/
def State.moveHolds (s : State) (old new : Nat) : State :=
  each ((s.core old).holds.filter fun x => holdReason x.1 == 2 || holdReason x.1 == 6) (fun s x => (s.holdCore new x.1).unholdCore old x.1) s
/-- A logical core has moved: which of its units' comparisons, and its partners', span dies may have changed, and one that does takes its pool ticket
    (R117, R157, Table 3.9). -/
def State.recross (s : State) (n : Nat) : State :=
  let l := (s.openTickets n).flatMap fun t =>
    let k := s.ticket t
    t :: ((s.checkPeers k.ctx (s.unitDesc t)).flatMap fun m => (s.openTickets m).filter fun u =>
      (s.ticket u).ctx == k.ctx && (s.ticket u).layer == k.layer && (s.ticket u).oper == k.oper && (s.ticket u).rseq == k.rseq)
  (each l (fun s t =>
    let k := s.ticket t
    let d := s.unitDesc t
    let cross := s.crossPart k.ctx k.lc d 8 || s.crossPart k.ctx k.lc d 16
    let s := s.modTicket t fun k => { k with cross := cross }
    if cross then s.takePools t else s) s).settleAll
/-- Table 8.3 steps 3, 5 and 6: the ticket block, the step count and the tap state move, the deckle map is rewritten, held transfers go to the new
    carrier and issue resumes. REPLACE is written, and FENCE for an old carrier that leaves service (Table 8.12). A re-placement that waited is met by it,
    and an old carrier that an at-threshold action has marked ends DEFECTIVE (R262). A re-placement whose orders a die discards as stale does not take place
    (R319). -/
def State.placeOn (s : State) (n old new kind oldState cause since : Nat) : State :=
  let o := (s.lc n).oper.getD (0, 0)
  let d := s.homeDie n
  let borrow := coreDie new != d || coreCluster new != s.homeCluster n
  let oldState := if oldState = 2 && s.sh.replaces.any (fun r => r.lc == n && r.old == old && r.defective) then 3 else oldState
  let obeyed := s.obeys d && s.obeys (coreDie old) && s.obeys (coreDie new)
  let s := ((s.orderNow d 0x0C [s.homeSlot n % 144, homeWord true n new]).orderNow (coreDie old) 0x0C [old, oldState]).orderNow (coreDie new) 0x0C [new, 1]
  if !obeyed then s else
  let s := s.modSh fun h => { h with replaces := h.replaces.filter fun r => r.lc != n }
  let s := if s.lcOf old = some n then (s.profFlush old n o.1 o.2 0).tapRing old 0xA 0 else s
  let c := s.core old
  let moves := fun e : Deferred => match e with | .verdict _ _ => true | .access _ => true | .xfer _ => true | .watch _ _ _ => true | _ => false
  let s := s.modCore new fun k => { k with restart := c.restart, seqNow := c.seqNow, deferred := k.deferred ++ c.deferred.filter moves,
                                           runTo := c.runTo, lastIssue := s.now, krmWaits := 0,
                                           hangCheck := false, stallNow := 0, awaited := none }
  let s := s.modCore old fun k => { k with lastLstep := (s.lc n).lstep, restart := [], deferred := k.deferred.filter fun e => !moves e
                                           runTo := none, hangCheck := false }
  let s := (s.setStall old 0 none).setHome d (s.homeSlot n % 144) (homeWord true n new)
  let s := s.setPhys old (physWord oldState false 0 (if oldState = 0 then 0 else cause))
  let s := s.setPhys new (physWord 1 borrow n 0)
  let s := if oldState = 3 then (s.modPkg fun g => { g with marks := tset none g.marks old (some cause) }).mramWrite else s
  let s := (s.moveHolds old new).mirror
  let s := each (s.lcUsers n) (fun s c => s.sendWm c (coreDie old)) s
  let s := (((s.thawCore old).unholdCore old 1).tapRing new 9 0).profStart new n
  let s := ((s.coloc n new).recross n).releaseXfers n
  let s := s.record 0x0800 3 (coreSource old 0) (kind * 2 ^ 20 + new) n (sat 24 ((s.now - since) / 1000))
  let s := if oldState = 0 then s else s.record 0x0802 3 (coreSource old 0) (oldState * 2 ^ 20 + old) cause 0
  let s := ((s.applyKept new).freePark old).checkHome d
  if oldState = 3 then s.gateCore old else s
/-- A core leaves service with its logical core unplaced: its entry, and the home entry's VALID (R266). -/
def State.takeDown (s : State) (n old oldState cause : Nat) : State :=
  let s := s.modCore old fun k => { k with lastLstep := (s.lc n).lstep, restart := [], deferred := [], runTo := none }
  let s := ((((s.unplace n).thawCore old).unholdCore old 1).fenceCore old oldState cause).freePark old
  let s := s.releaseXfers n
  let s := s.modSh fun h => { h with unplaced := tset none h.unplaced n (some (old, s.now)), replaces := h.replaces.filter fun r => r.lc != n }
  let o := (s.lc n).oper.getD (0, 0)
  each (s.lcUsers n) (fun s c => s.faultCtx c o.1 o.2) (s.mirror.checkHome (s.homeDie n))
/-- SPARE_EXHAUSTED (R266): no lender is left for a triage, screen or hang re-placement; it shows how many contexts are faulted. -/
def State.exhaust (s : State) (n old oldState cause : Nat) : State :=
  (s.record 0x0801 3 (coreSource old 0) n (s.partOf (s.homeDie n))
    ((s.lcUsers n).filter fun c => (s.ctx c).state == 1 || (s.ctx c).state == 2).length).takeDown n old oldState cause
/-- A triage runs in a cluster (R506): a core of it is in triage, from its freeze on, or its spare is filling or running stage B for one. -/
def State.clusterTriage (s : State) (d c : Nat) : Bool :=
  (clusterCores d c).any s.inTriage ||
    s.sh.triages.any fun x => match x.spare with | some p => coreDie p == d && coreCluster p == c | none => false
/-- A re-placement that has started has a cluster as source or target (R261). -/
def State.clusterReplaced (s : State) (d c : Nat) : Bool :=
  s.sh.replaces.any fun r => r.started && ((coreDie r.old == d && coreCluster r.old == c) ||
    (match r.new with | some p => coreDie p == d && coreCluster p == c | none => false))
/-- Updates a re-placement other than a triage's. -/
def State.modReplace (s : State) (n : Nat) (f : Replace → Replace) : State :=
  s.modSh fun h => { h with replaces := h.replaces.map fun r => if r.lc == n then f r else r }
/-- A re-placement of a logical core, none when it has none. -/
def State.replaceOf (s : State) (n : Nat) : Option Replace := s.sh.replaces.find? fun r => r.lc == n
/-- The old carrier's scratchpad can be read: it is neither in reset nor power-gated. -/
def State.readable (s : State) (p : Nat) : Bool := !(s.core p).resetting && physState (s.phys p) < 3
/-- A re-placement starts on a spare: a planned, homecoming or hang kind holds the old carrier with reason Fence (Table 8.3 step 1). One whose fill goes
    on to another spare keeps its freeze. -/
def State.beginReplace (s : State) (r : Replace) (new : Nat) (borrowed : Bool) : State :=
  let again := r.freezeReel ≠ 0 && (r.kind = 2 || r.kind = 3)
  let s := s.modReplace r.lc fun x => { x with started := true, new := some new, borrowed := borrowed, needReel := s.now, freezeStep := (s.lc r.lc).lstep
                                               freezeReel := if x.freezeReel = 0 then s.now else x.freezeReel }
  let s := if (r.kind = 2 || r.kind = 3 || (r.kind = 4 && r.started)) && !again then s.holdCore r.old 1 else s
  s.orderFill r.lc r.old new (!s.readable r.old)
/-- The core reset of a hang (Table 8.7 step 4) starts once the core is captured and re-placed, or its logical core has no carrier (R266). -/
def State.hangReset (s : State) (p : Nat) : State :=
  if (s.core p).hung && !(s.core p).hangReset && !s.dbg.dumpAuto && (s.lcOf p).isNone then s.requestReset 0 p (coreSource p 31) else s
/-- No spare is left for a re-placement: a planned or homecoming one takes nothing out of service, and SPARE_EXHAUSTED is written once (R266). -/
def State.replaceStuck (s : State) (r : Replace) : State :=
  if r.kind = 5 then (s.modSh fun h => { h with replaces := h.replaces.filter fun x => x.lc != r.lc }).releaseXfers r.lc
  else if r.kind = 2 || r.kind = 3 then
    let s := if r.exhausted then s else s.record 0x0801 3 (coreSource r.old 0) r.lc (s.partOf (s.homeDie r.lc)) 0
    ((s.modReplace r.lc fun x => { x with exhausted := true, started := false, new := none, filled := false,
                                          freezeReel := 0 }).releaseXfers r.lc).unholdCore r.old 1
  else
    let s := s.exhaust r.lc r.old 2 r.cause
    if r.kind = 4 then s.hangReset r.old else s
/-- Two cores of one cluster. -/
def sameCluster (p q : Nat) : Bool := coreDie p == coreDie q && coreCluster p == coreCluster q
/-- A core's cluster is the source or the target of a re-placement of any kind that fills, other than those of some logical cores (R261). -/
def State.clusterFills (s : State) (own : List Nat) (p : Nat) : Bool :=
  let busy := fun (n old : Nat) (new : Option Nat) => !own.contains n && (sameCluster old p || new.any fun q => sameCluster q p)
  (s.sh.replaces.any fun r => r.started && busy r.lc r.old r.new) || s.sh.triages.any fun t => t.spare.isSome && busy t.lc t.core t.spare
/-- A screen or hang re-placement is needed now (Table 8.4). It waits while its cluster, or its spare's, takes part in another (R261). -/
def State.replaceNow (s : State) (n old kind cause : Nat) : State :=
  let r : Replace := { lc := n, kind := kind, cause := cause, old := old, new := none, borrowed := false, filled := false, started := true
                       defective := s.sh.replaces.any fun x => x.lc == n && x.old == old && x.defective
                       since := s.now, freezeReel := s.now, needReel := s.now, lendersFailed := 0, exhausted := false }
  let s := s.modSh fun h => { h with replaces := h.replaces.filter fun x => x.lc != n }
  let add := fun (r : Replace) (s : State) => s.modSh fun h => { h with replaces := h.replaces ++ [r] }
  match s.spareFor n with
  | some p =>
    if s.clusterFills [n] old || s.clusterFills [n] p.1 then add { r with started := false } (if kind = 4 then s.holdCore old 1 else s)
    else (add r s).beginReplace r p.1 p.2
  | none => (add r s).replaceStuck r
/-- Re-placements that waited for another of their cluster start: screen, hang and late ones, and planned ones whose fill goes on to another spare. -/
def State.startQueued (s : State) : State :=
  each s.sh.replaces (fun s r =>
    if r.started || ((r.kind = 2 || r.kind = 3) && r.freezeReel = 0) then s
    else match s.spareFor r.lc with
      | some p => if s.clusterFills [r.lc] r.old || s.clusterFills [r.lc] p.1 then s else s.beginReplace r p.1 p.2
      | none => (s.modReplace r.lc fun x => { x with started := true }).replaceStuck r) s
/-- Triage's targeted run is queued on a core. On a core that triage has fenced, a periodic run in progress is abandoned: at once, or at the end of the
    segment that shifts (Table 6.12). -/
def State.triageBeat (s : State) (p why : Nat) : State :=
  let s := if physState (s.phys p) = 2 then
      s.modDie (coreDie p) fun d =>
        let b := d.beater
        if b.target = some (coreIndex p) && b.kind = 0 && b.confirm = 0 then
          { d with beater := if b.shifting || b.judge then { b with stopping := true, abandon := true } else { b with target := none, window := none } }
        else d
    else s
  s.queueBeat p 1 why
/-- A fill has failed: SPARE_FILL is counted, the spare is fenced with a CAUSE and gets a targeted run (R260, R263, Table 8.6). -/
def State.fillFailed (s : State) (p cause : Nat) : State :=
  ((s.agentCount (coreDie p) (clusterSource (coreDie p) (coreCluster p) 2) default).fenceCore p 2 cause).triageBeat p 0xF
/-- A re-placement's fill has failed: the next lender is chosen, after two lenders R266 decides (R263), and it waits for a lender whose cluster takes
    part in another (R261). -/
def State.replaceRefill (s : State) (r : Replace) : State :=
  let failed := r.lendersFailed + b2n r.borrowed
  let s := s.modReplace r.lc fun x => { x with lendersFailed := failed, needReel := s.now, new := none }
  match s.spareFor r.lc with
  | some p =>
    if 2 ≤ failed then s.replaceStuck r
    else if s.clusterFills [r.lc] p.1 then s.modReplace r.lc fun x => { x with started := false }
    else (s.modReplace r.lc fun x => { x with new := some p.1, borrowed := p.2 }).orderFill r.lc r.old p.1 (!s.readable r.old)
  | none => s.replaceStuck r

/-! ## Planned and homecoming re-placements, late placement (R261, R266) -/

/-- A ring failover is in progress: a broken link whose RING_FAILOVER has not been written. -/
def State.failingOver (s : State) : Bool := s.felt.broken.any fun b => !s.felt.logged.contains b
/-- Nothing stands in the way of a planned or homecoming re-placement from a cluster to another (R261). -/
def State.clear (s : State) (old new : Nat) : Bool :=
  !s.failingOver && !s.clusterTriage (coreDie old) (coreCluster old) && !s.clusterTriage (coreDie new) (coreCluster new) &&
    !s.clusterReplaced (coreDie old) (coreCluster old) && !s.clusterReplaced (coreDie new) (coreCluster new)
/-- A borrowed logical core whose home cluster has a free spare while the lender's has none (Table 8.4 Homecoming). -/
def State.homecoming (s : State) (n : Nat) : Option Replace :=
  match s.carrier n with
  | none => none
  | some p =>
    let d := s.homeDie n
    let c := s.homeCluster n
    if (coreDie p = d && coreCluster p = c) || (s.freeSpare d c).isNone || (s.freeSpare (coreDie p) (coreCluster p)).isSome then none
    else some { lc := n, kind := 3, cause := 0, defective := false, old := p, new := none, borrowed := false, filled := false, started := false,
                since := s.now, freezeReel := 0, needReel := s.now, lendersFailed := 0, exhausted := false }
/-- REPLACEMENT_START (R261): onto the free spare of the home cluster, or onto a lender once SPARE_EXHAUSTED has been written. -/
def execReplacementStart (lc : Nat) (s : State) : Host.Outcome State Fault Refusal :=
  guardId (decide (lc < 13824))
    (s.whenActing (.replacementStart lc) fun s =>
      match s.replaceOf lc with
       | some r =>
         let dst := if r.exhausted then s.spareFor lc else (s.freeSpare (s.homeDie lc) (s.homeCluster lc)).map fun p => (p, false)
         (match dst with
          | some p => if !r.started && (r.kind = 2 || r.kind = 3) && s.clear r.old p.1 then s.beginReplace r p.1 p.2 else s
          | none => s)
       | none => match s.homecoming lc, s.freeSpare (s.homeDie lc) (s.homeCluster lc) with
         | some r, some p =>
           if s.clear r.old p then (s.modSh fun h => { h with replaces := h.replaces ++ [r] }).beginReplace r p false else s
         | _, _ => s)
/-- PLANNED_REPLACE_SPARE_TIMEOUT (R261, R266): after 10 min a borrow; with no lender the core stays in service. -/
def execPlannedReplaceSpareTimeout (lc : Nat) (s : State) : Host.Outcome State Fault Refusal :=
  guardId (decide (lc < 13824))
    (s.whenActing (.plannedReplaceSpareTimeout lc) fun s =>
      match s.replaceOf lc with
       | some r =>
         if r.started || r.kind ≠ 2 then s
         else match s.spareFor lc with
           | some p => if s.clear r.old p.1 then s.beginReplace r p.1 p.2 else s
           | none => s.replaceStuck r
       | none => s)
/-- LATE_PLACEMENT (R266): an unplaced logical core is filled onto a spare of its home die's partition, from its old carrier's scratchpad where
    that can be read and from zeros otherwise. It waits while a cluster concerned takes part in another re-placement (R261). -/
def execLatePlacement (lc spare : Nat) (s : State) : Host.Outcome State Fault Refusal :=
  guardId (decide (lc < 13824) && validCore spare)
    (s.whenActing (.latePlacement lc spare) fun s =>
      match tget none s.sh.unplaced lc with
       | none => s
       | some u =>
         if (s.replaceOf lc).isSome || s.partOf (coreDie spare) ≠ s.partOf (s.homeDie lc) || s.freeSpare (coreDie spare) (coreCluster spare) ≠ some spare then s
         else
           let r : Replace := { lc := lc, kind := 5, cause := 0x3F, defective := false, old := u.1, new := some spare, borrowed := false, filled := false,
                                started := true, since := u.2, freezeReel := s.now, needReel := s.now, lendersFailed := 0, exhausted := false }
           let busy := s.clusterFills [lc] u.1 || s.clusterFills [lc] spare
           if busy then s.modSh fun h => { h with replaces := h.replaces ++ [{ r with new := none, started := false }] }
           else (s.modSh fun h => { h with replaces := h.replaces ++ [r] }).orderFill lc u.1 spare (!s.readable u.1))
/-- A late placement's fill is complete: the logical core is placed, and its old carrier keeps its state (R266). -/
def State.placeLate (s : State) (r : Replace) (new : Nat) : State :=
  let d := s.homeDie r.lc
  let borrow := coreDie new != d || coreCluster new != s.homeCluster r.lc
  let obeyed := s.obeys d && s.obeys (coreDie new)
  let s := (s.orderNow d 0x0C [s.homeSlot r.lc % 144, homeWord true r.lc new]).orderNow (coreDie new) 0x0C [new, 1]
  if !obeyed then s else
  let s := (s.setHome d (s.homeSlot r.lc % 144) (homeWord true r.lc new)).setPhys new (physWord 1 borrow r.lc 0)
  let s := s.modSh fun h => { h with unplaced := tset none h.unplaced r.lc none, replaces := h.replaces.filter fun x => x.lc != r.lc }
  (((s.tapRing new 9 0).releaseXfers r.lc).mirror.checkHome d).record 0x0800 3 (coreSource r.old 0) (5 * 2 ^ 20 + new) r.lc (sat 24 ((s.now - r.since) / 1000))
/-- What a screen verdict of Table 6.4 does to its core (R262): 0 TRANSIENT and 3 BEATER_FAULT make it a spare, 1 INTERMITTENT and 2 PERMANENT
    defective; it waits while the core still carries its logical core. -/
def State.screenEffect (s : State) (p v : Nat) : State :=
  if physState (s.phys p) = 1 then s.modCore p fun c => { c with screenVerdict := some v }
  else
    let s := s.modCore p fun c => { c with screenVerdict := none }
    if v = 1 || v = 2 then s.markDefective p 24 else if physState (s.phys p) = 2 then s.fenceCore p 0 0 else s
/-- The state in which a re-placement's old carrier ends (Table 8.4). -/
def oldEnds (r : Replace) : Nat := if r.kind = 3 then 0 else if r.kind = 2 && r.defective then 3 else 2
/-- A re-placement other than a triage's completes on its new carrier (Table 8.3 steps 4 to 6). -/
def State.finishReplace (s : State) (r : Replace) (new : Nat) : State :=
  let s := s.addReplay new r.lc (r.replayLen - (s.core new).replaySteps)
  let s := s.placeOn r.lc r.old new r.kind (oldEnds r) r.cause r.freezeReel
  match (s.core r.old).screenVerdict with
  | some v => s.screenEffect r.old v
  | none => s

end Sys2Proof.Machine
end

