-- ==== Sys2Proof/Machine/Triage.lean ====
section
/-! DEFINITION. Triage: stages A, S and B, the verdicts of Tables 5.5 and 5.7 and of Laid groups, their actions, Sizing rollback, and the recovery
records (R30-R37, R168-R184, R506). -/

namespace Sys2Proof.Machine

/-! ## Triages -/

/-- The triage of a core. -/
def State.triageOf (s : State) (p : Nat) : Option Triage := s.sh.triages.find? fun t => t.core == p
/-- The triage of a logical core. -/
def State.triageLc (s : State) (n : Nat) : Option Triage := s.sh.triages.find? fun t => t.lc == n
/-- Updates the triage of a core; a change of a triage is mirrored (Table 10.4). -/
def State.modTriage (s : State) (p : Nat) (f : Triage → Triage) : State :=
  s.modSh fun h => { h with triages := h.triages.map fun t => if t.core == p then f t else t }
/-- A comparison of two cores: Duplex or gate duplication, until it is left to each core alone. -/
def isPair (t : Triage) : Bool := t.partner.isSome
/-- A comparison of a Laid group, until it is left to each core alone. -/
def isGroup (t : Triage) : Bool := t.members != 0
/-- Two triages belong to one comparison: the same unit of two partners, or of the members of one Laid group; they run at the same time (R179, R180). -/
def sameCheck (t u : Triage) : Bool :=
  t.ctx == u.ctx && t.layer == u.layer && t.oper == u.oper && t.rseq == u.rseq &&
    ((isPair t && isPair u && t.partner == some u.lc && u.partner == some t.lc) || (isGroup t && isGroup u && t.anchorLc == u.anchorLc))
/-- A queued failure may start: no triage runs in its cluster, other than one of its own comparison, and no re-placement (R37, R261). -/
def State.mayStart (s : State) (t : Triage) : Bool :=
  !s.clusterReplaced (coreDie t.core) (coreCluster t.core) && !s.sh.triages.any fun u => u.core == t.core || (!sameCheck t u &&
    (sameCluster u.core t.core || (match u.spare with | some q => sameCluster q t.core | none => false)))
/-- The digests of one comparison out of those of all the comparisons of a unit, where a gate operator's DG stands last (R179): DG, or the others. -/
def checkDigest (gated asGate : Bool) (l : List Nat) : List Nat := if asGate then l.drop (l.length - 1) else if gated then l.take (l.length - 1) else l
/-- The comparison with another core that a unit has failed, by its detections: the partner, and whether it is gate duplication's (R179). -/
def partnerOf (codes : Nat) (d : List Nat) : Option Nat × Bool :=
  if bit codes 8 || bit codes 9 then (some (descDupLc d), false) else if bit codes 10 then (some (descGateLc d), true) else (none, false)
/-- A failure as its report gives it (R30, R364). -/
def State.newTriage (s : State) (p n t c layer oper src reel step : Nat) : Triage :=
  let k := s.ticket t
  let d := s.unitDesc t
  let o := src % 8192 % 48
  let live := k.state == .triage
  let g := s.pressGroup c n
  let codes := k.codes ||| 2 ^ o
  let w := if bit codes 7 then (none, false) else partnerOf codes d
  let r : FailRegs := if (s.core p).failUnit = some t then { row := (s.core p).failRow, a := (s.core p).failA, b := (s.core p).failB }
    else { row := 0, a := 0, b := 0 }
  { core := p, lc := n, ticket := t, ctx := c, layer := layer, oper := oper, source := src, primary := o, detReel := reel, detStep := step, startReel := 0,
    regs := r, partner := w.1, asGate := w.2, pgroup := if live && k.level == 0 && g != 0xFFFF then some g else none,
    stageA := 3, stageADone := o == 1 || o == 2, stageS := none, stageB := 3, stageBDone := false, orig := if w.2 then k.digest.take 1 else k.digest,
    replayed := none, spareDigest := none, spare := none, filled := false, borrowed := false, lendersFailed := 0, needReel := reel,
    frozenReel := match (s.core p).holds.find? fun x => holdReason x.1 == 0 with | some x => x.2 | none => reel,
    aReel := 0, fillReel := 0, bReel := 0, replayLen := 0, verdict := none, bStarted := false, placing := false, bCore := none,
    rstep := k.rstep, freezeStep := (s.lc n).lstep, anchor := descIsAnchor d, members := if bit codes 7 then descGrpN d
      else 0, fillStart := 0, anchorLc := descAnchor d,
    rseq := k.rseq, joined := false, placeLen := 0, waitA := none }
/-- A triage's fill is ordered to a spare or lender (Table 1.3 row 4, R263). -/
def State.triageFill (s : State) (t : Triage) (q : Nat × Bool) : State :=
  (s.modTriage t.core fun x => { x with spare := some q.1, borrowed := q.2, filled := false, fillStart := s.now }).orderFill t.lc t.core q.1
    (!s.readable t.core)
/-- The spare that a triage may take now: none once two lenders have failed for its logical core (R263). -/
def State.triageSpare (s : State) (t : Triage) : Option (Nat × Bool) := if 2 ≤ t.lendersFailed then none else s.spareFor t.lc
/-- A replay of a triage's unit ends on a core: of its length, what the steps counted while it ran leave over is added (R57, R168, R169). -/
def State.replayed (s : State) (t : Triage) (p len : Nat) : State :=
  ((s.addReplay p t.lc (len - (s.core p).replaySteps)).modTicket t.ticket fun k => { k with nreplay := satAdd 4 k.nreplay 1 }).modTriage t.core fun x =>
    { x with replayLen := x.replayLen + len }
/-- Stage A is ordered: the core executes the unit again from its restart point, or under Sizing from the press boundary (R168, Table 5.6 step 5). -/
def State.orderA (s : State) (t : Triage) : State := s.orderReplay t.core t.lc t.rstep (if t.pgroup.isSome then t.freezeStep else t.detStep) [t.ticket]
/-- The length of stage A (R168, R172). -/
def lengthA (t : Triage) : Nat := (if t.pgroup.isSome then t.freezeStep else t.detStep) - t.rstep
/-- Stage B is ordered on the filled spare (R176): of the failing unit alone (R173). -/
def State.orderB (s : State) (t : Triage) (q : Nat) : State :=
  (s.modTriage t.core fun x => { x with bStarted := true, bCore := some q }).orderReplay q t.lc (s.ticket t.ticket).rstep t.detStep [t.ticket]
/-- A spare's cluster takes part in another re-placement than those of a triage's comparison: its fill waits (R261, log 146). -/
def State.fillWaits (s : State) (t : Triage) (q : Nat) : Bool := s.clusterFills (t.lc :: (s.sh.triages.filter (sameCheck t)).map (·.lc)) q
/-- Stage B is called for: it starts on a filled spare, waits for a fill, or does not run when there is no spare (R176, R267). -/
def State.callB (s : State) (t : Triage) : State :=
  if t.bStarted || t.stageBDone then s
  else match t.spare with
    | some q => if t.filled then s.orderB t q else s
    | none => match s.triageSpare t with
      | some q => if s.fillWaits t q.1 then s else (s.modTriage t.core fun x => { x with needReel := s.now }).triageFill t q
      | none => s.modTriage t.core fun x => { x with stageBDone := true }

/-! ## The records of a triage (R34, R35, R182) -/

/-- A duration in us, rounded up, saturating at 0xFFF. -/
def rowUs (x : Nat × Nat) : Nat := min 0xFFF (ceilDiv (x.2 - x.1) 1000)
/-- The six rows of Table 1.3, or of Table 8.5 for a borrow: begin and end, (0, 0) for a row that did not run, and the bound in us. -/
def recoveryRows (t : Triage) (outcome last : Nat) : List ((Nat × Nat) × Nat) :=
  let far := match t.spare with | some q => coreDie q != coreDie t.core | none => false
  let prev := max (max t.aReel t.fillReel) t.bReel
  [((t.detReel, t.frozenReel), 1), ((t.detReel, t.startReel), 20), ((if t.aReel = 0 then (0, 0) else (t.startReel, t.aReel)), 200),
   ((if t.fillReel = 0 then (0, 0) else (t.fillStart, t.fillReel)), if !t.borrowed then 250 else if far then 2400 else 1200),
   ((if t.bReel = 0 then (0, 0) else (max t.aReel t.fillReel, t.bReel)), 200),
   ((if outcome = 1 || outcome = 2 then (prev, last) else (0, 0)), if t.borrowed then 100 else 50)]
/-- RECOVERY and RECOVERY_ROWS (Table 1.3a), with the reel count of the detection. -/
def State.recovery (s : State) (t : Triage) (outcome core : Nat) : State :=
  let rows := recoveryRows t outcome s.now
  let bad := ((List.range 6).map fun i => b2n (decide ((rows.getD i default).2 * 1000 < (rows.getD i default).1.2 - (rows.getD i default).1.1)) * 2 ^ i).foldl (· + ·) 0
  let w := fun i => rowUs (rows.getD i default).1
  let u := (s.die (coreDie t.core)).unaligned
  let sev := if bad = 0 then 1 else 2
  (s.recordAt 0x0100 sev t.source t.detReel u (bad * 2 ^ 18 + t.ticket) (sat 24 t.replayLen) (outcome * 2 ^ 20 + core)).recordAt 0x0101 sev t.source t.detReel u
    (w 0 * 2 ^ 12 + w 1) (w 2 * 2 ^ 12 + w 3) (w 4 * 2 ^ 12 + w 5)
/-- TRIAGE_VERDICT (Table 5.9). -/
def State.verdictRec (s : State) (t : Triage) (v : Nat) : State :=
  s.record 0x0500 (if v = 0 || v = 7 then 1 else 3) t.source (t.primary % 32 * 2 ^ 18 + t.ticket)
    (v * 2 ^ 20 + t.stageA * 2 ^ 18 + t.stageB * 2 ^ 16 + b2n (t.stageS == some false) * 2 ^ 15 + t.bCore.getD t.core % 2 ^ 15) (sat 24 t.replayLen)

/-! ## Sizing rollback (R171-R173, Table 5.6, Table 5.11) -/

/-- The logical cores of a press group that are placed, with their carriers. -/
def State.groupCores (s : State) (c g : Nat) : List (Nat × Nat) := (s.groupOf c g).filterMap fun n => (s.carrier n).map fun p => (n, p)
/-- The dies of a press group's members, ascending. -/
def State.groupDies (s : State) (c g : Nat) : List Nat := ((s.groupCores c g).map fun x => coreDie x.2).foldl (fun l d => insertNat d l) []
/-- Orders of a rollback step still wait for an acknowledgement. -/
def State.rollWaits (s : State) (ty c g : Nat) : Bool :=
  s.felt.waiting.any fun w => w.t.type == ty &&
    (if ty = 0x0B then w.t.words.drop 1 |>.take 3 |> (· == [0, c, g]) else if ty = 0x0F then w.t.words.drop 1 |>.take 2 |> (· == [c, g])
     else w.t.words.drop 3 == [c, g])
/-- Updates every triage, started or queued, of a core. -/
def State.modFailure (s : State) (p : Nat) (f : Triage → Triage) : State :=
  let g := fun l : List Triage => l.map fun t => if t.core == p then f t else t
  s.modSh fun h => { h with triages := g h.triages, triageQ := g h.triageQ }
/-- The rollback of a press group begins: the failure that started it and every queued one of the group join it (Table 5.11). -/
def State.startRollback (s : State) (t : Triage) (g : Nat) : State :=
  let c := t.ctx
  let also := (s.sh.triageQ.filter fun u => u.ctx == c && u.pgroup == some g && u.core != t.core).map (·.core)
  let s := s.modGroup c g fun x => { x with rolling := 2, rollbacks := x.rollbacks + 1, failing := t.core :: also }
  let s := each (t.core :: also) (fun s p => s.modFailure p fun u => { u with joined := true }) s
  each (s.groupDies c g) (fun s d => s.vatSend 0x0B 0 d ([0, c, g] ++ ((s.groupCores c g).filter fun y => coreDie y.2 == d).map (·.2))) s.mirror
/-- A failure of a Sizing unit when its triage starts: it has joined a rollback, which orders stage A at its end or has done so already; it starts a new
    one; or, as the fourth to one boundary, it faults the context and is replayed alone (Table 5.11). -/
def State.beginRollback (s : State) (t : Triage) (g : Nat) : State :=
  let c := t.ctx
  let x := s.pgroup c g
  if t.joined then (if x.rolling ≠ 0 || t.stageADone then s else s.orderA t)
  else if x.rolling ≠ 0 then (s.modGroup c g fun x => { x with failing := x.failing ++ [t.core] }).modFailure t.core fun u => { u with joined := true }
  else if 3 ≤ x.rollbacks then
    let s := s.modTriage t.core fun x => { x with pgroup := none }
    (if t.stageADone then s else s.orderA { t with pgroup := none }).faultCtx c t.layer t.oper
  else s.startRollback t g
/-- A member's RECOVERY pair (R34): the failure of another core has interrupted its issue; it has no verdict of its own (log 110). -/
def State.memberRecovered (s : State) (t : Triage) (p n span : Nat) : State :=
  s.recovery { t with core := p, lc := n, aReel := 0, fillReel := 0, bReel := 0, spare := none, borrowed := false, replayLen := span } 0 p
/-- Steps 4 and 5 for one member: its state becomes that of the press boundary, its tickets since then close as rolled back, what its gate holds from
    the span is discarded, its agent sets issue to the boundary point, and issue resumes. The steps of the span count again as they are executed (R172);
    a core whose stage A has ended or is skipped does not execute it again before its verdict, so its span is added at once. -/
def State.rollMember (s : State) (c : Nat) (y : Nat × Nat) : State :=
  let n := y.1
  let p := y.2
  let b := (s.lc n).base
  let span := (s.lc n).lstep - b.step
  let s := each ((lcTickets n).filter fun t => b.step ≤ (s.ticket t).rstep && ((s.ticket t).state == .opened || (s.ticket t).state == .await))
    (fun s t => s.closeTicket t 5) s
  let s := (s.discard c n false fun x => x.ticket.isNone && b.step ≤ x.step).modLc n fun l =>
    { l with slots := b.slots, partials := b.partials, rseq := b.rseq, joins := b.joins, opLast := b.opLast, passes := b.passes, points := [],
             redo := l.lstep + span }
  let s := s.unshard c n b.passes
  let ended := (s.sh.triages ++ s.sh.triageQ).any fun t => t.core == p && t.stageADone
  let s := if ended then s.addReplay p n span else s
  let s := s.modFailure p fun t => if t.pgroup.isNone then t
    else if t.stageADone then { t with replayLen := t.replayLen + span } else { t with rstep := b.step, freezeStep := b.step + span }
  let s := (s.modLc n fun l => { l with base := { l.base with step := l.lstep, start := l.planSteps },
                                        lost := false }).modCore p fun k => { k with seqNow := b.seq }
  let s := each ((lcTickets n).filter fun t => (s.ticket t).state == .triage) (fun s t => s.modTicket t fun k => { k with sent := 0, skip := 0 }) s
  ((s.emit (.reissue p n b.step)).unholdCore p rollKey)
/-- The rollback restores every member and resumes them from the boundary; ROLLBACK is written for the first failing core, and each other member gets
    its recovery record (R34, R172, Table 5.9). -/
def State.restoreGroup (s : State) (c g : Nat) : State :=
  let x := s.pgroup c g
  let l := s.groupCores c g
  let spans := l.map fun y => (y, (s.lc y.1).lstep - (s.lc y.1).base.step)
  let first := x.failing.findSome? fun p => (s.sh.triages ++ s.sh.triageQ).find? fun t => t.core == p
  let s := each l (fun s (y : Nat × Nat) => s.rollMember c y) (s.modGroup c g fun x => { x with rolling := 0, failing := [] })
  let src := match first with | some t => t.source | none => ctxSource c 4
  let s := s.record 0x0501 1 src (x.gen * 2 ^ 16 + g) l.length (sat 24 ((spans.map (·.2)).foldl max 0))
  let o := match first with | some t => (t.layer, t.oper) | none => (0, 0)
  let s := s.vatCount (ctxSource c 4) { ctx := c, p2 := o.1, p3 := o.2 }
  let s := match first with
    | some t => each (spans.filter fun (y : (Nat × Nat) × Nat) => !x.failing.contains y.1.2) (fun (s : State) (y : (Nat × Nat) × Nat) => s.memberRecovered t y.1.2 y.1.1 y.2) s
    | none => s
  each x.failing (fun s p =>
    match s.triageOf p with
    | some t => if t.stageADone || t.pgroup.isNone then s else s.orderA t
    | none => s) s.mirror
/-- A rollback stops because its context is being torn down (Table 5.11); the failing cores are replayed alone (R161). -/
def State.stopRollback (s : State) (c g : Nat) : State :=
  let x := s.pgroup c g
  let s := s.modGroup c g fun x => { x with rolling := 0, failing := [] }
  let s := each (s.groupCores c g) (fun s y => s.movePress (s.lc y.1).points.length c y.1 |>.unholdCore y.2 rollKey) s
  each x.failing (fun s p =>
    let s := s.modFailure p fun t => { t with pgroup := none, joined := false }
    match s.triageOf p with
    | some t => if t.stageADone then s else s.orderA t
    | none => s) s
/-- A rollback moves to its next step when every order of the step has been acknowledged: members frozen, generation set, barrier drained. -/
def State.rollStep (s : State) (c g : Nat) : State :=
  let x := s.pgroup c g
  if x.rolling = 0 then s
  else if (s.ctx c).state ≠ 2 then s.stopRollback c g
  else match x.rolling with
    | 2 =>
      if s.rollWaits 0x0B c g then s
      else
        let gen := (x.gen + 1) % 256
        let s := s.modGroup c g fun x => { x with rolling := 3, gen := gen }
        each (s.groupDies c g) (fun s d => s.vatSend 0x0F 0 d [c, g, gen]) s.mirror
    | 3 =>
      if s.rollWaits 0x0F c g then s
      else
        let s := s.modGroup c g fun x => { x with rolling := 4 }
        each (s.groupDies c g) (fun s d => s.vatSend 0x10 0 d [s.tagOf c, x.gen, c, g]) s
    | _ => if s.rollWaits 0x10 c g then s else s.restoreGroup c g
/-- Every rollback that an acknowledgement may have advanced. -/
def State.rollAll (s : State) : State :=
  each s.sh.ctxs (fun s e => each (e.2.pgroups.filter fun g => g.2.rolling != 0) (fun s g => s.rollStep e.1 g.1) s) s
/-- The hold that a FREEZE of a reason names at a core: a rollback's freeze, the breakpoint hold of a context whose scope covers it, or the reason's
    own; none where no breakpoint holds it. -/
def State.freezeKey (s : State) (p reason : Nat) : Option Nat :=
  if reason = 0 then some rollKey
  else if reason = 2 then
    (s.sh.ctxs.find? fun e => match e.2.brkHold with | some b => !b.after && (s.scopeCores e.1 b.scope).contains p | none => false).map fun e => brkKey e.1
  else some reason
/-- FREEZE (Table 5.6 step 2, Table 8.3, Table 14.3): the agent freezes the cores named at their next step boundary, with a reason of Table 2.5. -/
def execFreeze (h : Hdr) (die : Nat) (cores : List Nat) (reason : Nat) (s : State) : Host.Outcome State Fault Refusal :=
  guardId (isDie die && cores.all fun p => validCore p && coreDie p == die)
    (s.recvCmd die h 0x0B fun s => each cores (fun s p => match s.freezeKey p reason with | some k => s.holdCore p k | none => s) s)
/-- GEN_SET (Table 5.6 step 3): the taps of the group's members on the die hold the new generation. -/
def execGenSet (h : Hdr) (die group gen : Nat) (s : State) : Host.Outcome State Fault Refusal :=
  guardId (isDie die)
    (s.recvCmd die h 0x0F fun s =>
      each s.sh.ctxs (fun s e =>
        if (tget {} e.2.pgroups group).rolling ≠ 0 && (tget {} e.2.pgroups group).gen = gen % 256 then
          each ((s.groupCores e.1 group).filter fun y => coreDie y.2 == die) (fun s y => s.modLc y.1 fun l => { l with gen := gen % 256 }) s
        else s) s)

/-! ## Verdicts (R175-R180) -/

/-- What comes next in a triage: wait for a stage, stage B, or a verdict of Table 5.9's codes. -/
inductive Next where
  | wait
  | stageB
  | verdict (v : Nat)
deriving DecidableEq, Repr
/-- Table 5.5: a failure of one core. -/
def singleNext (t : Triage) : Next :=
  if !t.stageADone then .wait
  else if t.stageA = 3 then (if t.stageBDone then .verdict (if t.stageB = 0 then 3 else 5) else .stageB)
  else match t.stageS with
    | none => .wait
    | some ok =>
      if t.stageA = 0 && ok then .verdict 0
      else if !t.stageBDone then .stageB
      else if t.stageB = 0 then .verdict (if !ok then 3 else if t.stageA = 1 then 1 else 2)
      else if t.stageA = 1 && ok && t.stageB = 1 then .verdict 4
      else .verdict 5
/-- Stages A and S of a triage have ended. -/
def stagesDone (t : Triage) : Bool := t.stageADone && (t.stageA == 3 || t.stageS.isSome)
/-- The replayed digests of a pair decide it without stage B (Table 5.7 rows 1, 2, 3 and 8). -/
def pairAgrees (x y : Triage) : Bool := x.replayed == y.replayed
/-- Table 5.7: the verdicts of X, the partner with the lower logical core ID, and Y, once the stages they need have run. -/
def pairVerdicts (x y : Triage) : Nat × Nat :=
  let rx := x.replayed
  let ry := y.replayed
  let base :=
    if rx = ry then
      (if rx = some x.orig && rx = some y.orig then (0, 0) else if rx = some x.orig then (7, 0) else if rx = some y.orig then (0, 7) else (0, 0))
    else match x.spareDigest with
      | none => (5, 5)
      | some d =>
        if rx ≠ some d && ry ≠ some d then (5, 5)
        else if rx = some x.orig && ry = some y.orig then (if rx = some d then (7, 1) else (1, 7))
        else (if rx = some d then 7 else 2, if ry = some d then 7 else 2)
  (if x.stageS = some false then 3 else base.1, if y.stageS = some false then 3 else base.2)
/-- How TRIAGE_VERDICT shows a partner's stages: its own triage, the other partner's replay, and the digest of stage B (Table 5.9). -/
def pairStages (t o x : Triage) : Nat × Nat :=
  (if t.replayed = o.replayed then 0 else if t.replayed = some t.orig then 1 else 2,
   match x.spareDigest with | none => 3 | some d => if t.replayed = some d then 0 else 2)
/-- A row of a Laid group's anchor: its rhs as replayed. -/
def anchorRhs (t : Triage) (i : Nat) : Nat := let l := t.replayed.getD []; l.getD (l.length / 2 + i) 0
/-- The group passes when it compares again (R180): on every row the members' lhs sum to the anchor's rhs. -/
def groupPasses (l : List Triage) : Bool :=
  match l.find? fun t => t.anchor with
  | none => false
  | some a => (List.range ((a.replayed.getD []).length / 2)).all fun i =>
      (l.foldl (fun k t => k + (t.replayed.getD []).getD i 0) 0) % p61 == anchorRhs a i % p61
/-- R180: the verdict of each member. A member whose stage B did not run is UNRESOLVED (R176); when the mismatch persists, a member whose residues agree
    while another's differ is CLEARED, and its result is released (DESIGN CHOICE, log 130). -/
def groupVerdict (l : List Triage) (t : Triage) : Nat :=
  if t.stageS = some false then 3
  else if groupPasses l then
    (if t.replayed ≠ some t.orig then 0 else if t.anchor && l.all (fun m => m.replayed = some m.orig) then 0 else 7)
  else if t.bCore = none then 5
  else if t.spareDigest ≠ t.replayed then 1
  else if l.all fun m => m.spareDigest == m.replayed then 4
  else 7

/-! ## The actions of verdicts (R33, R178, Table 5.6a) -/

/-- The verdict on a logical core's failures has come: its rollback set is no longer marked by it, and a stall on the verdict ends (R31, R101). -/
def State.unmark (s : State) (c n : Nat) : State :=
  if (s.sh.triages ++ s.sh.triageQ).any fun t => t.lc == n then s
  else each (match s.planLc c n with | some e => e.rollback | none => []) (fun s m =>
    let s := s.modLc m fun l => { l with marked := l.marked.filter (· != n) }
    match s.carrier m with
    | some p => if (s.core p).stallNow = 4 && (s.core p).stallOn.any (fun t => t / 16 == n) then s.setStall p 0 none else s
    | none => s) s
/-- A triage ends: its records are written, its spare returns to idle, and a BLK that waited for it takes its reset (Table 8.13). -/
def State.endTriage (s : State) (t : Triage) (v outcome core : Nat) : State :=
  let s := ((s.verdictRec t v).recovery t outcome core).modSh fun h => { h with triages := h.triages.filter fun x => x.core != t.core }
  let s := ((s.unmark t.ctx t.lc).waitedTallies t.ctx).mirror
  match (s.core t.core).blkWait with
  | some src => (s.modCore t.core fun c => { c with blkWait := none }).requestReset 0 t.core src
  | none => s
/-- The core returns to service: it resumes issue unless a further failure of it is queued. -/
def State.resumeCore (s : State) (p : Nat) : State :=
  if s.sh.triageQ.any fun t => t.core == p then s else s.thawCore p
/-- The logical core leaves a core whose verdict gives it no carrier: R266 decides where it is placed later. -/
def State.leaveCore (s : State) (t : Triage) : State :=
  let s := s.modSh fun h => { h with triageQ := h.triageQ.filter fun x => x.lc != t.lc }
  if t.spare.isNone then s.exhaust t.lc t.core 2 t.primary else s.takeDown t.lc t.core 2 t.primary
/-- A logical core under a fencing verdict is replayed on its filled spare, waits for its fill, or finds none (Table 8.3, R266). -/
def State.placeNext (s : State) (t : Triage) (v : Nat) : State :=
  match t.spare with
  | some q => if t.filled && !t.placing then
      (s.modTriage t.core fun x => { x with placing := true, placeLen := t.freezeStep - s.openFrom t.lc t.freezeStep }).replayOpen t.lc q t.freezeStep
    else s
  | none => match s.triageSpare t with
    | some q => if s.fillWaits t q.1 then s else (s.modTriage t.core fun x => { x with needReel := s.now }).triageFill t q
    | none => ((s.leaveCore t).triageBeat t.core v).endTriage t v 3 t.core
/-- A verdict releases a unit's result: its ticket closes as passed, or, of a speculative unit whose decision is still to come, waits for it (R174). -/
def State.passVerdict (s : State) (t : Nat) : State :=
  let k := s.ticket t
  if k.state = .triage && k.spec && !bit k.checks 5 then
    s.modTicket t fun k => { k with state := .await, released := true, checks := unitNeeds (s.unitDesc t) false, primary := 0 }
  else s.closeTicket t 2
/-- A verdict gives a partner's result to the other (Table 5.7 rows 4 and 6): its own unit stays open, to be replayed on its new carrier with the others
    and compared with the right digests (Table 8.3 step 4). -/
def State.reopenUnit (s : State) (t part : Nat) (digest : List Nat) : State :=
  if (s.ticket t).state ≠ .triage then s
  else ((s.dropGate (t / 16) t).modTicket t fun k => { k with state := .opened, primary := 0, codes := 0, checks := k.checks &&& 32 }).agree t part digest
/-- A verdict that fences the core, or clears it, disposes of its unit's result. -/
def State.disposeUnit (s : State) (t : Triage) : State :=
  match t.redo with
  | some d => s.reopenUnit t.ticket (if t.asGate then 16 else 8) d
  | none => s.passVerdict t.ticket
/-- A verdict is taken and its action begins (Table 5.6a). The pool tickets of the unit's comparisons return (R158). -/
def State.verdictFor (s : State) (t : Triage) (v : Nat) : State :=
  let s := s.modTriage t.core fun x => { x with verdict := some v, stageA := t.stageA, stageB := t.stageB, bCore := t.bCore, waitA := none, waitB := none }
  let s := (each [8, 16] (fun s part => s.endPool [t.ticket] part (some (if v ≤ 3 || v = 7 then 2 else 4))) s).settleAll
  if v = 0 || v = 7 then
    let s := (((s.passVerdict t.ticket).releaseXfers t.lc).resumeCore t.core).endTriage t v 0 t.core
    if v = 0 then s.triageBeat t.core 0 else s
  else if v ≤ 3 then (s.disposeUnit t).placeNext t v
  else
    let s := s.closeTicket t.ticket 4
    if v = 5 then
      let s := s.leaveCore t
      let s := match t.bCore with
        | some q => if physState (s.phys q) = 2 then s else (s.fenceCore q 2 0x3F).triageBeat q 5
        | none => s
      ((s.triageBeat t.core 5).faultCtx t.ctx t.layer t.oper).endTriage t 5 3 t.core
    else
      let s := if v = 6 then (s.vatCount (coreSource t.core 28) { ctx := t.ctx, p2 := t.layer, p3 := t.oper }).triageBeat t.core 6 else s
      (((s.releaseXfers t.lc).resumeCore t.core).faultCtx t.ctx t.layer t.oper).endTriage t v 3 t.core

/-! ## The course of a triage -/

/-- A triage of one core goes on. -/
def State.advanceOne (s : State) (t : Triage) : State :=
  match singleNext t with
  | .wait => s
  | .stageB =>
    let s := s.callB t
    (match s.triageOf t.core with
     | some u => if u.stageBDone then s.verdictFor u 5 else s
     | none => s)
  | .verdict v => s.verdictFor t v
/-- A comparison in which one core has no replay digest leaves each core to Table 5.5 (log 29). -/
def State.detach (s : State) (t : Triage) : State :=
  let f := fun l : List Triage => l.map fun u => if u.core == t.core || sameCheck t u then { u with partner := none, members := 0 } else u
  let l := s.sh.triages.filter fun u => u.core == t.core || sameCheck t u
  each l (fun s u => match s.triageOf u.core with | some u => if u.verdict.isSome then s else s.advanceOne u | none => s)
    (s.modSh fun h => { h with triages := f h.triages, triageQ := f h.triageQ })
/-- Another participant of a unit's comparison is not in triage for it, or is so for another cause (log 29). -/
def State.elsewhere (s : State) (t : Triage) (m : Nat) : Bool :=
  (s.sh.triages ++ s.sh.triageQ).any (fun u => u.lc == m && u.ctx == t.ctx && u.layer == t.layer && u.oper == t.oper && u.rseq == t.rseq && !sameCheck t u) ||
    !(lcTickets m).any fun i => (s.ticket i).state == .triage && (s.ticket i).ctx == t.ctx && (s.ticket i).layer == t.layer && (s.ticket i).oper == t.oper &&
      (s.ticket i).rseq == t.rseq
/-- A triage of a pair goes on, once both partners' stages A and S have ended. -/
def State.advancePair (s : State) (t : Triage) : State :=
  match s.sh.triages.find? fun u => sameCheck t u with
  | none => if t.partner.any (s.elsewhere t) then s.detach t else s
  | some o =>
    if !stagesDone t || !stagesDone o then s
    else if t.replayed.isNone || o.replayed.isNone then s.detach t
    else
      let x := if t.lc < o.lc then t else o
      let y := if t.lc < o.lc then o else t
      let s := if pairAgrees x y then s else s.callB x
      let x := (s.triageOf x.core).getD x
      if pairAgrees x y || x.stageBDone then
        let v := pairVerdicts x y
        let a := pairStages x y x
        let b := pairStages y x x
        let y := { y with redo := if v.2 = 7 || v.2 = 0 || pairAgrees x y || y.replayed = x.spareDigest then none else x.spareDigest }
        (s.verdictFor { x with stageA := a.1, stageB := a.2 } v.1).verdictFor { y with stageA := b.1, stageB := b.2, bCore := x.bCore } v.2
      else s
/-- A member of a Laid group gets its spare for stage B, one at a time within a cluster (R180). -/
def State.groupB (s : State) (l : List Triage) (t : Triage) : State :=
  if t.bStarted || t.stageBDone || t.spare.isSome then s.callB t
  else match l.find? fun m => m.core != t.core && m.spare.isSome && sameCluster m.core t.core with
    | some m =>
      if m.stageBDone then
        (s.modTriage m.core fun x => { x with spare := none, filled := false }).triageFill t (m.spare.getD 0, m.borrowed)
      else s
    | none => s.callB t
/-- A triage of a Laid group goes on, once every member's stages A and S have ended. -/
def State.advanceGroup (s : State) (t : Triage) : State :=
  let group := fun s : State => s.sh.triages.filter fun u => sameCheck t u
  let l := group s
  if l.length < t.members then
    (if (s.groupLcs t.ctx t.anchorLc t.layer t.oper).any (fun m => l.all (·.lc != m) && s.elsewhere t m) then s.detach t else s)
  else if !l.all stagesDone then s
  else if l.any fun m => m.replayed.isNone then s.detach t
  else
    let s := if groupPasses l then s else each l (fun s m => s.groupB (group s) ((s.triageOf m.core).getD m)) s
    let l := group s
    if groupPasses l || l.all (·.stageBDone) then each l (fun s m => s.verdictFor m (groupVerdict l m)) s else s
/-- A core's triage goes on after one of its stages. -/
def State.advance (s : State) (p : Nat) : State :=
  match s.triageOf p with
  | none => s
  | some t =>
    match t.verdict with
    | some v => s.placeNext t v
    | none => if isGroup t then s.advanceGroup t else if isPair t then s.advancePair t else s.advanceOne t
/-- The parts of a comparison across dies that a triage's replays decide. -/
def checkPart (t : Triage) : Nat := if t.asGate then 16 else 8
/-- A triage starts: stage A and the spare fill are ordered (R32, R179, R180), or under Sizing the rollback whose re-execution is stage A (R171). A
    comparison across dies takes its pool ticket (R157). -/
def State.startTriage (s : State) (t : Triage) : State :=
  let t := { t with startReel := s.now }
  let s := (s.modSh fun h => { h with triageQ := h.triageQ.erase { t with startReel := 0 }, triages := h.triages ++ [t] }).mirror
  let s := if (isPair t || isGroup t) && (s.ticket t.ticket).state ≠ .free then s.takePools t.ticket else s
  let s := match t.pgroup with
    | some g => s.beginRollback t g
    | none => if t.stageADone then s else s.orderA t
  match (if isGroup t then (s.freeSpare (s.homeDie t.lc) (s.homeCluster t.lc)).map fun q => (q, false) else s.triageSpare t) with
  | some q => if s.fillWaits t q.1 then s else s.triageFill t q
  | none => s
/-- Queued failures whose cluster is free start, in report order (R37). -/
def State.pump : Nat → State → State
  | 0, s => s
  | k + 1, s => match s.sh.triageQ.find? s.mayStart with
    | none => s
    | some t => State.pump k ((s.startTriage t).advance t.core)
/-- Queued failures and re-placements that may start do, and so do the fills of triages that waited for a cluster. -/
def State.goOn (s : State) : State :=
  let s := (s.pump s.sh.triageQ.length).startQueued
  each (s.sh.triages.filter fun t => t.spare.isNone && !t.bStarted && (t.verdict.isSome || stagesDone t)) (fun s t => s.advance t.core) s
/-- A stage A has ended: its result, its length (R57, R168, R172), and the self-check that follows it (R176). -/
def State.endA (s : State) (t : Triage) (stage : Nat) (digest : Option (List Nat)) : State :=
  let s := (s.replayed t t.core (lengthA t)).modTriage t.core fun x => { x with stageA := stage, stageADone := true, replayed := digest, waitA := none }
  (s.modCore t.core fun c => { c with selftest := 1 }).vatSend 0x80 0 (coreDie t.core) [t.core]
/-- A stage A ends without a result of its unit: the steps that it has completed are its length, but a rolled-back span counts whole (R57, R172, R176). -/
def State.breakA (s : State) (t : Triage) : State :=
  (s.replayed t t.core (if t.pgroup.isSome then lengthA t else (s.core t.core).replaySteps)).modTriage t.core fun x =>
    { x with stageA := 3, stageADone := true, aReel := s.now, waitA := none }
/-- The parts of a unit's checks that another core's results decide and that its replay has not passed, beside the comparison that the triage itself
    decides: 8 pair or group, 16 gate. -/
def State.peerParts (s : State) (t : Triage) : List Nat :=
  [8, 16].filter fun m => unitNeeds (s.unitDesc t.ticket) (s.ticket t.ticket).spec &&& m == m && (s.ticket t.ticket).checks &&& m == 0 &&
    !((isPair t || isGroup t) && checkPart t == m)
/-- The replayed digests of a unit go to the comparisons that its replay has still to pass (R168, Table 3.9). -/
def State.feedReplay (s : State) (t : Triage) (digest : List Nat) : State :=
  let d := s.unitDesc t.ticket
  let own := checkDigest (descGate d) false digest
  let half := own.length / 2
  each (s.peerParts t) (fun s m =>
    if m = 16 then
      s.takePair { ctx := t.ctx, lc := t.lc, partner := descGateLc d, layer := t.layer, oper := t.oper, rseq := t.rseq, ticket := t.ticket, gate := true,
                   da := (checkDigest true true digest).headD 0, dr := 0 }
    else if descLevel d = 2 then
      s.takePair { ctx := t.ctx, lc := t.lc, partner := descDupLc d, layer := t.layer, oper := t.oper, rseq := t.rseq, ticket := t.ticket, gate := false,
                   da := own.getD 0 0, dr := own.getD 1 0 }
    else
      s.takeLaid { ctx := t.ctx, layer := t.layer, oper := t.oper, lc := t.lc, anchor := t.anchorLc, rseq := t.rseq, ticket := t.ticket,
                   lhs := if t.anchor then own.take half else own, rhs := if t.anchor then own.drop half else [] }) s
/-- A stage A whose replay has run ends, unless it waits for a pool ticket or for another core's results (R157, Table 3.9, Table 5.11). A comparison
    that the replay then fails makes it different (R175). -/
def State.closeA (s : State) (t : Triage) (r : ReplayEnd) (digest : List Nat) : State :=
  let d := s.unitDesc t.ticket
  let wait := s.modTriage t.core fun x => { x with waitA := some (r, digest) }
  let stage := match r with | .failed o g => if o = t.primary && g = t.regs then 1 else 2 | _ => 0
  if (s.ticket t.ticket).state = .free then s.endA t stage none
  else if (match r with | .failed o _ => !(isPair t || isGroup t) || decide (o < 7) || decide (10 < o) | .pass => false | _ => true) then s.endA t stage none
  else if [7, 8, 9, 10].any fun i => bit (s.ticket t.ticket).replayCodes i then s.endA t 2 none
  else if !(s.peerParts t).isEmpty then wait
  else if isPair t || isGroup t then
    (if s.poolReady t.ticket (checkPart t) then s.endA t stage (some (checkDigest (descGate d) t.asGate digest)) else wait)
  else s.endA t 0 (some digest)
/-- A stage B that has passed at its tap ends, unless it waits for another core's results; a comparison that it then fails makes it different (R162,
    R175). -/
def State.closeB (s : State) (t : Triage) (digest : List Nat) : State :=
  let stop := fun (g : Stage) (s : State) => s.modTriage t.core fun x =>
    { x with stageB := g, stageBDone := true, bReel := s.now, waitB := none
             spareDigest := some (checkDigest (descGate (s.unitDesc t.ticket)) t.asGate digest) }
  if (s.ticket t.ticket).state = .free then stop 0 s
  else if [7, 8, 9, 10].any fun i => bit (s.ticket t.ticket).replayCodes i then stop 2 s
  else if (s.peerParts t).isEmpty then stop 0 s
  else s.modTriage t.core fun x => { x with waitB := some digest }
/-- Stages A and B that wait for a pool ticket or for another core's results go on. -/
def State.retryA (s : State) : State :=
  each s.sh.triages (fun s u =>
    match s.triageOf u.core with
    | some t =>
      (match t.waitA, t.waitB with
       | some w, _ => if t.stageADone then s
         else (if (isPair t || isGroup t) && (s.ticket t.ticket).state ≠ .free then s.takePools t.ticket else s).closeA t w.1 w.2
       | none, some w => if t.stageBDone then s else s.closeB t w
       | none, none => s)
    | none => s) s
/-- After an event, the core's triage goes on, stages that waited end, and queued failures start. -/
def State.afterStage (s : State) (p : Nat) : State := (s.advance p).retryA.goOn
/-- A stage ended by another core's results takes its triage on (Table 3.9). -/
def State.retryAll (s : State) : State :=
  let s := s.retryA
  each s.sh.triages (fun s t => if t.verdict.isSome then s else s.advance t.core) s |>.goOn
/-- The newly active Vat resumes each triage after the last stage recorded as complete: an unfinished stage A or B is run again, and its completed steps
    stand (Table 5.11). -/
def State.resumeTriages (s : State) : State :=
  each s.sh.triages (fun s t =>
    if t.bStarted && !t.stageBDone && t.waitB.isNone && !s.sh.vatHeld.any (fun i => match i with | .triageStageBDone p _ _ => p == t.core | _ => false) then
      (match t.bCore with
       | some q => if (s.core q).replaySteps = 0 then s else (s.replayed t q (s.core q).replaySteps).orderB t q
       | none => s)
    else if t.stageADone || t.waitA.isSome || (s.core t.core).replaySteps = 0 ||
      (match t.pgroup with | some g => (s.pgroup t.ctx g).rolling != 0 | none => false) ||
        s.sh.vatHeld.any (fun i => match i with | .triageStageADone p _ _ => p == t.core | .stageANotCompleted p => p == t.core | _ => false) then s
    else (s.replayed t t.core (s.core t.core).replaySteps).orderA t) s

/-! ## Commands -/

/-- A triage's fill has failed: the spare is fenced, and the next lender is chosen, or the hold of the transfers ends (R259, R263, Table 8.6). -/
def State.triageRefill (s : State) (t : Triage) (q cause : Nat) : State :=
  let s := s.fillFailed q cause
  let t := { t with lendersFailed := t.lendersFailed + b2n t.borrowed, spare := none, filled := false, needReel := s.now }
  let s := s.modTriage t.core fun _ => t
  match s.triageSpare t with
  | some r => if s.fillWaits t r.1 then s else s.triageFill t r
  | none => s.releaseXfers t.lc
/-- A spare's self-check or slice fails while it is filled: it is given up (Table 8.6). CAUSE is the source's, or 0x3F for a lender (R263). -/
def State.spareFails (s : State) (p src : Nat) : State :=
  match s.sh.triages.find? fun t => t.spare == some p && !t.filled with
  | some t => (s.triageRefill t p (if t.borrowed then 0x3F else causeOf src)).advance t.core
  | none => match s.sh.replaces.find? fun r => r.new == some p && !r.filled with
    | some r => (s.fillFailed p (if r.borrowed then 0x3F else causeOf src)).replaceRefill r
    | none => s
/-- A core is the target of a fill. -/
def State.filling (s : State) (p : Nat) : Bool :=
  (s.sh.triages.any fun t => t.spare == some p && !t.filled) || s.sh.replaces.any fun r => r.new == some p && !r.filled
/-- A check fails on a core that carries no logical core: a spare that is being filled is given up, and the core is fenced (Table 1.4). -/
def State.looseFail (s : State) (p src : Nat) : State :=
  if s.filling p then s.spareFails p src
  else match s.sh.triages.find? fun t => t.spare == some p with
  | some _ => s
  | none => (s.fenceCore p 2 (causeOf src)).triageBeat p (if causeOf src = 1 || causeOf src = 2 then 3 else 0xF)
/-- A further report of a unit in triage: a lower offset becomes its primary cause (R130). -/
def State.lowerCause (s : State) (x : Triage) : State :=
  s.modFailure x.core fun t =>
    if t.ticket = x.ticket && t.verdict.isNone && x.primary < t.primary then
      { t with source := x.source, primary := x.primary, regs := x.regs,
               stageADone := t.stageADone || x.stageADone }
    else t
/-- A new failure is queued. One of a press group whose rollback is in progress joins it (Table 5.11). -/
def State.queueFailure (s : State) (x : Triage) : State :=
  let joins := match x.pgroup with | some g => (s.pgroup x.ctx g).rolling != 0 | none => false
  let s := s.modSh fun h => { h with triageQ := h.triageQ ++ [{ x with joined := joins }] }
  match x.pgroup with
  | some g => if joins then s.modGroup x.ctx g fun y => { y with failing := y.failing ++ [x.core] } else s
  | none => s
/-- FAULT_REPORT (R30, R32, R37): triage starts, or is queued behind the cluster's. -/
def execFaultReport (h : Hdr) (words : List Nat) (s : State) : Host.Outcome State Fault Refusal :=
  let w := fun i => words.getD i 0
  let n := w 0 % 2 ^ 14
  let p := bits (w 1) 16 16
  guardId (validCore p && decide (n < 13824))
    (s.recvVat (.faultReport h words) h 0x08 fun s =>
      let t := bits (w 0) 14 18
      let x := s.newTriage p n t (w 1 % 4096) (bits (w 2) 16 16) (w 2 % 65536) (bits (w 3) 12 20) (w 4 % 2 ^ 32 + w 5 % 2 ^ 32 * 2 ^ 32)
        (w 6 % 2 ^ 32 + w 7 % 2 ^ 32 * 2 ^ 32)
      let s := if t = 0x3FFFF then s.looseFail p (bits (w 3) 12 20)
        else if (s.sh.triages ++ s.sh.triageQ).any fun u => u.core == p && u.ticket == t && u.verdict.isNone &&
          (s.ticket t).state == .triage then (s.lowerCause x).advance p
        else s.queueFailure x
      s.goOn)
/-- TRIAGE_STAGE_A_DONE (R168, R175, R177): the same-core replay has ended. The tap's failure registers show what it detected (R497). Poison that the
    original had read too leaves no failure: the stage counts as passed (DESIGN CHOICE, log 131). -/
def execTriageStageADone (core : Nat) (r : ReplayEnd) (digest : List Nat) (s : State) : Host.Outcome State Fault Refusal :=
  guardId (validCore core)
    (s.whenActing (.triageStageADone core r digest) fun s =>
      match s.triageOf core with
      | none => s
      | some t =>
        if t.stageADone || t.waitA.isSome || (match t.pgroup with | some g => (s.pgroup t.ctx g).rolling != 0 | none => false) then s
        else
          let s := match r with
            | .pass => (s.feedReplay t digest).closeA ((s.triageOf core).getD t) r digest
            | .failed o g =>
              (s.modCore core fun c => { c with failPrimary := o, failCodes := 2 ^ o, failTicket := t.ticket % 16, failRow := g.row, failA := g.a, failB := g.b,
                                                failValid := true, failUnit := some t.ticket }).closeA t r digest
            | .poisonedOld => (s.closeTicket t.ticket 3).endA t 0 none
            | .poisonedNew =>
              let s := s.breakA t
              (s.verdictFor ((s.triageOf core).getD t) 6).detach t
          s.afterStage core)
/-- STAGE_A_NOT_COMPLETED (R176): stage S does not run, and stage B decides. -/
def execStageANotCompleted (core : Nat) (s : State) : Host.Outcome State Fault Refusal :=
  guardId (validCore core)
    (s.whenActing (.stageANotCompleted core) fun s =>
      match s.triageOf core with
      | none => s
      | some t => if t.stageADone then s else (s.breakA t).afterStage core)
/-- TAP_SELFTEST_DONE (R128, R176): stage S of a triage; outside triage a failed case condemns the tap, and at bring-up the core (R476). -/
def execTapSelftestDone (core cases : Nat) (s : State) : Host.Outcome State Fault Refusal :=
  guardId (validCore core)
    (let ok := cases % 256 == 0
     let s := s.modCore core fun c => { c with selftest := if ok then 2 else 3, cases := cases % 256 }
     match s.triageOf core with
     | some _ => s.whenActing (.tapSelftestDone core cases) fun s =>
       (match s.triageOf core with
        | some t =>
          if t.stageADone && t.stageA ≠ 3 && t.stageS.isNone then
            let s := if ok then s
              else (s.noteUnit core 2 (some t.ticket)).agentCount (coreDie core) (coreSource core 2) { ctx := t.ctx, p2 := t.layer, p3 := t.oper }
            (s.modTriage core fun x => { x with stageS := some ok, aReel := s.now }).afterStage core
          else s
        | none => s)
     | none =>
       if ok then s
       else match s.pkg.boot with
         | .step _ =>
           (s.modPkg fun g => { g with bringupBad := tset none g.bringupBad core (some 2) }).bistBlock (coreSource core 2) 3 core
             (((List.range 8).find? fun i => bit cases i).getD 0)
         | _ => s.coreFail core 2)
/-- SPARE_FILL_DONE (R260, R263): the digests by the formula of DR (R116) of the words copied at the one end and at the other agree, or the fill has
    failed. -/
def execSpareFillDone (lc : Nat) (sent received : List Nat) (s : State) : Host.Outcome State Fault Refusal :=
  guardId (decide (lc < 13824))
    (s.whenActing (.spareFillDone lc sent received) fun s =>
      let digestsEqual := ordSum 0 sent == ordSum 0 received
      match s.triageLc lc with
      | some t =>
        (match t.spare with
         | some q =>
           if t.filled then s
           else if digestsEqual then (s.modTriage t.core fun x => { x with filled := true, fillReel := s.now }).afterStage t.core
           else (s.triageRefill t q 0x3F).afterStage t.core
         | none => s)
      | none => match s.replaceOf lc with
        | some r =>
          (match r.new with
           | some q =>
             if r.filled || !r.started then s
             else if !digestsEqual then ((s.fillFailed q 0x3F).replaceRefill r).goOn
             else if r.kind = 5 then (s.placeLate r q).goOn
             else (s.modReplace lc fun x => { x with filled := true, replayLen := r.freezeStep - s.openFrom lc r.freezeStep }).replayOpen lc q r.freezeStep
           | none => s)
        | none => s)
/-- TRIAGE_STAGE_B_DONE (R169, R175): the replay on the spare has ended. -/
def execTriageStageBDone (core : Nat) (r : ReplayEnd) (digest : List Nat) (s : State) : Host.Outcome State Fault Refusal :=
  guardId (validCore core)
    (s.whenActing (.triageStageBDone core r digest) fun s =>
      match s.triageOf core with
      | none => s
      | some t =>
        if !t.bStarted || t.stageBDone || t.waitB.isSome then s
        else
          let s := s.replayed t (t.bCore.getD core) (t.detStep - (s.ticket t.ticket).rstep)
          if r = .pass then ((s.feedReplay t digest).closeB ((s.triageOf core).getD t) digest).afterStage core else
          let g : Stage := match r with
            | .pass => 0
            | .failed o x => if o = t.primary && x = t.regs then 1 else 2
            | .poisonedOld => 0
            | .poisonedNew => 2
          let s := if r = .poisonedOld then s.closeTicket t.ticket 3 else s
          let s := s.modTriage core fun x =>
            { x with stageB := g, stageBDone := true, bReel := s.now
                     spareDigest := some (checkDigest (descGate (s.unitDesc t.ticket)) t.asGate digest) }
          if r = .poisonedNew then
            (match s.triageOf core with
             | some u => ((s.verdictFor u 6).detach t).goOn
             | none => s)
          else s.afterStage core)
/-- Failures of a logical core that are still queued go with it to its new carrier, which stays frozen for them (R37). -/
def State.moveQueued (s : State) (n q : Nat) : State :=
  if s.sh.triageQ.any fun x => x.lc == n then
    (s.modSh fun h => { h with triageQ := h.triageQ.map fun x => if x.lc == n then { x with core := q } else x }).freezeCore q
  else s
/-- REPLACEMENT_REPLAY_DONE (R57, R58, R260): the open tickets have been replayed on the new carrier; the map is rewritten and issue resumes. -/
def execReplacementReplayDone (lc : Nat) (s : State) : Host.Outcome State Fault Refusal :=
  guardId (decide (lc < 13824))
    (s.whenActing (.replacementReplayDone lc) fun s =>
      match s.triageLc lc with
      | some t =>
        (match t.spare, t.verdict with
         | some q, some v =>
           if !t.placing then s
           else
             let s := s.addReplay q lc (t.placeLen - (s.core q).replaySteps)
             let s := (s.placeOn lc t.core q 0 2 t.primary t.frozenReel).moveQueued lc q
             let t := { t with replayLen := t.replayLen + t.placeLen }
             ((s.triageBeat t.core v).endTriage t v (if t.borrowed then 2 else 1) q).goOn
         | _, _ => s)
      | none => match s.replaceOf lc with
        | some r =>
          (match r.new with
           | some q => if r.filled && r.kind ≠ 5 then (((s.finishReplace r q).moveQueued lc q).hangReset r.old).goOn else s
           | none => s)
        | none => s)

/-! ## Reports of comparisons (R116, R157) -/

/-- PAIR_DIGEST (R116, R118): a partner's digests reach its die's agent, or the active Vat when the pair spans dies, which discards
    the digests of a context in teardown (Table 8.9). -/
def execPairDigest (h : Hdr) (r : PairReport) (s : State) : Host.Outcome State Fault Refusal :=
  guardId (decide (r.lc < 13824) && decide (r.partner < 13824) && decide (r.ticket < 221184) && decide (r.ctx < 4096) && decide (r.layer < 65536) &&
      decide (r.oper < 65536))
    (if s.lcDie r.lc = s.lcDie r.partner then (s.takePair r).retryAll
     else s.recvVat (.pairDigest h r) h 0x41 fun s => if (s.ctx r.ctx).state = 3 then s else (s.takePair r).retryAll)
/-- POOL_LOAN (R157): a request for a block reaches the active Vat, or a lent block reaches the agent, where comparisons that wait for a pool ticket
    take one. -/
def execPoolLoan (h : Hdr) (die : Nat) (block : Option Nat) (s : State) : Host.Outcome State Fault Refusal :=
  guardId (isDie die && isDie h.src)
    (match block with
     | none => s.recvVat (.poolLoan h die block) h 0x91 fun s =>
         (s.modSh fun x => { x with poolWait := if x.poolWait.contains h.src then x.poolWait else x.poolWait ++ [h.src] }).lendPool
     | some _ => s.recvCmd die h 0x91 fun s => ((((s.modDie die fun k => { k with poolAsked := false }).servePool die).askPool die).settleAll).retryAll)
/-- LAID_RES (R111): the anchor decides when every member is on its die, the active Vat otherwise. -/
def execLaidRes (h : Hdr) (r : LaidReport) (s : State) : Host.Outcome State Fault Refusal :=
  guardId (decide (r.lc < 13824) && decide (r.anchor < 13824) && decide (r.ticket < 221184) && decide (r.ctx < 4096) && decide (r.layer < 65536) &&
      decide (r.oper < 65536))
    (if (s.groupLcs r.ctx r.anchor r.layer r.oper).any fun m => s.lcDie m != s.lcDie r.anchor then s.recvVat (.laidRes h r) h 0x40 fun s =>
      if (s.ctx r.ctx).state = 3 then s else (s.takeLaid r).retryAll
     else (s.takeLaid r).retryAll)
/-- VERDICT (R159): a verdict of the active Vat reaches the die of an AWAIT ticket. -/
def execVerdict (h : Hdr) (ticket : Nat) (pass : Bool) (s : State) : Host.Outcome State Fault Refusal :=
  guardId (decide (ticket < 262144))
    (s.recvCmd (s.lcDie (s.ticket ticket).lc) h 0x42 fun s => (s.takeVerdict ticket pass).retryAll)

end Sys2Proof.Machine
end

