-- ==== Sys2Proof/Machine/Flash.lean ====
section
/-! DEFINITION. Torty packages as bytes: headers, the checks of Table 6.9, the flash halves, the banks of the agents (R206-R215). -/

namespace Sys2Proof.Machine

/-! ## Headers and checks (Tables 6.6, 6.7, 6.9) -/

/-- A package header (Table 6.6), with whether every field that must be zero is. -/
structure TortyHeader where
  magic : Nat
  format : Nat
  kind : Nat
  signer : Nat
  keyId : Nat
  step : Nat
  bound : Bool
  uid : Nat
  serial : Nat
  payloadLen : Nat
  slices : Nat
  sha : Nat
  r : Nat
  s : Nat
  zeros : Bool
deriving DecidableEq, Repr, Inhabited
/-- The header of the package that begins at an address (Table 6.6). -/
def headerAt (m : List Host.Cell) (a : Nat) : TortyHeader :=
  let f := fun o n => fieldAt m (a + o) n
  { magic := f 0 4, format := f 4 2, kind := f 6 1, signer := f 7 1, keyId := f 8 4, step := f 12 2, bound := bit (f 14 2) 0, uid := f 16 16,
    serial := f 32 4, payloadLen := f 36 4, slices := f 40 4, sha := f 48 48, r := beNum (bytesAt m (a + 160) 48), s := beNum (bytesAt m (a + 208) 48),
    zeros := decide (f 14 2 < 2) && (bit (f 14 2) 0 || f 16 16 == 0) && f 44 4 == 0 && f 96 64 == 0 }
/-- Whether a package's lengths keep Table 6.7. -/
def tortyLimits (h : TortyHeader) : Bool :=
  match h.kind with
  | 1 => h.slices == 400 && decide (h.payloadLen ≤ 3145728 - 256)
  | 2 => decide (1 ≤ h.slices) && decide (h.slices ≤ 200) && decide (h.payloadLen ≤ 1048576 - 256)
  | 3 => h.slices == 0 && decide (h.payloadLen ≤ 65536 - 256)
  | _ => decide (1 ≤ h.slices) && decide (h.slices ≤ 800) && decide (h.payloadLen ≤ 4194304 - 256)
/-- A key identifier names an enrolled key of a signer class, 0 Vendor or 1 Operator (Table 6.9 check 6). -/
def State.signerKey (s : State) (signer keyId : Nat) : Bool :=
  if signer = 0 then s.pkg.vendorKeys.contains keyId else signer == 1 && s.pkg.keys.any fun k => k.cls == 1 && k.id == keyId
/-- The header's signature over the digest of its bytes 0 to 159 verifies (R212). -/
def State.headerSigned (s : State) (m : List Host.Cell) (a : Nat) (h : TortyHeader) : Bool :=
  s.verifies (if h.signer = 0 then .vendor else .operator) h.keyId (bytesAt m a 160) h.r h.s
/-- The payload's digest matches the header's (R212). -/
def payloadMatches (m : List Host.Cell) (a : Nat) (h : TortyHeader) : Bool := Config.sha384 (bytesAt m (a + 256) h.payloadLen) % 2 ^ 384 == h.sha
/-- The first check of Table 6.9 that a package of `len` bytes submitted as a kind fails, but for its serial, as the reason code. -/
def State.packFault (s : State) (kind len : Nat) (m : List Host.Cell) (a : Nat) : Option Nat :=
  let h := headerAt m a
  let lc := s.pkg.lifecycle
  if lc = 0 || lc = 4 then some 0x0B
  else if h.magic ≠ 0x59545254 || h.format ≠ 1 || !h.zeros then some 1
  else if h.kind ≠ kind || kind = 0 || 4 < kind || (kind = 4 && lc = 2) then some 2
  else if h.step ≠ Config.siliconStep then some 3
  else if h.bound && h.uid ≠ s.pkg.uid then some 4
  else if !s.signerKey h.signer h.keyId then some 5
  else if h.signer ≠ 0 && kind ≠ 2 then some 6
  else if !s.headerSigned m a h then some 7
  else if !tortyLimits h || len ≠ h.payloadLen + 256 then some 0x0A
  else if !payloadMatches m a h then some 8
  else none

/-! ## The flash (R206, R207, R210, R223) -/

/-- A kind's state in the flash. -/
def State.flashKind (s : State) (kind : Nat) : FlashKind := tget {} s.pkg.flash kind
/-- Updates a kind's state in the flash. -/
def State.modFlash (s : State) (kind : Nat) (f : FlashKind → FlashKind) : State :=
  s.modPkg fun g => { g with flash := tset {} g.flash kind (f (tget {} g.flash kind)) }
/-- The half of a kind that is active now: the one that an activation has made active, or the directory's (R207, R223). -/
def State.activeHalf (s : State) (kind : Nat) : Nat :=
  match (s.flashKind kind).dirPending with | some x => x.1 | none => (dirEntry s.pkg.flashMem kind).1
/-- The package in the active half of a kind, none when the check at package reset has found it unfit (R210). -/
def State.activePack (s : State) (kind : Nat) : Option Pack :=
  let h := headerAt s.pkg.flashMem (halfAt kind (s.activeHalf kind))
  if (s.flashKind kind).bad ≠ 0 || h.magic ≠ 0x59545254 then none
  else some { serial := h.serial, keyId := h.keyId, slices := h.slices, bytes := h.payloadLen + 256
              hours := match (s.flashKind kind).dirPending with | some x => x.2 | none => (dirEntry s.pkg.flashMem kind).2.2 }
/-- The bytes of a package in a half. -/
def State.halfCells (s : State) (kind half : Nat) : List Host.Cell := cutCells s.pkg.flashMem (halfAt kind half) 0x400000
/-- The check of a submitted package (Table 6.9): the first failure as its reason code; a serial must exceed the active one, or equal it in the Factory
    and Return states. -/
def State.tortyCheck (s : State) (kind len : Nat) : Option Nat :=
  match s.packFault kind len s.sh.torty 0 with
  | some r => some r
  | none =>
    let n := (headerAt s.sh.torty 0).serial
    let open_ := s.pkg.lifecycle == 1 || s.pkg.lifecycle == 3
    match s.activePack kind with
    | some p => if kind ≠ 4 && (if open_ then decide (n < p.serial) else decide (n ≤ p.serial)) then some 9 else none
    | none => none

/-! ## The banks of an agent (R208, R213) -/

/-- Bank offset of a kind's region: base 0, fleet 0x30_0000, diagnostic the whole bank (R208). -/
def regionAt (kind : Nat) : Nat := if kind = 2 then 0x300000 else 0
/-- Length of a kind's region. -/
def regionLen (kind : Nat) : Nat := if kind = 1 then 0x300000 else if kind = 2 then 0x100000 else 0x400000
/-- A furnish bank of an agent. -/
def Furnish.bankOf (f : Furnish) (b : Nat) : List Host.Cell := if b = 0 then f.bank0 else f.bank1
/-- Changes a furnish bank. -/
def Furnish.setBank (f : Furnish) (b : Nat) (m : List Host.Cell) : Furnish := if b = 0 then { f with bank0 := m } else { f with bank1 := m }
/-- The staging bank. -/
def Furnish.spare (f : Furnish) : Nat := 1 - f.bank
/-- A microcode bank of an agent. -/
def Furnish.ucodeOf (f : Furnish) (b : Nat) : List Host.Cell := if b = 0 then f.ucode0 else f.ucode1
/-- Changes a microcode bank. -/
def Furnish.setUcode (f : Furnish) (b : Nat) (m : List Host.Cell) : Furnish := if b = 0 then { f with ucode0 := m } else { f with ucode1 := m }
/-- A region of a bank holds a package. -/
def Furnish.holds (f : Furnish) (b kind : Nat) : Bool := fieldAt (f.bankOf b) (regionAt kind) 4 == 0x59545254
/-- Slices of the package in a region of a bank. -/
def Furnish.slices (f : Furnish) (b kind : Nat) : Nat := if f.holds b kind then fieldAt (f.bankOf b) (regionAt kind + 40) 4 else 0
/-- The expected signature of a slice of a package in a region of a bank: its directory's entry (R213). -/
def Furnish.signature (f : Furnish) (b kind i : Nat) : Nat := fieldAt (f.bankOf b) (regionAt kind + 256 + 16 * i + 8) 8
/-- The bank, of furnish or of microcode, in which a kind's package is received. -/
def Furnish.stage (f : Furnish) (kind b : Nat) : List Host.Cell := if kind = 3 then f.ucodeOf b else f.bankOf b
/-- Changes the bank in which a kind's package is received. -/
def Furnish.setStage (f : Furnish) (kind b : Nat) (m : List Host.Cell) : Furnish := if kind = 3 then f.setUcode b m else f.setBank b m
/-- A kind's region of a furnish bank. -/
def Furnish.region (f : Furnish) (b kind : Nat) : List Host.Cell := cutCells (f.bankOf b) (regionAt kind) (regionLen kind)
/-- A kind's region of a furnish bank takes other contents. -/
def Furnish.setRegion (f : Furnish) (b kind : Nat) (m : List Host.Cell) : Furnish := f.setBank b (putCells (f.bankOf b) (regionAt kind) (regionLen kind) m)
/-- The other kind of base and fleet. -/
def otherKind (kind : Nat) : Nat := if kind = 1 then 2 else 1
/-- A package that arrives in the bank that an activation of the other kind has made active moves to the staging bank, beside a copy of that kind, and
    the active bank takes the active package back (R209, log 111). -/
def Furnish.settleKind (f : Furnish) (kind : Nat) : Furnish :=
  match tget none f.staging kind with
  | none => f
  | some x =>
    if x.bank = f.spare then f
    else
      let old := f.region f.spare kind
      let f := (f.setBank f.spare (f.bankOf f.bank)).setRegion f.bank kind old
      { f with staging := tset none f.staging kind (some { x with bank := f.spare }) }
/-- The banks of an agent whose Beater runs nothing are as R208 and R209 lay down. -/
def Furnish.settle (f : Furnish) : Furnish := (f.settleKind 1).settleKind 2
/-- A package in receipt is discarded: its bank, or its region, which takes the active package of its kind where the bank is to become or is active. -/
def Furnish.dropStage (f : Furnish) (kind : Nat) : Furnish :=
  match tget none f.staging kind with
  | none => f
  | some x =>
    let f := { f with staging := tset none f.staging kind none }
    if kind = 1 || kind = 2 then
      f.setRegion x.bank kind (if (tget none f.staging (otherKind kind)).isSome || x.bank = f.bank then f.region (1 - x.bank % 2) kind else [])
    else if kind = 4 then { f.setBank x.bank [] with diag := false }
    else f.setUcode x.bank []
/-- Updates an agent's furnish side. -/
def State.modFurnish (s : State) (d : Nat) (f : Furnish → Furnish) : State := s.modDie d fun k => { k with furnish := f k.furnish }
/-- The Beater of a die runs slices from the bank that is now the staging bank: it stays in use until the run ends (R222, Table 6.12). -/
def State.stagingUsed (s : State) (d : Nat) : Bool := (s.die d).beater.target.isSome && (s.die d).beater.bank == (s.die d).furnish.spare

end Sys2Proof.Machine
end

