-- ==== Sys2Proof/Machine/Screening.lean ====
section
/-! DEFINITION. Beater screening: targets, slices, leases, confirmation and final classes (R89-R91, R181, R185-R205). -/

namespace Sys2Proof.Machine

/-! ## Targets and slices (R189-R192, R214) -/

/-- Updates a die's Beater. -/
def State.modBeater (s : State) (d : Nat) (f : Beater → Beater) : State := s.modDie d fun k => { k with beater := f k.beater }
/-- The furnish bank from which a run of a kind takes its slices: the active one, a diagnostic run the staging bank (R208, R222). -/
def Furnish.bankFor (f : Furnish) (kind : Nat) : Nat := if kind = 3 then f.spare else f.bank
/-- The slices of a run kind in a furnish bank as first index and end: 0 periodic, 1 targeted, 2 start-up, 3 diagnostic (Table 6.2, R210). -/
def Furnish.range (f : Furnish) (b kind : Nat) : Nat × Nat :=
  let fleet := f.slices b 2
  match kind with
  | 0 => (0, 400)
  | 1 => (0, 400 + fleet)
  | 2 => if 0 < fleet then (400, 400 + fleet) else (0, 200)
  | _ => (0, f.slices b 3)
/-- A furnish bank holds the package that a run kind needs (R210). -/
def Furnish.fits (f : Furnish) (b kind : Nat) : Bool :=
  match kind with
  | 2 => f.holds b 1 || f.holds b 2
  | 3 => f.diag && b == f.spare
  | _ => f.holds b 1
/-- A die holds the package that a run kind needs. -/
def State.furnished (s : State) (d kind : Nat) : Bool := (s.die d).furnish.fits ((s.die d).furnish.bankFor kind) kind
/-- The slices of the run on a die's Beater, from the bank it began on (R222). -/
def State.runRange (s : State) (d : Nat) : Nat × Nat := (s.die d).furnish.range (s.die d).beater.bank (s.die d).beater.kind
/-- The expected MISR signature of the slice that a die's Beater shifts: the loop slice's in the agent's microcode, another's in the directory of its
    package (R185, R203, R213). -/
def State.expected (s : State) (d : Nat) : Nat :=
  let f := (s.die d).furnish
  let b := (s.die d).beater
  if b.confirm = 1 then Config.loopSignature (fieldAt (f.ucodeOf f.ucodeBank) 32 4) % 2 ^ 64
  else if b.kind = 3 then f.signature b.bank 3 b.slice
  else if b.slice < 400 then f.signature b.bank 1 b.slice
  else f.signature b.bank 2 (b.slice - 400)
/-- The Factory and Return states, where any run kind may run on any core at any time (Table 6.8). -/
def State.openLife (s : State) : Bool := s.pkg.lifecycle == 1 || s.pkg.lifecycle == 3
/-- The Beaters can be reached as IEEE 1687 instruments through the IEEE 1149.1 port of either hub die: in the Factory and Return states (R214). No
    command uses that port (log 114). -/
def State.ieee1687Open (s : State) : Bool := s.openLife
/-- A die's Beater may run slices now: it is usable, on distributed microcode with no bank change pending (R222), Calender permits screening, no
    stop is latched and the life-cycle state allows it. -/
def State.beaterOk (s : State) (d : Nat) : Bool :=
  let k := s.die d
  isCompute d && !k.inReset && !k.beater.unusable && !k.furnish.ucodeRom && (k.furnish.ucodePending.isNone || k.beater.confirm != 0) && !k.stopLatch &&
    s.screenOk d && s.pkg.lifecycle != 0 && s.pkg.lifecycle != 4
/-- A core may be parked for a slice: it exists, is neither in triage nor in reset, and is not defective or absent. -/
def State.parkable (s : State) (p : Nat) : Bool := !s.inTriage p && !(s.core p).resetting && physState (s.phys p) < 3 && s.enabled (coreDie p)
/-- A core is screened back to back (R191, R203): it carries no logical core of a launched context, was left parked by a failed slice or is under
    confirmation, is held at a breakpoint for more than 1 s (Table 14.3), or the life-cycle state opens every core. -/
def State.freeToScreen (s : State) (p : Nat) : Bool :=
  let b := (s.die (coreDie p)).beater
  s.openLife || (s.core p).openScreen || (s.core p).parked || (b.confirm != 0 && b.target == some (coreIndex p)) ||
    match s.lcOf p with
    | none => true
    | some n => match s.lcCtx n with | none => true | some c => (s.ctx c).state != 2
/-- The next target of a die's Beater as core index, kind and triage verdict (R190); while a start-up run lasts, its next core (R205). -/
def State.nextTarget (s : State) (d : Nat) : Option (Nat × Nat × Nat) :=
  let b := (s.die d).beater
  match b.startCore with
  | some i => some (i, 2, 0xF)
  | none =>
    let ok := fun q : BeatRun => s.parkable (pcoreOf d q.core) && s.furnished d q.kind
    match b.queue.find? fun q => ok q && physState (s.phys (pcoreOf d q.core)) == 2 with
    | some q => some (q.core, q.kind, q.why)
    | none => match b.queue.find? ok with
      | some q => some (q.core, q.kind, q.why)
      | none =>
        if s.furnished d 0 then
          (bestBy (fun p => 2 ^ 64 - s.screenAge p) ((dieCores d).filter s.parkable)).map fun p => (coreIndex p, 0, 0xF)
        else none
/-- A run begins on a target, from the furnish bank that is active then (R192, R222). -/
def State.beginBeat (s : State) (d : Nat) (t : Nat × Nat × Nat) : State :=
  let f := (s.die d).furnish
  s.modBeater d fun b =>
    { b with target := some t.1, kind := t.2.1, why := t.2.2, bank := f.bankFor t.2.1, slice := (f.range (f.bankFor t.2.1) t.2.1).1, firstFail := none
             applied := 0, failed := false, confirm := 0, rerun1 := none, judge := false, partway := false, abandon := false, runStart := s.dieReel d
             queue := b.queue.filter fun q => q.core != t.1 || q.kind != t.2.1 }
/-- The Beater takes its next target when it has none. -/
def State.adopt (s : State) (d : Nat) : State :=
  if (s.die d).beater.target.isSome then s
  else
    let s := s.modFurnish d Furnish.settle
    match s.nextTarget d with
    | some t => s.beginBeat d t
    | none => s
/-- The physical core that a die's Beater targets. -/
def State.targetCore (s : State) (d : Nat) : Option Nat := (s.die d).beater.target.map (pcoreOf d)

/-! ## Leases at the agent (R193-R196, R205) -/

/-- The agent asks for a slice lease for its target outside windows, once (R195). -/
def State.askLease (s : State) (d : Nat) : State :=
  if s.pkg.boot ≠ .ready || !s.beaterOk d || (s.die d).beater.lease.isSome || (s.die d).beater.request.isSome then s
  else
    let s := s.adopt d
    match s.targetCore d with
    | some p => if s.freeToScreen p && s.parkable p then (s.modBeater d fun b => { b with request := some (1, s.now) }).toVat d 0x87 [1] else s
    | none => s
/-- The Beater returns its lease. -/
def State.returnLease (s : State) (d : Nat) : State :=
  if (s.die d).beater.lease.isSome then ((s.modBeater d fun b => { b with lease := none, leaseKind := 0 }).dieRing d 0x22 d).toVat d 0x89 [] else s
/-- A slice lease is returned when its slice ends; a start-up lease is kept. -/
def State.endLease (s : State) (d : Nat) : State := if (s.die d).beater.leaseKind = 2 then s else s.returnLease d
/-- SIZING_WINDOW_LEASE_REQUEST (R194): the target reaches a window's start minus 16,384 steps. -/
def execSizingWindowLeaseRequest (core start len : Nat) (s : State) : Host.Outcome State Fault Refusal :=
  guardId (validCore core)
    (let d := coreDie core
     let s := s.adopt d
     match s.lcOf core with
     | none => s
     | some n =>
       if s.targetCore d = some core && s.beaterOk d && (s.die d).beater.lease.isNone && (s.die d).beater.request.isNone &&
         s.furnished d (s.die d).beater.kind &&
           decide (start ≤ (s.lc n).lstep + 16384) && decide ((s.lc n).lstep < start + len) then
         (s.modBeater d fun b => { b with window := some (start, len), request := some (0, s.now) }).toVat d 0x87 [0]
       else s)
/-- A refusal of a die's window lease is counted; three in a row put the die first (R196). -/
def State.windowRefused (s : State) (d : Nat) : State :=
  s.modSh fun h =>
    let n := tget 0 h.refusals d + 1
    { h with refusals := tset 0 h.refusals d n, starved := if 3 ≤ n && !h.starved.contains d then h.starved ++ [d] else h.starved }
/-- SIZING_WINDOW_FORFEIT (R194): no grant has come by the window's start. A request that is still held for the Vat, or on its way, is refused when it
    comes within the 80 us of R197, and that refusal is what counts toward R196 (Table 6.12). -/
def execSizingWindowForfeit (die : Nat) (s : State) : Host.Outcome State Fault Refusal :=
  guardId (isCompute die)
    (let b := (s.die die).beater
     if b.window.isNone || b.lease.isSome then s
     else s.modBeater die fun b => { b with window := none, request := none })

/-! ## Slices (R185, R186, R188, R191) -/

/-- Park, slice and unpark fit in the rest of the core's sizing window (R194). -/
def State.windowFits (s : State) (d p : Nat) : Bool :=
  match (s.die d).beater.window, s.lcOf p with
  | some w, some n => decide (w.1 ≤ (s.lc n).lstep) && decide ((s.lc n).lstep + 46024 ≤ w.1 + w.2)
  | _, _ => false
/-- A lease is in force. -/
def State.leased (s : State) (d : Nat) : Bool := match (s.die d).beater.lease with | some e => decide (s.dieReel d < e) | none => false
/-- The Beater parks its target and starts to shift a slice with its MISR cleared, or goes on with one that stopped between segments (R90, R185); the
    loop slice shows as slice 1,023. Each start and each continuation in a stall is one use of it, which counts at CPL_RELAX_CNT and in its partition's
    sum (R91; DESIGN CHOICE, log 126). -/
def State.shiftSlice (s : State) (d p : Nat) (stall : Bool) : State :=
  let b := (s.die d).beater
  let s := if stall then
      (s.modDie d fun k => { k with relaxCnt := satAdd 32 k.relaxCnt 1 }).modPkg fun g =>
        { g with relaxSum := tset 0 g.relaxSum (s.partOf d) (satAdd 64 (tget 0 g.relaxSum (s.partOf d)) 1) }
    else s
  let s := if (s.core p).parked then s else (s.modCore p fun c => { c with parked := true }).tapRing p 7 b.slice
  (s.modBeater d fun b => { b with shifting := true, stopping := false, faulted := false, stall := stall, misr := if b.partway then b.misr
                                   else 0, partway := false }).emit
    (.shift d p (if b.confirm = 1 then 1023 else b.slice))
/-- A slice may start on the target now. -/
def State.mayShift (s : State) (d p : Nat) : Bool :=
  let b := (s.die d).beater
  s.targetCore d == some p && !b.shifting && !b.judge && s.beaterOk d && s.parkable p && s.leased d && ((s.die d).furnish.fits b.bank b.kind || b.confirm == 1)
/-- Stall reasons that are waits on a handshake (Table 14.8). -/
def handshakeReasons : List Nat := [1, 2, 5, 6, 7, 8, 9]
/-- SLICE_START (R186, R191). -/
def execSliceStart (die core : Nat) (s : State) : Host.Outcome State Fault Refusal :=
  guardId (isCompute die && validCore core && coreDie core == die)
    (let s := s.adopt die
     if s.mayShift die core && (s.freeToScreen core || s.windowFits die core) then s.shiftSlice die core false else s)
/-- RELAXED_STALL_SCAN (R90, R91): a core has waited on a handshake for 2 us, which becomes its stall reason (log 66). In relaxed mode the Beater uses
    the stall of its target, under a slice lease that it asks for. -/
def execRelaxedStallScan (core reason : Nat) (awaited : Option Nat) (s : State) : Host.Outcome State Fault Refusal :=
  guardId (validCore core && handshakeReasons.contains reason && awaited.all fun n => decide (n < 13824))
    (if s.stopped core || (s.lcOf core).isNone then s
     else
       let d := coreDie core
       let c := s.core core
       let s := if c.stallNow = reason && c.awaited = awaited then s
         else (s.setStall core reason awaited).modCore core fun c => { c with stallSince := s.now - 2000 }
       if !c.relaxed then s
       else
         let s := s.adopt d
         if s.mayShift d core then s.shiftSlice d core true
         else
           let b := (s.die d).beater
           if s.targetCore d = some core && s.beaterOk d && s.parkable core && !b.shifting && !b.judge && b.lease.isNone && b.request.isNone then
             (s.modBeater d fun b => { b with request := some (1, s.now) }).toVat d 0x87 [1]
           else s)
/-- A periodic run on a core that triage has fenced is abandoned (Table 6.12). -/
def State.abandoned (s : State) (d p : Nat) : Bool :=
  let b := (s.die d).beater
  b.kind == 0 && b.confirm == 0 && b.abandon && b.target == some (coreIndex p)
/-- Shifting ends on the target: a used sizing window passes in whole (R56), a wait that has ended releases the core, and a slice lease returns. -/
def State.endShift (s : State) (d p : Nat) : State :=
  let b := (s.die d).beater
  let s := (s.creditWindow p).modBeater d fun b => { b with shifting := false, stopping := false, stall := false, window := none }
  let s := if b.stall && (s.core p).stallNow = 0xA then s.setStall p 0 none else s
  s.endLease d
/-- A slice stops at a segment boundary and is not completed: the core is unparked, or stays parked for its confirmation under a new lease (Table
    6.12); one that a handshake has stopped goes on later (`keep`). A core whose logical core has not left it yet is held (log 30). -/
def State.haltSlice (s : State) (d p : Nat) (keep : Bool) : State :=
  let b := (s.die d).beater
  let s := (s.endShift d p).modBeater d fun b => { b with partway := keep }
  let s := if b.confirm = 0 then s.unpark p
    else if (s.lcOf p).isNone then s.unpark p
    else if (s.die d).stopLatch || !s.screenOk d then (s.holdCore p 1).unpark p
    else s
  if s.abandoned d p then s.modBeater d fun b => { b with target := none } else s
/-- A lease outlasts one more shift segment of 1,280 steps, 1,423 counts at 0.9 G steps/s (R185, R193, log 114). -/
def State.leaseLasts (s : State) (d : Nat) : Bool := match (s.die d).beater.lease with | some e => decide (s.dieReel d + 1423 < e) | none => false
/-- SHIFT_SEGMENT_DONE (R185, R193, Table 6.12): the MISR has taken the segment's response; the slice goes on, or stops at this boundary. -/
def execShiftSegmentDone (die misr : Nat) (s : State) : Host.Outcome State Fault Refusal :=
  guardId (isCompute die && decide (misr < 2 ^ 64))
    (match s.targetCore die with
     | some p =>
       let b := (s.die die).beater
       if !b.shifting then s
       else
         let s := s.modBeater die fun b => { b with misr := misr }
         let held := !s.screenOk die || !s.leaseLasts die || (s.die die).stopLatch || (s.core p).frozen || (s.core p).resetting
         let relaxOff := b.stall && !tget false s.pkg.relaxed (s.partOf die)
         if held || b.stopping || relaxOff then s.haltSlice die p (b.stall && !held && !b.faulted) else s
     | none => s)

/-! ## The end of a run (R181, R189, R192, R205) -/

/-- Reasons of the bound-void flag that a passing periodic run may clear: SCREEN_OVERDUE, SEQ_OFF (R124) and THERMAL (Table 7.10). -/
def State.clearScreenVoid (s : State) : State :=
  let cores := (List.range 96).flatMap s.usable
  let s := s.clearOverdue
  let s := match s.pkg.seqOnSince with
    | some t => if bit s.pkg.voidReasons 0 && cores.all (fun p => s.screenedSince p t) then (s.modPkg fun g => { g with seqOnSince := none }).clearVoid 0 else s
    | none => s
  s.evalThermal
/-- The final class of a triage verdict and a targeted run (Table 5.8): 0 TRANSIENT, 1 LATENT, 2 PERMANENT, 3 ESCAPED. -/
def finalClass (why : Nat) (failed : Bool) : Option Nat :=
  if why = 0 || why = 6 then some (if failed then 1 else 0)
  else if why = 1 || why = 2 then some (if failed then 2 else 3)
  else if why = 3 then some 2
  else if why = 5 then some (if failed then 2 else 0)
  else none
/-- The core is classified (R181, R182). -/
def State.classify (s : State) (p : Nat) (b : Beater) : State :=
  match finalClass b.why b.failed with
  | none => s
  | some k =>
    let s := s.record 0x0502 (if k = 0 then 1 else 3) (coreSource p 0) (k * 2 ^ 20 + p) (sat 24 b.applied) (b.firstFail.getD 0xFFFFFF)
    match k with
    | 0 =>
      let s := s.vatCount (coreSource p 26) (s.coreDetail p)
      if b.why = 5 && physState (s.phys p) = 2 then s.fenceCore p 0 0 else s
    | 1 => if (s.lcOf p).isSome then s.planReplace p 24 false else if physState (s.phys p) = 0 then s.fenceCore p 2 24 else s
    | 2 => if physState (s.phys p) = 3 then s else s.markDefective p (bits (s.phys p) 8 6)
    | _ => s.modCore p fun c => { c with escaped := some false }
/-- What a targeted run's end does beside the class: a hung core's state (Table 8.7 step 5), and the later fleet run of an escaped core. -/
def State.endTargeted (s : State) (d p : Nat) (b : Beater) : State :=
  let s := if (s.core p).hung then
      let s := s.modCore p fun c => { c with hung := false }
      if b.failed then s.markDefective p 31 else if physState (s.phys p) = 2 then s.fenceCore p 0 0 else s
    else s
  if (s.core p).escaped = some false && !b.failed && b.why = 0xF && (s.die d).furnish.holds b.bank 2 then
    s.modCore p fun c => { c with escaped := some true }
  else s
/-- A run ends: MTP_SCREEN when slices 0 to 399 all passed, the final class, the next core of a start-up run, and the next target (R190). -/
def State.endBeat (s : State) (d p : Nat) : State :=
  let b := (s.die d).beater
  let whole := (b.kind = 0 || b.kind = 1) && 400 ≤ b.slice && (match b.firstFail with | some i => decide (400 ≤ i) | none => true)
  let s := s.modBeater d fun b => { b with target := none, confirm := 0, rerun1 := none, partway := false }
  let s := if whole then
      (s.modCore p fun c => { c with screen := b.runStart, screenValid := true, lateShown := false, overShown := false }).clearScreenVoid
    else s
  let s := if b.kind = 1 then ((s.classify p b).endTargeted d p b).runEnded p b.failed else s
  if b.kind = 2 then
    match b.startCore with
    | some i =>
      let s := s.modBeater d fun b => { b with startCore := if i < 155 then some (i + 1) else none }
      if i < 155 then s else s.returnLease d
    | none => s
  else s.askLease d

/-! ## The end of a slice (R185, R201-R204) -/

/-- The logical core of a parked core is re-placed onto the cluster's spare, or the core is fenced (R201, R230); a spare that is being filled is given
    up (Table 8.6). -/
def State.loseCore (s : State) (p cause : Nat) : State :=
  match s.lcOf p with
  | some n => if (s.replaceOf n).any fun r => r.started || r.kind = 1 || r.kind = 4 then s else s.replaceNow n p 1 cause
  | none => if (s.die (coreDie p)).beater.kind = 2 || 2 ≤ physState (s.phys p) then s
    else if s.filling p then (s.spareFails p (coreSource p cause)).goOn else s.fenceCore p 2 cause
/-- A slice has failed: SLICE_FAIL and SCREEN_SLICE; a core that carries a logical core stays parked and is re-placed, another is fenced; then the
    confirmation of R203, except in a diagnostic run (R201). -/
def State.sliceFailed (s : State) (d p misr expected : Nat) : State :=
  let b := (s.die d).beater
  let s := s.record 0x0600 3 (coreSource p 0) (b.kind * 2 ^ 16 + p) b.slice (misr % 2 ^ 24 ^^^ expected % 2 ^ 24)
  let s := s.modBeater d fun b => { b with firstFail := some (b.firstFail.getD b.slice) }
  let s := s.agentCount d (coreSource p 24) (s.coreDetail p)
  if b.kind = 3 then (if (s.lcOf p).isNone then s.loseCore p 24 else s) else (s.modBeater d fun b => { b with confirm := 1 }).loseCore p 24
/-- A fenced core that a verdict of TRANSIENT or BEATER_FAULT does not return to service itself: under a triage verdict, whose action stands until the
    targeted run completes and whose class then decides (R181, R204, Table 5.8); or of class ESCAPED, which returns only by Operator command (Table 5.8,
    log 30). -/
def State.staysFenced (s : State) (p : Nat) (b : Beater) : Bool :=
  physState (s.phys p) == 2 && ((b.kind == 1 && [1, 2, 3, 5].contains b.why) || (s.core p).escaped.isSome)
/-- A screen verdict is taken (Table 6.4): 0 TRANSIENT, 1 INTERMITTENT, 2 PERMANENT, 3 BEATER_FAULT. `twice`: the slice has failed twice in a row, the
    run has failed (R204). -/
def State.screenVerdict (s : State) (d p v reruns : Nat) (twice : Bool) : State :=
  let b := (s.die d).beater
  let s := s.record 0x0601 (if v = 1 || v = 2 then 3 else 1) (coreSource p 0) (v * 2 ^ 20 + p) b.slice reruns
  let s := s.modBeater d fun b => { b with confirm := 0, rerun1 := none, slice := b.slice + 1, failed := b.failed || twice }
  let s := if (s.lcOf p).isSome then s else s.unpark p
  let s := if v = 0 then s.agentCount d (coreSource p 25) (s.coreDetail p) else s
  let s := if v = 3 then (s.modBeater d fun b => { b with unusable := true, startCore := none }).agentCount d (dieSource d 3) default else s
  let s := if b.kind = 2 then
      (if v = 1 || v = 2 then
        (s.modPkg fun g => { g with bringupBad := tset none g.bringupBad p (some 24) }).bistBlock (coreSource p 24) 4 p b.slice
       else s)
    else if s.staysFenced p b && (v = 0 || v = 3) then s
    else (if v = 3 then s.modCore p fun c => { c with hung := false } else s).screenEffect p v
  if v = 3 then (s.endBeat d p).returnLease d
  else if v = 0 && b.kind ≠ 0 && b.slice + 1 < (s.runRange d).2 then s.askLease d
  else s.endBeat d p
/-- The end of a confirmation step (R203). -/
def State.confirmEnd (s : State) (d p misr : Nat) (ok : Bool) : State :=
  let b := (s.die d).beater
  match b.confirm with
  | 1 => if ok then (s.modBeater d fun b => { b with confirm := 2 }).askLease d else s.screenVerdict d p 3 0 false
  | 2 => (s.modBeater d fun b => { b with confirm := 3, rerun1 := some (misr, !ok) }).askLease d
  | _ =>
    let one := b.rerun1.getD (0, false)
    let v := if ok && !one.2 then 0 else if !ok && one.2 && one.1 = misr then 2 else 1
    s.screenVerdict d p v (b2n one.2 + 2 * b2n (!ok)) one.2
/-- A slice is judged: its MISR against its expected signature (R185), and the retention check, which RETAIN_FAULT counts (R186, Table 7.2). -/
def State.judgeSlice (s : State) (d p : Nat) (retained : Bool) : State :=
  let b := (s.die d).beater
  let want := s.expected d
  let ok := b.misr == want
  let s := s.modBeater d fun b => { b with judge := false, applied := b.applied + 1 }
  let lost := fun s : State => if retained then s
    else (s.agentCount d (coreSource p 29) (s.coreDetail p)).loseCore p 29
  if s.abandoned d p then (lost s).unpark p |>.modBeater d fun b => { b with target := none }
  else if b.confirm ≠ 0 then lost (s.confirmEnd d p b.misr ok)
  else
    let s := lost (if ok then s else s.sliceFailed d p b.misr want)
    let stays := (s.lcOf p).isSome && (!retained || (s.die d).beater.confirm != 0)
    let s := if stays then s else s.unpark p
    if (s.die d).beater.confirm ≠ 0 then s.askLease d
    else
      let s := s.modBeater d fun b => { b with slice := b.slice + 1 }
      if (s.runRange d).2 ≤ b.slice + 1 then s.endBeat d p else s.askLease d
/-- SLICE_END (R185, R186, R201, R230): a slice on a core in reset is not completed (Table 8.13); one that passes is judged at once; the re-placement,
    fence or verdict after another waits while no Vat acts (Table 1.2). -/
def execSliceEnd (die : Nat) (retained : Bool) (s : State) : Host.Outcome State Fault Refusal :=
  guardId (isCompute die)
    (match s.targetCore die with
     | none => s
     | some p =>
       let b := (s.die die).beater
       if !b.shifting && !b.judge then s
       else if b.shifting && (s.core p).resetting then s.haltSlice die p false
       else
         let s := if b.shifting then (s.endShift die p).modBeater die fun b => { b with judge := true } else s
         if b.misr = s.expected die && b.confirm = 0 && retained then s.judgeSlice die p retained
         else s.whenActing (.sliceEnd die retained) fun s => s.judgeSlice die p retained)

/-! ## Leases at the Vat (R193-R197, R205) -/

/-- Grants a lease to a die. -/
def State.grantLease (s : State) (d kind : Nat) : State :=
  let e := s.now + (if kind = 2 then 2000000000 else 80000)
  let s := s.modSh fun h => { h with leases := h.leases ++ [(d, kind, e)], starved := h.starved.filter (· != d)
                                     leaseWait := if kind = 0 then h.leaseWait.filter (· != d) else h.leaseWait
                                     refusals := if kind = 0 then tset 0 h.refusals d 0 else h.refusals }
  s.vatSend 0x88 0 d [kind, e]
/-- The leases that may be outstanding at once: 24, and 12 while 8 or more compute dies are in NEAR (R193, R401). -/
def State.leaseLimit (s : State) : Nat := if 8 ≤ (s.sh.nearDies.filter isCompute).length then 12 else 24
/-- A lease may be granted: a starved die's while one is left for every die starved before it, another die's only while none is starved; outside
    windows only while at most 20 leases are outstanding (R193, R195-R197, R401). -/
def State.mayGrant (s : State) (d kind : Nat) : Bool :=
  let n := s.sh.leases.length
  decide (s.sh.blackout ≤ s.now) && decide (n < s.leaseLimit) && (kind != 1 || decide (n ≤ 20)) &&
    (if s.sh.starved.contains d then decide ((s.sh.starved.takeWhile (· != d)).length < s.leaseLimit - n) else s.sh.starved.isEmpty)
/-- Refuses a lease: a LEASE_GRANT whose expiry is 0 (log 22). -/
def State.refuseLease (s : State) (d kind : Nat) : State := (if kind = 0 then s.windowRefused d else s).vatSend 0x88 0 d [kind, 0]
/-- Leases go to the window requests that wait, oldest first, and to the dies of the start-up run in grant order (R193, R196, R205). -/
def State.grantWaiting (s : State) : State :=
  let s := each (s.sh.starved.filter s.sh.leaseWait.contains) (fun s d => if s.mayGrant d 0 then s.grantLease d 0 else s) s
  each s.sh.startupQ (fun s d =>
    if s.sh.startupQ.head? = some d && s.mayGrant d 2 then (s.modSh fun h => { h with startupQ := h.startupQ.drop 1 }).grantLease d 2 else s) s
/-- LEASE_REQ (R194-R197): granted or refused; a window request of a die with three refusals in a row waits for its lease. A start-up request takes the
    next place in the grant order (R205). -/
def execLeaseReq (h : Hdr) (kind : Nat) (s : State) : Host.Outcome State Fault Refusal :=
  guardId (isCompute h.src && decide (kind ≤ 2))
    (s.recvVat (.leaseReq h kind) h 0x87 fun s =>
      if kind = 2 then
        (s.modSh fun x => { x with startupQ := if x.startupQ.contains h.src then x.startupQ else x.startupQ ++ [h.src] }).grantWaiting
      else if s.mayGrant h.src kind then s.grantLease h.src kind
      else if kind = 0 && 3 ≤ tget 0 s.sh.refusals h.src && s.sh.blackout ≤ s.now then
        s.modSh fun x => { x with leaseWait := if x.leaseWait.contains h.src then x.leaseWait else x.leaseWait ++ [h.src]
                                  starved := if x.starved.contains h.src then x.starved else x.starved ++ [h.src] }
      else s.refuseLease h.src kind)
/-- LEASE_GRANT (R193-R195): CPL_LEASE_GRANT or CPL_LEASE_REFUSE counts; a refused window is left, another request is repeated; a grant that comes
    after its window was forfeited is returned. -/
def execLeaseGrant (h : Hdr) (die kind expiry : Nat) (s : State) : Host.Outcome State Fault Refusal :=
  guardId (isCompute die && decide (kind ≤ 2))
    (s.recvCmd die h 0x88 fun s =>
      if expiry = 0 then
        let s := s.modDie die fun k => { k with leaseRefuse := satAdd 32 k.leaseRefuse 1 }
        if kind = 0 then s.modBeater die fun b => { b with request := none } else s
      else
        let wanted := kind == 2 || (s.die die).beater.request.isSome
        let s := s.modDie die fun k => { k with leaseGrant := satAdd 32 k.leaseGrant 1 }
        let s := (s.modBeater die fun b => { b with lease := some expiry, leaseKind := kind, request := none }).dieRing die 0x21 die
        if wanted then s else s.returnLease die)
/-- LEASE_RETURN (R193, R205). -/
def execLeaseReturn (h : Hdr) (s : State) : Host.Outcome State Fault Refusal :=
  guardId (isCompute h.src)
    (s.recvVat (.leaseReturn h) h 0x89 fun s => (s.modSh fun x => { x with leases := x.leases.filter fun l => l.1 != h.src }).grantWaiting)
/-- LEASE_EXPIRY (R193, R205, Table 6.12): it is outstanding no longer; a slice that still shifts is stopped; a start-up run that outlasts it asks
    again. -/
def execLeaseExpiry (die : Nat) (s : State) : Host.Outcome State Fault Refusal :=
  guardId (isCompute die)
    (let b := (s.die die).beater
     let s := s.modBeater die fun b => { b with lease := none, leaseKind := 0 }
     let s := match s.targetCore die with | some p => if b.shifting then s.haltSlice die p false else s | none => s
     let s := if b.leaseKind = 2 && b.startCore.isSome then s.toVat die 0x87 [2] else s
     (s.modSh fun x => { x with leases := x.leases.filter fun l => l.1 != die }).grantWaiting)
/-- LEASE_RETRY_TICK (R195): the agent repeats its request, or makes its first one. -/
def execLeaseRetryTick (die : Nat) (s : State) : Host.Outcome State Fault Refusal :=
  guardId (isCompute die)
    (match (s.die die).beater.request with
     | some r => if r.1 = 1 then s.toVat die 0x87 [1] else s
     | none => s.askLease die)
/-- LEASE_BLACKOUT_END (R197). -/
def execLeaseBlackoutEnd (s : State) : Host.Outcome State Fault Refusal := .next (s.modSh fun h => { h with blackout := 0 }).grantWaiting

/-! ## Ages (R200, R211) and commands -/

/-- SCREEN_LATE (R200): a screen age of 12 min. -/
def execScreenLate (core : Nat) (s : State) : Host.Outcome State Fault Refusal :=
  guardId (validCore core)
    (if (s.core core).lateShown then s
     else (s.modCore core fun c => { c with lateShown := true }).record 0x0602 2 (coreSource core 0) core (sat 24 (s.screenAge core / 1000000000)) 0)
/-- SCREEN_OVERDUE (R200): a screen age of 15 min. -/
def execScreenOverdue (core : Nat) (s : State) : Host.Outcome State Fault Refusal :=
  guardId (validCore core)
    (s.whenActing (.screenOverdue core) fun s =>
     if (s.core core).overShown then s
     else ((s.modCore core fun c => { c with overShown := true }).record 0x0603 2 (coreSource core 0) core (sat 24 (s.screenAge core / 1000000000)) 0).setVoid 1)
/-- The age of the fleet furnish in 1/4096 h (R211). -/
def State.fleetAge (s : State) : Nat := match s.activePack 2 with | some p => s.pkg.hours - p.hours | none => 0
/-- FLEET_STALE (R211): an age of 720 h. -/
def execFleetStale (s : State) : Host.Outcome State Fault Refusal :=
  .next (s.whenActing .fleetStale fun s => match s.activePack 2 with
    | none => s
    | some p => if bit s.pkg.voidReasons 3 then s else (s.record 0x0608 2 s.hubRegion 0 p.serial (sat 24 (s.fleetAge / 4096))).setVoid 3)
/-- BRK_HOLD_SCREEN (Table 14.3): a core held for more than 1 s at a breakpoint is screened back to back. -/
def execBrkHoldScreen (core : Nat) (s : State) : Host.Outcome State Fault Refusal :=
  guardId (validCore core)
    (if s.brkHeld core then (s.modCore core fun c => { c with openScreen := true }).askLease (coreDie core) else s)
/-- SCREEN_RUN (R189, R214, Table 1.4, Table 6.12). -/
def execScreenRun (rq : Req) (pcore kind : Nat) (s : State) : Host.Outcome State Fault Refusal :=
  .next (s.command (.screenRun rq pcore kind) rq { code := 0x0600, least := .operator, kind := .other } [] (validCore pcore &&
    (kind == 1 || kind == 3)) fun s =>
    let d := coreDie pcore
    if kind = 3 && rq.priv ≠ .vendor then s.refuse rq 0x0600 stDenied 4
    else if kind = 3 && !s.openLife then s.refuse rq 0x0600 stDenied 6
    else if s.inTriage pcore then s.finish rq 0x0600 stBusy [] []
    else if (s.die d).inReset || (s.die d).beater.unusable || !s.furnished d kind || !s.enabled d ||
      3 ≤ physState (s.phys pcore) then s.finish rq 0x0600 stNotReady [] []
    else if (s.die d).beater.queue.any fun q => q.core == coreIndex pcore then s.askAgent rq d 0x0600 [pcore, kind] fun s => s.finish rq 0x0600 stOk [] []
    else s.askAgent rq d 0x0600 [pcore, kind] fun s => ((s.queueBeat pcore kind 0xF).askLease d).finish rq 0x0600 stOk [] [])
/-- SCREEN_STATUS (R225): serial, key, hours at activation of each kind, the fleet age, and the greatest screen age of
    any core that the package's enabled dies have, fenced and defective ones included. -/
def execScreenStatus (rq : Req) (s : State) : Host.Outcome State Fault Refusal :=
  .next (s.command (.screenStatus rq) rq { code := 0x0601, least := .operator, kind := .read } [] true fun s =>
    let one := fun k => match s.activePack k with
      | some p => [(32, p.serial), (32, p.keyId), (32, p.hours)]
      | none => [(32, 0), (32, 0), (32, 0)]
    let cores := ((List.range 96).filter s.enabled).flatMap fun d => (dieCores d).filter fun p => physState (s.phys p) < 4
    let age := (cores.map fun p => s.screenAge p / 1000000000).foldl max 0
    s.finish rq 0x0601 stOk [] (one 1 ++ one 2 ++ one 3 ++ [(32, s.fleetAge), (32, age)]))

end Sys2Proof.Machine
end

