-- ==== Sys2Proof/Machine/Furnish.lean ====
section
/-! DEFINITION. Torty packages: staging, checks, the flash, distribution and activation (R206-R224). -/

namespace Sys2Proof.Machine

/-! ## Submission (R212-R217) -/

/-- TORTY_WRITE (R216): package bytes enter the staging buffer at chunk index times 496. -/
def execTortyWrite (rq : Req) (chunk : Nat) (bytes : List Byte) (s : State) : Host.Outcome State Fault Refusal :=
  .next (s.command (.tortyWrite rq chunk bytes) rq { code := 0x0602, least := .operator, kind := .other } []
      (decide (bytes.length ≤ 496) && decide (chunk * 496 + bytes.length ≤ 4194304)) fun s =>
    (s.modSh fun h => { h with torty := (tput (0 : Byte) h.torty (chunk * 496) bytes) }).finish rq 0x0602 stOk [] [])
/-! ## Distribution at the Vat (R217-R221, Table 6.10) -/

/-- The agents that a kind goes to (Table 6.7): those that passed their self-BIST and are not isolated. -/
def State.distTargets (s : State) (kind mask : Nat) : List Nat :=
  (List.range (if kind = 3 then 100 else 96)).filter fun d =>
    (s.die d).bist == some true && !(s.die d).isolated && (kind != 4 || (bit mask d && s.enabled d))
/-- A distribution of a kind. -/
def State.dist (s : State) (kind : Nat) : Option Dist := tget none s.sh.dists kind
/-- Updates a distribution. -/
def State.modDist (s : State) (kind : Nat) (f : Dist → Dist) : State :=
  s.modSh fun h => { h with dists := tset none h.dists kind ((tget none h.dists kind).map f) }
/-- DIST_OPEN goes to each target agent of a distribution, with the package's header (Table 6.10 step 1). -/
def State.sendOpen (s : State) (x : Dist) : State :=
  each x.targets (fun s d => s.vatSend 0x8B 0 d ([x.id, x.kind, x.chunks] ++ bytesAt x.data 0 256)) (s.modDist x.kind fun y => { y with step := 1 })
/-- A distribution of a package starts with step 1; before the unicast loads of bring-up are finished it waits for them, as step 0 (Table 15.5). -/
def State.openDist (s : State) (kind : Nat) (data : List Host.Cell) (asked : Option Nat) (targets : List Nat) : State :=
  let r := s.draw
  let h := headerAt data 0
  let x : Dist := { id := Config.distributionId r.1 % 65536, kind := kind, serial := h.serial, chunks := ceilDiv (h.payloadLen + 256) 1024, step := 0
                    targets := targets, ready := [], complete := [], hashFail := [], next := 0, resend := [], polled := [], repaired := 0, rounds := 0
                    armCount := 0, acked := [], activated := [], late := 0, firstArm := none, asked := asked, data := data, bytes := h.payloadLen + 256 }
  let s := r.2.modSh fun h => { h with dists := tset none h.dists kind (some x) }
  if s.pkg.boot = .step 4 then s else s.sendOpen x
/-- DIST_DONE (Table 6.11). -/
def State.distDone (s : State) (x : Dist) (failed code : Nat) : State :=
  s.record 0x0605 (if code = 0 then 0 else 2) s.hubRegion (x.kind * 2 ^ 16 + x.id) x.repaired (min 255 failed * 2 ^ 16 + code)
/-- The running TORTY_COMMIT of a kind completes. -/
def State.endCommit (s : State) (kind status : Nat) : State := s.endRuns (fun r => r.opcode == 0x0603 && r.arg == kind) status []
/-- A distribution is aborted (R220): nothing is activated, and its staging banks are discarded. -/
def State.abortDist (s : State) (kind : Nat) (failing : List Nat) : State :=
  match s.dist kind with
  | none => s
  | some x =>
    let s := (s.distDone x failing.length 1).modSh fun h => { h with dists := tset none h.dists kind none }
    let s := each x.targets (fun s d =>
      if ((tget none (s.die d).furnish.staging kind).map (·.dist)) = some x.id then
        s.modFurnish d fun f => f.dropStage kind
      else s) s
    s.endCommit kind stNotReady
/-- Step 3: DIST_POLL goes to each target. -/
def State.pollDist (s : State) (kind : Nat) : State :=
  match s.dist kind with
  | none => s
  | some x => each x.targets (fun s d => s.vatSend 0x8C 0 d [x.id]) (s.modDist kind fun x => { x with step := 3, polled := [], resend := [] })
/-- Step 7: DIST_ARM with the commit's count, or 5 ms from now. -/
def State.armDist (s : State) (kind : Nat) (dies : List Nat) (count : Nat) : State :=
  match s.dist kind with
  | none => s
  | some x => each dies (fun s d => s.vatSend 0x8D 0 d [x.id, count]) (s.modDist kind fun x =>
      { x with step := 7, armCount := count, firstArm := some (x.firstArm.getD count), acked := [] })
/-- The count of the first DIST_ARM: the commit's count, or the arm time plus 5 ms when there is none, or when it has passed (DESIGN CHOICE, log 139). -/
def armTime (now : Nat) (asked : Option Nat) : Nat := match asked with | some a => if now < a then a else now + 5000000 | none => now + 5000000
/-- When no chunk is missing and every agent is COMPLETE, the agents that have not activated are armed; a diagnostic package ends there. -/
def State.checkComplete (s : State) (kind : Nat) : State :=
  match s.dist kind with
  | none => s
  | some x =>
    if x.step ≠ 6 || !x.targets.all fun d => x.complete.contains d then s
    else if kind = 4 then ((s.distDone x 0 0).modSh fun h => { h with dists := tset none h.dists kind none }).endCommit kind stOk
    else s.armDist kind (x.targets.filter fun d => !x.activated.contains d) (armTime s.now x.asked)
/-- Every target has activated (R221, R223): ACTIVATE is written, the commit completes, and the flash directory names the new half, now or when
    flash writes are allowed. -/
def State.finishDist (s : State) (x : Dist) : State :=
  let s := (s.distDone x 0 0).modSh fun h => { h with dists := tset none h.dists x.kind none }
  let half := 1 - s.activeHalf x.kind
  let s := (s.modFlash x.kind fun f => { f with bad := 0, dirPending := if s.pkg.flashWin then none else some (half, s.pkg.hours) }).modPkg fun g =>
    if g.flashWin then { g with flashMem := writeDir g.flashMem x.kind half x.serial g.hours } else { g with flashHeld := g.flashHeld + 1 }
  let s := (s.record 0x0606 2 s.hubRegion (x.kind * 2 ^ 16) (x.serial % 2 ^ 24) x.late).endCommit x.kind stOk
  let s := if x.kind = 2 then s.clearVoid 3 else s
  if x.kind ≤ 2 && (s.activePack 1).isSome && (s.activePack 2).isSome then s.clearVoid 2 else s
/-- An agent has activated a kind at a count; one that is not the first count that was armed is a later count (Table 6.11). -/
def State.activated (s : State) (kind d count : Nat) : State :=
  match s.dist kind with
  | none => s
  | some x =>
    if x.activated.contains d || !x.targets.contains d then s
    else
      let x := { x with activated := insertNat d x.activated, late := x.late + b2n (x.firstArm != some count) }
      let s := s.modDist kind fun _ => x
      if x.targets.all fun t => x.activated.contains t then s.finishDist x else s
/-- An agent has acknowledged its arm. -/
def State.armAcked (s : State) (d id : Nat) : State :=
  match s.sh.dists.find? fun e => (e.2.map (·.id)) == some id with
  | some e => s.modDist e.1 fun x => { x with acked := insertNat d x.acked }
  | none => s
/-- TORTY_COMMIT (R215-R217): the checks of Table 6.9, then the flash write, or for a diagnostic package the distribution. -/
def execTortyCommit (rq : Req) (kind len activation dieMask : Nat) (s : State) : Host.Outcome State Fault Refusal :=
  .next (s.command (.tortyCommit rq kind len activation dieMask) rq { code := 0x0603, least := .operator, kind := .other } [] true fun s =>
    let h := headerAt s.sh.torty 0
    if (s.dist kind).isSome || (s.flashKind kind).writing.isSome then s.finish rq 0x0603 stBusy [] []
    else match s.tortyCheck kind len with
      | some r => (s.record 0x0604 2 s.hubRegion (h.kind * 2 ^ 16 + r) (h.serial % 2 ^ 24) (h.keyId % 2 ^ 24)).refuse rq 0x0603 stDenied r
      | none =>
        let a := if activation = 0 then (0, []) else clampTo 2 64 (s.now + 10000000) (s.now + 60000000000) activation
        let asked := if activation = 0 then none else some a.1
        let mask := if kind = 4 then ((List.range 96).map fun d => b2n (bit dieMask d && s.enabled d) * 2 ^ d).foldl (· + ·) 0 else 0
        let cl := a.2 ++ (if mask = dieMask then [] else [{ field := 3, width := 96, asked := dieMask, used := mask }])
        let data := cutCells s.sh.torty 0 len
        if kind = 4 && mask = 0 then s.finish rq 0x0603 stBadParam [] []
        else
          let s := s.beginRun rq 0x0603 0 kind cl
          if kind = 4 then s.openDist 4 data asked (s.distTargets 4 mask)
          else (s.modFlash kind fun f => { f with writing := some data, asked := asked }).modPkg fun g =>
            { g with flashHeld := if g.flashWin then g.flashHeld else g.flashHeld + 1 })
/-- TORTY_FLASH_WRITE_DONE (R216): the package is in the inactive half, and its distribution starts. It waits while flash writes are forbidden. -/
def execTortyFlashWriteDone (kind : Nat) (s : State) : Host.Outcome State Fault Refusal :=
  .next (
    let f := s.flashKind kind
    match f.writing with
    | none => s
    | some l =>
      if !s.pkg.flashWin || s.acting.isNone then s
      else
        let at0 := halfAt kind (1 - s.activeHalf kind)
        ((s.modFlash kind fun f => { f with writing := none, asked := none })
          |>.modPkg fun g => { g with flashMem := putCells g.flashMem at0 0x400000 l }).openDist
          kind l f.asked (s.distTargets kind 0))
/-- CRC-32C of a chunk transaction: distribution ID, chunk number and bytes (R219). -/
def chunkCrc (dist number : Nat) (bytes : List Nat) : Nat := crc32c (numBytes 2 dist ++ numBytes 2 number ++ bytes)
/-- Bytes of a chunk of a package: 1,024, and what remains in the last (R219). -/
def chunkLen (total number : Nat) : Nat := min 1024 (total - number * 1024)
/-- Bytes as little-endian 32-bit words; the last word is filled with zeros. -/
def bytesToWords (l : List Nat) : List Nat := (List.range (ceilDiv l.length 4)).map fun i => leNum ((l.drop (4 * i)).take 4)
/-- A chunk of a distribution leaves on FC3, broadcast or to one target (Table 6.10 steps 2 and 4, R219): a CHUNK transaction of the distribution ID and
    the chunk number, the bytes and the CRC. -/
def State.sendChunk (s : State) (x : Dist) (number : Nat) (target : Option Nat) : State :=
  let b := bytesAt x.data (number * 1024) (chunkLen x.bytes number)
  let crc := chunkCrc x.id number b
  let s := s.feltSend s.actDie 0xC0 (match target with | some _ => 0 | none => 1) (target.getD 0) ([x.id + number * 2 ^ 16] ++ bytesToWords b ++ [crc])
  s.emit (.chunk x.id number target (b.map (BitVec.ofNat 8)) crc)
/-- CHUNK_PACE_TICK (Table 6.10 steps 2 and 4): the next chunk is broadcast, or the next missing one resent. -/
def execChunkPaceTick (kind : Nat) (s : State) : Host.Outcome State Fault Refusal :=
  .next (match s.dist kind with
    | none => s
    | some x =>
      if x.step = 2 then
        let s := (s.sendChunk x x.next none).modDist kind fun x => { x with next := x.next + 1 }
        if x.chunks ≤ x.next + 1 then s.pollDist kind else s
      else if x.step = 4 then
        match x.resend with
        | [] => s.pollDist kind
        | r :: l =>
          let s := (s.sendChunk x r.2 (some r.1)).modDist kind fun x => { x with resend := l, repaired := x.repaired + 1 }
          if l.isEmpty then s.pollDist kind else s
      else s)
/-- The chunks that a missing-chunk bitmap names (R219). -/
def missingChunks (words : List Nat) (total : Nat) : List Nat := (List.range total).filter fun n => bit (words.getD (n / 32) 0) (n % 32)
/-- BITMAP (Table 6.10 steps 3 to 5): once every agent has answered, missing chunks are resent, for at most 8 rounds. -/
def execBitmap (h : Hdr) (dist : Nat) (words : List Nat) (s : State) : Host.Outcome State Fault Refusal :=
  guardId (isDie h.src)
    (s.recvVat (.bitmap h dist words) h 0xC1 fun s =>
      match s.sh.dists.find? fun e => (e.2.map (·.id)) == some dist with
      | some (kind, some x) =>
        if x.step ≠ 3 || x.polled.contains h.src || !x.targets.contains h.src then s
        else
          let x := { x with polled := insertNat h.src x.polled, resend := x.resend ++ (missingChunks words x.chunks).map fun n => (h.src, n) }
          let s := s.modDist kind fun _ => x
          if x.polled.length < x.targets.length then s
          else if x.resend.isEmpty then (s.modDist kind fun x => { x with step := 6 }).checkComplete kind
          else if 8 ≤ x.rounds then s.abortDist kind (x.resend.map (·.1)).eraseDups
          else s.modDist kind fun x => { x with step := 4, rounds := x.rounds + 1 }
      | _ => s)
/-- DIST_AGENT_ANSWER (R218, R220): 0 READY, 1 BUSY, 2 COMPLETE, 3 HASH_FAIL; a first HASH_FAIL has every chunk resent to its agent. -/
def execDistAgentAnswer (h : Hdr) (dist answer : Nat) (s : State) : Host.Outcome State Fault Refusal :=
  guardId (isDie h.src)
    (s.recvVat (.distAgentAnswer h dist answer) h 0x81 fun s =>
      match s.sh.dists.find? fun e => (e.2.map (·.id)) == some dist with
      | some (kind, some x) =>
        if !x.targets.contains h.src then s
        else match answer with
          | 0 =>
            let x := { x with ready := insertNat h.src x.ready }
            s.modDist kind fun _ => if x.step = 1 && x.ready.length = x.targets.length then { x with step := 2 } else x
          | 1 => s.abortDist kind [h.src]
          | 2 => (s.modDist kind fun x => { x with complete := insertNat h.src x.complete }).checkComplete kind
          | _ =>
            if x.hashFail.contains h.src then s.abortDist kind [h.src]
            else s.modDist kind fun x =>
              { x with hashFail := insertNat h.src x.hashFail, complete := x.complete.filter (· != h.src), step := if x.step = 2 then 2 else 4
                       resend := x.resend ++ (List.range x.chunks).map fun n => (h.src, n) }
      | _ => s)
/-- DIST_ACK_DEADLINE (R221): an acknowledgement is missing at A - 1 ms; every agent is disarmed, and those that have not activated are armed again. -/
def execDistAckDeadline (kind : Nat) (s : State) : Host.Outcome State Fault Refusal :=
  .next (match s.dist kind with
    | none => s
    | some x =>
      if x.step ≠ 7 || x.targets.all fun d => x.acked.contains d || x.activated.contains d then s
      else
        (each x.targets (fun s d => s.vatSend 0x8E 0 d [x.id]) s).armDist kind (x.targets.filter fun d => !x.activated.contains d) (s.now + 5000000))

/-! ## Distribution at the agent (R208, R209, R219, R222) -/

/-- An agent answers the Vat about a distribution. -/
def State.distAnswer (s : State) (d dist answer : Nat) : State := s.toVat d 0x81 [dist, answer]
/-- The staging bank of an agent is in use for a package of a kind: it serves a run (Table 6.12), or a diagnostic package, which occupies the whole
    bank, meets a base or fleet package in it (log 111). -/
def State.stagingBusy (s : State) (d kind : Nat) : Bool :=
  let st := fun k => tget none (s.die d).furnish.staging k
  kind != 3 && (s.stagingUsed d || (if kind = 4 then (st 1).isSome || (st 2).isSome else (st 4).any fun x => !x.hashed))
/-- The staging bank of an agent made ready for a package: emptied of a diagnostic package and of the kind's region. A base or fleet package waits for
    the copy of the other kind, when there is an active one and none arrives (R209). -/
def Furnish.openStage (f : Furnish) (dist kind chunks : Nat) (hdr : List Byte) : Furnish :=
  let f := (if kind = 3 then f else f.settle).dropStage kind
  let f := if kind = 3 then f else if f.diag || kind = 4 then { f.setBank f.spare [] with diag := false, staging := tset none f.staging 4 none } else f
  let b := if kind = 3 then 1 - f.ucodeBank else f.spare
  let waits := (kind = 1 || kind = 2) && f.holds f.bank (otherKind kind) && (tget none f.staging (otherKind kind)).isNone
  let f := if kind = 1 || kind = 2 then f.setRegion b kind [] else f.setStage kind b []
  { f with staging := tset none f.staging kind (some { dist := dist, total := chunks, header := hdr, bank := b, chunks := [], copied := !waits,
                                                       hashed := false, arm := none }) }
/-- DIST_OPEN (Table 6.10 step 1, R209, Table 6.12): READY, or BUSY. -/
def execDistOpen (h : Hdr) (die dist kind chunks : Nat) (hdr : List Byte) (s : State) : Host.Outcome State Fault Refusal :=
  guardId (isDie die && decide (1 ≤ kind) && decide (kind ≤ 4))
    (s.recvCmd die h 0x8B fun s =>
      if s.stagingBusy die kind then s.distAnswer die dist 1
      else (s.modFurnish die fun f => f.openStage dist kind chunks hdr).distAnswer die dist 0)
/-- Updates a staging of an agent. -/
def State.modStaging (s : State) (d kind : Nat) (f : Staging → Staging) : State :=
  s.modFurnish d fun k => { k with staging := tset none k.staging kind ((tget none k.staging kind).map f) }
/-- An agent whose package is whole, checked and, for base and fleet, beside its copy of the other kind, is COMPLETE (R209); a diagnostic package is
    then loaded. -/
def State.staged (s : State) (d kind : Nat) : State :=
  match tget none (s.die d).furnish.staging kind with
  | some x => if x.hashed && x.copied then (if kind = 4 then s.modFurnish d fun f => { f with diag := true } else s).distAnswer d x.dist 2 else s
  | none => s
/-- STAGING_COPY_DONE (R209): the active package of the other kind stands beside the package that arrives, unless one arrives there too. -/
def execStagingCopyDone (die : Nat) (s : State) : Host.Outcome State Fault Refusal :=
  guardId (isDie die)
    (each [1, 2] (fun s kind =>
      match tget none (s.die die).furnish.staging kind with
      | some x =>
        if x.copied then s
        else
          let o := otherKind kind
          let s := s.modFurnish die fun f => if (tget none f.staging o).isSome then f else f.setRegion x.bank o (f.region f.bank o)
          (s.modStaging die kind fun x => { x with copied := true }).staged die kind
      | none => s) s)
/-- An agent keeps a chunk (R219): its CRC agrees, it is not held yet, its length is a chunk's, and chunk 0 begins with the header of DIST_OPEN. -/
def chunkFits (x : Staging) (kind number : Nat) (bytes : List Byte) (crc : Nat) : Bool :=
  let total := leNum (((x.header.drop 36).take 4).map (·.toNat)) + 256
  crc == chunkCrc x.dist number (bytes.map (·.toNat)) && !x.chunks.contains number && decide (number < x.total) && bytes.length == chunkLen total number &&
    decide (number * 1024 + bytes.length ≤ regionLen kind) && (number != 0 || bytes.take 256 == x.header)
/-- CHUNK (R219): stored, or discarded and counted. -/
def execChunk (die dist number : Nat) (bytes : List Byte) (crc : Nat) (s : State) : Host.Outcome State Fault Refusal :=
  guardId (isDie die)
    (if (s.die die).inReset then s
     else match (s.die die).furnish.staging.find? fun e => (e.2.map (·.dist)) == some dist with
       | some (kind, some x) =>
         if chunkFits x kind number bytes crc then
           (s.modFurnish die fun f => f.setStage kind x.bank (tput (0 : Byte) (f.stage kind x.bank) (regionAt kind + number * 1024) bytes)).modStaging die
             kind fun x => { x with chunks := insertNat number x.chunks }
         else s.agentCount die (dieSource die 4) default
       | _ => s.agentCount die (dieSource die 4) default)
/-- DIST_POLL (R219): the missing-chunk bitmap. -/
def execDistPoll (h : Hdr) (die dist : Nat) (s : State) : Host.Outcome State Fault Refusal :=
  guardId (isDie die)
    (s.recvCmd die h 0x8C fun s =>
      match (s.die die).furnish.staging.find? fun e => (e.2.map (·.dist)) == some dist with
      | some (_, some x) =>
        let word := fun w : Nat => ((List.range 32).map fun b =>
          b2n (decide (w * 32 + b < x.total) && !x.chunks.contains (w * 32 + b)) * 2 ^ b).foldl (· + ·) 0
        s.toVat die 0xC1 (dist :: (List.range (ceilDiv x.total 32)).map word)
      | _ => s)
/-- PAYLOAD_HASH_DONE (Table 6.10 step 6): the agent compares PAYLOAD_SHA384 with its assembled payload: COMPLETE, or HASH_FAIL, counted, with the
    package to be received again. -/
def execPayloadHashDone (die : Nat) (s : State) : Host.Outcome State Fault Refusal :=
  guardId (isDie die)
    (match (s.die die).furnish.staging.find? fun e => e.2.any fun x => !x.hashed && x.chunks.length == x.total with
     | some (kind, some x) =>
       let m := (s.die die).furnish.stage kind x.bank
       if payloadMatches m (regionAt kind) (headerAt m (regionAt kind)) then (s.modStaging die kind fun x => { x with hashed := true }).staged die kind
       else
         (((s.modStaging die kind fun x => { x with chunks := [] }).agentCount die (dieSource die 5) default).distAnswer die x.dist 3)
     | _ => s)
/-- DIST_ARM (R221): the agent holds an arm for A. -/
def execDistArm (h : Hdr) (die dist count : Nat) (s : State) : Host.Outcome State Fault Refusal :=
  guardId (isDie die)
    (s.recvCmd die h 0x8D fun s => s.modFurnish die fun f =>
      { f with staging := f.staging.map fun e => (e.1, e.2.map fun x => if x.dist = dist then { x with arm := some count } else x) })
/-- DIST_DISARM (R221). -/
def execDistDisarm (h : Hdr) (die dist : Nat) (s : State) : Host.Outcome State Fault Refusal :=
  guardId (isDie die)
    (s.recvCmd die h 0x8E fun s => s.modFurnish die fun f =>
      { f with staging := f.staging.map fun e => (e.1, e.2.map fun x => if x.dist = dist then { x with arm := none } else x) })
/-- An armed kind activates (R222): furnish for every run that starts later, microcode at the next point with no sequence in progress. A run in progress
    keeps its bank, which is the staging bank from then on. -/
def State.activate (s : State) (d kind : Nat) (x : Staging) (count : Nat) : State :=
  let s := s.modFurnish d fun f => { f with staging := tset none f.staging kind none }
  if kind = 3 then s.modFurnish d fun f => { f with ucodePending := some count }
  else
    let s := s.modFurnish d fun f => { f with bank := x.bank }
    (if (s.die d).beater.target.isSome then s else s.modFurnish d Furnish.settle).activated kind d count
/-- DIST_ACTIVATION (R221, R222): the agent's reel copy reaches the count of an arm that it holds. -/
def execDistActivation (die : Nat) (s : State) : Host.Outcome State Fault Refusal :=
  guardId (isDie die)
    (each (s.die die).furnish.staging (fun s e =>
      match e.2 with
      | some x => match x.arm with
        | some a => if a ≤ s.dieReel die && e.1 ≠ 4 then s.activate die e.1 x a else s
        | none => s
      | none => s) s)
/-- UCODE_BANK_SWITCH (R222, Table 6.12): the bank changes, unless a slice shifts or a verdict sequence runs. -/
def execUcodeBankSwitch (die : Nat) (s : State) : Host.Outcome State Fault Refusal :=
  guardId (isDie die)
    (match (s.die die).furnish.ucodePending with
     | some n =>
       if (s.die die).beater.shifting || (s.die die).beater.judge || (s.die die).beater.confirm ≠ 0 then s
       else ((s.modFurnish die fun f => { f with ucodeBank := 1 - f.ucodeBank, ucodeRom := false, ucodePending := none }).dieRing die 0x27 0).activated 3 die n
     | none => s)

end Sys2Proof.Machine
end

