-- ==== Sys2Proof/Machine/Fences.lean ====
section
/-! DEFINITION. Fences, teardown, the ends of resets, the escalation ladder's commands (R256-R287). -/

namespace Sys2Proof.Machine

/-! ## The deckle map (R256, R257) -/

/-- The words of a segment of a die's slice (Table 13.6): physical entries, home entries and the map generation, in that order. -/
def State.sliceWords (s : State) (d seg : Nat) : List Nat :=
  let k := s.die d
  let all := (List.range 156).map (tget 0 k.phys) ++ (List.range 144).map (tget 0 k.home) ++ [k.deckleGen]
  if seg = 0 then all.take 124 else if seg = 1 then (all.drop 124).take 124 else all.drop 248
/-- DECKLE_READ (R256). -/
def execDeckleRead (rq : Req) (die segment : Nat) (s : State) : Host.Outcome State Fault Refusal :=
  .next (s.command (.deckleRead rq die segment) rq { code := 0x0300, least := .operator, kind := .read } [] (isCompute die) fun s =>
    let g := clampTo 1 8 0 2 segment
    if (s.die die).inReset then s.finish rq 0x0300 stNotReady [] []
    else s.askAgent rq die 0x0300 [g.1] fun s => (s.checkDeckle die).finish rq 0x0300 stOk g.2 ((s.sliceWords die g.1).map fun w => (32, w)))
/-- An order names parts of the die that exist, and a logical core in use (R6). -/
def orderNames (die : Nat) : FenceOrder → Bool
  | .phys p w => validCore p && coreDie p == die && decide (bits w 14 14 < 13824) && decide (w < 2 ^ 32)
  | .home i w => decide (i < 144) && decide (bits w 17 14 < 13824) && decide (w < 2 ^ 32) && (!bit w 31 || validCore (bits w 0 16))
  | .resetCore p => validCore p && coreDie p == die
  | .resetCluster c => decide (c < 12)
/-- A physical entry is written, and the home dies of the logical cores that it named and names are checked with its own (R257). -/
def State.setEntry (s : State) (p w : Nat) : State :=
  let home := fun w : Nat => if physState w = 1 then [s.homeDie (bits w 14 14)] else []
  each (coreDie p :: (home (s.phys p) ++ home w)).eraseDups State.checkHome (s.setPhys p w)
/-- FENCE_CMD (R260, Table 11.6): a fence, deckle or reset order is executed by the agent. -/
def execFenceCmd (h : Hdr) (die : Nat) (o : FenceOrder) (s : State) : Host.Outcome State Fault Refusal :=
  guardId (isCompute die && orderNames die o)
    (s.recvCmd die h 0x0C fun s =>
      match o with
      | .phys p w => s.setEntry p w
      | .home i w => (s.setHome die i w).checkHome die
      | .resetCore p => s.beginReset 0 p (coreSource p 0)
      | .resetCluster c => s.beginReset 1 (die * 16 + c) (dieSource die 0))

/-! ## Fences (R281) -/

/-- MESH_ACCESS_AT_FENCE (R281): a request is absorbed with poisoned data, a reply discarded; each is counted at the die. -/
def execMeshAccessAtFence (die : Nat) (reply : Bool) (s : State) : Host.Outcome State Fault Refusal :=
  guardId (isCompute die)
    (let k := s.die die
     if k.fences.isEmpty then s
     else if reply then s.modDie die fun k => { k with discard := satAdd 32 k.discard 1, fenceCount := (k.fenceCount.1, k.fenceCount.2 + 1) }
     else (s.modDie die fun k => { k with absorb := satAdd 32 k.absorb 1, fenceCount := (k.fenceCount.1 + 1, k.fenceCount.2) }).emit
       (.poisonedCompletion die))

/-! ## Teardown (R274, Table 8.8, Table 8.9) -/

/-- Steps 1 and 2 on one core: issue has stopped, the gate discards what it holds, the step count loses its valid bit, watchpoints are disarmed. -/
def State.stopIssue (s : State) (n : Nat) : State :=
  let s := (s.discard ((s.lcCtx n).getD 0) n true fun _ => true).modLc n fun l =>
    { l with issuing := false, lstepValid := false, watch := [], snapHeld := false, xwaitSince := none }
  let kept := fun e : Deferred => match e with | .watch m _ _ => m != n | _ => true
  match s.carrier n with
  | some p => (((s.modCore p fun c => { c with hangCheck := false, runTo := none,
                                               deferred := c.deferred.filter kept }).setStall p 0 none).unholdCore p 6).unholdCore p replicaKey
  | none => s
/-- Step 2 is complete at every die of a context in teardown: each holds the tag as revoked and no armed launch of the context. -/
def State.allRevoked (s : State) (c : Nat) : Bool :=
  (s.ctxDies c).all fun d => (s.die d).revoked.contains (s.tagOf c) && (tget none (s.die d).arms c).isNone
/-- At the end of step 2 a LAUNCH_AT that still waits completes with ST_NOTREADY and no result data (R80), and a Felt barrier over the context's dies
    begins the drain of step 3 (Table 8.8). -/
def State.issueStopped (s : State) (c : Nat) : State :=
  match (s.ctx c).teardown with
  | none => s
  | some t =>
    if t.step < 2 && s.allRevoked c then
      let s := (s.modCtx c fun x => { x with teardown := some { t with step := 2 } }).endOp 0x0101 c stNotReady []
      each (s.ctxParts c) (fun s p => s.vatSend 0x10 2 p [s.tagOf c]) s
    else s
/-- The rollbacks of a context in teardown stop, and their failing cores are replayed alone (Table 5.11). -/
def State.stopRollbacks (s : State) (c : Nat) : State :=
  if (s.ctx c).state = 3 then each ((s.ctx c).pgroups.filter fun g => g.2.rolling != 0) (fun s g => s.stopRollback c g.1) s else s
/-- TAG_REVOKE (R274): the agent revokes the tag on its die, disarms the context's launch and breakpoints, and stops its cores and rollbacks. -/
def execTagRevoke (h : Hdr) (die tag : Nat) (s : State) : Host.Outcome State Fault Refusal :=
  guardId (isDie die)
    (s.recvCmd die h 0x0D fun s =>
      let c := tag % 4096
      let s := s.modDie die fun k =>
        { k with revoked := if k.revoked.contains tag then k.revoked else k.revoked ++ [tag], arms := tset none k.arms c none
                 comparators := k.comparators.filter fun x => x.1 != c }
      let s := s.stopRollbacks c
      (each ((s.ctxLcs c).filter fun n => (s.lc n).tag == some tag && (s.carrier n).any fun p => coreDie p == die) State.stopIssue s).issueStopped c)
/-- Table 8.9 at the cores of the context: tickets close as killed, slots clear, windows of the tag close, partials are discarded. -/
def State.killLc (s : State) (tag n : Nat) : State :=
  let s := each (s.openTickets n) (fun s t => s.closeTicket t 4) s
  s.modLc n fun l =>
    { l with slots := l.slots.filter (fun e => e.2.any fun x => x.owner != tag), partials := [], base := { step := l.base.step }, points := [],
             lastShard := none, opLast := [],
             wins := (l.wins.map fun e => (e.1, if e.2.opened && e.2.owner == tag then closeWin e.2 else e.2)).filter fun e => e.2 != {} }
/-- Pool tickets of a context return (Table 8.8 step 4), and comparisons that waited for one go on. -/
def State.killPool (s : State) (c : Nat) : State :=
  each ((s.sh.tickets.filter fun e => 221184 ≤ e.1 && e.2.state != .free && e.2.ctx == c).map (·.1)) (fun s t => s.freePool t (some 4)) s
/-- SNAP_FAIL (Table 9.9). -/
def State.snapFail (s : State) (c id reason : Nat) : State := s.record 0x0902 3 (ctxSource c 0) (id % 2 ^ 24) reason 0
/-- A snapshot of a context in teardown ends unless its barrier is complete (Table 9.10). -/
def State.killSnap (s : State) (c : Nat) : State :=
  match (s.ctx c).snap with
  | some x =>
    if x.step < 3 then ((s.modCtx c fun y => { y with snap := none }).snapFail c x.id 0).endOp 0x0701 c stNotReady [] else s
  | none => s
/-- Breakpoint holds of a context end with its teardown: the cores of its scope are released. -/
def State.dropBrk (s : State) (c : Nat) : State :=
  match (s.ctx c).brkHold with
  | none => s.modCtx c fun x => { x with brks := [], runHold := none }
  | some b =>
    let s := s.endOp 0x0C04 c stNotReady []
    let s := s.modCtx c fun x => { x with brks := [], runHold := none, brkHold := none }
    s.freeScope c b.scope
/-- TEARDOWN_DRAIN_END (Table 8.8 steps 3 to 6, done by the acting Vat, Table 8.13): tickets, press groups and partials, host completions with status
    KILLED, host reads with an error, CTX_KILLED, and the reply of a CTX_KILL. -/
def execTeardownDrainEnd (ctx discarded : Nat) (barrier : Bool) (s : State) : Host.Outcome State Fault Refusal :=
  guardId (decide (ctx < 4096))
    (s.whenActing (.teardownDrainEnd ctx discarded barrier) fun s => match (s.ctx ctx).teardown with
     | none => s
     | some t =>
       if 6 ≤ t.step then s
       else
         let x := s.ctx ctx
         let tag := s.tagOf ctx
         let s := s.stopRollbacks ctx
         let s := (each (s.ctxLcs ctx) (fun s n => s.killLc tag n) (s.killSnap ctx)).killPool ctx
         let s := s.dropBrk ctx
         let s := s.modSh fun h =>
           { h with pairs := h.pairs.filter (fun w => w.r.ctx != ctx), groups := h.groups.filter fun w => w.members.all fun m => m.ctx != ctx
                    verifying := h.verifying.filter (· != ctx) }
         let s := s.settleAll
         let s := each (List.range 96) (fun s d =>
           if (s.die d).wm.any (fun w => w.ctx == ctx) || !(s.replParts ctx d).isEmpty then
             s.modDie d fun k => { k with wm := k.wm.filter (fun w => w.ctx != ctx), repl := tset [] k.repl ctx [] }
           else s) s
         let s := each (s.ctx ctx).hosts (fun s _ => s.emit (.completion tag 2)) s |>.emit (.hostReadsFailed tag)
         let s := s.modCtx ctx fun y =>
           { y with pgroups := [], hosts := [], replica := none, restoring := none, rerun := none, opDone := [], updOps := [], opMarks := [],
                    opSent := [],
                    launch := none, released := [], teardown := some { t with step := 6, discarded := discarded } }
         let s := s.record 0x0803 3 (ctxSource ctx 0) (t.trigger * 2 ^ 20 + x.incarnation * 2 ^ 16 + ctx) (sat 24 discarded) ((s.now - t.start) / 1000)
         let s := s.endRuns (fun r => r.ctx == ctx && (r.opcode == 0x0404 || r.opcode == 0x0703 || r.opcode == 0x0101)) stNotReady []
         s.mirror.endOp 0x0102 ctx stOk [])
/-- RECLAIM completes when every teardown of its partitions has finished its scrub (R312 step 4). -/
def State.reclaimDone (s : State) : State :=
  let busy := fun m : Nat => s.sh.ctxs.any fun e => e.2.reclaimAt.isSome && e.2.state != 0 && (s.ctxParts e.1).any fun p => bit m p
  let s := s.modPkg fun g => { g with reclaim := g.reclaim.filter fun r => busy r.1 }
  s.endRuns (fun x => x.opcode == 0x0705 && !busy x.arg) stOk []
/-- SCRUB_DONE (Table 8.8 step 7): ranges and windows are zero, the logical cores are free, and the context ID is free after 10 ms. The scrub
    waits for a copy-out that still reads the source (Table 9.10). -/
def execScrubDone (ctx : Nat) (s : State) : Host.Outcome State Fault Refusal :=
  guardId (decide (ctx < 4096))
    (match (s.ctx ctx).teardown with
     | none => s
     | some t =>
       if t.step < 6 || (s.ctx ctx).snap.isSome then s
       else
         let s := each (s.ctxLcs ctx) (fun s n =>
           let s := match s.carrier n with
             | some p => (s.emit (.zeroed p)).modCore p fun c => { c with lastLstep := (s.lc n).lstep, restart := [] }
             | none => s
           s.modLc n fun l => { ({} : Lc) with lstep := l.lstep, wins := l.wins, xferHold := l.xferHold, heldXfers := l.heldXfers }) s
         let s := s.modCtx ctx fun x =>
           { ({} : Ctx) with incarnation := x.incarnation, freedAt := some s.now, manifests := x.manifests, snapAt := x.snapAt, autoId := x.autoId,
                             lost := x.lost }
         s.mirror.reclaimDone)
/-- TEARDOWN_OVERRUN (Table 8.11 rung 0): each core that has not completed steps 2 to 4 is reset. -/
def execTeardownOverrun (ctx : Nat) (cores : List Nat) (s : State) : Host.Outcome State Fault Refusal :=
  guardId (decide (ctx < 4096) && cores.all validCore)
    (s.whenActing (.teardownOverrun ctx cores) fun s => match (s.ctx ctx).teardown with
     | none => s
     | some t =>
       let l := if t.step < 6 then cores.filter fun p => s.coreCtx p == some ctx else []
       each l (fun s p => (s.escalate (ctxSource ctx 0) 0 1 0 (s.leaked (ctxSource ctx 0)).count).requestCore 0 p (ctxSource ctx 0)) s)

/-! ## The ends of resets (R279-R283) -/

/-- A tap after a core reset: what Table 8.10 and the (P) marks of Table 16.3 keep. -/
def resetTap (c : Core) : Core :=
  { ({} : Core) with pstep := c.pstep, pstepValid := c.pstepValid, screen := c.screen, screenValid := c.screenValid, busy := c.busy, idle := c.idle,
                     hold := c.hold, holdBase := c.holdBase, stall := c.stall, ring := c.ring, ringNext := c.ringNext, ringFrozen := c.ringFrozen,
                     frozen := c.frozen, holds := c.holds, parked := c.parked, deferred := c.deferred, haltReel := c.haltReel, lateShown := c.lateShown,
                     overShown := c.overShown, screenVerdict := c.screenVerdict, hung := c.hung, escaped := c.escaped
                     hi := c.hi.filter fun e => [0x38, 0x40, 0x68, 0x70, 0x78, 0x84].contains e.1 }
/-- Requests that a core had accepted and not answered complete at its boundary with an error and poisoned data, and are counted (R281). -/
def State.failDeferred (s : State) (p : Nat) : State :=
  let d := coreDie p
  let waits := fun e : Deferred => match e with | .access _ => true | .xfer _ => true | _ => false
  let n := ((s.core p).deferred.filter waits).length
  if n = 0 then s
  else
    let s := s.modCore p fun c => { c with deferred := c.deferred.filter fun e => !waits e }
    let s := s.modDie d fun k => { k with absorb := satAdd 32 k.absorb n, fenceCount := (k.fenceCount.1 + n, k.fenceCount.2) }
    each (List.range n) (fun s _ => s.emit (.poisonedCompletion d)) s
/-- A core's reset ends: pipeline, checker and scratchpad are at their reset state, and it is held no more for it; a hung core gets its targeted run
    (Table 8.7 step 5). -/
def State.resetCoreEnd (domain : Nat) (s : State) (p : Nat) : State :=
  let off := !(s.core p).seqCmp
  let s := s.failDeferred p
  let s := ((s.modCore p resetTap).emit (.coreReset p)).emit (.zeroed p)
  let s := if off && s.cores.all (fun e => e.2.seqCmp) then s.modPkg fun g => { g with seqOnSince := some s.reel } else s
  let s := match s.lcOf p with | some n => s.modLc n fun l => { l with slots := [], wins := [] } | none => s
  let s := s.unholdCore p (resetKey domain)
  if (s.core p).hung then (s.modCore p fun c => { c with hangReset := true }).queueBeat p 1 0xF else s
/-- RESET_DONE (Table 8.12). -/
def State.resetDone (s : State) (domain target start : Nat) (counts : Nat × Nat) : State :=
  s.record 0x0805 3 (domainSource domain target) (domain * 2 ^ 20 + target) ((s.now - start) / 1000)
    (min 4095 counts.1 * 2 ^ 12 + min 4095 counts.2)
/-- A reset that runs, none when none of the domain does. -/
def State.runningReset (s : State) (domain target : Nat) : Option (Nat × Nat × Nat × Nat × Bool) :=
  s.sh.resets.find? fun r => r.1 == domain && r.2.1 == target
/-- A reset is over. -/
def State.dropReset (s : State) (domain target : Nat) : State :=
  s.modSh fun h => { h with resets := h.resets.filter fun r => r.1 != domain || r.2.1 != target }
/-- DOMAIN_RESET_DONE (R280 steps 4 to 6): the domain is reset, its scratchpads and cluster buffers zeroed, the fence lowered, and RESET_DONE written. A
    partition under a rung-2 hold keeps its fences. -/
def execDomainResetDone (domain target : Nat) (s : State) : Host.Outcome State Fault Refusal :=
  guardId (decide (domain = 0 || domain = 1 || domain = 3))
    (match s.runningReset domain target with
     | none => s
     | some r =>
       let s := (each (s.domainCores domain target) (State.resetCoreEnd domain) (s.dropReset domain target)).mirror
       match domain with
       | 0 =>
         let d := coreDie target
         (s.lowerFence d (16 + coreIndex target)).resetDone 0 target r.2.2.1 (s.die d).fenceCount
       | 1 =>
         let d := target / 16
         ((s.emit (.clusterZeroed d (target % 16))).lowerFence d (target % 16)).resetDone 1 target r.2.2.1 (s.die d).fenceCount
       | _ =>
         let ds := s.partDies target
         let n := ds.foldl (fun a d => (a.1 + (s.die d).fenceCount.1, a.2 + (s.die d).fenceCount.2)) (0, 0)
         let s := each ds (fun s d =>
           let s := each (List.range 12) (fun s c => s.emit (.clusterZeroed d c)) s
           let s := if s.pkg.partHeld.contains target then s else each (List.range 12) (fun s c => s.lowerFence d c) s
           (s.unholdDie d (resetKey 3)).modPkg fun g =>
             { g with reamShards := g.reamShards.filter fun k => k / 2 ^ 40 != d, reamWords := g.reamWords.filter fun e => e.1 / 2 ^ 40 != d }) s
         s.resetDone 3 target r.2.2.1 n)
/-- RESET_OVERRUN (R283, Table 8.11): a core becomes DEFECTIVE, what it carries is unplaced (R257, R266, log 144), and its cluster is reset; a cluster
    moves to a partition reset, a partition to a package reset. -/
def execResetOverrun (domain target : Nat) (s : State) : Host.Outcome State Fault Refusal :=
  guardId (decide (domain ≤ 3))
    (s.whenActing (.resetOverrun domain target) fun s => match s.runningReset domain target with
     | none => s
     | some r =>
       let src := r.2.2.2.1
       match domain with
       | 0 =>
         let s := (s.dropReset 0 target).lowerFence (coreDie target) (16 + coreIndex target)
         let cause := if r.2.2.2.2 then 0x3F else causeOf src
         let marked := physState (s.phys target) = 3
         let s := match s.lcOf target with | some n => s.takeDown n target 3 cause | none => s.fenceCore target 3 cause
         let s := if marked then s else s.modPkg fun g => { g with marks := tset none g.marks target (some cause) }
         s.mramWrite.beginReset 1 (coreDie target * 16 + coreCluster target) src
       | 1 =>
         let p := s.partOf (target / 16)
         ((s.dropReset 1 target).escalate src 1 2 0 (s.coreRung p).count).requestPart p src
       | 3 => ((s.dropReset 3 target).escalate src 2 3 0 (s.leaked (partSource target 0)).count).packageReset src true
       | _ => s)
/-- The half of a kind that an agent holds or is to hold: the one in distribution when it has activated that, else the active one (R221, R224). -/
def State.reloadHalf (s : State) (kind d : Nat) : Nat :=
  let h := s.activeHalf kind
  if (s.dist kind).any fun x => x.activated.contains d then 1 - h else h
/-- The bytes that the active Vat loads into an agent for a kind: the package in its half, none when the check at package reset found it unfit. -/
def State.reloadBytes (s : State) (kind d : Nat) : List Host.Cell :=
  if s.reloadHalf kind d = s.activeHalf kind && (s.activePack kind).isNone then [] else s.halfCells kind (s.reloadHalf kind d)
/-- A package in receipt whose agent has been reset: nothing of it is held, nor an arm. -/
def Staging.lost (x : Staging) (bank : Nat) (copied : Bool) : Staging :=
  { x with chunks := [], copied := copied, hashed := false, arm := none, bank := bank }
/-- An agent's banks and stagings after its active banks are reloaded: what it has received of a distribution is lost with its arm. -/
def Furnish.reload (f : Furnish) (base fleet ucode : List Host.Cell) : Furnish :=
  let waits := fun k : Nat => (k == 1 && !fleet.isEmpty) || (k == 2 && !base.isEmpty)
  let st := f.staging.map fun (e : Nat × Option Staging) => (e.1, e.2.map fun x => x.lost (if e.1 = 3 then 1 - f.ucodeBank else f.spare) (!waits e.1))
  let f := { f with bank0 := [], bank1 := [], ucode0 := [], ucode1 := [], diag := false, ucodeRom := ucode.isEmpty, ucodePending := none, staging := st }
  ((f.setRegion f.bank 1 base).setRegion f.bank 2 fleet).setUcode f.ucodeBank ucode
/-- The banks of an agent as the active Vat reloads them from flash (R224). A running distribution resends it every chunk; one that has armed its
    agents disarms them first. -/
def State.reloadBanks (s : State) (d : Nat) : State :=
  let s := each [1, 2, 3] (fun s k => if (s.reloadBytes k d).isEmpty then s else s.emit (.reload d k (s.reloadBytes k d))) s
  let s := s.modDie d fun k => { k with unloaded := false, furnish := k.furnish.reload (s.reloadBytes 1 d) (s.reloadBytes 2 d) (s.reloadBytes 3 d) }
  each [1, 2, 3, 4] (fun s k =>
    match s.dist k with
    | none => s
    | some x =>
      if !x.targets.contains d || x.activated.contains d then s
      else
        let s := if x.step = 7 then each x.targets (fun s t => s.vatSend 0x8E 0 t [x.id]) s else s
        s.modDist k fun x =>
          { x with complete := x.complete.filter (· != d), step := if 4 ≤ x.step then 4 else x.step
                   resend := (x.resend.filter fun r => r.1 != d) ++ (List.range x.chunks).map fun n => (d, n) }) s
/-- An agent after its reset: its state machines, first-stage counters and every field of its window that Table 16.2 does not mark (P) are at their
    reset values (Table 8.10, R15, R493). The factory calibration's CRC is checked again as the agent leaves reset (R386), and its microcode bank is
    reloaded (R224). -/
def resetAgent (d : Nat) (k : Die) : Die :=
  { k with inReset := false, unloaded := true, live := none, liveEpoch := 0, first := [], poolAsked := false, barriers := [], stopLatch := false,
           isolated := false, ring0 := 0, ring1 := 0, unaligned := true, reelLock := false
           cal := if k.cal.fcalOk then { ({} : Cal) with fcalOk := true } else ({} : Cal).allFailed (sensorCount d)
           beater := { ({} : Beater) with unusable := k.beater.unusable }
           furnish := { k.furnish with ucodeBank := 0, ucodeRom := true } }
/-- The holds that an agent keeps in force end with its reset: a global stop's, the Calender's, and that of an isolated die. -/
def State.dropAgentHolds (s : State) (d : Nat) : State := ((s.unholdDie d 3).unholdDie d 4).unholdDie d isolateKey
/-- A transaction that RESETTING has turned away is sent again; a Vat's command by the acting Vat, under its epoch (R365). -/
def State.sendAgain (s : State) (t : Txn) : State :=
  if (dieHub t.src).isSome then s.feltSend s.actDie t.type t.mode t.dst (s.epoch :: t.words.drop 1) else s.feltSend t.src t.type t.mode t.dst t.words
/-- What the active Vat does once an agent's reset is complete: it repeats the commands turned away, and reloads its banks (R224, R365). -/
def State.serveAgent (s : State) (die : Nat) : State :=
  let l := (s.die die).repeats
  (each l (fun s t => s.sendAgain t) (s.modDie die fun k => { k with repeats := [] })).reloadBanks die
/-- AGENT_RESET_DONE (R279, R224, R73, R365): the agent returns and its reel copy is realigned; its cores resume, and commands that it answered with
    RESETTING are repeated. The active Vat reloads its banks, once one acts; until then its microcode is the mask ROM's, which runs no Beater (R210). -/
def execAgentResetDone (die : Nat) (s : State) : Host.Outcome State Fault Refusal :=
  guardId (isDie die)
    (match s.runningReset 2 die with
     | none => if (s.die die).unloaded then s.whenActing (.agentResetDone die) fun s => s.serveAgent die else s
     | some r =>
       let target := (s.targetCore die).filter fun p => (s.core p).parked
       let s := ((s.modDie die fun k => { resetAgent die k with repeats := k.repeats }).dropReset 2 die)
         |>.modSh fun h => { h with nearDies := h.nearDies.filter (· != die) }
       let s := match target with | some p => s.unpark p | none => s
       let s := ((s.correctReel die s.reel).dropAgentHolds die).unholdDie die (resetKey 2)
       let s := (s.dieRing die 0x24 die).resetDone 2 die r.2.2.1 (0, 0)
       s.mirror.whenActing (.agentResetDone die) fun s => s.serveAgent die)

/-! ## Commands (R181, R279, R283, R286, R287) -/

/-- CORE_RETURN (R181, R262): an ESCAPED core on which a later fleet run has passed becomes a spare. -/
def execCoreReturn (rq : Req) (pcore : Nat) (s : State) : Host.Outcome State Fault Refusal :=
  .next (s.command (.coreReturn rq pcore) rq { code := 0x0301, least := .operator, kind := .other } [] (validCore pcore) fun s =>
    if s.inTriage pcore then s.finish rq 0x0301 stBusy [] []
    else if (s.core pcore).escaped = some true && physState (s.phys pcore) = 2 then
      ((s.modCore pcore fun c => { c with escaped := none }).fenceCore pcore 0 0).finish rq 0x0301 stOk [] []
    else s.finish rq 0x0301 stNotReady [] [])
/-- The target of RESET is in its domain's range (Table 8.12 RESET_DONE). -/
def resetTargetOk (domain target : Nat) : Bool :=
  match domain with
  | 0 => validCore target
  | 1 => isCompute (target / 16) && decide (target % 16 < 12)
  | 2 => isDie target
  | 3 => decide (target < 32)
  | 4 => target == 0
  | _ => false
/-- RESET (R279): a request at the ladder rung of its domain; it completes once the request is made. -/
def execReset (rq : Req) (domain target : Nat) (s : State) : Host.Outcome State Fault Refusal :=
  .next (s.command (.reset rq domain target) rq { code := 0x0302, least := .operator, kind := .other,
                                                  rom := domain == 4 } [] (resetTargetOk domain target) fun s =>
    if domain = 0 && s.inTriage target then s.finish rq 0x0302 stBusy [] []
    else (s.finish rq 0x0302 stOk [] []).requestReset domain target 0)
/-- LADDER_CFG (R283): N and W of CORE_RUNG, clamped as R238 says; 0 selects the default. -/
def execLadderCfg (rq : Req) (part n w : Nat) (s : State) : Host.Outcome State Fault Refusal :=
  .next (s.command (.ladderCfg rq part n w) rq { code := 0x0303, least := .operator, kind := .other } [] (decide (part < 32)) fun s =>
    let cn := clampOr 1 16 1 4095 8 n
    let cw := clampOr 2 32 1 3600000000 hour w
    let s := s.modSh fun h => { h with ladderCfg := tset none h.ladderCfg part (if cn.1 = 8 && cw.1 = hour then none else some (cn.1, cw.1)) }
    s.mramWrite.mirror.finish rq 0x0303 stOk (cn.2 ++ cw.2) [])
/-- PART_RELEASE (R283): a rung-2 hold ends; its dies' fences are lowered and its dies released. -/
def execPartRelease (rq : Req) (part : Nat) (s : State) : Host.Outcome State Fault Refusal :=
  .next (s.command (.partRelease rq part) rq { code := 0x0304, least := .operator, kind := .other } [] (decide (part < 32)) fun s =>
    if s.pkg.partHeld.contains part then
      let s := s.modPkg fun g => { g with partHeld := g.partHeld.filter (· != part) }
      let s := each (s.partDies part) (fun s d =>
        (if (s.runningReset 3 part).isSome then s
         else each (List.range 12) (fun s c => if (s.runningReset 1 (d * 16 + c)).isSome then s else s.lowerFence d c) s).unholdDie d rungKey) s
      s.mirror.finish rq 0x0304 stOk [] []
    else s.finish rq 0x0304 stNotReady [] [])
/-- OOS_ENTER (R286). -/
def execOosEnter (rq : Req) (s : State) : Host.Outcome State Fault Refusal :=
  .next (s.command (.oosEnter rq) rq { code := 0x0305, least := .operator, kind := .other } [] true fun s => (s.enterOos 1).finish rq 0x0305 stOk [] [])
/-- SERVICE_RESUME (R287): signed; out of service ends, COUNT of PKG_RESET is 0 with TOTAL kept, and an uncounted package reset follows. -/
def execServiceResume (rq : Req) (s : State) : Host.Outcome State Fault Refusal :=
  .next (s.command (.serviceResume rq) rq { code := 0x0306, least := .operator, kind := .other, signed := true } [] true fun s =>
    if s.pkg.oos then
      let latched := s.sh.pins.contains (pkgSource 8)
      let s := s.modPkg fun g => { g with oos := false }
      let s := s.modSh fun h =>
        { h with counters := tset {} h.counters (pkgSource 7) { (tget {} h.counters (pkgSource 7)) with count := 0 }
                 pins := h.pins.filter (· != pkgSource 8) }
      let s := if latched then s.record 0x0703 0 (pkgSource 8) (privCode rq.priv) 0 0 else s
      let s := s.mramWrite.record 0x0809 0 (pkgSource 8) (privCode rq.priv) 0 0
      (s.finish rq 0x0306 stOk [] []).packageReset 0 false
    else s.finish rq 0x0306 stNotReady [] [])
/-- POWER_CYCLE_REQ_REPEAT (R285): the request is repeated every second until power is removed. -/
def execPowerCycleReqRepeat (s : State) : Host.Outcome State Fault Refusal := .next (if s.pkg.powerPending then s.sendPowerReq else s)

end Sys2Proof.Machine
end

