-- ==== Sys2Proof/Machine/Debug.lean ====
section
/-! DEFINITION. Breakpoint resume, the global stop, crash dumps, and the reads of rings, counters and profiles (R439-R456). -/

namespace Sys2Proof.Machine

/-! ## Breakpoint holds (R439-R441) -/

/-- A breakpoint hold ends: kept verdicts take effect, gates release, and with RUN each core is held again after that many steps (R441). -/
def State.doResume (s : State) (c run : Nat) (b : BrkHold) : State :=
  let s := (s.modCtx c fun x => { x with brkHold := none, runHold := if run = 0 then none else some b }).freeScope c b.scope
  let s := each (s.scopeCores c b.scope) (fun s p =>
    match s.lcOf p with
    | none => s
    | some n =>
      let s := if run = 0 then s else s.modCore p fun k => { k with runTo := some (((s.lc n).lstep + run) % 2 ^ 64) }
      let s := s.applyKept p
      match s.lcCtx n with | some x => s.drainGate x n | none => s) s
  (s.record 0x0E01 0 (ctxSource c 0) c (sat 24 ((s.now - b.start) / 1000000)) (run % 2 ^ 24)).mirror
/-- BRK_DRAIN_END (Table 14.3 step 4): the hold is in force and BRK_HIT is written; a BRK_RESUME that waited takes effect (Table 14.14). -/
def execBrkDrainEnd (ctx : Nat) (s : State) : Host.Outcome State Fault Refusal :=
  guardId (decide (ctx < 4096))
    (match (s.ctx ctx).brkHold with
     | none => s
     | some b =>
       if b.inForce || b.after then s
       else
         let s := s.modCtx ctx fun x => { x with brkHold := some { b with inForce := true } }
         let s := s.record 0x0E00 0 (ctxSource ctx 0) (b.kind * 2 ^ 20 + b.scope * 2 ^ 16 + ctx) b.number (sat 24 ((s.now - b.start) / 1000))
         let s := if bit (s.cfg 232).each 4 then s.postInt (ctxSource ctx 0) else s
         match b.resume with
         | none => s
         | some run => (s.doResume ctx run b).endOp 0x0C04 ctx stOk [])
/-- BRK_RESUME (R441). -/
def execBrkResume (rq : Req) (run : Nat) (s : State) : Host.Outcome State Fault Refusal :=
  .next (s.command (.brkResume rq run) rq { code := 0x0C04, least := .tenant, kind := .other } [rq.ctx] (decide (run < 2 ^ 64)) fun s =>
    match (s.ctx rq.ctx).brkHold with
    | none => s.finish rq 0x0C04 stNotReady [] []
    | some b =>
      if b.after then s.finish rq 0x0C04 stNotReady [] []
      else if b.inForce then (s.doResume rq.ctx run b).finish rq 0x0C04 stOk [] []
      else (s.modCtx rq.ctx fun x => { x with brkHold := some { b with resume := some run } }).beginRun rq 0x0C04 rq.ctx 0 [])

/-! ## Global stop (R442-R447) -/

/-- GSTOP (R442): it runs until the stop table is complete. -/
def execGstop (rq : Req) (s : State) : Host.Outcome State Fault Refusal :=
  .next (s.command (.gstop rq) rq { code := 0x0C05, least := .operator, kind := .other } [] true fun s =>
    if s.dbg.gstop.isSome then s.finish rq 0x0C05 stBusy [] [] else (s.startStop s.actDie 0).beginRun rq 0x0C05 0 0 [])
/-- GSTOP_JTAG (R442): the IEEE 1149.1 instruction of a hub, accepted in Factory and Return, or in Field under VENDOR_DEBUG. -/
def execGstopJtag (hub : Hub) (s : State) : Host.Outcome State Fault Refusal :=
  .next (if s.pkg.lifecycle = 1 || s.pkg.lifecycle = 3 || (s.pkg.lifecycle = 2 && s.pkg.vendorDebug) then s.startStop (hubDie hub) 2 else s)
/-- STOP_RISE (R367): STOP rises at an input of a station. -/
def execStopRise (die : Nat) (s : State) : Host.Outcome State Fault Refusal :=
  guardId (isDie die) (if s.dbg.gstop.isSome then s.latchStop die else s)
/-- The smear and the smallest HALT_REEL, over every readable core that was not held before the stop (R446). -/
def smearOf (l : List StopEntry) : Nat × Nat :=
  match (l.filter fun e => !e.unreadable && !e.held).map (·.haltReel) with
  | [] => (0, 0)
  | x :: r => (r.foldl max x - r.foldl min x, r.foldl min x)
/-- The dies whose agents answer: those that send their part of the stop table. -/
def State.stopSenders (s : State) : List Nat := (List.range 100).filter fun d => (s.die d).bist == some true && !(s.die d).inReset
/-- Every answering agent has sent its cores' entries and its link words. -/
def State.stopComplete (s : State) : Bool :=
  s.stopSenders.all fun d => (tget none s.dbg.stopLinks d).isSome && (!isCompute d || (dieCores d).all fun p => (tget none s.dbg.stopTable p).isSome)
/-- The stop table is complete: GSTOP is written and a GSTOP command completes (Table 14.4 step 5). -/
def State.stopDone (s : State) (initiator : Nat) : State :=
  let l := (s.dbg.stopTable.map (·.2)).filterMap id
  let m := smearOf l
  let bad := (l.filter (·.unreadable)).length
  let s := s.modDbg fun g => { g with smear := sat 32 m.1, unreadable := g.unreadable || bad != 0 }
  (s.record 0x0E02 2 s.hubRegion (initiator * 2 ^ 20) (sat 24 m.1) (sat 24 bad)).endOp 0x0C05 0 stOk [(32, sat 32 m.1), (64, m.2), (16, bad)]
/-- STOP_TABLE (Table 11.6, Table 14.4 step 4): a header word, then entries of the sending die's cores or its link words, arrive at the active Vat. -/
def execStopTable (h : Hdr) (words : List Nat) (s : State) : Host.Outcome State Fault Refusal :=
  .next (s.recvVat (.stopTable h words) h 0xC4 fun s =>
    match s.dbg.gstop with
    | none => s
    | some (i, _) =>
      let before := s.stopComplete
      let n := bits (words.headD 0) 0 16
      let first := bits (words.headD 0) 16 8
      let body := words.drop 1
      let s := s.modDbg fun g =>
        if bits (words.headD 0) 24 8 = 0 then
          let l := ((List.range n).map fun i => readStop ((body.drop (8 * i)).take 8)).filter fun e => validCore e.pcore && coreDie e.pcore == h.src
          { g with stopTable := l.foldl (fun t e => tset none t e.pcore (some e)) g.stopTable }
        else { g with stopLinks := tset none g.stopLinks h.src (some (((tget none g.stopLinks h.src).getD []).take first ++ body.take n)) }
      if !before && s.stopComplete then s.stopDone i else s)
/-- GSTOP_RELEASE (R447). -/
def execGstopRelease (rq : Req) (resume : Nat) (s : State) : Host.Outcome State Fault Refusal :=
  .next (s.command (.gstopRelease rq resume) rq { code := 0x0C06, least := .operator, kind := .other } [] (decide (resume ≤ 1)) fun s =>
    match s.dbg.gstop with
    | none => s.finish rq 0x0C06 stNotReady [] []
    | some (_, t) =>
      if resume = 0 then
        ((s.modDbg fun g => { g with stopHeld := true }).record 0x0E03 0 s.hubRegion 0 (sat 24 ((s.now - t) / 1000000)) 0).finish rq 0x0C06 stOk [] []
      else if s.dbg.stopHeld || s.dbg.unreadable then s.finish rq 0x0C06 stNotReady [] []
      else if s.dbg.releaseAt.isSome then s.finish rq 0x0C06 stBusy [] []
      else
        let a := s.now + 100000
        ((s.modDbg fun g => { g with releaseAt := some a }).vatSend 0x93 1 0 [a % 2 ^ 32, bits a 32 32]).beginRun rq 0x0C06 0 0 [])
/-- GSTOP_REL (R447): a station learns the activation count. -/
def execGstopRel (h : Hdr) (die count : Nat) (s : State) : Host.Outcome State Fault Refusal :=
  guardId (isDie die) (s.recvCmd die h 0x93 fun s => if s.dbg.gstop.isSome then s.modDbg fun g => { g with releaseAt := some count } else s)
/-- A context's breakpoint that triggered under the stop takes effect at the release (Table 14.14). -/
def State.lateBrk (s : State) (c : Nat) : State :=
  match (s.ctx c).brkHold with
  | some b => if b.after then (s.modCtx c fun x => { x with brkHold := some { b with after := false } }).holdScope c b.scope else s
  | none => s
/-- GSTOP_RELEASE_ACTIVATION (R447): routers and cores resume and the stop latches clear. -/
def execGstopReleaseActivation (s : State) : Host.Outcome State Fault Refusal :=
  match s.dbg.gstop, s.dbg.releaseAt with
  | some (_, t), some _ =>
    let s := each ((List.range 100).filter fun d => (s.die d).stopLatch) (fun s d => (s.modDie d fun k => { k with stopLatch := false }).unholdDie d 3) s
    let s := each ((s.cores.filter fun e => e.2.haltReel.isSome).map (·.1)) (fun s p => s.modCore p fun c => { c with haltReel := none }) s
    let s := each ((s.sh.ctxs.filter fun e => e.2.brkHold.isSome).map (·.1)) (fun s c => s.lateBrk c) s
    let s := s.modDbg fun g => { g with gstop := none, releaseAt := none, stopTable := [], stopLinks := [] }
    .next ((s.record 0x0E03 0 s.hubRegion 1 (sat 24 ((s.now - t) / 1000000)) 0).endOp 0x0C06 0 stOk [])
  | _, _ => .next s
/-- STOP_READ (R445). -/
def execStopRead (rq : Req) (first count : Nat) (s : State) : Host.Outcome State Fault Refusal :=
  .next (s.command (.stopRead rq first count) rq { code := 0x0C07, least := .operator, kind := .read, debug := true } [] (decide (first < 14976)) fun s =>
    if s.dbg.gstop.isNone then s.finish rq 0x0C07 stNotReady [] []
    else
      let n := clampTo 1 8 1 14 count
      let l := ((List.range n.1).map fun i => first + i).filter fun i => i < 14976
      s.finish rq 0x0C07 stOk n.2 (l.flatMap fun i =>
        let p := pcoreOf (i / 156) (i % 156)
        stopFields ((tget none s.dbg.stopTable p).getD { (default : StopEntry) with pcore := p })))

/-! ## Crash dumps (R448-R450) -/

/-- Bytes of a unit's image (Table 14.7). -/
def imageSize (u : DumpUnit) : Nat :=
  if u.kind = 0 then 0xC000 else if u.kind = 1 then 0x4000 else if u.kind = 2 then 0x4000 else if u.kind = 3 then 0x10000 else u.length
/-- A unit names a core, for kinds 0, 1 and 4. -/
def coreUnit (u : DumpUnit) : Bool := u.kind == 0 || u.kind == 1 || u.kind == 4
/-- The die of a unit: a core's, a cluster's (die * 12 + cluster), or the die itself. -/
def unitDie (u : DumpUnit) : Nat := if u.kind = 2 then u.unit / 12 else if u.kind = 3 then u.unit else coreDie u.unit
/-- A unit that DUMP may name: it exists, its die is enabled, and a scratchpad range lies in the scratchpad in 64-byte units. -/
def State.unitOk (s : State) (u : DumpUnit) : Bool :=
  decide (u.kind < 5) && decide (unitDie u < 96) && (!coreUnit u || validCore u.unit) && s.enabled (unitDie u) &&
  (u.kind != 4 || (u.offset % 64 == 0 && u.length % 64 == 0 && decide (0 < u.length) && decide (u.offset + u.length ≤ s.pkg.spad)))
/-- A unit is in reset. -/
def State.unitResets (s : State) (u : DumpUnit) : Bool :=
  if coreUnit u then (s.core u.unit).resetting
  else if u.kind = 2 then (clusterCores (unitDie u) (u.unit % 12)).all fun p => (s.core p).resetting
  else (dieCores (unitDie u)).all fun p => (s.core p).resetting
/-- A unit is frozen, held, fenced, parked or globally stopped (R448). -/
def State.unitStill (s : State) (u : DumpUnit) : Bool :=
  let d := unitDie u
  (s.die d).stopLatch || s.unitResets u ||
  (if coreUnit u then s.stopped u.unit || decide (2 ≤ physState (s.phys u.unit))
   else if u.kind = 2 then (s.die d).fences.contains (u.unit % 12)
   else (List.range 12).all fun c => (s.die d).fences.contains c)
/-- A dump runs, by command or for a hang. -/
def State.dumping (s : State) : Bool := s.dbg.dumpAuto || s.running 0x0C08 0
/-- The next unit that is not in reset is scanned; those in reset are marked UNREADABLE with status 3 (R449, Table 14.14). The dump ends at the
    last whole image that its buffer of 8 MiB holds (R450). -/
def State.nextScan : Nat → State → State
  | 0, s => s
  | n + 1, s => match s.dbg.dumpTodo with
    | [] => s
    | u :: l =>
      if 0x800000 < 16 * (s.dbg.dumpDir.length + 1) + s.dbg.dumpNext + imageSize u then
        s.modDbg fun g => { g with dumpTodo := [], truncated := true }
      else if s.unitResets u then
        nextScan n (s.modDbg fun g =>
          { g with dumpTodo := l, dumpDir := g.dumpDir ++ [(u.kind, 3, u.unit, u.offset, imageSize u)], dumpNext := g.dumpNext + imageSize u
                   unreadable := g.unreadable || g.gstop.isSome })
      else s.emit (.scan u.kind u.unit)
/-- A dump with no unit left to scan is held, DUMP_DONE is written and the command completes; after a hang's capture the core reset starts. -/
def State.endDump (s : State) : State :=
  if s.dbg.dumpTodo.isEmpty && s.dumping then
    let v := s.draw
    let s := v.2
    let id := Config.dumpId v.1 % 65536
    let bad := (s.dbg.dumpDir.filter fun e => e.2.1 != 0).length
    let lock := s.sh.runs.any fun x => x.opcode == 0x0C08 && x.arg == 1
    let auto := s.dbg.dumpAuto
    let s := (s.modDbg fun g => { g with dumpHeld := some (id, lock), dumpAuto := false }).record 0x0E04 0 s.hubRegion id s.dbg.dumpDir.length bad
    let s := s.endOp 0x0C08 0 stOk [(16, id), (16, bad)]
    if auto then each ((s.cores.filter fun e => e.2.hung).map (·.1)) (fun s p => s.hangReset p) s else s
  else s
/-- Goes on with a dump. -/
def State.goDump (s : State) : State := (State.nextScan s.dbg.dumpTodo.length s).endDump
/-- DUMP (R448-R450). -/
def execDump (rq : Req) (lock : Nat) (units : List DumpUnit) (s : State) : Host.Outcome State Fault Refusal :=
  .next (s.command (.dump rq lock units) rq { code := 0x0C08, least := .operator, kind := .other, debug := true } []
      (decide (lock ≤ 1) && decide (0 < units.length) && decide (units.length ≤ 41) && units.all s.unitOk) fun s =>
    if s.dumping || (match s.dbg.dumpHeld with | some x => x.2 | none => false) || !units.all s.unitStill then s.finish rq 0x0C08 stBusy [] []
    else ((s.modDbg fun g => { g with dumpHeld := none, dumpBytes := [], dumpDir := [], dumpNext := 0, truncated := false, dumpTodo := units }).beginRun
      rq 0x0C08 0 lock []).goDump)
/-- The automatic dump of a hang: the core pipeline and the tap (Table 8.7 step 2); skipped while a locked dump is held. -/
def State.autoDump (s : State) (p : Nat) : State :=
  let units : List DumpUnit := [{ kind := 0, unit := p, offset := 0, length := 0 }, { kind := 1, unit := p, offset := 0, length := 0 }]
  if s.dbg.dumpAuto then s.modDbg fun g => { g with dumpTodo := g.dumpTodo ++ units }
  else if s.running 0x0C08 0 || (match s.dbg.dumpHeld with | some x => x.2 | none => false) then s
  else
    (s.modDbg fun g =>
      { g with dumpAuto := true, dumpHeld := none, dumpBytes := [], dumpDir := [], dumpNext := 0, truncated := false, dumpTodo := units }).goDump
/-- A core marked UNREADABLE under a hold other than a global stop is fenced with CAUSE 0x3F; under a stop the stop cannot resume (R447, R449). -/
def State.markUnreadable (s : State) (u : DumpUnit) : State :=
  if s.dbg.gstop.isSome then s.modDbg fun g => { g with unreadable := true }
  else if !coreUnit u || 2 ≤ physState (s.phys u.unit) then s
  else if (s.lcOf u.unit).isSome then s.planReplace u.unit 0x3F false
  else s.fenceCore u.unit 2 0x3F
/-- The scan of the front unit ends with a status, its image stored when good and zero-filled otherwise. -/
def State.unitDone (s : State) (status : Nat) (image : List Byte) : State :=
  match s.dbg.dumpTodo with
  | [] => s
  | u :: l =>
    if !s.dumping then s
    else
      let lo := s.dbg.dumpNext
      let n := imageSize u
      let keep := s.dbg.dumpBytes.filter fun e => e.1 < lo
      let s := s.modDbg fun g =>
        { g with dumpTodo := l, dumpDir := g.dumpDir ++ [(u.kind, status, u.unit, u.offset, n)], dumpNext := lo + n
                 dumpBytes := if status = 0 then tput (0 : Byte) keep lo (image.take n) else keep }
      (if status = 0 then s else s.markUnreadable u).goDump
/-- DUMP_UNIT_DONE (R449): the unit's marker returns, intact or altered. -/
def execDumpUnitDone (markerOk : Bool) (image : List Byte) (s : State) : Host.Outcome State Fault Refusal :=
  .next (s.unitDone (if markerOk then 0 else 2) image)
/-- DUMP_UNIT_TIMEOUT (R449). -/
def execDumpUnitTimeout (s : State) : Host.Outcome State Fault Refusal := .next (s.unitDone 1 [])
/-- FELT_DUMP (R448): bytes of the unit being scanned arrive at the active Vat. -/
def execFeltDump (h : Hdr) (off : Nat) (bytes : List Byte) (s : State) : Host.Outcome State Fault Refusal :=
  .next (s.recvVat (.feltDump h off bytes) h 0xC3 fun s =>
    match s.dbg.dumpTodo with
    | u :: _ =>
      if s.dumping && decide (off + bytes.length ≤ imageSize u) then
        s.modDbg fun g => { g with dumpBytes := tput (0 : Byte) g.dumpBytes (g.dumpNext + off) bytes }
      else s
    | [] => s)
/-- A directory entry's 16 bytes as one number (R450). -/
def dirNum (e : Nat × Nat × Nat × Nat × Nat) : Nat :=
  packFields [(8, e.1), (8, e.2.1), (16, e.2.2.1), (32, e.2.2.2.1), (32, e.2.2.2.2), (32, 0)]
/-- The dump buffer as it reads: the directory, then the images in its order (R450). -/
def State.dumpByte (s : State) (off : Nat) : Nat :=
  let n := 16 * s.dbg.dumpDir.length
  if off < n then match s.dbg.dumpDir[off / 16]? with | some e => bits (dirNum e) (off % 16 * 8) 8 | none => 0
  else (tget (0 : Byte) s.dbg.dumpBytes (off - n)).toNat
/-- DUMP_READ (R450). -/
def execDumpRead (rq : Req) (off unlock : Nat) (s : State) : Host.Outcome State Fault Refusal :=
  .next (s.command (.dumpRead rq off unlock) rq { code := 0x0C09, least := .operator, kind := .read, debug := true } [] (decide (unlock ≤ 1) &&
    decide (off < 0x800000)) fun s =>
    match s.dbg.dumpHeld with
    | none => s.finish rq 0x0C09 stNotReady [] []
    | some (id, _) =>
      let n := min 448 (16 * s.dbg.dumpDir.length + s.dbg.dumpNext - off)
      let s := if unlock = 1 then s.modDbg fun g => { g with dumpHeld := some (id, false) } else s
      s.finish rq 0x0C09 stOk [] ((List.range n).map fun i => (8, s.dumpByte (off + i))))

/-! ## Rings, counters and profiles (R451-R456) -/

/-- An event-ring entry's 16 bytes as fields (R455); for a Tenant, one outside its range is masked (R456). -/
def State.ringFields (s : State) (rq : Req) (e : RingEntry) : List (Nat × Nat) :=
  if s.inRange rq e.ctx then [(32, e.kind * 2 ^ 24 + e.ctx * 2 ^ 12 + e.detail), (32, e.w1), (32, e.step), (32, e.reel)]
  else [(32, 0xFF000000), (32, 0), (32, 0), (32, 0)]
/-- RING_READ (R456). -/
def execRingRead (rq : Req) (ring target first count clear : Nat) (s : State) : Host.Outcome State Fault Refusal :=
  .next (s.command (.ringRead rq ring target first count clear) rq { code := 0x0C0A, least := .tenant, kind := .read } [rq.ctx]
      (decide (ring ≤ 1) && decide (clear ≤ 1) && decide (first < 256) &&
        (if ring = 0 then decide (target < 13824) && s.enabled (s.homeDie target) else decide (target < 100) && (!isCompute target || s.enabled target)))
    fun s =>
      let n := clampTo 3 8 1 28 count
      if ring = 1 then
        if rq.priv = .tenant then s.refuse rq 0x0C0A stDenied 4
        else s.finish rq 0x0C0A stOk n.2 ((((s.die target).ring.reverse.drop first).take n.1).flatMap (s.ringFields rq))
      else match s.carrier target with
        | none => s.finish rq 0x0C0A stNotReady [] []
        | some p =>
          let l := (((s.core p).ring.reverse.drop first).take n.1).flatMap (s.ringFields rq)
          (if clear = 1 then s.modCore p fun c => { c with ringFrozen := false } else s).finish rq 0x0C0A stOk n.2 l)
/-- A core's 112 bytes of COUNTER_READ (Table 14.12). -/
def State.counterFields (s : State) (p : Nat) : List (Nat × Nat) :=
  let c := s.core p
  [(16, p), (8, c.stallNow), (8, 0), (16, c.awaited.getD 0), (16, 0), (64, c.busy), (64, c.idle), (64, s.holdTime p)] ++
  (List.range 10).map fun i => (64, s.stallTime p (i + 1))
/-- The counters of a tap are zeroed (R451); what its operator's execution has used so far goes to the profile first (R453). -/
def State.zeroCounters (s : State) (p : Nat) : State :=
  let o := match s.lcOf p with | some n => (s.lc n).oper | none => none
  let s := match s.lcOf p, o with | some n, some x => s.profFlush p n x.1 x.2 0 | _, _ => s
  let total := (s.core p).hold + (match s.heldSince p with | some b => s.now - b | none => 0)
  let s := s.modCore p fun c => { c with busy := 0, idle := 0, holdBase := total, stall := [], stallSince := s.now }
  match s.lcOf p with | some n => s.profStart p n | none => s
/-- COUNTER_READ (R451). -/
def execCounterRead (rq : Req) (pcore count clear : Nat) (s : State) : Host.Outcome State Fault Refusal :=
  .next (s.command (.counterRead rq pcore count clear) rq { code := 0x0C0B, least := .operator, kind := .read } []
      (validCore pcore && decide (clear ≤ 1) && s.enabled (coreDie pcore)) fun s =>
    let n := clampTo 1 8 1 4 count
    let i := coreDie pcore * 156 + coreIndex pcore
    let l := (((List.range n.1).map fun k => i + k).filter fun k => k < 14976 && s.enabled (k / 156)).map fun k => pcoreOf (k / 156) (k % 156)
    let d := l.flatMap s.counterFields
    (if clear = 1 then each l (fun s p => s.zeroCounters p) s else s).finish rq 0x0C0B stOk n.2 d)
/-- A profile entry's 80 bytes as fields (Table 14.9). -/
def profFields (e : ProfEntry) : List (Nat × Nat) :=
  [(16, e.tag), (16, e.layer), (16, e.oper), (16, 0), (32, sat 32 e.execs), (32, 0), (64, e.busy), (64, e.idle), (64, e.hold)] ++
  e.stall.map fun t => (32, sat 32 (t / 64))
/-- PROF_READ (R453, R454): a Tenant reads the entries of its own contexts only, and no overflow entry. -/
def execProfRead (rq : Req) (die first count : Nat) (s : State) : Host.Outcome State Fault Refusal :=
  .next (s.command (.profRead rq die first count) rq { code := 0x0C0C, least := .tenant, kind := .read } [rq.ctx] (isCompute die && s.enabled die) fun s =>
    let n := clampTo 2 8 1 5 count
    let k := s.die die
    let own := rq.priv = .tenant
    let l := if own then k.prof.filter fun e => s.inRange rq (e.tag % 4096) else k.prof ++ k.profOver.toList
    s.finish rq 0x0C0C stOk n.2 ([(32, if own then 0 else sat 32 k.profLost), (32, 0)] ++ ((l.drop first).take n.1).flatMap profFields))
/-- PROF_CLEAR (R453): a Tenant clears only its own contexts' entries. -/
def execProfClear (rq : Req) (die : Nat) (s : State) : Host.Outcome State Fault Refusal :=
  .next (s.command (.profClear rq die) rq { code := 0x0C0D, least := .tenant, kind := .other } [rq.ctx] ((isCompute die && s.enabled die) ||
    die == 0xFF) fun s =>
    let own := rq.priv = .tenant
    let gone := fun e : ProfEntry => !own || s.inRange rq (e.tag % 4096)
    let dies := if die = 0xFF then (List.range 96).filter s.enabled else [die]
    let n := dies.foldl (fun a d => a + ((s.die d).prof.filter gone).length + (if own then 0 else (s.die d).profOver.toList.length)) 0
    let s := each (dies.filter fun d => !(s.die d).prof.isEmpty || (s.die d).profOver.isSome) (fun s d => s.modDie d fun k =>
      { k with prof := k.prof.filter fun e => !gone e, profOver := if own then k.profOver else none, profLost := if own then k.profLost else 0 }) s
    s.finish rq 0x0C0D stOk [] [(16, n)])

end Sys2Proof.Machine
end

