-- ==== Sys2Proof/Machine/Hang.lean ====
section
/-! DEFINITION. Hang detection (R268-R272): the watchdog, the walk, and the hang sequence. -/

namespace Sys2Proof.Machine

/-- A core is held: frozen, in reset, or under a hold listed for R83. -/
def State.heldStill (s : State) (p : Nat) : Bool := (s.core p).frozen || (s.core p).resetting || !(s.holdsOn p).isEmpty
/-- A core's watchdog is suspended (R268, R291): it is held, it waits on another package, or on a logical core whose carrier is frozen, parked, held
    or in a hang check. -/
def State.hangPaused (s : State) (p : Nat) : Bool :=
  s.heldStill p || (s.core p).stallNow == 8 ||
  (match (s.core p).awaited.bind s.carrier with | some q => s.stopped q || (s.core q).hangCheck | none => false)
/-- A walk over a chain of logical cores ends: no core of it is in a hang check any more. -/
def State.endWalk (s : State) (chain : List Nat) : State :=
  each chain (fun s n => match s.carrier n with | some p => s.modCore p fun c => { c with hangCheck := false } | none => s) s
/-- The watchdog of every core on a chain restarts (R270). -/
def State.restartChain (s : State) (chain : List Nat) : State :=
  each chain (fun s n => match s.carrier n with | some p => s.modCore p fun c => { c with lastIssue := s.now, hangCheck := false } | none => s) s
/-- HANG is written (Table 8.12): kind, core where the walk ended, its logical core, the logical core awaited. -/
def State.recordHang (s : State) (kind p n : Nat) : State :=
  s.record 0x0804 (if kind = 2 || kind = 3 then 2 else 3) (if kind = 0 then coreSource p 31 else partSource (s.partOf (coreDie p)) 2)
    (kind * 2 ^ 20 + p) n ((s.core p).awaited.getD 0xFFFFFF)
/-- PART_HANG of a core's partition is counted (R269, R270). -/
def State.countPartHang (s : State) (p c : Nat) : State := s.vatCount (partSource (s.partOf (coreDie p)) 2) { ctx := c, p2 := 0, p3 := 0 }
/-- A context deadlock (R269, R272). -/
def State.deadlock (s : State) (p n c : Nat) : State :=
  ((s.countPartHang p c).recordHang 1 p n).faultCtx c ((s.lc n).oper.getD (0, 0)).1 ((s.lc n).oper.getD (0, 0)).2
/-- The request for the verdict of a ticket goes to the active Vat again (R270). -/
def State.askVerdict (s : State) (t : Nat) : State :=
  let k := s.ticket t
  if k.cross then s.toVat (s.lcDie k.lc) (if descGroup (s.unitDesc t) then 0x40 else 0x41) [k.ctx, t, k.lc, k.rseq] else s
/-- The walk ends at a core whose wait names no awaited logical core (R270). -/
def State.waitEnd (s : State) (chain : List Nat) (p n c : Nat) : State :=
  let r := (s.core p).stallNow
  let d := coreDie p
  let s := (s.countPartHang p c).recordHang (if r = 7 then 3 else if r = 10 then 4 else 2) p n
  let s := s.restartChain chain
  if r = 7 then s
  else if r = 10 then
    ((s.haltSlice d p false).modBeater d fun b => { b with unusable := true, startCore := none, target := none }).agentCount d (dieSource d 3) default
  else if 0 < (s.core p).krmWaits then (s.modCore p fun k => { k with krmWaits := 0 }).ticketState p
  else
    let s := s.modCore p fun k => { k with krmWaits := 1 }
    let s := each ((lcTickets n).filter fun t => (s.ticket t).state == .await) (fun s t => s.askVerdict t) s
    if (s.die d).poolAsked then (s.servePool d).lendPool.settleAll else s
/-- A core hangs (R269, R271, R272): HANG is counted at it, and its BLK reaction is the sequence of Table 8.7. A second hang of the logical core before
    its first unit closes is a context deadlock. -/
def State.coreHangs (s : State) (p n c : Nat) : State :=
  if (s.lc n).hangFrom.isSome then s.deadlock p n c
  else
    let o := (s.lc n).oper.getD (0, 0)
    let cfg := s.cfg 31
    let s := (s.agentCount (coreDie p) (coreSource p 31) { ctx := c, p2 := o.1, p3 := o.2 }).recordHang 0 p n
    if bit cfg.each 2 && !bit cfg.each 1 then
      let s := (s.modCore p fun k => { k with hung := true, hangReset := false }).modLc n fun l => { l with hangFrom := some p }
      ((s.autoDump p).replaceNow n p 4 31).hangReset p
    else s
/-- A core completes no issue step: it has issued none for the context's HANG_T. -/
def State.issuesNone (s : State) (p c : Nat) : Bool := (s.ctx c).hangT * 1000 ≤ s.now - (s.core p).lastIssue
/-- Every core of a context is waiting (R269): a logical core that is not placed has none (log 47). -/
def State.allWait (s : State) (c : Nat) : Bool :=
  (s.ctxLcs c).all fun m => match s.carrier m with | some q => (s.core q).stallNow != 0 | none => true
/-- A chain ends at a core that is not charged: a context deadlock when every core of the context waits, else nothing (R269, log 47). -/
def State.quietEnd (s : State) (p n c : Nat) (chain : List Nat) : State :=
  if s.allWait c then (s.endWalk chain).deadlock p n c else s.endWalk chain
/-- The walk goes on at the last logical core of a chain, whose carrier lies on the die; `n` bounds the chain (R269). -/
def State.walk : Nat → Nat → Nat → List Nat → State → State
  | 0, _, _, chain, s => s.endWalk chain
  | k + 1, d, c, chain, s =>
    match chain.getLast? with
    | none => s
    | some n => match s.carrier n with
      | none => match chain.reverse.findSome? fun m => (s.carrier m).map fun p => (m, p) with
        | some y => s.quietEnd y.2 y.1 c chain
        | none => s.endWalk chain
      | some p =>
        if coreDie p ≠ d then s.feltSend d 0x8A 0 (coreDie p) (c :: chain)
        else if s.heldStill p || ((s.core p).parked && ((s.core p).stallNow ≠ 10 || (s.replaceOf n).isSome)) then s.endWalk chain
        else match (s.core p).stallNow, (s.core p).awaited with
          | 0, _ => if s.issuesNone p c || chain.length = 1 then (s.endWalk chain).coreHangs p n c else s.endWalk chain
          | 3, _ => s.waitEnd chain p n c
          | 4, _ => s.waitEnd chain p n c
          | 7, _ => s.waitEnd chain p n c
          | 10, _ => s.waitEnd chain p n c
          | 8, _ => s.quietEnd p n c chain
          | _, some m => if chain.contains m then (s.endWalk chain).deadlock p n c else walk k d c (chain ++ [m]) s
          | _, none => s.quietEnd p n c chain
/-- HANG_WATCHDOG_EXPIRY (R268, R269): in a switch-over gap it waits, as its outcomes are the Vat's (Table 1.2, R261). -/
def execHangWatchdogExpiry (core : Nat) (s : State) : Host.Outcome State Fault Refusal :=
  guardId (validCore core)
    (s.whenActing (.hangWatchdogExpiry core) fun s => match s.lcOf core with
     | none => s
     | some n => match s.lcCtx n with
       | none => s
       | some c =>
         if (s.ctx c).state ≠ 2 || !(s.lc n).issuing || s.hangPaused core then s
         else State.walk 13825 (coreDie core) c [n] (s.modCore core fun k => { k with hangCheck := true }))
/-- HANG_WALK (R269): a walk reaches the agent of the awaited core. -/
def execHangWalk (h : Hdr) (w : WalkStep) (s : State) : Host.Outcome State Fault Refusal :=
  guardId (w.chain.all (fun n => decide (n < 13824)) && decide (w.ctx < 4096) && !w.chain.isEmpty)
    (let d := match w.chain.getLast? with | some n => s.lcDie n | none => 0
     s.whenActing (.hangWalk h w) fun s => s.recv d h 0x8A fun s => State.walk 13825 d w.ctx w.chain s)
/-- HANG_FREEZE_TIMEOUT (Table 8.7 step 1): the core's local router ports are fenced. -/
def execHangFreezeTimeout (core : Nat) (s : State) : Host.Outcome State Fault Refusal :=
  guardId (validCore core)
    (if (s.core core).hung && !(s.core core).portFence then
       (s.modCore core fun c => { c with portFence := true }).raiseFence (coreDie core) (16 + coreIndex core)
     else s)

end Sys2Proof.Machine
end

