-- ==== Sys2Proof/Machine/Bringup.lean ====
section
/-! DEFINITION. Bring-up and readiness (R470-R485): power, reset input, self-BIST, firmware, licence checks, start-up run, deckle map, declaration. -/

namespace Sys2Proof.Machine

/-! ## SYS_RST_N and power (R470-R473) -/

/-- SYS_RST_N is asserted: everything is in reset; what R472 and R473 keep is kept, and bring-up has not started. -/
def State.holdReset (s : State) : State :=
  let t := s.bringUp
  { t with pkg := { t.pkg with boot := .held, pcycle := s.pkg.pcycle, powerLost := s.pkg.powerLost, hours := s.pkg.hours, ladderReset := none } }
/-- SYS_RST_N_RELEASE (R470): T0; supplies are within their limits. -/
def execSysRstNRelease (s : State) : Host.Outcome State Fault Refusal :=
  .next (if s.pkg.boot = .held then (s.modPkg fun g => { g with powered := true }).bringUp else s)
/-- SYS_RST_N_ASSERT (R472): an orderly shutdown; the operating hours go to MRAM while a window is open. -/
def execSysRstNAssert (s : State) : Host.Outcome State Fault Refusal :=
  .next (if s.pkg.boot = .held then s
    else
      let write := s.acting.isSome && (s.vatA.mramWin || s.vatB.mramWin)
      (s.modPkg fun g => { g with hoursMram := if write then g.hours else g.hoursMram }).holdReset)
/-- What a Vat's retention holds is lost with power: records not yet in MRAM, and a staged epoch (Table 10.8). -/
def losePower (v : Vat) : Vat := { v with staged := none, writing := [], staging := [], lost := 0, lostFirst := 0 }
/-- POWER_LOSS (R471, R473, R463, R398): retention is lost: the warm-start marker, staged records and epochs, latest-value stores that no MRAM window was
    open for, and, without an orderly shutdown, the operating hours since the last write. -/
def execPowerLoss (s : State) : Host.Outcome State Fault Refusal :=
  let t := s.holdReset.loseRetention
  .next { t with vatA := losePower t.vatA, vatB := losePower t.vatB, sh := { t.sh with heldRecs := [] }
                 pkg := { t.pkg with powered := false, powerLost := true, warm := false, hours := t.pkg.hoursMram, hoursFrac := 0 } }

/-! ## Steps 2 and 3: self-BIST, firmware, the active Vat (R317, R318, R340, R342, R476) -/

/-- Time from T0 in ms. -/
def State.sinceT0 (s : State) : Nat := sat 24 ((s.pkg.t0 + s.reel) / 1000000)
/-- Bring-up stops without readiness (R484); POWER_CYCLE_PENDING is cleared and the warm-start marker set (Table 15.1 step 8). -/
def State.stopBoot (s : State) (reason step : Nat) : State :=
  let s := s.modPkg fun g => { g with boot := .stopped, notReady := reason, powerPending := false, powerReqs := 0, warm := true }
  (s.record 0x0F01 5 s.hubRegion reason step s.sinceT0).mramWrite
/-- At the last epoch the other Vat is held OFFLINE, and VAT_EPOCH_END is written (R320). -/
def State.epochEnd (s : State) (h : Hub) (e : Nat) : State :=
  if e = 0xFFFFFFFF then
    (s.modVat (otherHub h) fun v => { v with role := .offline, heldOffline := true, epoch := e }).record 0x0A06 4 (pkgSource 6) 0 0 0
  else s
/-- A Vat becomes ACTIVE at bring-up: it sets the epoch in both MRAM copies, and the reel counter starts at its die (R318, R66). -/
def State.becomeActive (s : State) (h : Hub) : State :=
  let e := (s.lastEpoch + 1) % 2 ^ 32
  let s := s.putEpoch e h
  let s := (s.modVat h fun v => { v with role := .active, epoch := e, gated := false }).modPkg fun g => { g with boot := .step 4 }
  let s := s.startReel (hubDie h)
  (s.modSh fun x => { x with blackout := s.now + 80000 }).takeHeldRecs.epochEnd h e
/-- A Vat that cannot be active: its self-BIST or its image has failed. -/
def State.bootOut (s : State) (h : Hub) : Bool := (s.vat h).bist == some false || (s.vat h).image == some false
/-- A Vat that can be active (R317). -/
def State.bootOk (s : State) (h : Hub) : Bool := (s.vat h).bist == some true && (s.vat h).image == some true
/-- The choice of the active Vat (R317, R342, Table 15.2): Vat A when it can be active, else Vat B; ROM minimal mode when both images have failed,
    from which a package reset of the ladder moves to a power cycle (Table 8.11, log 145); otherwise bring-up stops with no active Vat. -/
def State.chooseVat (s : State) : State :=
  if s.pkg.boot ≠ .step 2 then s
  else if s.bootOk .a then
    let s := s.becomeActive .a
    if s.bootOk .b && !s.vatB.heldOffline then s.enterSync .b else s
  else if s.bootOut .a && s.bootOk .b then s.becomeActive .b
  else if s.bootOut .a && s.bootOut .b then
    if s.vatA.image = some false && s.vatB.image = some false then
      let s := (s.modVat .a fun v => { v with role := .romMinimal, gated := false }).modVat .b fun v => { v with role := .romMinimal, gated := false }
      let s := s.takeHeldRecs.stopBoot 5 3
      match s.pkg.ladderReset with
      | some src => (s.escalate src 3 4 0 (s.leaked (pkgSource 7)).count).requestPowerCycle src
      | none => s
    else
      let s := if s.vatA.bist = some false && s.vatB.bist = some false then (s.setPin (hubSource .a 0)).setPin (hubSource .b 0) else s
      s.modPkg fun g => { g with boot := .stopped }
  else s
/-- VAT_SELF_BIST_DONE (R476): Vat A's image load follows its pass (R340). -/
def execVatSelfBistDone (hub : Hub) (logicOk memoryOk : Bool) (test : Nat) (s : State) : Host.Outcome State Fault Refusal :=
  .next (if s.pkg.boot ≠ .step 2 || (s.vat hub).bist.isSome then s
    else
      let ok := logicOk && memoryOk
      let s := s.modVat hub fun v => { v with bist := some ok, loadStart := if ok && hub == .a then some s.reel else none }
      let s := if ok then s else s.bistBlock (hubSource hub (if logicOk then 1 else 0)) 0 (hubDie hub) test
      s.chooseVat)
/-- AGENT_SELF_BIST_DONE (R476, R379, R386): a failing compute die's entries read ABSENT; a hub die's Vat is OFFLINE; an agent that passes sends the
    Felt probes; factory calibration that fails its check makes every sensor of the die failed, and ANALOG_BIST is counted. -/
def execAgentSelfBistDone (die : Nat) (ok calOk : Bool) (test : Nat) (s : State) : Host.Outcome State Fault Refusal :=
  guardId (isDie die)
    (if (s.die die).bist.isSome then s
     else
       let s := s.modDie die fun k => { k with bist := some ok, cal := { k.cal with fcalOk := calOk } }
       let s := if calOk then s
         else (s.modDie die fun k => { k with cal := k.cal.allFailed (sensorCount die) }).agentCount die (dieSource die 22) default
       if ok then s.emit (.probes die 4096) else (s.agentOut die test).chooseVat)
/-- VAT_B_LOAD_START (R340): Vat A has finished loading, or 300 ms have passed since reset. -/
def execVatBLoadStart (s : State) : Host.Outcome State Fault Refusal :=
  .next (if s.vatB.bist = some true && s.vatB.image.isNone && s.vatB.loadStart.isNone then s.modVat .b fun v => { v with loadStart := some s.reel } else s)
/-- FW_LOAD_DONE (R317, R335, R339, R340, R342, R344): the ROM has read the image from the flash, with the read errors counted and one retry.
    FW_LOADED is written; an image that fails counts ROM_MINIMAL at the hub; a Vat whose image
    loads while another is active enters SYNCING, or stays OFFLINE when its serial differs from the active Vat's. -/
def execFwLoadDone (hub : Hub) (readErrors : Nat) (s : State) : Host.Outcome State Fault Refusal :=
  .next (if (s.vat hub).loadStart.isNone || s.pkg.boot = .held then s
    else
      let s := each (List.range (min 2 readErrors)) (fun s _ => s.vatCount (hubSource hub 7) default) s
      let l := bytesAt s.pkg.flashMem 0 256
      let h := fwHeader l
      let ok := decide (readErrors < 2) && s.fwHeaderOk l && s.fwPayloadOk h
      let t := (s.vat hub).loadStart
      let s := s.modVat hub fun v => { v with loadStart := none, image := some ok, fwSerial := if ok then h.serial else v.fwSerial }
      let ms := (s.reel - t.getD s.reel) / 1000000
      let s := if ok then s.record 0x0A04 0 (hubSource hub 13) (hubNum hub * 2 ^ 16 + sat 16 ms) (h.serial % 2 ^ 24) (h.keyId % 2 ^ 24)
        else s.vatCount (hubSource hub 13) default
      if s.pkg.boot = .step 2 then s.chooseVat
      else match s.activeHub with
        | none => s
        | some v =>
          if !ok || v = hub || (s.vat hub).heldOffline then s
          else if h.serial ≠ (s.vat v).fwSerial then
            (s.modVat hub fun v => { v with image := some false }).record 0x0A05 3 (hubSource hub 13) (h.serial % 2 ^ 24) ((s.vat v).fwSerial % 2 ^ 24) 0
          else s.enterSync hub)

/-! ## Steps 4 to 6: alignment, licence, furnish, the start-up run (R66, R69, R205, R210, R223, R477) -/

/-- A licence awaiting reset comes into force when it still passes R430; otherwise LICENCE_REJECT is written (R477). -/
def State.takeLicence (s : State) : State :=
  match s.pkg.licenceNext with
  | none => s
  | some l => match s.licenceFault l with
    | none => s.modPkg fun g => { g with licence := some l, licenceNext := none }
    | some r => (s.modPkg fun g => { g with licenceNext := none }).record 0x0D01 2 s.hubRegion r (l.serial % 2 ^ 24) 1
/-- The dies and features that the life-cycle state and the licence in force enable; a licence that fails its check counts as none (Table 13.4, R431,
    R477). -/
def State.enableDies (s : State) : State :=
  s.modPkg fun g =>
    if g.lifecycle = 1 || g.lifecycle = 3 then { g with dieMask := 2 ^ 96 - 1, duplex := true, vendorDebug := true }
    else match g.licence with
      | some l => if g.lifecycle = 2 && (s.licenceFault l).isNone then
        { g with dieMask := l.dieMask, duplex := bit l.features 0, vendorDebug := bit l.features 1 } else g
      | none => g
/-- A directory write that the reset has overtaken: the previous half is active again, and FURNISH_REVERT is written (R223). -/
def State.revert (s : State) (kind : Nat) : State :=
  match (s.flashKind kind).overtaken with
  | none => s
  | some x =>
    let s := s.modFlash kind fun f => { f with overtaken := none }
    s.record 0x0609 2 s.hubRegion (kind * 2 ^ 16) (serialAt s.pkg.flashMem kind x.1 % 2 ^ 24) (serialAt s.pkg.flashMem kind (s.activeHalf kind) % 2 ^ 24)
/-- The active package of a kind is checked under Table 6.9 (R210): a base or fleet furnish that fails gives FURNISH_ABSENT with the check's reason code
    and the bound-void flag. -/
def State.checkFurnish (s : State) (kind : Nat) : State :=
  let at0 := halfAt kind (s.activeHalf kind)
  match s.packFault kind ((headerAt s.pkg.flashMem at0).payloadLen + 256) s.pkg.flashMem at0 with
  | none => s.modFlash kind fun f => { f with bad := 0 }
  | some r =>
    let s := s.modFlash kind fun f => { f with bad := r }
    if kind = 3 then s else (s.record 0x0607 2 s.hubRegion (kind * 2 ^ 16) r 0).setVoid 2
/-- The dies whose Couch agent has passed its self-BIST. -/
def State.goodDies (s : State) (n : Nat) : List Nat := (List.range n).filter fun d => (s.die d).bist == some true
/-- Step 5: reverts, checks of the active packages, and their unicast loads; distributions that waited start (R210, R223, R224, Table 15.5). -/
def State.loadFurnish (s : State) : State :=
  let s := ((s.revert 1).revert 2).revert 3
  let s := ((s.checkFurnish 1).checkFurnish 2).checkFurnish 3
  let s := if (s.activePack 1).isSome && (s.activePack 2).isSome then s.clearVoid 2 else s
  let s := each (s.goodDies 100) (fun s d => s.reloadBanks d) s
  each [1, 2, 3, 4] (fun s k => match s.dist k with | some x => if x.step = 0 then s.sendOpen x else s | none => s) s
/-- Step 6: every tap's self-check, the start-up run of every enabled die whose Beater can run, and link qualification (R128, R205, R380). -/
def State.startScreens (s : State) : State :=
  let l := (s.goodDies 96).filter fun d => s.enabled d && s.furnished d 2 && !(s.die d).furnish.ucodeRom
  let s := each l (fun s d => s.modBeater d fun b => { b with startCore := some 0 }) (s.modPkg fun g => { g with boot := .step 6, qualifying := true })
  let s := each (((s.goodDies 96).filter s.enabled).flatMap dieCores) (fun s p => s.modCore p fun c => { c with selftest := 1 }) s
  ((s.modSh fun h => { h with startupQ := l }).grantWaiting).emit .qualify
/-- The root repeats the alignment, once: every other die is to be aligned again (R69), and the attempts of each hop are counted anew (DESIGN CHOICE,
    log 124). -/
def State.repeatAlign (s : State) : State :=
  let root := s.actDie
  let s := s.modPkg fun g => { g with alignRepeated := true, alignBlocked := [] }
  let s := each (List.range 400) (fun s k => if (s.port k).tries = 0 then s else s.modPort k fun p => { p with tries := 0 }) s
  (each ((List.range 100).filter (· != root)) (fun s d => s.modDie d fun k => { k with unaligned := true }) s).alignAll root
/-- Steps 5 and 6 of bring-up after the alignment: licence, furnish and the start-up run, unless bring-up stops (R477, R484). -/
def State.afterAlign (s : State) : State :=
  let s := (s.dropCutOff.takeLicence.enableDies.modPkg fun g => { g with boot := .step 5 }).loadFurnish
  let g := s.pkg
  if g.lifecycle = 0 then s.stopBoot 1 5
  else if g.lifecycle = 4 then s.stopBoot 2 5
  else if g.oos then s.stopBoot 3 5
  else if g.dieMask = 0 then s.stopBoot 4 5
  else s.startScreens
/-- ALIGN_DONE (R66, R69, R477): every die compares its copy with its ring neighbours'. At a disagreement the root repeats the alignment once; after
    that a die that still disagrees with the majority of its neighbours is unaligned and counts REEL_ALIGN, and the root declares alignment
    complete. -/
def execAlignDone (s : State) : Host.Outcome State Fault Refusal :=
  .next (if s.pkg.boot ≠ .step 4 then s
    else if !s.pkg.alignRepeated && (List.range 100).any s.copyDiffers then s.repeatAlign
    else
      let odd := (List.range 100).filter s.copyOdd
      let s := s.feltSend s.actDie 0x85 1 0 [s.epoch]
      (each odd (fun s d => (s.modDie d fun k => { k with unaligned := true }).agentCount d (dieSource d 1) default) s).afterAlign)
/-- STARTUP_SCREEN_TIMEOUT (R481): 60 s after T0 the start-up runs that are not finished end, and their cores are placed unscreened. -/
def execStartupScreenTimeout (s : State) : Host.Outcome State Fault Refusal :=
  .next (if s.pkg.boot ≠ .step 6 then s
    else
      let l := (List.range 96).filter fun d => (s.die d).beater.startCore.isSome
      let s := each l (fun s d =>
        let s := s.modBeater d fun b => { b with startCore := none }
        if (s.die d).beater.shifting then s.modBeater d fun b => { b with stopping := true, leaseKind := 1 } else s.returnLease d) s
      let s := s.modSh fun h => { h with startupQ := [] }
      if l.isEmpty then s else s.modPkg fun g => { g with unscreened := true })

/-! ## Step 7: the deckle map (R478, R479) -/

/-- Whether MRAM marks are ignored and erased: the Factory and Return states (R479). -/
def State.freshMap (s : State) : Bool := s.pkg.lifecycle == 1 || s.pkg.lifecycle == 3
/-- Why a core is not good, as the CAUSE of its entry; none for a good core (R479). -/
def State.badCause (s : State) (p : Nat) : Option Nat :=
  match (if s.freshMap then none else tget none s.pkg.marks p) with
  | some c => some c
  | none => match tget none s.pkg.bringupBad p with
    | some c => some c
    | none => if s.pkg.factoryBad.contains p then some 0x3F else none
/-- The good cores of a cluster that carry slots, in ascending order, and its spare (R479). -/
def State.clusterPlan (s : State) (d c : Nat) : List Nat × Option Nat :=
  let good := (clusterCores d c).filter fun p => (s.badCause p).isNone
  let spare := d * 256 + c * 16 + tget 12 s.pkg.prefSpare (d * 12 + c)
  if good.length = 13 then (good.filter (· != spare), some spare) else (good, none)
/-- The physical entries of a cluster. -/
def State.clusterPhys (s : State) (d c : Nat) : List Nat :=
  let v := s.clusterPlan d c
  (clusterCores d c).map fun p =>
    match s.badCause p with
    | some k => physWord 3 false 0 k
    | none => if v.2 = some p then physWord 0 false 0 0 else physWord 1 false (s.slotLc (d * 144 + c * 12 + (v.1.takeWhile (· != p)).length)) 0
/-- The home entries of a cluster; a slot without a core is not valid. -/
def State.clusterHome (s : State) (d c : Nat) : List Nat :=
  let v := s.clusterPlan d c
  (List.range 12).map fun i =>
    let n := s.slotLc (d * 144 + c * 12 + i)
    match v.1[i]? with | some p => homeWord true n p | none => homeWord false n 0
/-- One die's slice: built from its clusters when the die is enabled and usable, all ABSENT and unplaced otherwise; its generation starts at 1. -/
def State.buildSlice (s : State) (d : Nat) : State :=
  let up := s.enabled d && (s.die d).bist == some true
  let phys := if up then (List.range 12).flatMap (s.clusterPhys d) else List.replicate 156 (physWord 4 false 0 0)
  let home := if up then (List.range 12).flatMap (s.clusterHome d) else (List.range 144).map fun i => homeWord false (s.slotLc (d * 144 + i)) 0
  let s := s.modDie d fun k => { k with phys := tput 0 [] 0 phys, home := tput 0 [] 0 home, deckleGen := 1 }
  s.modSh fun h => { h with deckleCopy := tset {} h.deckleCopy d (s.slice d) }
/-- The DEFECTIVE marks in MRAM after the map is built: in Factory and Return those of good cores are erased and every core that is not good gets
    its new cause; in Field the cores that failed bring-up get theirs (R262, R479). -/
def State.newMarks (s : State) (d : Nat) : Table (Option Nat) :=
  (dieCores d).foldl (fun t p =>
    if s.freshMap then tset none t p (s.badCause p)
    else match tget none t p, tget none s.pkg.bringupBad p with
      | none, some c => tset none t p (some c)
      | _, _ => t) s.pkg.marks

/-! ## Step 8: the declaration (R480-R484) -/

/-- Unplaced logical cores: home entries without VALID. -/
def State.unplacedCount (s : State) : Nat :=
  (List.range 96).foldl (fun a d => a + ((List.range 144).filter fun i => !bit (tget 0 (s.die d).home i) 31).length) 0
/-- The DEGRADED bitmap (Table 15.3). -/
def State.degradedMap (s : State) : Nat :=
  let up := fun d => (s.die d).bist == some true
  flag (s.vatA.role != .standby && s.vatB.role != .standby) 0 + flag ((List.range 96).any fun d => !up d) 1 + flag (!up 98 || !up 99) 2 +
  flag (s.felt.ports.any fun e => e.2.down) 3 +
  flag (s.sh.lanes.any fun e => match e.2 with | some c => laneFails c && up (c.lane / 512) | none => false) 4 +
  flag (s.unplacedCount != 0) 5 + flag ((List.range 100).any fun d => up d && (s.die d).furnish.ucodeRom) 6 +
  flag ((s.activePack 1).isNone || (s.activePack 2).isNone || bit s.pkg.voidReasons 3) 7 + flag ((List.range 100).any fun d => (s.die d).unaligned) 8 +
  flag s.pkg.unscreened 9
/-- The ready declaration (R483): VAT_READY, the ready interrupt, READY, FW_MIN_SERIAL; POWER_CYCLE_PENDING and the warm-start marker (R285, R471). -/
def State.declareReady (s : State) : State :=
  let serial := match s.activeHub with | some h => (s.vat h).fwSerial | none => 0
  let m := s.degradedMap
  let s := s.modPkg fun g => { g with boot := .ready, ready := true, readyReel := s.now, notReady := 0, ladderReset := none, degraded := m,
                                      powerPending := false, powerReqs := 0
                                      warm := true, fwMin := max g.fwMin serial }
  (((s.msi 2).record 0x0F00 0 s.hubRegion m s.unplacedCount s.sinceT0).mramWrite).mirror.clearOverdue
/-- Step 6 of bring-up has ended: no tap's self-check, no start-up run and no link qualification goes on (R481). -/
def State.testsEnded (s : State) : Bool :=
  !s.pkg.qualifying && (s.cores.all fun e => e.2.selftest != 1) && s.dies.all fun e => e.2.beater.startCore.isNone
/-- DECKLE_MAP_BUILD (R478-R483): step 6 has ended; the map is built and the package is declared ready. -/
def execDeckleMapBuild (s : State) : Host.Outcome State Fault Refusal :=
  .next (if s.pkg.boot ≠ .step 6 || s.activeHub.isNone || !s.testsEnded then s
    else
      let s := each ((List.range 96).filter fun d => s.enabled d && (s.die d).bist == some true) (fun s d =>
        s.modPkg fun g => { g with marks := s.newMarks d }) s
      (each (List.range 96) (fun s d => s.buildSlice d) s).mramWrite.declareReady)
/-- PARTITION_ASSIGNMENT (R504): a compute die is assigned to a partition, or returned to partition 0. -/
def execPartitionAssignment (die part : Nat) (s : State) : Host.Outcome State Fault Refusal :=
  guardId (isCompute die && decide (part < 32)) (s.modPkg fun g => { g with partition := tset 0 g.partition die part }).mirror

end Sys2Proof.Machine
end

