-- ==== Sys2Proof/Machine/Contexts.lean ====
section
/-! DEFINITION. Context commands: load, kill and status (R41, R273, R274, R421, R432). -/

namespace Sys2Proof.Machine

/-- A slot entry's initial state is one of EMPTY, WRITING and FILLED, and its range lies in the scratchpad (R125). -/
def slotOk (spad : Nat) (x : PlanSlot) : Bool :=
  (match x.init with | some i => decide (i < 3) | none => false) && decide (x.index < 256) && decide (x.base + x.len ≤ spad)
/-- A window that the plan opens lies in the table and in the scratchpad, with at most four writers (R277, R500). -/
def planWinOk (spad : Nat) (x : PlanWin) : Bool :=
  decide (x.index < 64) && x.base % 64 == 0 && x.len % 64 == 0 && decide (64 ≤ x.len) && decide (x.base + x.len ≤ spad) && decide (x.grants.length ≤ 4)
/-- The plan is well formed and within its limits (Table 13.5a order 5): as the format itself decides, each logical core named once and in range, slots
    and windows in range, no window in a ream area (R300), index maps of 40 bits and tensors of at most 2^40 elements (R136), and at most 64 random streams
    (R306). -/
def State.planOk (s : State) (p : Plan) : Bool :=
  p.formatOk && decide (p.lcs.map (·.lc)).Nodup && p.lcs.all (fun e => decide (e.lc < 13824) && e.slots.all (slotOk s.pkg.spad) &&
    e.wins.all (fun w => planWinOk s.pkg.spad w && !s.inReamArea (s.lcDie e.lc) w.base w.len) &&
      e.maps.all fun l => l.all fun m => decide (m.base < 2 ^ 40) && decide (m.row < 2 ^ 40) && decide (m.col < 2 ^ 40)) && decide (p.streams.length ≤ 64) &&
    p.tensors.all (fun t => decide (t.total ≤ 2 ^ 40)) && p.expected.all fun e => match e.lc with | some n => decide (n < 13824) | none => true
/-- The dies that a press group of a plan spans, by home die (R164, log 25). -/
def State.pressDies (s : State) (p : Plan) (g : Nat) : List Nat :=
  ((p.lcs.filter fun e => e.pressGroup == g).map fun e => s.homeDie e.lc).foldl (fun l d => insertNat d l) []
/-- The first refusal of Table 13.5a, as status and reason. -/
def State.loadRefusal (s : State) (c : Nat) (f : LoadFields) (pr : PlanRead) : Option (Nat × Nat) :=
  let x := s.ctx c
  let l := pr.plan.lcs.map (·.lc)
  if s.pkg.oos then some (stNotReady, 0x30)
  else if !s.pkg.ready then some (stNotReady, 0x31)
  else if x.state = 1 || x.state = 2 then some (stBusy, 0x41)
  else if x.state = 3 || (match x.freedAt with | some t => decide (s.now < t + 10000000) | none => false) then some (stBusy, 0x40)
  else if pr.sha ≠ f.planSha then some (stDenied, 0x20)
  else if !s.planOk pr.plan then some (stDenied, 0x22)
  else if pr.plan.lcs.any fun e => e.pressGroup != 0xFFFF && decide (16 < (s.pressDies pr.plan e.pressGroup).length) then some (stDenied, 0x21)
  else if l.any fun n => !s.enabled (s.homeDie n) then some (stNotReady, 0x34)
  else if l.any fun n => s.pkg.partHeld.contains (s.partOf (s.homeDie n)) then some (stNotReady, 0x32)
  else if l.any fun n => (s.carrier n).isNone then some (stNotReady, 0x33)
  else if l.any fun n => !(s.lcUsers n).isEmpty then some (stBusy, 0x42)
  else none
/-- A window entry as the plan opens it: the owner's tag, and the writers' tags granted (R277). Its generation goes on. -/
def openPlanWin (tag : Nat) (old : Win) (x : PlanWin) : Win :=
  { base := x.base, len := x.len, owner := tag, gen := old.gen, grantv := 2 ^ x.grants.length - 1, plan := true, opened := true,
    tag0 := x.grants.getD 0 0, tag1 := x.grants.getD 1 0, tag2 := x.grants.getD 2 0, tag3 := x.grants.getD 3 0 }
/-- A logical core takes its part of the plan: step count zero, slots in their initial states, windows open (R55, R125, R143, R277). -/
def State.loadLc (s : State) (tag : Nat) (e : PlanLc) : State :=
  s.modLc e.lc fun l =>
    let slots := each e.slots (fun t x => tset none t x.index (some { base := x.base, len := x.len, state := x.init.getD 0, readers := [],
                                                                      drainWait := false, owner := tag })) []
    { ({} : Lc) with lstepValid := true, tag := some tag, slots := slots, base := { slots := slots }, ringOffset := e.ringOffset,
                     wins := each e.wins (fun t x => tset {} t x.index (openPlanWin tag (tget {} t x.index) x)) l.wins,
                     xferHold := l.xferHold, heldXfers := l.heldXfers }
/-- CTX_LOAD (R432, R41, R273, R231, Table 13.6): the refusals in order; else the context is loaded with its fields clamped, its five counters at
    zero and armed, its next incarnation in force. -/
def execCtxLoad (rq : Req) (f : LoadFields) (pr : PlanRead) (s : State) : Host.Outcome State Fault Refusal :=
  .next (s.command (.ctxLoad rq f pr) rq { code := 0x0100, least := .tenant, kind := .other } [rq.ctx] true fun s =>
    let c := rq.ctx
    match s.loadRefusal c f pr with
    | some r => s.refuse rq 0x0100 r.1 r.2
    | none =>
      let poison := clampTo 0 8 0 1 f.poisonMode
      let auto := clampTo 1 8 0 1 f.autoSnap
      let hang := clampOr 2 32 100 10000000 10000 f.hangT
      let wait := clampOr 3 32 10 60000 1000 f.xwaitT
      let risk := clampOr 4 16 1000 65535 16000 f.riskT
      let least := clampOr 5 32 60 86400 600 f.snapMin
      let s := s.modCtx c fun x =>
        { ({} : Ctx) with state := 1, incarnation := (x.incarnation + 1) % 16, poisonMode := poison.1, autoSnap := auto.1, hangT := hang.1,
                          xwaitT := wait.1, riskT := risk.1, snapMin := least.1, plan := some pr.plan, planSha := f.planSha, s0 := x.s0, s1 := x.s1,
                          manifests := x.manifests, snapAt := x.snapAt, autoId := x.autoId,
                          streams := each pr.plan.streams (fun t y => tset 0 t y.id y.base) [] }
      let tag := s.tagOf c
      let s := s.modSh fun h => { h with counters := each (List.range 5) (fun t k => tset {} t (ctxSource c k) {}) h.counters }
      let s := s.modPkg fun g => { g with hostRevoked := g.hostRevoked.filter (· != tag) }
      let s := each (List.range 96) (fun s d =>
        if (s.die d).revoked.contains tag then s.modDie d fun k => { k with revoked := k.revoked.filter (· != tag) } else s) s
      let s := each pr.plan.lcs (fun s e =>
        let s := s.loadLc tag e
        match s.carrier e.lc with | some p => s.modCore p fun k => { k with lastIssue := s.now, krmWaits := 0 } | none => s) s
      s.mirror.finish rq 0x0100 stOk (poison.2 ++ auto.2 ++ hang.2 ++ wait.2 ++ risk.2 ++ least.2) [(8, (s.ctx c).incarnation)])
/-- CTX_KILL (R274, Table 8.13): the teardown starts, or the one that runs is awaited; the reply completes at its step 6. -/
def execCtxKill (rq : Req) (s : State) : Host.Outcome State Fault Refusal :=
  .next (s.command (.ctxKill rq) rq { code := 0x0102, least := .tenant, kind := .other } [rq.ctx] true fun s =>
    let c := rq.ctx
    let x := s.ctx c
    if x.state = 0 then s.finish rq 0x0102 stNotReady [] []
    else if x.state = 3 then
      if x.teardown.any fun t => decide (6 ≤ t.step) then s.finish rq 0x0102 stOk [] [] else s.beginRun rq 0x0102 c 0 []
    else (s.beginRun rq 0x0102 c 0 []).startTeardown c (if rq.priv = .tenant then 1 else 2))
/-- CTX_STATUS (R421). -/
def execCtxStatus (rq : Req) (s : State) : Host.Outcome State Fault Refusal :=
  .next (s.command (.ctxStatus rq) rq { code := 0x0103, least := .tenant, kind := .read } [rq.ctx] true fun s =>
    let x := s.ctx rq.ctx
    s.finish rq 0x0103 stOk [] [(8, x.state), (8, x.incarnation), (32, x.iter), (16, x.risk), (32, (x.manifests.head?.map (·.id)).getD 0)])

end Sys2Proof.Machine
end

