-- ==== Sys2Proof/Machine/Faults.lean ====
section
/-! DEFINITION. Fault counters, class configuration, reactions, FAULT_N, interrupts and the sources that parts of a die report (R24, R25, R228-R250). -/

namespace Sys2Proof.Machine

/-! ## Commands on counters (R238, R239, R242) -/

/-- The reason for refusing a source to a requester's privilege (R239, R427): 4 privilege, 5 a context outside its range. -/
def State.sourceDeny (s : State) (rq : Req) (src : Nat) : Option Nat :=
  if rq.priv ≠ .tenant then none
  else match sourceCtx src with
    | none => some 4
    | some c => if s.inRange rq c then none else some 5
/-- The first refusal over a run of sources. -/
def State.sourcesDeny (s : State) (rq : Req) (first n : Nat) : Option Nat := ((List.range n).filterMap fun i => s.sourceDeny rq (first + i)).head?
/-- FAULT_READ (R234, R239): the leak step is applied first. -/
def execFaultRead (rq : Req) (first count : Nat) (s : State) : Host.Outcome State Fault Refusal :=
  .next (s.command (.faultRead rq first count) rq { code := 0x0200, least := .tenant, kind := .read, rom := true } [] (decide (first < 1048576)) fun s =>
    let c := clampTo 1 8 1 32 count
    match s.sourcesDeny rq first c.1 with
    | some r => s.refuse rq 0x0200 stDenied r
    | none =>
      let l := (List.range c.1).map (first + ·)
      let s := s.modSh fun h => { h with counters := each l (fun t k => tset {} t k (s.leaked k)) h.counters }
      s.finish rq 0x0200 stOk c.2 (l.flatMap fun k =>
        let x := s.counter k
        [(32, k), (16, x.count), (8, x.cross), (8, b2n x.armed + 2 * b2n (s.sh.pins.contains k)), (32, x.total)]))
/-- The reactions that a class may take (R236). -/
def allowedReactions (key : Nat) : Nat := if blkAllowed key then 31 else 27
/-- FAULT_CFG (R238). -/
def execFaultCfg (rq : Req) (template each thresh n w record : Nat) (s : State) : Host.Outcome State Fault Refusal :=
  .next (s.command (.faultCfg rq template each thresh n w record) rq { code := 0x0201, least := .operator,
                                                                       kind := .other } [] (decide (template < 1048576)) fun s =>
    match cfgClassOf template with
    | none => s.finish rq 0x0201 stDenied [] []
    | some key =>
      let d := classDefault key
      let e := (each &&& allowedReactions key) ||| (if key = 216 then 1 else 0)
      let t := thresh &&& allowedReactions key
      let cn := clampOr 3 16 1 4095 d.n n
      let cw := clampOr 4 32 1 3600000000 d.w w
      let cr := clampTo 5 8 0 1 record
      let ce : List Clamp := if e = each then [] else [{ field := 1, width := 8, asked := each, used := e }]
      let ct : List Clamp := if t = thresh then [] else [{ field := 2, width := 8, asked := thresh, used := t }]
      let cfg : ClassCfg := { each := e, thresh := t, n := cn.1, w := cw.1, record := cr.1 == 1 }
      let s := (s.modSh fun h => { h with classCfg := tset none h.classCfg key (if cfg = d then none else some cfg) }).mirror.mramWrite
      let map := b2n (!ce.isEmpty) + 2 * b2n (!ct.isEmpty) + 4 * b2n (!cn.2.isEmpty) + 8 * b2n (!cw.2.isEmpty) + 16 * b2n (!cr.2.isEmpty)
      (s.record 0x0708 0 template map cn.1 0).finish rq 0x0201 stOk (ce ++ ct ++ cn.2 ++ cw.2 ++ cr.2) [])
/-- FAULT_ZERO (R239). -/
def execFaultZero (rq : Req) (first count : Nat) (s : State) : Host.Outcome State Fault Refusal :=
  .next (s.command (.faultZero rq first count) rq { code := 0x0202, least := .tenant, kind := .other } [] (decide (first < 1048576)) fun s =>
    let c := clampTo 1 16 1 8192 count
    match s.sourcesDeny rq first c.1 with
    | some r => s.refuse rq 0x0202 stDenied r
    | none =>
      let s := (s.modSh fun h =>
        { h with counters := h.counters.filter fun e => decide (e.1 < first) || decide (first + c.1 ≤ e.1) }).mirror
      (s.record 0x0707 0 first c.1 (privCode rq.priv) 0).finish rq 0x0202 stOk c.2 [])
/-- The condition of a PIN latch is still present (R242): a crossed thermal limit, a voltage outside its limits, a lost reference or lock,
    out of service. -/
def State.pinCondition (s : State) (src : Nat) : Bool :=
  let d := sourceDie src
  match classOf src with
  | some 66 => (s.die d).reelOn && !(s.die d).reelLock
  | some 81 => (List.range 4).any fun m => (tget {} (s.die d).cal.vmons m).out
  | some 84 => (List.range (sensorCount d)).any fun n => (s.sensor d n).beyond
  | some 208 => (List.range 100).all fun d => (s.die d).reelOn && !(s.die d).reelLock
  | some 216 => s.pkg.oos
  | _ => false
/-- FAULT_CLEAR (R240, R242): FAULT_N goes high-impedance when the last latch clears. -/
def execFaultClear (rq : Req) (source : Nat) (s : State) : Host.Outcome State Fault Refusal :=
  .next (s.command (.faultClear rq source) rq { code := 0x0203, least := .operator, kind := .other } [] (decide (source < 1048576)) fun s =>
    if !s.sh.pins.contains source then s.finish rq 0x0203 stOk [] []
    else if s.pinCondition source then s.finish rq 0x0203 stBusy [] []
    else
      let s := (s.modSh fun h => { h with pins := h.pins.filter (· != source) }).mirror.mramWrite
      (s.record 0x0703 0 source (privCode rq.priv) 0 0).finish rq 0x0203 stOk [] [])
/-- FAULT_PENDING (R235, R421): up to 120 sources leave the pending list, oldest first. -/
def execFaultPending (rq : Req) (s : State) : Host.Outcome State Fault Refusal :=
  .next (s.command (.faultPending rq) rq { code := 0x0204, least := .operator, kind := .read, rom := true } [] true fun s =>
    let l := s.sh.pendingList.take 120
    let s := (s.modSh fun h => { h with pendingList := h.pendingList.drop 120 }).mirror
    s.finish rq 0x0204 stOk [] ((16, s.sh.pendingList.length) :: l.map fun k => (32, k)))

/-! ## From the first stage to the counter store (R25, R233) -/

/-- FIRST_STAGE_FORWARD (R25): the agent forwards its counts to the active Vat over FC0; with none they wait. -/
def execFirstStageForward (die : Nat) (s : State) : Host.Outcome State Fault Refusal :=
  guardId (isDie die) (s.forwardFirst die)
/-- A batch at the Vat: its increments at the reel count of the first, and FIRST_STAGE_SAT for its flag (R233). -/
def State.applyBatch (s : State) (die : Nat) (b : CountBatch) : State :=
  let s := s.applyCount b.source b.reel ((b.details ++ List.replicate b.count default).take b.count)
  if b.sat then s.vatCount (dieSource die 8) default else s
/-- COUNT_FWD (R233-R237, R249). -/
def execCountFwd (h : Hdr) (batches : List CountBatch) (s : State) : Host.Outcome State Fault Refusal :=
  guardId (isDie h.src && batches.all fun b => decide (b.source < 1048576) && decide (b.count ≤ 255))
    (s.recvVat (.countFwd h batches) h 0x09 fun s => each batches (fun s b => s.applyBatch h.src b) s)

/-! ## Reactions (R235-R237) -/

/-- REACT (R235, R236): the agent takes NMI, PIN and BLK of the source on the active Vat's command. -/
def execReact (h : Hdr) (die : Nat) (r : Reaction) (s : State) : Host.Outcome State Fault Refusal :=
  guardId (isDie die && decide (r.source < 1048576))
    (s.recvCmd die h 0x0A fun s => s.agentReact die r.source (8 * b2n r.nmi + 4 * b2n r.blk + b2n r.pin))
/-- NMI (R235): a non-maskable trap to the die's control cores, with the source. -/
def execNmi (h : Hdr) (die source : Nat) (s : State) : Host.Outcome State Fault Refusal :=
  guardId (isDie die)
    (if (s.die die).inReset then s.ack die h.src 0x0E h.seq 2 else s.recv die h 0x0E fun s => s.emit (.trap die source))
/-- INT_POST_TICK (R235): one interrupt covers every source added since the last, at most one per 10 us. -/
def execIntPostTick (s : State) : Host.Outcome State Fault Refusal :=
  let due := match s.sh.intAt with | some t => decide (t + 10000 ≤ s.reel) | none => true
  if s.sh.intNew && s.acting.isSome && due then
    .next ((s.modSh fun h => { h with intNew := false, intAt := some s.reel }).msi 0)
  else .next s
/-- The hub that posts interrupts: the acting Vat's, in a gap the old active Vat's. -/
def State.postingHub (s : State) : Hub :=
  match s.acting, s.sh.gap with
  | some v, _ => v
  | none, some g => otherHub g.newActive
  | none, none => .a
/-- MSI_ACCEPT_TIMEOUT (R45): the oldest interrupt not accepted is given up: the event is counted at INT_NOT_ACCEPTED and recorded, and the interrupt
    is not retried (log 98). In a gap the count and the record wait for the new Vat (Table 1.2). -/
def execMsiAcceptTimeout (s : State) : Host.Outcome State Fault Refusal :=
  match s.sh.msiWait with
  | _ :: l => .next ((s.modSh fun h => { h with msiWait := l }).vatCountRecorded (hubSource s.postingHub 10) default)
  | [] => .next s
/-- MESSAGE_INTERRUPT_ACCEPTED (R45, Table 16.1 READY_POSTED): of the interrupts not yet accepted, the oldest (log 98). -/
def execMessageInterruptAccepted (s : State) : Host.Outcome State Fault Refusal :=
  match s.sh.msiWait with
  | [] => .next s
  | w :: l =>
    let s := s.modSh fun h => { h with msiWait := l }
    .next (if w.1 = 2 then (s.modSh fun h => { h with readyPosted := true }).mirror else s)

/-! ## Sources that a die's parts report (Tables 7.2 to 7.4, R245) -/

/-- D2D_CODEWORD_ERROR (R245): the words of an uncorrectable codeword are poisoned. -/
def execD2dCodewordError (die link : Nat) (corrected : Bool) (s : State) : Host.Outcome State Fault Refusal :=
  guardId (isDie die)
    (let s := s.agentCount die (dieSource die (if corrected then 13 else 14)) { ctx := 0, p2 := link, p3 := 0 }
     if corrected then s else s.emit (.poisonPart die 0 link))
/-- ROUTER_BUFFER_ECC (R245): in the die router, or in a cluster's. -/
def execRouterBufferEcc (die : Nat) (cluster : Option Nat) (corrected : Bool) (s : State) : Host.Outcome State Fault Refusal :=
  guardId (isDie die && (match cluster with | some c => isCompute die && decide (c < 12) | none => true))
    (let src := match cluster with
       | some c => clusterSource die c (if corrected then 3 else 4)
       | none => dieSource die (if corrected then 15 else 16)
     let s := s.agentCount die src default
     if corrected then s else s.emit (.poisonPart die 1 (cluster.getD 12)))
/-- CLUSTER_BUFFER_ECC (R245). -/
def execClusterBufferEcc (die cluster : Nat) (corrected : Bool) (s : State) : Host.Outcome State Fault Refusal :=
  guardId (isCompute die && decide (cluster < 12))
    (let s := s.agentCount die (clusterSource die cluster (if corrected then 0 else 1)) default
     if corrected then s else s.emit (.poisonPart die 2 cluster))
/-- UNCORR_CW (R245): an uncorrectable codeword on an optical lane. -/
def execUncorrCw (die engine lane : Nat) (s : State) : Host.Outcome State Fault Refusal :=
  guardId ((die == 98 || die == 99) && decide (engine < 16))
    ((s.agentCount die (engineSource die engine 1) { ctx := 0, p2 := die * 512 + engine * 32 + lane % 32, p3 := 0 }).emit
      (.poisonPart die 3 (engine * 32 + lane % 32)))
/-- AGENT_INTERNAL (R236, Table 7.3). -/
def execAgentInternal (die : Nat) (s : State) : Host.Outcome State Fault Refusal :=
  guardId (isDie die) (if (s.die die).inReset then s else s.agentCount die (dieSource die 7) default)
/-- COUNTER_PARITY (R230, Table 7.2): the counter's valid bit is cleared: the screen counter's, or the step counter's. -/
def execCounterParity (core : Nat) (screen : Bool) (s : State) : Host.Outcome State Fault Refusal :=
  guardId (validCore core)
    ((s.modCore core fun c => if screen then { c with screenValid := false } else { c with pstepValid := false }).agentCount (coreDie core)
      (coreSource core 33) (s.coreDetail core))

end Sys2Proof.Machine
end

