-- ==== Sys2Proof/Machine/Notify.lean ====
section
/-! DEFINITION. The two notification paths: resuming, relaying, reading (R50, R250). -/

namespace Sys2Proof.Machine

/-- A path resumes after drops: one NOTIFY_LOST record for it, counted at NOTIFY_LOST (R250). `path` is 0 management network, 1 I3C. -/
def State.resumePath (s : State) (path : Nat) : State :=
  let l := if path = 0 then s.sh.mgmtLost else s.sh.i3cLost
  if l.1 = 0 then s
  else
    let s := s.modSh fun h => if path = 0 then { h with mgmtLost := (0, 0) } else { h with i3cLost := (0, 0) }
    (s.record 0x0706 2 (pkgSource 10) (sat 24 l.1) (l.2 % 2 ^ 24) path).vatCount (pkgSource 10) default
/-- The management path's queue leaves by a port that has a link: the acting Vat's own, else the other hub's by relay (R250). -/
def State.flushMgmt (s : State) : State :=
  match s.acting with
  | none => s
  | some v =>
    if (s.vat v).linkUp then
      let q := s.sh.mgmtQ
      each q (fun s n => s.emit (.notify (hubNum v) n.number n.held n.entry)) (s.modSh fun h => { h with mgmtQ := [] })
    else if (s.vat (otherHub v)).linkUp then
      each s.sh.mgmtQ (fun s n => s.feltSend (hubDie v) 0x90 0 (hubDie (otherHub v)) [s.epoch, n.number]) s
    else s
/-- MGMT_LINK_UP (R250, R374): the port's queues leave. -/
def execMgmtLinkUp (hub : Hub) (s : State) : Host.Outcome State Fault Refusal :=
  let q := (s.vat hub).outQ
  let s := each q (fun s m => s.emit (.vendor 4 m)) (s.modVat hub fun v => { v with linkUp := true, outQ := [] })
  .next (s.flushMgmt.resumePath 0)
/-- MGMT_LINK_DOWN (R250), counted at the hub's source. -/
def execMgmtLinkDown (hub : Hub) (s : State) : Host.Outcome State Fault Refusal :=
  .next ((s.modVat hub fun v => { v with linkUp := false }).vatCount (hubSource hub 11) default)
/-- NOTIFY_SOURCE_SECOND_END (R250): the latest held record leaves with the number held. -/
def execNotifySourceSecondEnd (source : Nat) (s : State) : Host.Outcome State Fault Refusal :=
  match tget none s.sh.pacing source with
  | none => .next s
  | some p =>
    match p.latest with
    | none => .next (s.modSh fun h => { h with pacing := tset none h.pacing source none })
    | some r =>
      .next ((s.modSh fun h => { h with pacing := tset none h.pacing source (some { since := s.reel, held := 0, latest := none }) }).sendNote r p.held)
/-- I3C_NOTIFY_READ (R250): the tray controller reads its oldest notification, once the hub has a dynamic address. -/
def execI3cNotifyRead (s : State) : Host.Outcome State Fault Refusal :=
  match s.acting with
  | none => .next s
  | some v =>
    if (s.vat v).i3cAddr.isNone then .next s
    else
      let s := match s.sh.i3cQ with
        | [] => s
        | n :: q => (s.modSh fun h => { h with i3cQ := q }).emit (.notify 2 n.number n.held n.entry)
      .next (s.resumePath 1)
/-- NOTIFY_RELAY (R250): the other hub sends the notification on its port. -/
def execNotifyRelay (h : Hdr) (number : Nat) (s : State) : Host.Outcome State Fault Refusal :=
  match s.acting with
  | none => .next s
  | some v =>
    let o := otherHub v
    .next (s.recvCmd (hubDie o) h 0x90 fun s =>
      if (s.vat o).linkUp then
        match s.sh.mgmtQ.find? fun n => n.number == number with
        | some n => (s.modSh fun x => { x with mgmtQ := x.mgmtQ.filter fun m => m.number != number }).emit (.notify (hubNum o) n.number n.held n.entry)
        | none => s
      else s)

end Sys2Proof.Machine
end

