-- ==== Sys2Proof/Machine/Mctp.lean ====
section
/-! DEFINITION. The management endpoints: MCTP control, PLDM, the I3C target, and packets of an unknown opcode (R376-R378, R408, R419). Command
numbers and completion codes are those of DMTF DSP0236 and the PLDM specifications, which R376 and R377 name (log 19). -/

namespace Sys2Proof.Machine

/-- An endpoint answers while its die is powered (R49, R376). -/
def State.mctpReply (s : State) (hub : Hub) (i3c : Bool) (command : Nat) (data : List Nat) : State :=
  if s.pkg.powered then s.emit (.mctp hub i3c command 0 data) else s
/-- As `mctpReply`, for PLDM under message type 1 (R377); silent where bring-up has stopped with no active Vat (Table 15.2). -/
def State.pldmReply (s : State) (hub : Hub) (type command code : Nat) (data : List Nat) : State :=
  if s.pkg.powered && (s.pkg.boot != .stopped || s.acting.isSome) then s.emit (.pldm hub type command code data) else s
/-- The EID of an endpoint; the null EID until one is assigned (R376). -/
def State.eidOf (s : State) (hub : Hub) (i3c : Bool) : Nat := (if i3c then (s.vat hub).i3cEid else (s.vat hub).eid).getD 0

/-- SET_ENDPOINT_ID (R376): the EID, and the EID that set it, to which notifications go. -/
def execSetEndpointId (hub : Hub) (i3c : Bool) (eid setter : Nat) (s : State) : Host.Outcome State Fault Refusal :=
  .next (if s.pkg.powered then
      (s.modVat hub fun v =>
        if i3c then { v with i3cEid := some (eid % 256), i3cSetter := some (setter % 256) }
        else { v with eid := some (eid % 256), setter := some (setter % 256) }).mctpReply hub i3c 0x01 (eid % 256 :: Config.mctpReply 0x01)
    else s)
/-- GET_ENDPOINT_ID (R376). -/
def execGetEndpointId (hub : Hub) (i3c : Bool) (s : State) : Host.Outcome State Fault Refusal :=
  .next (s.mctpReply hub i3c 0x02 (s.eidOf hub i3c :: Config.mctpReply 0x02))
/-- GET_MCTP_VERSION_SUPPORT (R376). -/
def execGetMctpVersionSupport (hub : Hub) (i3c : Bool) (msgType : Nat) (s : State) : Host.Outcome State Fault Refusal :=
  .next (s.mctpReply hub i3c 0x04 (Config.mctpReply (0x04 * 256 + msgType)))
/-- GET_MESSAGE_TYPE_SUPPORT (R376, R377): PLDM and vendor-defined messages. -/
def execGetMessageTypeSupport (hub : Hub) (i3c : Bool) (s : State) : Host.Outcome State Fault Refusal :=
  .next (s.mctpReply hub i3c 0x05 [2, 0x01, 0x7F])
/-- GET_VENDOR_DEFINED_MESSAGE_SUPPORT (R376): Skewald's IANA enterprise number. -/
def execGetVendorDefinedMessageSupport (hub : Hub) (i3c : Bool) (s : State) : Host.Outcome State Fault Refusal :=
  .next (s.mctpReply hub i3c 0x06 (Config.enterpriseNumber :: Config.mctpReply 0x06))
/-- GET_TID (R377). -/
def execGetTid (hub : Hub) (s : State) : Host.Outcome State Fault Refusal := .next (s.pldmReply hub 0 0x02 0 (Config.pldmReply 0 0x02))
/-- GET_PLDM_VERSION (R377). -/
def execGetPldmVersion (hub : Hub) (pldmType : Nat) (s : State) : Host.Outcome State Fault Refusal :=
  .next (s.pldmReply hub 0 0x03 0 (Config.pldmReply pldmType 0x03))
/-- GET_PLDM_TYPES (R377): types 0 and 2. -/
def execGetPldmTypes (hub : Hub) (s : State) : Host.Outcome State Fault Refusal := .next (s.pldmReply hub 0 0x04 0 [0, 2])
/-- GET_PLDM_COMMANDS (R377): the commands of a type. -/
def execGetPldmCommands (hub : Hub) (pldmType : Nat) (s : State) : Host.Outcome State Fault Refusal :=
  .next (s.pldmReply hub 0 0x05 0 (if pldmType = 0 then [0x02, 0x03, 0x04, 0x05] else if pldmType = 2 then [0x11, 0x21, 0x50, 0x51] else []))
/-- GET_PDR_REPOSITORY_INFO (R377). -/
def execGetPdrRepositoryInfo (hub : Hub) (s : State) : Host.Outcome State Fault Refusal :=
  .next (s.pldmReply hub 2 0x50 0 (Config.pldmReply 2 0x50))
/-- GET_PDR (R377): the sensor that a record describes. -/
def execGetPdr (hub : Hub) (record : Nat) (s : State) : Host.Outcome State Fault Refusal :=
  .next (s.pldmReply hub 2 0x51 0 (record :: Config.pldmReply 2 0x51))
/-- GET_SENSOR_READING (R49, R377): a temperature sensor by die * 16 + sensor, in 1/8 C as 16-bit two's complement (log 19). -/
def execGetSensorReading (hub : Hub) (sensor : Nat) (s : State) : Host.Outcome State Fault Refusal :=
  .next (s.pldmReply hub 2 0x11 0 [twos 16 (tget {} (s.die (sensor / 16)).cal.temps (sensor % 16)).temp])
/-- GET_STATE_SENSOR_READINGS (R49, R377). -/
def execGetStateSensorReadings (hub : Hub) (sensor : Nat) (s : State) : Host.Outcome State Fault Refusal :=
  .next (s.pldmReply hub 2 0x21 0 (sensor :: Config.pldmReply 2 0x21))
/-- UNSUPPORTED_PLDM_COMMAND (R377): ERROR_UNSUPPORTED_PLDM_CMD. -/
def execUnsupportedPldmCommand (hub : Hub) (pldmType command : Nat) (s : State) : Host.Outcome State Fault Refusal :=
  .next (s.pldmReply hub pldmType command 0x05 [])
/-- ENTDAA (R378): the dynamic address. The path of the tray controller resumes when it reads its queue again (R250). -/
def execEntdaa (hub : Hub) (addr : Nat) (s : State) : Host.Outcome State Fault Refusal :=
  .next (s.modVat hub fun v => { v with i3cAddr := some (addr % 128) })
/-- The request that a packet of an unknown opcode stands for. -/
def badRequest (path : Path) (tag crc : Nat) (lenOk : Bool) : Req :=
  { path := path, tag := tag, priv := .none, ctx := 0, session := 0, token := 0, lenOk := lenOk, crc := crc, reservedZero := true, sigR := 0, sigS := 0 }
/-- BADOP_COMMAND_PACKET (R49, R408, R419 steps 1 and 2): ST_BADLEN, then ST_BADOP for an opcode that no table lists. -/
def execBadopCommandPacket (path : Path) (opcode tag crc : Nat) (lenOk : Bool) (s : State) : Host.Outcome State Fault Refusal :=
  let rq := badRequest path tag crc lenOk
  match (if s.sh.gap.isSome && pathHub path != none then none else s.acting) with
  | none => .next (s.hold (.badopCommandPacket path opcode tag crc lenOk) rq opcode)
  | some v =>
    .next (if opcodes.contains opcode then s
      else if (match pathHub path with | some h => decide (h ≠ v) | none => false) then s.finish rq opcode stNotReady [] []
      else match s.duplicate rq opcode with
        | some t => t
        | none => s.finish rq opcode (if lenOk then stBadOp else stBadLen) [] [])

end Sys2Proof.Machine
end

