-- ==== Sys2Proof/Machine/Sessions.lean ====
section
/-! DEFINITION. IDENT, sessions and VAT_HEALTH (R421-R426, R337). -/

namespace Sys2Proof.Machine

/-- IDENT (R421). -/
def execIdent (rq : Req) (s : State) : Host.Outcome State Fault Refusal :=
  .next (s.command (.ident rq) rq { code := 0x0001, least := .none, kind := .base, rom := true } [] true fun s =>
    let v := match s.acting with | some h => s.vat h | none => {}
    s.finish rq 0x0001 stOk [] [(128, s.pkg.uid), (16, Config.siliconStep), (8, s.pkg.lifecycle), (8, roleCode v.role), (32, v.fwSerial),
      (96, match s.pkg.licence with | some l => l.dieMask | none => 0), (8, match s.pkg.licence with | some l => l.features | none => 0),
      (32, s.pkg.spad)])

/-- The sessions that are open. -/
def State.openSessions (s : State) : Nat := (s.sh.sessions.filter fun e => e.2.isSome).length
/-- The first unused session number from a candidate on; 0 is no session (R412). -/
def State.freeSession (s : State) : Nat → Nat → Nat
  | 0, n => n
  | k + 1, n => if n = 0 || (s.session n).isSome then s.freeSession k ((n + 1) % 65536) else n
/-- Sets or closes a session, a mirrored change (R426). -/
def State.putSession (s : State) (n : Nat) (x : Option Session) : State :=
  (s.modSh fun h => { h with sessions := tset none h.sessions n x }).mirror
/-- The privilege that a PRIV code names (Table 13.1). -/
def privOf (n : Nat) : Priv := if n = 0 then .vendor else if n = 1 then .operator else if n = 2 then .tenant else .none
/-- AUTH_OPEN (R422, R423, R426, Table 13.4): the session number and the nonce are free values. -/
def execAuthOpen (rq : Req) (priv keyId : Nat) (s : State) : Host.Outcome State Fault Refusal :=
  .next (s.command (.authOpen rq priv keyId) rq { code := 0x0002, least := .none, kind := .base, rom := true } [] (decide (priv ≤ 2)) fun s =>
    let lc := s.pkg.lifecycle
    if priv = 2 && pathHub rq.path != none then s.refuse rq 0x0002 stDenied 2
    else if (lc = 0 && priv ≠ 0) || ((lc = 1 || lc = 3) && priv = 2) then s.refuse rq 0x0002 stDenied 6
    else if 32 ≤ s.openSessions then s.finish rq 0x0002 stBusy [] []
    else
      let d := s.draw
      let n := d.2.freeSession 33 (1 + Config.sessionPick d.1 % 65535)
      let nonce := Config.nonce d.1 % 2 ^ 384
      let s := d.2.putSession n (some { priv := privOf priv, keyId := keyId, path := rq.path, nonce := nonce, token := none, opened := s.reel,
                                         last := s.reel, signed := 0 })
      s.finish rq 0x0002 stOk [] [(16, n), (384, nonce)])
/-- The bytes that AUTH_PROVE's signature covers: nonce, package UID, session number, PRIV and KEY_ID (R422). -/
def State.proofBytes (s : State) (n : Nat) (x : Session) : List Nat :=
  numBytes 48 x.nonce ++ numBytes 16 s.pkg.uid ++ numBytes 2 n ++ numBytes 1 (privRank x.priv) ++ numBytes 4 x.keyId
/-- A failed proof: ST_DENIED, counted at AUTH_FAIL (log 15). -/
def State.authFail (s : State) (rq : Req) (reason : Nat) : State :=
  let s := match s.acting with | some h => s.vatCount (hubSource h 6) default | none => s
  s.refuse rq 0x0003 stDenied reason
/-- AUTH_PROVE (R422): within 10 s, on the session's path, with a signature by the key named; the token is a free value. -/
def execAuthProve (rq : Req) (session : Nat) (s : State) : Host.Outcome State Fault Refusal :=
  .next (s.command (.authProve rq session) rq { code := 0x0003, least := .none, kind := .base, rom := true } [] true fun s =>
    match s.session session with
    | none => s.authFail rq 1
    | some x =>
      if x.token.isSome || decide (10000000000 < s.reel - x.opened) then s.authFail rq 1
      else if !samePath x.path rq.path then s.authFail rq 2
      else if !s.verifies x.priv x.keyId (s.proofBytes session x) rq.sigR rq.sigS then s.authFail rq 3
      else
        let d := s.draw
        let t := Config.token d.1 % 2 ^ 48
        (d.2.putSession session (some { x with token := some t, last := s.reel })).finish rq 0x0003 stOk [] [(48, t)])
/-- AUTH_PROVE_WINDOW_EXPIRY (R422): 10 s have passed without a proof; the number is free again. -/
def execAuthProveWindowExpiry (session : Nat) (s : State) : Host.Outcome State Fault Refusal :=
  match s.session session with
  | some x => .next (if x.token.isNone then s.putSession session none else s)
  | none => .next s
/-- AUTH_CLOSE (R426). -/
def execAuthClose (rq : Req) (s : State) : Host.Outcome State Fault Refusal :=
  .next (s.command (.authClose rq) rq { code := 0x0004, least := .tenant, kind := .base, rom := true } [] true fun s =>
    (s.putSession rq.session none).finish rq 0x0004 stOk [] [])
/-- SESSION_EXPIRY (R426): 1 h of reel time without a command. -/
def execSessionExpiry (session : Nat) (s : State) : Host.Outcome State Fault Refusal :=
  match s.session session with
  | some _ => .next (s.putSession session none)
  | none => .next s
/-- The health report of a Vat (R337): role, failed items, reel count of the last cycle, mirror sequence number applied, SERIAL. -/
def State.health (s : State) (h : Hub) : Health :=
  let v := s.vat h
  { role := roleCode v.role, failed := v.lastFailed, cycleReel := v.cycleReel.getD 0,
    mirrorSeq := if v.role = .active then s.sh.mirrorSeq else v.mirrorApplied, serial := v.fwSerial }
/-- The fields of a health report in a reply (widths: log 14). -/
def healthData (r : Health) : List (Nat × Nat) := [(8, r.role), (8, r.failed), (64, r.cycleReel), (32, r.mirrorSeq), (32, r.serial)]
/-- The recorder's status of a Vat's hub (R467): next sequence number, head slots used, staged count, STAGE_OVERFLOW TOTAL, HEAD_FULL. -/
def State.recStatus (s : State) (h : Hub) : List (Nat × Nat) :=
  [(32, s.sh.recSeq), (16, (s.vat h).head.length), (16, (s.vat h).staging.length), (32, (s.counter (pkgSource 9)).total), (8, b2n s.sh.headFull)]
/-- VAT_HEALTH (R337, R421, R467): the reports of Vat A and Vat B, then the recorder's status of each (log 14). -/
def execVatHealth (rq : Req) (s : State) : Host.Outcome State Fault Refusal :=
  .next (s.command (.vatHealth rq) rq { code := 0x0005, least := .none, kind := .base, rom := true } [] true fun s =>
    s.finish rq 0x0005 stOk [] (healthData (s.health .a) ++ healthData (s.health .b) ++ s.recStatus .a ++ s.recStatus .b))

end Sys2Proof.Machine
end

