-- ==== Sys2Proof/Machine/Reams.lean ====
section
/-! DEFINITION. Manifests (R305), the code shards of reams and their words in the ream areas (R296, R297, R299), and the state digest (R304). -/

namespace Sys2Proof.Machine

/-! ## Manifests (R305) -/

/-- A manifest header's 128 bytes as fields (Table 9.6). -/
def manifestHeader (m : Manifest) : List (Nat × Nat) :=
  [(32, 0x54534E4D), (32, m.id), (16, m.tag), (16, b2n m.valid + b2n m.package * 2 + b2n m.replicaPending * 4), (32, m.iter), (32, m.point),
   (32, m.reams.length), (32, m.streams.length), (32, m.steps.length), (64, m.dcursor), (64, m.d0), (64, m.d1), (64, m.count % 2 ^ 48), (384, m.planSha),
   (128, 0)]
/-- A ream's entry: n, then each shard's holder, die, index, offset, length and digest (R305). -/
def reamFields (r : Ream) : List (Nat × Nat) :=
  (32, r.n) :: r.shards.flatMap fun x => [(32, x.holder), (8, x.die), (8, x.index), (16, 0), (32, x.offset), (32, x.length), (64, x.digest)]
/-- A group table's image: ID, epoch, rank count, own rank, the fabric address of each rank (R308); the widths of count and rank are log 115. -/
def groupFields (g : GroupTable) : List (Nat × Nat) := [(16, g.id), (32, g.epoch), (16, g.ranks), (16, g.rank)] ++ g.addrs.map fun a => (32, a)
/-- A manifest's sections after its header: step counts, streams, the group table's image and its reams (R305). -/
def manifestFields (m : Manifest) : List (Nat × Nat) :=
  manifestHeader m ++ m.steps.map (fun e => (64, e.2)) ++ m.streams.flatMap (fun e => [(32, e.1), (32, 0), (64, e.2)]) ++ groupFields m.group ++
    m.reams.flatMap reamFields
/-- The CRC-32C over everything before it that ends a manifest (R305). -/
def manifestCrc (m : Manifest) : Nat :=
  let l := manifestFields m
  crc32c (numBytes (fieldBits l / 8) (packFields l))
/-- A manifest's bytes as 32-bit words, its CRC-32C last (R305). -/
def manifestWords (m : Manifest) : List Nat :=
  let l := manifestFields m ++ [(32, manifestCrc m)]
  (List.range (ceilDiv (fieldBits l) 32)).map fun i => bits (packFields l) (32 * i) 32

/-! ## Code shards of a ream (R296, R297) -/

/-- Multiplication of a field element by the generator (R296). -/
def gfDouble (a : Nat) : Nat := (2 * a % 256) ^^^ (if bit a 7 then 0x1D else 0)
/-- Multiplication in GF(2^8), by the low `n` bits of the first factor (R296). -/
def gfMulN : Nat → Nat → Nat → Nat
  | 0, _, _ => 0
  | n + 1, a, b => (if a % 2 = 1 then b else 0) ^^^ gfMulN n (a / 2) (gfDouble b)
/-- Multiplication in GF(2^8) (R296). -/
def gfMul (a b : Nat) : Nat := gfMulN 8 a b
/-- A power of the generator (R296). -/
def gfPow : Nat → Nat
  | 0 => 1
  | n + 1 => gfDouble (gfPow n)
/-- The field inverse, a ^ 254 (R297). -/
def gfInv (a : Nat) : Nat :=
  let a2 := gfMul a a
  let a4 := gfMul a2 a2
  let a8 := gfMul a4 a4
  let a16 := gfMul a8 a8
  let a32 := gfMul a16 a16
  let a64 := gfMul a32 a32
  let a128 := gfMul a64 a64
  gfMul a2 (gfMul a4 (gfMul a8 (gfMul a16 (gfMul a32 (gfMul a64 a128)))))
/-- P at one byte offset (R296). -/
def shardP (l : List Nat) : Nat := l.foldl (· ^^^ ·) 0
/-- Q at one byte offset (R296). -/
def shardQ (l : List Nat) : Nat := l.zipIdx.foldl (fun a e => a ^^^ gfMul (gfPow e.2) e.1) 0
/-- The data bytes of a ream with some erased (none), from P and Q where they survive (Table 9.3); none when more than two shards are lost. -/
def rebuild (l : List (Option Nat)) (p q : Option Nat) : Option (List Nat) :=
  let known := l.map (·.getD 0)
  match (l.zipIdx.filter fun e => e.1.isNone).map (·.2), p, q with
  | [], _, _ => some known
  | [x], some p, _ => some (known.set x (p ^^^ shardP known))
  | [x], none, some q => some (known.set x (gfMul (q ^^^ shardQ known) (gfPow (255 - x))))
  | [x, y], some p, some q =>
    let pxy := p ^^^ shardP known
    let qxy := q ^^^ shardQ known
    let dx := gfMul (qxy ^^^ gfMul (gfPow y) pxy) (gfInv (gfPow x ^^^ gfPow y))
    some ((known.set x dx).set y (pxy ^^^ dx))
  | _, _, _ => none

/-! ## Shards as words -/

/-- The bytes of 64-bit words, least significant first. -/
def wordsBytes (l : List Nat) : List Nat := l.flatMap (numBytes 8)
/-- 64-bit words of bytes; `n` bounds them. -/
def bytesWords : Nat → List Nat → List Nat
  | 0, _ => []
  | n + 1, l => if l.isEmpty then [] else leNum (l.take 8) :: bytesWords n (l.drop 8)
/-- P and Q of data shards, as words: byte by byte (R296). -/
def codeShards (l : List (List Nat)) : List Nat × List Nat :=
  let n := (l.map List.length).foldl max 0
  let b := l.map wordsBytes
  let f := fun g : List Nat → Nat => bytesWords n ((List.range (8 * n)).map fun i => g (b.map fun x => x.getD i 0))
  (f shardP, f shardQ)
/-- The data shards of a ream from what is left of its n + 2 shards: erased ones are none; none when more than two are (R297, Table 9.3). -/
def rebuildShards (n : Nat) (l : List (Option (List Nat))) : Option (List (List Nat)) :=
  if 2 < (l.filter Option.isNone).length then none
  else
    let len := ((l.filterMap id).map List.length).foldl max 0
    let b := l.map fun o => o.map wordsBytes
    let cols := (List.range (8 * len)).map fun i =>
      let c := b.map fun o => o.map fun x => x.getD i 0
      (rebuild (c.take n) (c.getD n none) (c.getD (n + 1) none)).getD []
    some ((List.range n).map fun x => bytesWords len (cols.map fun c => c.getD x 0))
/-- A shard's digest: the DR formula over its words (R299, R116). -/
def shardDigest (l : List Nat) : Nat := ordSum 0 l
/-- The words of a ream area from a byte offset on. -/
def State.areaWords (s : State) (die off len : Nat) : List Nat :=
  (List.range (len / 8)).map fun i => tget 0 s.pkg.reamWords (die * 2 ^ 40 + off / 8 + i)
/-- The place of a shard in the ream areas of this package. -/
def shardAt (x : Shard) : Nat := x.die * 2 ^ 40 + x.offset / 8
/-- A shard is written to its ream area, when its holder is on this package (R300, R303). -/
def State.writeShard (s : State) (x : Shard) (l : List Nat) : State :=
  if x.here then s.modPkg fun g =>
    { g with reamShards := insertNat (shardAt x) g.reamShards
             reamWords := tput 0 g.reamWords (shardAt x) ((l ++ List.replicate (x.length / 8) 0).take (x.length / 8)) }
  else s
/-- A shard whose holder has failed is in no ream area (Table 9.10). -/
def State.loseShard (s : State) (x : Shard) : State :=
  if x.here then s.modPkg fun g => { g with reamShards := g.reamShards.filter (· != shardAt x) } else s
/-- The fold of snapshot-set tensors into a state digest: the digests of R138, each under its own tensor key, and COUNT summed (R304). -/
def foldState (seed0 seed1 : Nat) (a : Nat × Nat × Nat) (l : List TensorPart) : Nat × Nat × Nat :=
  l.foldl (fun a t =>
    let d := digestOf (tensorKey seed0 t.id) (tensorKey seed1 t.id) t.elems
    ((a.1 + d.1) % p61, (a.2.1 + d.2) % p61, (a.2.2 + t.elems.length) % 2 ^ 48)) a

end Sys2Proof.Machine
end

