-- ==== Sys2Proof/Machine/Snapshots.lean ====
section
/-! DEFINITION. Surviving failure in training: risk, snapshots, group tables, restore and reclamation (R290-R315). -/

namespace Sys2Proof.Machine

/-! ## Reams and their maps (R296-R302) -/

/-- A shard lies inside the ream area of its holder die, as far as this package holds it (Table 9.4). -/
def State.shardInArea (s : State) (x : Shard) : Bool :=
  !x.here || (match tget none s.pkg.reamAreas x.die with
    | some a => decide (a.1 ≤ x.offset) && decide (x.offset + x.length ≤ a.1 + a.2)
    | none => false)
/-- A ream obeys R298 and R302: n data shards and two code shards of one length, in their areas, on holders of its scope that all differ. -/
def State.reamOk (s : State) (package : Bool) (r : Ream) : Bool :=
  decide (1 ≤ r.n) && decide (r.n ≤ 14) && r.shards.map (·.index) == List.range (r.n + 2) &&
    r.shards.all (fun x => s.shardInArea x && r.shards.all fun y => x.length == y.length) &&
    (if package then decide (r.shards.map (·.holder)).Nodup
     else decide (r.shards.map (·.die)).Nodup && r.shards.all fun x => r.shards.all fun y => x.holder == y.holder)
/-- A map passes the check of MAP_INVALID. -/
def State.mapOk (s : State) (package : Bool) (m : ReamMap) : Bool := m.covers && m.reams.all (s.reamOk package)
/-- Two shards meet on one holder. -/
def shardsMeet (x y : Shard) : Bool := x.holder == y.holder && x.die == y.die && overlap x.offset x.length y.offset y.length
/-- A map has a shard that meets one of the context's newest valid snapshot. -/
def State.mapOverlaps (s : State) (c : Nat) (m : ReamMap) : Bool :=
  match (s.ctx c).manifests.head? with
  | some o => m.reams.any fun r => r.shards.any fun x => o.reams.any fun q => q.shards.any fun y => shardsMeet x y
  | none => false
/-- The open windows of a die's cores that meet its ream area close: an area is never a window (R300, log 147). -/
def State.closeAreaWins (s : State) (d : Nat) : State :=
  each ((dieCores d).filterMap s.lcOf) (fun s n =>
    if (s.lc n).wins.any fun e => e.2.opened && s.inReamArea d e.2.base e.2.len then
      s.modLc n fun l => { l with wins := l.wins.map fun e => (e.1, if e.2.opened && s.inReamArea d e.2.base e.2.len then closeWin e.2 else e.2) }
    else s) s
/-- REAM_AREA_SET (R300): the length is clamped to what the scratchpad holds from the offset. -/
def execReamAreaSet (rq : Req) (die off len : Nat) (s : State) : Host.Outcome State Fault Refusal :=
  .next (s.command (.reamAreaSet rq die off len) rq { code := 0x0700, least := .operator, kind := .other } [] (isCompute die &&
    decide (off < s.pkg.spad)) fun s =>
    let n := clampTo 2 32 0 (s.pkg.spad - off) len
    ((s.modPkg fun g => { g with reamAreas := tset none g.reamAreas die (some (off, n.1)) }).closeAreaWins die).mirror.finish rq 0x0700 stOk n.2 [])

/-! ## Snapshots (R302-R307) -/

/-- A snapshot is armed: each logical core is held when it reaches the target point (Table 9.5 step 2). -/
def State.armSnap (s : State) (c id iter point : Nat) (package : Bool) (delta deadline : Nat) (m : ReamMap) : State :=
  (s.modCtx c fun x =>
    { x with snap := some { id := id, iter := iter, point := point, package := package, delta := delta, deadline := deadline, step := 2, held := [],
                            barrierReel := 0, reams := m.reams, acked := [], lost := [], man := none
                            data := [], state := (0, 0, 0) } }).mirror
/-- The holds of a snapshot end (Table 9.5 step 6). -/
def State.endSnapHold (s : State) (c : Nat) : State :=
  each (s.ctxLcs c) (fun s n =>
    let s := s.modLc n fun l => { l with snapHeld := false }
    match s.carrier n with | some p => s.unholdCore p 6 | none => s) s
/-- A snapshot ends without being valid: its holds end, SNAP_FAIL is written, and its command completes (R302). -/
def State.failSnap (s : State) (c reason : Nat) : State :=
  match (s.ctx c).snap with
  | none => s
  | some x =>
    let s := (s.modCtx c fun y => { y with snap := none }).endSnapHold c
    (s.snapFail c x.id reason).mirror.endOp 0x0701 c stNotReady [(32, reason)]
/-- The check of Table 9.4 for a SNAP_BEGIN: its reason, none when it passes. -/
def State.snapRefusal (s : State) (c iter point : Nat) (package : Bool) (m : ReamMap) : Option Nat :=
  let x := s.ctx c
  if !s.mapOk package m then some 2
  else if s.mapOverlaps c m then some 3
  else if x.state = 2 && (iter < x.iter || (iter = x.iter && point < x.point)) then some 4
  else none
/-- SNAP_BEGIN (R302, R475). -/
def execSnapBegin (rq : Req) (snap iter point : Nat) (package : Bool) (delta deadline : Nat) (m : ReamMap) (s : State) : Host.Outcome State Fault Refusal :=
  .next (s.command (.snapBegin rq snap iter point package delta deadline m) rq { code := 0x0701, least := .tenant, kind := .other } [rq.ctx] true fun s =>
    let c := rq.ctx
    let x := s.ctx c
    if !s.pkg.ready || (x.state ≠ 1 && x.state ≠ 2) then s.finish rq 0x0701 stNotReady [] []
    else if x.snap.isSome then s.finish rq 0x0701 stBusy [] []
    else
      match s.snapRefusal c iter point package m with
      | some k => (s.snapFail c snap k).refuse rq 0x0701 stNotReady k
      | none =>
        let d := if deadline = 0 then (0, []) else clampTo 5 32 1 60000 deadline
        (s.armSnap c snap iter point package delta d.1 m).beginRun rq 0x0701 c 0 d.2)
/-- SNAP_POINT_REACHED (Table 9.5 step 2): the logical core is held with reason 6. -/
def execSnapPointReached (lc : Nat) (s : State) : Host.Outcome State Fault Refusal :=
  guardId (decide (lc < 13824))
    (match s.lcCtx lc, s.carrier lc with
     | some c, some p =>
       (match (s.ctx c).snap with
        | some x =>
          if x.step = 2 && !x.held.contains lc && (s.ctx c).state ≠ 3 then
            let s := s.modCtx c fun y => { y with snap := some { x with held := insertNat lc x.held } }
            ((s.modLc lc fun l => { l with snapHeld := true }).holdCore p 6).setStall p 0 none
          else s
        | none => s)
     | _, _ => s)
/-- The manifest items that are recorded at the barrier (Table 9.5 step 4, Table 9.6, R307), step counts in logical core ID order (R305);
    REPLICA_PENDING is set while a verdict is pending. -/
def State.snapManifest (s : State) (c : Nat) (x : Snap) : Manifest :=
  let k := s.ctx c
  let pend := k.replica.any fun r => r.pending.isSome
  { id := x.id, tag := s.tagOf c, valid := false, package := x.package, replicaPending := pend, iter := x.iter, point := x.point, reams := x.reams,
    streams := (match k.plan with | some p => p.streams.map fun y => (y.id, tget 0 k.streams y.id) | none => []),
    steps := ((s.ctxLcs c).foldl (fun l n => insertNat n l) []).map fun n => (n, (s.lc n).lstep), dcursor := x.delta, d0 := 0, d1 := 0, count := 0,
      planSha := k.planSha,
    group := k.group.getD default, agreed := !pend }
/-- A poisoned word of the snapshot set ends the snapshot with POISONED and faults the context, whatever its poison mode (R246). -/
def State.snapPoisoned (s : State) (c : Nat) : State := ((s.failSnap c 9).vatCount (ctxSource c 3) { ctx := c, p2 := 0, p3 := 0 }).faultCtx c 0 0
/-- SNAP_BARRIER_COMPLETE (Table 9.5 steps 3 to 5): with every core held, every ticket closed and every press boundary at the point (Table 5.11), the
    items are recorded and copy-out starts; a poisoned word ends the snapshot. -/
def execSnapBarrierComplete (ctx : Nat) (poisoned : Bool) (s : State) : Host.Outcome State Fault Refusal :=
  guardId (decide (ctx < 4096))
    (s.whenActing (.snapBarrierComplete ctx poisoned) fun s => match (s.ctx ctx).snap with
     | none => s
     | some x =>
       let l := s.ctxLcs ctx
       if x.step ≠ 2 || !(l.all fun n => x.held.contains n && (s.openTickets n).isEmpty && (s.lc n).points.isEmpty) then s
       else if poisoned then s.snapPoisoned ctx
       else (s.modCtx ctx fun y =>
         { y with snap := some { x with step := 5, barrierReel := s.now, man := some (s.snapManifest ctx x) } }).mirror)
/-- A shard of a ream takes the digest that its holder computed. -/
def setDigest (reams : List Ream) (ream shard digest : Nat) : List Ream :=
  reams.zipIdx.map fun e => if e.2 = ream then
      { e.1 with shards := e.1.shards.map fun y => if y.index = shard then { y with digest := digest } else y }
    else e.1
/-- Every holder has acknowledged: the hold ends, the manifest is completed and kept with the one before it, SNAP_DONE is written and sent, and a
    reclaimed context is torn down (Table 9.5 steps 6 and 7, R305, R312). -/
def State.snapDone (s : State) (c : Nat) (x : Snap) : State :=
  match x.man with
  | none => s
  | some m =>
    let m := { m with valid := true, reams := x.reams, d0 := x.state.1, d1 := x.state.2.1, count := x.state.2.2 }
    let s := s.endSnapHold c
    let s := s.modCtx c fun y =>
      { y with snap := none, manifests := (m :: y.manifests).take 2, snapAt := ((m.id, s.now) :: y.snapAt).take 2, riskShown := y.riskShown }
    let s := s.record 0x0901 0 (ctxSource c 0) (m.id % 2 ^ 24) (m.iter % 2 ^ 24) (sat 24 ((s.now - x.barrierReel) / 1000000))
    let s := (s.emit (.snapDone m)).mirror
    let s := match s.standbyHub with | some sb => s.vatSend 0xC2 0 (hubDie sb) (manifestWords m) | none => s
    let s := s.endOp 0x0701 c stOk []
    if (s.ctx c).reclaimAt.isSome then s.startTeardown c 3 else s
/-- What a holder of a shard holds once its copy is complete: a data shard's words as they were sent; P or Q as its agent has folded the data words
    (Table 9.5 step 5), none while one of the ream's data shards is still to come. -/
def holderWords (x : Snap) (ream : Nat) (r : Ream) (shard : Nat) (words : List Nat) : Option (List Nat) :=
  if shard < r.n then some words
  else
    let l := (List.range r.n).filterMap fun i => (x.data.find? fun e => e.1 == (ream, i)).map (·.2)
    if l.length < r.n then none else some (if shard = r.n then (codeShards l).1 else (codeShards l).2)
/-- SNAP_HOLDER_ACK (Table 9.5 steps 5 and 6, Table 9.10): a shard has been copied out, and its holder acknowledges it with its digest or has failed.
    A data shard's words go to the P and Q holders too, and the taps fold its elements. A poisoned source word ends the snapshot, and so does a ream
    that loses three shards. A lost shard's digest is that of the words that its holder was to hold, so that it is an erasure at a restore (log 148). -/
def execSnapHolderAck (ctx ream shard : Nat) (words : List Nat) (poisoned failed : Bool) (set : List TensorPart) (s : State) :
    Host.Outcome State Fault Refusal :=
  guardId (decide (ctx < 4096))
    (s.whenActing (.snapHolderAck ctx ream shard words poisoned failed set) fun s => match (s.ctx ctx).snap with
     | none => s
     | some x =>
       let done := x.step ≠ 5 || x.acked.contains (ream, shard) || x.lost.contains (ream, shard)
       match x.reams[ream]? with
       | none => s
       | some r => match r.shards.find? (fun y => y.index == shard), holderWords x ream r shard words with
         | some y, some l =>
           if done then s
           else if poisoned then s.snapPoisoned ctx
           else
             let x := if shard < r.n then
                 { x with data := x.data ++ [((ream, shard), l)], state := foldState (s.ctx ctx).s0 (s.ctx ctx).s1 x.state set }
               else x
             let x := { x with reams := setDigest x.reams ream shard (shardDigest l) }
             let x := if failed then { x with lost := x.lost ++ [(ream, shard)] } else { x with acked := x.acked ++ [(ream, shard)] }
             let s := (if failed then s.loseShard y else s.writeShard y l).modCtx ctx fun k => { k with snap := some x }
             if 3 ≤ (x.lost.filter fun e => e.1 == ream).length then s.failSnap ctx 2
             else if x.acked.length + x.lost.length = (x.reams.map fun r => r.shards.length).foldl (· + ·) 0 then s.snapDone ctx x
             else s
         | _, _ => s)
/-- SNAP_DEADLINE_EXPIRY (Table 9.4 DEADLINE). -/
def execSnapDeadlineExpiry (ctx : Nat) (s : State) : Host.Outcome State Fault Refusal :=
  guardId (decide (ctx < 4096))
    (s.whenActing (.snapDeadlineExpiry ctx) fun s => if (s.ctx ctx).snap.any fun x => x.deadline != 0 then s.failSnap ctx 10 else s)
/-- SNAP_RELEASE (R300, Table 9.10): the snapshot's manifest is dropped and its shards are free. -/
def execSnapRelease (rq : Req) (snap : Nat) (s : State) : Host.Outcome State Fault Refusal :=
  .next (s.command (.snapRelease rq snap) rq { code := 0x0702, least := .tenant, kind := .other } [rq.ctx] true fun s =>
    let c := rq.ctx
    if (s.ctx c).restoring.any fun r => r.1.id == snap then s.finish rq 0x0702 stBusy [] []
    else
      let s := s.modCtx c fun x => { x with manifests := x.manifests.filter fun m => m.id != snap, snapAt := x.snapAt.filter fun e => e.1 != snap }
      s.mirror.finish rq 0x0702 stOk [] [])
/-- SNAP_DEFAULT (R295): an accepted map replaces the previous one. -/
def execSnapDefault (rq : Req) (package : Bool) (base : Nat) (m : ReamMap) (s : State) : Host.Outcome State Fault Refusal :=
  .next (s.command (.snapDefault rq package base m) rq { code := 0x0706, least := .tenant, kind := .other } [rq.ctx] true fun s =>
    let c := rq.ctx
    if (s.ctx c).state ≠ 1 && (s.ctx c).state ≠ 2 then s.finish rq 0x0706 stNotReady [] []
    else if !s.mapOk package m then s.refuse rq 0x0706 stNotReady 2
    else ((s.modCtx c fun x => { x with defaultMap := some (package, base, m) }).mirror).finish rq 0x0706 stOk [] [])
/-- MANIFEST (R305): manifest bulk reaches the other hub, whose Vat keeps it with the newest two of its context. -/
def execManifest (h : Hdr) (ctx : Nat) (man : Manifest) (s : State) : Host.Outcome State Fault Refusal :=
  guardId (decide (ctx < 4096))
    (match s.standbyHub with
     | none => s
     | some sb => s.recvCmd (hubDie sb) h 0xC2 fun s =>
         if !man.valid || (s.ctx ctx).manifests.any (fun m => m.id == man.id) then s
         else s.modCtx ctx fun x => { x with manifests := (man :: x.manifests).take 2, snapAt := ((man.id, s.now) :: x.snapAt).take 2 })

/-! ## Automatic snapshots and risk (R292-R295) -/

/-- Samples and draws of the plan before a point. -/
def pointSum (per : Nat) (before : List Nat) (iter point : Nat) : Nat := iter * per + before.getD point 0
/-- A context's next snapshot point: the next of its iteration, or the boundary of the next iteration (R301). -/
def Ctx.nextPoint (x : Ctx) (p : Plan) : Nat × Nat := if x.point < p.points.length then (x.iter, x.point) else (x.iter + 1, 0)
/-- A snapshot that the active Vat starts itself: the next automatic ID, the next snapshot point, and the derived data cursor (R294, R295). -/
def State.autoSnap (s : State) (c : Nat) : State :=
  match (s.ctx c).defaultMap, (s.ctx c).plan with
  | some d, some p =>
    if (s.ctx c).snap.isSome then s
    else
      let id := (s.ctx c).autoId
      let (i, k) := (s.ctx c).nextPoint p
      let s := s.modCtx c fun x => { x with autoId := if x.autoId = 0xFFFFFFFF then 0xFFFF0000 else x.autoId + 1 }
      match s.snapRefusal c i k d.1 d.2.2 with
      | some e => s.snapFail c id e
      | none => s.armSnap c id i k d.1 (d.2.1 + pointSum p.samplesPerIter p.samplesBefore i k) 0 d.2.2
  | _, _ => s
/-- A THRESHOLD source concerns a context: a core, die or cluster source of one of its dies (Table 9.2 bit 0). -/
def State.riskThreshs (s : State) (c : Nat) : Nat :=
  (s.sh.riskThresh.filter fun e => decide (s.now ≤ e.1 + 600000000000) && (s.ctxDies c).contains (sourceDie e.2)).length
/-- The inputs of Table 9.2: each input's contribution. -/
def State.riskInputs (s : State) (c : Nat) : List Nat :=
  let ds := s.ctxDies c
  let poor := (ds.map fun d => ((List.range 12).filter fun k => (s.freeSpare d k).isNone).length).foldl (· + ·) 0
  let selfFailed := match s.acting with | some h => (s.vat (otherHub h)).lastFailed != 0 | none => false
  let switched := match s.sh.lastSwitch with | some t => decide (s.now ≤ t + 600000000000) | none => false
  [min 16000 (4000 * s.riskThreshs c), min 16000 (500 * poor), if ds.any s.sh.nearDies.contains then 8000 else 0,
   if s.pkg.voidReasons ≠ 0 then 8000 else 0, if switched || selfFailed then 16000 else 0, if s.felt.broken.isEmpty then 0 else 16000,
   if (s.ctx c).reclaimAt.isSome then 65535 else 0]
/-- The risk score of one context is recomputed; at RISK_T, SNAP_RISK is written under R293, and a snapshot may start (R294). -/
def State.riskOne (s : State) (c : Nat) : State :=
  let x := s.ctx c
  if (x.state ≠ 1 && x.state ≠ 2) || !(x.plan.any (·.training)) then s
  else
    let l := s.riskInputs c
    let v := sat 16 (l.foldl (· + ·) 0)
    let s := s.modCtx c fun x => { x with risk := v, riskShown := x.riskShown && decide (x.riskT ≤ 2 * v) }
    let old := match x.snapAt.head? with | some e => decide (e.2 + x.snapMin * 1000000000 ≤ s.now) | none => true
    if v < x.riskT || (s.ctx c).riskShown || x.snap.isSome || !(old || x.reclaimAt.isSome) then s
    else
      let bits := (l.zipIdx.map fun e => if e.1 = 0 then 0 else 2 ^ e.2).foldl (· + ·) 0
      let s := (s.modCtx c fun x => { x with riskShown := true }).record 0x0900 2 (ctxSource c 0) c v bits
      if x.autoSnap = 1 && x.defaultMap.any (fun d => !d.1) then s.autoSnap c else s
/-- RISK_RECOMPUTE (R292, R293). -/
def execRiskRecompute (s : State) : Host.Outcome State Fault Refusal :=
  let s := s.modSh fun h => { h with riskThresh := h.riskThresh.filter fun e => decide (s.now ≤ e.1 + 600000000000) }
  .next (if s.acting.isSome then each (s.sh.ctxs.map (·.1)) State.riskOne s else s)
/-- XPKG_WAIT (R291, Table 9.1): the wait is notified, and the context stays as it is. -/
def execXpkgWait (core : Nat) (s : State) : Host.Outcome State Fault Refusal :=
  guardId (validCore core)
    (match s.coreCtx core with
     | some c =>
       if (s.core core).stallNow = 8 then
         s.record 0x0907 2 (ctxSource c 0) c ((s.core core).awaited.getD 0xFFFFFF) (sat 24 ((s.now - (s.core core).stallSince) / 1000000))
       else s
     | none => s)

/-! ## Group tables (R308, R309) -/

/-- A group table is installed, and GROUP_SET written. -/
def State.installGroup (s : State) (c : Nat) (g : GroupTable) : State :=
  ((s.modCtx c fun x => { x with group := some g }).mirror).record 0x0906 0 (ctxSource c 0) g.id (g.epoch % 2 ^ 24) ((g.ranks - 1) * 2 ^ 8 + g.rank)
/-- A group table with its rank count and rank clamped, and the clamps (R309, R20). -/
def clampGroup (g : GroupTable) : GroupTable × List Clamp :=
  let n := clampTo 1 16 1 256 g.ranks
  let r := clampTo 2 16 0 (n.1 - 1) g.rank
  ({ g with ranks := n.1, rank := r.1, addrs := g.addrs.take n.1 }, n.2 ++ r.2)
/-- No core of a context issues: each waits at a handshake, or is held. -/
def State.noneIssues (s : State) (c : Nat) : Bool :=
  (s.ctxLcs c).all fun n => match s.carrier n with | some p => s.stopped p || (s.core p).stallNow != 0 | none => true
/-- The context is held at a snapshot barrier or at a replica barrier, where every core waits for it, or is not launched. -/
def State.groupMaySet (s : State) (c : Nat) : Bool :=
  let x := s.ctx c
  x.state == 1 || x.snap.any (fun y => y.step == 5) || (x.replica.any (fun r => r.pending.isSome || r.aborted) && s.noneIssues c)
/-- GROUP_SET (R309). -/
def execGroupSet (rq : Req) (g : GroupTable) (s : State) : Host.Outcome State Fault Refusal :=
  .next (s.command (.groupSet rq g) rq { code := 0x0704, least := .operator, kind := .other } [rq.ctx] true fun s =>
    let c := rq.ctx
    if (s.ctx c).state ≠ 1 && (s.ctx c).state ≠ 2 then s.finish rq 0x0704 stNotReady [] []
    else if !s.groupMaySet c then s.finish rq 0x0704 stBusy [] []
    else if (s.ctx c).group.any fun o => decide (g.epoch ≤ o.epoch) then s.finish rq 0x0704 stNotReady [] []
    else (s.installGroup c (clampGroup g).1).finish rq 0x0704 stOk (clampGroup g).2 [])

/-! ## Restore (R306, R307, R310) -/

/-- The derived position of a stream at a point (R306). -/
def derived (y : PlanStream) (iter point : Nat) : Nat := y.base + pointSum y.perIter y.before iter point
/-- RESTORE_REFUSED, with the reason and the first failing ream index or stream ID. -/
def State.restoreRefused (s : State) (c id reason what : Nat) : State := s.record 0x0904 3 (ctxSource c 0) (id % 2 ^ 24) reason what
/-- The checks of Table 9.7 step 1 and of the context's state: reason, and what failed. -/
def State.restoreCheck (s : State) (c snap delta : Nat) (man : Manifest) (crc : Nat) : Option (Nat × Nat) :=
  let x := s.ctx c
  match x.plan with
  | none => some (0x0B, 0)
  | some p =>
    if x.state ≠ 1 then some (0x0B, 0)
    else if manifestCrc man ≠ crc || man.id ≠ snap || !man.valid then some (0x06, 0)
    else if man.planSha ≠ x.planSha then some (0x01, 0)
    else match p.streams.find? fun y => (man.streams.find? fun e => e.1 == y.id).map (·.2) != some (derived y man.iter man.point) with
      | some y => some (0x07, y.id)
      | none => if delta ≠ man.dcursor then some (0x08, 0) else none
/-- RESTORE (R310, R475). -/
def execRestore (rq : Req) (snap delta : Nat) (man : Manifest) (crc : Nat) (g : GroupTable) (s : State) : Host.Outcome State Fault Refusal :=
  .next (s.command (.restore rq snap delta man crc g) rq { code := 0x0703, least := .tenant, kind := .other } [rq.ctx] true fun s =>
    let c := rq.ctx
    if !s.pkg.ready then s.finish rq 0x0703 stNotReady [] []
    else if (s.ctx c).restoring.isSome then s.finish rq 0x0703 stBusy [] []
    else match s.restoreCheck c snap delta man crc with
      | some r => (s.restoreRefused c snap r.1 r.2).refuse rq 0x0703 stNotReady r.1
      | none => ((s.modCtx c fun x => { x with restoring := some (man, (clampGroup g).1, s.now) }).mirror).beginRun rq 0x0703 c 0 (clampGroup g).2)
/-- A shard on this package is an erasure because its holder die cannot be reached, is in a reset, or has been reset since the shard was written, so
    that its area holds it no more (R299, Table 9.10). -/
def State.shardReset (s : State) (y : Shard) : Bool :=
  y.here && ((s.sh.resets.any fun r => r.1 == 3 && r.2.1 == s.partOf y.die) || (s.die y.die).isolated || !s.pkg.reamShards.contains (shardAt y))
/-- What is left of a shard at a restore: its words, none when it is an erasure, because its holder is unreachable or has been reset, its digest
    differs, or a word of it reads poisoned (R299). `remote`: the shards that holders on other packages have answered with, none for a holder that does not
    answer. -/
def State.shardLeft (s : State) (ream : Nat) (remote : List ((Nat × Nat) × Option (List Nat))) (poisoned : List (Nat × Nat)) (y : Shard) :
    Option (List Nat) :=
  let at_ := (ream, y.index)
  let l := match remote.find? fun e => e.1 == at_ with
    | some e => e.2
    | none => if y.here then some (s.areaWords y.die y.offset y.length) else none
  if s.shardReset y || poisoned.contains at_ then none else l.bind fun w => if shardDigest w = y.digest then some w else none
/-- A rebuilt ream: its lost data shards, and P and Q recomputed, go back to their holders on this package, and its data shards to the logical cores'
    scratchpads (Table 9.3, Table 9.7 steps 3 and 4). -/
def State.restoreReam (s : State) (c ream : Nat) (r : Ream) (left : List (Option (List Nat))) (data : List (List Nat)) : State :=
  let code := codeShards data
  let s := each (r.shards.zip left) (fun s e =>
    if e.2.isSome then s else s.writeShard e.1 ((data ++ [code.1, code.2]).getD e.1.index [])) s
  each data.zipIdx (fun s e => s.emit (.writeBack c ream e.2 e.1)) s
/-- RESTORE_GATHER_DONE (Table 9.7 steps 2 to 7, R59): the shards are gathered, and the taps have folded the elements of the set as it was written. -/
def execRestoreGatherDone (ctx : Nat) (remote : List ((Nat × Nat) × Option (List Nat))) (poisoned : List (Nat × Nat)) (set : List TensorPart) (s : State) :
    Host.Outcome State Fault Refusal :=
  guardId (decide (ctx < 4096))
    (s.whenActing (.restoreGatherDone ctx remote poisoned set) fun s => match (s.ctx ctx).restoring with
     | none => s
     | some (m, g, start) =>
       let reams := m.reams.zipIdx.map fun e =>
         let left := e.1.shards.map (s.shardLeft e.2 remote poisoned)
         (e.2, e.1, left, rebuildShards e.1.n left)
       let s := s.modCtx ctx fun x => { x with restoring := none }
       let no := fun (s : State) (r w : Nat) => (s.restoreRefused ctx m.id r w).mirror.endOp 0x0703 ctx stNotReady [(32, r)]
       match reams.find? fun e => e.2.2.2.isNone with
       | some e => no s 5 e.1
       | none =>
         let s := each reams (fun s e => s.restoreReam ctx e.1 e.2.1 e.2.2.1 (e.2.2.2.getD [])) s
         if foldState (s.ctx ctx).s0 (s.ctx ctx).s1 (0, 0, 0) set ≠ (m.d0, m.d1, m.count) then no s 6 0
         else
         let s := each m.steps (fun s e =>
             if (s.ctxLcs ctx).contains e.1 then
               s.modLc e.1 fun x => { x with lstep := e.2, extra := 0, lstepValid := true, ringNew := 0, base := { x.base with step := e.2, start := e.2 },
                                             points := [] }
             else s) s
           let s := s.modCtx ctx fun x =>
             { x with iter := m.iter, point := m.point, rerun := if m.replicaPending then some m.iter else none
                      streams := match x.plan with
                        | some p => each p.streams (fun t y => tset 0 t y.id (derived y m.iter m.point)) x.streams
                        | none => x.streams }
           let s := ((s.restoredParts ctx set).modReplica ctx fun o => { o with pending := none }).armRerun ctx
           let s := if (s.ctx ctx).group.any fun o => decide (g.epoch ≤ o.epoch) then s else s.installGroup ctx g
           let s := s.record 0x0903 0 (ctxSource ctx 0) (m.id % 2 ^ 24) ((reams.flatMap fun e => e.2.2.1.filter Option.isNone).length) (sat 24 ((s.now - start) / 1000000))
           s.mirror.endOp 0x0703 ctx stOk [])

/-! ## Reclamation (R312) -/

/-- The training contexts with a core in a set of partitions. -/
def State.reclaimed (s : State) (parts : Nat) : List Nat :=
  (s.sh.ctxs.filter fun e => (e.2.state == 1 || e.2.state == 2) && e.2.plan.any (·.training) && (s.ctxParts e.1).any fun p => bit parts p).map (·.1)
/-- RECLAIM (R312 step 1, Table 9.10): each training context gets RECLAIM and RECLAIM_NOTICE; one that names partitions already reclaiming joins the
    first, with the earlier deadline. -/
def execReclaim (rq : Req) (parts deadline : Nat) (s : State) : Host.Outcome State Fault Refusal :=
  .next (s.command (.reclaim rq parts deadline) rq { code := 0x0705, least := .operator, kind := .other } [] (decide (parts < 2 ^ 32)) fun s =>
    if !s.pkg.ready then s.finish rq 0x0705 stNotReady [] []
    else
      let d := clampOr 1 8 10 60 60 deadline
      let first := ((List.range 32).find? fun p => bit parts p).getD 0
      let meet := fun r : Nat × Nat => (r.1 &&& parts) != 0
      let joined := s.pkg.reclaim.filter meet
      let all := (joined.map (·.1)).foldl (· ||| ·) parts
      let at_ := (joined.map (·.2)).foldl min (s.now + d.1 * 1000000000)
      let s := s.modPkg fun g => { g with reclaim := (g.reclaim.filter fun r => !meet r) ++ [(all, at_)] }
      let s := each (s.reclaimed parts) (fun s c =>
        let s := s.record 0x0905 2 (partSource first 0) (parts % 2 ^ 24) (parts / 2 ^ 24) d.1
        (s.modCtx c fun x => { x with reclaimAt := some (x.reclaimAt.getD s.now) }).emit (.vendor 6 [c, parts, d.1])) s
      (s.mirror.beginRun rq 0x0705 0 parts d.2).reclaimDone)
/-- A default map's holders lie outside the partitions that are being reclaimed. -/
def State.mapOutside (s : State) (m : ReamMap) : Bool :=
  let all := (s.pkg.reclaim.map (·.1)).foldl (· ||| ·) 0
  m.reams.all fun r => r.shards.all fun y => !y.here || !bit all (s.partOf y.die)
/-- RECLAIM_AUTO_SNAP_TIMEOUT (R312 step 2): with AUTO_SNAP set and no SNAP_BEGIN, the default map is used when its holders lie outside the set. -/
def execReclaimAutoSnapTimeout (ctx : Nat) (s : State) : Host.Outcome State Fault Refusal :=
  guardId (decide (ctx < 4096))
    (s.whenActing (.reclaimAutoSnapTimeout ctx) fun s =>
     let x := s.ctx ctx
     if x.reclaimAt.isSome && x.autoSnap = 1 && x.snap.isNone && (x.state == 1 || x.state == 2) && x.defaultMap.any (fun d => s.mapOutside d.2.2) then
       s.autoSnap ctx
     else s)
/-- RECLAIM_DEADLINE (R312 step 3): at the earliest deadline that is still to come for a context, a snapshot not complete ends with DEADLINE, and the
    contexts are torn down. -/
def execReclaimDeadline (s : State) : Host.Outcome State Fault Refusal :=
  .next (s.whenActing .reclaimDeadline fun s => match bestBy (·.2) (s.pkg.reclaim.filter fun r => (s.reclaimed r.1).any fun c => (s.ctx c).reclaimAt.isSome) with
    | none => s
    | some r =>
      let l := (s.reclaimed r.1).filter fun c => (s.ctx c).reclaimAt.isSome
      (each l (fun s c => (s.failSnap c 10).startTeardown c 3) s).reclaimDone)

end Sys2Proof.Machine
end

