-- ==== Sys2Proof/Machine/Switch.lean ====
section
/-! DEFINITION. The end of a switch-over, acknowledgements and resends, and the commands that agents carry out (R24, R318-R331, R363-R365, R491). -/

namespace Sys2Proof.Machine

/-! ## The end of a switch-over (R324, R330, R331, Table 10.4) -/

/-- Opcodes that the new active Vat continues (Table 10.4, R78): the launch, CTX_KILL, SNAP_BEGIN, RESTORE and RECLAIM. -/
def continued (op : Nat) : Bool := [0x0101, 0x0102, 0x0701, 0x0703, 0x0705].contains op
/-- A command that ran before the gap: VAT_SWITCH is answered, a continued one runs on, every other completes with ST_NOTREADY (R329, R331). -/
def State.afterGap (s : State) (g : Gap) (x : Run) : State :=
  if x.opcode = 0x0800 && g.switchRun then s.endRun x stOk [] else if continued x.opcode then s else s.endRun x stNotReady []
/-- Orders of the old Vat that wait for an acknowledgement are sent by the new one under its epoch (R324 step 4); a change to the mirror, DEPOSE and
    ANNOUNCE are not. -/
def State.takeOver (s : State) (old new : Hub) (e : Nat) : State :=
  let own := fun w : Pend => w.t.src == hubDie old || w.t.src == hubDie new
  let gone := fun w : Pend => own w && (w.t.type == 0x8F || w.t.type == 0x04 || w.t.type == 0x05)
  let mine := fun w : Pend => w.t.src == hubDie old && !gone w
  let l := s.felt.waiting.filter mine
  let s := s.modFelt fun n => { n with waiting := n.waiting.filter fun w => !gone w && !mine w }
  each l (fun s w =>
    let q := tget 0 s.felt.seq (hubDie new * 4 + typeClass w.t.type)
    let s := s.feltSend (hubDie new) w.t.type w.t.mode w.t.dst (e :: w.t.words.drop 1)
    let again := fun x : Pend => if x.t.src == hubDie new && x.t.type == w.t.type && x.t.seq == q then { x with acked := w.acked } else x
    s.modFelt fun n => { n with waiting := n.waiting.map again }) s
/-- What the table marks as not mirrored: slice leases (start-up leases, which outlast the 80 us of R197, still count as outstanding at R193's limit),
    distributions, layer locations, the dump (Table 10.4, R220, R450); a firmware write that ran is left incomplete (Table 10.8). -/
def State.dropUnmirrored (s : State) : State :=
  let fw := s.running 0x0803 0
  let s := each [1, 2, 3, 4] (fun s k => s.abortDist k []) s
  let s := s.modSh fun h => { h with leases := h.leases.filter (fun l => l.2.1 == 2), verifying := [], blackout := s.now + 80000, lastSwitch := some s.now,
                                     noStandby := none, gap := none }
  let s := if fw then s.modPkg fun g => { g with fwWriting := none, fwQueue := [] } else s
  let s := s.modDbg fun g => { g with dumpHeld := none, dumpBytes := [], dumpDir := [], dumpNext := 0, dumpTodo := [], dumpAuto := false, truncated := false }
  each ((s.cores.filter fun e => e.2.hung).map (·.1)) (fun s p => s.hangReset p) s
/-- The stop table is rebuilt from the agents (R469). -/
def State.rebuildStop (s : State) : State :=
  if s.dbg.gstop.isNone then s
  else each ((List.range 100).filter fun d => (s.die d).stopLatch) (fun s d => s.sendStop d)
    (s.modDbg fun g => { g with stopTable := [], stopLinks := [] })
/-- The bridged messages queued at the old Vat's port are dropped, each counted at MGMT_LINK_DOWN of its hub (Table 11.11). -/
def State.dropQueues (s : State) (h : Hub) : State :=
  let n := (s.vat h).outQ.length + (s.vat h).inQ.length
  each (List.range n) (fun s _ => s.vatCount (hubSource h 11) default) (s.modVat h fun v => { v with outQ := [], inQ := [] })
/-- What the agents have returned, agents in ascending die order, and each one's items in the order in which it held them (R330). -/
def inDieOrder (l : List (Nat × Instr)) : List Instr := (List.range 100).flatMap fun d => (l.filter fun x => x.1 == d).map (·.2)
/-- The gap ends (Table 10.3 step 5): the new Vat is ACTIVE and numbers its changes on from the last that it applied (R333), returned items are
    applied, the alias releases its accesses, and SWITCHOVER is written. -/
def State.endGap (s : State) (g : Gap) : State :=
  let h := g.newActive
  let o := otherHub h
  let s := if (s.vat o).role = .active then s.vatDown o else s
  let s := s.modVat h fun v => { v with role := .active, gated := false, syncStart := none }
  let s := (s.modVat h fun v => { v with refused := [], cycleItems := 0 }).modSh fun x => { x with mirrorSeq := (s.vat h).mirrorApplied, switching := false }
  let s := s.dropUnmirrored.dropQueues o
  let s := (s.takeOver o h g.epoch).takeHeldRecs
  let s := each s.sh.runs (fun s x => s.afterGap g x) s
  let s := each s.sh.apHeld (fun s x => s.finish x.2.1 x.2.2 stNotReady [] []) (s.modSh fun x => { x with apHeld := [] })
  let s := s.modSh fun x => { x with vatHeld := inDieOrder g.items ++ x.vatHeld }
  let dual := if g.gated then 0 else (g.lastAck - g.deposeReel) / 10
  let s := s.record 0x0A00 2 (pkgSource 6) (g.trigger * 2 ^ 20 + hubNum h * 2 ^ 16 + sat 16 ((s.reel - g.start) / 10)) (g.epoch % 2 ^ 24)
    (sat 8 (100 - g.acks.length - g.others.length) * 2 ^ 16 + sat 16 dual)
  let s := (s.vatCount (pkgSource 6) default).epochEnd h g.epoch
  let s := s.sendAllHeld
  (((s.rebuildStop.releaseHeld g.held).resumeTriages.flushMgmt).resumePath 0).rollAll
/-- ANNOUNCE_RETURN (R324, R330): after the last agent's return the gap ends. -/
def execAnnounceReturn (h : Hdr) (s : State) : Host.Outcome State Fault Refusal :=
  guardId (isDie h.src)
    (match s.sh.gap with
     | none => s
     | some g =>
       if g.step ≠ 4 then s
       else
         let g := { g with returned := insertNat h.src g.returned }
         if g.acks.all fun d => g.returned.contains d then s.endGap g else s.modGap fun _ => g)

/-! ## Acknowledgements (R363-R365) -/

/-- A target has answered a transaction: it waits no more once every target has. -/
def State.noteAck (s : State) (w : Pend) (d : Nat) : State :=
  let w2 := { w with acked := insertNat d w.acked }
  if (s.txnTargets w.t).all fun t => w2.acked.contains t then s.modFelt fun n => { n with waiting := n.waiting.erase w }
  else s.modFelt fun n => { n with waiting := n.waiting.map fun x => if x = w then w2 else x }
/-- At ANNOUNCE the agent returns what it holds for the Vat: what it has sent to the old one without an answer and what it has held
    back, in order, its first-stage counts, and its acknowledgements of the old Vat's commands that it has executed and the old Vat has not noted. -/
def State.returnHeld (s : State) (d dst : Nat) : State :=
  let old := fun t : Txn => (dieHub t.dst).isSome && [0x08, 0x09, 0x40, 0x41, 0x43, 0x44, 0x91].contains t.type
  let sent := s.felt.waiting.filter fun w => w.t.src == d && old w.t
  let s := s.modFelt fun n => { n with waiting := n.waiting.filter fun w => !(w.t.src == d && old w.t) }
  let l := sent.map (fun w => (w.t.type, w.t.words)) ++ (s.die d).held
  let s := each l (fun s m => s.feltSend d m.1 0 dst m.2) (s.modDie d fun k => { k with held := [] })
  let s := if (s.die d).first.isEmpty || (s.die d).inReset then s
    else (s.modDie d fun k => { k with first := [] }).feltSend d 0x09 0 dst (s.die d).firstWords
  let done := s.felt.waiting.filter fun w => (dieHub w.t.src).isSome && w.t.src != dst && w.t.type != 0x10 && !w.acked.contains d &&
    (s.txnTargets w.t).contains d &&
    seqSeen (tget [] s.felt.seen (seenKey d w.t.src w.t.type)) w.t.seq
  each done (fun s w => (s.ack d dst w.t.type w.t.seq 0).noteAck w d) s
/-- ANNOUNCE (R319, R324): the agent raises CPL_EPOCH and returns what it holds. -/
def execAnnounce (h : Hdr) (die : Nat) (s : State) : Host.Outcome State Fault Refusal :=
  guardId (isDie die && isDie h.src) (s.recvCmd die h 0x05 fun s => s.returnHeld die h.src)
/-- A die's watermark record that has been sent is kept until it is acknowledged (Table 4.8). -/
def State.dropWm (s : State) (d : Nat) (words : List Nat) : State :=
  s.modDie d fun k => { k with wm := k.wm.filter fun x => match x.sent with | some r => words != [x.ctx, x.key] ++ recWords r | none => true }
/-- What an answer does by type: an armed distribution, DEPOSE, a watermark record, the steps of a rollback. -/
def State.ackEffect (s : State) (w : Pend) (d status reelLo : Nat) : State :=
  if w.t.type = 0x04 then s.deposeAnswer d status reelLo
  else if w.t.type = 0x8D && status = 0 then s.armAcked d (w.t.words.getD 1 0)
  else if w.t.type = 0x43 && status = 0 then s.dropWm w.t.src w.t.words
  else s.rollAll
/-- FELT_ACK (R363-R365, R325): `txn` is the TYPE acknowledged, times 65,536, plus its SEQ. A command answered with RESETTING is repeated after the
    die's RESET_DONE. -/
def execFeltAck (h : Hdr) (die txn status reelLo : Nat) (s : State) : Host.Outcome State Fault Refusal :=
  guardId (isDie die && isDie h.src)
    (let s := if s.acting.isSome && die = s.actDie then s.hear h.src else s
     match s.felt.waiting.find? fun w => w.t.src == die && w.t.type == txn / 65536 && w.t.seq == txn % 65536 with
     | none => s
     | some w =>
       let s := if status = 2 && (dieHub die).isSome then
           s.modDie h.src fun k => { k with repeats := k.repeats ++ [{ w.t with mode := 0, dst := h.src }] }
         else s
       (s.noteAck w h.src).ackEffect w h.src status reelLo)
/-- TXN_RESEND_TIMEOUT (R363): resent up to its limit; then TXN_FAILED, and the originating rule decides. -/
def execTxnResendTimeout (die cls seq : Nat) (s : State) : Host.Outcome State Fault Refusal :=
  guardId (isDie die)
    (match s.felt.waiting.find? fun w => w.t.src == die && typeClass w.t.type == cls && w.t.seq == seq with
     | none => s
     | some w =>
       if w.resends < resendLimit w.t.type then
         (s.modFelt fun n => { n with waiting := n.waiting.map fun x => if x = w then { x with resends := x.resends + 1 }
                                      else x }).inject w.t |>.emit (.felt w.t)
       else ((s.modFelt fun n => { n with waiting := n.waiting.erase w }).txnFailed w).rollAll)

/-! ## Die-local commands (R24, R128, R364, R491) -/

/-- What an agent does with a die-local command: its reply's transfer number, value and whether it is an error. A self-check runs on a frozen or idle
    core (R128) and waits on a parked one (R188); on any other it is refused with ST_BUSY as the value. -/
def State.agentDoes (s : State) (d : Nat) (op : AgentOp) : (Nat × Nat × Bool) × State :=
  match op with
  | .read id off priv tag =>
    let r := s.couchRead d off priv tag
    ((id, r.1.getD 0, r.1.isNone), r.2)
  | .write id off v priv tag =>
    let r := s.couchWrite d off v priv tag
    ((id, 0, !r.1), r.2)
  | .selfTest p =>
    if coreDie p ≠ d || !validCore p then ((p, 0, true), s)
    else if s.cstate p = 2 || s.cstate p = 5 then ((p, 0, false), s.modCore p fun c => { c with selftest := 1 })
    else if s.cstate p = 4 then ((p, 0, false), s.modCore p fun c => { c with deferred := c.deferred ++ [.selfTest] })
    else ((p, stBusy, true), s)
  | .unpark p => if coreDie p = d && validCore p && !(s.die d).beater.shifting then ((p, 0, false), s.unpark p) else ((p, 0, true), s)
/-- The AGENT_REPLY that an agent has sent for an AGENT_CMD it has executed. -/
def Die.repliedTo (k : Die) (h : Hdr) : Option (List Nat) := (k.replied.find? fun e => e.1 == h.src && e.2.1 == h.seq).map (·.2.2)
/-- AGENT_CMD (R319, R363, R364, R491): the agent carries it out and answers with AGENT_REPLY, which it repeats for a duplicate; a self-check of an
    issuing core is refused (R128). -/
def execAgentCmd (h : Hdr) (die : Nat) (op : AgentOp) (s : State) : Host.Outcome State Fault Refusal :=
  guardId (isDie die && isDie h.src)
    (match if (s.die die).inReset || decide (h.epoch < (s.die die).epoch) then none else (s.die die).repliedTo h with
     | some w => s.feltSend die 0x81 0 h.src w
     | none => s.recvCmd die h 0x80 fun s =>
       let r := s.agentDoes die op
       let w := [r.1.1, r.1.2.1, b2n r.1.2.2]
       (r.2.modDie die fun k => { k with replied := ((h.src, h.seq, w) :: k.replied).take 64 }).feltSend die 0x81 0 h.src w)
/-- The AGENT_CMD that a die's AGENT_REPLY answers waits no more: the one of that transfer number, else the oldest to that die. -/
def State.noteReply (s : State) (d id : Nat) : State :=
  let l := s.felt.waiting.filter fun w => w.t.type == 0x80 && (s.txnTargets w.t).contains d && !w.acked.contains d
  match l.find? (fun w => w.t.seq == id), l.head? with
  | some w, _ => s.noteAck w d
  | none, some w => s.noteAck w d
  | none, none => s
/-- AGENT_REPLY (R364, R491): the Vat's copy of the die's slice is compared (R24), and a forwarded access completes with the target's result. -/
def execAgentReply (h : Hdr) (id : Nat) (value : Word) (error : Bool) (s : State) : Host.Outcome State Fault Refusal :=
  guardId (isDie h.src)
    (s.recvVat (.agentReply h id value error) h 0x81 fun s =>
      let s := (s.noteReply h.src id).checkDeckle h.src
      match s.sh.fwds.find? fun f => f.id == id && f.die == h.src with
      | none => s
      | some f =>
        let s := s.modSh fun x => { x with fwds := x.fwds.erase f }
        if error then s.fail else if f.write then s.emit .writeDone else s.emit (.readValue value))

end Sys2Proof.Machine
end

