-- ==== Sys2Proof/Machine/Dispatch.lean ====
section
/-! DEFINITION. One arm for each command: the meaning it calls, or its rejection by name. -/

namespace Sys2Proof.Machine

def exec (i : Instr) (s : State) : Host.Outcome State Fault Refusal :=
  match i with
  | .registerWrite a v => Sys2Proof.Machine.execRegisterWrite a v s
  | .registerLoRead a => Sys2Proof.Machine.execRegisterLoRead a s
  | .mtpWmOperRead a => Sys2Proof.Machine.execMtpWmOperRead a s
  | .mtpStallLoRead a => Sys2Proof.Machine.execMtpStallLoRead a s
  | .vatCplDataRead a => Sys2Proof.Machine.execVatCplDataRead a s
  | .vatCplDataWrite a v => Sys2Proof.Machine.execVatCplDataWrite a v s
  | .vatCplForwardTimeout id => Sys2Proof.Machine.execVatCplForwardTimeout id s
  | .vatClearReplAgree a v => Sys2Proof.Machine.execVatClearReplAgree a v s
  | .vatClearPrivDeny a v => Sys2Proof.Machine.execVatClearPrivDeny a v s
  | .vatClearAptDrop a v => Sys2Proof.Machine.execVatClearAptDrop a v s
  | .seqCmpEnWrite a v => Sys2Proof.Machine.execSeqCmpEnWrite a v s
  | .mtpWinCmdOpen a v => Sys2Proof.Machine.execMtpWinCmdOpen a v s
  | .mtpWinCmdClose a v => Sys2Proof.Machine.execMtpWinCmdClose a v s
  | .aperturePacketWrite a v => Sys2Proof.Machine.execAperturePacketWrite a v s
  | .ident rq => Sys2Proof.Machine.execIdent rq s
  | .authOpen rq priv keyId => Sys2Proof.Machine.execAuthOpen rq priv keyId s
  | .authProve rq session => Sys2Proof.Machine.execAuthProve rq session s
  | .authProveWindowExpiry session => Sys2Proof.Machine.execAuthProveWindowExpiry session s
  | .authClose rq => Sys2Proof.Machine.execAuthClose rq s
  | .sessionExpiry session => Sys2Proof.Machine.execSessionExpiry session s
  | .vatHealth rq => Sys2Proof.Machine.execVatHealth rq s
  | .ctxLoad rq f pr => Sys2Proof.Machine.execCtxLoad rq f pr s
  | .launchAt rq count => Sys2Proof.Machine.execLaunchAt rq count s
  | .ctxKill rq => Sys2Proof.Machine.execCtxKill rq s
  | .ctxStatus rq => Sys2Proof.Machine.execCtxStatus rq s
  | .relaxSet rq part enable => Sys2Proof.Machine.execRelaxSet rq part enable s
  | .relaxRead rq part clear => Sys2Proof.Machine.execRelaxRead rq part clear s
  | .faultRead rq first count => Sys2Proof.Machine.execFaultRead rq first count s
  | .faultCfg rq template each thresh n w record => Sys2Proof.Machine.execFaultCfg rq template each thresh n w record s
  | .faultZero rq first count => Sys2Proof.Machine.execFaultZero rq first count s
  | .faultClear rq source => Sys2Proof.Machine.execFaultClear rq source s
  | .faultPending rq => Sys2Proof.Machine.execFaultPending rq s
  | .deckleRead rq die segment => Sys2Proof.Machine.execDeckleRead rq die segment s
  | .coreReturn rq pcore => Sys2Proof.Machine.execCoreReturn rq pcore s
  | .reset rq domain target => Sys2Proof.Machine.execReset rq domain target s
  | .ladderCfg rq part n w => Sys2Proof.Machine.execLadderCfg rq part n w s
  | .partRelease rq part => Sys2Proof.Machine.execPartRelease rq part s
  | .oosEnter rq => Sys2Proof.Machine.execOosEnter rq s
  | .serviceResume rq => Sys2Proof.Machine.execServiceResume rq s
  | .wmKeySet rq s0 s1 => Sys2Proof.Machine.execWmKeySet rq s0 s1 s
  | .wmRead rq first count => Sys2Proof.Machine.execWmRead rq first count s
  | .wmVerify rq => Sys2Proof.Machine.execWmVerify rq s
  | .wmVerifyReadDone ctx recs => Sys2Proof.Machine.execWmVerifyReadDone ctx recs s
  | .wmLocate rq refs samePlan => Sys2Proof.Machine.execWmLocate rq refs samePlan s
  | .replicaCfg rq group r index k => Sys2Proof.Machine.execReplicaCfg rq group r index k s
  | .replicaExpel rq group iter => Sys2Proof.Machine.execReplicaExpel rq group iter s
  | .replicaMembers rq r index => Sys2Proof.Machine.execReplicaMembers rq r index s
  | .ticketRead rq ticket => Sys2Proof.Machine.execTicketRead rq ticket s
  | .screenRun rq pcore kind => Sys2Proof.Machine.execScreenRun rq pcore kind s
  | .screenStatus rq => Sys2Proof.Machine.execScreenStatus rq s
  | .tortyWrite rq chunk bytes => Sys2Proof.Machine.execTortyWrite rq chunk bytes s
  | .tortyCommit rq kind len activation dieMask => Sys2Proof.Machine.execTortyCommit rq kind len activation dieMask s
  | .tortyFlashWriteDone kind => Sys2Proof.Machine.execTortyFlashWriteDone kind s
  | .reamAreaSet rq die off len => Sys2Proof.Machine.execReamAreaSet rq die off len s
  | .snapBegin rq snap iter point package delta deadline m => Sys2Proof.Machine.execSnapBegin rq snap iter point package delta deadline m s
  | .snapRelease rq snap => Sys2Proof.Machine.execSnapRelease rq snap s
  | .restore rq snap delta man crc g => Sys2Proof.Machine.execRestore rq snap delta man crc g s
  | .groupSet rq g => Sys2Proof.Machine.execGroupSet rq g s
  | .reclaim rq parts deadline => Sys2Proof.Machine.execReclaim rq parts deadline s
  | .snapDefault rq package base m => Sys2Proof.Machine.execSnapDefault rq package base m s
  | .vatSwitch rq => Sys2Proof.Machine.execVatSwitch rq s
  | .vatStandbyRetry rq => Sys2Proof.Machine.execVatStandbyRetry rq s
  | .fwBegin rq header => Sys2Proof.Machine.execFwBegin rq header s
  | .fwWrite rq off bytes => Sys2Proof.Machine.execFwWrite rq off bytes s
  | .fwCommit rq => Sys2Proof.Machine.execFwCommit rq s
  | .linkQual rq => Sys2Proof.Machine.execLinkQual rq s
  | .linkQualDone lanes => Sys2Proof.Machine.execLinkQualDone lanes s
  | .linkQualRead rq first count => Sys2Proof.Machine.execLinkQualRead rq first count s
  | .feltStatus rq => Sys2Proof.Machine.execFeltStatus rq s
  | .calSet rq field scope value => Sys2Proof.Machine.execCalSet rq field scope value s
  | .sensorSubst rq die sensor => Sys2Proof.Machine.execSensorSubst rq die sensor s
  | .analogLoopback rq lane bits errors => Sys2Proof.Machine.execAnalogLoopback rq lane bits errors s
  | .sensorRead rq die => Sys2Proof.Machine.execSensorRead rq die s
  | .lifecycleSet rq state => Sys2Proof.Machine.execLifecycleSet rq state s
  | .keyEnroll rq cls keyId base count x y => Sys2Proof.Machine.execKeyEnroll rq cls keyId base count x y s
  | .keyRevoke rq cls keyId => Sys2Proof.Machine.execKeyRevoke rq cls keyId s
  | .licenceInstall rq raw => Sys2Proof.Machine.execLicenceInstall rq raw s
  | .licenceRead rq => Sys2Proof.Machine.execLicenceRead rq s
  | .watchSet rq index lc base len kinds tagMatch action => Sys2Proof.Machine.execWatchSet rq index lc base len kinds tagMatch action s
  | .watchClear rq lc index => Sys2Proof.Machine.execWatchClear rq lc index s
  | .brkSet rq kind scope arg arg2 => Sys2Proof.Machine.execBrkSet rq kind scope arg arg2 s
  | .brkClear rq number => Sys2Proof.Machine.execBrkClear rq number s
  | .brkResume rq run => Sys2Proof.Machine.execBrkResume rq run s
  | .gstop rq => Sys2Proof.Machine.execGstop rq s
  | .gstopRelease rq resume => Sys2Proof.Machine.execGstopRelease rq resume s
  | .stopRead rq first count => Sys2Proof.Machine.execStopRead rq first count s
  | .dump rq lock units => Sys2Proof.Machine.execDump rq lock units s
  | .dumpRead rq off unlock => Sys2Proof.Machine.execDumpRead rq off unlock s
  | .ringRead rq ring target first count clear => Sys2Proof.Machine.execRingRead rq ring target first count clear s
  | .counterRead rq pcore count clear => Sys2Proof.Machine.execCounterRead rq pcore count clear s
  | .profRead rq die first count => Sys2Proof.Machine.execProfRead rq die first count s
  | .profClear rq die => Sys2Proof.Machine.execProfClear rq die s
  | .recRead rq area first count => Sys2Proof.Machine.execRecRead rq area first count s
  | .recClear rq scope => Sys2Proof.Machine.execRecClear rq scope s
  | .badopCommandPacket path opcode tag crc lenOk => Sys2Proof.Machine.execBadopCommandPacket path opcode tag crc lenOk s
  | .setEndpointId hub i3c eid setter => Sys2Proof.Machine.execSetEndpointId hub i3c eid setter s
  | .getEndpointId hub i3c => Sys2Proof.Machine.execGetEndpointId hub i3c s
  | .getMctpVersionSupport hub i3c msgType => Sys2Proof.Machine.execGetMctpVersionSupport hub i3c msgType s
  | .getMessageTypeSupport hub i3c => Sys2Proof.Machine.execGetMessageTypeSupport hub i3c s
  | .getVendorDefinedMessageSupport hub i3c => Sys2Proof.Machine.execGetVendorDefinedMessageSupport hub i3c s
  | .getTid hub => Sys2Proof.Machine.execGetTid hub s
  | .getPldmVersion hub pldmType => Sys2Proof.Machine.execGetPldmVersion hub pldmType s
  | .getPldmTypes hub => Sys2Proof.Machine.execGetPldmTypes hub s
  | .getPldmCommands hub pldmType => Sys2Proof.Machine.execGetPldmCommands hub pldmType s
  | .getPdrRepositoryInfo hub => Sys2Proof.Machine.execGetPdrRepositoryInfo hub s
  | .getPdr hub record => Sys2Proof.Machine.execGetPdr hub record s
  | .getSensorReading hub sensor => Sys2Proof.Machine.execGetSensorReading hub sensor s
  | .getStateSensorReadings hub sensor => Sys2Proof.Machine.execGetStateSensorReadings hub sensor s
  | .entdaa hub addr => Sys2Proof.Machine.execEntdaa hub addr s
  | .bridgeInboundAdmit hub => Sys2Proof.Machine.execBridgeInboundAdmit hub s
  | .releaseUnitOpen core descIdx spec last => Sys2Proof.Machine.execReleaseUnitOpen core descIdx spec last s
  | .issueStep core kind seqA seqB pressPoint => Sys2Proof.Machine.execIssueStep core kind seqA seqB pressPoint s
  | .accumulatorAdd core ticket row col acc addend scale => Sys2Proof.Machine.execAccumulatorAdd core ticket row col acc addend scale s
  | .laidCheckResolve core ticket rows csv => Sys2Proof.Machine.execLaidCheckResolve core ticket rows csv s
  | .roundedGroupCheck core ticket group expo mants accs place last => Sys2Proof.Machine.execRoundedGroupCheck core ticket group expo mants accs place last s
  | .dispatchTallyCheck core ticket taus n tally => Sys2Proof.Machine.execDispatchTallyCheck core ticket taus n tally s
  | .pairDigest h r => Sys2Proof.Machine.execPairDigest h r s
  | .laidRes h r => Sys2Proof.Machine.execLaidRes h r s
  | .scratchpadAccess core x => Sys2Proof.Machine.execScratchpadAccess core x s
  | .joinPartialArrival core ticket join fromLc acc value poisoned => Sys2Proof.Machine.execJoinPartialArrival core ticket join fromLc acc value poisoned s
  | .releaseGateTransfer core ticket dst words decision last => Sys2Proof.Machine.execReleaseGateTransfer core ticket dst words decision last s
  | .checkerRail core => Sys2Proof.Machine.execCheckerRail core s
  | .dataTransferArrival x => Sys2Proof.Machine.execDataTransferArrival x s
  | .meshAccessAtFence die reply => Sys2Proof.Machine.execMeshAccessAtFence die reply s
  | .d2dCodewordError die link corrected => Sys2Proof.Machine.execD2dCodewordError die link corrected s
  | .routerBufferEcc die cluster corrected => Sys2Proof.Machine.execRouterBufferEcc die cluster corrected s
  | .clusterBufferEcc die cluster corrected => Sys2Proof.Machine.execClusterBufferEcc die cluster corrected s
  | .uncorrCw die engine lane => Sys2Proof.Machine.execUncorrCw die engine lane s
  | .agentInternal die => Sys2Proof.Machine.execAgentInternal die s
  | .ticketState core => Sys2Proof.Machine.execTicketState core s
  | .counterParity core screen => Sys2Proof.Machine.execCounterParity core screen s
  | .verdict h ticket pass => Sys2Proof.Machine.execVerdict h ticket pass s
  | .faultReport h words => Sys2Proof.Machine.execFaultReport h words s
  | .triageStageADone core r digest => Sys2Proof.Machine.execTriageStageADone core r digest s
  | .stageANotCompleted core => Sys2Proof.Machine.execStageANotCompleted core s
  | .tapSelftestDone core cases => Sys2Proof.Machine.execTapSelftestDone core cases s
  | .spareFillDone lc sent received => Sys2Proof.Machine.execSpareFillDone lc sent received s
  | .triageStageBDone core r digest => Sys2Proof.Machine.execTriageStageBDone core r digest s
  | .replacementReplayDone lc => Sys2Proof.Machine.execReplacementReplayDone lc s
  | .replacementStart lc => Sys2Proof.Machine.execReplacementStart lc s
  | .plannedReplaceSpareTimeout lc => Sys2Proof.Machine.execPlannedReplaceSpareTimeout lc s
  | .latePlacement lc spare => Sys2Proof.Machine.execLatePlacement lc spare s
  | .poolLoan h die block => Sys2Proof.Machine.execPoolLoan h die block s
  | .poolBlockReturn die => Sys2Proof.Machine.execPoolBlockReturn die s
  | .sizingWindowLeaseRequest core start len => Sys2Proof.Machine.execSizingWindowLeaseRequest core start len s
  | .sizingWindowForfeit die => Sys2Proof.Machine.execSizingWindowForfeit die s
  | .sliceStart die core => Sys2Proof.Machine.execSliceStart die core s
  | .shiftSegmentDone die misr => Sys2Proof.Machine.execShiftSegmentDone die misr s
  | .sliceEnd die retained => Sys2Proof.Machine.execSliceEnd die retained s
  | .leaseReq h kind => Sys2Proof.Machine.execLeaseReq h kind s
  | .leaseGrant h die kind expiry => Sys2Proof.Machine.execLeaseGrant h die kind expiry s
  | .leaseReturn h => Sys2Proof.Machine.execLeaseReturn h s
  | .leaseExpiry die => Sys2Proof.Machine.execLeaseExpiry die s
  | .leaseRetryTick die => Sys2Proof.Machine.execLeaseRetryTick die s
  | .leaseBlackoutEnd => Sys2Proof.Machine.execLeaseBlackoutEnd s
  | .relaxedStallScan core reason awaited => Sys2Proof.Machine.execRelaxedStallScan core reason awaited s
  | .screenLate core => Sys2Proof.Machine.execScreenLate core s
  | .screenOverdue core => Sys2Proof.Machine.execScreenOverdue core s
  | .fleetStale => Sys2Proof.Machine.execFleetStale s
  | .distOpen h die dist kind chunks hdr => Sys2Proof.Machine.execDistOpen h die dist kind chunks hdr s
  | .stagingCopyDone die => Sys2Proof.Machine.execStagingCopyDone die s
  | .chunkPaceTick kind => Sys2Proof.Machine.execChunkPaceTick kind s
  | .chunk die dist number bytes crc => Sys2Proof.Machine.execChunk die dist number bytes crc s
  | .distPoll h die dist => Sys2Proof.Machine.execDistPoll h die dist s
  | .bitmap h dist words => Sys2Proof.Machine.execBitmap h dist words s
  | .payloadHashDone die => Sys2Proof.Machine.execPayloadHashDone die s
  | .distAgentAnswer h dist answer => Sys2Proof.Machine.execDistAgentAnswer h dist answer s
  | .distArm h die dist count => Sys2Proof.Machine.execDistArm h die dist count s
  | .distAckDeadline kind => Sys2Proof.Machine.execDistAckDeadline kind s
  | .distDisarm h die dist => Sys2Proof.Machine.execDistDisarm h die dist s
  | .distActivation die => Sys2Proof.Machine.execDistActivation die s
  | .ucodeBankSwitch die => Sys2Proof.Machine.execUcodeBankSwitch die s
  | .firstStageForward die => Sys2Proof.Machine.execFirstStageForward die s
  | .countFwd h batches => Sys2Proof.Machine.execCountFwd h batches s
  | .react h die r => Sys2Proof.Machine.execReact h die r s
  | .nmi h die source => Sys2Proof.Machine.execNmi h die source s
  | .intPostTick => Sys2Proof.Machine.execIntPostTick s
  | .msiAcceptTimeout => Sys2Proof.Machine.execMsiAcceptTimeout s
  | .notifySourceSecondEnd source => Sys2Proof.Machine.execNotifySourceSecondEnd source s
  | .mgmtLinkUp hub => Sys2Proof.Machine.execMgmtLinkUp hub s
  | .mgmtLinkDown hub => Sys2Proof.Machine.execMgmtLinkDown hub s
  | .i3cNotifyRead => Sys2Proof.Machine.execI3cNotifyRead s
  | .notifyRelay h number => Sys2Proof.Machine.execNotifyRelay h number s
  | .hangWatchdogExpiry core => Sys2Proof.Machine.execHangWatchdogExpiry core s
  | .hangWalk h w => Sys2Proof.Machine.execHangWalk h w s
  | .hangFreezeTimeout core => Sys2Proof.Machine.execHangFreezeTimeout core s
  | .tagRevoke h die tag => Sys2Proof.Machine.execTagRevoke h die tag s
  | .teardownDrainEnd ctx discarded barrier => Sys2Proof.Machine.execTeardownDrainEnd ctx discarded barrier s
  | .scrubDone ctx => Sys2Proof.Machine.execScrubDone ctx s
  | .teardownOverrun ctx cores => Sys2Proof.Machine.execTeardownOverrun ctx cores s
  | .fenceCmd h die o => Sys2Proof.Machine.execFenceCmd h die o s
  | .freeze h die cores reason => Sys2Proof.Machine.execFreeze h die cores reason s
  | .genSet h die group gen => Sys2Proof.Machine.execGenSet h die group gen s
  | .domainResetDone domain target => Sys2Proof.Machine.execDomainResetDone domain target s
  | .resetOverrun domain target => Sys2Proof.Machine.execResetOverrun domain target s
  | .agentResetDone die => Sys2Proof.Machine.execAgentResetDone die s
  | .powerCycleReqRepeat => Sys2Proof.Machine.execPowerCycleReqRepeat s
  | .riskRecompute => Sys2Proof.Machine.execRiskRecompute s
  | .xpkgWait core => Sys2Proof.Machine.execXpkgWait core s
  | .snapPointReached lc => Sys2Proof.Machine.execSnapPointReached lc s
  | .snapBarrierComplete ctx poisoned => Sys2Proof.Machine.execSnapBarrierComplete ctx poisoned s
  | .snapHolderAck ctx ream shard words poisoned failed set => Sys2Proof.Machine.execSnapHolderAck ctx ream shard words poisoned failed set s
  | .snapDeadlineExpiry ctx => Sys2Proof.Machine.execSnapDeadlineExpiry ctx s
  | .manifest h ctx man => Sys2Proof.Machine.execManifest h ctx man s
  | .restoreGatherDone ctx remote poisoned set => Sys2Proof.Machine.execRestoreGatherDone ctx remote poisoned set s
  | .reclaimAutoSnapTimeout ctx => Sys2Proof.Machine.execReclaimAutoSnapTimeout ctx s
  | .reclaimDeadline => Sys2Proof.Machine.execReclaimDeadline s
  | .wmDie h ctx layer oper r => Sys2Proof.Machine.execWmDie h ctx layer oper r s
  | .replPart h ctx iter r => Sys2Proof.Machine.execReplPart h ctx iter r s
  | .replicaSlotRead ctx recs conflict => Sys2Proof.Machine.execReplicaSlotRead ctx recs conflict s
  | .replicaRereadDone ctx shards => Sys2Proof.Machine.execReplicaRereadDone ctx shards s
  | .replicaRereadExchange ctx group iter other otherInPass tensors otherFailing => Sys2Proof.Machine.execReplicaRereadExchange ctx group iter other otherInPass tensors otherFailing s
  | .livePeriod => Sys2Proof.Machine.execLivePeriod s
  | .live h die => Sys2Proof.Machine.execLive h die s
  | .stbyLivePeriod => Sys2Proof.Machine.execStbyLivePeriod s
  | .stbyLive h r => Sys2Proof.Machine.execStbyLive h r s
  | .bridged h payload => Sys2Proof.Machine.execBridged h payload s
  | .agentReply h id value error => Sys2Proof.Machine.execAgentReply h id value error s
  | .stopTable h words => Sys2Proof.Machine.execStopTable h words s
  | .feltDump h off bytes => Sys2Proof.Machine.execFeltDump h off bytes s
  | .liveTimeout => Sys2Proof.Machine.execLiveTimeout s
  | .fwWatchdogExpiry => Sys2Proof.Machine.execFwWatchdogExpiry s
  | .activeVatFault trigger source => Sys2Proof.Machine.execActiveVatFault trigger source s
  | .vatFailed h trigger => Sys2Proof.Machine.execVatFailed h trigger s
  | .noStandbyReset => Sys2Proof.Machine.execNoStandbyReset s
  | .gateConfirm h => Sys2Proof.Machine.execGateConfirm h s
  | .deposeGateTimeout => Sys2Proof.Machine.execDeposeGateTimeout s
  | .depose h die gated => Sys2Proof.Machine.execDepose h die gated s
  | .announce h die => Sys2Proof.Machine.execAnnounce h die s
  | .announceReturn h => Sys2Proof.Machine.execAnnounceReturn h s
  | .epochStale h hub epoch => Sys2Proof.Machine.execEpochStale h hub epoch s
  | .stbyLiveTimeout => Sys2Proof.Machine.execStbyLiveTimeout s
  | .mirror h seq => Sys2Proof.Machine.execMirror h seq s
  | .mirrorSynced => Sys2Proof.Machine.execMirrorSynced s
  | .standbySelftestItemDone item pass => Sys2Proof.Machine.execStandbySelftestItemDone item pass s
  | .vatBLoadStart => Sys2Proof.Machine.execVatBLoadStart s
  | .fwLoadDone hub readErrors => Sys2Proof.Machine.execFwLoadDone hub readErrors s
  | .transitFrame die port flits => Sys2Proof.Machine.execTransitFrame die port flits s
  | .feltSpacerTimeout die port => Sys2Proof.Machine.execFeltSpacerTimeout die port s
  | .feltAck h die txn status reelLo => Sys2Proof.Machine.execFeltAck h die txn status reelLo s
  | .credit die port data => Sys2Proof.Machine.execCredit die port data s
  | .idle die port => Sys2Proof.Machine.execIdle die port s
  | .probe die port value => Sys2Proof.Machine.execProbe die port value s
  | .echo die port value => Sys2Proof.Machine.execEcho die port value s
  | .probePeriod die port => Sys2Proof.Machine.execProbePeriod die port s
  | .linkDown die port => Sys2Proof.Machine.execLinkDown die port s
  | .creditTimeout die port => Sys2Proof.Machine.execCreditTimeout die port s
  | .linkSilenceTimeout die port => Sys2Proof.Machine.execLinkSilenceTimeout die port s
  | .partialTxnTimeout die src cls => Sys2Proof.Machine.execPartialTxnTimeout die src cls s
  | .txnResendTimeout die cls seq => Sys2Proof.Machine.execTxnResendTimeout die cls seq s
  | .ringBreak h die ring link => Sys2Proof.Machine.execRingBreak h die ring link s
  | .ringJoin h die ring link count => Sys2Proof.Machine.execRingJoin h die ring link count s
  | .ringJoinActivation die ring => Sys2Proof.Machine.execRingJoinActivation die ring s
  | .stationIsolation die => Sys2Proof.Machine.execStationIsolation die s
  | .stationIsolated die => Sys2Proof.Machine.execStationIsolated die s
  | .stopRise die => Sys2Proof.Machine.execStopRise die s
  | .barrier h die tag gen => Sys2Proof.Machine.execBarrier h die tag gen s
  | .barrierDrained die seq => Sys2Proof.Machine.execBarrierDrained die seq s
  | .agentCmd h die op => Sys2Proof.Machine.execAgentCmd h die op s
  | .laneBerWindowEnd c optical => Sys2Proof.Machine.execLaneBerWindowEnd c optical s
  | .feltLinkQualDone die port echoed errors => Sys2Proof.Machine.execFeltLinkQualDone die port echoed errors s
  | .alignProbe h die value => Sys2Proof.Machine.execAlignProbe h die value s
  | .alignEcho die neighbour port rt1 rt2 rt3 => Sys2Proof.Machine.execAlignEcho die neighbour port rt1 rt2 rt3 s
  | .alignSet h die t halfRt edgeIn => Sys2Proof.Machine.execAlignSet h die t halfRt edgeIn s
  | .alignDone => Sys2Proof.Machine.execAlignDone s
  | .reelCompareTick die => Sys2Proof.Machine.execReelCompareTick die s
  | .reelCmp h die count => Sys2Proof.Machine.execReelCmp h die count s
  | .reelCorrectionResume die => Sys2Proof.Machine.execReelCorrectionResume die s
  | .reelLockLoss die => Sys2Proof.Machine.execReelLockLoss die s
  | .reelLockReturn die => Sys2Proof.Machine.execReelLockReturn die s
  | .refLoss => Sys2Proof.Machine.execRefLoss s
  | .launchArm h die ctx count => Sys2Proof.Machine.execLaunchArm h die ctx count s
  | .launchRelease die ctx => Sys2Proof.Machine.execLaunchRelease die ctx s
  | .stallIntervalSaturate region => Sys2Proof.Machine.execStallIntervalSaturate region s
  | .tempSample die sensor raw => Sys2Proof.Machine.execTempSample die sensor raw s
  | .vmonSample die monitor raw nominal => Sys2Proof.Machine.execVmonSample die monitor raw nominal s
  | .paceSample die monitor raw => Sys2Proof.Machine.execPaceSample die monitor raw s
  | .sensorRefCheck die sensor value ref => Sys2Proof.Machine.execSensorRefCheck die sensor value ref s
  | .analogBistSlice die item index measured second signal => Sys2Proof.Machine.execAnalogBistSlice die item index measured second signal s
  | .brkAddrTrap die addr => Sys2Proof.Machine.execBrkAddrTrap die addr s
  | .brkDrainEnd ctx => Sys2Proof.Machine.execBrkDrainEnd ctx s
  | .brkHoldScreen core => Sys2Proof.Machine.execBrkHoldScreen core s
  | .gstopJtag hub => Sys2Proof.Machine.execGstopJtag hub s
  | .gstopRel h die count => Sys2Proof.Machine.execGstopRel h die count s
  | .gstopReleaseActivation => Sys2Proof.Machine.execGstopReleaseActivation s
  | .dumpUnitDone markerOk image => Sys2Proof.Machine.execDumpUnitDone markerOk image s
  | .dumpUnitTimeout => Sys2Proof.Machine.execDumpUnitTimeout s
  | .recordWriteDone hub ok retryOk => Sys2Proof.Machine.execRecordWriteDone hub ok retryOk s
  | .hoursPersistTick => Sys2Proof.Machine.execHoursPersistTick s
  | .sysRstNRelease => Sys2Proof.Machine.execSysRstNRelease s
  | .sysRstNAssert => Sys2Proof.Machine.execSysRstNAssert s
  | .powerLoss => Sys2Proof.Machine.execPowerLoss s
  | .vatSelfBistDone hub logicOk memoryOk test => Sys2Proof.Machine.execVatSelfBistDone hub logicOk memoryOk test s
  | .agentSelfBistDone die ok calOk test => Sys2Proof.Machine.execAgentSelfBistDone die ok calOk test s
  | .startupScreenTimeout => Sys2Proof.Machine.execStartupScreenTimeout s
  | .deckleMapBuild => Sys2Proof.Machine.execDeckleMapBuild s
  | .inboundBridgedMessage hub i3c payload => Sys2Proof.Machine.execInboundBridgedMessage hub i3c payload s
  | .messageInterruptAccepted => Sys2Proof.Machine.execMessageInterruptAccepted s
  | .partitionAssignment die part => Sys2Proof.Machine.execPartitionAssignment die part s
  | .unsupportedPldmCommand hub pldmType command => Sys2Proof.Machine.execUnsupportedPldmCommand hub pldmType command s

end Sys2Proof.Machine
end

