-- ==== Sys2Proof/Machine/Step.lean ====
section
/-! DEFINITION. One step of the block: the command at the front of its queue, else what a gap held, or one idle count. -/

namespace Sys2Proof.Machine

/-- Takes the command at the front of the queue and answers exec's outcome. On an empty queue, an event that waited for the active Vat or a command that
    a port held during a gap is handled once the gap has ended (Table 1.2, R332, log 17); else the block idles for one count (log 1). -/
def step (s : State) : Host.Outcome State Fault Refusal :=
  match s.pending with
  | [] => match s.released with
    | some (c, t) => exec c t
    | none => .next s.idle
  | c :: rest => exec c { s with pending := rest }

/-- The state with the command that a word spells at the front of its queue; unchanged when it spells none. -/
def State.withFetchWord (s : State) (nbits w : Nat) : State :=
  match decodeTableWord nbits w with
  | some c => { s with pending := c :: s.pending }
  | none => s

end Sys2Proof.Machine
end

