-- ==== Sys2Proof/Machine/Wire.lean ====
section
/-! DEFINITION. Dual-rail signalling (R350) and the words of payloads and bindings (R364, R375, R380). -/

namespace Sys2Proof.Machine

/-! ## Dual-rail signalling (R350) -/

/-- What one dual-rail pair carries. -/
inductive Rail where
  | spacer
  | value (b : Bool)
  | invalid
deriving DecidableEq, Repr, Inhabited
/-- The code of a pair of wires, true rail first (R350). -/
def railOf (t f : Bool) : Rail := if t then (if f then .invalid else .value true) else if f then .value false else .spacer
/-- The true and false rails that carry a bit. -/
def railDrive (b : Bool) : Bool × Bool := (b, !b)
/-- The nibble on four pairs, least significant first, once all four are valid. -/
def nibbleOf : List Rail → Option Nat
  | [.value a, .value b, .value c, .value d] => some (b2n a + 2 * b2n b + 4 * b2n c + 8 * b2n d)
  | _ => none
/-- The four phases of a handshake: what the sender drives, then the level of ACK that the receiver answers with. -/
def handshake (n : Nat) : List (List (Bool × Bool) × Bool) :=
  [((List.range 4).map fun i => railDrive (bit n i), true), (List.replicate 4 (false, false), false)]

/-! ## Payloads (R364, R375) -/

/-- The payload of a FAULT_REPORT: ticket and logical core, physical core and context, layer and operator, source, reel count, step count. -/
def reportWords (ticket lc pcore ctx layer oper source reel step : Nat) : List Nat :=
  [ticket % 2 ^ 18 * 2 ^ 14 + lc % 2 ^ 14, pcore % 2 ^ 16 * 2 ^ 16 + ctx % 2 ^ 12, layer % 2 ^ 16 * 2 ^ 16 + oper % 2 ^ 16, source % 2 ^ 20 * 2 ^ 12,
   reel % 2 ^ 32, bits reel 32 32, step % 2 ^ 32, bits step 32 32]
/-- The first payload word of an ACK: TYPE acknowledged, its SEQ, status (R364). -/
def ackWord (type seq status : Nat) : Nat := type % 256 * 2 ^ 24 + seq % 2 ^ 16 * 2 ^ 8 + status % 256
/-- The payload of a GSTOP_REL: the epoch and the activation count (R364). -/
def gstopRelWords (epoch a : Nat) : List Nat := [epoch % 2 ^ 32, a % 2 ^ 32, bits a 32 32]
/-- The header word of a STOP_TABLE: part, first index, count (R364). -/
def stopHeader (part first count : Nat) : Nat := part % 256 * 2 ^ 24 + first % 256 * 2 ^ 16 + count % 2 ^ 16
/-- A lane ID: die, port or optical engine, lane (R380). -/
def laneId (die port lane : Nat) : Nat := die % 128 * 2 ^ 9 + port % 16 * 2 ^ 5 + lane % 32
/-- A link word of a STOP_TABLE: link ID and the buffer's occupancy in flits (R364). -/
def linkWord (die port flits : Nat) : Nat := laneId die port 0 * 2 ^ 16 + flits % 2 ^ 16
/-- The four bytes that precede an MCTP packet on a management port, as a word: version 1 and the packet's length (R375). -/
def bindingHeader (len : Nat) : Nat := 1 * 2 ^ 28 + len % 2 ^ 16

/-! ## Digests (R135-R139) -/

/-- A digest record's 32 bytes as one number, byte 0 lowest (Table 4.2). -/
def digestNum (r : DigestRec) : Nat := packFields [(32, r.tensor), (32, r.pass), (48, r.count), (16, r.flags), (64, r.d0), (64, r.d1)]

end Sys2Proof.Machine
end

