-- ==== Sys2Proof/Safety.lean ====
section
/-! DEFINITION. The terms that the statements use: stores in canonical form, a command that completes, a packet that is taken, an answer. -/

namespace Sys2Proof

/-- The commands that are packets (Table 13.6, Table 14.12). -/
def Instr.packet : Instr → Bool
  | .ident .. | .authOpen .. | .authProve .. | .authClose .. | .vatHealth .. | .ctxLoad .. | .launchAt .. | .ctxKill .. | .ctxStatus ..
  | .relaxSet .. | .relaxRead .. | .faultRead .. | .faultCfg .. | .faultZero .. | .faultClear .. | .faultPending .. | .deckleRead ..
  | .coreReturn .. | .reset .. | .ladderCfg .. | .partRelease .. | .oosEnter .. | .serviceResume .. | .wmKeySet .. | .wmRead .. | .wmVerify ..
  | .wmLocate .. | .replicaCfg .. | .replicaExpel .. | .replicaMembers .. | .ticketRead .. | .screenRun .. | .screenStatus .. | .tortyWrite ..
  | .tortyCommit .. | .reamAreaSet .. | .snapBegin .. | .snapRelease .. | .restore .. | .groupSet .. | .reclaim .. | .snapDefault ..
  | .vatSwitch .. | .vatStandbyRetry .. | .fwBegin .. | .fwWrite .. | .fwCommit .. | .linkQual .. | .linkQualRead .. | .feltStatus .. | .calSet ..
  | .sensorSubst .. | .analogLoopback .. | .sensorRead .. | .lifecycleSet .. | .keyEnroll .. | .keyRevoke .. | .licenceInstall .. | .licenceRead ..
  | .watchSet .. | .watchClear .. | .brkSet .. | .brkClear .. | .brkResume .. | .gstop .. | .gstopRelease .. | .stopRead .. | .dump ..
  | .dumpRead .. | .ringRead .. | .counterRead .. | .profRead .. | .profClear .. | .recRead .. | .recClear .. => true
  | _ => false

/-- The commands that only answer. -/
def Instr.reads : Instr → Bool
  | .ident .. | .vatHealth .. | .ctxStatus .. | .wmRead .. | .ticketRead .. | .screenStatus .. | .linkQualRead .. | .feltStatus ..
  | .licenceRead .. | .stopRead .. | .profRead .. | .recRead .. | .getEndpointId .. | .getMctpVersionSupport .. | .getMessageTypeSupport ..
  | .getVendorDefinedMessageSupport .. | .getTid .. | .getPldmVersion .. | .getPldmTypes .. | .getPldmCommands .. | .getPdrRepositoryInfo ..
  | .getPdr .. | .getSensorReading .. | .getStateSensorReadings .. | .unsupportedPldmCommand .. => true
  | _ => false

/-- Commands whose effect leaves every tap, every logical core and every ticket as it is. -/
def Instr.sparesTaps : Instr → Bool
  | .vatCplForwardTimeout .. | .ident .. | .authOpen .. | .authProveWindowExpiry .. | .authClose .. | .sessionExpiry .. | .vatHealth ..
  | .launchAt .. | .ctxKill .. | .ctxStatus .. | .relaxSet .. | .relaxRead .. | .faultRead .. | .faultCfg .. | .faultZero .. | .faultClear ..
  | .faultPending .. | .ladderCfg .. | .oosEnter .. | .wmKeySet .. | .wmRead .. | .wmVerify .. | .wmLocate .. | .replicaExpel ..
  | .replicaMembers .. | .ticketRead .. | .screenRun .. | .screenStatus .. | .tortyWrite .. | .tortyCommit .. | .tortyFlashWriteDone ..
  | .snapBegin .. | .snapRelease .. | .restore .. | .groupSet .. | .reclaim .. | .snapDefault .. | .vatSwitch .. | .vatStandbyRetry ..
  | .fwBegin .. | .fwWrite .. | .fwCommit .. | .linkQual .. | .linkQualDone .. | .linkQualRead .. | .feltStatus .. | .calSet .. | .sensorSubst ..
  | .sensorRead .. | .keyEnroll .. | .keyRevoke .. | .licenceInstall .. | .licenceRead .. | .brkSet .. | .brkClear .. | .gstopRelease ..
  | .stopRead .. | .dumpRead .. | .profRead .. | .profClear .. | .recRead .. | .recClear .. | .badopCommandPacket .. | .setEndpointId ..
  | .getEndpointId .. | .getMctpVersionSupport .. | .getMessageTypeSupport .. | .getVendorDefinedMessageSupport .. | .getTid ..
  | .getPldmVersion .. | .getPldmTypes .. | .getPldmCommands .. | .getPdrRepositoryInfo .. | .getPdr .. | .getSensorReading ..
  | .getStateSensorReadings .. | .entdaa .. | .bridgeInboundAdmit .. | .meshAccessAtFence .. | .poolBlockReturn .. | .sizingWindowLeaseRequest ..
  | .sizingWindowForfeit .. | .leaseReq .. | .leaseReturn .. | .leaseRetryTick .. | .leaseBlackoutEnd | .stagingCopyDone .. | .chunkPaceTick ..
  | .bitmap .. | .distAgentAnswer .. | .distAckDeadline .. | .distActivation .. | .ucodeBankSwitch .. | .firstStageForward .. | .nmi ..
  | .intPostTick | .notifySourceSecondEnd .. | .powerCycleReqRepeat | .riskRecompute | .xpkgWait .. | .reclaimAutoSnapTimeout .. | .livePeriod
  | .stbyLivePeriod | .stbyLive .. | .bridged .. | .stopTable .. | .feltDump .. | .liveTimeout | .fwWatchdogExpiry | .vatFailed ..
  | .gateConfirm .. | .deposeGateTimeout | .epochStale .. | .stbyLiveTimeout | .mirrorSynced | .vatBLoadStart | .credit .. | .idle .. | .probe ..
  | .echo .. | .probePeriod .. | .linkDown .. | .linkSilenceTimeout .. | .partialTxnTimeout .. | .ringBreak .. | .ringJoin ..
  | .ringJoinActivation .. | .barrierDrained .. | .alignProbe .. | .alignEcho .. | .alignSet .. | .reelCompareTick .. | .reelCorrectionResume ..
  | .reelLockReturn .. | .stallIntervalSaturate .. | .hoursPersistTick | .startupScreenTimeout | .deckleMapBuild | .messageInterruptAccepted
  | .partitionAssignment .. | .unsupportedPldmCommand .. => true
  | _ => false

/-- Commands whose effect leaves the package's own state and the debug unit as they are. -/
def Instr.sparesPackage : Instr → Bool
  | .registerLoRead .. | .mtpWmOperRead .. | .mtpStallLoRead .. | .vatCplDataRead .. | .vatCplForwardTimeout .. | .ident .. | .authOpen ..
  | .authProveWindowExpiry .. | .authClose .. | .sessionExpiry .. | .vatHealth .. | .launchAt .. | .ctxStatus .. | .faultRead .. | .faultCfg ..
  | .faultZero .. | .faultClear .. | .faultPending .. | .coreReturn .. | .ladderCfg .. | .wmKeySet .. | .wmRead .. | .wmVerify .. | .wmLocate ..
  | .replicaMembers .. | .ticketRead .. | .screenRun .. | .screenStatus .. | .tortyWrite .. | .snapBegin .. | .snapRelease .. | .restore ..
  | .groupSet .. | .snapDefault .. | .vatStandbyRetry .. | .linkQual .. | .linkQualRead .. | .feltStatus .. | .sensorSubst .. | .sensorRead ..
  | .licenceRead .. | .watchSet .. | .watchClear .. | .brkSet .. | .brkClear .. | .stopRead .. | .ringRead .. | .counterRead .. | .profRead ..
  | .profClear .. | .recRead .. | .recClear .. | .badopCommandPacket .. | .setEndpointId .. | .getEndpointId .. | .getMctpVersionSupport ..
  | .getMessageTypeSupport .. | .getVendorDefinedMessageSupport .. | .getTid .. | .getPldmVersion .. | .getPldmTypes .. | .getPldmCommands ..
  | .getPdrRepositoryInfo .. | .getPdr .. | .getSensorReading .. | .getStateSensorReadings .. | .entdaa .. | .bridgeInboundAdmit ..
  | .meshAccessAtFence .. | .replacementStart .. | .latePlacement .. | .poolBlockReturn .. | .sizingWindowLeaseRequest ..
  | .sizingWindowForfeit .. | .leaseReq .. | .leaseReturn .. | .leaseRetryTick .. | .leaseBlackoutEnd | .screenLate .. | .stagingCopyDone ..
  | .chunkPaceTick .. | .bitmap .. | .distAgentAnswer .. | .distAckDeadline .. | .firstStageForward .. | .nmi .. | .intPostTick
  | .notifySourceSecondEnd .. | .hangFreezeTimeout .. | .riskRecompute | .xpkgWait .. | .snapPointReached .. | .snapDeadlineExpiry ..
  | .reclaimAutoSnapTimeout .. | .livePeriod | .stbyLivePeriod | .stbyLive .. | .bridged .. | .mirrorSynced | .vatBLoadStart | .credit ..
  | .idle .. | .probe .. | .echo .. | .probePeriod .. | .linkDown .. | .linkSilenceTimeout .. | .partialTxnTimeout .. | .ringBreak ..
  | .ringJoin .. | .ringJoinActivation .. | .stationIsolation .. | .stopRise .. | .barrierDrained .. | .alignProbe .. | .alignSet ..
  | .reelCompareTick .. | .reelCorrectionResume .. | .reelLockReturn .. | .launchRelease .. | .stallIntervalSaturate .. | .brkAddrTrap ..
  | .brkHoldScreen .. | .messageInterruptAccepted | .unsupportedPldmCommand .. => true
  | _ => false

/-- Commands whose effect leaves every die as it is. -/
def Instr.sparesDies : Instr → Bool
  | .vatCplForwardTimeout .. | .ident .. | .authOpen .. | .authProveWindowExpiry .. | .authClose .. | .sessionExpiry .. | .vatHealth ..
  | .launchAt .. | .ctxKill .. | .ctxStatus .. | .faultRead .. | .faultCfg .. | .faultZero .. | .faultClear .. | .faultPending .. | .ladderCfg ..
  | .wmKeySet .. | .wmRead .. | .wmVerify .. | .replicaExpel .. | .replicaMembers .. | .ticketRead .. | .screenStatus .. | .tortyWrite ..
  | .tortyCommit .. | .tortyFlashWriteDone .. | .reamAreaSet .. | .snapBegin .. | .snapRelease .. | .restore .. | .groupSet .. | .reclaim ..
  | .snapDefault .. | .vatSwitch .. | .vatStandbyRetry .. | .fwBegin .. | .fwWrite .. | .fwCommit .. | .linkQual .. | .linkQualDone ..
  | .linkQualRead .. | .feltStatus .. | .calSet .. | .keyEnroll .. | .keyRevoke .. | .licenceInstall .. | .licenceRead .. | .watchSet ..
  | .watchClear .. | .gstopRelease .. | .stopRead .. | .dumpRead .. | .ringRead .. | .profRead .. | .recRead .. | .recClear ..
  | .badopCommandPacket .. | .setEndpointId .. | .getEndpointId .. | .getMctpVersionSupport .. | .getMessageTypeSupport ..
  | .getVendorDefinedMessageSupport .. | .getTid .. | .getPldmVersion .. | .getPldmTypes .. | .getPldmCommands .. | .getPdrRepositoryInfo ..
  | .getPdr .. | .getSensorReading .. | .getStateSensorReadings .. | .entdaa .. | .bridgeInboundAdmit .. | .replacementStart ..
  | .latePlacement .. | .leaseReq .. | .leaseReturn .. | .leaseBlackoutEnd | .screenLate .. | .chunkPaceTick .. | .distAckDeadline .. | .nmi ..
  | .intPostTick | .notifySourceSecondEnd .. | .scrubDone .. | .riskRecompute | .xpkgWait .. | .snapPointReached .. | .snapDeadlineExpiry ..
  | .reclaimAutoSnapTimeout .. | .reclaimDeadline | .livePeriod | .stbyLivePeriod | .stbyLive .. | .bridged .. | .stopTable .. | .feltDump ..
  | .liveTimeout | .fwWatchdogExpiry | .vatFailed .. | .gateConfirm .. | .deposeGateTimeout | .epochStale .. | .mirrorSynced | .vatBLoadStart
  | .credit .. | .idle .. | .probe .. | .echo .. | .probePeriod .. | .partialTxnTimeout .. | .ringJoin .. | .alignProbe ..
  | .stallIntervalSaturate .. | .brkAddrTrap .. | .hoursPersistTick | .messageInterruptAccepted | .partitionAssignment ..
  | .unsupportedPldmCommand .. => true
  | _ => false

end Sys2Proof

namespace Sys2Proof.Machine

/-- The per-part stores of a state are canonical: rising keys, no entry equal to what an unlisted key reads as. -/
def State.canonical (s : State) : Bool := twf {} s.dies && twf {} s.cores && twf {} s.lcs

/-- The command `i` completes at `s`: exec answers a next state, and `P` holds of it. -/
def Gives (i : Instr) (s : State) (P : State → Prop) : Prop := ∃ t, exec i s = .next t ∧ P t

/-- The output `o` leaves the machine between `s` and `t`: it is among the outputs of `t` that `s` does not have. -/
def Emits (s t : State) (o : Out) : Prop := ∃ l, t.out = l ++ s.out ∧ o ∈ l

/-- A packet of opcode `op` is taken at `s` (R410, R416, R417, R419): a Vat acts, no port holds commands for a gap (R332), the packet enters by its hub
    or by the aperture or is VAT_HEALTH (R49), it is no duplicate, the checks of Table 13.3 other than the signature's pass, the limits leave room, and
    no Tenant asks for a context in teardown, but to load or kill it (Table 13.7). -/
def State.takes (s : State) (rq : Req) (op : OpInfo) (ctxs : List Nat) (idsOk : Bool) : Bool :=
  s.acting.isSome && (pathHub rq.path == none || s.sh.gap.isNone) &&
    (pathHub rq.path == none || pathHub rq.path == s.acting || op.code == 0x0005) && (s.duplicate rq op.code).isNone &&
      (s.checkPacket rq op ctxs idsOk).isNone &&
    !s.atLimit rq && (rq.priv != .tenant || op.code == 0x0100 || op.code == 0x0102 || ctxs.all fun c => (s.ctx c).state != 3)

/-- The packet of the command `i` is taken at `s`: with its opcode, least privilege and life-cycle kind (Table 13.6, Table 14.12, Table 13.4), the
    contexts it names, and its identifiers in range (Table 13.3 step 7); its signature apart (`signs`). -/
def State.admits (s : State) : Instr → Bool
  | .ident rq => s.takes rq { code := 0x0001, least := .none, kind := .base, rom := true } [] true
  | .authOpen rq priv _ => s.takes rq { code := 0x0002, least := .none, kind := .base, rom := true } [] (decide (priv ≤ 2))
  | .authProve rq _ => s.takes rq { code := 0x0003, least := .none, kind := .base, rom := true } [] true
  | .authClose rq => s.takes rq { code := 0x0004, least := .tenant, kind := .base, rom := true } [] true
  | .vatHealth rq => s.takes rq { code := 0x0005, least := .none, kind := .base, rom := true } [] true
  | .ctxLoad rq _ _ => s.takes rq { code := 0x0100, least := .tenant, kind := .other } [rq.ctx] true
  | .launchAt rq _ => s.takes rq { code := 0x0101, least := .tenant, kind := .other } [rq.ctx] true
  | .ctxKill rq => s.takes rq { code := 0x0102, least := .tenant, kind := .other } [rq.ctx] true
  | .ctxStatus rq => s.takes rq { code := 0x0103, least := .tenant, kind := .read } [rq.ctx] true
  | .relaxSet rq part _ => s.takes rq { code := 0x0104, least := .operator, kind := .other } [] (decide (part < 32))
  | .relaxRead rq part clear => s.takes rq { code := 0x0105, least := .operator, kind := .read } [] (decide (part < 32) && decide (clear ≤ 1))
  | .faultRead rq first _ => s.takes rq { code := 0x0200, least := .tenant, kind := .read, rom := true } [] (decide (first < 1048576))
  | .faultCfg rq template _ _ _ _ _ => s.takes rq { code := 0x0201, least := .operator, kind := .other } [] (decide (template < 1048576))
  | .faultZero rq first _ => s.takes rq { code := 0x0202, least := .tenant, kind := .other } [] (decide (first < 1048576))
  | .faultClear rq source => s.takes rq { code := 0x0203, least := .operator, kind := .other } [] (decide (source < 1048576))
  | .faultPending rq => s.takes rq { code := 0x0204, least := .operator, kind := .read, rom := true } [] true
  | .deckleRead rq die _ => s.takes rq { code := 0x0300, least := .operator, kind := .read } [] (isCompute die)
  | .coreReturn rq pcore => s.takes rq { code := 0x0301, least := .operator, kind := .other } [] (validCore pcore)
  | .reset rq domain target =>
      s.takes rq { code := 0x0302, least := .operator, kind := .other, rom := domain == 4 } [] (resetTargetOk domain target)
  | .ladderCfg rq part _ _ => s.takes rq { code := 0x0303, least := .operator, kind := .other } [] (decide (part < 32))
  | .partRelease rq part => s.takes rq { code := 0x0304, least := .operator, kind := .other } [] (decide (part < 32))
  | .oosEnter rq => s.takes rq { code := 0x0305, least := .operator, kind := .other } [] true
  | .serviceResume rq => s.takes rq { code := 0x0306, least := .operator, kind := .other } [] true
  | .wmKeySet rq _ _ => s.takes rq { code := 0x0400, least := .tenant, kind := .other } [rq.ctx] true
  | .wmRead rq first _ => s.takes rq { code := 0x0401, least := .tenant, kind := .read } [] (decide (first < 65536))
  | .wmVerify rq => s.takes rq { code := 0x0402, least := .tenant, kind := .other } [rq.ctx] true
  | .wmLocate rq refs _ =>
      s.takes rq { code := 0x0403, least := .tenant, kind := .read } [rq.ctx] (refs.all fun r => match r.lc with | some n => decide (n < 13824) | none => true)
  | .replicaCfg rq _ _ _ _ => s.takes rq { code := 0x0404, least := .operator, kind := .other } [rq.ctx] true
  | .replicaExpel rq _ iter => s.takes rq { code := 0x0405, least := .operator, kind := .other } [rq.ctx] (decide (iter < 2 ^ 32))
  | .replicaMembers rq _ _ => s.takes rq { code := 0x0406, least := .operator, kind := .other } [rq.ctx] true
  | .ticketRead rq ticket => s.takes rq { code := 0x0500, least := .tenant, kind := .read } [] (decide (ticket < 262144))
  | .screenRun rq pcore kind => s.takes rq { code := 0x0600, least := .operator, kind := .other } [] (validCore pcore && (kind == 1 || kind == 3))
  | .screenStatus rq => s.takes rq { code := 0x0601, least := .operator, kind := .read } [] true
  | .tortyWrite rq chunk bytes =>
      s.takes rq { code := 0x0602, least := .operator, kind := .other } [] (decide (bytes.length ≤ 496)
        && decide (chunk * 496 + bytes.length ≤ 4194304))
  | .tortyCommit rq _ _ _ _ => s.takes rq { code := 0x0603, least := .operator, kind := .other } [] true
  | .reamAreaSet rq die off _ => s.takes rq { code := 0x0700, least := .operator, kind := .other } [] (isCompute die && decide (off < s.pkg.spad))
  | .snapBegin rq _ _ _ _ _ _ _ => s.takes rq { code := 0x0701, least := .tenant, kind := .other } [rq.ctx] true
  | .snapRelease rq _ => s.takes rq { code := 0x0702, least := .tenant, kind := .other } [rq.ctx] true
  | .restore rq _ _ _ _ _ => s.takes rq { code := 0x0703, least := .tenant, kind := .other } [rq.ctx] true
  | .groupSet rq _ => s.takes rq { code := 0x0704, least := .operator, kind := .other } [rq.ctx] true
  | .reclaim rq parts _ => s.takes rq { code := 0x0705, least := .operator, kind := .other } [] (decide (parts < 2 ^ 32))
  | .snapDefault rq _ _ _ => s.takes rq { code := 0x0706, least := .tenant, kind := .other } [rq.ctx] true
  | .vatSwitch rq => s.takes rq { code := 0x0800, least := .operator, kind := .other } [] true
  | .vatStandbyRetry rq => s.takes rq { code := 0x0801, least := .operator, kind := .other } [] true
  | .fwBegin rq header => s.takes rq { code := 0x0802, least := .operator, kind := .setup, rom := true } [] (decide (header.length = 256))
  | .fwWrite rq off bytes =>
      s.takes rq { code := 0x0803, least := .operator, kind := .setup, rom := true } [] (decide (bytes.length ≤ 492)
        && decide (off + bytes.length ≤ 67108864))
  | .fwCommit rq => s.takes rq { code := 0x0804, least := .operator, kind := .setup, rom := true } [] true
  | .linkQual rq => s.takes rq { code := 0x0900, least := .operator, kind := .other } [] true
  | .linkQualRead rq _ _ => s.takes rq { code := 0x0901, least := .operator, kind := .read } [] true
  | .feltStatus rq => s.takes rq { code := 0x0902, least := .operator, kind := .read } [] true
  | .calSet rq field scope _ => s.takes rq { code := 0x0A00, least := .operator, kind := .other } [] (calScopeOk field scope)
  | .sensorSubst rq die sensor =>
      s.takes rq { code := 0x0A01, least := .operator, kind := .other } [] (isDie die && decide (sensor < sensorCount die))
  | .analogLoopback rq lane _ _ => s.takes rq { code := 0x0A02, least := .operator, kind := .other } [] (isDie (lane / 512))
  | .sensorRead rq die => s.takes rq { code := 0x0A03, least := .operator, kind := .read, rom := true } [] (isDie die)
  | .lifecycleSet rq state => s.takes rq { code := 0x0B00, least := .operator, kind := .setup } [] (decide (state ≤ 4))
  | .keyEnroll rq cls _ base _ _ _ =>
      s.takes rq { code := 0x0B01, least := .operator, kind := .setup } [] ((cls == 1 || cls == 2) && decide (base < 4096))
  | .keyRevoke rq cls _ => s.takes rq { code := 0x0B02, least := .operator, kind := .other } [] (cls == 1 || cls == 2)
  | .licenceInstall rq raw => s.takes rq { code := 0x0B03, least := .operator, kind := .setup } [] (decide (raw.length = 256))
  | .licenceRead rq => s.takes rq { code := 0x0B04, least := .operator, kind := .read } [] true
  | .watchSet rq index lc base _ kinds tagMatch action =>
      s.takes rq { code := 0x0C00, least := .tenant, kind := .other } [rq.ctx] (decide (index < 8) && decide (lc < 13824) && base % 64 == 0
        && decide (base + 64 ≤ s.pkg.spad) && decide (kinds < 64) && decide (tagMatch ≤ 1) && decide (action < 16) && s.enabled (s.homeDie lc))
  | .watchClear rq lc index =>
      s.takes rq { code := 0x0C01, least := .tenant, kind := .other } [rq.ctx] (decide (index < 8) && decide (lc < 13824)
        && s.enabled (s.homeDie lc))
  | .brkSet rq kind scope arg arg2 =>
      s.takes rq { code := 0x0C02, least := .tenant, kind := .other } [rq.ctx] (decide (kind < 3) && decide (scope ≤ 1)
        && (kind != 0 || decide (arg < 2 ^ 40)) && (kind != 1 || decide (arg < 13824)) && (kind != 2 || (decide (arg < 65536)
        && decide (arg2 < 65536))))
  | .brkClear rq number => s.takes rq { code := 0x0C03, least := .tenant, kind := .other } [rq.ctx] (decide (number < 16) || number == 0xFF)
  | .brkResume rq run => s.takes rq { code := 0x0C04, least := .tenant, kind := .other } [rq.ctx] (decide (run < 2 ^ 64))
  | .gstop rq => s.takes rq { code := 0x0C05, least := .operator, kind := .other } [] true
  | .gstopRelease rq resume => s.takes rq { code := 0x0C06, least := .operator, kind := .other } [] (decide (resume ≤ 1))
  | .stopRead rq first _ => s.takes rq { code := 0x0C07, least := .operator, kind := .read, debug := true } [] (decide (first < 14976))
  | .dump rq lock units =>
      s.takes rq { code := 0x0C08, least := .operator, kind := .other, debug := true } [] (decide (lock ≤ 1) && decide (0 < units.length)
        && decide (units.length ≤ 41) && units.all s.unitOk)
  | .dumpRead rq off unlock =>
      s.takes rq { code := 0x0C09, least := .operator, kind := .read, debug := true } [] (decide (unlock ≤ 1) && decide (off < 0x800000))
  | .ringRead rq ring target first _ clear =>
      s.takes rq { code := 0x0C0A, least := .tenant, kind := .read } [rq.ctx] (decide (ring ≤ 1) && decide (clear ≤ 1) && decide (first < 256)
        && (if ring = 0 then decide (target < 13824) && s.enabled (s.homeDie target) else decide (target < 100)
        && (!isCompute target || s.enabled target)))
  | .counterRead rq pcore _ clear =>
      s.takes rq { code := 0x0C0B, least := .operator, kind := .read } [] (validCore pcore && decide (clear ≤ 1) && s.enabled (coreDie pcore))
  | .profRead rq die _ _ => s.takes rq { code := 0x0C0C, least := .tenant, kind := .read } [rq.ctx] (isCompute die && s.enabled die)
  | .profClear rq die => s.takes rq { code := 0x0C0D, least := .tenant, kind := .other } [rq.ctx] ((isCompute die && s.enabled die) || die == 0xFF)
  | .recRead rq area first _ =>
      s.takes rq { code := 0x0C0E, least := .operator, kind := .read, rom := true } [] (decide (area ≤ 1) && (area == 0 || decide (first < 4096)))
  | .recClear rq scope => s.takes rq { code := 0x0C0F, least := .operator, kind := .other } [] (decide (scope ≤ 1))
  | _ => false

/-- The packet's signature verifies, where its command requires one (R425). -/
def State.signs (s : State) : Instr → Bool
  | .serviceResume rq => s.signedOk rq { code := 0x0306, least := .operator, kind := .other, signed := true }
  | .lifecycleSet rq state =>
      s.signedOk rq { code := 0x0B00, least := .operator, kind := .setup, signed := true, params := [(8, state)] }
  | .keyEnroll rq cls keyId base count x y =>
      s.signedOk rq { code := 0x0B01, least := .operator, kind := .setup, signed := true,
                      params := [(8, cls), (32, keyId), (16, base), (16, count), (384, x), (384, y)] }
  | .keyRevoke rq cls keyId =>
      s.signedOk rq { code := 0x0B02, least := .operator, kind := .other, signed := true, params := [(8, cls), (32, keyId)] }
  | .recClear rq scope =>
      s.signedOk rq { code := 0x0C0F, least := .operator, kind := .other, signed := true, params := [(8, scope)] }
  | _ => true

/-- The reply that the requester of a packet finds: in its slot when the slot shows DONE for this packet, else the retained reply (R406, R416). -/
def State.replyAt (t : State) (path : Path) (tag crc : Nat) : Option Reply :=
  match path with
  | .aperture k => let x := tget {} t.sh.slots k; if x.state = 3 ∧ x.crc = crc then x.reply else none
  | p => (t.sh.retained.find? fun x => x.path == p && x.tag == tag && x.crc == crc).map (·.reply)

/-- The packet is answered with an opcode, a status and result data (R414). -/
def State.answers (t : State) (rq : Req) (opcode status : Nat) (data : List (Nat × Nat)) : Prop :=
  ∃ r, t.replyAt rq.path rq.tag rq.crc = some r ∧ r.opcode = opcode ∧ r.tag = rq.tag ∧ r.status = status ∧ r.data = data

/-- The packet's command runs (R410): it is among the running commands, with its opcode and context. -/
def State.runs (t : State) (rq : Req) (opcode ctx : Nat) : Prop :=
  ∃ x ∈ t.sh.runs, x.path = rq.path ∧ x.tag = rq.tag ∧ x.crc = rq.crc ∧ x.opcode = opcode ∧ x.ctx = ctx

/-- The running command `x` completes between `s` and `t`, with a status and result data; any clamp makes success ST_CLAMPED (R408, R410, R420). -/
def State.ended (s t : State) (x : Run) (status : Nat) (data : List (Nat × Nat)) : Prop :=
  t.sh.runs = s.sh.runs.erase x ∧ ∃ r, t.replyAt x.path x.tag x.crc = some r ∧ r.opcode = x.opcode ∧ r.tag = x.tag ∧
    r.status = (if status = 0 ∧ x.clamps ≠ [] then 2 else status) ∧ r.data = data

/-- A Felt transaction that arrives at a station for the first time (R363). -/
def State.unseen (s : State) (rcv : Nat) (h : Hdr) (type : Nat) : Bool :=
  !seqSeen (tget [] s.felt.seen (seenKey rcv h.src type)) h.seq

/-- An agent's transaction that arrives at the acting Vat for the first time, and is not one that an agent returns in step 4 of a switch-over (R330,
    R363). -/
def State.newAt (s : State) (v : Hub) (h : Hdr) (type : Nat) : Bool := (s.sh.gap.map (·.step)) != some 4 && s.unseen (hubDie v) h type

/-- Core `p` carries logical core `n`, which runs context `c` with a plan (R41, R256). -/
abbrev State.carries (s : State) (p n c : Nat) : Prop :=
  validCore p = true ∧ s.lcOf p = some n ∧ s.carrier n = some p ∧ s.lcCtx n = some c ∧ (s.ctx c).plan ≠ none

/-- Ticket `k` is an open unit of core `p`, with no detection so far (R98, R130). -/
abbrev State.unitOpen (s : State) (p k : Nat) : Prop :=
  validCore p = true ∧ s.lcOf p = some (k / 16) ∧ s.carrier (k / 16) = some p ∧ (s.ticket k).lc = k / 16 ∧ (s.ticket k).state = .opened ∧
    (s.ticket k).codes = 0

/-- The unit of ticket `k` has failed with a primary cause: its ticket is in TRIAGE and its core is frozen (R30, R130). -/
abbrev State.triaged (t : State) (p k cause : Nat) : Prop := (t.ticket k).state = .triage ∧ (t.ticket k).primary = cause ∧ (t.core p).frozen = true

/-- No triage or re-placement is in progress or waits. -/
abbrev State.quiet (s : State) : Prop := s.sh.triages = [] ∧ s.sh.triageQ = [] ∧ s.sh.replaces = []

/-- The triage `x` is the only one, and no triage or re-placement waits. -/
abbrev State.alone (s : State) (x : Triage) : Prop := s.sh.triages = [x] ∧ s.sh.triageQ = [] ∧ s.sh.replaces = []

/-- A part of a unit's checks completes: with every part the ticket closes as passed (Table 5.2). -/
def State.partEnded (s t : State) (k part : Nat) : Prop :=
  if unitNeeds (s.unitDesc k) (s.ticket k).spec &&& ((s.ticket k).checks ||| part) = unitNeeds (s.unitDesc k) (s.ticket k).spec then
    (t.ticket k).state = .free ∧ (t.ticket k).last = if (s.ticket k).released then 2 else 1
  else (t.ticket k).checks = (s.ticket k).checks ||| part

/-- An event record is written between `s` and `t` (R460, R463): it takes the next sequence number and is in hub A's queue or staging buffer. -/
def State.recorded (s t : State) (code source p1 p2 p3 : Nat) : Prop :=
  t.sh.recSeq = (s.sh.recSeq + 1) % 2 ^ 32 ∧ ∃ r ∈ t.vatA.staging ++ t.vatA.writing, r.seq = s.sh.recSeq ∧ r.code = code ∧ r.source = source ∧
    r.p1 = p1 % 2 ^ 24 ∧ r.p2 = p2 % 2 ^ 24 ∧ r.p3 = p3 % 2 ^ 24

/-- An event of a source that its agent only counts: its class takes no NMI, BLK, PKG or PIN on each event (R230, R235). -/
def State.calm (s : State) (src : Nat) : Bool :=
  match classOf src with
  | some key => (s.cfg key).each % 16 == 0
  | none => false

/-- An event of a source that the Vat only counts: it takes no reaction on each event, and it does not cross its threshold, or takes no reaction and
    no fixed action there (R234, R235). -/
def State.steady (s : State) (src : Nat) : Bool :=
  match classOf src with
  | some key => (s.cfg key).each % 16 == 0 && ((s.bump src 1 s.now).2.isNone || ((s.cfg key).thresh % 16 == 0 && decide (64 ≤ key) && key != 235))
  | none => false

/-- A signature that does not verify: when AUTH_FAIL of the acting Vat's hub is only counted, the packet is answered with ST_DENIED and reason 3 (R419
    step 3, R422). -/
def State.deniesSignature (s t : State) (rq : Req) (opcode : Nat) : Prop :=
  ∀ v, s.acting = some v → s.steady (hubSource v 6) = true → t.answers rq opcode stDenied [(32, 3)]

/-- A class asks for no package reset, on each event or at its threshold (R230, R237). -/
abbrev State.noPkg (s : State) (key : Nat) : Prop := bit (s.cfg key).each 1 = false ∧ bit (s.cfg key).thresh 1 = false

/-- The count that a die's agent holds for a source at its first stage (R25). -/
def State.firstCount (s : State) (d src : Nat) : Nat := (tget {} (s.die d).first src).count

/-- The address of a register of a Vat's window (Table 0.4). -/
def vatAddr (h : Hub) (off : Nat) : Nat :=
  match h with
  | .a => 0xF0000000 + off
  | .b => 0xF0100000 + off

/-- The address of a register of a tap (R10). -/
def tapAddr (p off : Nat) : Nat := 0xE0006000 + (0x10000 * coreDie p + 0x100 * coreIndex p + off)

end Sys2Proof.Machine
end

