-- ==== Sys2Proof/Certificates/Slice0/Obligations.lean ====
section
/-! DEFINITION. The statements about the machine. -/

open Sys2Proof Sys2Proof.Machine

/-! ## Registers and windows (00, 16) -/

/-- Each register command completes with its own effect: a write stores, the reads that latch answer and latch, VAT_CPL_DATA is read and written at the
    selected die, and a forwarded access that has no answer ends in an error response.
    It rests on the model's choices of logs 7, 11, 59 and 84. -/
def Obligations.RegisterCommandsComplete : Prop :=
  (∀ s h pr tag (v : Word), (s.vat h).role = .active → privMeets pr .operator = true → bit s.sh.msiCtl 31 = false →
    Gives (.registerWrite ⟨vatAddr h 0x09C, 4, pr, tag⟩ v) s fun t => t.sh.msiFault = v.toNat ∧ Emits s t .writeDone) ∧
  (∀ s h pr tag, (s.vat h).role = .active →
    Gives (.registerLoRead ⟨vatAddr h 0x030, 4, pr, tag⟩) s fun t =>
      (t.vat h).reelHi = bits (s.dieReel (hubDie h)) 32 32 ∧ Emits s t (.readValue (BitVec.ofNat 32 (s.dieReel (hubDie h) % 2 ^ 32)))) ∧
  (∀ s p pr tag, s.served = true → validCore p = true → (s.die (coreDie p)).inReset = false → s.cstate p < 6 → s.tapMeets p .tenant pr tag = true →
    Gives (.mtpWmOperRead ⟨tapAddr p 0x44, 4, pr, tag⟩) s fun t =>
      (t.core p).wmLatch = s.wmSet p ∧
        Emits s t (.readValue (BitVec.ofNat 32 ((s.wmSet p).layer * 2 ^ 16 + (s.wmSet p).oper)))) ∧
  (∀ s p pr tag, s.served = true → validCore p = true → (s.die (coreDie p)).inReset = false → s.cstate p < 6 → s.tapMeets p .operator pr tag = true →
    Gives (.mtpStallLoRead ⟨tapAddr p 0x80, 4, pr, tag⟩) s fun t =>
      tget 0 (t.core p).hi 0x84 = bits (s.stallTime p (s.core p).stallSel) 32 32 ∧
        Emits s t (.readValue (BitVec.ofNat 32 (s.stallTime p (s.core p).stallSel % 2 ^ 32)))) ∧
  (∀ s h pr tag, s.activeHub = some h → privMeets pr .operator = true → (s.vat h).cplDie < 100 → (s.die (s.vat h).cplDie).inReset = false →
    Gives (.vatCplDataRead ⟨vatAddr h 0x0AC, 4, pr, tag⟩) s fun t =>
      (∃ f ∈ t.sh.fwds, f.die = (s.vat h).cplDie ∧ f.write = false ∧ f.start = s.reel) ∧
        ∃ x, Emits s t (.felt x) ∧ x.type = 0x80 ∧ x.dst = (s.vat h).cplDie ∧ x.words = [(s.vat h).epoch, 0, (s.vat h).cplOff * 4, 0, privRank pr]) ∧
  (∀ s h pr tag (v : Word), s.activeHub = some h → privMeets pr .operator = true → (s.vat h).cplDie < 100 →
    (s.die (s.vat h).cplDie).inReset = false →
    Gives (.vatCplDataWrite ⟨vatAddr h 0x0AC, 4, pr, tag⟩ v) s fun t =>
      (∃ f ∈ t.sh.fwds, f.die = (s.vat h).cplDie ∧ f.write = true ∧ f.start = s.reel) ∧
        ∃ x, Emits s t (.felt x) ∧ x.type = 0x80 ∧ x.dst = (s.vat h).cplDie ∧ x.words = [(s.vat h).epoch, 1, (s.vat h).cplOff * 4, v.toNat, privRank pr]) ∧
  (∀ s id, (∃ f ∈ s.sh.fwds, f.id = id) →
    Gives (.vatCplForwardTimeout id) s fun t => (∀ f ∈ t.sh.fwds, f.id ≠ id) ∧ Emits s t .errorResponse)

/-- The write-one-to-clear bits of VAT_CLEAR, the writes of MTP_CTRL and MTP_WIN_CMD, and a packet word complete with their effects.
    It rests on the model's choices of logs 7 and 84. -/
def Obligations.ControlWritesComplete : Prop :=
  (∀ s h pr tag, (s.vat h).role = .active → privMeets pr .operator = true →
    Gives (.vatClearReplAgree ⟨vatAddr h 0x0B8, 4, pr, tag⟩ 4) s (fun t => t.sh.replAgree = 0) ∧
    Gives (.vatClearPrivDeny ⟨vatAddr h 0x0B8, 4, pr, tag⟩ 2) s (fun t => (t.vat h).privDeny = 0) ∧
    Gives (.vatClearAptDrop ⟨vatAddr h 0x0B8, 4, pr, tag⟩ 1) s (fun t => t.sh.aptDrop = 0)) ∧
  (∀ s p pr tag (v : Word), s.served = true → validCore p = true → (s.die (coreDie p)).inReset = false → s.cstate p < 4 →
    s.tapMeets p .operator pr tag = true → (s.core p).lock = false → bit (s.cfg 209).each 1 = false → bit (s.cfg 209).thresh 1 = false →
    Gives (.seqCmpEnWrite ⟨tapAddr p 0x04, 4, pr, tag⟩ v) s fun t =>
      (t.core p).seqCmp = bit v.toNat 0 ∧ (t.core p).lock = bit v.toNat 31) ∧
  (∀ s p n k (v : Word), v.toNat % 4 = 1 → s.served = true → validCore p = true → (s.die (coreDie p)).inReset = false → s.cstate p < 4 → s.lcOf p = some n →
    (s.lc n).tag = some k → (s.die (coreDie p)).revoked.contains k = false → (s.ctx (k % 4096)).state ≠ 3 → (s.win p).opened = false →
    (s.win p).base + clampLen s.pkg.spad (s.win p).base (s.win p).len ≤ s.pkg.spad →
    s.inReamArea (coreDie p) (s.win p).base (clampLen s.pkg.spad (s.win p).base (s.win p).len) = false →
    Gives (.mtpWinCmdOpen ⟨tapAddr p 0xA8, 4, .tenant, some k⟩ v) s fun t =>
      (t.win p).opened = true ∧ (t.win p).owner = k ∧ (t.win p).plan = false ∧ (t.win p).len = clampLen s.pkg.spad (s.win p).base (s.win p).len) ∧
  (∀ s p n (v : Word), v.toNat % 4 = 2 → s.served = true → validCore p = true → (s.die (coreDie p)).inReset = false → s.cstate p < 4 → s.lcOf p = some n →
    (s.win p).opened = true →
    Gives (.mtpWinCmdClose ⟨tapAddr p 0xA8, 4, .operator, none⟩ v) s fun t =>
      (t.win p).opened = false ∧ (t.win p).gen = ((s.win p).gen + 1) % 256) ∧
  (∀ s h n i pr tag (v : Word), s.acting = some h → n < 64 → i < 128 → (tget {} s.sh.slots n).state ≠ 2 →
    (∀ k : ApSlot, k.packet = tset 0 (tget {} s.sh.slots n).packet i v → startWord k ≠ i * 4) →
    Gives (.aperturePacketWrite ⟨vatAddr h (0x80000 + n * 0x200 + i * 4), 4, pr, tag⟩ v) s fun t =>
      (tget {} t.sh.slots n).state = 1 ∧ tget 0 (tget {} t.sh.slots n).packet i = v)
/-! ## Sessions, keys, contexts (13) -/

/-- IDENT, VAT_HEALTH and the session commands complete: the identity is answered, a session opens, is proved, closes and expires.
    It rests on the model's choices of logs 7, 10, 14 and 15. -/
def Obligations.SessionCommandsComplete : Prop :=
  (∀ s rq v, s.admits (.ident rq) → s.acting = some v →
    Gives (.ident rq) s fun t => t.answers rq 0x0001 stOk
      [(128, s.pkg.uid), (16, 0x0B01), (8, s.pkg.lifecycle), (8, roleCode (s.vat v).role), (32, (s.vat v).fwSerial),
        (96, (s.pkg.licence.map (·.dieMask)).getD 0), (8, (s.pkg.licence.map (·.features)).getD 0), (32, s.pkg.spad)]) ∧
  (∀ s rq priv keyId, s.admits (.authOpen rq priv keyId) → (priv = 2 → pathHub rq.path = none) → s.pkg.lifecycle = 2 → s.openSessions < 32 →
    Gives (.authOpen rq priv keyId) s fun t => ∃ n nonce, t.answers rq 0x0002 stOk [(16, n), (384, nonce)] ∧
      t.session n = some { priv := privOf priv, keyId := keyId, path := rq.path, nonce := nonce, token := none, opened := s.reel, last := s.reel,
                           signed := 0 }) ∧
  (∀ s rq n x, s.admits (.authProve rq n) → rq.priv = .none → s.session n = some x → x.token = none → s.reel ≤ x.opened + 10000000000 →
    samePath x.path rq.path = true →
    Gives (.authProve rq n) s fun t =>
      if s.verifies x.priv x.keyId (s.proofBytes n x) rq.sigR rq.sigS then ∃ k < 2 ^ 48, t.answers rq 0x0003 stOk [(48, k)] ∧
        t.session n = some { x with token := some k, last := s.reel }
      else s.deniesSignature t rq 0x0003) ∧
  (∀ s n x, s.session n = some x → x.token = none → Gives (.authProveWindowExpiry n) s fun t => t.session n = none) ∧
  (∀ s rq, s.admits (.authClose rq) → Gives (.authClose rq) s fun t => t.session rq.session = none ∧ t.answers rq 0x0004 stOk []) ∧
  (∀ s n x, s.session n = some x → Gives (.sessionExpiry n) s fun t => t.session n = none) ∧
  (∀ s rq, s.admits (.vatHealth rq) → Gives (.vatHealth rq) s fun t => ∃ d, t.answers rq 0x0005 stOk d ∧
    d.take 10 = healthData (s.health .a) ++ healthData (s.health .b))

/-- Keys, licences and the life-cycle state change as their commands say.
    It rests on the model's choices of logs 7, 14 and 51. -/
def Obligations.KeyCommandsComplete : Prop :=
  (∀ s rq n, s.admits (.lifecycleSet rq n) → rq.priv = .vendor → lifecycleOk s.pkg.lifecycle n s.pkg.returns = true → s.distRuns = false →
    s.snapshotRuns = false → s.pkg.fwWriting = none →
    Gives (.lifecycleSet rq n) s fun t =>
      if s.signs (.lifecycleSet rq n) then t.pkg.lifecycle = n ∧ t.pkg.boot = .step 2 ∧ t.pkg.ready = false else s.deniesSignature t rq 0x0B00) ∧
  (∀ s rq cls id base count x y, s.admits (.keyEnroll rq cls id base count x y) → (s.keysOf cls).length < (if cls = 1 then 8 else 64) →
    Gives (.keyEnroll rq cls id base count x y) s fun t =>
      if s.signs (.keyEnroll rq cls id base count x y) then
        t.pkg.keys = s.pkg.keys.filter (fun k => !(k.cls == cls && k.id == id)) ++
          [{ cls := cls, id := id, base := base, count := min (4096 - base) (max 1 count), x := x, y := y }]
      else s.deniesSignature t rq 0x0B01) ∧
  (∀ s rq cls id k, s.admits (.keyRevoke rq cls id) → k ∈ s.pkg.keys → k.cls = cls → k.id = id →
    Gives (.keyRevoke rq cls id) s fun t =>
      if s.signs (.keyRevoke rq cls id) then t.answers rq 0x0B02 stOk [] ∧ (∀ k ∈ t.pkg.keys, k.cls ≠ cls ∨ k.id ≠ id) ∧
        ∀ e ∈ t.sh.sessions, ∀ z, e.2 = some z → z.priv = (if cls = 1 then .operator else .tenant) → z.keyId ≠ id
      else s.deniesSignature t rq 0x0B02) ∧
  (∀ s rq raw l, s.admits (.licenceInstall rq raw) → l = licenceOf (raw.map (·.toNat)) →
    Gives (.licenceInstall rq raw) s fun t =>
      ((s.licenceFault l).or (if s.licenceNewer l then none else some 7) = none →
        t.pkg.licenceNext = some l ∧ t.pkg.licence = s.pkg.licence ∧ t.answers rq 0x0B03 stOk []) ∧
      ∀ r, (s.licenceFault l).or (if s.licenceNewer l then none else some 7) = some r → t.answers rq 0x0B03 stDenied [(32, r)]) ∧
  (∀ s rq, s.admits (.licenceRead rq) → Gives (.licenceRead rq) s fun t =>
    t.answers rq 0x0B04 stOk [(2048, (s.pkg.licence.map licenceNum).getD 0), (2048, (s.pkg.licenceNext.map licenceNum).getD 0)])

/-- A context is loaded with its fields clamped and its next incarnation, killed through a teardown, and its status answered.
    It rests on the model's choices of logs 7, 14 and 33. -/
def Obligations.ContextCommandsComplete : Prop :=
  (∀ s rq f pr, s.admits (.ctxLoad rq f pr) → s.loadRefusal rq.ctx f pr = none →
    Gives (.ctxLoad rq f pr) s fun t =>
      (t.ctx rq.ctx).state = 1 ∧ (t.ctx rq.ctx).incarnation = ((s.ctx rq.ctx).incarnation + 1) % 16 ∧ (t.ctx rq.ctx).plan = some pr.plan ∧
      (t.ctx rq.ctx).hangT = (if f.hangT = 0 then 10000 else min 10000000 (max 100 f.hangT)) ∧
      (t.ctx rq.ctx).xwaitT = (if f.xwaitT = 0 then 1000 else min 60000 (max 10 f.xwaitT)) ∧
      (t.ctx rq.ctx).riskT = (if f.riskT = 0 then 16000 else min 65535 (max 1000 f.riskT)) ∧
      (t.ctx rq.ctx).snapMin = (if f.snapMin = 0 then 600 else min 86400 (max 60 f.snapMin)) ∧
      (t.ctx rq.ctx).poisonMode = min 1 f.poisonMode ∧ ∀ e ∈ pr.plan.lcs, (t.lc e.lc).lstep = 0 ∧ (t.lc e.lc).tag = some (t.tagOf rq.ctx)) ∧
  (∀ s rq, s.admits (.ctxKill rq) → (s.ctx rq.ctx).state = 0 → Gives (.ctxKill rq) s fun t => t.answers rq 0x0102 stNotReady []) ∧
  (∀ s rq x, s.admits (.ctxKill rq) → (s.ctx rq.ctx).state = 3 → (s.ctx rq.ctx).teardown = some x → x.step < 6 →
    Gives (.ctxKill rq) s fun t => t.runs rq 0x0102 rq.ctx) ∧
  (∀ s rq, s.admits (.ctxKill rq) → ((s.ctx rq.ctx).state = 1 ∨ (s.ctx rq.ctx).state = 2) →
    Gives (.ctxKill rq) s fun t => (t.ctx rq.ctx).state = 3 ∧ t.runs rq 0x0102 rq.ctx ∧
      (t.ctx rq.ctx).teardown.map (·.trigger) = some (if rq.priv = .tenant then 1 else 2)) ∧
  (∀ s rq, s.admits (.ctxStatus rq) → Gives (.ctxStatus rq) s fun t =>
    t.answers rq 0x0103 stOk [(8, (s.ctx rq.ctx).state), (8, (s.ctx rq.ctx).incarnation), (32, (s.ctx rq.ctx).iter), (16, (s.ctx rq.ctx).risk),
      (32, ((s.ctx rq.ctx).manifests.head?.map (·.id)).getD 0)])

/-! ## Fault collection (07) -/

/-- The commands on fault counters, classes, PIN latches and the pending list complete.
    It rests on the model's choices of logs 7 and 14. -/
def Obligations.FaultCommandsComplete : Prop :=
  (∀ s rq first, s.admits (.faultRead rq first 1) → rq.priv ≠ .tenant →
    Gives (.faultRead rq first 1) s fun t => t.answers rq 0x0200 stOk
      [(32, first), (16, (s.leaked first).count), (8, (s.leaked first).cross),
        (8, b2n (s.leaked first).armed + 2 * b2n (s.sh.pins.contains first)), (32, (s.leaked first).total)] ∧ t.counter first = s.leaked first) ∧
  (∀ s rq src e h n w r key, s.admits (.faultCfg rq src e h n w r) → classOf src = some key → blkAllowed key = true → key ≠ 216 → e < 32 → h < 32 →
    1 ≤ n → n ≤ 4095 → 1 ≤ w → w ≤ 3600000000 → r ≤ 1 →
    Gives (.faultCfg rq src e h n w r) s fun t => t.cfg key = { each := e, thresh := h, n := n, w := w, record := r == 1 }) ∧
  (∀ s rq first count, s.admits (.faultZero rq first count) → rq.priv ≠ .tenant → 1 ≤ count → count ≤ 8192 →
    Gives (.faultZero rq first count) s fun t => t.answers rq 0x0202 stOk [] ∧
      ∀ k, first ≤ k → k < first + count → k ≠ pkgSource 9 → t.counter k = {}) ∧
  (∀ s rq src, s.admits (.faultClear rq src) → src ∈ s.sh.pins → s.pinCondition src = false →
    Gives (.faultClear rq src) s fun t => src ∉ t.sh.pins ∧ (∀ k ∈ s.sh.pins, k ≠ src → k ∈ t.sh.pins) ∧ t.answers rq 0x0203 stOk []) ∧
  (∀ s rq, s.admits (.faultPending rq) → Gives (.faultPending rq) s fun t => t.sh.pendingList = s.sh.pendingList.drop 120 ∧
    t.answers rq 0x0204 stOk ((16, s.sh.pendingList.length - 120) :: (s.sh.pendingList.take 120).map fun k => (32, k)))

/-- First-stage counts, their forwarding, reactions and interrupts complete at the agent and at the Vat.
    It rests on the model's choices of logs 7, 60 and 72. -/
def Obligations.FaultDeliveryCompletes : Prop :=
  (∀ s d v, isDie d = true → (s.die d).inReset = false → s.acting = some v → (s.die d).first ≠ [] →
    Gives (.firstStageForward d) s fun t => (t.die d).first = [] ∧ ∃ x, Emits s t (.felt x) ∧ x.src = d ∧ x.type = 0x09 ∧ x.dst = hubDie v) ∧
  (∀ s h v src r, isDie h.src = true → s.acting = some v → s.newAt v h 0x09 → src < 1048576 → s.steady src →
    r = s.now →
    Gives (.countFwd h [{ source := src, count := 1, sat := false, reel := r, details := [default] }]) s fun t =>
      (t.counter src).total = ((s.bump src 1 r).1.counter src).total ∧ Emits s t (.ack (hubDie v) h.src 0x09 h.seq 0 0)) ∧
  (∀ s h d src, isDie d = true → (s.die d).inReset = false → (s.die d).epoch ≤ h.epoch → s.unseen d h 0x0A → src < 1048576 →
    Gives (.react h d { source := src, nmi := false, blk := false, pin := true }) s fun t =>
      src ∈ t.sh.pins ∧ Emits s t (.ack d h.src 0x0A h.seq 0 0)) ∧
  (∀ s h d src, isDie d = true → (s.die d).inReset = false → s.unseen d h 0x0E →
    Gives (.nmi h d src) s fun t => Emits s t (.trap d src) ∧ Emits s t (.ack d h.src 0x0E h.seq 0 0)) ∧
  (∀ s v, s.sh.intNew = true → s.acting = some v → (∀ r, s.sh.intAt = some r → r + 10000 ≤ s.reel) →
    Gives .intPostTick s fun t => t.sh.intNew = false ∧ t.sh.intAt = some s.reel ∧
      (bit s.sh.msiCtl 0 = true → Emits s t (.msi 0 s.sh.msiAddr s.sh.msiFault))) ∧
  (∀ s v w l, s.acting = some v → s.sh.msiWait = w :: l → s.steady (hubSource v 10) →
    Gives .msiAcceptTimeout s fun t => t.sh.msiWait = l ∧
      (t.counter (hubSource v 10)).total = ((s.bump (hubSource v 10) 1 s.now).1.counter (hubSource v 10)).total) ∧
  (∀ s w l, s.sh.msiWait = w :: l →
    Gives .messageInterruptAccepted s fun t => t.sh.msiWait = l ∧ t.sh.readyPosted = (s.sh.readyPosted || w.1 == 2))

/-- Every part of a die that reports an error is counted at its agent's first stage, and uncorrectable words become poisoned.
    It rests on the model's choices of log 72. -/
def Obligations.DieErrorsAreCounted : Prop :=
  (∀ s d link, isDie d = true → (s.die d).inReset = false → s.calm (dieSource d 14) →
    Gives (.d2dCodewordError d link false) s fun t =>
      t.firstCount d (dieSource d 14) = min 255 (s.firstCount d (dieSource d 14) + 1) ∧ Emits s t (.poisonPart d 0 link)) ∧
  (∀ s d, isDie d = true → (s.die d).inReset = false → s.calm (dieSource d 16) →
    Gives (.routerBufferEcc d none false) s fun t =>
      t.firstCount d (dieSource d 16) = min 255 (s.firstCount d (dieSource d 16) + 1) ∧ Emits s t (.poisonPart d 1 12)) ∧
  (∀ s d c, isCompute d = true → c < 12 → (s.die d).inReset = false → s.calm (clusterSource d c 1) →
    Gives (.clusterBufferEcc d c false) s fun t =>
      t.firstCount d (clusterSource d c 1) = min 255 (s.firstCount d (clusterSource d c 1) + 1) ∧ Emits s t (.poisonPart d 2 c)) ∧
  (∀ s d e l, (d = 98 ∨ d = 99) → e < 16 → l < 32 → (s.die d).inReset = false → s.calm (engineSource d e 1) →
    Gives (.uncorrCw d e l) s fun t =>
      t.firstCount d (engineSource d e 1) = min 255 (s.firstCount d (engineSource d e 1) + 1) ∧ Emits s t (.poisonPart d 3 (e * 32 + l))) ∧
  (∀ s d, isDie d = true → (s.die d).inReset = false → s.calm (dieSource d 7) →
    Gives (.agentInternal d) s fun t => t.firstCount d (dieSource d 7) = min 255 (s.firstCount d (dieSource d 7) + 1)) ∧
  (∀ s p, validCore p = true → (s.die (coreDie p)).inReset = false → s.calm (coreSource p 33) →
    Gives (.counterParity p true) s fun t => (t.core p).screenValid = false ∧
      t.firstCount (coreDie p) (coreSource p 33) = min 255 (s.firstCount (coreDie p) (coreSource p 33) + 1))

/-! ## Torty packages (06) -/

/-- The active Vat's side of a package: bytes are staged, a commit is checked and written to the inactive half, chunks leave, bitmaps and answers are
    taken, and a missed acknowledgement disarms and arms again.
    It rests on the model's choices of logs 14, 60 and 80. -/
def Obligations.PackageSubmissionCompletes : Prop :=
  (∀ s rq n bytes, s.admits (.tortyWrite rq n bytes) →
    Gives (.tortyWrite rq n bytes) s fun t => (∀ i (h : i < bytes.length), tget 0 t.sh.torty (n * 496 + i) = bytes[i]) ∧
      t.answers rq 0x0602 stOk []) ∧
  (∀ s rq kind len act mask, s.admits (.tortyCommit rq kind len act mask) → s.dist kind = none → (s.flashKind kind).writing = none → kind ≠ 4 →
    Gives (.tortyCommit rq kind len act mask) s fun t =>
      (s.tortyCheck kind len = none → t.runs rq 0x0603 0 ∧ (t.flashKind kind).writing = some (cutCells s.sh.torty 0 len)) ∧
      ∀ r, s.tortyCheck kind len = some r → t.answers rq 0x0603 stDenied [(32, r)]) ∧
  (∀ s rq len act mask d, s.admits (.tortyCommit rq 4 len act mask) → s.dist 4 = none → (s.flashKind 4).writing = none → d < 96 →
    bit mask d = true → s.enabled d = true →
    Gives (.tortyCommit rq 4 len act mask) s fun t =>
      (s.tortyCheck 4 len = none → t.runs rq 0x0603 0 ∧
        ∃ x, t.dist 4 = some x ∧ x.data = cutCells s.sh.torty 0 len ∧ x.targets = s.distTargets 4 mask) ∧
      ∀ r, s.tortyCheck 4 len = some r → t.answers rq 0x0603 stDenied [(32, r)]) ∧
  (∀ s kind l v, (s.flashKind kind).writing = some l → s.pkg.flashWin = true → s.acting = some v →
    Gives (.tortyFlashWriteDone kind) s fun t =>
      (t.flashKind kind).writing = none ∧ t.pkg.flashMem = putCells s.pkg.flashMem (halfAt kind (1 - s.activeHalf kind)) 0x400000 l ∧
      ∃ x, t.dist kind = some x ∧ x.data = l ∧ x.targets = s.distTargets kind 0) ∧
  (∀ s kind x, s.dist kind = some x → x.step = 2 → x.next + 1 < x.chunks →
    Gives (.chunkPaceTick kind) s fun t => t.dist kind = some { x with next := x.next + 1 } ∧
      ∃ w, Emits s t (.felt w) ∧ w.type = 0xC0 ∧ w.mode = 1 ∧ w.words = [x.id + x.next * 2 ^ 16] ++ bytesToWords
        (bytesAt x.data (x.next * 1024) (chunkLen x.bytes x.next)) ++ [chunkCrc x.id x.next (bytesAt x.data (x.next * 1024) (chunkLen x.bytes x.next))]) ∧
  (∀ s h v id words kind x, isDie h.src = true → s.acting = some v → s.newAt v h 0xC1 →
    (s.sh.dists.find? fun e => (e.2.map (·.id)) == some id) = some (kind, some x) → s.dist kind = some x → x.step = 3 → h.src ∉ x.polled →
    h.src ∈ x.targets → (insertNat h.src x.polled).length < x.targets.length →
    Gives (.bitmap h id words) s fun t =>
      t.dist kind = some { x with polled := insertNat h.src x.polled
                                  resend := x.resend ++ (missingChunks words x.chunks).map fun n => (h.src, n) }) ∧
  (∀ s h v id kind x, isDie h.src = true → s.acting = some v → s.newAt v h 0x81 →
    (s.sh.dists.find? fun e => (e.2.map (·.id)) == some id) = some (kind, some x) → s.dist kind = some x → x.step = 1 → h.src ∈ x.targets →
    Gives (.distAgentAnswer h id 0) s fun t => ∃ y, t.dist kind = some y ∧ y.ready = insertNat h.src x.ready ∧
      y.step = if (insertNat h.src x.ready).length = x.targets.length then 2 else 1) ∧
  (∀ s kind x d, s.dist kind = some x → x.step = 7 → d ∈ x.targets → d ∉ x.acked → d ∉ x.activated →
    Gives (.distAckDeadline kind) s fun t => ∃ y, t.dist kind = some y ∧ y.firstArm = some (x.firstArm.getD (s.now + 5000000)) ∧ y.acked = [] ∧
      ∃ w, Emits s t (.felt w) ∧ w.type = 0x8E ∧ w.dst = d ∧ w.words = [s.epoch, x.id])

/-- An agent's side of a package: it is opened, copied, received chunk by chunk, polled, hashed, armed, disarmed and activated.
    It rests on the model's choices of logs 60 and 80. -/
def Obligations.PackageReceptionCompletes : Prop :=
  (∀ s h d id kind chunks hdr, isDie d = true → 1 ≤ kind → kind ≤ 4 → (s.die d).inReset = false → (s.die d).epoch ≤ h.epoch → s.unseen d h 0x8B →
    Gives (.distOpen h d id kind chunks hdr) s fun t =>
      if s.stagingBusy d kind then (t.die d).furnish = (s.die d).furnish
      else ∃ x, tget none (t.die d).furnish.staging kind = some x ∧ x.dist = id ∧ x.total = chunks ∧ x.header = hdr ∧ x.chunks = [] ∧
        x.hashed = false ∧ x.arm = none) ∧
  (∀ s d x, isDie d = true → tget none (s.die d).furnish.staging 1 = some x → tget none (s.die d).furnish.staging 2 = none →
    Gives (.stagingCopyDone d) s fun t => tget none (t.die d).furnish.staging 1 = some { x with copied := true }) ∧
  (∀ s d id n bytes crc kind x, isDie d = true → (s.die d).inReset = false →
    ((s.die d).furnish.staging.find? fun e => (e.2.map (·.dist)) == some id) = some (kind, some x) →
    tget none (s.die d).furnish.staging kind = some x → chunkFits x kind n bytes crc = true →
    Gives (.chunk d id n bytes crc) s fun t => tget none (t.die d).furnish.staging kind = some { x with chunks := insertNat n x.chunks } ∧
      ∀ i (h : i < bytes.length), tget (0 : Byte) ((t.die d).furnish.stage kind x.bank) (regionAt kind + n * 1024 + i) = bytes[i]) ∧
  (∀ s h v d id kind x, isDie d = true → (s.die d).inReset = false → (s.die d).epoch ≤ h.epoch → s.unseen d h 0x8C → s.acting = some v →
    ((s.die d).furnish.staging.find? fun e => (e.2.map (·.dist)) == some id) = some (kind, some x) →
    Gives (.distPoll h d id) s fun t => ∃ w, Emits s t (.felt w) ∧ w.src = d ∧ w.type = 0xC1 ∧ w.dst = hubDie v ∧
      w.words.length = ceilDiv x.total 32 + 1) ∧
  (∀ s d kind x m, isDie d = true → (s.die d).inReset = false → s.calm (dieSource d 5) →
    ((s.die d).furnish.staging.find? fun e => e.2.any fun x => !x.hashed && x.chunks.length == x.total) = some (kind, some x) →
    tget none (s.die d).furnish.staging kind = some x → m = (s.die d).furnish.stage kind x.bank →
    Gives (.payloadHashDone d) s fun t => tget none (t.die d).furnish.staging kind =
      some (if payloadMatches m (regionAt kind) (headerAt m (regionAt kind)) then { x with hashed := true } else { x with chunks := [] })) ∧
  (∀ s h d id n kind x, isDie d = true → (s.die d).inReset = false → (s.die d).epoch ≤ h.epoch →
    tget none (s.die d).furnish.staging kind = some x → x.dist = id →
    (s.unseen d h 0x8D → Gives (.distArm h d id n) s fun t => tget none (t.die d).furnish.staging kind = some { x with arm := some n }) ∧
    (s.unseen d h 0x8E → Gives (.distDisarm h d id) s fun t => tget none (t.die d).furnish.staging kind = some { x with arm := none })) ∧
  (∀ s d kind x n, isDie d = true → (s.die d).furnish.staging = [(kind, some x)] → x.arm = some n → n ≤ s.dieReel d →
    ((kind = 1 ∨ kind = 2) → Gives (.distActivation d) s fun t => (t.die d).furnish = { (s.die d).furnish with bank := x.bank, staging := [] }) ∧
    (kind = 3 → Gives (.distActivation d) s fun t => (t.die d).furnish = { (s.die d).furnish with ucodePending := some n, staging := [] })) ∧
  (∀ s d n, isDie d = true → (s.die d).furnish.ucodePending = some n → (s.die d).beater.shifting = false → (s.die d).beater.confirm = 0 →
    (s.die d).beater.judge = false →
    Gives (.ucodeBankSwitch d) s fun t => (t.die d).furnish.ucodeBank = 1 - (s.die d).furnish.ucodeBank ∧ (t.die d).furnish.ucodeRom = false ∧
      (t.die d).furnish.ucodePending = none)

/-! ## Notifications, management endpoints, hangs (07, 11, 08) -/

/-- The notification paths: a port that gains link sends what it held, a lost link is counted, a source's second ends, the tray controller reads its
    oldest notification, and the other hub's port relays one.
    It rests on the model's choices of logs 4 and 7. -/
def Obligations.NotificationPathsComplete : Prop :=
  (∀ s hub, s.sh.mgmtLost.1 = 0 →
    Gives (.mgmtLinkUp hub) s fun t => (t.vat hub).linkUp = true ∧ (t.vat hub).outQ = [] ∧ (∀ m ∈ (s.vat hub).outQ, Emits s t (.vendor 4 m)) ∧
      (s.acting = some hub → t.sh.mgmtQ = [] ∧ ∀ n ∈ s.sh.mgmtQ, Emits s t (.notify (hubNum hub) n.number n.held n.entry))) ∧
  (∀ s hub v, s.acting = some v → s.steady (hubSource hub 11) →
    Gives (.mgmtLinkDown hub) s fun t => (t.vat hub).linkUp = false ∧
      (t.counter (hubSource hub 11)).total = ((s.bump (hubSource hub 11) 1 s.now).1.counter (hubSource hub 11)).total) ∧
  (∀ s src p r, tget none s.sh.pacing src = some p → p.latest = some r →
    Gives (.notifySourceSecondEnd src) s fun t => tget none t.sh.pacing src = some { since := s.reel, held := 0, latest := none } ∧
      t.sh.noteNext = (s.sh.noteNext + 1) % 2 ^ 32 ∧ { number := s.sh.noteNext, held := sat 16 p.held, entry := r } ∈ t.sh.i3cQ ∧
      ∀ v, s.acting = some v → (s.vat v).linkUp = true → Emits s t (.notify (hubNum v) s.sh.noteNext (sat 16 p.held) r)) ∧
  (∀ s v n q, s.acting = some v → (s.vat v).i3cAddr ≠ none → s.sh.i3cQ = n :: q → s.sh.i3cLost.1 = 0 →
    Gives .i3cNotifyRead s fun t => t.sh.i3cQ = q ∧ Emits s t (.notify 2 n.number n.held n.entry)) ∧
  (∀ s h v k n, s.acting = some v → (s.die (hubDie (otherHub v))).inReset = false → (s.die (hubDie (otherHub v))).epoch ≤ h.epoch →
    s.unseen (hubDie (otherHub v)) h 0x90 → (s.vat (otherHub v)).linkUp = true → (s.sh.mgmtQ.find? fun n => n.number == k) = some n →
    Gives (.notifyRelay h k) s fun t => Emits s t (.notify (hubNum (otherHub v)) n.number n.held n.entry) ∧
      t.sh.mgmtQ = s.sh.mgmtQ.filter fun m => m.number != k)

/-- Each MCTP control command of a powered endpoint completes with its answer (R376); Set Endpoint ID also sets the EID and its setter; ENTDAA sets
    the dynamic address (R378).
    It rests on the model's choices of logs 7 and 19. -/
def Obligations.MctpControlCompletes : Prop :=
  (∀ s hub i3c eid setter, s.pkg.powered = true → eid < 256 → setter < 256 →
    Gives (.setEndpointId hub i3c eid setter) s fun t => Emits s t (.mctp hub i3c 0x01 0 (eid :: Config.mctpReply 0x01)) ∧
      (if i3c then (t.vat hub).i3cEid = some eid ∧ (t.vat hub).i3cSetter = some setter
       else (t.vat hub).eid = some eid ∧ (t.vat hub).setter = some setter)) ∧
  (∀ s hub i3c eid, s.pkg.powered = true → (if i3c then (s.vat hub).i3cEid else (s.vat hub).eid) = some eid →
    Gives (.getEndpointId hub i3c) s fun t => t = s.emit (.mctp hub i3c 0x02 0 (eid :: Config.mctpReply 0x02))) ∧
  (∀ s hub i3c ty, s.pkg.powered = true →
    Gives (.getMctpVersionSupport hub i3c ty) s (fun t => t = s.emit (.mctp hub i3c 0x04 0 (Config.mctpReply (0x04 * 256 + ty)))) ∧
    Gives (.getMessageTypeSupport hub i3c) s (fun t => t = s.emit (.mctp hub i3c 0x05 0 [2, 0x01, 0x7F])) ∧
    Gives (.getVendorDefinedMessageSupport hub i3c) s
      (fun t => t = s.emit (.mctp hub i3c 0x06 0 (Config.enterpriseNumber :: Config.mctpReply 0x06)))) ∧
  (∀ s hub addr, addr < 128 → (s.acting = some hub → s.sh.i3cLost.1 = 0) →
    Gives (.entdaa hub addr) s fun t => (t.vat hub).i3cAddr = some addr)

/-- Each PLDM command of a powered terminus, whose package's boot has not stopped or has an acting Vat, completes with its answer and nothing else, for
    every operand; a command outside Table 11.9's set with ERROR_UNSUPPORTED_PLDM_CMD (R377). A packet of an unknown opcode or a wrong LENGTH, when a Vat
    acts, completes with its status (R419).
    It rests on the model's choices of logs 7 and 19. -/
def Obligations.PldmCompletes : Prop :=
  (∀ (s : State) hub, s.pkg.powered = true → (s.pkg.boot ≠ .stopped ∨ s.acting ≠ none) →
    exec (.getTid hub) s = .next (s.emit (.pldm hub 0 0x02 0 (Config.pldmReply 0 0x02))) ∧
    (∀ ty, exec (.getPldmVersion hub ty) s = .next (s.emit (.pldm hub 0 0x03 0 (Config.pldmReply ty 0x03)))) ∧
    exec (.getPldmTypes hub) s = .next (s.emit (.pldm hub 0 0x04 0 [0, 2])) ∧
    (∀ ty, exec (.getPldmCommands hub ty) s = .next (s.emit (.pldm hub 0 0x05 0
      (if ty = 0 then [0x02, 0x03, 0x04, 0x05] else if ty = 2 then [0x11, 0x21, 0x50, 0x51] else [])))) ∧
    exec (.getPdrRepositoryInfo hub) s = .next (s.emit (.pldm hub 2 0x50 0 (Config.pldmReply 2 0x50))) ∧
    (∀ n, exec (.getPdr hub n) s = .next (s.emit (.pldm hub 2 0x51 0 (n :: Config.pldmReply 2 0x51)))) ∧
    (∀ n, exec (.getSensorReading hub n) s =
      .next (s.emit (.pldm hub 2 0x11 0 [twos 16 (tget {} (s.die (n / 16)).cal.temps (n % 16)).temp]))) ∧
    (∀ n, exec (.getStateSensorReadings hub n) s = .next (s.emit (.pldm hub 2 0x21 0 (n :: Config.pldmReply 2 0x21)))) ∧
    (∀ ty k, exec (.unsupportedPldmCommand hub ty k) s = .next (s.emit (.pldm hub ty k 0x05 [])))) ∧
  (∀ (s : State) path op tag crc lenOk v, s.acting = some v → (pathHub path = none ∨ s.sh.gap = none) → opcodes.contains op = false →
    s.duplicate (badRequest path tag crc lenOk) op = none →
    Gives (.badopCommandPacket path op tag crc lenOk) s fun t =>
      t.answers (badRequest path tag crc lenOk) op
        (if pathHub path = none ∨ pathHub path = some v then if lenOk then stBadOp else stBadLen else stNotReady) [])

/-- A watchdog's walk follows the awaited core to its die, a walk that finds the awaited core issuing ends the checks of its chain, and a freeze that
    does not take effect fences the core's ports.
    It rests on the model's choices of logs 47, 60 and 66. -/
def Obligations.HangDetectionCompletes : Prop :=
  (∀ s v p q n m c, s.acting = some v → validCore p = true → (s.core p).parked = false → s.lcOf p = some n → s.lcCtx n = some c →
    (s.ctx c).state = 2 → (s.lc n).issuing = true → s.hangPaused p = false → (s.core p).stallNow ∈ [1, 2, 5, 6, 9] → (s.core p).awaited = some m → m ≠ n →
      s.carrier n = some p →
    s.carrier m = some q → coreDie q ≠ coreDie p →
    Gives (.hangWatchdogExpiry p) s fun t => (t.core p).hangCheck = true ∧
      ∃ x, Emits s t (.felt x) ∧ x.src = coreDie p ∧ x.type = 0x8A ∧ x.dst = coreDie q ∧ x.words = [c, n, m]) ∧
  (∀ s h v c n m p, s.acting = some v → n < 13824 → m < 13824 → c < 4096 → s.carrier n = some p → s.unseen (coreDie p) h 0x8A → s.stopped p = false →
    (s.core p).stallNow = 0 → s.issuesNone p c = false →
    Gives (.hangWalk h { chain := [m, n], ctx := c }) s fun t => Emits s t (.ack (coreDie p) h.src 0x8A h.seq 0 0) ∧
      (∀ k ∈ [m, n], ∀ q, s.carrier k = some q → (t.core q).hangCheck = false)) ∧
  (∀ s p, validCore p = true → (s.core p).hung = true → (s.core p).portFence = false →
    Gives (.hangFreezeTimeout p) s fun t => (t.core p).portFence = true ∧ 16 + coreIndex p ∈ (t.die (coreDie p)).fences)

/-! ## Watermarks and replicas (04) -/

/-- The watermark commands and the records that reach the Vat complete.
    It rests on the model's choices of logs 14, 60 and 67. -/
def Obligations.WatermarkCommandsComplete : Prop :=
  (∀ s rq a b, s.admits (.wmKeySet rq a b) → (s.ctx rq.ctx).state < 2 → 2 ≤ a → a ≤ p61 - 2 → 2 ≤ b → b ≤ p61 - 2 →
    Gives (.wmKeySet rq a b) s fun t => (t.ctx rq.ctx).s0 = a ∧ (t.ctx rq.ctx).s1 = b ∧ t.answers rq 0x0400 stOk []) ∧
  (∀ s rq first e l, s.admits (.wmRead rq first 1) → (s.sh.wmLog.reverse.filter fun e => s.inRange rq e.ctx).drop first = e :: l →
    Gives (.wmRead rq first 1) s fun t => t.answers rq 0x0401 stOk
      [(32, e.digest.tensor), (32, e.digest.pass), (48, e.digest.count), (16, e.digest.flags), (64, e.digest.d0), (64, e.digest.d1),
        (16, e.ctx), (16, e.layer), (16, e.oper), (16, 0)]) ∧
  (∀ s rq, s.admits (.wmVerify rq) → (s.ctx rq.ctx).plan ≠ none → (s.ctx rq.ctx).state ≠ 3 → s.ctxStill rq.ctx = true → rq.ctx ∉ s.sh.verifying →
    Gives (.wmVerify rq) s fun t => rq.ctx ∈ t.sh.verifying ∧ t.runs rq 0x0402 rq.ctx) ∧
  (∀ s c p recs x, c < 4096 → c ∈ s.sh.verifying → (s.ctx c).plan = some p → (∀ e ∈ constExpected p, recs.any (mismatch e) = false) →
    (s.sh.runs.filter fun x => x.opcode == 0x0402 && x.ctx == c) = [x] →
    Gives (.wmVerifyReadDone c recs) s fun t => c ∉ t.sh.verifying ∧
      s.ended t x stOk [(32, ((constExpected p).filter fun e => recs.any (agrees e)).length), (32, 0),
        (32, (constExpected p).length - ((constExpected p).filter fun e => recs.any (agrees e)).length)]) ∧
  (∀ s rq refs same, s.admits (.wmLocate rq refs same) →
    Gives (.wmLocate rq refs same) s fun t => ∃ d, t.answers rq 0x0403 stOk d ∧
      d.take 4 = [(8, (s.locate rq.ctx refs same).1), (16, (s.locate rq.ctx refs same).2.1), (32, (s.locate rq.ctx refs same).2.2.1),
        (16, (s.locate rq.ctx refs same).2.2.2.1)] ∧
      ∀ x ∈ (s.locate rq.ctx refs same).2.2.2.2, validCore x.2 = true →
        ∃ b ∈ (t.die (coreDie x.2)).beater.queue, b.core = coreIndex x.2 ∧ b.kind = 1) ∧
  (∀ s h c layer oper r v, c < 4096 → layer < 65536 → oper < 65536 → isDie h.src = true → s.acting = some v → s.newAt v h 0x43 → (s.ctx c).plan ≠ none →
    (s.ctx c).state ≠ 3 → tget 0 (s.ctx c).opLogged (operKey layer oper) ≤ r.pass →
    s.opMark c layer oper r.pass = none →
    (∃ n ∈ s.opLcs c layer oper, ∀ e ∈ (s.ctx c).opSent, e.lc = n → e.exec ≠ execKey r.pass (operKey layer oper)) →
    Gives (.wmDie h c layer oper r) s fun t =>
      t.opMark c layer oper r.pass = some { key := operKey layer oper, pass := r.pass, got := [(h.src, r)] } ∧
      Emits s t (.ack (hubDie v) h.src 0x43 h.seq 0 0))

/-- Replica comparison is configured, gathered, decided by majority, reread and ended by an expulsion.
    It rests on the model's choices of logs 14 and 60. -/
def Obligations.ReplicaCommandsComplete : Prop :=
  (∀ s rq group r i k, s.admits (.replicaCfg rq group r i k) → ((s.ctx rq.ctx).state = 1 ∨ (s.ctx rq.ctx).state = 2) → 2 ≤ r → r ≤ 255 → i < r →
    1 ≤ k → k ≤ 256 → (∀ o, (s.ctx rq.ctx).replica = some o → o.pending = none) →
    Gives (.replicaCfg rq group r i k) s fun t => t.answers rq 0x0404 stOk [] ∧
      (t.ctx rq.ctx).replica.map (fun o => (o.group, o.r, o.index, o.k)) = some (group, r, i, k)) ∧
  (∀ s rq o iter, s.admits (.replicaExpel rq o.group iter) → (s.ctx rq.ctx).replica = some o → ((s.ctx rq.ctx).state = 1 ∨ (s.ctx rq.ctx).state = 2) →
    Gives (.replicaExpel rq o.group iter) s fun t => (t.ctx rq.ctx).state = 3 ∧ t.answers rq 0x0405 stOk []) ∧
  (∀ s rq o r i, s.admits (.replicaMembers rq r i) → (s.ctx rq.ctx).replica = some o → 2 ≤ r → r ≤ 255 → i < r →
    Gives (.replicaMembers rq r i) s fun t => (t.ctx rq.ctx).replica = some { o with r := r, index := i } ∧ t.answers rq 0x0406 stOk []) ∧
  (∀ s h c iter r v o m, c < 4096 → isDie h.src = true → s.acting = some v → s.newAt v h 0x44 → (s.ctx c).replica = some o →
    o.pending = some iter → r ≠ default → (s.ctx c).state ≠ 3 → (∀ d ∈ o.dies, d = h.src ∨ ∃ e ∈ o.parts, e.1 = d) →
    m = replicaRec (s.replicaTotal c) o.index iter ((tset default o.parts h.src r).map (·.2)) → m.count ≤ s.replicaTotal c → o.inPass = none →
    Gives (.replPart h c iter r) s fun t => Emits s t (.digestSlot c m) ∧ (t.ctx c).replica.bind (·.inPass) = some m) ∧
  (∀ s w c recs conflict o i v, s.acting = some w → c < 4096 → (s.ctx c).replica = some o → o.pending = some i →
    v = replicaVerdict (s.replicaTotal c) o.r i o.index recs conflict →
    Gives (.replicaSlotRead c recs conflict) s fun t =>
      if s.compareWaits c then (t.ctx c).replica = some { o with slot := some (recs, conflict) }
      else
        (v.1 = 0 → t.sh.replAgree = satAdd 32 s.sh.replAgree 1 ∧ Emits s t (.barrier c 0) ∧ (t.ctx c).replica.map (·.pending) = some none) ∧
        (v.1 ≠ 0 → Emits s t (.barrier c 1))) ∧
  (∀ s v c shards o i r, s.acting = some v → c < 4096 → (s.ctx c).replica = some o → o.pending = some i → o.exchange = none →
    r = replicaRec (s.replicaTotal c) o.index i (shards.map (·.2)) →
    Gives (.replicaRereadDone c shards) s fun t => (t.ctx c).replica = some { o with reread := some r, shards := shards } ∧
      Emits s t (.vendor 5 [o.group, i, 3, o.r, 3, r.tensor, r.pass, r.count, r.flags, r.d0, r.d1])) ∧
  (∀ s v c other inPass tensors b o i own, s.acting = some v → c < 4096 → (s.ctx c).replica = some o → o.pending = some i → o.located = false →
    o.reread = some own →
    Gives (.replicaRereadExchange c o.group i other inPass tensors b) s fun t =>
      (own.pass = other.pass → sameDigest own other = true → comparable own = true → comparable other = true → Emits s t (.barrier c 0)) ∧
      (sameDigest own other = false → differs own (o.inPass.getD default) = false → differs other inPass = false → (o.group, i) ∉ s.sh.replMarks →
        (o.group, i) ∈ t.sh.replMarks ∧ (t.ctx c).replica.map (·.pending) = some none))

/-! ## Triage (01, 05) -/

/-- A fault report starts a triage, its stages end, its spare is filled, and the logical core is re-placed. -/
def Obligations.TriageStagesComplete : Prop :=
  (∀ s h v p n k c layer oper src reel step x, validCore p = true → n < 13824 → k < 0x3FFFF → c < 4096 → layer < 65536 → oper < 65536 →
    src < 2 ^ 20 → reel < 2 ^ 32 → step < 2 ^ 32 → s.acting = some v → s.newAt v h 0x08 → s.sh.triageQ = [] →
    x = s.newTriage p n k c layer oper src reel step → x.pgroup = none → src % 8192 % 48 ∉ [1, 2] → s.mayStart x = true →
    Gives (.faultReport h [n + k * 2 ^ 14, c + p * 2 ^ 16, oper + layer * 2 ^ 16, src * 2 ^ 12, reel, 0, step, 0]) s fun t =>
      (∃ y ∈ t.sh.triages, y.core = p ∧ y.lc = n ∧ y.ticket = k ∧ y.ctx = c ∧ y.source = src ∧ y.startReel = s.now) ∧
      Emits s t (.replay p n x.rstep step) ∧ Emits s t (.ack (hubDie v) h.src 0x08 h.seq 0 0)) ∧
  (∀ s v p x d, validCore p = true → s.acting = some v → s.alone x → x.core = p → x.stageADone = false → x.waitA = none → x.pgroup = none →
    x.verdict = none → x.stageS = none → isPair x = false → isGroup x = false → s.peerParts x = [] → (s.ticket x.ticket).state = .triage →
    ([7, 8, 9, 10].any fun i => bit (s.ticket x.ticket).replayCodes i) = false →
    Gives (.triageStageADone p .pass d) s fun t => (t.core p).selftest = 1 ∧
      ∃ y ∈ t.sh.triages, y.core = p ∧ y.stageADone = true ∧ y.stageA = 0 ∧ y.replayed = some d) ∧
  (∀ s v p x q, validCore p = true → s.acting = some v → s.alone x → x.core = p → x.stageADone = false → x.verdict = none → isPair x = false →
    isGroup x = false → x.spare = some q → x.filled = true → x.bStarted = false → x.stageBDone = false →
    Gives (.stageANotCompleted p) s fun t => Emits s t (.replay q x.lc (s.ticket x.ticket).rstep x.detStep) ∧
      ∃ y ∈ t.sh.triages, y.core = p ∧ y.stageADone = true ∧ y.stageA = 3 ∧ y.bStarted = true ∧ y.bCore = some q) ∧
  (∀ s p, validCore p = true → s.triageOf p = none →
    Gives (.tapSelftestDone p 0) s fun t => (t.core p).selftest = 2 ∧ (t.core p).cases = 0) ∧
  (∀ s v n x q sent received, n < 13824 → s.acting = some v → ordSum 0 sent = ordSum 0 received → s.alone x → x.lc = n → x.spare = some q →
    x.filled = false → x.verdict = none → x.stageADone = false →
    Gives (.spareFillDone n sent received) s fun t => ∃ y ∈ t.sh.triages, y.lc = n ∧ y.filled = true ∧ y.fillReel = s.now) ∧
  (∀ s w p x q d, validCore p = true → s.acting = some w → s.alone x → x.core = p → x.bStarted = true → x.stageBDone = false → x.waitB = none →
    s.peerParts x = [] → ([7, 8, 9, 10].any fun i => bit (s.ticket x.ticket).replayCodes i) = false → x.verdict = none → isPair x = false →
    isGroup x = false → x.stageADone = true → x.stageA = 1 → x.stageS = some true → x.spare = some q → x.filled = true → x.placing = false →
    Gives (.triageStageBDone p .pass d) s fun t => (∃ a, Emits s t (.replay q x.lc a x.freezeStep)) ∧
      ∃ y ∈ t.sh.triages, y.core = p ∧ y.stageBDone = true ∧ y.stageB = 0 ∧ y.verdict = some 1) ∧
  (∀ s w n x q v, n < 13824 → s.acting = some w → s.alone x → x.lc = n → x.spare = some q → validCore q = true → x.verdict = some v →
    x.placing = true → (s.core x.core).blkWait = none → (s.core x.core).deferred = [] → (s.core q).deferred = [] → (s.lc n).heldXfers = [] →
    s.sh.pairs = [] → s.sh.groups = [] → s.obeys (s.homeDie n) = true → s.obeys (coreDie x.core) = true → s.obeys (coreDie q) = true →
    s.noPkg 73 →
    Gives (.replacementReplayDone n) s fun t => t.carrier n = some q ∧ ∀ y ∈ t.sh.triages, y.core ≠ x.core)

/-- A freeze order holds the cores it names, and a generation reaches the members of a group on the die.
    It rests on the model's choices of logs 60 and 81. -/
def Obligations.RollbackOrdersComplete : Prop :=
  (∀ s h d cores r, isDie d = true → (∀ p ∈ cores, validCore p = true ∧ coreDie p = d) → (s.die d).inReset = false → (s.die d).epoch ≤ h.epoch →
    s.unseen d h 0x0B →
    Gives (.freeze h d cores r) s fun t => (∀ p ∈ cores, ∀ k, s.freezeKey p r = some k → ∃ e ∈ (t.core p).holds, e.1 = k) ∧
      Emits s t (.ack d h.src 0x0B h.seq 0 0)) ∧
  (∀ s h d c g gen n p, isDie d = true → (s.die d).inReset = false → (s.die d).epoch ≤ h.epoch → s.unseen d h 0x0F → gen < 256 →
    (s.pgroup c g).rolling ≠ 0 → (s.pgroup c g).gen = gen → n ∈ s.groupOf c g → s.carrier n = some p → coreDie p = d →
    Gives (.genSet h d g gen) s fun t => (t.lc n).gen = gen)

/-! ## Taps and release units (03, 05) -/

/-- A unit opens on the lowest free ticket, an issue step completes or is suppressed by the sequencers' comparison, and a rail or parity error stops
    the core.
    It rests on the model's choices of logs 26, 62 and 63. -/
def Obligations.IssueEventsComplete : Prop :=
  (∀ s p n c k i spec last e d, s.carries p n c → (s.lc n).issuing = true → s.stopped p = false → s.stalled p = false → s.spanRuns p = false →
    ((lcTickets n).find? fun t => (s.ticket t).state == .free) = some k → s.planLc c n = some e → e.descs[i]? = some d → s.descOk c n d = true →
    (∀ m ∈ s.checkPeers c d, s.lcDie m = coreDie p) →
    Gives (.releaseUnitOpen p i spec last) s fun t => (t.ticket k).state = .opened ∧ (t.ticket k).level = descLevel d ∧ (t.ticket k).lc = n ∧
      (t.ticket k).ctx = c ∧ (t.ticket k).layer = descLayer d ∧ (t.ticket k).oper = descOper d ∧ (t.ticket k).rstep = (s.lc n).lstep ∧
      (t.ticket k).rseq = tget 0 (s.lc n).rseq (operKey (descLayer d) (descOper d)) ∧
      tget 0 (t.lc n).rseq (operKey (descLayer d) (descOper d)) = ((t.ticket k).rseq + 1) % 2 ^ 32 ∧ (t.ticket k).restart = (s.core p).seqNow ∧
      (t.core p).restart = (s.core p).seqNow) ∧
  (∀ s p n c a b, s.carries p n c → (s.lc n).issuing = true → s.stopped p = false → s.stalled p = false → ((s.core p).seqCmp = true → a = b) →
    (s.lc n).lstep + 1 < 2 ^ 64 → (s.core p).pstep + 1 < 2 ^ 64 → (s.lc n).planSteps ≠ (s.lc n).lastPress + 131072 →
    (∀ k ∈ lcTickets n, (s.ticket k).state = .opened → (s.ticket k).doneAt = none → (s.lc n).planSteps ≠ (s.ticket k).start + 131072) →
    Gives (.issueStep p .scheduled a b false) s fun t => (t.lc n).lstep = (s.lc n).lstep + 1 ∧ (t.core p).pstep = (s.core p).pstep + 1 ∧
      (t.core p).busy = satAdd 64 (s.core p).busy 1 ∧ (t.core p).stallNow = 0) ∧
  (∀ s p n c a b, s.carries p n c → (s.lc n).issuing = true → s.stopped p = false → s.stalled p = false → (s.core p).seqCmp = true → a ≠ b →
    (s.ticket (s.currentUnit n)).state = .free →
    Gives (.issueStep p .scheduled a b false) s fun t => (t.lc n).lstep = (s.lc n).lstep ∧ (t.core p).pstep = (s.core p).pstep ∧
      (t.core p).frozen = true) ∧
  (∀ s p n c, s.carries p n c → (s.ticket (s.currentUnit n)).state = .free → Gives (.checkerRail p) s fun t => (t.core p).frozen = true) ∧
  (∀ s p n c, s.carries p n c → s.calm (coreSource p 32) →
    Gives (.ticketState p) s fun t => ∀ k ∈ lcTickets n, (s.ticket k).state = .opened ∨ (s.ticket k).state = .await → (t.ticket k).state = .triage)

/-- Every check of a unit completes: it passes its part, or the unit fails with the check's cause and its core is frozen.
    It rests on the model's choices of logs 23, 26 and 62. -/
def Obligations.UnitChecksComplete : Prop :=
  (∀ s p k row col a b, s.unitOpen p k →
    (fits128 (a + b) = true → Gives (.accumulatorAdd p k row col a b none) s fun t => t = s) ∧
    (fits128 (a + b) = false → Gives (.accumulatorAdd p k row col a b none) s fun t => t.triaged p k 3 ∧
      ((s.core p).failUnit ≠ some k → (t.core p).failPrimary = 3 ∧ (t.core p).failRow = row ∧ (t.core p).failA = col))) ∧
  (∀ s p k rows csv, s.unitOpen p k → descLaid (s.unitDesc k) = true → descGroup (s.unitDesc k) = false → csvBad (s.unitDesc k) csv = false →
    badGroup rows = none →
    ((∀ r ∈ rows, laidLhs r = laidRhs csv.entries (descEmin (s.unitDesc k)) r) →
      Gives (.laidCheckResolve p k rows csv) s fun t => s.partEnded t k 2) ∧
    ((∃ r ∈ rows, laidLhs r ≠ laidRhs csv.entries (descEmin (s.unitDesc k)) r) →
      Gives (.laidCheckResolve p k rows csv) s fun t => t.triaged p k 6)) ∧
  (∀ s p k g e m acc a, s.unitOpen p k →
    (envelope (s.unitDesc k) e m = [] → Gives (.roundedGroupCheck p k g e m acc a true) s fun t => s.partEnded t k 1) ∧
    (∀ o i, envelope (s.unitDesc k) e m = [(o, i)] → Gives (.roundedGroupCheck p k g e m acc a true) s fun t => t.triaged p k o)) ∧
  (∀ s p k taus n tally, s.unitOpen p k → descKind (s.unitDesc k) = 2 → s.gateFailed (s.ticket k).ctx (s.ticket k).layer = false →
    (taus.length = n → tallyOf taus = tally → n ≤ descRows (s.unitDesc k) →
      Gives (.dispatchTallyCheck p k taus n tally) s fun t => s.partEnded t k 4) ∧
    (taus.length ≠ n ∨ tallyOf taus ≠ tally ∨ descRows (s.unitDesc k) < n →
      Gives (.dispatchTallyCheck p k taus n tally) s fun t => t.triaged p k 11)) ∧
  (∀ s p n c k j m l a b, s.carries p n c → (s.planLc c n).map (fun e => e.joins.getD j []) = some l → l[tget 0 (s.lc n).joins j]? = some m →
    fits128 (a + b) = true → k < 221184 → m < 13824 →
    Gives (.joinPartialArrival p k j m a b false) s fun t =>
      tget 0 (t.lc n).joins j = (if tget 0 (s.lc n).joins j + 1 < l.length then tget 0 (s.lc n).joins j + 1 else 0) ∧
      (s.unitOf p k = true → (t.ticket k).seeds = (s.ticket k).seeds ++ [b]))

/-- Comparisons between cores, verdicts, accesses and the release gate complete.
    It rests on the model's choices of logs 60 and 64. -/
def Obligations.ComparisonsComplete : Prop :=
  (∀ s h p r, s.unitOpen p r.ticket → r.lc < 13824 → r.partner < 13824 → r.lc ≠ r.partner → r.ticket < 221184 → r.ctx < 4096 → r.layer < 65536 →
    r.oper < 65536 → s.lcDie r.lc = s.lcDie r.partner → s.readyPair = none → s.readyGroup = none → s.quiet → (s.ticket r.ticket).agreed = [] →
    unitNeeds (s.unitDesc r.ticket) (s.ticket r.ticket).spec &&& (s.ticket r.ticket).checks ≠ unitNeeds (s.unitDesc r.ticket) (s.ticket r.ticket).spec →
    (s.sh.pairs.find? (fun w => samePair w.r r) = none → Gives (.pairDigest h r) s fun t => (∃ w ∈ t.sh.pairs, w.r = r ∧ w.since = s.now) ∧
      (t.ticket r.ticket).digest = [r.da, r.dr]) ∧
    (∀ w q, s.sh.pairs.find? (fun w => samePair w.r r) = some w → w.r.da ≠ r.da → s.unitOpen q w.r.ticket →
      s.poolReady w.r.ticket (if w.r.gate then 16 else 8) = true →
      Gives (.pairDigest h r) s fun t => (t.ticket r.ticket).state = .triage)) ∧
  (∀ s h p r, s.unitOpen p r.ticket → r.lc < 13824 → r.anchor < 13824 → r.ticket < 221184 → r.ctx < 4096 → r.layer < 65536 → r.oper < 65536 →
    (∀ m ∈ s.groupLcs r.ctx r.anchor r.layer r.oper, s.lcDie m = s.lcDie r.anchor) → s.sh.groups = [] → s.readyPair = none → s.quiet →
      (s.ticket r.ticket).agreed = [] →
    2 ≤ descGrpN (s.unitDesc r.ticket) → unitNeeds (s.unitDesc r.ticket) (s.ticket r.ticket).spec &&& ((s.ticket r.ticket).checks ||| 2) ≠
      unitNeeds (s.unitDesc r.ticket) (s.ticket r.ticket).spec →
    Gives (.laidRes h r) s fun t => ∃ g ∈ t.sh.groups, g.members = [r] ∧ g.since = s.now) ∧
  (∀ s h p k, s.carrier (s.ticket k).lc = some p → k < 262144 → (s.die (coreDie p)).inReset = false → (s.die (coreDie p)).epoch ≤ h.epoch →
    s.unseen (coreDie p) h 0x42 → (s.core p).parked = false → s.brkHeld p = false → (s.ticket k).state = .await → (s.ticket k).codes = 0 → s.quiet →
    Gives (.verdict h k true) s (fun t => s.partEnded t k (s.verdictPart k)) ∧
    (s.lcOf p ≠ none → Gives (.verdict h k false) s fun t => (t.ticket k).state = .triage)) ∧
  (∀ s p n c x i w, s.carries p n c → x.ecc = 0 → (s.core p).parked = false → x.kind = .localWrite → x.unit = none → (s.lc n).watch = [] →
    touched x (s.lc n).slots = [(i, w)] → w.state = 0 →
    Gives (.scratchpadAccess p x) s fun t => tget none (t.lc n).slots i = some { w with state := 1 }) ∧
  (∀ s p n c m, s.carries p n c → s.replaysOn p = none → m < 13824 → s.brkHeld p = false → (s.lc n).gate = [] →
    (∀ k ∈ lcTickets n, s.gated k = false) →
    Gives (.releaseGateTransfer p none (.lc m) [] [] false) s fun t => (t.lc n).gate = [] ∧ Emits s t (.gate p none true)) ∧
  (∀ s p n c m k words, s.carries p n c → s.replaysOn p = none → m < 13824 → n < 13824 → s.brkHeld p = false → (s.lc n).gate = [] → k ∈ lcTickets n →
    s.gated k = true → (s.ticket k).skip = 0 → s.sizingStray c n k (.lc m) = false →
    Gives (.releaseGateTransfer p (some { ticket := k }) (.lc m) words [] false) s fun t => (t.lc n).gate =
      [{ ticket := some k, dst := .lc m, decision := false, poisoned := false, spec := (s.ticket k).spec && !bit (s.ticket k).checks 5, stray := false,
         step := (s.lc n).lstep }])

/-- Pool blocks are asked for, lent and returned, and a ticket is read.
    It rests on the model's choices of logs 14 and 60. -/
def Obligations.PoolCommandsComplete : Prop :=
  (∀ s h d b v, isDie d = true → isDie h.src = true → s.acting = some v → s.newAt v h 0x91 → s.sh.poolWait = [] →
    ((List.range 160).find? fun b => (tget none s.sh.pool b).isNone) = some b →
    Gives (.poolLoan h d none) s fun t => tget none t.sh.pool b = some h.src ∧
      ∃ x, Emits s t (.felt x) ∧ x.type = 0x91 ∧ x.dst = h.src ∧ x.words = [s.epoch, b]) ∧
  (∀ s h d b, isDie d = true → isDie h.src = true → (s.die d).inReset = false → (s.die d).epoch ≤ h.epoch → s.unseen d h 0x91 →
    (∀ e ∈ s.sh.tickets, e.2.cross = false) → s.readyPair = none → s.readyGroup = none → s.quiet →
    Gives (.poolLoan h d (some b)) s fun t => (t.die d).poolAsked = decide ((s.freePoolIds d).length < 32) ∧ Emits s t (.ack d h.src 0x91 h.seq 0 0)) ∧
  (∀ s d b v, isCompute d = true → (s.dieBlocks d).getLast? = some b → 1 < (s.dieBlocks d).length → (∀ k ∈ poolIds b, (s.ticket k).state = .free) →
    s.sh.poolWait = [] → s.acting = some v →
    Gives (.poolBlockReturn d) s fun t => tget none t.sh.pool b = none ∧
      ∃ x, Emits s t (.felt x) ∧ x.src = d ∧ x.type = 0x91 ∧ x.dst = hubDie v ∧ x.words = [b]) ∧
  (∀ s rq k, s.admits (.ticketRead rq k) → s.inRange rq (s.ticket k).ctx = true →
    Gives (.ticketRead rq k) s fun t => t.answers rq 0x0500 stOk ((ticketWords k (s.ticket k)).map fun w => (32, w)))

/-! ## Re-placement, fences, teardown and resets (08) -/

/-- Re-placements start, borrow, place late, and transfers are held, accepted or discarded.
    It rests on the model's choices of logs 7, 48 and 71. -/
def Obligations.ReplacementEventsComplete : Prop :=
  (∀ s v n r p, s.acting = some v → n < 13824 → s.replaceOf n = some r → r.started = false → r.kind = 2 → r.exhausted = false →
    s.freeSpare (s.homeDie n) (s.homeCluster n) = some p → s.clear r.old p = true →
    Gives (.replacementStart n) s fun t => (∃ x ∈ t.sh.replaces, x.lc = n ∧ x.started = true ∧ x.new = some p) ∧
      Emits s t (.fill r.old p (!s.readable r.old)) ∧ (t.lc n).xferHold = true) ∧
  (∀ s v n r p b, s.acting = some v → n < 13824 → s.replaceOf n = some r → r.started = false → r.kind = 2 → s.spareFor n = some (p, b) →
    s.clear r.old p = true →
    Gives (.plannedReplaceSpareTimeout n) s fun t => (∃ x ∈ t.sh.replaces, x.lc = n ∧ x.started = true ∧ x.new = some p ∧ x.borrowed = b) ∧
      Emits s t (.fill r.old p (!s.readable r.old))) ∧
  (∀ s v n q u, s.acting = some v → n < 13824 → validCore q = true → tget none s.sh.unplaced n = some u → s.replaceOf n = none →
    s.partOf (coreDie q) = s.partOf (s.homeDie n) → s.freeSpare (coreDie q) (coreCluster q) = some q →
    Gives (.latePlacement n q) s fun t =>
      if s.clusterFills [n] u.1 = true ∨ s.clusterFills [n] q = true then ∃ x ∈ t.sh.replaces, x.lc = n ∧ x.kind = 5 ∧ x.started = false
      else (∃ x ∈ t.sh.replaces, x.lc = n ∧ x.kind = 5 ∧ x.new = some q) ∧ Emits s t (.fill u.1 q (!s.readable u.1)) ∧
        (t.lc n).xferHold = true) ∧
  (∀ s x, x.dstLc < 13824 → (s.lc x.dstLc).xferHold = true →
    Gives (.dataTransferArrival x) s fun t => (t.lc x.dstLc).heldXfers = (s.lc x.dstLc).heldXfers ++ [x]) ∧
  (∀ s x p, x.dstLc < 13824 → (s.lc x.dstLc).xferHold = false → s.carrier x.dstLc = some p → s.accepts p x = true →
    (s.core p).parked = false → (s.die (coreDie p)).beater.stall = false →
    ((s.core p).stallNow ∉ s.xferReasons p x → Gives (.dataTransferArrival x) s fun t => t = s) ∧
    ((s.core p).stallNow ∈ s.xferReasons p x → Gives (.dataTransferArrival x) s fun t => (t.core p).stallNow = 0 ∧ (t.core p).awaited = none ∧
      tget 0 (t.core p).stall (s.core p).stallNow = sat 64 (tget 0 (s.core p).stall (s.core p).stallNow + (s.now - (s.core p).stallSince)))) ∧
  (∀ s x p, x.dstLc < 13824 → (s.lc x.dstLc).xferHold = false → s.carrier x.dstLc = some p → x.kind = .plain → s.accepts p x = false →
    (s.core p).parked = false → (s.die (coreDie p)).inReset = false → s.calm (coreSource p 30) → s.calm (ctxSource (x.tag % 4096) 2) →
    Gives (.dataTransferArrival x) s fun t =>
      t.firstCount (coreDie p) (coreSource p 30) = min 255 (s.firstCount (coreDie p) (coreSource p 30) + 1) ∧
      t.firstCount (coreDie p) (ctxSource (x.tag % 4096) 2) = min 255 (s.firstCount (coreDie p) (ctxSource (x.tag % 4096) 2) + 1))

/-- Map and fence orders execute, accesses at a fence are absorbed or discarded, and a teardown runs from revocation to scrub.
    It rests on the model's choices of logs 60, 61 and 71. -/
def Obligations.FenceEventsComplete : Prop :=
  (∀ s h d p w, isCompute d = true → (s.die d).inReset = false → (s.die d).epoch ≤ h.epoch → s.unseen d h 0x0C → s.noPkg 73 →
    validCore p = true → coreDie p = d → w < 2 ^ 32 → bits w 14 14 < 13824 →
    Gives (.fenceCmd h d (.phys p w)) s fun t => t.phys p = w ∧
      (t.die d).deckleGen = (if s.phys p = w then (s.die d).deckleGen else ((s.die d).deckleGen + 1) % 2 ^ 32)) ∧
  (∀ s h d i w, isCompute d = true → (s.die d).inReset = false → (s.die d).epoch ≤ h.epoch → s.unseen d h 0x0C → s.noPkg 73 → i < 144 → w < 2 ^ 32 →
    bits w 17 14 < 13824 → (bit w 31 = true → validCore (bits w 0 16) = true) →
    Gives (.fenceCmd h d (.home i w)) s fun t => tget 0 (t.die d).home i = w) ∧
  (∀ s h d p, isCompute d = true → (s.die d).inReset = false → (s.die d).epoch ≤ h.epoch → s.unseen d h 0x0C → validCore p = true → coreDie p = d →
    s.resetting 0 p = false →
    Gives (.fenceCmd h d (.resetCore p)) s fun t => (t.core p).resetting = true ∧ 16 + coreIndex p ∈ (t.die d).fences) ∧
  (∀ s d, isCompute d = true → (s.die d).fences ≠ [] →
    Gives (.meshAccessAtFence d true) s (fun t => (t.die d).discard = satAdd 32 (s.die d).discard 1) ∧
    Gives (.meshAccessAtFence d false) s (fun t => (t.die d).absorb = satAdd 32 (s.die d).absorb 1 ∧ Emits s t (.poisonedCompletion d))) ∧
  (∀ s h d tag, isDie d = true → (s.die d).inReset = false → (s.die d).epoch ≤ h.epoch → s.unseen d h 0x0D →
    Gives (.tagRevoke h d tag) s fun t => tag ∈ (t.die d).revoked ∧ tget none (t.die d).arms (tag % 4096) = none ∧
      ∀ n ∈ s.ctxLcs (tag % 4096), (s.lc n).tag = some tag → ∀ p, s.carrier n = some p → coreDie p = d → (t.lc n).issuing = false) ∧
  (∀ s v c x k b, s.acting = some v → c < 4096 → (s.ctx c).teardown = some x → x.step < 6 → (∀ n, (s.lc n).gate = []) →
    Gives (.teardownDrainEnd c k b) s fun t => (t.ctx c).teardown = some { x with step := 6, discarded := k } ∧ (t.ctx c).hosts = [] ∧
      ((s.ctx c).hosts ≠ [] → Emits s t (.completion (s.tagOf c) 2)) ∧
      ∀ n ∈ s.ctxLcs c, ∀ k ∈ lcTickets n, (t.ticket k).state = .free) ∧
  (∀ s c x, c < 4096 → (s.ctx c).teardown = some x → 6 ≤ x.step → (s.ctx c).snap = none →
    Gives (.scrubDone c) s fun t => (t.ctx c).state = 0 ∧ (t.ctx c).freedAt = some s.now ∧ (t.ctx c).incarnation = (s.ctx c).incarnation ∧
      ∀ n ∈ s.ctxLcs c, (t.lc n).tag = none ∧ (t.lc n).lstep = (s.lc n).lstep ∧
        ∀ p, s.carrier n = some p → Emits s t (.zeroed p))

/-- Resets of a core, a cluster and an agent end or overrun, a teardown's overrun resets the core, and the power-cycle request repeats.
    It rests on the model's choices of logs 9, 37 and 69. -/
def Obligations.ResetEventsComplete : Prop :=
  (∀ s p r, s.runningReset 0 p = some r →
    Gives (.domainResetDone 0 p) s fun t => (t.core p).resetting = false ∧ t.runningReset 0 p = none ∧
      16 + coreIndex p ∉ (t.die (coreDie p)).fences ∧ Emits s t (.coreReset p) ∧ Emits s t (.zeroed p)) ∧
  (∀ s k r, s.runningReset 1 k = some r →
    Gives (.domainResetDone 1 k) s fun t => t.runningReset 1 k = none ∧ k % 16 ∉ (t.die (k / 16)).fences ∧ Emits s t (.clusterZeroed (k / 16) (k % 16)) ∧
      ∀ p ∈ clusterCores (k / 16) (k % 16), (t.core p).resetting = false ∧ Emits s t (.coreReset p)) ∧
  (∀ s v p r, s.acting = some v → s.runningReset 0 p = some r → s.resetting 1 (coreDie p * 16 + coreCluster p) = false → s.obeys (coreDie p) = true →
    s.noPkg 73 → s.noPkg 232 → (∀ n, s.lcOf p = some n → (s.lc n).heldXfers = []) →
    Gives (.resetOverrun 0 p) s fun t => physState (t.phys p) = 3 ∧ t.runningReset 0 p = none ∧
      t.runningReset 1 (coreDie p * 16 + coreCluster p) ≠ none) ∧
  (∀ s d r, isDie d = true → s.runningReset 2 d = some r → s.targetCore d = none →
    Gives (.agentResetDone d) s fun t => (t.die d).inReset = false ∧ (d ≠ s.actDie → (t.die d).first = []) ∧ t.runningReset 2 d = none) ∧
  (∀ s v c x p, s.acting = some v → s.activeHub = some v → c < 4096 → validCore p = true → (s.ctx c).teardown = some x → x.step < 6 →
    s.coreCtx p = some c → s.resetting 0 p = false →
    (s.coreRung (s.partOf (coreDie p))).count < (s.ladder (s.partOf (coreDie p))).1 →
    Gives (.teardownOverrun c [p]) s fun t => (t.core p).resetting = true ∧ t.runningReset 0 p ≠ none) ∧
  (∀ s, s.pkg.powerPending = true → (s.leaked (pkgSource 7)).count < 5 →
    Gives .powerCycleReqRepeat s fun t => Emits s t (.vendor 7 [s.pkg.powerSource, (s.leaked (pkgSource 7)).count]) ∧
      t.pkg.powerReqs = s.pkg.powerReqs + 1)

/-- The commands on the map, the ladder and service complete.
    It rests on the model's choices of logs 14, 35 and 69. -/
def Obligations.LadderCommandsComplete : Prop :=
  (∀ s rq d seg, s.admits (.deckleRead rq d seg) → seg ≤ 2 → (s.die d).inReset = false → s.obeys d = true → s.noPkg 73 →
    Gives (.deckleRead rq d seg) s fun t => t.answers rq 0x0300 stOk ((s.sliceWords d seg).map fun w => (32, w))) ∧
  (∀ s rq p, s.admits (.coreReturn rq p) → s.inTriage p = false → (s.core p).escaped = some true → physState (s.phys p) = 2 → s.obeys (coreDie p) = true →
    Gives (.coreReturn rq p) s fun t => (t.core p).escaped = none ∧ physState (t.phys p) = 0 ∧ t.answers rq 0x0301 stOk []) ∧
  (∀ s rq p, s.admits (.reset rq 0 p) → s.inTriage p = false → s.resetting 0 p = false →
    (s.coreRung (s.partOf (coreDie p))).count < (s.ladder (s.partOf (coreDie p))).1 →
    Gives (.reset rq 0 p) s fun t => (t.core p).resetting = true ∧ t.runningReset 0 p ≠ none) ∧
  (∀ s rq part n w, s.admits (.ladderCfg rq part n w) → 1 ≤ n → n ≤ 4095 → 1 ≤ w → w ≤ 3600000000 →
    Gives (.ladderCfg rq part n w) s fun t => t.ladder part = (n, w) ∧ t.answers rq 0x0303 stOk []) ∧
  (∀ s rq part, s.admits (.partRelease rq part) → part ∈ s.pkg.partHeld →
    Gives (.partRelease rq part) s fun t => part ∉ t.pkg.partHeld ∧ t.answers rq 0x0304 stOk []) ∧
  (∀ s rq, s.admits (.oosEnter rq) → Gives (.oosEnter rq) s fun t => t.pkg.oos = true ∧ t.answers rq 0x0305 stOk []) ∧
  (∀ s rq, s.admits (.serviceResume rq) → s.pkg.oos = true →
    Gives (.serviceResume rq) s fun t =>
      if s.signs (.serviceResume rq) then t.pkg.oos = false ∧ t.pkg.boot = .step 2 ∧ (t.counter (pkgSource 7)).count = 0 ∧
        (t.counter (pkgSource 7)).total = (s.counter (pkgSource 7)).total
      else s.deniesSignature t rq 0x0306)

/-! ## Snapshots, groups, restore and reclamation (09) -/

/-- A snapshot is requested, its holds and barrier follow, its holders answer, and it is kept, dropped or ends at its deadline.
    It rests on the model's choices of logs 14, 31, 38 and 39. -/
def Obligations.SnapshotsComplete : Prop :=
  (∀ s rq d off len, s.admits (.reamAreaSet rq d off len) → len ≤ s.pkg.spad - off →
    Gives (.reamAreaSet rq d off len) s fun t => tget none t.pkg.reamAreas d = some (off, len) ∧ t.answers rq 0x0700 stOk []) ∧
  (∀ s rq id iter pt package delta deadline m, s.admits (.snapBegin rq id iter pt package delta deadline m) → s.pkg.ready = true →
    ((s.ctx rq.ctx).state = 1 ∨ (s.ctx rq.ctx).state = 2) → (s.ctx rq.ctx).snap = none → s.snapRefusal rq.ctx iter pt package m = none →
    deadline ≤ 60000 →
    Gives (.snapBegin rq id iter pt package delta deadline m) s fun t => t.runs rq 0x0701 rq.ctx ∧
      (t.ctx rq.ctx).snap = some { id := id, iter := iter, point := pt, package := package, delta := delta, deadline := deadline, step := 2,
                                   held := [], barrierReel := 0, reams := m.reams, acked := [], lost := [], man := none, data := [], state := (0, 0, 0) }) ∧
  (∀ s n c p x, n < 13824 → s.lcCtx n = some c → s.carrier n = some p → (s.ctx c).snap = some x → x.step = 2 → n ∉ x.held → (s.ctx c).state ≠ 3 →
    Gives (.snapPointReached n) s fun t => (t.lc n).snapHeld = true ∧ (∃ e ∈ (t.core p).holds, e.1 = 6) ∧
      (t.ctx c).snap = some { x with held := insertNat n x.held }) ∧
  (∀ s v c x, s.acting = some v → c < 4096 → (s.ctx c).snap = some x → x.step = 2 →
    (∀ n ∈ s.ctxLcs c, n ∈ x.held ∧ s.openTickets n = [] ∧ (s.lc n).points = []) →
    Gives (.snapBarrierComplete c false) s (fun t =>
      (t.ctx c).snap = some { x with step := 5, barrierReel := s.now, man := some (s.snapManifest c x) }) ∧
    Gives (.snapBarrierComplete c true) s fun t => (t.ctx c).snap = none ∧ ∀ n ∈ s.ctxLcs c, (t.lc n).snapHeld = false) ∧
  (∀ s v c i k w set x m r y l, s.acting = some v → c < 4096 → (s.ctx c).snap = some x → x.step = 5 → x.man = some m → (i, k) ∉ x.acked →
    (i, k) ∉ x.lost → x.reams[i]? = some r → r.shards.find? (fun y => y.index == k) = some y → holderWords x i r k w = some l →
    (x.lost.filter fun e => e.1 == i).length < 3 →
    (x.acked.length + 1 + x.lost.length < (x.reams.map fun r => r.shards.length).foldl (· + ·) 0 →
      Gives (.snapHolderAck c i k w false false set) s fun t => (y.here = true → l.length = y.length / 8 → t.areaWords y.die y.offset y.length = l) ∧
        (t.ctx c).snap = some { x with acked := x.acked ++ [(i, k)], reams := setDigest x.reams i k (shardDigest l)
                                       data := if k < r.n then x.data ++ [((i, k), l)] else x.data
                                       state := if k < r.n then foldState (s.ctx c).s0 (s.ctx c).s1 x.state set else x.state }) ∧
    (x.acked.length + 1 + x.lost.length = (x.reams.map fun r => r.shards.length).foldl (· + ·) 0 → (s.ctx c).reclaimAt = none →
      Gives (.snapHolderAck c i k w false false set) s fun t => (t.ctx c).snap = none ∧
        ∃ z, (t.ctx c).manifests.head? = some z ∧ z.id = m.id ∧ z.valid = true ∧ z.reams = setDigest x.reams i k (shardDigest l) ∧
          (z.d0, z.d1, z.count) = (if k < r.n then foldState (s.ctx c).s0 (s.ctx c).s1 x.state set else x.state) ∧ Emits s t (.snapDone z)) ∧
    Gives (.snapHolderAck c i k w true false set) s fun t => (t.ctx c).snap = none) ∧
  (∀ s v c x r, s.acting = some v → c < 4096 → (s.ctx c).snap = some x → x.deadline ≠ 0 → (s.sh.runs.filter fun x => x.opcode == 0x0701 && x.ctx == c) = [r] →
    Gives (.snapDeadlineExpiry c) s fun t => (t.ctx c).snap = none ∧ s.ended t r stNotReady [(32, 10)] ∧ ∀ n ∈ s.ctxLcs c, (t.lc n).snapHeld = false)

/-- Snapshots are released, defaulted and copied to the other hub; risk is recomputed; a wait on another package is recorded.
    It rests on the model's choices of logs 14 and 31. -/
def Obligations.SnapshotKeepingCompletes : Prop :=
  (∀ s rq id, s.admits (.snapRelease rq id) → (∀ r, (s.ctx rq.ctx).restoring = some r → r.1.id ≠ id) →
    Gives (.snapRelease rq id) s fun t => (t.ctx rq.ctx).manifests = ((s.ctx rq.ctx).manifests.filter fun m => m.id != id) ∧
      t.answers rq 0x0702 stOk []) ∧
  (∀ s rq package base m, s.admits (.snapDefault rq package base m) → ((s.ctx rq.ctx).state = 1 ∨ (s.ctx rq.ctx).state = 2) → s.mapOk package m = true →
    Gives (.snapDefault rq package base m) s fun t => (t.ctx rq.ctx).defaultMap = some (package, base, m) ∧ t.answers rq 0x0706 stOk []) ∧
  (∀ s h c m sb, c < 4096 → s.standbyHub = some sb → (s.die (hubDie sb)).inReset = false → (s.die (hubDie sb)).epoch ≤ h.epoch →
    s.unseen (hubDie sb) h 0xC2 → m.valid = true → (∀ k ∈ (s.ctx c).manifests, k.id ≠ m.id) →
    Gives (.manifest h c m) s fun t => (t.ctx c).manifests = (m :: (s.ctx c).manifests).take 2 ∧ Emits s t (.ack (hubDie sb) h.src 0xC2 h.seq 0 0)) ∧
  (∀ s v c x p, s.acting = some v → s.sh.ctxs = [(c, x)] → (x.state = 1 ∨ x.state = 2) → x.plan = some p → p.training = true →
    Gives .riskRecompute s fun t => (t.ctx c).risk = sat 16 ((s.riskInputs c).foldl (· + ·) 0)) ∧
  (∀ s p c v, validCore p = true → s.acting = some v → s.coreCtx p = some c → (s.core p).stallNow = 8 → s.vatA.staging.length < 1024 →
    Gives (.xpkgWait p) s fun t => s.recorded t 0x0907 (ctxSource c 0) c ((s.core p).awaited.getD 0xFFFFFF)
      (sat 24 ((s.now - (s.core p).stallSince) / 1000000)))

/-- Group tables, restores and reclamation complete.
    It rests on the model's choices of logs 31, 32, 34 and 40. -/
def Obligations.RestoreAndReclaimComplete : Prop :=
  (∀ s rq g, s.admits (.groupSet rq g) → (s.ctx rq.ctx).state = 1 → (∀ o, (s.ctx rq.ctx).group = some o → o.epoch < g.epoch) → 1 ≤ g.ranks →
    g.ranks ≤ 256 → g.rank < g.ranks → g.addrs.length ≤ g.ranks →
    Gives (.groupSet rq g) s fun t => (t.ctx rq.ctx).group = some g ∧ t.answers rq 0x0704 stOk []) ∧
  (∀ s rq id delta m crc g, s.admits (.restore rq id delta m crc g) → s.pkg.ready = true → (s.ctx rq.ctx).restoring = none →
    s.restoreCheck rq.ctx id delta m crc = none →
    Gives (.restore rq id delta m crc g) s fun t => (t.ctx rq.ctx).restoring = some (m, (clampGroup g).1, s.now) ∧ t.runs rq 0x0703 rq.ctx) ∧
  (∀ s v c remote poisoned set m g at0 n k r, s.acting = some v → c < 4096 → (s.ctx c).restoring = some (m, g, at0) →
    (∀ e ∈ m.reams.zipIdx, (e.1.shards.filter fun y => (s.shardLeft e.2 remote poisoned y).isNone).length ≤ 2) →
    foldState (s.ctx c).s0 (s.ctx c).s1 (0, 0, 0) set = (m.d0, m.d1, m.count) → m.steps = [(n, k)] → n ∈ s.ctxLcs c →
    (s.sh.runs.filter fun x => x.opcode == 0x0703 && x.ctx == c) = [r] →
    Gives (.restoreGatherDone c remote poisoned set) s fun t => (t.ctx c).restoring = none ∧ (t.ctx c).iter = m.iter ∧ (t.lc n).lstep = k ∧
      (t.lc n).lstepValid = true ∧ s.ended t r stOk []) ∧
  (∀ s rq parts d c, s.admits (.reclaim rq parts d) → s.pkg.ready = true → 10 ≤ d → d ≤ 60 → s.pkg.reclaim = [] → s.reclaimed parts = [c] →
    Gives (.reclaim rq parts d) s fun t => (t.ctx c).reclaimAt ≠ none ∧ Emits s t (.vendor 6 [c, parts, d]) ∧
      (parts, s.now + d * 1000000000) ∈ t.pkg.reclaim) ∧
  (∀ s v c x, s.acting = some v → c < 4096 → (s.ctx c).reclaimAt ≠ none → (s.ctx c).autoSnap = 1 → (s.ctx c).snap = none →
    ((s.ctx c).state = 1 ∨ (s.ctx c).state = 2) → (s.ctx c).plan ≠ none → (s.ctx c).defaultMap = some x → s.mapOutside x.2.2 = true →
    (∀ p, (s.ctx c).plan = some p → s.snapRefusal c ((s.ctx c).nextPoint p).1 ((s.ctx c).nextPoint p).2 x.1 x.2.2 = none) →
    Gives (.reclaimAutoSnapTimeout c) s fun t => (t.ctx c).snap.map (fun y => (y.id, y.step)) = some ((s.ctx c).autoId, 2)) ∧
  (∀ s v r c, s.acting = some v → s.pkg.reclaim = [r] → s.reclaimed r.1 = [c] → (s.ctx c).reclaimAt ≠ none →
    Gives .reclaimDeadline s fun t => (t.ctx c).state = 3 ∧ (t.ctx c).snap = none ∧ (t.ctx c).teardown.map (·.trigger) = some 3)

/-! ## Beater screening (06) -/

/-- Targets, windows and slices: a lease is asked for a window, a forfeited window is left, slices start, go on or stop, and end.
    It rests on the model's choices of logs 12, 30, 60 and 77. -/
def Obligations.SlicesComplete : Prop :=
  (∀ s p n v a l, validCore p = true → s.acting = some v → s.lcOf p = some n → (s.die (coreDie p)).beater.target = some (coreIndex p) →
    s.beaterOk (coreDie p) = true → (s.die (coreDie p)).beater.lease = none → (s.die (coreDie p)).beater.request = none →
    s.furnished (coreDie p) (s.die (coreDie p)).beater.kind = true → a ≤ (s.lc n).lstep + 16384 → (s.lc n).lstep < a + l →
    Gives (.sizingWindowLeaseRequest p a l) s fun t => (t.die (coreDie p)).beater.window = some (a, l) ∧
      (t.die (coreDie p)).beater.request = some (0, s.now) ∧ ∃ x, Emits s t (.felt x) ∧ x.src = coreDie p ∧ x.type = 0x87 ∧ x.words = [0]) ∧
  (∀ s d w, isCompute d = true → (s.die d).beater.window = some w → (s.die d).beater.lease = none →
    Gives (.sizingWindowForfeit d) s fun t => (t.die d).beater.window = none ∧ (t.die d).beater.request = none) ∧
  (∀ s p, validCore p = true → s.mayShift (coreDie p) p = true → s.freeToScreen p = true →
    Gives (.sliceStart (coreDie p) p) s fun t => (t.die (coreDie p)).beater.shifting = true ∧ (t.core p).parked = true ∧
      Emits s t (.shift (coreDie p) p (if (s.die (coreDie p)).beater.confirm = 1 then 1023 else (s.die (coreDie p)).beater.slice))) ∧
  (∀ s p n reason aw, validCore p = true → s.lcOf p = some n → s.stopped p = false → reason ∈ handshakeReasons → (∀ m, aw = some m → m < 13824) →
    ((s.core p).relaxed = false → Gives (.relaxedStallScan p reason aw) s fun t => (t.core p).stallNow = reason ∧ (t.core p).awaited = aw) ∧
    ((s.core p).relaxed = true → s.mayShift (coreDie p) p = true → Gives (.relaxedStallScan p reason aw) s fun t =>
      (t.core p).stallNow = reason ∧ (t.die (coreDie p)).beater.shifting = true ∧ (t.die (coreDie p)).beater.stall = true ∧
      (t.die (coreDie p)).relaxCnt = satAdd 32 (s.die (coreDie p)).relaxCnt 1 ∧
      tget 0 t.pkg.relaxSum (s.partOf (coreDie p)) = satAdd 64 (tget 0 s.pkg.relaxSum (s.partOf (coreDie p))) 1)) ∧
  (∀ s d p m, isCompute d = true → m < 2 ^ 64 → s.targetCore d = some p → (s.die d).beater.shifting = true → s.screenOk d = true →
    s.leaseLasts d = true → (s.die d).stopLatch = false → (s.core p).frozen = false → (s.core p).resetting = false → (s.die d).beater.stall = false →
    (s.core p).deferred = [] → (s.die d).beater.confirm = 0 →
    Gives (.shiftSegmentDone d m) s fun t => if (s.die d).beater.stopping = true then (t.die d).beater.shifting = false ∧ (t.core p).parked = false
      else (t.die d).beater = { (s.die d).beater with misr := m }) ∧
  (∀ s v d p, isCompute d = true → s.acting = some v → s.targetCore d = some p → (s.die d).beater.shifting = true → (s.core p).deferred = [] →
    (s.core p).resetting = false → (s.die d).beater.confirm = 0 → s.abandoned d p = false →
    ((s.die d).beater.misr = s.expected d → (s.die d).beater.slice + 1 < (s.runRange d).2 →
      Gives (.sliceEnd d true) s fun t => (t.die d).beater.slice = (s.die d).beater.slice + 1 ∧ (t.die d).beater.shifting = false ∧
        (t.die d).beater.applied = (s.die d).beater.applied + 1 ∧ (t.core p).parked = false) ∧
    ((s.die d).beater.misr ≠ s.expected d → (s.die d).beater.kind < 2 → s.lcOf p = none → s.calm (coreSource p 24) → s.filling p = false →
      s.obeys d = true → Gives (.sliceEnd d true) s fun t => (t.die d).beater.confirm = 1 ∧ (t.die d).beater.shifting = false ∧
        (t.die d).beater.firstFail = some ((s.die d).beater.firstFail.getD (s.die d).beater.slice) ∧
        (physState (s.phys p) < 2 → physState (t.phys p) = 2)))

/-- Shift leases are asked for, granted, refused, returned and expire.
    It rests on the model's choices of logs 22, 60 and 77. -/
def Obligations.LeasesComplete : Prop :=
  (∀ s h v kind, isCompute h.src = true → kind ≤ 1 → s.acting = some v → s.newAt v h 0x87 →
    Gives (.leaseReq h kind) s fun t =>
      if s.mayGrant h.src kind = true then (h.src, kind, s.now + 80000) ∈ t.sh.leases ∧
        ∃ x, Emits s t (.felt x) ∧ x.type = 0x88 ∧ x.dst = h.src ∧ x.words = [s.epoch, kind, s.now + 80000]
      else if kind = 0 ∧ 3 ≤ tget 0 s.sh.refusals h.src ∧ s.sh.blackout ≤ s.now then t.sh.leases = s.sh.leases ∧ h.src ∈ t.sh.leaseWait ∧
        h.src ∈ t.sh.starved
      else t.sh.leases = s.sh.leases ∧ ∃ x, Emits s t (.felt x) ∧ x.type = 0x88 ∧ x.dst = h.src ∧ x.words = [s.epoch, kind, 0] ∧
        (kind = 0 → tget 0 t.sh.refusals h.src = tget 0 s.sh.refusals h.src + 1)) ∧
  (∀ s h v, isCompute h.src = true → s.acting = some v → s.newAt v h 0x87 → s.sh.startupQ = [] → s.sh.leaseWait = [] →
    s.mayGrant h.src 2 = true → Gives (.leaseReq h 2) s fun t => (h.src, 2, s.now + 2000000000) ∈ t.sh.leases) ∧
  (∀ s h d kind e, isCompute d = true → kind ≤ 2 → (s.die d).inReset = false → (s.die d).epoch ≤ h.epoch → s.unseen d h 0x88 → e ≠ 0 →
    (s.die d).beater.request ≠ none →
    Gives (.leaseGrant h d kind e) s fun t => (t.die d).beater.lease = some e ∧ (t.die d).beater.leaseKind = kind ∧
      (t.die d).leaseGrant = satAdd 32 (s.die d).leaseGrant 1) ∧
  (∀ s h d kind, isCompute d = true → kind ≤ 2 → (s.die d).inReset = false → (s.die d).epoch ≤ h.epoch → s.unseen d h 0x88 →
    Gives (.leaseGrant h d kind 0) s fun t => (t.die d).leaseRefuse = satAdd 32 (s.die d).leaseRefuse 1) ∧
  (∀ s h v, isCompute h.src = true → s.acting = some v → s.newAt v h 0x89 → s.sh.startupQ = [] → s.sh.leaseWait = [] →
    Gives (.leaseReturn h) s fun t => t.sh.leases = s.sh.leases.filter fun l => l.1 != h.src) ∧
  (∀ s d, isCompute d = true → s.sh.startupQ = [] → s.sh.leaseWait = [] → (∀ p, s.targetCore d = some p → (s.core p).deferred = []) →
    Gives (.leaseExpiry d) s fun t => (t.die d).beater.lease = none ∧ t.sh.leases = s.sh.leases.filter fun l => l.1 != d) ∧
  (∀ s d v r, isCompute d = true → s.acting = some v → (s.die d).beater.request = some (1, r) →
    Gives (.leaseRetryTick d) s fun t => ∃ x, Emits s t (.felt x) ∧ x.src = d ∧ x.type = 0x87 ∧ x.dst = hubDie v ∧ x.words = [1]) ∧
  (∀ s, Gives .leaseBlackoutEnd s fun t => t.sh.blackout = 0)

/-- Screen ages, a stale fleet furnish, and the screening commands complete.
    It rests on the model's choices of logs 12, 14 and 77. -/
def Obligations.ScreenAgesComplete : Prop :=
  (∀ s p v, validCore p = true → s.acting = some v → (s.core p).lateShown = false → s.vatA.staging.length < 1024 →
    Gives (.screenLate p) s fun t => (t.core p).lateShown = true ∧
      s.recorded t 0x0602 (coreSource p 0) p (sat 24 (s.screenAge p / 1000000000)) 0) ∧
  (∀ s v p, validCore p = true → s.acting = some v → (s.core p).overShown = false → bit s.pkg.voidReasons 1 = false → s.noPkg 209 →
    Gives (.screenOverdue p) s fun t => (t.core p).overShown = true ∧ t.pkg.voidReasons = s.pkg.voidReasons + 2) ∧
  (∀ s v x, s.acting = some v → s.activePack 2 = some x → bit s.pkg.voidReasons 3 = false → s.noPkg 209 →
    Gives .fleetStale s fun t => t.pkg.voidReasons = s.pkg.voidReasons + 8) ∧
  (∀ s p, validCore p = true → s.brkHeld p = true → Gives (.brkHoldScreen p) s fun t => (t.core p).openScreen = true) ∧
  (∀ s rq p, s.admits (.screenRun rq p 1) → s.inTriage p = false → (s.die (coreDie p)).inReset = false → (s.die (coreDie p)).beater.unusable = false →
    s.furnished (coreDie p) 1 = true →
    s.enabled (coreDie p) = true → physState (s.phys p) < 3 → s.obeys (coreDie p) = true →
    Gives (.screenRun rq p 1) s fun t => t.answers rq 0x0600 stOk [] ∧
      ((∃ b ∈ (t.die (coreDie p)).beater.queue, b.core = coreIndex p ∧ (b.kind = 1 ∨ b ∈ (s.die (coreDie p)).beater.queue)) ∨
        ((t.die (coreDie p)).beater.target = some (coreIndex p) ∧ (t.die (coreDie p)).beater.kind = 1))) ∧
  (∀ s rq, s.admits (.screenStatus rq) →
    Gives (.screenStatus rq) s fun t => t.answers rq 0x0601 stOk
      (([1, 2, 3].flatMap fun k => match s.activePack k with
        | some p => [(32, p.serial), (32, p.keyId), (32, p.hours)]
        | none => [(32, 0), (32, 0), (32, 0)]) ++
      [(32, s.fleetAge), (32, ((((List.range 96).filter s.enabled).flatMap fun d => (dieCores d).filter fun p => decide (physState (s.phys p) < 4)).map
        fun p => s.screenAge p / 1000000000).foldl max 0)]))

/-! ## Watchpoints, breakpoints, the global stop, dumps and the recorder (14) -/

/-- Watchpoints and breakpoints are set, cleared, triggered, drained and resumed.
    It rests on the model's choices of logs 14, 45 and 87. -/
def Obligations.BreakpointCommandsComplete : Prop :=
  (∀ s rq i n base len kinds tm action, s.admits (.watchSet rq i n base len kinds tm action) → rq.priv ≠ .tenant → s.lcTriage n = false →
    (∀ p, s.carrier n = some p → (s.core p).parked = false) → len % 64 = 0 → 64 ≤ len → base + len ≤ s.pkg.spad →
    Gives (.watchSet rq i n base len kinds tm action) s fun t => t.answers rq 0x0C00 stOk [] ∧ tget none (t.lc n).watch i =
      some { base := base, len := len, kinds := kinds, tagMatch := tm == 1, action := action, tag := s.tagOf rq.ctx, hits := 0 }) ∧
  (∀ s rq n i w, s.admits (.watchClear rq n i) → rq.priv ≠ .tenant → s.lcTriage n = false →
    (∀ p, s.carrier n = some p → (s.core p).parked = false) → tget none (s.lc n).watch i = some w →
    Gives (.watchClear rq n i) s fun t => tget none (t.lc n).watch i = none ∧ t.answers rq 0x0C01 stOk [(32, w.hits)]) ∧
  (∀ s rq n k, s.admits (.brkSet rq 1 0 n k) → ((s.ctx rq.ctx).state = 1 ∨ (s.ctx rq.ctx).state = 2) → (s.ctx rq.ctx).brks.length < 16 →
    Gives (.brkSet rq 1 0 n k) s fun t => t.answers rq 0x0C02 stOk [(8, freeBrk (s.ctx rq.ctx).brks)] ∧
      (t.ctx rq.ctx).brks = (s.ctx rq.ctx).brks ++ [{ number := freeBrk (s.ctx rq.ctx).brks, kind := 1, scope := 0, arg := n, arg2 := k }]) ∧
  (∀ s rq n, s.admits (.brkClear rq n) →
    Gives (.brkClear rq n) s fun t => t.answers rq 0x0C03 stOk [] ∧
      (t.ctx rq.ctx).brks = (s.ctx rq.ctx).brks.filter fun b => !(n == 0xFF || b.number == n)) ∧
  (∀ s rq run b, s.admits (.brkResume rq run) → (s.ctx rq.ctx).brkHold = some b → b.after = false →
    (b.inForce = false → Gives (.brkResume rq run) s fun t => t.runs rq 0x0C04 rq.ctx ∧
      (t.ctx rq.ctx).brkHold = some { b with resume := some run }) ∧
    (b.inForce = true → (∀ p ∈ s.scopeCores rq.ctx b.scope, (s.core p).deferred = []) →
      Gives (.brkResume rq run) s fun t => t.answers rq 0x0C04 stOk [] ∧ (t.ctx rq.ctx).brkHold = none)) ∧
  (∀ s d c a b, isDie d = true → ((s.die d).comparators.filter fun x => x.2 == a) = [(c, a)] →
    ((s.ctx c).brks.filter fun b => b.kind == 0 && b.arg == a) = [b] → (s.ctx c).brkHold = none → s.dbg.gstop = none →
    Gives (.brkAddrTrap d a) s fun t => (t.ctx c).brkHold =
      some { kind := b.kind, scope := b.scope, number := b.number, start := s.now, inForce := false, resume := none, after := false }) ∧
  (∀ s c b v, c < 4096 → s.acting = some v → s.vatA.staging.length < 1024 → (s.ctx c).brkHold = some b → b.inForce = false → b.after = false →
    b.resume = none →
    Gives (.brkDrainEnd c) s fun t => (t.ctx c).brkHold = some { b with inForce := true } ∧
      s.recorded t 0x0E00 (ctxSource c 0) (b.kind * 2 ^ 20 + b.scope * 2 ^ 16 + c) b.number (sat 24 ((s.now - b.start) / 1000)))

/-- A global stop is initiated, spreads, fills its table, and is released at its activation count.
    It rests on the model's choices of logs 7, 43 and 60. -/
def Obligations.GlobalStopCompletes : Prop :=
  (∀ s rq, s.admits (.gstop rq) → s.dbg.gstop = none →
    Gives (.gstop rq) s fun t => t.dbg.gstop = some (0, s.now) ∧ (t.die s.actDie).stopLatch = true ∧ t.runs rq 0x0C05 0) ∧
  (∀ s hub, (s.pkg.lifecycle = 1 ∨ s.pkg.lifecycle = 3 ∨ (s.pkg.lifecycle = 2 ∧ s.pkg.vendorDebug = true)) → s.dbg.gstop = none →
    Gives (.gstopJtag hub) s fun t => t.dbg.gstop = some (2, s.now) ∧ (t.die (hubDie hub)).stopLatch = true) ∧
  (∀ s d, isDie d = true → s.dbg.gstop ≠ none → (s.die d).stopLatch = false →
    Gives (.stopRise d) s fun t => (t.die d).stopLatch = true ∧ Emits s t (.stopWave d)) ∧
  (∀ s h v e w i k, s.acting = some v → s.newAt v h 0xC4 → s.dbg.gstop = some i → w.length = 8 → k < 256 → readStop w = e →
    validCore e.pcore = true → coreDie e.pcore = h.src →
    Gives (.stopTable h ((k * 2 ^ 16 + 1) :: w)) s fun t => tget none t.dbg.stopTable e.pcore = some e ∧
      Emits s t (.ack (hubDie v) h.src 0xC4 h.seq 0 0)) ∧
  (∀ s h v w i, s.acting = some v → s.newAt v h 0xC4 → s.dbg.gstop = some i → w.length = 4 →
    Gives (.stopTable h ((2 ^ 24 + 4) :: w)) s fun t => tget none t.dbg.stopLinks h.src = some w) ∧
  (∀ s rq x, s.admits (.gstopRelease rq 1) → s.dbg.gstop = some x → s.dbg.stopHeld = false → s.dbg.unreadable = false → s.dbg.releaseAt = none →
    Gives (.gstopRelease rq 1) s fun t => t.dbg.releaseAt = some (s.now + 100000) ∧ t.runs rq 0x0C06 0 ∧
      ∃ x, Emits s t (.felt x) ∧ x.type = 0x93 ∧ x.mode = 1 ∧ x.words = [s.epoch, (s.now + 100000) % 2 ^ 32, bits (s.now + 100000) 32 32]) ∧
  (∀ s h d k, isDie d = true → (s.die d).inReset = false → (s.die d).epoch ≤ h.epoch → s.unseen d h 0x93 → s.dbg.gstop ≠ none →
    Gives (.gstopRel h d k) s fun t => t.dbg.releaseAt = some k ∧ Emits s t (.ack d h.src 0x93 h.seq 0 0)) ∧
  (∀ s, s.dbg.gstop ≠ none → s.dbg.releaseAt ≠ none →
    Gives .gstopReleaseActivation s fun t => t.dbg.gstop = none ∧ t.dbg.releaseAt = none ∧ ∀ d < 100, (t.die d).stopLatch = false)

/-- The stop table, dumps, rings, counters and profiles are read; a dump scans its units.
    It rests on the model's choices of logs 14, 44 and 46. -/
def Obligations.DebugReadsComplete : Prop :=
  (∀ s rq i x, s.admits (.stopRead rq i 1) → s.dbg.gstop = some x →
    Gives (.stopRead rq i 1) s fun t => t.answers rq 0x0C07 stOk (stopFields
      ((tget none s.dbg.stopTable (pcoreOf (i / 156) (i % 156))).getD { (default : StopEntry) with pcore := pcoreOf (i / 156) (i % 156) }))) ∧
  (∀ s rq ring first n, s.admits (.ringRead rq 1 ring first n 0) → rq.priv ≠ .tenant → 1 ≤ n → n ≤ 28 →
    Gives (.ringRead rq 1 ring first n 0) s fun t =>
      t.answers rq 0x0C0A stOk ((((s.die ring).ring.reverse.drop first).take n).flatMap (s.ringFields rq))) ∧
  (∀ s rq p, s.admits (.counterRead rq p 1 0) → Gives (.counterRead rq p 1 0) s fun t => t.answers rq 0x0C0B stOk (s.counterFields p)) ∧
  (∀ s rq d first n, s.admits (.profRead rq d first n) → rq.priv ≠ .tenant → 1 ≤ n → n ≤ 5 →
    Gives (.profRead rq d first n) s fun t => t.answers rq 0x0C0C stOk ([(32, sat 32 (s.die d).profLost), (32, 0)] ++
      (((((s.die d).prof ++ (s.die d).profOver.toList)).drop first).take n).flatMap profFields)) ∧
  (∀ s rq d, s.admits (.profClear rq d) → rq.priv ≠ .tenant → isCompute d = true →
    Gives (.profClear rq d) s fun t => (t.die d).prof = [] ∧ (t.die d).profOver = none ∧
      t.answers rq 0x0C0D stOk [(16, (s.die d).prof.length + (s.die d).profOver.toList.length)]) ∧
  (∀ s rq off x, s.admits (.dumpRead rq off 1) → s.dbg.dumpHeld = some x →
    Gives (.dumpRead rq off 1) s fun t => t.dbg.dumpHeld = some (x.1, false) ∧ t.answers rq 0x0C09 stOk
      ((List.range (min 448 (16 * s.dbg.dumpDir.length + s.dbg.dumpNext - off))).map fun i => (8, s.dumpByte (off + i))))

/-- A dump's units are scanned, stored or marked unreadable.
    It rests on the model's choices of logs 41, 42 and 43. -/
def Obligations.DumpsComplete : Prop :=
  (∀ s rq lock u, s.admits (.dump rq lock [u]) → s.dumping = false → (∀ x, s.dbg.dumpHeld = some x → x.2 = false) → s.unitStill u = true →
    s.unitResets u = false → imageSize u + 16 ≤ 0x800000 →
    Gives (.dump rq lock [u]) s fun t => t.dbg.dumpTodo = [u] ∧ Emits s t (.scan u.kind u.unit) ∧ t.runs rq 0x0C08 0) ∧
  (∀ s u image, s.dbg.dumpTodo = [u] → s.dbg.dumpAuto = false → s.running 0x0C08 0 = true →
    Gives (.dumpUnitDone true image) s fun t => t.dbg.dumpDir = s.dbg.dumpDir ++ [(u.kind, 0, u.unit, u.offset, imageSize u)] ∧
      t.dbg.dumpTodo = [] ∧ t.dbg.dumpHeld ≠ none ∧
      ∀ i (h : i < image.length), i < imageSize u → tget 0 t.dbg.dumpBytes (s.dbg.dumpNext + i) = image[i]) ∧
  (∀ s u, s.dbg.dumpTodo = [u] → s.dbg.dumpAuto = false → s.running 0x0C08 0 = true → s.dbg.gstop ≠ none →
    Gives .dumpUnitTimeout s fun t => t.dbg.dumpDir = s.dbg.dumpDir ++ [(u.kind, 1, u.unit, u.offset, imageSize u)] ∧ t.dbg.unreadable = true) ∧
  (∀ s h v u l off bytes, s.acting = some v → s.newAt v h 0xC3 → s.dbg.dumpTodo = u :: l → s.dumping = true →
    off + bytes.length ≤ imageSize u →
    Gives (.feltDump h off bytes) s fun t => (∀ i (h : i < bytes.length), tget 0 t.dbg.dumpBytes (s.dbg.dumpNext + off + i) = bytes[i]) ∧
      Emits s t (.ack (hubDie v) h.src 0xC3 h.seq 0 0))

/-- The recorder's writes complete, it is read and cleared, and the operating hours go to MRAM.
    It rests on the model's choices of logs 14, 58 and 74. -/
def Obligations.RecorderCommandsComplete : Prop :=
  (∀ s hub r l, (s.vat hub).writing = r :: l →
    Gives (.recordWriteDone hub true true) s fun t => tget default (t.vat hub).roll (r.seq % 65536) = r) ∧
  (∀ s rq i, s.admits (.recRead rq 0 i 1) →
    Gives (.recRead rq 0 i 1) s fun t => t.answers rq 0x0C0E stOk (match s.rollRec (i % 2 ^ 32) with
      | some r => [(8, 0), (24, 0), (256, recNum r)]
      | none => [(8, 1), (24, 0), (256, 0)])) ∧
  (∀ s rq, s.admits (.recClear rq 0) → s.vatA.mramWin = true → s.vatB.mramWin = true →
    Gives (.recClear rq 0) s fun t =>
      if s.signs (.recClear rq 0) then t.vatA.roll = [] ∧ t.vatB.roll = [] ∧ t.answers rq 0x0C0F stOk [] else s.deniesSignature t rq 0x0C0F) ∧
  (∀ s v, s.acting = some v → (s.vatA.mramWin = true ∨ s.vatB.mramWin = true) →
    Gives .hoursPersistTick s fun t => t.pkg.hoursMram = s.pkg.hours)

/-! ## Vat redundancy (10) -/

/-- Heartbeats are sent and noted, a silent standby is reset, and a mirror that is complete makes it STANDBY.
    It rests on the model's choices of logs 60 and 85. -/
def Obligations.HeartbeatsComplete : Prop :=
  (∀ s h, s.activeHub = some h → Gives .livePeriod s fun t => ∃ x, Emits s t (.felt x) ∧ x.src = hubDie h ∧ x.type = 0x01 ∧ x.mode = 1 ∧
    x.words = [(s.vat h).epoch, s.sh.mirrorSeq]) ∧
  (∀ s h d, isDie d = true → (s.die d).inReset = false → (s.die d).epoch ≤ h.epoch → s.unseen d h 0x01 →
    Gives (.live h d) s fun t => (t.die d).live = some (s.dieReel d) ∧ (t.die d).liveEpoch = h.epoch ∧ (t.die d).epoch = h.epoch ∧
      (t.die d).isolated = false ∧ ∀ v, dieHub d = some v → (s.vat v).role ≠ .active → (t.vat v).epoch = h.epoch) ∧
  (∀ s h sb, s.activeHub = some h → s.standbyHub = some sb →
    Gives .stbyLivePeriod s fun t => ∃ x, Emits s t (.felt x) ∧ x.src = hubDie sb ∧ x.type = 0x02 ∧ x.dst = hubDie h ∧
      x.words = [roleCode (s.vat sb).role, (s.vat sb).lastFailed, (s.vat sb).cycleReel.getD 0, (s.vat sb).mirrorApplied, (s.vat sb).fwSerial]) ∧
  (∀ s h v r, isDie h.src = true → s.acting = some v → s.newAt v h 0x02 →
    Gives (.stbyLive h r) s fun t => (t.vat v).peer = some r ∧ (t.vat v).heardReel = some s.reel) ∧
  (∀ s sb, s.standbyHub = some sb → s.sh.switching = false → s.vatA.staging.length < 1024 →
    Gives .stbyLiveTimeout s fun t => (t.vat sb).role = .offline ∧ (t.vat sb).gated = true ∧ (t.vat sb).loadStart = some s.reel ∧
      s.recorded t 0x0A02 (pkgSource 6) (3 * 2 ^ 20 + (s.vat sb).lastFailed) s.sh.mirrorSeq 0) ∧
  (∀ s sb, s.standbyHub = some sb → (s.vat sb).role = .syncing →
    Gives .mirrorSynced s fun t => (t.vat sb).role = .standby ∧ (t.vat sb).mirrorApplied = s.sh.mirrorSeq)

/-- The triggers of a switch-over gate the active Vat, VAT_FAILED and the confirmation lead to DEPOSE, and without a standby the package resets.
    It rests on the model's choices of logs 55 and 60. -/
def Obligations.SwitchTriggersComplete : Prop :=
  (∀ s h, s.sh.gap = none → s.canPromote h = true → (s.vat (otherHub h)).role = .active →
    Gives .liveTimeout s fun t => (∃ g, t.sh.gap = some g ∧ g.trigger = 1 ∧ g.newActive = h ∧ g.step = 1 ∧ g.gated = false) ∧
      ∃ x, Emits s t (.felt x) ∧ x.type = 0x80 ∧ x.src = hubDie h ∧ x.dst = hubDie (otherHub h)) ∧
  (∀ s h, s.activeHub = some h → s.sh.gap = none →
    Gives .fwWatchdogExpiry s fun t => (t.vat h).role = .offline ∧ (t.vat h).gated = true ∧
      (s.canPromote (otherHub h) = true → (∃ g, t.sh.gap = some g ∧ g.trigger = 4 ∧ g.newActive = otherHub h ∧ g.gated = true) ∧
        ∃ x, Emits s t (.felt x) ∧ x.type = 0x03 ∧ x.dst = hubDie (otherHub h) ∧ x.words = [4]) ∧
      (s.canPromote (otherHub h) = false → t.sh.noStandby = some s.reel)) ∧
  (∀ s h trigger src, s.activeHub = some h → (trigger = 2 ∨ trigger = 3 ∨ trigger = 5) → dieHub (sourceDie src) = some h → s.sh.gap = none →
    s.calm src → (s.die (hubDie h)).inReset = false → s.canPromote (otherHub h) = true →
    Gives (.activeVatFault trigger src) s fun t => (t.vat h).role = .offline ∧ (t.vat h).gated = true ∧
      (∃ g, t.sh.gap = some g ∧ g.trigger = trigger ∧ g.newActive = otherHub h) ∧
      t.firstCount (hubDie h) src = min 255 (s.firstCount (hubDie h) src + 1)) ∧
  (∀ s h g n, s.sh.gap = some g → g.step = 1 → s.unseen (hubDie g.newActive) h 0x03 →
    Gives (.vatFailed h n) s fun t => (∃ k, t.sh.gap = some k ∧ k.step = 2 ∧ k.gated = true ∧ k.epoch = g.epoch) ∧ t.pkg.proposed = g.epoch ∧
      (∃ x, Emits s t (.felt x) ∧ x.type = 0x04 ∧ x.mode = 1 ∧ x.src = hubDie g.newActive ∧ x.words = [g.epoch, 1]) ∧
      Emits s t (.ack (hubDie g.newActive) h.src 0x03 h.seq 0 0)) ∧
  (∀ s h g, s.sh.gap = some g → g.step = 1 → g.gated = false →
    Gives (.gateConfirm h) s fun t => (t.vat (otherHub g.newActive)).role = .offline ∧
      (∃ k, t.sh.gap = some k ∧ k.step = 2 ∧ k.gated = true ∧ k.confirmed = true) ∧
      ∃ x, Emits s t (.felt x) ∧ x.type = 0x04 ∧ x.mode = 1 ∧ x.words = [g.epoch, 1]) ∧
  (∀ s g, s.sh.gap = some g → g.step = 1 → g.gated = false →
    Gives .deposeGateTimeout s fun t => (∃ k, t.sh.gap = some k ∧ k.step = 2 ∧ k.gated = false) ∧
      ∃ x, Emits s t (.felt x) ∧ x.type = 0x04 ∧ x.mode = 1 ∧ x.words = [g.epoch, 0]) ∧
  (∀ s n, s.sh.noStandby = some n → s.pkg.oos = false → s.pkg.powerPending = false → (s.leaked (pkgSource 7)).count < (s.cfg 215).n →
    Gives .noStandbyReset s fun t => t.pkg.boot = .step 2 ∧ t.sh.gap = none ∧ t.vatA.bist = none ∧ t.vatB.bist = none)

/-- DEPOSE and ANNOUNCE take effect at an agent, a stale Vat leaves service, and the last return ends the gap.
    It rests on the model's choices of logs 55, 56 and 60. -/
def Obligations.DeposeAndAnnounceComplete : Prop :=
  (∀ s h d, isDie d = true → (s.die d).inReset = false → (s.die d).epoch < h.epoch → s.unseen d h 0x04 →
    Gives (.depose h d true) s fun t => (t.die d).epoch = h.epoch ∧ Emits s t (.ack d h.src 0x04 h.seq 0 (s.dieReel d % 2 ^ 32)) ∧
      ∀ v, dieHub d = some v → (s.vat v).role = .active → (s.vat v).epoch < h.epoch → (t.vat v).role = .offline ∧ (t.vat v).gated = true) ∧
  (∀ s h d n, isDie d = true → (s.die d).inReset = false → (s.die d).epoch < h.epoch → (s.die d).live = some n →
    (s.die d).liveEpoch = (s.die d).epoch → s.dieReel d ≤ n + 10000 → s.unseen d h 0x04 →
    Gives (.depose h d false) s fun t => (t.die d).epoch = (s.die d).epoch ∧ Emits s t (.ack d h.src 0x04 h.seq 1 0)) ∧
  (∀ s h v e, (s.vat v).role = .active → (s.vat v).epoch < e →
    Gives (.epochStale h v e) s fun t => (t.vat v).role = .offline ∧ (t.vat v).gated = true) ∧
  (∀ s h d m, isDie d = true → isDie h.src = true → (s.die d).inReset = false → (s.die d).epoch ≤ h.epoch → s.unseen d h 0x05 → (s.die d).held = [m] →
    Gives (.announce h d) s fun t => (t.die d).held = [] ∧ Emits s t (.ack d h.src 0x05 h.seq 0 0) ∧
      ∃ x, Emits s t (.felt x) ∧ x.src = d ∧ x.dst = h.src ∧ x.type = m.1 ∧ x.words = m.2) ∧
  (∀ s h g, isDie h.src = true → s.sh.gap = some g → g.step = 4 →
    (¬ (g.acks.all fun d => (insertNat h.src g.returned).contains d) = true →
      Gives (.announceReturn h) s fun t => ∃ k, t.sh.gap = some k ∧ h.src ∈ k.returned) ∧
    ((g.acks.all fun d => (insertNat h.src g.returned).contains d) = true → (s.vat (otherHub g.newActive)).role ≠ .active → s.sh.runs = [] →
      g.held = [] → (∀ d, (s.die d).held = []) → s.sh.heldRecs = [] → s.noPkg 214 → (s.vat (otherHub g.newActive)).outQ = [] →
        (s.vat (otherHub g.newActive)).inQ = [] → s.sh.dists = [] →
      s.dbg.gstop = none → (∀ e ∈ s.cores, e.2.hung = false) → s.sh.mgmtLost.1 = 0 → (∀ e ∈ s.sh.ctxs, e.2.pgroups = []) →
      Gives (.announceReturn h) s fun t => t.sh.gap = none ∧ (t.vat g.newActive).role = .active ∧
        (t.sh.leases = s.sh.leases.filter fun l => l.2.1 == 2) ∧ t.dbg.dumpBytes = [])) ∧
  (∀ s h p, isDie h.src = true → validCore p = true → (s.cstate p = 2 ∨ s.cstate p = 5) → (s.die (coreDie p)).inReset = false →
    (s.die (coreDie p)).epoch ≤ h.epoch → s.unseen (coreDie p) h 0x80 → (s.die (coreDie p)).repliedTo h = none →
    Gives (.agentCmd h (coreDie p) (.selfTest p)) s fun t => (t.core p).selftest = 1 ∧
      ∃ x, Emits s t (.felt x) ∧ x.src = coreDie p ∧ x.type = 0x81 ∧ x.dst = h.src ∧ x.words = [p, 0, 0]) ∧
  (∀ s h v f w, isDie h.src = true → s.acting = some v → s.newAt v h 0x81 → isCompute h.src = false → s.sh.fwds = [f] → f.die = h.src →
    f.write = false →
    Gives (.agentReply h f.id w false) s fun t => t.sh.fwds = [] ∧ Emits s t (.readValue w))

/-- The mirror's commands, the standby's self-test, acknowledgements and resends complete.
    It rests on the model's choices of logs 55 and 60. -/
def Obligations.MirrorAndAcksComplete : Prop :=
  (∀ s h sb n, s.standbyHub = some sb → (s.die (hubDie sb)).inReset = false → (s.die (hubDie sb)).epoch ≤ h.epoch → s.unseen (hubDie sb) h 0x8F →
    s.sh.runs = [] →
    Gives (.mirror h n) s fun t => (t.vat sb).mirrorApplied = n % 2 ^ 32 ∧ Emits s t (.ack (hubDie sb) h.src 0x8F h.seq 0 0)) ∧
  (∀ s sb item, s.standbyHub = some sb → item < 7 → Gives (.standbySelftestItemDone item true) s fun t => (t.vat sb).role = (s.vat sb).role ∧
    if (s.vat sb).cycleItems ||| 2 ^ item = 127 then (t.vat sb).lastFailed = 0 ∧ (t.vat sb).cycleItems = 0 ∧ (t.vat sb).cycleReel = some s.reel
    else (t.vat sb).cycleItems = (s.vat sb).cycleItems ||| 2 ^ item) ∧
  (∀ s sb item, s.standbyHub = some sb → item < 7 →
    s.noPkg 164 → s.noPkg 165 → s.noPkg 169 →
    Gives (.standbySelftestItemDone item false) s fun t => (t.vat sb).role = .offline ∧ (t.vat sb).lastFailed = 2 ^ item ∧
      (t.vat sb).selfFailHours = some s.pkg.hours ∧
      (t.vat sb).heldOffline = (match (s.vat sb).selfFailHours with | some n => decide (s.pkg.hours < n + 24 * 4096) | none => false)) ∧
  (∀ s h d w lo, isDie d = true → isDie h.src = true → s.felt.waiting = [w] → w.t.src = d → w.t.mode = 0 → w.t.dst = h.src → w.t.type ≠ 0x04 →
    w.t.type ≠ 0x8D → w.t.seq < 65536 → s.sh.ctxs = [] →
    Gives (.feltAck h d (w.t.type * 65536 + w.t.seq) 0 lo) s fun t => t.felt.waiting = []) ∧
  (∀ s d w, isDie d = true → s.felt.waiting = [w] → w.t.src = d → w.resends < resendLimit w.t.type →
    Gives (.txnResendTimeout d (typeClass w.t.type) w.t.seq) s fun t => t.felt.waiting = [{ w with resends := w.resends + 1 }] ∧
      Emits s t (.felt w.t))

/-- VAT_SWITCH, VAT_STANDBY_RETRY and the firmware writes complete.
    It rests on the model's choices of logs 14, 54 and 74. -/
def Obligations.VatCommandsComplete : Prop :=
  (∀ s rq h, s.admits (.vatSwitch rq) → s.activeHub = some h → s.canPromote (otherHub h) = true → s.sh.gap = none →
    Gives (.vatSwitch rq) s fun t => t.runs rq 0x0800 0 ∧
      (s.caughtUp = true → (t.vat h).role = .offline ∧ ∃ g, t.sh.gap = some g ∧ g.trigger = 6 ∧ g.newActive = otherHub h ∧ g.step = 2 ∧ g.switchRun = true) ∧
      (s.caughtUp = false → t.sh.gap = none ∧ t.sh.switching = true)) ∧
  (∀ s rq h, s.admits (.vatStandbyRetry rq) → s.activeHub = some h → (s.vat (otherHub h)).heldOffline = true →
    s.lastEpoch < 0xFFFFFFFF →
    Gives (.vatStandbyRetry rq) s fun t => (t.vat (otherHub h)).heldOffline = false ∧ (t.vat (otherHub h)).loadStart = some s.reel ∧
      t.answers rq 0x0801 stOk []) ∧
  (∀ s rq l, s.admits (.fwBegin rq l) → s.pkg.flashWin = true →
    Gives (.fwBegin rq l) s fun t =>
      if s.fwHeaderOk (l.map (·.toNat)) then t.pkg.fwWriting = some (fwHeader (l.map (·.toNat))) ∧ t.answers rq 0x0802 stOk [] ∧
        ∀ a < 0x04000000, tget (0 : Byte) t.pkg.flashMem a = 0
      else t.pkg.fwWriting = s.pkg.fwWriting ∧ t.pkg.flashMem = s.pkg.flashMem ∧ t.answers rq 0x0802 stDenied []) ∧
  (∀ s rq off l h, s.admits (.fwWrite rq off l) → s.pkg.fwWriting = some h → s.pkg.flashWin = true →
    Gives (.fwWrite rq off l) s fun t => (∀ i (h : i < l.length), tget (0 : Byte) t.pkg.flashMem (off + i) = l[i]) ∧
      (∀ k, k < off ∨ off + l.length ≤ k → tget (0 : Byte) t.pkg.flashMem k = tget 0 s.pkg.flashMem k) ∧ t.answers rq 0x0803 stOk []) ∧
  (∀ s rq h, s.admits (.fwCommit rq) → s.pkg.fwWriting = some h → s.pkg.fwQueue = [] →
    Gives (.fwCommit rq) s fun t =>
      if s.fwPayloadOk h then t.pkg.fwWriting = none ∧ t.answers rq 0x0804 stOk [] else t.pkg.fwWriting = some h ∧ t.answers rq 0x0804 stDenied [])

/-! ## Bring-up (15) -/

/-- Reset input, power, the self-BISTs and firmware loads of bring-up complete.
    It rests on the model's choices of logs 3, 49, 50 and 57. -/
def Obligations.BringupStartsComplete : Prop :=
  (∀ s, s.pkg.boot = .held → Gives .sysRstNRelease s fun t => t.pkg.boot = .step 2 ∧ t.pkg.powered = true ∧ t.reel = 0 ∧ t.dies = [] ∧ t.cores = [] ∧
    t.sh.ctxs = []) ∧
  (∀ s, s.pkg.boot ≠ .held → Gives .sysRstNAssert s fun t => t.pkg.boot = .held ∧ t.sh.ctxs = [] ∧ t.pkg.hours = s.pkg.hours ∧
    (s.acting ≠ none → s.vatA.mramWin = true → t.pkg.hoursMram = s.pkg.hours)) ∧
  (∀ s, Gives .powerLoss s fun t => t.pkg.boot = .held ∧ t.pkg.powered = false ∧ t.pkg.powerLost = true ∧ t.vatA.staging = [] ∧ t.vatB.staging = [] ∧
    t.pkg.hours = s.pkg.hoursMram) ∧
  (∀ s hub a b n, s.pkg.boot = .step 2 → (s.vat hub).bist = none →
    Gives (.vatSelfBistDone hub a b n) s fun t => (t.vat hub).bist = some (a && b) ∧
      (hub = .a → a = true → b = true → s.vatA.image = none → t.vatA.loadStart = some s.reel)) ∧
  (∀ s d c n, isDie d = true → (s.die d).bist = none → (s.die d).inReset = false →
    Gives (.agentSelfBistDone d true c n) s fun t => (t.die d).bist = some true ∧ (t.die d).cal.fcalOk = c ∧ Emits s t (.probes d 4096) ∧
      (c = false → ∀ k < sensorCount d, (t.sensor d k).failed = true)) ∧
  (∀ s, s.vatB.bist = some true → s.vatB.image = none → s.vatB.loadStart = none → Gives .vatBLoadStart s fun t => t.vatB.loadStart = some s.reel) ∧
  (∀ s hub n l h, (s.vat hub).loadStart = some n → l = bytesAt s.pkg.flashMem 0 256 → h = fwHeader l →
    (s.pkg.boot = .step 2 → Gives (.fwLoadDone hub 0) s fun t =>
      if s.fwHeaderOk l && s.fwPayloadOk h then (t.vat hub).image = some true ∧ (t.vat hub).fwSerial = h.serial ∧
        (hub = .a → s.vatA.bist = some true → t.vatA.role = .active ∧ t.vatA.epoch = (s.lastEpoch + 1) % 2 ^ 32)
      else s.steady (hubSource hub 13) → (t.vat hub).image = some false ∧ (t.vat hub).fwSerial = (s.vat hub).fwSerial) ∧
    (∀ v, s.pkg.boot = .ready → s.activeHub = some v → v ≠ hub → (s.vat hub).heldOffline = false →
      Gives (.fwLoadDone hub 0) s fun t =>
        if s.fwHeaderOk l && s.fwPayloadOk h then
          if h.serial = (s.vat v).fwSerial then (t.vat hub).role = .syncing ∧ (t.vat hub).syncStart = some s.reel
          else (t.vat hub).image = some false ∧ (t.vat hub).role = (s.vat hub).role
        else s.steady (hubSource hub 13) → (t.vat hub).image = some false))

/-- The last steps of bring-up complete: alignment, the start-up run's end, the deckle map with the ready declaration, partitions.
    It rests on the model's choices of logs 52 and 53. -/
def Obligations.BringupEndsComplete : Prop :=
  (∀ s, s.pkg.boot = .step 4 → s.noPkg 209 → s.felt.broken = [] →
    ((∀ d < 100, s.copyDiffers d = false) → (s.pkg.lifecycle = 1 ∨ s.pkg.lifecycle = 3) → s.pkg.oos = false →
      Gives .alignDone s fun t => t.pkg.boot = .step 6 ∧ t.pkg.dieMask = 2 ^ 96 - 1 ∧ Emits s t .qualify) ∧
    ((∀ d < 100, s.copyDiffers d = false) → s.pkg.lifecycle = 0 → Gives .alignDone s fun t => t.pkg.boot = .stopped ∧ t.pkg.notReady = 1) ∧
    (s.pkg.alignRepeated = false → (∃ d < 100, s.copyDiffers d = true) →
      Gives .alignDone s fun t => t.pkg.alignRepeated = true ∧ t.pkg.boot = .step 4 ∧ ∀ d < 100, d ≠ s.actDie → (t.die d).unaligned = true)) ∧
  (∀ s, s.pkg.boot = .step 6 → Gives .startupScreenTimeout s fun t => t.sh.startupQ = [] ∧ ∀ d < 96, (t.die d).beater.startCore = none ∧
    ((s.die d).beater.startCore ≠ none → t.pkg.unscreened = true)) ∧
  (∀ s h, s.pkg.boot = .step 6 → s.activeHub = some h → s.testsEnded = true →
    Gives .deckleMapBuild s fun t => t.pkg.boot = .ready ∧ t.pkg.ready = true ∧ t.pkg.notReady = 0 ∧ t.pkg.fwMin = max s.pkg.fwMin (s.vat h).fwSerial ∧
      ∀ d < 96, (t.die d).deckleGen = 1) ∧
  (∀ s d part, isCompute d = true → part < 32 →
    Gives (.partitionAssignment d part) s fun t => t.partOf d = part ∧ ∀ k, k ≠ d → t.partOf k = s.partOf k)

/-! ## The Felt network (11) -/

/-- Frames are forwarded, flits answered, and a link's errors, silence or failed bring-up take it down.
    It rests on the model's choices of logs 18 and 60. -/
def Obligations.LinkEventsComplete : Prop :=
  (∀ s d port flits, isDie d = true → port < 4 → (∀ x ∈ flits, x < 2 ^ 40) → s.pkg.boot ≠ .held →
    (∀ f, readFrame flits = some f → (s.port (portKey d port)).queue = [] → (s.port (portKey d port)).ctl = [] →
      (f.mode = 0 → f.dst = d → Gives (.transitFrame d port flits) s fun t =>
        Emits s t (.flit d port 1 (flits.length * 2 ^ (18 - 6 * f.cls))) ∧ ((d, f.src, f.cls, f.seq) ∈ t.felt.partialTxns ↔ f.last = false)) ∧
      (∀ o, o = portKey d (port / 2 * 2 + (port + 1) % 2) → f.mode = 0 → f.dst ≠ d → 2 ≤ f.ttl → (s.port o).down = false → (s.port o).queue = [] →
        (s.port o).ctl = [] → flits.length ≤ (s.port o).credit f.cls →
        Gives (.transitFrame d port flits) s fun t => Emits s t (.frame d (port / 2) f.cls f.forward) ∧
          Emits s t (.flit d port 1 (flits.length * 2 ^ (18 - 6 * f.cls))))) ∧
    (readFrame flits = none → s.calm (dieSource d (10 + port / 2)) → (s.die d).inReset = false → (s.port (portKey d port)).errors = [] →
      Gives (.transitFrame d port flits) s fun t => (t.port (portKey d port)).errors = [s.reel] ∧
        t.firstCount d (dieSource d (10 + port / 2)) = min 255 (s.firstCount d (dieSource d (10 + port / 2)) + 1))) ∧
  (∀ s d port a b c, isDie d = true → port < 4 → s.calm (dieSource d (10 + port / 2)) → (s.port (portKey d port)).errors = [a, b, c] →
    s.reel ≤ c + 100000 → (s.port (portKey d port)).down = false →
    Gives (.feltSpacerTimeout d port) s fun t => (t.port (portKey d port)).down = true ∧
      linkOf d port ∈ t.felt.broken ∧ ∃ x, Emits s t (.felt x) ∧ x.src = d ∧ x.type = 0x11 ∧ x.mode = 1) ∧
  (∀ s d port n a b c e, isDie d = true → port < 4 → (s.port (portKey d port)).credits = (a, b, c, e) →
    (s.port (portKey d port)).queue = [] →
    Gives (.credit d port n) s fun t => (t.port (portKey d port)).credits =
      (min 48 (a + bits n 18 6), min 64 (b + bits n 12 6), min 64 (c + bits n 6 6), min 64 (e + bits n 0 6))) ∧
  (∀ s d port v, isDie d = true → port < 4 → ((s.port (portKey d port)).down = true ∨ (s.port (portKey d port)).queue = []) →
    Gives (.idle d port) s (fun t => Emits s t (.flit d port 2 0)) ∧ Gives (.probe d port v) s (fun t => Emits s t (.flit d port 4 (v % 2 ^ 24)))) ∧
  (∀ s d port, isDie d = true → port < 4 → (s.port (portKey d port)).down = true →
    Gives (.probePeriod d port) s fun t => ∃ v, (t.port (portKey d port)).probe = some v ∧ Emits s t (.flit d port 3 v)) ∧
  (∀ s d port v c, isDie d = true → port < 4 → port % 2 = 0 → (s.port (portKey d port)).down = true → (s.port (portKey d port)).probe = some v →
    (s.port (portKey d port)).cleanSince = some c → 1000000 ≤ s.reel - c → tget none s.felt.joins (linkOf d port) = none →
    Gives (.echo d port v) s fun t => tget none t.felt.joins (linkOf d port) = some (s.dieReel d + 100000) ∧
      ∃ x, Emits s t (.felt x) ∧ x.src = d ∧ x.type = 0x12 ∧ x.mode = 1) ∧
  (∀ s d port, isDie d = true → port < 4 → (s.port (portKey d port)).down = false →
    Gives (.linkDown d port) s (fun t => (t.port (portKey d port)).down = true ∧ Emits s t (.flit d port 5 0)) ∧
    Gives (.linkSilenceTimeout d port) s (fun t => (t.port (portKey d port)).down = true ∧ linkOf d port ∈ t.felt.broken) ∧
    (s.calm (dieSource d 12) → (s.die d).inReset = false → Gives (.creditTimeout d port) s fun t => (t.port (portKey d port)).down = true ∧
      t.firstCount d (dieSource d 12) = min 255 (s.firstCount d (dieSource d 12) + 1)) ∧
    Gives (.feltLinkQualDone d port 4096 0) s (fun t => t = s) ∧
    (∀ n e, s.pkg.ready = false → (n ≠ 4096 ∨ e ≠ 0) → s.calm (dieSource d (10 + port / 2)) → (s.die d).inReset = false →
      Gives (.feltLinkQualDone d port n e) s fun t => (t.port (portKey d port)).down = true ∧ linkOf d port ∈ t.felt.broken ∧
        (s.activeHub = none → t.firstCount d (dieSource d (10 + port / 2)) = min 255 (s.firstCount d (dieSource d (10 + port / 2)) + 1)))) ∧
  (∀ s d port flits, isDie d = true → port < 4 → (∀ x ∈ flits, x < 2 ^ 40) → s.pkg.boot = .held →
    Gives (.transitFrame d port flits) s fun t => t = s)

/-- Rings break and are restored, a station isolates itself, barriers and partial transactions end.
    It rests on the model's choices of logs 18 and 60. -/
def Obligations.RingEventsComplete : Prop :=
  (∀ s h d ring link, isDie d = true → ring < 2 → link < 100 → s.unseen d h 0x11 →
    Gives (.ringBreak h d ring link) s fun t => ring * 128 + link ∈ t.felt.broken ∧
      (if ring = 0 then (t.die d).ring0 else (t.die d).ring1) = t.settledRing ring) ∧
  (∀ s h d ring link n, isDie d = true → ring < 2 → link < 100 → s.unseen d h 0x12 → ring * 128 + link ∈ s.felt.broken →
    Gives (.ringJoin h d ring link n) s fun t => tget none t.felt.joins (ring * 128 + link) = some n ∧ Emits s t (.ack d h.src 0x12 h.seq 0 0)) ∧
  (∀ s d ring l n, isDie d = true → ring < 2 → s.felt.joins = [(l, some n)] → l / 128 = ring →
    Gives (.ringJoinActivation d ring) s fun t => l ∉ t.felt.broken ∧ (∀ k, k ≠ l → (k ∈ t.felt.broken ↔ k ∈ s.felt.broken)) ∧
      (if ring = 0 then (t.die d).ring0 else (t.die d).ring1) = t.settledRing ring) ∧
  (∀ s d, isDie d = true → (s.pkg.ready = true → Gives (.stationIsolation d) s fun t => (t.die d).isolated = true ∧ dieSource d 12 ∈ t.sh.pins) ∧
    (s.pkg.ready = false → Gives (.stationIsolation d) s (fun t => t = s) ∧ Gives (.stationIsolated d) s fun t => t = s)) ∧
  (∀ s d v, isDie d = true → s.pkg.ready = true → s.acting = some v → s.pkg.oos = false → s.pkg.powerPending = false →
    (s.leaked (pkgSource 7)).count < (s.cfg 215).n → Gives (.stationIsolated d) s fun t => t.pkg.boot = .step 2 ∧ t.dies = [] ∧ t.sh.ctxs = []) ∧
  (∀ s d src cls, isDie d = true → isDie src = true →
    Gives (.partialTxnTimeout d src cls) s fun t => ∀ x, x ∈ t.felt.partialTxns ↔ x ∈ s.felt.partialTxns ∧ ¬ (x.1 = d ∧ x.2.1 = src ∧ x.2.2.1 = cls)) ∧
  (∀ s h d tag gen, isDie d = true → (s.die d).inReset = false → (s.die d).epoch ≤ h.epoch → s.unseen d h 0x10 →
    Gives (.barrier h d tag gen) s fun t => (t.die d).barriers = (s.die d).barriers ++ [(h.src, h.seq, tag, gen)] ∧ (t.die d).epoch = h.epoch) ∧
  (∀ s d src seq tag gen, isDie d = true → (s.die d).barriers = [(src, seq, tag, gen)] →
    Gives (.barrierDrained d seq) s fun t => (t.die d).barriers = [] ∧ Emits s t (.ack d src 0x10 seq 0 0))

/-- Bridged messages cross between the management path and Felt, and link qualification, its reads and LANE_BER complete.
    It rests on the model's choices of logs 14, 16 and 60. -/
def Obligations.BridgeAndQualificationComplete : Prop :=
  (∀ s h v m, s.acting = some v → s.newAt v h 0x92 →
    ((s.vat v).linkUp = true → Gives (.bridged h m) s fun t => Emits s t (.vendor 4 m) ∧ Emits s t (.ack (hubDie v) h.src 0x92 h.seq 0 0)) ∧
    ((s.vat v).linkUp = false → (s.vat v).outQ.length < 64 →
      Gives (.bridged h m) s fun t => (t.vat v).outQ = (s.vat v).outQ ++ [m] ∧ Emits s t (.ack (hubDie v) h.src 0x92 h.seq 0 0)) ∧
    ((s.vat v).linkUp = false → 64 ≤ (s.vat v).outQ.length →
      Gives (.bridged h m) s fun t => (t.vat v).outQ = (s.vat v).outQ ∧ Emits s t (.ack (hubDie v) h.src 0x92 h.seq 4 0))) ∧
  (∀ s hub i m, (s.vat hub).inQ.length < 64 → Gives (.inboundBridgedMessage hub i m) s fun t => (t.vat hub).inQ = (s.vat hub).inQ ++ [m]) ∧
  (∀ s hub m q, (s.vat hub).inQ = m :: q →
    Gives (.bridgeInboundAdmit hub) s fun t => (t.vat hub).inQ = q ∧ ∃ x, Emits s t (.felt x) ∧ x.src = hubDie hub ∧ x.type = 0x92 ∧ x.dst = s.actDie ∧
      x.words = m) ∧
  (∀ s rq, s.admits (.linkQual rq) → s.running 0x0900 0 = false → s.pkg.qualifying = false →
    Gives (.linkQual rq) s fun t => t.runs rq 0x0900 0 ∧ Emits s t .qualify) ∧
  (∀ s l r, (s.sh.runs.filter fun x => x.opcode == 0x0900 && x.ctx == 0) = [r] → (l.map (·.lane)).Nodup →
    Gives (.linkQualDone l) s fun t => (∀ c ∈ l, tget none t.sh.lanes c.lane = some c) ∧ t.pkg.qualifying = false ∧
      s.ended t r stOk [(32, (l.filter fun c => !laneFails c).length), (32, (l.filter laneFails).length)]) ∧
  (∀ s rq first n, s.admits (.linkQualRead rq first n) → 1 ≤ n → n ≤ 15 →
    Gives (.linkQualRead rq first n) s fun t => t.answers rq 0x0901 stOk
      ((((s.sh.lanes.filterMap (·.2)).filter fun c => decide (first ≤ c.lane)).take n).flatMap fun c =>
        [(16, c.lane), (16, 0), (64, c.bits), (64, c.errors), (32, c.codewords), (32, c.corrected), (32, c.uncorrectable)])) ∧
  (∀ s rq, s.admits (.feltStatus rq) →
    Gives (.feltStatus rq) s fun t => t.answers rq 0x0902 stOk
      ((8, (s.die s.actDie).ring0) :: ((s.felt.broken.filter fun l => l / 128 == 0).map fun l => (8, l % 128)) ++
        (8, (s.die s.actDie).ring1) :: (s.felt.broken.filter fun l => l / 128 == 1).map fun l => (8, l % 128))) ∧
  (∀ s c e, c.lane / 512 % 128 = 98 ∨ c.lane / 512 % 128 = 99 → e = engineSource (c.lane / 512 % 128) (c.lane / 32 % 16) 0 →
    c.bits * 24 < c.errors * 100000 → s.calm e → (s.die (c.lane / 512 % 128)).inReset = false →
    Gives (.laneBerWindowEnd c true) s fun t => t.firstCount (c.lane / 512 % 128) e = min 255 (s.firstCount (c.lane / 512 % 128) e + 1))

/-! ## The reel counter, launch and relaxed mode (02) -/

/-- Alignment probes, echoes, sets and comparisons complete; a lost reference leaves every die unaligned.
    It rests on the model's choices of logs 60, 83 and 88. -/
def Obligations.AlignmentCompletes : Prop :=
  (∀ s h d v, isDie d = true → s.unseen d h 0x82 →
    Gives (.alignProbe h d v) s fun t => ∃ x, Emits s t (.felt x) ∧ x.src = d ∧ x.type = 0x83 ∧ x.dst = h.src ∧ x.words = [v]) ∧
  (∀ s d n port a b c, isDie d = true → isDie n = true → port < 4 →
    (hopValid a b c = true → Gives (.alignEcho d n port a b c) s fun t => (t.port (portKey d port)).tries = 0 ∧
      ∃ x, Emits s t (.felt x) ∧ x.src = d ∧ x.type = 0x84 ∧ x.dst = n ∧ x.words = [s.dieReel d % 2 ^ 32, bits (s.dieReel d) 32 32, (a + b + c) / 3 / 2]) ∧
    (hopValid a b c = false → (s.port (portKey d port)).tries < 7 → Gives (.alignEcho d n port a b c) s fun t =>
      (t.port (portKey d port)).tries = (s.port (portKey d port)).tries + 1 ∧
      ∀ i < 3, ∃ x, Emits s t (.felt x) ∧ x.src = d ∧ x.type = 0x82 ∧ x.dst = n ∧ x.words = [i]) ∧
    (hopValid a b c = false → (s.port (portKey d port)).tries = 7 → Gives (.alignEcho d n port a b c) s fun t => (t.die n).unaligned = true)) ∧
  (∀ s h d v half e, isDie d = true → isDie h.src = true → s.unseen d h 0x84 →
    Gives (.alignSet h d v half e) s fun t => t.dieReel d = max (s.dieReel d) (nearest10 (v + half + e) - e) ∧
      (t.die d).unaligned = decide (nearest10 (v + half + e) - e < s.dieReel d) ∧ Emits s t (.ack d h.src 0x84 h.seq 0 0)) ∧
  (∀ s d, isDie d = true → Gives (.reelCompareTick d) s fun t => (t.die (nextDie d)).reelEdge = some (s.dieReel (nextDie d)) ∧ ∃ x, Emits s t (.felt x) ∧
    x.src = d ∧ x.type = 0x86 ∧ x.dst = nextDie d ∧
    x.words = [s.dieReel d % 2 ^ 32, bits (s.dieReel d) 32 32]) ∧
  (∀ s h d n e, isDie d = true → s.unseen d h 0x86 → (s.die d).reelEdge = some e → (s.die d).reelFree = none →
    Gives (.reelCmp h d e) s (fun t => (t.die d).reelEdge = none ∧ t.dieReel d = s.dieReel d) ∧
    (s.calm (dieSource d 1) → (s.die d).inReset = false → e ≠ n → Gives (.reelCmp h d n) s fun t => (t.die d).reelEdge = none ∧
      t.dieReel d = max (s.dieReel d) (s.dieReel d + n - e) ∧ (t.die d).unaligned = decide (n < e ∧ 0 < s.dieReel d) ∧
      t.firstCount d (dieSource d 1) = min 255 (s.firstCount d (dieSource d 1) + 1))) ∧
  (∀ s d n, isDie d = true → (s.die d).reelHeld = some n →
    Gives (.reelCorrectionResume d) s fun t => (t.die d).reelHeld = none ∧ (t.die d).unaligned = false) ∧
  (∀ s d, isDie d = true →
    (s.calm (dieSource d 2) → (s.die d).inReset = false → Gives (.reelLockLoss d) s fun t => (t.die d).reelLock = false ∧ (t.die d).unaligned = true ∧
      t.dieReel d = s.dieReel d ∧
      t.firstCount d (dieSource d 2) = min 255 (s.firstCount d (dieSource d 2) + 1)) ∧
    ((s.die d).reelOn = true → s.dieReel d ≤ s.reel → Gives (.reelLockReturn d) s fun t => (t.die d).reelLock = true ∧ t.dieReel d = s.reel ∧
      (t.die d).unaligned = false)) ∧
  (∀ s, bit (s.cfg 208).each 1 = false → bit (s.cfg 208).thresh 1 = false →
    Gives .refLoss s fun t => ∀ d < 100, (t.die d).reelLock = false ∧ (t.die d).unaligned = true)

/-- LAUNCH_AT arms the agents, an armed agent releases its cores at the count, and the commands of relaxed mode and saturated intervals complete.
    It rests on the model's choices of logs 14, 20 and 60. -/
def Obligations.LaunchAndRelaxComplete : Prop :=
  (∀ s rq n, s.admits (.launchAt rq n) → s.pkg.ready = true → (s.ctx rq.ctx).plan ≠ none → (s.ctx rq.ctx).state ≠ 3 →
    (s.ctx rq.ctx).restoring = none → (s.ctx rq.ctx).launch = none → n ≤ s.now + 60000000000 →
    Gives (.launchAt rq n) s fun t => (t.ctx rq.ctx).launch = some n ∧ t.runs rq 0x0101 rq.ctx ∧ ∀ p ∈ s.ctxParts rq.ctx,
      ∃ x, Emits s t (.felt x) ∧ x.type = 0x07 ∧ x.mode = 2 ∧ x.dst = p ∧ x.words = [s.epoch, rq.ctx, n % 2 ^ 32, bits n 32 32]) ∧
  (∀ s h d c n, isDie d = true → c < 4096 → (s.die d).inReset = false → (s.die d).epoch ≤ h.epoch → s.unseen d h 0x07 → d ∈ s.ctxDies c →
    s.tagOf c ∉ (s.die d).revoked → s.dieReel d < n →
    Gives (.launchArm h d c n) s fun t => tget none (t.die d).arms c = some n ∧ Emits s t (.ack d h.src 0x07 h.seq 0 0)) ∧
  (∀ s d c k, isDie d = true → c < 4096 → tget none (s.die d).arms c = some k →
    Gives (.launchRelease d c) s fun t => tget none (t.die d).arms c = none ∧ tget 0 (t.ctx c).released d = s.dieReel d ∧
      (∀ n ∈ s.ctxLcs c, ∀ p, s.carrier n = some p → coreDie p = d → (t.lc n).issuing = true) ∧ ((s.ctx c).state = 1 → (t.ctx c).state = 2)) ∧
  (∀ s region i, tget none s.sh.intervals region = some i →
    Gives (.stallIntervalSaturate region) s fun t => ∃ j, tget none t.sh.intervals region = some j ∧ j.start = s.now ∧ j.cont = true ∧
      j.inForce = i.inForce ∧ j.kind = i.kind ∧ j.reason = (i.inForce.headD (0, 0)).1) ∧
  (∀ s rq part e, s.admits (.relaxSet rq part e) → e ≤ 1 →
    Gives (.relaxSet rq part e) s fun t => tget false t.pkg.relaxed part = (e == 1) ∧ t.answers rq 0x0104 stOk []) ∧
  (∀ s rq part, s.admits (.relaxRead rq part 1) →
    Gives (.relaxRead rq part 1) s fun t => tget 0 t.pkg.relaxSum part = 0 ∧ t.answers rq 0x0105 stOk [(64, tget 0 s.pkg.relaxSum part)])

/-! ## Calender (12) -/

/-- Samples of temperatures, voltages and paces, reference checks and analogue BIST slices complete. -/
def Obligations.CalenderSamplesComplete : Prop :=
  (∀ s d n raw, isDie d = true → n < sensorCount d → (s.die d).inReset = false →
    (s.isBeyond d n (s.reading d n raw) = false →
      Gives (.tempSample d n raw) s fun t => (t.sensor d n).temp = s.reading d n raw ∧ (t.sensor d n).sampled = true ∧ (t.sensor d n).beyond = false) ∧
    (s.isBeyond d n (s.reading d n raw) = true → isCompute d = true → (s.sensor d n).beyond = false → bit s.pkg.voidReasons 4 = true →
      Gives (.tempSample d n raw) s fun t => (t.sensor d n).beyond = true ∧ (t.die d).cal.thermHold = true ∧
        ∃ i, tget none t.sh.intervals (dieRegion d) = some i ∧ ∃ e ∈ i.inForce, e.1 = 4)) ∧
  (∀ s d m raw v nominal, isDie d = true → m < 4 → (s.die d).inReset = false →
    v = (if (s.die d).cal.fcalOk then Config.voltReading (raw % 65536) (tget 0 s.pkg.vgain (d * 4 + m)) else raw) % 65536 →
    ((if v < nominal then nominal - v else v - nominal) * 1000 ≤ nominal * s.pkg.vmonTol →
      Gives (.vmonSample d m raw nominal) s fun t =>
        tget {} (t.die d).cal.vmons m = { sampled := true, out := false, unverified := !(s.die d).cal.vrefOk, volt := v }) ∧
    (nominal * s.pkg.vmonTol < (if v < nominal then nominal - v else v - nominal) * 1000 → isCompute d = true →
      Gives (.vmonSample d m raw nominal) s fun t => (tget {} (t.die d).cal.vmons m).out = true ∧ (t.die d).cal.vmonHold = true ∧
        ∃ i, tget none t.sh.intervals (dieRegion d) = some i ∧ ∃ e ∈ i.inForce, e.1 = 4)) ∧
  (∀ s d m raw v, isDie d = true → m < paceCount d → (s.die d).inReset = false →
    v = (if (s.die d).cal.fcalOk then Config.paceReading (raw % 65536) (tget 0 s.pkg.pscale (d * 4 + m)) else raw) % 65536 →
    (s.pkg.paceMin ≤ v → Gives (.paceSample d m raw) s fun t => tget {} (t.die d).cal.paces m = { sampled := true, low := false, pace := v }) ∧
    (v < s.pkg.paceMin → Gives (.paceSample d m raw) s fun t => tget {} (t.die d).cal.paces m = { sampled := true, low := true, pace := v } ∧
      (t.die d).cal.paceLow = true)) ∧
  (∀ s d n a b, isDie d = true → n < sensorCount d → (s.die d).inReset = false →
    ((a - b).natAbs ≤ 24 → (s.sensor d n).failed = true → (s.die d).cal.fcalOk = true → (s.sensor d n).passes = 99 →
      Gives (.sensorRefCheck d n a b) s fun t => (t.sensor d n).failed = false ∧ (t.sensor d n).subst = false) ∧
    (24 < (a - b).natAbs → (s.sensor d n).subst = false → bit s.pkg.voidReasons 4 = true →
      Gives (.sensorRefCheck d n a b) s fun t => (t.sensor d n).failed = true ∧ (t.sensor d n).temp = topTemp)) ∧
  (∀ s d item i m l sig, isDie d = true → item ≤ 5 → (s.die d).inReset = false → s.dbg.gstop = none → (item = 5 → s.intrusive = true) →
    (s.bistPasses d item i m l sig = true → Gives (.analogBistSlice d item i m l sig) s fun t => t.firstCount d (bistSource d item i) =
      s.firstCount d (bistSource d item i) ∧ (item = 3 → (t.die d).cal.vrefOk = true)) ∧
    (s.bistPasses d item i m l sig = false → s.calm (bistSource d item i) → Gives (.analogBistSlice d item i m l sig) s fun t =>
      t.firstCount d (bistSource d item i) = min 255 (s.firstCount d (bistSource d item i) + 1) ∧ (item = 3 → (t.die d).cal.vrefOk = false)))

/-- The commands of Calender complete: a calibration value is stored in its range, a failed sensor substituted, sensors read, a lane looped back.
    It rests on the model's choices of logs 14 and 16. -/
def Obligations.CalenderCommandsComplete : Prop :=
  (∀ s rq scope v, v ≠ 0 →
    (s.admits (.calSet rq 0 scope v) → -64 ≤ v → v ≤ 64 →
      Gives (.calSet rq 0 scope v) s fun t => tget 0 t.pkg.userOffset scope = v ∧ t.answers rq 0x0A00 stOk []) ∧
    (s.admits (.calSet rq 1 scope v) → (calRange 1 scope).1 ≤ v → v ≤ (calRange 1 scope).2.1 →
      Gives (.calSet rq 1 scope v) s fun t => tget 0 t.pkg.high scope = v - (calRange 1 scope).2.2 ∧ t.answers rq 0x0A00 stOk []) ∧
    (s.admits (.calSet rq 2 scope v) → -10 ≤ v → v ≤ 20 →
      Gives (.calSet rq 2 scope v) s fun t => tget 0 t.pkg.low scope = v - (calRange 2 scope).2.2 ∧ t.answers rq 0x0A00 stOk []) ∧
    (s.admits (.calSet rq 3 scope v) → 5 ≤ v → v ≤ 30 → Gives (.calSet rq 3 scope v) s fun t => t.pkg.screenMargin = v.toNat ∧ t.answers rq 0x0A00 stOk []) ∧
    (s.admits (.calSet rq 4 scope v) → 20 ≤ v → v ≤ 60 → Gives (.calSet rq 4 scope v) s fun t => t.pkg.vmonTol = v.toNat ∧ t.answers rq 0x0A00 stOk []) ∧
    (s.admits (.calSet rq 5 scope v) → 850 ≤ v → v ≤ 1000 → Gives (.calSet rq 5 scope v) s fun t => t.pkg.paceMin = v.toNat ∧ t.answers rq 0x0A00 stOk [])) ∧
  (∀ s rq d n, s.admits (.sensorSubst rq d n) → (s.sensor d n).failed = true →
    Gives (.sensorSubst rq d n) s fun t => (t.sensor d n).subst = true ∧ (t.sensor d n).temp = s.substReading d n ∧ t.answers rq 0x0A01 stOk []) ∧
  (∀ s rq lane b, s.admits (.analogLoopback rq lane b 0) → s.laneUsed lane = false → (s.die (lane / 512)).inReset = false → s.obeys (lane / 512) = true →
    Gives (.analogLoopback rq lane b 0) s fun t => t.answers rq 0x0A02 stOk [(64, b), (64, 0)]) ∧
  (∀ s rq d, s.admits (.sensorRead rq d) → (s.die d).inReset = false → s.obeys d = true →
    Gives (.sensorRead rq d) s fun t => t.answers rq 0x0A03 stOk
      (((List.range 16).map fun n => (16, twos 16 (s.sensor d n).temp)) ++ ((List.range 4).map fun m => (16, (tget {} (s.die d).cal.vmons m).volt)) ++
        ((List.range 4).map fun m => (16, (tget {} (s.die d).cal.paces m).pace)) ++
        [(32, s.sensorBits d (·.subst) * 65536 + s.sensorBits d (·.failed))]))

/-! ## The whole machine -/

/-- Every step keeps the per-part stores canonical: rising keys, and no entry equal to what an unlisted part reads as. -/
def Obligations.StepKeepsStoresCanonical : Prop := ∀ s t, s.canonical = true → step s = .next t → t.canonical = true

/-- At reset nothing waits, runs or has left, SYS_RST_N is asserted, no Vat acts, and the stores are canonical. The Vats' role OFFLINE is R316's; that
    every table is unlisted is the model's choice (log 2). -/
def Obligations.ResetState : Prop :=
  State.reset.pending = [] ∧ State.reset.out = [] ∧ State.reset.sh.runs = [] ∧ State.reset.pkg.boot = .held ∧ State.reset.pkg.ready = false ∧
    State.reset.acting = none ∧ State.reset.vatA.role = .offline ∧ State.reset.vatB.role = .offline ∧ State.reset.vatA.epoch = 0 ∧
    State.reset.reel = 0 ∧ State.reset.faultN = false ∧ State.reset.canonical = true ∧ ∀ d, State.reset.partOf d = 0

/-- A step takes the command at the front of the queue and is exec of it with the queue's rest; with an empty queue a command that a port held is
    handled, or one idle count passes (the model's choice, logs 1 and 17); no word spells a command. -/
def Obligations.StepTakesTheFrontCommand : Prop :=
  (∀ c l (s : State), step { s with pending := c :: l } = exec c { s with pending := l }) ∧
  (∀ s c t, s.pending = [] → s.released = some (c, t) → step s = exec c t) ∧
  (∀ s, s.pending = [] → s.released = none → step s = .next s.idle) ∧
  (∀ (s : State) n w, s.withFetchWord n w = s)

/-- No command touches the queue, takes back an output, or lets the count of free values fall; none changes the unique ID, factory
    marks, placement table, calibration factors, scratchpad size or vendor keys; and only LIFECYCLE_SET,
    KEY_ENROLL and KEY_REVOKE change the life-cycle state, the returns or the enrolled keys.
    It rests on the model's choices of logs 3, 6 and 7. -/
def Obligations.CommandsKeepQueueOutputsAndFactoryData : Prop :=
  ∀ i s t, exec i s = .next t →
    t.pending = s.pending ∧ (∃ l, t.out = l ++ s.out) ∧ s.fresh ≤ t.fresh ∧ t.pkg.uid = s.pkg.uid ∧ t.pkg.vendorKeys = s.pkg.vendorKeys ∧
    t.pkg.factoryBad = s.pkg.factoryBad ∧ t.pkg.placement = s.pkg.placement ∧ t.pkg.gain = s.pkg.gain ∧ t.pkg.offset = s.pkg.offset ∧
    t.pkg.spad = s.pkg.spad ∧
    ((∀ rq n, i ≠ .lifecycleSet rq n) → (∀ rq a b c d e f, i ≠ .keyEnroll rq a b c d e f) → (∀ rq a b, i ≠ .keyRevoke rq a b) →
      t.pkg.lifecycle = s.pkg.lifecycle ∧ t.pkg.returns = s.pkg.returns ∧ t.pkg.keys = s.pkg.keys)

/-- R13: an access to a KRM window that is not a naturally aligned 32-bit access completes with an error response and changes nothing else.
    It rests on the model's choices of log 7. -/
def Obligations.MisalignedAccessHasNoEffect : Prop :=
  ∀ s (a : Access) (v : Word), placeOf a.addr ≠ .outside → (a.size ≠ 4 ∨ a.addr % 4 ≠ 0) →
    exec (.registerWrite a v) s = .next (s.emit .errorResponse) ∧ exec (.registerLoRead a) s = .next (s.emit .errorResponse) ∧
    exec (.mtpWmOperRead a) s = .next (s.emit .errorResponse) ∧ exec (.mtpStallLoRead a) s = .next (s.emit .errorResponse) ∧
    exec (.vatCplDataRead a) s = .next (s.emit .errorResponse) ∧ exec (.vatCplDataWrite a v) s = .next (s.emit .errorResponse) ∧
    exec (.vatClearReplAgree a v) s = .next (s.emit .errorResponse) ∧ exec (.vatClearPrivDeny a v) s = .next (s.emit .errorResponse) ∧
    exec (.vatClearAptDrop a v) s = .next (s.emit .errorResponse) ∧ exec (.seqCmpEnWrite a v) s = .next (s.emit .errorResponse) ∧
    exec (.mtpWinCmdOpen a v) s = .next (s.emit .errorResponse) ∧ exec (.mtpWinCmdClose a v) s = .next (s.emit .errorResponse) ∧
    exec (.aperturePacketWrite a v) s = .next (s.emit .errorResponse)

/-- R74: VAT_REEL_LO and HI read the copy on the addressed Vat's hub die, CPL_REEL_LO and HI the die's own, and a HI read gives the value that the LO
    read latched, whatever has happened since, as long as no further LO read has.
    It rests on the model's choices of logs 7 and 11. -/
def Obligations.ReelCountersLatch : Prop :=
  (∀ s h pr tag, s.served = true →
    Gives (.registerLoRead ⟨vatAddr h 0x030, 4, pr, tag⟩) s fun t =>
      Emits s t (.readValue (BitVec.ofNat 32 (s.dieReel (hubDie h) % 2 ^ 32))) ∧
        ∀ u, u.served = true → (u.vat h).reelHi = (t.vat h).reelHi →
          Gives (.registerLoRead ⟨vatAddr h 0x034, 4, pr, tag⟩) u fun w => Emits u w (.readValue (BitVec.ofNat 32 (bits (s.dieReel (hubDie h)) 32 32)))) ∧
  (∀ s d pr tag, s.served = true → isDie d = true → (s.die d).inReset = false →
    Gives (.registerLoRead ⟨0xE0000000 + (0x10000 * d + 0x10), 4, pr, tag⟩) s fun t =>
      Emits s t (.readValue (BitVec.ofNat 32 (s.dieReel d % 2 ^ 32))) ∧
        ∀ u, u.served = true → (u.die d).inReset = false → tget 0 (u.die d).hi 0x14 = tget 0 (t.die d).hi 0x14 →
          Gives (.registerLoRead ⟨0xE0000000 + (0x10000 * d + 0x14), 4, pr, tag⟩) u fun w =>
            Emits u w (.readValue (BitVec.ofNat 32 (bits (s.dieReel d) 32 32))))

/-- R17: a write that sets a lock bit with the fields it locks stores the fields first and then locks them: MTP_CTRL's SEQ_CMP_EN, and VAT_MSI_CTRL's
    enables. Once the lock bit is set, a write to any field it locks has no effect. -/
def Obligations.LockingWriteStoresFirst : Prop :=
  (∀ s p pr tag (v : Word), s.served = true → validCore p = true → (s.die (coreDie p)).inReset = false → s.cstate p < 4 →
    s.tapMeets p .operator pr tag = true →
    ((s.core p).lock = false → bit v.toNat 31 = true → bit (s.cfg 209).each 1 = false → bit (s.cfg 209).thresh 1 = false →
      Gives (.registerWrite ⟨tapAddr p 0x04, 4, pr, tag⟩ v) s fun t => (t.core p).seqCmp = bit v.toNat 0 ∧ (t.core p).lock = true) ∧
    ((s.core p).lock = true →
      Gives (.registerWrite ⟨tapAddr p 0x04, 4, pr, tag⟩ v) s fun t => (t.core p).seqCmp = (s.core p).seqCmp ∧ (t.core p).lock = true)) ∧
  (∀ s h pr tag (v : Word), (s.vat h).role = .active → privMeets pr .operator = true →
    (bit s.sh.msiCtl 31 = false → bit v.toNat 31 = true →
      Gives (.registerWrite ⟨vatAddr h 0x090, 4, pr, tag⟩ v) s fun t => t.sh.msiCtl % 8 = v.toNat % 8 ∧ bit t.sh.msiCtl 31 = true) ∧
    (bit s.sh.msiCtl 31 = true → ∀ off ∈ [0x090, 0x094, 0x098, 0x09C, 0x0A0, 0x0A4],
      Gives (.registerWrite ⟨vatAddr h off, 4, pr, tag⟩ v) s fun t => t.sh.msiCtl = s.sh.msiCtl ∧ t.sh.msiAddr = s.sh.msiAddr ∧
        t.sh.msiFault = s.sh.msiFault ∧ t.sh.msiCmd = s.sh.msiCmd ∧ t.sh.msiReady = s.sh.msiReady))

/-- An event that names a die, core, logical core, context, cluster, port, ring, sensor or source that does not exist is no event of this machine (R6):
    it is answered with the fault `invalidIdentifier`, for one command of each kind of identifier. -/
def Obligations.MissingPartsAreFaults : Prop :=
  ∀ s, (∀ h d, 100 ≤ d → exec (.live h d) s = .fault .invalidIdentifier) ∧
    (∀ p, validCore p = false → exec (.checkerRail p) s = .fault .invalidIdentifier) ∧
    (∀ n, 13824 ≤ n → exec (.snapPointReached n) s = .fault .invalidIdentifier) ∧
    (∀ d c, 4096 ≤ c → exec (.launchRelease d c) s = .fault .invalidIdentifier) ∧
    (∀ d c e, 12 ≤ c → exec (.clusterBufferEcc d c e) s = .fault .invalidIdentifier) ∧
    (∀ d port, 4 ≤ port → exec (.idle d port) s = .fault .invalidIdentifier) ∧
    (∀ d ring, 2 ≤ ring → exec (.ringJoinActivation d ring) s = .fault .invalidIdentifier) ∧
    (∀ d n raw, sensorCount d ≤ n → exec (.tempSample d n raw) s = .fault .invalidIdentifier) ∧
    (∀ d part, 32 ≤ part → exec (.partitionAssignment d part) s = .fault .invalidIdentifier)

/-! ## Frames -/

/-- The frame of the commands that no reaction can follow (a packet, once it is taken, with a signature that verifies where it needs one): a read
    changes nothing but its session's last time and its reply, in its slot or among the retained ones; the others leave the taps, logical cores and tickets as they are, or the package's state and the
    debug unit, or every die. -/
def Obligations.CommandFrames : Prop :=
  ∀ i s t, (i.packet = true → s.admits i = true ∧ s.signs i = true) → exec i s = .next t →
    (i.reads = true → t = { s with out := t.out, sh := { s.sh with sessions := t.sh.sessions, slots := t.sh.slots, retained := t.sh.retained } }) ∧
    (i.sparesTaps = true → t.cores = s.cores ∧ t.lcs = s.lcs ∧ t.sh.tickets = s.sh.tickets) ∧
    (i.sparesPackage = true → t.pkg = s.pkg ∧ t.dbg = s.dbg) ∧ (i.sparesDies = true → t.dies = s.dies)
end

