-- ==== Sys2Proof/Laws/Dispatch.lean ====
section
/-! SUPPORT. The dispatch, one equation for each command: exec runs the meaning of its command. -/

namespace Sys2Proof.Machine

@[simp] theorem exec_registerWrite (a : Access) (v : Word) (s : State) :
    exec (.registerWrite a v) s = execRegisterWrite a v s := rfl
@[simp] theorem exec_registerLoRead (a : Access) (s : State) :
    exec (.registerLoRead a) s = execRegisterLoRead a s := rfl
@[simp] theorem exec_mtpWmOperRead (a : Access) (s : State) :
    exec (.mtpWmOperRead a) s = execMtpWmOperRead a s := rfl
@[simp] theorem exec_mtpStallLoRead (a : Access) (s : State) :
    exec (.mtpStallLoRead a) s = execMtpStallLoRead a s := rfl
@[simp] theorem exec_vatCplDataRead (a : Access) (s : State) :
    exec (.vatCplDataRead a) s = execVatCplDataRead a s := rfl
@[simp] theorem exec_vatCplDataWrite (a : Access) (v : Word) (s : State) :
    exec (.vatCplDataWrite a v) s = execVatCplDataWrite a v s := rfl
@[simp] theorem exec_vatCplForwardTimeout (id : Nat) (s : State) :
    exec (.vatCplForwardTimeout id) s = execVatCplForwardTimeout id s := rfl
@[simp] theorem exec_vatClearReplAgree (a : Access) (v : Word) (s : State) :
    exec (.vatClearReplAgree a v) s = execVatClearReplAgree a v s := rfl
@[simp] theorem exec_vatClearPrivDeny (a : Access) (v : Word) (s : State) :
    exec (.vatClearPrivDeny a v) s = execVatClearPrivDeny a v s := rfl
@[simp] theorem exec_vatClearAptDrop (a : Access) (v : Word) (s : State) :
    exec (.vatClearAptDrop a v) s = execVatClearAptDrop a v s := rfl
@[simp] theorem exec_seqCmpEnWrite (a : Access) (v : Word) (s : State) :
    exec (.seqCmpEnWrite a v) s = execSeqCmpEnWrite a v s := rfl
@[simp] theorem exec_mtpWinCmdOpen (a : Access) (v : Word) (s : State) :
    exec (.mtpWinCmdOpen a v) s = execMtpWinCmdOpen a v s := rfl
@[simp] theorem exec_mtpWinCmdClose (a : Access) (v : Word) (s : State) :
    exec (.mtpWinCmdClose a v) s = execMtpWinCmdClose a v s := rfl
@[simp] theorem exec_aperturePacketWrite (a : Access) (v : Word) (s : State) :
    exec (.aperturePacketWrite a v) s = execAperturePacketWrite a v s := rfl
@[simp] theorem exec_ident (rq : Req) (s : State) :
    exec (.ident rq) s = execIdent rq s := rfl
@[simp] theorem exec_authOpen (rq : Req) (priv keyId : Nat) (s : State) :
    exec (.authOpen rq priv keyId) s = execAuthOpen rq priv keyId s := rfl
@[simp] theorem exec_authProve (rq : Req) (session : Nat) (s : State) :
    exec (.authProve rq session) s = execAuthProve rq session s := rfl
@[simp] theorem exec_authProveWindowExpiry (session : Nat) (s : State) :
    exec (.authProveWindowExpiry session) s = execAuthProveWindowExpiry session s := rfl
@[simp] theorem exec_authClose (rq : Req) (s : State) :
    exec (.authClose rq) s = execAuthClose rq s := rfl
@[simp] theorem exec_sessionExpiry (session : Nat) (s : State) :
    exec (.sessionExpiry session) s = execSessionExpiry session s := rfl
@[simp] theorem exec_vatHealth (rq : Req) (s : State) :
    exec (.vatHealth rq) s = execVatHealth rq s := rfl
@[simp] theorem exec_ctxLoad (rq : Req) (f : LoadFields) (pr : PlanRead) (s : State) :
    exec (.ctxLoad rq f pr) s = execCtxLoad rq f pr s := rfl
@[simp] theorem exec_launchAt (rq : Req) (count : Nat) (s : State) :
    exec (.launchAt rq count) s = execLaunchAt rq count s := rfl
@[simp] theorem exec_ctxKill (rq : Req) (s : State) :
    exec (.ctxKill rq) s = execCtxKill rq s := rfl
@[simp] theorem exec_ctxStatus (rq : Req) (s : State) :
    exec (.ctxStatus rq) s = execCtxStatus rq s := rfl
@[simp] theorem exec_relaxSet (rq : Req) (part enable : Nat) (s : State) :
    exec (.relaxSet rq part enable) s = execRelaxSet rq part enable s := rfl
@[simp] theorem exec_relaxRead (rq : Req) (part clear : Nat) (s : State) :
    exec (.relaxRead rq part clear) s = execRelaxRead rq part clear s := rfl
@[simp] theorem exec_faultRead (rq : Req) (first count : Nat) (s : State) :
    exec (.faultRead rq first count) s = execFaultRead rq first count s := rfl
@[simp] theorem exec_faultCfg (rq : Req) (template each thresh n w record : Nat) (s : State) :
    exec (.faultCfg rq template each thresh n w record) s = execFaultCfg rq template each thresh n w record s := rfl
@[simp] theorem exec_faultZero (rq : Req) (first count : Nat) (s : State) :
    exec (.faultZero rq first count) s = execFaultZero rq first count s := rfl
@[simp] theorem exec_faultClear (rq : Req) (source : Nat) (s : State) :
    exec (.faultClear rq source) s = execFaultClear rq source s := rfl
@[simp] theorem exec_faultPending (rq : Req) (s : State) :
    exec (.faultPending rq) s = execFaultPending rq s := rfl
@[simp] theorem exec_deckleRead (rq : Req) (die segment : Nat) (s : State) :
    exec (.deckleRead rq die segment) s = execDeckleRead rq die segment s := rfl
@[simp] theorem exec_coreReturn (rq : Req) (pcore : Nat) (s : State) :
    exec (.coreReturn rq pcore) s = execCoreReturn rq pcore s := rfl
@[simp] theorem exec_reset (rq : Req) (domain target : Nat) (s : State) :
    exec (.reset rq domain target) s = execReset rq domain target s := rfl
@[simp] theorem exec_ladderCfg (rq : Req) (part n w : Nat) (s : State) :
    exec (.ladderCfg rq part n w) s = execLadderCfg rq part n w s := rfl
@[simp] theorem exec_partRelease (rq : Req) (part : Nat) (s : State) :
    exec (.partRelease rq part) s = execPartRelease rq part s := rfl
@[simp] theorem exec_oosEnter (rq : Req) (s : State) :
    exec (.oosEnter rq) s = execOosEnter rq s := rfl
@[simp] theorem exec_serviceResume (rq : Req) (s : State) :
    exec (.serviceResume rq) s = execServiceResume rq s := rfl
@[simp] theorem exec_wmKeySet (rq : Req) (s0 s1 : Nat) (s : State) :
    exec (.wmKeySet rq s0 s1) s = execWmKeySet rq s0 s1 s := rfl
@[simp] theorem exec_wmRead (rq : Req) (first count : Nat) (s : State) :
    exec (.wmRead rq first count) s = execWmRead rq first count s := rfl
@[simp] theorem exec_wmVerify (rq : Req) (s : State) :
    exec (.wmVerify rq) s = execWmVerify rq s := rfl
@[simp] theorem exec_wmVerifyReadDone (ctx : Nat) (recs : List DigestRec) (s : State) :
    exec (.wmVerifyReadDone ctx recs) s = execWmVerifyReadDone ctx recs s := rfl
@[simp] theorem exec_wmLocate (rq : Req) (refs : List RefRec) (samePlan : Bool) (s : State) :
    exec (.wmLocate rq refs samePlan) s = execWmLocate rq refs samePlan s := rfl
@[simp] theorem exec_replicaCfg (rq : Req) (group r index k : Nat) (s : State) :
    exec (.replicaCfg rq group r index k) s = execReplicaCfg rq group r index k s := rfl
@[simp] theorem exec_replicaExpel (rq : Req) (group iter : Nat) (s : State) :
    exec (.replicaExpel rq group iter) s = execReplicaExpel rq group iter s := rfl
@[simp] theorem exec_replicaMembers (rq : Req) (r index : Nat) (s : State) :
    exec (.replicaMembers rq r index) s = execReplicaMembers rq r index s := rfl
@[simp] theorem exec_ticketRead (rq : Req) (ticket : Nat) (s : State) :
    exec (.ticketRead rq ticket) s = execTicketRead rq ticket s := rfl
@[simp] theorem exec_screenRun (rq : Req) (pcore kind : Nat) (s : State) :
    exec (.screenRun rq pcore kind) s = execScreenRun rq pcore kind s := rfl
@[simp] theorem exec_screenStatus (rq : Req) (s : State) :
    exec (.screenStatus rq) s = execScreenStatus rq s := rfl
@[simp] theorem exec_tortyWrite (rq : Req) (chunk : Nat) (bytes : List Byte) (s : State) :
    exec (.tortyWrite rq chunk bytes) s = execTortyWrite rq chunk bytes s := rfl
@[simp] theorem exec_tortyCommit (rq : Req) (kind len activation dieMask : Nat) (s : State) :
    exec (.tortyCommit rq kind len activation dieMask) s = execTortyCommit rq kind len activation dieMask s := rfl
@[simp] theorem exec_tortyFlashWriteDone (kind : Nat) (s : State) :
    exec (.tortyFlashWriteDone kind) s = execTortyFlashWriteDone kind s := rfl
@[simp] theorem exec_reamAreaSet (rq : Req) (die off len : Nat) (s : State) :
    exec (.reamAreaSet rq die off len) s = execReamAreaSet rq die off len s := rfl
@[simp] theorem exec_snapBegin (rq : Req) (snap iter point : Nat) (package : Bool) (delta deadline : Nat) (m : ReamMap) (s : State) :
    exec (.snapBegin rq snap iter point package delta deadline m) s = execSnapBegin rq snap iter point package delta deadline m s := rfl
@[simp] theorem exec_snapRelease (rq : Req) (snap : Nat) (s : State) :
    exec (.snapRelease rq snap) s = execSnapRelease rq snap s := rfl
@[simp] theorem exec_restore (rq : Req) (snap delta : Nat) (man : Manifest) (crc : Nat) (g : GroupTable) (s : State) :
    exec (.restore rq snap delta man crc g) s = execRestore rq snap delta man crc g s := rfl
@[simp] theorem exec_groupSet (rq : Req) (g : GroupTable) (s : State) :
    exec (.groupSet rq g) s = execGroupSet rq g s := rfl
@[simp] theorem exec_reclaim (rq : Req) (parts deadline : Nat) (s : State) :
    exec (.reclaim rq parts deadline) s = execReclaim rq parts deadline s := rfl
@[simp] theorem exec_snapDefault (rq : Req) (package : Bool) (base : Nat) (m : ReamMap) (s : State) :
    exec (.snapDefault rq package base m) s = execSnapDefault rq package base m s := rfl
@[simp] theorem exec_vatSwitch (rq : Req) (s : State) :
    exec (.vatSwitch rq) s = execVatSwitch rq s := rfl
@[simp] theorem exec_vatStandbyRetry (rq : Req) (s : State) :
    exec (.vatStandbyRetry rq) s = execVatStandbyRetry rq s := rfl
@[simp] theorem exec_fwBegin (rq : Req) (header : List Byte) (s : State) :
    exec (.fwBegin rq header) s = execFwBegin rq header s := rfl
@[simp] theorem exec_fwWrite (rq : Req) (off : Nat) (bytes : List Byte) (s : State) :
    exec (.fwWrite rq off bytes) s = execFwWrite rq off bytes s := rfl
@[simp] theorem exec_fwCommit (rq : Req) (s : State) :
    exec (.fwCommit rq) s = execFwCommit rq s := rfl
@[simp] theorem exec_linkQual (rq : Req) (s : State) :
    exec (.linkQual rq) s = execLinkQual rq s := rfl
@[simp] theorem exec_linkQualDone (lanes : List LaneCount) (s : State) :
    exec (.linkQualDone lanes) s = execLinkQualDone lanes s := rfl
@[simp] theorem exec_linkQualRead (rq : Req) (first count : Nat) (s : State) :
    exec (.linkQualRead rq first count) s = execLinkQualRead rq first count s := rfl
@[simp] theorem exec_feltStatus (rq : Req) (s : State) :
    exec (.feltStatus rq) s = execFeltStatus rq s := rfl
@[simp] theorem exec_calSet (rq : Req) (field scope : Nat) (value : Int) (s : State) :
    exec (.calSet rq field scope value) s = execCalSet rq field scope value s := rfl
@[simp] theorem exec_sensorSubst (rq : Req) (die sensor : Nat) (s : State) :
    exec (.sensorSubst rq die sensor) s = execSensorSubst rq die sensor s := rfl
@[simp] theorem exec_analogLoopback (rq : Req) (lane bits errors : Nat) (s : State) :
    exec (.analogLoopback rq lane bits errors) s = execAnalogLoopback rq lane bits errors s := rfl
@[simp] theorem exec_sensorRead (rq : Req) (die : Nat) (s : State) :
    exec (.sensorRead rq die) s = execSensorRead rq die s := rfl
@[simp] theorem exec_lifecycleSet (rq : Req) (state : Nat) (s : State) :
    exec (.lifecycleSet rq state) s = execLifecycleSet rq state s := rfl
@[simp] theorem exec_keyEnroll (rq : Req) (cls keyId base count x y : Nat) (s : State) :
    exec (.keyEnroll rq cls keyId base count x y) s = execKeyEnroll rq cls keyId base count x y s := rfl
@[simp] theorem exec_keyRevoke (rq : Req) (cls keyId : Nat) (s : State) :
    exec (.keyRevoke rq cls keyId) s = execKeyRevoke rq cls keyId s := rfl
@[simp] theorem exec_licenceInstall (rq : Req) (raw : List Byte) (s : State) :
    exec (.licenceInstall rq raw) s = execLicenceInstall rq raw s := rfl
@[simp] theorem exec_licenceRead (rq : Req) (s : State) :
    exec (.licenceRead rq) s = execLicenceRead rq s := rfl
@[simp] theorem exec_watchSet (rq : Req) (index lc base len kinds tagMatch action : Nat) (s : State) :
    exec (.watchSet rq index lc base len kinds tagMatch action) s = execWatchSet rq index lc base len kinds tagMatch action s := rfl
@[simp] theorem exec_watchClear (rq : Req) (lc index : Nat) (s : State) :
    exec (.watchClear rq lc index) s = execWatchClear rq lc index s := rfl
@[simp] theorem exec_brkSet (rq : Req) (kind scope arg arg2 : Nat) (s : State) :
    exec (.brkSet rq kind scope arg arg2) s = execBrkSet rq kind scope arg arg2 s := rfl
@[simp] theorem exec_brkClear (rq : Req) (number : Nat) (s : State) :
    exec (.brkClear rq number) s = execBrkClear rq number s := rfl
@[simp] theorem exec_brkResume (rq : Req) (run : Nat) (s : State) :
    exec (.brkResume rq run) s = execBrkResume rq run s := rfl
@[simp] theorem exec_gstop (rq : Req) (s : State) :
    exec (.gstop rq) s = execGstop rq s := rfl
@[simp] theorem exec_gstopRelease (rq : Req) (resume : Nat) (s : State) :
    exec (.gstopRelease rq resume) s = execGstopRelease rq resume s := rfl
@[simp] theorem exec_stopRead (rq : Req) (first count : Nat) (s : State) :
    exec (.stopRead rq first count) s = execStopRead rq first count s := rfl
@[simp] theorem exec_dump (rq : Req) (lock : Nat) (units : List DumpUnit) (s : State) :
    exec (.dump rq lock units) s = execDump rq lock units s := rfl
@[simp] theorem exec_dumpRead (rq : Req) (off unlock : Nat) (s : State) :
    exec (.dumpRead rq off unlock) s = execDumpRead rq off unlock s := rfl
@[simp] theorem exec_ringRead (rq : Req) (ring target first count clear : Nat) (s : State) :
    exec (.ringRead rq ring target first count clear) s = execRingRead rq ring target first count clear s := rfl
@[simp] theorem exec_counterRead (rq : Req) (pcore count clear : Nat) (s : State) :
    exec (.counterRead rq pcore count clear) s = execCounterRead rq pcore count clear s := rfl
@[simp] theorem exec_profRead (rq : Req) (die first count : Nat) (s : State) :
    exec (.profRead rq die first count) s = execProfRead rq die first count s := rfl
@[simp] theorem exec_profClear (rq : Req) (die : Nat) (s : State) :
    exec (.profClear rq die) s = execProfClear rq die s := rfl
@[simp] theorem exec_recRead (rq : Req) (area first count : Nat) (s : State) :
    exec (.recRead rq area first count) s = execRecRead rq area first count s := rfl
@[simp] theorem exec_recClear (rq : Req) (scope : Nat) (s : State) :
    exec (.recClear rq scope) s = execRecClear rq scope s := rfl
@[simp] theorem exec_badopCommandPacket (path : Path) (opcode tag crc : Nat) (lenOk : Bool) (s : State) :
    exec (.badopCommandPacket path opcode tag crc lenOk) s = execBadopCommandPacket path opcode tag crc lenOk s := rfl
@[simp] theorem exec_setEndpointId (hub : Hub) (i3c : Bool) (eid setter : Nat) (s : State) :
    exec (.setEndpointId hub i3c eid setter) s = execSetEndpointId hub i3c eid setter s := rfl
@[simp] theorem exec_getEndpointId (hub : Hub) (i3c : Bool) (s : State) :
    exec (.getEndpointId hub i3c) s = execGetEndpointId hub i3c s := rfl
@[simp] theorem exec_getMctpVersionSupport (hub : Hub) (i3c : Bool) (msgType : Nat) (s : State) :
    exec (.getMctpVersionSupport hub i3c msgType) s = execGetMctpVersionSupport hub i3c msgType s := rfl
@[simp] theorem exec_getMessageTypeSupport (hub : Hub) (i3c : Bool) (s : State) :
    exec (.getMessageTypeSupport hub i3c) s = execGetMessageTypeSupport hub i3c s := rfl
@[simp] theorem exec_getVendorDefinedMessageSupport (hub : Hub) (i3c : Bool) (s : State) :
    exec (.getVendorDefinedMessageSupport hub i3c) s = execGetVendorDefinedMessageSupport hub i3c s := rfl
@[simp] theorem exec_getTid (hub : Hub) (s : State) :
    exec (.getTid hub) s = execGetTid hub s := rfl
@[simp] theorem exec_getPldmVersion (hub : Hub) (pldmType : Nat) (s : State) :
    exec (.getPldmVersion hub pldmType) s = execGetPldmVersion hub pldmType s := rfl
@[simp] theorem exec_getPldmTypes (hub : Hub) (s : State) :
    exec (.getPldmTypes hub) s = execGetPldmTypes hub s := rfl
@[simp] theorem exec_getPldmCommands (hub : Hub) (pldmType : Nat) (s : State) :
    exec (.getPldmCommands hub pldmType) s = execGetPldmCommands hub pldmType s := rfl
@[simp] theorem exec_getPdrRepositoryInfo (hub : Hub) (s : State) :
    exec (.getPdrRepositoryInfo hub) s = execGetPdrRepositoryInfo hub s := rfl
@[simp] theorem exec_getPdr (hub : Hub) (record : Nat) (s : State) :
    exec (.getPdr hub record) s = execGetPdr hub record s := rfl
@[simp] theorem exec_getSensorReading (hub : Hub) (sensor : Nat) (s : State) :
    exec (.getSensorReading hub sensor) s = execGetSensorReading hub sensor s := rfl
@[simp] theorem exec_getStateSensorReadings (hub : Hub) (sensor : Nat) (s : State) :
    exec (.getStateSensorReadings hub sensor) s = execGetStateSensorReadings hub sensor s := rfl
@[simp] theorem exec_entdaa (hub : Hub) (addr : Nat) (s : State) :
    exec (.entdaa hub addr) s = execEntdaa hub addr s := rfl
@[simp] theorem exec_bridgeInboundAdmit (hub : Hub) (s : State) :
    exec (.bridgeInboundAdmit hub) s = execBridgeInboundAdmit hub s := rfl
@[simp] theorem exec_releaseUnitOpen (core descIdx : Nat) (spec last : Bool) (s : State) :
    exec (.releaseUnitOpen core descIdx spec last) s = execReleaseUnitOpen core descIdx spec last s := rfl
@[simp] theorem exec_issueStep (core : Nat) (kind : StepKind) (seqA seqB : List Nat) (pressPoint : Bool) (s : State) :
    exec (.issueStep core kind seqA seqB pressPoint) s = execIssueStep core kind seqA seqB pressPoint s := rfl
@[simp] theorem exec_accumulatorAdd (core ticket row col : Nat) (acc addend : Int) (scale : Option Int) (s : State) :
    exec (.accumulatorAdd core ticket row col acc addend scale) s = execAccumulatorAdd core ticket row col acc addend scale s := rfl
@[simp] theorem exec_laidCheckResolve (core ticket : Nat) (rows : List LaidRow) (csv : CsvData) (s : State) :
    exec (.laidCheckResolve core ticket rows csv) s = execLaidCheckResolve core ticket rows csv s := rfl
@[simp] theorem exec_roundedGroupCheck (core ticket group expo : Nat) (mants accs : List Int) (place : GroupAt) (last : Bool) (s : State) :
    exec (.roundedGroupCheck core ticket group expo mants accs place last) s = execRoundedGroupCheck core ticket group expo mants accs place last s := rfl
@[simp] theorem exec_dispatchTallyCheck (core ticket : Nat) (taus : List Nat) (n tally : Nat) (s : State) :
    exec (.dispatchTallyCheck core ticket taus n tally) s = execDispatchTallyCheck core ticket taus n tally s := rfl
@[simp] theorem exec_pairDigest (h : Hdr) (r : PairReport) (s : State) :
    exec (.pairDigest h r) s = execPairDigest h r s := rfl
@[simp] theorem exec_laidRes (h : Hdr) (r : LaidReport) (s : State) :
    exec (.laidRes h r) s = execLaidRes h r s := rfl
@[simp] theorem exec_scratchpadAccess (core : Nat) (x : SpadAccess) (s : State) :
    exec (.scratchpadAccess core x) s = execScratchpadAccess core x s := rfl
@[simp] theorem exec_joinPartialArrival (core ticket join fromLc : Nat) (acc value : Int) (poisoned : Bool) (s : State) :
    exec (.joinPartialArrival core ticket join fromLc acc value poisoned) s = execJoinPartialArrival core ticket join fromLc acc value poisoned s := rfl
@[simp] theorem exec_releaseGateTransfer (core : Nat) (ticket : Option UnitRef) (dst : Dest) (words decision : List Nat) (last : Bool) (s : State) :
    exec (.releaseGateTransfer core ticket dst words decision last) s = execReleaseGateTransfer core ticket dst words decision last s := rfl
@[simp] theorem exec_checkerRail (core : Nat) (s : State) :
    exec (.checkerRail core) s = execCheckerRail core s := rfl
@[simp] theorem exec_dataTransferArrival (x : Xfer) (s : State) :
    exec (.dataTransferArrival x) s = execDataTransferArrival x s := rfl
@[simp] theorem exec_meshAccessAtFence (die : Nat) (reply : Bool) (s : State) :
    exec (.meshAccessAtFence die reply) s = execMeshAccessAtFence die reply s := rfl
@[simp] theorem exec_d2dCodewordError (die link : Nat) (corrected : Bool) (s : State) :
    exec (.d2dCodewordError die link corrected) s = execD2dCodewordError die link corrected s := rfl
@[simp] theorem exec_routerBufferEcc (die : Nat) (cluster : Option Nat) (corrected : Bool) (s : State) :
    exec (.routerBufferEcc die cluster corrected) s = execRouterBufferEcc die cluster corrected s := rfl
@[simp] theorem exec_clusterBufferEcc (die cluster : Nat) (corrected : Bool) (s : State) :
    exec (.clusterBufferEcc die cluster corrected) s = execClusterBufferEcc die cluster corrected s := rfl
@[simp] theorem exec_uncorrCw (die engine lane : Nat) (s : State) :
    exec (.uncorrCw die engine lane) s = execUncorrCw die engine lane s := rfl
@[simp] theorem exec_agentInternal (die : Nat) (s : State) :
    exec (.agentInternal die) s = execAgentInternal die s := rfl
@[simp] theorem exec_ticketState (core : Nat) (s : State) :
    exec (.ticketState core) s = execTicketState core s := rfl
@[simp] theorem exec_counterParity (core : Nat) (screen : Bool) (s : State) :
    exec (.counterParity core screen) s = execCounterParity core screen s := rfl
@[simp] theorem exec_verdict (h : Hdr) (ticket : Nat) (pass : Bool) (s : State) :
    exec (.verdict h ticket pass) s = execVerdict h ticket pass s := rfl
@[simp] theorem exec_faultReport (h : Hdr) (words : List Nat) (s : State) :
    exec (.faultReport h words) s = execFaultReport h words s := rfl
@[simp] theorem exec_triageStageADone (core : Nat) (r : ReplayEnd) (digest : List Nat) (s : State) :
    exec (.triageStageADone core r digest) s = execTriageStageADone core r digest s := rfl
@[simp] theorem exec_stageANotCompleted (core : Nat) (s : State) :
    exec (.stageANotCompleted core) s = execStageANotCompleted core s := rfl
@[simp] theorem exec_tapSelftestDone (core cases : Nat) (s : State) :
    exec (.tapSelftestDone core cases) s = execTapSelftestDone core cases s := rfl
@[simp] theorem exec_spareFillDone (lc : Nat) (sent received : List Nat) (s : State) :
    exec (.spareFillDone lc sent received) s = execSpareFillDone lc sent received s := rfl
@[simp] theorem exec_triageStageBDone (core : Nat) (r : ReplayEnd) (digest : List Nat) (s : State) :
    exec (.triageStageBDone core r digest) s = execTriageStageBDone core r digest s := rfl
@[simp] theorem exec_replacementReplayDone (lc : Nat) (s : State) :
    exec (.replacementReplayDone lc) s = execReplacementReplayDone lc s := rfl
@[simp] theorem exec_replacementStart (lc : Nat) (s : State) :
    exec (.replacementStart lc) s = execReplacementStart lc s := rfl
@[simp] theorem exec_plannedReplaceSpareTimeout (lc : Nat) (s : State) :
    exec (.plannedReplaceSpareTimeout lc) s = execPlannedReplaceSpareTimeout lc s := rfl
@[simp] theorem exec_latePlacement (lc spare : Nat) (s : State) :
    exec (.latePlacement lc spare) s = execLatePlacement lc spare s := rfl
@[simp] theorem exec_poolLoan (h : Hdr) (die : Nat) (block : Option Nat) (s : State) :
    exec (.poolLoan h die block) s = execPoolLoan h die block s := rfl
@[simp] theorem exec_poolBlockReturn (die : Nat) (s : State) :
    exec (.poolBlockReturn die) s = execPoolBlockReturn die s := rfl
@[simp] theorem exec_sizingWindowLeaseRequest (core start len : Nat) (s : State) :
    exec (.sizingWindowLeaseRequest core start len) s = execSizingWindowLeaseRequest core start len s := rfl
@[simp] theorem exec_sizingWindowForfeit (die : Nat) (s : State) :
    exec (.sizingWindowForfeit die) s = execSizingWindowForfeit die s := rfl
@[simp] theorem exec_sliceStart (die core : Nat) (s : State) :
    exec (.sliceStart die core) s = execSliceStart die core s := rfl
@[simp] theorem exec_shiftSegmentDone (die misr : Nat) (s : State) :
    exec (.shiftSegmentDone die misr) s = execShiftSegmentDone die misr s := rfl
@[simp] theorem exec_sliceEnd (die : Nat) (retained : Bool) (s : State) :
    exec (.sliceEnd die retained) s = execSliceEnd die retained s := rfl
@[simp] theorem exec_leaseReq (h : Hdr) (kind : Nat) (s : State) :
    exec (.leaseReq h kind) s = execLeaseReq h kind s := rfl
@[simp] theorem exec_leaseGrant (h : Hdr) (die kind expiry : Nat) (s : State) :
    exec (.leaseGrant h die kind expiry) s = execLeaseGrant h die kind expiry s := rfl
@[simp] theorem exec_leaseReturn (h : Hdr) (s : State) :
    exec (.leaseReturn h) s = execLeaseReturn h s := rfl
@[simp] theorem exec_leaseExpiry (die : Nat) (s : State) :
    exec (.leaseExpiry die) s = execLeaseExpiry die s := rfl
@[simp] theorem exec_leaseRetryTick (die : Nat) (s : State) :
    exec (.leaseRetryTick die) s = execLeaseRetryTick die s := rfl
@[simp] theorem exec_leaseBlackoutEnd (s : State) : exec .leaseBlackoutEnd s = execLeaseBlackoutEnd s := rfl
@[simp] theorem exec_relaxedStallScan (core reason : Nat) (awaited : Option Nat) (s : State) :
    exec (.relaxedStallScan core reason awaited) s = execRelaxedStallScan core reason awaited s := rfl
@[simp] theorem exec_screenLate (core : Nat) (s : State) :
    exec (.screenLate core) s = execScreenLate core s := rfl
@[simp] theorem exec_screenOverdue (core : Nat) (s : State) :
    exec (.screenOverdue core) s = execScreenOverdue core s := rfl
@[simp] theorem exec_fleetStale (s : State) : exec .fleetStale s = execFleetStale s := rfl
@[simp] theorem exec_distOpen (h : Hdr) (die dist kind chunks : Nat) (hdr : List Byte) (s : State) :
    exec (.distOpen h die dist kind chunks hdr) s = execDistOpen h die dist kind chunks hdr s := rfl
@[simp] theorem exec_stagingCopyDone (die : Nat) (s : State) :
    exec (.stagingCopyDone die) s = execStagingCopyDone die s := rfl
@[simp] theorem exec_chunkPaceTick (kind : Nat) (s : State) :
    exec (.chunkPaceTick kind) s = execChunkPaceTick kind s := rfl
@[simp] theorem exec_chunk (die dist number : Nat) (bytes : List Byte) (crc : Nat) (s : State) :
    exec (.chunk die dist number bytes crc) s = execChunk die dist number bytes crc s := rfl
@[simp] theorem exec_distPoll (h : Hdr) (die dist : Nat) (s : State) :
    exec (.distPoll h die dist) s = execDistPoll h die dist s := rfl
@[simp] theorem exec_bitmap (h : Hdr) (dist : Nat) (words : List Nat) (s : State) :
    exec (.bitmap h dist words) s = execBitmap h dist words s := rfl
@[simp] theorem exec_payloadHashDone (die : Nat) (s : State) :
    exec (.payloadHashDone die) s = execPayloadHashDone die s := rfl
@[simp] theorem exec_distAgentAnswer (h : Hdr) (dist answer : Nat) (s : State) :
    exec (.distAgentAnswer h dist answer) s = execDistAgentAnswer h dist answer s := rfl
@[simp] theorem exec_distArm (h : Hdr) (die dist count : Nat) (s : State) :
    exec (.distArm h die dist count) s = execDistArm h die dist count s := rfl
@[simp] theorem exec_distAckDeadline (kind : Nat) (s : State) :
    exec (.distAckDeadline kind) s = execDistAckDeadline kind s := rfl
@[simp] theorem exec_distDisarm (h : Hdr) (die dist : Nat) (s : State) :
    exec (.distDisarm h die dist) s = execDistDisarm h die dist s := rfl
@[simp] theorem exec_distActivation (die : Nat) (s : State) :
    exec (.distActivation die) s = execDistActivation die s := rfl
@[simp] theorem exec_ucodeBankSwitch (die : Nat) (s : State) :
    exec (.ucodeBankSwitch die) s = execUcodeBankSwitch die s := rfl
@[simp] theorem exec_firstStageForward (die : Nat) (s : State) :
    exec (.firstStageForward die) s = execFirstStageForward die s := rfl
@[simp] theorem exec_countFwd (h : Hdr) (batches : List CountBatch) (s : State) :
    exec (.countFwd h batches) s = execCountFwd h batches s := rfl
@[simp] theorem exec_react (h : Hdr) (die : Nat) (r : Reaction) (s : State) :
    exec (.react h die r) s = execReact h die r s := rfl
@[simp] theorem exec_nmi (h : Hdr) (die source : Nat) (s : State) :
    exec (.nmi h die source) s = execNmi h die source s := rfl
@[simp] theorem exec_intPostTick (s : State) : exec .intPostTick s = execIntPostTick s := rfl
@[simp] theorem exec_msiAcceptTimeout (s : State) : exec .msiAcceptTimeout s = execMsiAcceptTimeout s := rfl
@[simp] theorem exec_notifySourceSecondEnd (source : Nat) (s : State) :
    exec (.notifySourceSecondEnd source) s = execNotifySourceSecondEnd source s := rfl
@[simp] theorem exec_mgmtLinkUp (hub : Hub) (s : State) :
    exec (.mgmtLinkUp hub) s = execMgmtLinkUp hub s := rfl
@[simp] theorem exec_mgmtLinkDown (hub : Hub) (s : State) :
    exec (.mgmtLinkDown hub) s = execMgmtLinkDown hub s := rfl
@[simp] theorem exec_i3cNotifyRead (s : State) : exec .i3cNotifyRead s = execI3cNotifyRead s := rfl
@[simp] theorem exec_notifyRelay (h : Hdr) (number : Nat) (s : State) :
    exec (.notifyRelay h number) s = execNotifyRelay h number s := rfl
@[simp] theorem exec_hangWatchdogExpiry (core : Nat) (s : State) :
    exec (.hangWatchdogExpiry core) s = execHangWatchdogExpiry core s := rfl
@[simp] theorem exec_hangWalk (h : Hdr) (w : WalkStep) (s : State) :
    exec (.hangWalk h w) s = execHangWalk h w s := rfl
@[simp] theorem exec_hangFreezeTimeout (core : Nat) (s : State) :
    exec (.hangFreezeTimeout core) s = execHangFreezeTimeout core s := rfl
@[simp] theorem exec_tagRevoke (h : Hdr) (die tag : Nat) (s : State) :
    exec (.tagRevoke h die tag) s = execTagRevoke h die tag s := rfl
@[simp] theorem exec_teardownDrainEnd (ctx discarded : Nat) (barrier : Bool) (s : State) :
    exec (.teardownDrainEnd ctx discarded barrier) s = execTeardownDrainEnd ctx discarded barrier s := rfl
@[simp] theorem exec_scrubDone (ctx : Nat) (s : State) :
    exec (.scrubDone ctx) s = execScrubDone ctx s := rfl
@[simp] theorem exec_teardownOverrun (ctx : Nat) (cores : List Nat) (s : State) :
    exec (.teardownOverrun ctx cores) s = execTeardownOverrun ctx cores s := rfl
@[simp] theorem exec_fenceCmd (h : Hdr) (die : Nat) (o : FenceOrder) (s : State) :
    exec (.fenceCmd h die o) s = execFenceCmd h die o s := rfl
@[simp] theorem exec_freeze (h : Hdr) (die : Nat) (cores : List Nat) (reason : Nat) (s : State) :
    exec (.freeze h die cores reason) s = execFreeze h die cores reason s := rfl
@[simp] theorem exec_genSet (h : Hdr) (die group gen : Nat) (s : State) :
    exec (.genSet h die group gen) s = execGenSet h die group gen s := rfl
@[simp] theorem exec_domainResetDone (domain target : Nat) (s : State) :
    exec (.domainResetDone domain target) s = execDomainResetDone domain target s := rfl
@[simp] theorem exec_resetOverrun (domain target : Nat) (s : State) :
    exec (.resetOverrun domain target) s = execResetOverrun domain target s := rfl
@[simp] theorem exec_agentResetDone (die : Nat) (s : State) :
    exec (.agentResetDone die) s = execAgentResetDone die s := rfl
@[simp] theorem exec_powerCycleReqRepeat (s : State) : exec .powerCycleReqRepeat s = execPowerCycleReqRepeat s := rfl
@[simp] theorem exec_riskRecompute (s : State) : exec .riskRecompute s = execRiskRecompute s := rfl
@[simp] theorem exec_xpkgWait (core : Nat) (s : State) :
    exec (.xpkgWait core) s = execXpkgWait core s := rfl
@[simp] theorem exec_snapPointReached (lc : Nat) (s : State) :
    exec (.snapPointReached lc) s = execSnapPointReached lc s := rfl
@[simp] theorem exec_snapBarrierComplete (ctx : Nat) (poisoned : Bool) (s : State) :
    exec (.snapBarrierComplete ctx poisoned) s = execSnapBarrierComplete ctx poisoned s := rfl
@[simp] theorem exec_snapHolderAck (ctx ream shard : Nat) (words : List Nat) (poisoned failed : Bool) (set : List TensorPart) (s : State) :
    exec (.snapHolderAck ctx ream shard words poisoned failed set) s = execSnapHolderAck ctx ream shard words poisoned failed set s := rfl
@[simp] theorem exec_snapDeadlineExpiry (ctx : Nat) (s : State) :
    exec (.snapDeadlineExpiry ctx) s = execSnapDeadlineExpiry ctx s := rfl
@[simp] theorem exec_manifest (h : Hdr) (ctx : Nat) (man : Manifest) (s : State) :
    exec (.manifest h ctx man) s = execManifest h ctx man s := rfl
@[simp] theorem exec_restoreGatherDone (ctx : Nat) (remote : List ((Nat × Nat) × Option (List Nat))) (poisoned : List (Nat × Nat)) (set : List TensorPart) (s : State) :
    exec (.restoreGatherDone ctx remote poisoned set) s = execRestoreGatherDone ctx remote poisoned set s := rfl
@[simp] theorem exec_reclaimAutoSnapTimeout (ctx : Nat) (s : State) :
    exec (.reclaimAutoSnapTimeout ctx) s = execReclaimAutoSnapTimeout ctx s := rfl
@[simp] theorem exec_reclaimDeadline (s : State) : exec .reclaimDeadline s = execReclaimDeadline s := rfl
@[simp] theorem exec_wmDie (h : Hdr) (ctx layer oper : Nat) (r : DigestRec) (s : State) :
    exec (.wmDie h ctx layer oper r) s = execWmDie h ctx layer oper r s := rfl
@[simp] theorem exec_replPart (h : Hdr) (ctx iter : Nat) (r : DigestRec) (s : State) :
    exec (.replPart h ctx iter r) s = execReplPart h ctx iter r s := rfl
@[simp] theorem exec_replicaSlotRead (ctx : Nat) (recs : List DigestRec) (conflict : Bool) (s : State) :
    exec (.replicaSlotRead ctx recs conflict) s = execReplicaSlotRead ctx recs conflict s := rfl
@[simp] theorem exec_replicaRereadDone (ctx : Nat) (shards : List (Nat × DigestRec)) (s : State) :
    exec (.replicaRereadDone ctx shards) s = execReplicaRereadDone ctx shards s := rfl
@[simp] theorem exec_replicaRereadExchange (ctx group iter : Nat) (other otherInPass : DigestRec) (tensors : List DigestRec) (otherFailing : Bool) (s : State) :
    exec (.replicaRereadExchange ctx group iter other otherInPass tensors otherFailing) s = execReplicaRereadExchange ctx group iter other otherInPass tensors otherFailing s := rfl
@[simp] theorem exec_livePeriod (s : State) : exec .livePeriod s = execLivePeriod s := rfl
@[simp] theorem exec_live (h : Hdr) (die : Nat) (s : State) :
    exec (.live h die) s = execLive h die s := rfl
@[simp] theorem exec_stbyLivePeriod (s : State) : exec .stbyLivePeriod s = execStbyLivePeriod s := rfl
@[simp] theorem exec_stbyLive (h : Hdr) (r : Health) (s : State) :
    exec (.stbyLive h r) s = execStbyLive h r s := rfl
@[simp] theorem exec_bridged (h : Hdr) (payload : List Nat) (s : State) :
    exec (.bridged h payload) s = execBridged h payload s := rfl
@[simp] theorem exec_agentReply (h : Hdr) (id : Nat) (value : Word) (error : Bool) (s : State) :
    exec (.agentReply h id value error) s = execAgentReply h id value error s := rfl
@[simp] theorem exec_stopTable (h : Hdr) (words : List Nat) (s : State) :
    exec (.stopTable h words) s = execStopTable h words s := rfl
@[simp] theorem exec_feltDump (h : Hdr) (off : Nat) (bytes : List Byte) (s : State) :
    exec (.feltDump h off bytes) s = execFeltDump h off bytes s := rfl
@[simp] theorem exec_liveTimeout (s : State) : exec .liveTimeout s = execLiveTimeout s := rfl
@[simp] theorem exec_fwWatchdogExpiry (s : State) : exec .fwWatchdogExpiry s = execFwWatchdogExpiry s := rfl
@[simp] theorem exec_activeVatFault (trigger source : Nat) (s : State) :
    exec (.activeVatFault trigger source) s = execActiveVatFault trigger source s := rfl
@[simp] theorem exec_vatFailed (h : Hdr) (trigger : Nat) (s : State) :
    exec (.vatFailed h trigger) s = execVatFailed h trigger s := rfl
@[simp] theorem exec_noStandbyReset (s : State) : exec .noStandbyReset s = execNoStandbyReset s := rfl
@[simp] theorem exec_gateConfirm (h : Hdr) (s : State) :
    exec (.gateConfirm h) s = execGateConfirm h s := rfl
@[simp] theorem exec_deposeGateTimeout (s : State) : exec .deposeGateTimeout s = execDeposeGateTimeout s := rfl
@[simp] theorem exec_depose (h : Hdr) (die : Nat) (gated : Bool) (s : State) :
    exec (.depose h die gated) s = execDepose h die gated s := rfl
@[simp] theorem exec_announce (h : Hdr) (die : Nat) (s : State) :
    exec (.announce h die) s = execAnnounce h die s := rfl
@[simp] theorem exec_announceReturn (h : Hdr) (s : State) :
    exec (.announceReturn h) s = execAnnounceReturn h s := rfl
@[simp] theorem exec_epochStale (h : Hdr) (hub : Hub) (epoch : Nat) (s : State) :
    exec (.epochStale h hub epoch) s = execEpochStale h hub epoch s := rfl
@[simp] theorem exec_stbyLiveTimeout (s : State) : exec .stbyLiveTimeout s = execStbyLiveTimeout s := rfl
@[simp] theorem exec_mirror (h : Hdr) (seq : Nat) (s : State) :
    exec (.mirror h seq) s = execMirror h seq s := rfl
@[simp] theorem exec_mirrorSynced (s : State) : exec .mirrorSynced s = execMirrorSynced s := rfl
@[simp] theorem exec_standbySelftestItemDone (item : Nat) (pass : Bool) (s : State) :
    exec (.standbySelftestItemDone item pass) s = execStandbySelftestItemDone item pass s := rfl
@[simp] theorem exec_vatBLoadStart (s : State) : exec .vatBLoadStart s = execVatBLoadStart s := rfl
@[simp] theorem exec_fwLoadDone (hub : Hub) (readErrors : Nat) (s : State) :
    exec (.fwLoadDone hub readErrors) s = execFwLoadDone hub readErrors s := rfl
@[simp] theorem exec_transitFrame (die port : Nat) (flits : List Nat) (s : State) :
    exec (.transitFrame die port flits) s = execTransitFrame die port flits s := rfl
@[simp] theorem exec_feltSpacerTimeout (die port : Nat) (s : State) :
    exec (.feltSpacerTimeout die port) s = execFeltSpacerTimeout die port s := rfl
@[simp] theorem exec_feltAck (h : Hdr) (die txn status : Nat) (reelLo : Nat) (s : State) :
    exec (.feltAck h die txn status reelLo) s = execFeltAck h die txn status reelLo s := rfl
@[simp] theorem exec_credit (die port data : Nat) (s : State) :
    exec (.credit die port data) s = execCredit die port data s := rfl
@[simp] theorem exec_idle (die port : Nat) (s : State) :
    exec (.idle die port) s = execIdle die port s := rfl
@[simp] theorem exec_probe (die port value : Nat) (s : State) :
    exec (.probe die port value) s = execProbe die port value s := rfl
@[simp] theorem exec_echo (die port value : Nat) (s : State) :
    exec (.echo die port value) s = execEcho die port value s := rfl
@[simp] theorem exec_probePeriod (die port : Nat) (s : State) :
    exec (.probePeriod die port) s = execProbePeriod die port s := rfl
@[simp] theorem exec_linkDown (die port : Nat) (s : State) :
    exec (.linkDown die port) s = execLinkDown die port s := rfl
@[simp] theorem exec_creditTimeout (die port : Nat) (s : State) :
    exec (.creditTimeout die port) s = execCreditTimeout die port s := rfl
@[simp] theorem exec_linkSilenceTimeout (die port : Nat) (s : State) :
    exec (.linkSilenceTimeout die port) s = execLinkSilenceTimeout die port s := rfl
@[simp] theorem exec_partialTxnTimeout (die src cls : Nat) (s : State) :
    exec (.partialTxnTimeout die src cls) s = execPartialTxnTimeout die src cls s := rfl
@[simp] theorem exec_txnResendTimeout (die cls seq : Nat) (s : State) :
    exec (.txnResendTimeout die cls seq) s = execTxnResendTimeout die cls seq s := rfl
@[simp] theorem exec_ringBreak (h : Hdr) (die ring link : Nat) (s : State) :
    exec (.ringBreak h die ring link) s = execRingBreak h die ring link s := rfl
@[simp] theorem exec_ringJoin (h : Hdr) (die ring link count : Nat) (s : State) :
    exec (.ringJoin h die ring link count) s = execRingJoin h die ring link count s := rfl
@[simp] theorem exec_ringJoinActivation (die ring : Nat) (s : State) :
    exec (.ringJoinActivation die ring) s = execRingJoinActivation die ring s := rfl
@[simp] theorem exec_stationIsolation (die : Nat) (s : State) :
    exec (.stationIsolation die) s = execStationIsolation die s := rfl
@[simp] theorem exec_stationIsolated (die : Nat) (s : State) :
    exec (.stationIsolated die) s = execStationIsolated die s := rfl
@[simp] theorem exec_stopRise (die : Nat) (s : State) :
    exec (.stopRise die) s = execStopRise die s := rfl
@[simp] theorem exec_barrier (h : Hdr) (die tag : Nat) (gen : Option Nat) (s : State) :
    exec (.barrier h die tag gen) s = execBarrier h die tag gen s := rfl
@[simp] theorem exec_barrierDrained (die seq : Nat) (s : State) :
    exec (.barrierDrained die seq) s = execBarrierDrained die seq s := rfl
@[simp] theorem exec_agentCmd (h : Hdr) (die : Nat) (op : AgentOp) (s : State) :
    exec (.agentCmd h die op) s = execAgentCmd h die op s := rfl
@[simp] theorem exec_laneBerWindowEnd (c : LaneCount) (optical : Bool) (s : State) :
    exec (.laneBerWindowEnd c optical) s = execLaneBerWindowEnd c optical s := rfl
@[simp] theorem exec_feltLinkQualDone (die port echoed errors : Nat) (s : State) :
    exec (.feltLinkQualDone die port echoed errors) s = execFeltLinkQualDone die port echoed errors s := rfl
@[simp] theorem exec_alignProbe (h : Hdr) (die value : Nat) (s : State) :
    exec (.alignProbe h die value) s = execAlignProbe h die value s := rfl
@[simp] theorem exec_alignEcho (die neighbour port : Nat) (rt1 rt2 rt3 : Nat) (s : State) :
    exec (.alignEcho die neighbour port rt1 rt2 rt3) s = execAlignEcho die neighbour port rt1 rt2 rt3 s := rfl
@[simp] theorem exec_alignSet (h : Hdr) (die t halfRt edgeIn : Nat) (s : State) :
    exec (.alignSet h die t halfRt edgeIn) s = execAlignSet h die t halfRt edgeIn s := rfl
@[simp] theorem exec_alignDone (s : State) : exec .alignDone s = execAlignDone s := rfl
@[simp] theorem exec_reelCompareTick (die : Nat) (s : State) :
    exec (.reelCompareTick die) s = execReelCompareTick die s := rfl
@[simp] theorem exec_reelCmp (h : Hdr) (die count : Nat) (s : State) :
    exec (.reelCmp h die count) s = execReelCmp h die count s := rfl
@[simp] theorem exec_reelCorrectionResume (die : Nat) (s : State) :
    exec (.reelCorrectionResume die) s = execReelCorrectionResume die s := rfl
@[simp] theorem exec_reelLockLoss (die : Nat) (s : State) :
    exec (.reelLockLoss die) s = execReelLockLoss die s := rfl
@[simp] theorem exec_reelLockReturn (die : Nat) (s : State) :
    exec (.reelLockReturn die) s = execReelLockReturn die s := rfl
@[simp] theorem exec_refLoss (s : State) : exec .refLoss s = execRefLoss s := rfl
@[simp] theorem exec_launchArm (h : Hdr) (die ctx count : Nat) (s : State) :
    exec (.launchArm h die ctx count) s = execLaunchArm h die ctx count s := rfl
@[simp] theorem exec_launchRelease (die ctx : Nat) (s : State) :
    exec (.launchRelease die ctx) s = execLaunchRelease die ctx s := rfl
@[simp] theorem exec_stallIntervalSaturate (region : Nat) (s : State) :
    exec (.stallIntervalSaturate region) s = execStallIntervalSaturate region s := rfl
@[simp] theorem exec_tempSample (die sensor raw : Nat) (s : State) :
    exec (.tempSample die sensor raw) s = execTempSample die sensor raw s := rfl
@[simp] theorem exec_vmonSample (die monitor raw nominal : Nat) (s : State) :
    exec (.vmonSample die monitor raw nominal) s = execVmonSample die monitor raw nominal s := rfl
@[simp] theorem exec_paceSample (die monitor raw : Nat) (s : State) :
    exec (.paceSample die monitor raw) s = execPaceSample die monitor raw s := rfl
@[simp] theorem exec_sensorRefCheck (die sensor : Nat) (value ref : Int) (s : State) :
    exec (.sensorRefCheck die sensor value ref) s = execSensorRefCheck die sensor value ref s := rfl
@[simp] theorem exec_analogBistSlice (die item index : Nat) (measured second : Int) (signal : Bool) (s : State) :
    exec (.analogBistSlice die item index measured second signal) s = execAnalogBistSlice die item index measured second signal s := rfl
@[simp] theorem exec_brkAddrTrap (die addr : Nat) (s : State) :
    exec (.brkAddrTrap die addr) s = execBrkAddrTrap die addr s := rfl
@[simp] theorem exec_brkDrainEnd (ctx : Nat) (s : State) :
    exec (.brkDrainEnd ctx) s = execBrkDrainEnd ctx s := rfl
@[simp] theorem exec_brkHoldScreen (core : Nat) (s : State) :
    exec (.brkHoldScreen core) s = execBrkHoldScreen core s := rfl
@[simp] theorem exec_gstopJtag (hub : Hub) (s : State) :
    exec (.gstopJtag hub) s = execGstopJtag hub s := rfl
@[simp] theorem exec_gstopRel (h : Hdr) (die count : Nat) (s : State) :
    exec (.gstopRel h die count) s = execGstopRel h die count s := rfl
@[simp] theorem exec_gstopReleaseActivation (s : State) : exec .gstopReleaseActivation s = execGstopReleaseActivation s := rfl
@[simp] theorem exec_dumpUnitDone (markerOk : Bool) (image : List Byte) (s : State) :
    exec (.dumpUnitDone markerOk image) s = execDumpUnitDone markerOk image s := rfl
@[simp] theorem exec_dumpUnitTimeout (s : State) : exec .dumpUnitTimeout s = execDumpUnitTimeout s := rfl
@[simp] theorem exec_recordWriteDone (hub : Hub) (ok retryOk : Bool) (s : State) :
    exec (.recordWriteDone hub ok retryOk) s = execRecordWriteDone hub ok retryOk s := rfl
@[simp] theorem exec_hoursPersistTick (s : State) : exec .hoursPersistTick s = execHoursPersistTick s := rfl
@[simp] theorem exec_sysRstNRelease (s : State) : exec .sysRstNRelease s = execSysRstNRelease s := rfl
@[simp] theorem exec_sysRstNAssert (s : State) : exec .sysRstNAssert s = execSysRstNAssert s := rfl
@[simp] theorem exec_powerLoss (s : State) : exec .powerLoss s = execPowerLoss s := rfl
@[simp] theorem exec_vatSelfBistDone (hub : Hub) (logicOk memoryOk : Bool) (test : Nat) (s : State) :
    exec (.vatSelfBistDone hub logicOk memoryOk test) s = execVatSelfBistDone hub logicOk memoryOk test s := rfl
@[simp] theorem exec_agentSelfBistDone (die : Nat) (ok calOk : Bool) (test : Nat) (s : State) :
    exec (.agentSelfBistDone die ok calOk test) s = execAgentSelfBistDone die ok calOk test s := rfl
@[simp] theorem exec_startupScreenTimeout (s : State) : exec .startupScreenTimeout s = execStartupScreenTimeout s := rfl
@[simp] theorem exec_deckleMapBuild (s : State) : exec .deckleMapBuild s = execDeckleMapBuild s := rfl
@[simp] theorem exec_inboundBridgedMessage (hub : Hub) (i3c : Bool) (payload : List Nat) (s : State) :
    exec (.inboundBridgedMessage hub i3c payload) s = execInboundBridgedMessage hub i3c payload s := rfl
@[simp] theorem exec_messageInterruptAccepted (s : State) : exec .messageInterruptAccepted s = execMessageInterruptAccepted s := rfl
@[simp] theorem exec_partitionAssignment (die part : Nat) (s : State) :
    exec (.partitionAssignment die part) s = execPartitionAssignment die part s := rfl
@[simp] theorem exec_unsupportedPldmCommand (hub : Hub) (pldmType command : Nat) (s : State) :
    exec (.unsupportedPldmCommand hub pldmType command) s = execUnsupportedPldmCommand hub pldmType command s := rfl

end Sys2Proof.Machine
end

