-- ==== Sys2Proof/Laws/Tables.lean ====
section
/-! SUPPORT. The laws of the sparse tables: what a read after a write gives, and that a write keeps the canonical form. -/

namespace Sys2Proof.Machine

theorem tget_tdel {α : Type} (d : α) (t : Table α) (n m : Nat) : tget d (tdel t n) m = if m = n then d else tget d t m := by
  induction t with
  | nil => simp [tdel, tget]
  | cons e t ih =>
    obtain ⟨k, w⟩ := e
    unfold tdel at ih ⊢
    by_cases hk : k = n
    · simp only [List.filter_cons, hk, bne_self_eq_false, Bool.false_eq_true, if_false, ih, tget]
      split <;> rfl
    · simp only [List.filter_cons, bne_iff_ne, ne_eq, hk, not_false_eq_true, if_true, tget, ih]
      by_cases hm : m = k
      · simp [hm, hk]
      · simp [hm]

theorem tget_tins {α : Type} (d : α) (t : Table α) (n m : Nat) (v : α) (h : ∀ e ∈ t, e.1 ≠ n) :
    tget d (tins n v t) m = if m = n then v else tget d t m := by
  induction t with
  | nil => simp [tins, tget]
  | cons e t ih =>
    obtain ⟨k, w⟩ := e
    have hk : k ≠ n := h (k, w) (by simp)
    have ih := ih fun e he => h e (by simp [he])
    unfold tins
    split
    · simp [tget]
    · simp only [tget, ih]
      by_cases hm : m = k
      · simp [hm, hk]
      · simp [hm]

theorem tdel_fresh {α : Type} (t : Table α) (n : Nat) : ∀ e ∈ tdel t n, e.1 ≠ n := by
  intro e he
  simpa [tdel] using (List.mem_filter.mp he).2

/-- A read after a write: the value written at its key, every other key as before. -/
@[simp] theorem tget_tset {α : Type} [DecidableEq α] (d : α) (t : Table α) (n m : Nat) (v : α) :
    tget d (tset d t n v) m = if m = n then v else tget d t m := by
  unfold tset
  split
  · rename_i hv; rw [tget_tdel, hv]
  · exact tget_tins d _ n m v (tdel_fresh t n) |>.trans (by rw [tget_tdel]; split <;> simp_all)

theorem tfrom_mono {α : Type} [DecidableEq α] (d : α) (t : Table α) (a b : Nat) (h : tfrom d b t = true) (hab : a ≤ b) : tfrom d a t = true := by
  cases t with
  | nil => rfl
  | cons e t =>
    obtain ⟨k, w⟩ := e
    simp only [tfrom, Bool.and_eq_true, decide_eq_true_eq] at h ⊢
    exact ⟨⟨by omega, h.1.2⟩, h.2⟩

theorem tfrom_tdel {α : Type} [DecidableEq α] (d : α) (t : Table α) (n lo : Nat) (h : tfrom d lo t = true) : tfrom d lo (tdel t n) = true := by
  induction t generalizing lo with
  | nil => rfl
  | cons e t ih =>
    obtain ⟨k, w⟩ := e
    simp only [tfrom, Bool.and_eq_true, decide_eq_true_eq] at h
    by_cases hk : k = n
    · have : tdel ((k, w) :: t) n = tdel t n := by simp [tdel, hk]
      rw [this]
      exact tfrom_mono d _ lo (k + 1) (ih (k + 1) h.2) (by omega)
    · have : tdel ((k, w) :: t) n = (k, w) :: tdel t n := by simp [tdel, hk]
      rw [this]
      simp only [tfrom, Bool.and_eq_true, decide_eq_true_eq]
      exact ⟨h.1, ih (k + 1) h.2⟩

theorem tfrom_tins {α : Type} [DecidableEq α] (d : α) (t : Table α) (n lo : Nat) (v : α) (hv : v ≠ d) (hn : lo ≤ n)
    (hf : ∀ e ∈ t, e.1 ≠ n) (h : tfrom d lo t = true) : tfrom d lo (tins n v t) = true := by
  induction t generalizing lo with
  | nil => simp [tins, tfrom, hv, hn]
  | cons e t ih =>
    obtain ⟨k, w⟩ := e
    have hk : k ≠ n := hf (k, w) (by simp)
    simp only [tfrom, Bool.and_eq_true, decide_eq_true_eq] at h
    unfold tins
    split
    · rename_i hlt
      simp only [tfrom, Bool.and_eq_true, decide_eq_true_eq]
      exact ⟨⟨hn, hv⟩, ⟨by omega, h.1.2⟩, h.2⟩
    · simp only [tfrom, Bool.and_eq_true, decide_eq_true_eq]
      exact ⟨h.1, ih (k + 1) (by omega) (fun e he => hf e (by simp [he])) h.2⟩

/-- A write keeps the canonical form. -/
theorem twf_tset {α : Type} [DecidableEq α] (d : α) (t : Table α) (n : Nat) (v : α) (h : twf d t = true) : twf d (tset d t n v) = true := by
  unfold tset
  split
  · exact tfrom_tdel d t n 0 h
  · rename_i hv
    exact tfrom_tins d _ n 0 v hv (Nat.zero_le n) (tdel_fresh t n) (tfrom_tdel d t n 0 h)

@[simp] theorem twf_nil {α : Type} [DecidableEq α] (d : α) : twf d ([] : Table α) = true := rfl

theorem twf_tput {α : Type} [DecidableEq α] (d : α) (l : List α) (t : Table α) (n : Nat) (h : twf d t = true) : twf d (tput d t n l) = true := by
  induction l generalizing t n with
  | nil => exact h
  | cons v l ih => exact ih _ _ (twf_tset d t n v h)

theorem tget_tput_below {α : Type} [DecidableEq α] (d : α) (l : List α) (t : Table α) (n m : Nat) (h : m < n) :
    tget d (tput d t n l) m = tget d t m := by
  induction l generalizing t n with
  | nil => rfl
  | cons v l ih => simp only [tput]; rw [ih _ (n + 1) (by omega), tget_tset, if_neg (by omega)]

theorem tget_tput {α : Type} [DecidableEq α] (d : α) (l : List α) (t : Table α) (n i : Nat) (h : i < l.length) :
    tget d (tput d t n l) (n + i) = l[i] := by
  induction l generalizing t n i with
  | nil => simp at h
  | cons v l ih =>
    cases i with
    | zero => simp only [tput]; rw [tget_tput_below _ _ _ _ _ (by omega)]; simp
    | succ i =>
      have := ih (tset d t n v) (n + 1) i (by simpa using h)
      simp only [tput, List.getElem_cons_succ]
      rw [← this]; congr 1; omega

@[simp] theorem tget_nil {α : Type} (d : α) (n : Nat) : tget d [] n = d := rfl

/-- A fold keeps what every step keeps. -/
theorem each_keeps {α β γ : Type} (g : β → γ) (l : List α) (f : β → α → β) (b : β) (h : ∀ b a, g (f b a) = g b) : g (each l f b) = g b := by
  induction l generalizing b with
  | nil => rfl
  | cons x l ih => exact (ih (f b x)).trans (h b x)

/-- A fold keeps a property that every step keeps. -/
theorem each_holds {α β : Type} (p : β → Prop) (l : List α) (f : β → α → β) (b : β) (h : ∀ b a, p b → p (f b a)) (hb : p b) : p (each l f b) := by
  induction l generalizing b with
  | nil => exact hb
  | cons x l ih => exact ih _ (h b x hb)

end Sys2Proof.Machine
end

