-- ==== Sys2Proof/Laws/State.lean ====
section
/-! SUPPORT. One lemma for each part of State and each update: the part updated reads the new value, every other part is unchanged. -/

namespace Sys2Proof.Machine

@[simp] theorem modPkg_pending (s : State) (f : Pkg → Pkg) : (s.modPkg f).pending = s.pending := rfl
@[simp] theorem modPkg_out (s : State) (f : Pkg → Pkg) : (s.modPkg f).out = s.out := rfl
@[simp] theorem modPkg_fresh (s : State) (f : Pkg → Pkg) : (s.modPkg f).fresh = s.fresh := rfl
@[simp] theorem modPkg_reel (s : State) (f : Pkg → Pkg) : (s.modPkg f).reel = s.reel := rfl
@[simp] theorem modPkg_pkg (s : State) (f : Pkg → Pkg) : (s.modPkg f).pkg = f s.pkg := rfl
@[simp] theorem modPkg_vatA (s : State) (f : Pkg → Pkg) : (s.modPkg f).vatA = s.vatA := rfl
@[simp] theorem modPkg_vatB (s : State) (f : Pkg → Pkg) : (s.modPkg f).vatB = s.vatB := rfl
@[simp] theorem modPkg_sh (s : State) (f : Pkg → Pkg) : (s.modPkg f).sh = s.sh := rfl
@[simp] theorem modPkg_dbg (s : State) (f : Pkg → Pkg) : (s.modPkg f).dbg = s.dbg := rfl
@[simp] theorem modPkg_dies (s : State) (f : Pkg → Pkg) : (s.modPkg f).dies = s.dies := rfl
@[simp] theorem modPkg_cores (s : State) (f : Pkg → Pkg) : (s.modPkg f).cores = s.cores := rfl
@[simp] theorem modPkg_lcs (s : State) (f : Pkg → Pkg) : (s.modPkg f).lcs = s.lcs := rfl
@[simp] theorem modPkg_felt (s : State) (f : Pkg → Pkg) : (s.modPkg f).felt = s.felt := rfl
@[simp] theorem modPkg_die (s : State) (f : Pkg → Pkg) (e : Nat) : (s.modPkg f).die e = s.die e := rfl
@[simp] theorem modPkg_core (s : State) (f : Pkg → Pkg) (e : Nat) : (s.modPkg f).core e = s.core e := rfl
@[simp] theorem modPkg_lc (s : State) (f : Pkg → Pkg) (e : Nat) : (s.modPkg f).lc e = s.lc e := rfl
@[simp] theorem modPkg_ctx (s : State) (f : Pkg → Pkg) (e : Nat) : (s.modPkg f).ctx e = s.ctx e := rfl
@[simp] theorem modPkg_ticket (s : State) (f : Pkg → Pkg) (e : Nat) : (s.modPkg f).ticket e = s.ticket e := rfl
@[simp] theorem modPkg_port (s : State) (f : Pkg → Pkg) (e : Nat) : (s.modPkg f).port e = s.port e := rfl
@[simp] theorem modPkg_counter (s : State) (f : Pkg → Pkg) (e : Nat) : (s.modPkg f).counter e = s.counter e := rfl
@[simp] theorem modPkg_session (s : State) (f : Pkg → Pkg) (e : Nat) : (s.modPkg f).session e = s.session e := rfl
@[simp] theorem modPkg_vat (s : State) (f : Pkg → Pkg) (h : Hub) : (s.modPkg f).vat h = s.vat h := by cases h <;> rfl
@[simp] theorem modSh_pending (s : State) (f : Shared → Shared) : (s.modSh f).pending = s.pending := rfl
@[simp] theorem modSh_out (s : State) (f : Shared → Shared) : (s.modSh f).out = s.out := rfl
@[simp] theorem modSh_fresh (s : State) (f : Shared → Shared) : (s.modSh f).fresh = s.fresh := rfl
@[simp] theorem modSh_reel (s : State) (f : Shared → Shared) : (s.modSh f).reel = s.reel := rfl
@[simp] theorem modSh_pkg (s : State) (f : Shared → Shared) : (s.modSh f).pkg = s.pkg := rfl
@[simp] theorem modSh_vatA (s : State) (f : Shared → Shared) : (s.modSh f).vatA = s.vatA := rfl
@[simp] theorem modSh_vatB (s : State) (f : Shared → Shared) : (s.modSh f).vatB = s.vatB := rfl
@[simp] theorem modSh_sh (s : State) (f : Shared → Shared) : (s.modSh f).sh = f s.sh := rfl
@[simp] theorem modSh_dbg (s : State) (f : Shared → Shared) : (s.modSh f).dbg = s.dbg := rfl
@[simp] theorem modSh_dies (s : State) (f : Shared → Shared) : (s.modSh f).dies = s.dies := rfl
@[simp] theorem modSh_cores (s : State) (f : Shared → Shared) : (s.modSh f).cores = s.cores := rfl
@[simp] theorem modSh_lcs (s : State) (f : Shared → Shared) : (s.modSh f).lcs = s.lcs := rfl
@[simp] theorem modSh_felt (s : State) (f : Shared → Shared) : (s.modSh f).felt = s.felt := rfl
@[simp] theorem modSh_die (s : State) (f : Shared → Shared) (e : Nat) : (s.modSh f).die e = s.die e := rfl
@[simp] theorem modSh_core (s : State) (f : Shared → Shared) (e : Nat) : (s.modSh f).core e = s.core e := rfl
@[simp] theorem modSh_lc (s : State) (f : Shared → Shared) (e : Nat) : (s.modSh f).lc e = s.lc e := rfl
@[simp] theorem modSh_port (s : State) (f : Shared → Shared) (e : Nat) : (s.modSh f).port e = s.port e := rfl
@[simp] theorem modSh_vat (s : State) (f : Shared → Shared) (h : Hub) : (s.modSh f).vat h = s.vat h := by cases h <;> rfl
@[simp] theorem modDbg_pending (s : State) (f : Debug → Debug) : (s.modDbg f).pending = s.pending := rfl
@[simp] theorem modDbg_out (s : State) (f : Debug → Debug) : (s.modDbg f).out = s.out := rfl
@[simp] theorem modDbg_fresh (s : State) (f : Debug → Debug) : (s.modDbg f).fresh = s.fresh := rfl
@[simp] theorem modDbg_reel (s : State) (f : Debug → Debug) : (s.modDbg f).reel = s.reel := rfl
@[simp] theorem modDbg_pkg (s : State) (f : Debug → Debug) : (s.modDbg f).pkg = s.pkg := rfl
@[simp] theorem modDbg_vatA (s : State) (f : Debug → Debug) : (s.modDbg f).vatA = s.vatA := rfl
@[simp] theorem modDbg_vatB (s : State) (f : Debug → Debug) : (s.modDbg f).vatB = s.vatB := rfl
@[simp] theorem modDbg_sh (s : State) (f : Debug → Debug) : (s.modDbg f).sh = s.sh := rfl
@[simp] theorem modDbg_dbg (s : State) (f : Debug → Debug) : (s.modDbg f).dbg = f s.dbg := rfl
@[simp] theorem modDbg_dies (s : State) (f : Debug → Debug) : (s.modDbg f).dies = s.dies := rfl
@[simp] theorem modDbg_cores (s : State) (f : Debug → Debug) : (s.modDbg f).cores = s.cores := rfl
@[simp] theorem modDbg_lcs (s : State) (f : Debug → Debug) : (s.modDbg f).lcs = s.lcs := rfl
@[simp] theorem modDbg_felt (s : State) (f : Debug → Debug) : (s.modDbg f).felt = s.felt := rfl
@[simp] theorem modDbg_die (s : State) (f : Debug → Debug) (e : Nat) : (s.modDbg f).die e = s.die e := rfl
@[simp] theorem modDbg_core (s : State) (f : Debug → Debug) (e : Nat) : (s.modDbg f).core e = s.core e := rfl
@[simp] theorem modDbg_lc (s : State) (f : Debug → Debug) (e : Nat) : (s.modDbg f).lc e = s.lc e := rfl
@[simp] theorem modDbg_ctx (s : State) (f : Debug → Debug) (e : Nat) : (s.modDbg f).ctx e = s.ctx e := rfl
@[simp] theorem modDbg_ticket (s : State) (f : Debug → Debug) (e : Nat) : (s.modDbg f).ticket e = s.ticket e := rfl
@[simp] theorem modDbg_port (s : State) (f : Debug → Debug) (e : Nat) : (s.modDbg f).port e = s.port e := rfl
@[simp] theorem modDbg_counter (s : State) (f : Debug → Debug) (e : Nat) : (s.modDbg f).counter e = s.counter e := rfl
@[simp] theorem modDbg_session (s : State) (f : Debug → Debug) (e : Nat) : (s.modDbg f).session e = s.session e := rfl
@[simp] theorem modDbg_vat (s : State) (f : Debug → Debug) (h : Hub) : (s.modDbg f).vat h = s.vat h := by cases h <;> rfl
@[simp] theorem modFelt_pending (s : State) (f : Felt → Felt) : (s.modFelt f).pending = s.pending := rfl
@[simp] theorem modFelt_out (s : State) (f : Felt → Felt) : (s.modFelt f).out = s.out := rfl
@[simp] theorem modFelt_fresh (s : State) (f : Felt → Felt) : (s.modFelt f).fresh = s.fresh := rfl
@[simp] theorem modFelt_reel (s : State) (f : Felt → Felt) : (s.modFelt f).reel = s.reel := rfl
@[simp] theorem modFelt_pkg (s : State) (f : Felt → Felt) : (s.modFelt f).pkg = s.pkg := rfl
@[simp] theorem modFelt_vatA (s : State) (f : Felt → Felt) : (s.modFelt f).vatA = s.vatA := rfl
@[simp] theorem modFelt_vatB (s : State) (f : Felt → Felt) : (s.modFelt f).vatB = s.vatB := rfl
@[simp] theorem modFelt_sh (s : State) (f : Felt → Felt) : (s.modFelt f).sh = s.sh := rfl
@[simp] theorem modFelt_dbg (s : State) (f : Felt → Felt) : (s.modFelt f).dbg = s.dbg := rfl
@[simp] theorem modFelt_dies (s : State) (f : Felt → Felt) : (s.modFelt f).dies = s.dies := rfl
@[simp] theorem modFelt_cores (s : State) (f : Felt → Felt) : (s.modFelt f).cores = s.cores := rfl
@[simp] theorem modFelt_lcs (s : State) (f : Felt → Felt) : (s.modFelt f).lcs = s.lcs := rfl
@[simp] theorem modFelt_felt (s : State) (f : Felt → Felt) : (s.modFelt f).felt = f s.felt := rfl
@[simp] theorem modFelt_die (s : State) (f : Felt → Felt) (e : Nat) : (s.modFelt f).die e = s.die e := rfl
@[simp] theorem modFelt_core (s : State) (f : Felt → Felt) (e : Nat) : (s.modFelt f).core e = s.core e := rfl
@[simp] theorem modFelt_lc (s : State) (f : Felt → Felt) (e : Nat) : (s.modFelt f).lc e = s.lc e := rfl
@[simp] theorem modFelt_ctx (s : State) (f : Felt → Felt) (e : Nat) : (s.modFelt f).ctx e = s.ctx e := rfl
@[simp] theorem modFelt_ticket (s : State) (f : Felt → Felt) (e : Nat) : (s.modFelt f).ticket e = s.ticket e := rfl
@[simp] theorem modFelt_counter (s : State) (f : Felt → Felt) (e : Nat) : (s.modFelt f).counter e = s.counter e := rfl
@[simp] theorem modFelt_session (s : State) (f : Felt → Felt) (e : Nat) : (s.modFelt f).session e = s.session e := rfl
@[simp] theorem modFelt_vat (s : State) (f : Felt → Felt) (h : Hub) : (s.modFelt f).vat h = s.vat h := by cases h <;> rfl
@[simp] theorem modDie_pending (s : State) (d : Nat) (f : Die → Die) : (s.modDie d f).pending = s.pending := rfl
@[simp] theorem modDie_out (s : State) (d : Nat) (f : Die → Die) : (s.modDie d f).out = s.out := rfl
@[simp] theorem modDie_fresh (s : State) (d : Nat) (f : Die → Die) : (s.modDie d f).fresh = s.fresh := rfl
@[simp] theorem modDie_reel (s : State) (d : Nat) (f : Die → Die) : (s.modDie d f).reel = s.reel := rfl
@[simp] theorem modDie_pkg (s : State) (d : Nat) (f : Die → Die) : (s.modDie d f).pkg = s.pkg := rfl
@[simp] theorem modDie_vatA (s : State) (d : Nat) (f : Die → Die) : (s.modDie d f).vatA = s.vatA := rfl
@[simp] theorem modDie_vatB (s : State) (d : Nat) (f : Die → Die) : (s.modDie d f).vatB = s.vatB := rfl
@[simp] theorem modDie_sh (s : State) (d : Nat) (f : Die → Die) : (s.modDie d f).sh = s.sh := rfl
@[simp] theorem modDie_dbg (s : State) (d : Nat) (f : Die → Die) : (s.modDie d f).dbg = s.dbg := rfl
@[simp] theorem modDie_dies (s : State) (d : Nat) (f : Die → Die) : (s.modDie d f).dies = tset {} s.dies d (f (s.die d)) := rfl
@[simp] theorem modDie_cores (s : State) (d : Nat) (f : Die → Die) : (s.modDie d f).cores = s.cores := rfl
@[simp] theorem modDie_lcs (s : State) (d : Nat) (f : Die → Die) : (s.modDie d f).lcs = s.lcs := rfl
@[simp] theorem modDie_felt (s : State) (d : Nat) (f : Die → Die) : (s.modDie d f).felt = s.felt := rfl
@[simp] theorem modDie_core (s : State) (d : Nat) (f : Die → Die) (e : Nat) : (s.modDie d f).core e = s.core e := rfl
@[simp] theorem modDie_lc (s : State) (d : Nat) (f : Die → Die) (e : Nat) : (s.modDie d f).lc e = s.lc e := rfl
@[simp] theorem modDie_ctx (s : State) (d : Nat) (f : Die → Die) (e : Nat) : (s.modDie d f).ctx e = s.ctx e := rfl
@[simp] theorem modDie_ticket (s : State) (d : Nat) (f : Die → Die) (e : Nat) : (s.modDie d f).ticket e = s.ticket e := rfl
@[simp] theorem modDie_port (s : State) (d : Nat) (f : Die → Die) (e : Nat) : (s.modDie d f).port e = s.port e := rfl
@[simp] theorem modDie_counter (s : State) (d : Nat) (f : Die → Die) (e : Nat) : (s.modDie d f).counter e = s.counter e := rfl
@[simp] theorem modDie_session (s : State) (d : Nat) (f : Die → Die) (e : Nat) : (s.modDie d f).session e = s.session e := rfl
@[simp] theorem modDie_vat (s : State) (d : Nat) (f : Die → Die) (h : Hub) : (s.modDie d f).vat h = s.vat h := by cases h <;> rfl
@[simp] theorem modCore_pending (s : State) (p : Nat) (f : Core → Core) : (s.modCore p f).pending = s.pending := rfl
@[simp] theorem modCore_out (s : State) (p : Nat) (f : Core → Core) : (s.modCore p f).out = s.out := rfl
@[simp] theorem modCore_fresh (s : State) (p : Nat) (f : Core → Core) : (s.modCore p f).fresh = s.fresh := rfl
@[simp] theorem modCore_reel (s : State) (p : Nat) (f : Core → Core) : (s.modCore p f).reel = s.reel := rfl
@[simp] theorem modCore_pkg (s : State) (p : Nat) (f : Core → Core) : (s.modCore p f).pkg = s.pkg := rfl
@[simp] theorem modCore_vatA (s : State) (p : Nat) (f : Core → Core) : (s.modCore p f).vatA = s.vatA := rfl
@[simp] theorem modCore_vatB (s : State) (p : Nat) (f : Core → Core) : (s.modCore p f).vatB = s.vatB := rfl
@[simp] theorem modCore_sh (s : State) (p : Nat) (f : Core → Core) : (s.modCore p f).sh = s.sh := rfl
@[simp] theorem modCore_dbg (s : State) (p : Nat) (f : Core → Core) : (s.modCore p f).dbg = s.dbg := rfl
@[simp] theorem modCore_dies (s : State) (p : Nat) (f : Core → Core) : (s.modCore p f).dies = s.dies := rfl
@[simp] theorem modCore_cores (s : State) (p : Nat) (f : Core → Core) : (s.modCore p f).cores = tset {} s.cores p (f (s.core p)) := rfl
@[simp] theorem modCore_lcs (s : State) (p : Nat) (f : Core → Core) : (s.modCore p f).lcs = s.lcs := rfl
@[simp] theorem modCore_felt (s : State) (p : Nat) (f : Core → Core) : (s.modCore p f).felt = s.felt := rfl
@[simp] theorem modCore_die (s : State) (p : Nat) (f : Core → Core) (e : Nat) : (s.modCore p f).die e = s.die e := rfl
@[simp] theorem modCore_lc (s : State) (p : Nat) (f : Core → Core) (e : Nat) : (s.modCore p f).lc e = s.lc e := rfl
@[simp] theorem modCore_ctx (s : State) (p : Nat) (f : Core → Core) (e : Nat) : (s.modCore p f).ctx e = s.ctx e := rfl
@[simp] theorem modCore_ticket (s : State) (p : Nat) (f : Core → Core) (e : Nat) : (s.modCore p f).ticket e = s.ticket e := rfl
@[simp] theorem modCore_port (s : State) (p : Nat) (f : Core → Core) (e : Nat) : (s.modCore p f).port e = s.port e := rfl
@[simp] theorem modCore_counter (s : State) (p : Nat) (f : Core → Core) (e : Nat) : (s.modCore p f).counter e = s.counter e := rfl
@[simp] theorem modCore_session (s : State) (p : Nat) (f : Core → Core) (e : Nat) : (s.modCore p f).session e = s.session e := rfl
@[simp] theorem modCore_vat (s : State) (p : Nat) (f : Core → Core) (h : Hub) : (s.modCore p f).vat h = s.vat h := by cases h <;> rfl
@[simp] theorem modLc_pending (s : State) (n : Nat) (f : Lc → Lc) : (s.modLc n f).pending = s.pending := rfl
@[simp] theorem modLc_out (s : State) (n : Nat) (f : Lc → Lc) : (s.modLc n f).out = s.out := rfl
@[simp] theorem modLc_fresh (s : State) (n : Nat) (f : Lc → Lc) : (s.modLc n f).fresh = s.fresh := rfl
@[simp] theorem modLc_reel (s : State) (n : Nat) (f : Lc → Lc) : (s.modLc n f).reel = s.reel := rfl
@[simp] theorem modLc_pkg (s : State) (n : Nat) (f : Lc → Lc) : (s.modLc n f).pkg = s.pkg := rfl
@[simp] theorem modLc_vatA (s : State) (n : Nat) (f : Lc → Lc) : (s.modLc n f).vatA = s.vatA := rfl
@[simp] theorem modLc_vatB (s : State) (n : Nat) (f : Lc → Lc) : (s.modLc n f).vatB = s.vatB := rfl
@[simp] theorem modLc_sh (s : State) (n : Nat) (f : Lc → Lc) : (s.modLc n f).sh = s.sh := rfl
@[simp] theorem modLc_dbg (s : State) (n : Nat) (f : Lc → Lc) : (s.modLc n f).dbg = s.dbg := rfl
@[simp] theorem modLc_dies (s : State) (n : Nat) (f : Lc → Lc) : (s.modLc n f).dies = s.dies := rfl
@[simp] theorem modLc_cores (s : State) (n : Nat) (f : Lc → Lc) : (s.modLc n f).cores = s.cores := rfl
@[simp] theorem modLc_lcs (s : State) (n : Nat) (f : Lc → Lc) : (s.modLc n f).lcs = tset {} s.lcs n (f (s.lc n)) := rfl
@[simp] theorem modLc_felt (s : State) (n : Nat) (f : Lc → Lc) : (s.modLc n f).felt = s.felt := rfl
@[simp] theorem modLc_die (s : State) (n : Nat) (f : Lc → Lc) (e : Nat) : (s.modLc n f).die e = s.die e := rfl
@[simp] theorem modLc_core (s : State) (n : Nat) (f : Lc → Lc) (e : Nat) : (s.modLc n f).core e = s.core e := rfl
@[simp] theorem modLc_ctx (s : State) (n : Nat) (f : Lc → Lc) (e : Nat) : (s.modLc n f).ctx e = s.ctx e := rfl
@[simp] theorem modLc_ticket (s : State) (n : Nat) (f : Lc → Lc) (e : Nat) : (s.modLc n f).ticket e = s.ticket e := rfl
@[simp] theorem modLc_port (s : State) (n : Nat) (f : Lc → Lc) (e : Nat) : (s.modLc n f).port e = s.port e := rfl
@[simp] theorem modLc_counter (s : State) (n : Nat) (f : Lc → Lc) (e : Nat) : (s.modLc n f).counter e = s.counter e := rfl
@[simp] theorem modLc_session (s : State) (n : Nat) (f : Lc → Lc) (e : Nat) : (s.modLc n f).session e = s.session e := rfl
@[simp] theorem modLc_vat (s : State) (n : Nat) (f : Lc → Lc) (h : Hub) : (s.modLc n f).vat h = s.vat h := by cases h <;> rfl
@[simp] theorem modCtx_pending (s : State) (c : Nat) (f : Ctx → Ctx) : (s.modCtx c f).pending = s.pending := rfl
@[simp] theorem modCtx_out (s : State) (c : Nat) (f : Ctx → Ctx) : (s.modCtx c f).out = s.out := rfl
@[simp] theorem modCtx_fresh (s : State) (c : Nat) (f : Ctx → Ctx) : (s.modCtx c f).fresh = s.fresh := rfl
@[simp] theorem modCtx_reel (s : State) (c : Nat) (f : Ctx → Ctx) : (s.modCtx c f).reel = s.reel := rfl
@[simp] theorem modCtx_pkg (s : State) (c : Nat) (f : Ctx → Ctx) : (s.modCtx c f).pkg = s.pkg := rfl
@[simp] theorem modCtx_vatA (s : State) (c : Nat) (f : Ctx → Ctx) : (s.modCtx c f).vatA = s.vatA := rfl
@[simp] theorem modCtx_vatB (s : State) (c : Nat) (f : Ctx → Ctx) : (s.modCtx c f).vatB = s.vatB := rfl
@[simp] theorem modCtx_dbg (s : State) (c : Nat) (f : Ctx → Ctx) : (s.modCtx c f).dbg = s.dbg := rfl
@[simp] theorem modCtx_dies (s : State) (c : Nat) (f : Ctx → Ctx) : (s.modCtx c f).dies = s.dies := rfl
@[simp] theorem modCtx_cores (s : State) (c : Nat) (f : Ctx → Ctx) : (s.modCtx c f).cores = s.cores := rfl
@[simp] theorem modCtx_lcs (s : State) (c : Nat) (f : Ctx → Ctx) : (s.modCtx c f).lcs = s.lcs := rfl
@[simp] theorem modCtx_felt (s : State) (c : Nat) (f : Ctx → Ctx) : (s.modCtx c f).felt = s.felt := rfl
@[simp] theorem modCtx_die (s : State) (c : Nat) (f : Ctx → Ctx) (e : Nat) : (s.modCtx c f).die e = s.die e := rfl
@[simp] theorem modCtx_core (s : State) (c : Nat) (f : Ctx → Ctx) (e : Nat) : (s.modCtx c f).core e = s.core e := rfl
@[simp] theorem modCtx_lc (s : State) (c : Nat) (f : Ctx → Ctx) (e : Nat) : (s.modCtx c f).lc e = s.lc e := rfl
@[simp] theorem modCtx_port (s : State) (c : Nat) (f : Ctx → Ctx) (e : Nat) : (s.modCtx c f).port e = s.port e := rfl
@[simp] theorem modCtx_vat (s : State) (c : Nat) (f : Ctx → Ctx) (h : Hub) : (s.modCtx c f).vat h = s.vat h := by cases h <;> rfl
@[simp] theorem modTicket_pending (s : State) (k : Nat) (f : Ticket → Ticket) : (s.modTicket k f).pending = s.pending := rfl
@[simp] theorem modTicket_out (s : State) (k : Nat) (f : Ticket → Ticket) : (s.modTicket k f).out = s.out := rfl
@[simp] theorem modTicket_fresh (s : State) (k : Nat) (f : Ticket → Ticket) : (s.modTicket k f).fresh = s.fresh := rfl
@[simp] theorem modTicket_reel (s : State) (k : Nat) (f : Ticket → Ticket) : (s.modTicket k f).reel = s.reel := rfl
@[simp] theorem modTicket_pkg (s : State) (k : Nat) (f : Ticket → Ticket) : (s.modTicket k f).pkg = s.pkg := rfl
@[simp] theorem modTicket_vatA (s : State) (k : Nat) (f : Ticket → Ticket) : (s.modTicket k f).vatA = s.vatA := rfl
@[simp] theorem modTicket_vatB (s : State) (k : Nat) (f : Ticket → Ticket) : (s.modTicket k f).vatB = s.vatB := rfl
@[simp] theorem modTicket_dbg (s : State) (k : Nat) (f : Ticket → Ticket) : (s.modTicket k f).dbg = s.dbg := rfl
@[simp] theorem modTicket_dies (s : State) (k : Nat) (f : Ticket → Ticket) : (s.modTicket k f).dies = s.dies := rfl
@[simp] theorem modTicket_cores (s : State) (k : Nat) (f : Ticket → Ticket) : (s.modTicket k f).cores = s.cores := rfl
@[simp] theorem modTicket_lcs (s : State) (k : Nat) (f : Ticket → Ticket) : (s.modTicket k f).lcs = s.lcs := rfl
@[simp] theorem modTicket_felt (s : State) (k : Nat) (f : Ticket → Ticket) : (s.modTicket k f).felt = s.felt := rfl
@[simp] theorem modTicket_die (s : State) (k : Nat) (f : Ticket → Ticket) (e : Nat) : (s.modTicket k f).die e = s.die e := rfl
@[simp] theorem modTicket_core (s : State) (k : Nat) (f : Ticket → Ticket) (e : Nat) : (s.modTicket k f).core e = s.core e := rfl
@[simp] theorem modTicket_lc (s : State) (k : Nat) (f : Ticket → Ticket) (e : Nat) : (s.modTicket k f).lc e = s.lc e := rfl
@[simp] theorem modTicket_port (s : State) (k : Nat) (f : Ticket → Ticket) (e : Nat) : (s.modTicket k f).port e = s.port e := rfl
@[simp] theorem modTicket_vat (s : State) (k : Nat) (f : Ticket → Ticket) (h : Hub) : (s.modTicket k f).vat h = s.vat h := by cases h <;> rfl
@[simp] theorem modPort_pending (s : State) (k : Nat) (f : Port → Port) : (s.modPort k f).pending = s.pending := rfl
@[simp] theorem modPort_out (s : State) (k : Nat) (f : Port → Port) : (s.modPort k f).out = s.out := rfl
@[simp] theorem modPort_fresh (s : State) (k : Nat) (f : Port → Port) : (s.modPort k f).fresh = s.fresh := rfl
@[simp] theorem modPort_reel (s : State) (k : Nat) (f : Port → Port) : (s.modPort k f).reel = s.reel := rfl
@[simp] theorem modPort_pkg (s : State) (k : Nat) (f : Port → Port) : (s.modPort k f).pkg = s.pkg := rfl
@[simp] theorem modPort_vatA (s : State) (k : Nat) (f : Port → Port) : (s.modPort k f).vatA = s.vatA := rfl
@[simp] theorem modPort_vatB (s : State) (k : Nat) (f : Port → Port) : (s.modPort k f).vatB = s.vatB := rfl
@[simp] theorem modPort_sh (s : State) (k : Nat) (f : Port → Port) : (s.modPort k f).sh = s.sh := rfl
@[simp] theorem modPort_dbg (s : State) (k : Nat) (f : Port → Port) : (s.modPort k f).dbg = s.dbg := rfl
@[simp] theorem modPort_dies (s : State) (k : Nat) (f : Port → Port) : (s.modPort k f).dies = s.dies := rfl
@[simp] theorem modPort_cores (s : State) (k : Nat) (f : Port → Port) : (s.modPort k f).cores = s.cores := rfl
@[simp] theorem modPort_lcs (s : State) (k : Nat) (f : Port → Port) : (s.modPort k f).lcs = s.lcs := rfl
@[simp] theorem modPort_die (s : State) (k : Nat) (f : Port → Port) (e : Nat) : (s.modPort k f).die e = s.die e := rfl
@[simp] theorem modPort_core (s : State) (k : Nat) (f : Port → Port) (e : Nat) : (s.modPort k f).core e = s.core e := rfl
@[simp] theorem modPort_lc (s : State) (k : Nat) (f : Port → Port) (e : Nat) : (s.modPort k f).lc e = s.lc e := rfl
@[simp] theorem modPort_ctx (s : State) (k : Nat) (f : Port → Port) (e : Nat) : (s.modPort k f).ctx e = s.ctx e := rfl
@[simp] theorem modPort_ticket (s : State) (k : Nat) (f : Port → Port) (e : Nat) : (s.modPort k f).ticket e = s.ticket e := rfl
@[simp] theorem modPort_counter (s : State) (k : Nat) (f : Port → Port) (e : Nat) : (s.modPort k f).counter e = s.counter e := rfl
@[simp] theorem modPort_session (s : State) (k : Nat) (f : Port → Port) (e : Nat) : (s.modPort k f).session e = s.session e := rfl
@[simp] theorem modPort_vat (s : State) (k : Nat) (f : Port → Port) (h : Hub) : (s.modPort k f).vat h = s.vat h := by cases h <;> rfl
@[simp] theorem emit_pending (s : State) (o : Out) : (s.emit o).pending = s.pending := rfl
@[simp] theorem emit_out (s : State) (o : Out) : (s.emit o).out = o :: s.out := rfl
@[simp] theorem emit_fresh (s : State) (o : Out) : (s.emit o).fresh = s.fresh := rfl
@[simp] theorem emit_reel (s : State) (o : Out) : (s.emit o).reel = s.reel := rfl
@[simp] theorem emit_pkg (s : State) (o : Out) : (s.emit o).pkg = s.pkg := rfl
@[simp] theorem emit_vatA (s : State) (o : Out) : (s.emit o).vatA = s.vatA := rfl
@[simp] theorem emit_vatB (s : State) (o : Out) : (s.emit o).vatB = s.vatB := rfl
@[simp] theorem emit_sh (s : State) (o : Out) : (s.emit o).sh = s.sh := rfl
@[simp] theorem emit_dbg (s : State) (o : Out) : (s.emit o).dbg = s.dbg := rfl
@[simp] theorem emit_dies (s : State) (o : Out) : (s.emit o).dies = s.dies := rfl
@[simp] theorem emit_cores (s : State) (o : Out) : (s.emit o).cores = s.cores := rfl
@[simp] theorem emit_lcs (s : State) (o : Out) : (s.emit o).lcs = s.lcs := rfl
@[simp] theorem emit_felt (s : State) (o : Out) : (s.emit o).felt = s.felt := rfl
@[simp] theorem emit_die (s : State) (o : Out) (e : Nat) : (s.emit o).die e = s.die e := rfl
@[simp] theorem emit_core (s : State) (o : Out) (e : Nat) : (s.emit o).core e = s.core e := rfl
@[simp] theorem emit_lc (s : State) (o : Out) (e : Nat) : (s.emit o).lc e = s.lc e := rfl
@[simp] theorem emit_ctx (s : State) (o : Out) (e : Nat) : (s.emit o).ctx e = s.ctx e := rfl
@[simp] theorem emit_ticket (s : State) (o : Out) (e : Nat) : (s.emit o).ticket e = s.ticket e := rfl
@[simp] theorem emit_port (s : State) (o : Out) (e : Nat) : (s.emit o).port e = s.port e := rfl
@[simp] theorem emit_counter (s : State) (o : Out) (e : Nat) : (s.emit o).counter e = s.counter e := rfl
@[simp] theorem emit_session (s : State) (o : Out) (e : Nat) : (s.emit o).session e = s.session e := rfl
@[simp] theorem emit_vat (s : State) (o : Out) (h : Hub) : (s.emit o).vat h = s.vat h := by cases h <;> rfl
@[simp] theorem modVat_pending (s : State) (h : Hub) (f : Vat → Vat) : (s.modVat h f).pending = s.pending := by cases h <;> rfl
@[simp] theorem modVat_out (s : State) (h : Hub) (f : Vat → Vat) : (s.modVat h f).out = s.out := by cases h <;> rfl
@[simp] theorem modVat_fresh (s : State) (h : Hub) (f : Vat → Vat) : (s.modVat h f).fresh = s.fresh := by cases h <;> rfl
@[simp] theorem modVat_reel (s : State) (h : Hub) (f : Vat → Vat) : (s.modVat h f).reel = s.reel := by cases h <;> rfl
@[simp] theorem modVat_pkg (s : State) (h : Hub) (f : Vat → Vat) : (s.modVat h f).pkg = s.pkg := by cases h <;> rfl
@[simp] theorem modVat_sh (s : State) (h : Hub) (f : Vat → Vat) : (s.modVat h f).sh = s.sh := by cases h <;> rfl
@[simp] theorem modVat_dbg (s : State) (h : Hub) (f : Vat → Vat) : (s.modVat h f).dbg = s.dbg := by cases h <;> rfl
@[simp] theorem modVat_dies (s : State) (h : Hub) (f : Vat → Vat) : (s.modVat h f).dies = s.dies := by cases h <;> rfl
@[simp] theorem modVat_cores (s : State) (h : Hub) (f : Vat → Vat) : (s.modVat h f).cores = s.cores := by cases h <;> rfl
@[simp] theorem modVat_lcs (s : State) (h : Hub) (f : Vat → Vat) : (s.modVat h f).lcs = s.lcs := by cases h <;> rfl
@[simp] theorem modVat_felt (s : State) (h : Hub) (f : Vat → Vat) : (s.modVat h f).felt = s.felt := by cases h <;> rfl
@[simp] theorem modVat_die (s : State) (h : Hub) (f : Vat → Vat) (e : Nat) : (s.modVat h f).die e = s.die e := by cases h <;> rfl
@[simp] theorem modVat_core (s : State) (h : Hub) (f : Vat → Vat) (e : Nat) : (s.modVat h f).core e = s.core e := by cases h <;> rfl
@[simp] theorem modVat_lc (s : State) (h : Hub) (f : Vat → Vat) (e : Nat) : (s.modVat h f).lc e = s.lc e := by cases h <;> rfl
@[simp] theorem modVat_ctx (s : State) (h : Hub) (f : Vat → Vat) (e : Nat) : (s.modVat h f).ctx e = s.ctx e := by cases h <;> rfl
@[simp] theorem modVat_ticket (s : State) (h : Hub) (f : Vat → Vat) (e : Nat) : (s.modVat h f).ticket e = s.ticket e := by cases h <;> rfl
@[simp] theorem modVat_port (s : State) (h : Hub) (f : Vat → Vat) (e : Nat) : (s.modVat h f).port e = s.port e := by cases h <;> rfl
@[simp] theorem modVat_counter (s : State) (h : Hub) (f : Vat → Vat) (e : Nat) : (s.modVat h f).counter e = s.counter e := by cases h <;> rfl
@[simp] theorem modVat_session (s : State) (h : Hub) (f : Vat → Vat) (e : Nat) : (s.modVat h f).session e = s.session e := by cases h <;> rfl
@[simp] theorem modVat_vat (s : State) (h g : Hub) (f : Vat → Vat) : (s.modVat h f).vat g = if g = h then f (s.vat h) else s.vat g := by
  cases h <;> cases g <;> rfl
@[simp] theorem modDie_die (s : State) (d : Nat) (f : Die → Die) (e : Nat) : (s.modDie d f).die e = if e = d then f (s.die d) else s.die e := by
  simp [State.modDie, State.die]
@[simp] theorem modCore_core (s : State) (d : Nat) (f : Core → Core) (e : Nat) : (s.modCore d f).core e = if e = d then f (s.core d) else s.core e := by
  simp [State.modCore, State.core]
@[simp] theorem modLc_lc (s : State) (d : Nat) (f : Lc → Lc) (e : Nat) : (s.modLc d f).lc e = if e = d then f (s.lc d) else s.lc e := by
  simp [State.modLc, State.lc]
@[simp] theorem modCtx_ctx (s : State) (d : Nat) (f : Ctx → Ctx) (e : Nat) : (s.modCtx d f).ctx e = if e = d then f (s.ctx d) else s.ctx e := by
  simp [State.modCtx, State.ctx, State.modSh]
@[simp] theorem modTicket_ticket (s : State) (d : Nat) (f : Ticket → Ticket) (e : Nat) : (s.modTicket d f).ticket e = if e = d then f (s.ticket d) else s.ticket e := by
  simp [State.modTicket, State.ticket, State.modSh]
@[simp] theorem modPort_port (s : State) (d : Nat) (f : Port → Port) (e : Nat) : (s.modPort d f).port e = if e = d then f (s.port d) else s.port e := by
  simp [State.modPort, State.port, State.modFelt]
@[simp] theorem draw_pending (s : State) : s.draw.2.pending = s.pending := rfl
@[simp] theorem draw_out (s : State) : s.draw.2.out = s.out := rfl
@[simp] theorem draw_fresh (s : State) : s.draw.2.fresh = s.fresh + 1 := rfl
@[simp] theorem draw_reel (s : State) : s.draw.2.reel = s.reel := rfl
@[simp] theorem draw_pkg (s : State) : s.draw.2.pkg = s.pkg := rfl
@[simp] theorem draw_vatA (s : State) : s.draw.2.vatA = s.vatA := rfl
@[simp] theorem draw_vatB (s : State) : s.draw.2.vatB = s.vatB := rfl
@[simp] theorem draw_sh (s : State) : s.draw.2.sh = s.sh := rfl
@[simp] theorem draw_dbg (s : State) : s.draw.2.dbg = s.dbg := rfl
@[simp] theorem draw_dies (s : State) : s.draw.2.dies = s.dies := rfl
@[simp] theorem draw_cores (s : State) : s.draw.2.cores = s.cores := rfl
@[simp] theorem draw_lcs (s : State) : s.draw.2.lcs = s.lcs := rfl
@[simp] theorem draw_felt (s : State) : s.draw.2.felt = s.felt := rfl
@[simp] theorem modCtx_sh_tickets (s : State) (c : Nat) (f : Ctx → Ctx) : (s.modCtx c f).sh.tickets = s.sh.tickets := rfl
@[simp] theorem modCtx_sh_pool (s : State) (c : Nat) (f : Ctx → Ctx) : (s.modCtx c f).sh.pool = s.sh.pool := rfl
@[simp] theorem modTicket_sh_pool (s : State) (k : Nat) (f : Ticket → Ticket) : (s.modTicket k f).sh.pool = s.sh.pool := rfl
@[simp] theorem modCtx_sh_poolWait (s : State) (c : Nat) (f : Ctx → Ctx) : (s.modCtx c f).sh.poolWait = s.sh.poolWait := rfl
@[simp] theorem modTicket_sh_poolWait (s : State) (k : Nat) (f : Ticket → Ticket) : (s.modTicket k f).sh.poolWait = s.sh.poolWait := rfl
@[simp] theorem modCtx_sh_counters (s : State) (c : Nat) (f : Ctx → Ctx) : (s.modCtx c f).sh.counters = s.sh.counters := rfl
@[simp] theorem modTicket_sh_counters (s : State) (k : Nat) (f : Ticket → Ticket) : (s.modTicket k f).sh.counters = s.sh.counters := rfl
@[simp] theorem modCtx_sh_coreRung (s : State) (c : Nat) (f : Ctx → Ctx) : (s.modCtx c f).sh.coreRung = s.sh.coreRung := rfl
@[simp] theorem modTicket_sh_coreRung (s : State) (k : Nat) (f : Ticket → Ticket) : (s.modTicket k f).sh.coreRung = s.sh.coreRung := rfl
@[simp] theorem modCtx_sh_classCfg (s : State) (c : Nat) (f : Ctx → Ctx) : (s.modCtx c f).sh.classCfg = s.sh.classCfg := rfl
@[simp] theorem modTicket_sh_classCfg (s : State) (k : Nat) (f : Ticket → Ticket) : (s.modTicket k f).sh.classCfg = s.sh.classCfg := rfl
@[simp] theorem modCtx_sh_ladderCfg (s : State) (c : Nat) (f : Ctx → Ctx) : (s.modCtx c f).sh.ladderCfg = s.sh.ladderCfg := rfl
@[simp] theorem modTicket_sh_ladderCfg (s : State) (k : Nat) (f : Ticket → Ticket) : (s.modTicket k f).sh.ladderCfg = s.sh.ladderCfg := rfl
@[simp] theorem modCtx_sh_pins (s : State) (c : Nat) (f : Ctx → Ctx) : (s.modCtx c f).sh.pins = s.sh.pins := rfl
@[simp] theorem modTicket_sh_pins (s : State) (k : Nat) (f : Ticket → Ticket) : (s.modTicket k f).sh.pins = s.sh.pins := rfl
@[simp] theorem modCtx_sh_pendingList (s : State) (c : Nat) (f : Ctx → Ctx) : (s.modCtx c f).sh.pendingList = s.sh.pendingList := rfl
@[simp] theorem modTicket_sh_pendingList (s : State) (k : Nat) (f : Ticket → Ticket) : (s.modTicket k f).sh.pendingList = s.sh.pendingList := rfl
@[simp] theorem modCtx_sh_intNew (s : State) (c : Nat) (f : Ctx → Ctx) : (s.modCtx c f).sh.intNew = s.sh.intNew := rfl
@[simp] theorem modTicket_sh_intNew (s : State) (k : Nat) (f : Ticket → Ticket) : (s.modTicket k f).sh.intNew = s.sh.intNew := rfl
@[simp] theorem modCtx_sh_intAt (s : State) (c : Nat) (f : Ctx → Ctx) : (s.modCtx c f).sh.intAt = s.sh.intAt := rfl
@[simp] theorem modTicket_sh_intAt (s : State) (k : Nat) (f : Ticket → Ticket) : (s.modTicket k f).sh.intAt = s.sh.intAt := rfl
@[simp] theorem modCtx_sh_msiWait (s : State) (c : Nat) (f : Ctx → Ctx) : (s.modCtx c f).sh.msiWait = s.sh.msiWait := rfl
@[simp] theorem modTicket_sh_msiWait (s : State) (k : Nat) (f : Ticket → Ticket) : (s.modTicket k f).sh.msiWait = s.sh.msiWait := rfl
@[simp] theorem modTicket_sh_ctxs (s : State) (k : Nat) (f : Ticket → Ticket) : (s.modTicket k f).sh.ctxs = s.sh.ctxs := rfl
@[simp] theorem modCtx_sh_sessions (s : State) (c : Nat) (f : Ctx → Ctx) : (s.modCtx c f).sh.sessions = s.sh.sessions := rfl
@[simp] theorem modTicket_sh_sessions (s : State) (k : Nat) (f : Ticket → Ticket) : (s.modTicket k f).sh.sessions = s.sh.sessions := rfl
@[simp] theorem modCtx_sh_slots (s : State) (c : Nat) (f : Ctx → Ctx) : (s.modCtx c f).sh.slots = s.sh.slots := rfl
@[simp] theorem modTicket_sh_slots (s : State) (k : Nat) (f : Ticket → Ticket) : (s.modTicket k f).sh.slots = s.sh.slots := rfl
@[simp] theorem modCtx_sh_runs (s : State) (c : Nat) (f : Ctx → Ctx) : (s.modCtx c f).sh.runs = s.sh.runs := rfl
@[simp] theorem modTicket_sh_runs (s : State) (k : Nat) (f : Ticket → Ticket) : (s.modTicket k f).sh.runs = s.sh.runs := rfl
@[simp] theorem modCtx_sh_retained (s : State) (c : Nat) (f : Ctx → Ctx) : (s.modCtx c f).sh.retained = s.sh.retained := rfl
@[simp] theorem modTicket_sh_retained (s : State) (k : Nat) (f : Ticket → Ticket) : (s.modTicket k f).sh.retained = s.sh.retained := rfl
@[simp] theorem modCtx_sh_aptDone (s : State) (c : Nat) (f : Ctx → Ctx) : (s.modCtx c f).sh.aptDone = s.sh.aptDone := rfl
@[simp] theorem modTicket_sh_aptDone (s : State) (k : Nat) (f : Ticket → Ticket) : (s.modTicket k f).sh.aptDone = s.sh.aptDone := rfl
@[simp] theorem modCtx_sh_aptDrop (s : State) (c : Nat) (f : Ctx → Ctx) : (s.modCtx c f).sh.aptDrop = s.sh.aptDrop := rfl
@[simp] theorem modTicket_sh_aptDrop (s : State) (k : Nat) (f : Ticket → Ticket) : (s.modTicket k f).sh.aptDrop = s.sh.aptDrop := rfl
@[simp] theorem modCtx_sh_replAgree (s : State) (c : Nat) (f : Ctx → Ctx) : (s.modCtx c f).sh.replAgree = s.sh.replAgree := rfl
@[simp] theorem modTicket_sh_replAgree (s : State) (k : Nat) (f : Ticket → Ticket) : (s.modTicket k f).sh.replAgree = s.sh.replAgree := rfl
@[simp] theorem modCtx_sh_readyPosted (s : State) (c : Nat) (f : Ctx → Ctx) : (s.modCtx c f).sh.readyPosted = s.sh.readyPosted := rfl
@[simp] theorem modTicket_sh_readyPosted (s : State) (k : Nat) (f : Ticket → Ticket) : (s.modTicket k f).sh.readyPosted = s.sh.readyPosted := rfl
@[simp] theorem modCtx_sh_msiCtl (s : State) (c : Nat) (f : Ctx → Ctx) : (s.modCtx c f).sh.msiCtl = s.sh.msiCtl := rfl
@[simp] theorem modTicket_sh_msiCtl (s : State) (k : Nat) (f : Ticket → Ticket) : (s.modTicket k f).sh.msiCtl = s.sh.msiCtl := rfl
@[simp] theorem modCtx_sh_msiAddr (s : State) (c : Nat) (f : Ctx → Ctx) : (s.modCtx c f).sh.msiAddr = s.sh.msiAddr := rfl
@[simp] theorem modTicket_sh_msiAddr (s : State) (k : Nat) (f : Ticket → Ticket) : (s.modTicket k f).sh.msiAddr = s.sh.msiAddr := rfl
@[simp] theorem modCtx_sh_msiFault (s : State) (c : Nat) (f : Ctx → Ctx) : (s.modCtx c f).sh.msiFault = s.sh.msiFault := rfl
@[simp] theorem modTicket_sh_msiFault (s : State) (k : Nat) (f : Ticket → Ticket) : (s.modTicket k f).sh.msiFault = s.sh.msiFault := rfl
@[simp] theorem modCtx_sh_msiCmd (s : State) (c : Nat) (f : Ctx → Ctx) : (s.modCtx c f).sh.msiCmd = s.sh.msiCmd := rfl
@[simp] theorem modTicket_sh_msiCmd (s : State) (k : Nat) (f : Ticket → Ticket) : (s.modTicket k f).sh.msiCmd = s.sh.msiCmd := rfl
@[simp] theorem modCtx_sh_msiReady (s : State) (c : Nat) (f : Ctx → Ctx) : (s.modCtx c f).sh.msiReady = s.sh.msiReady := rfl
@[simp] theorem modTicket_sh_msiReady (s : State) (k : Nat) (f : Ticket → Ticket) : (s.modTicket k f).sh.msiReady = s.sh.msiReady := rfl
@[simp] theorem modCtx_sh_recSeq (s : State) (c : Nat) (f : Ctx → Ctx) : (s.modCtx c f).sh.recSeq = s.sh.recSeq := rfl
@[simp] theorem modTicket_sh_recSeq (s : State) (k : Nat) (f : Ticket → Ticket) : (s.modTicket k f).sh.recSeq = s.sh.recSeq := rfl
@[simp] theorem modCtx_sh_headFull (s : State) (c : Nat) (f : Ctx → Ctx) : (s.modCtx c f).sh.headFull = s.sh.headFull := rfl
@[simp] theorem modTicket_sh_headFull (s : State) (k : Nat) (f : Ticket → Ticket) : (s.modTicket k f).sh.headFull = s.sh.headFull := rfl
@[simp] theorem modCtx_sh_noteNext (s : State) (c : Nat) (f : Ctx → Ctx) : (s.modCtx c f).sh.noteNext = s.sh.noteNext := rfl
@[simp] theorem modTicket_sh_noteNext (s : State) (k : Nat) (f : Ticket → Ticket) : (s.modTicket k f).sh.noteNext = s.sh.noteNext := rfl
@[simp] theorem modCtx_sh_mgmtQ (s : State) (c : Nat) (f : Ctx → Ctx) : (s.modCtx c f).sh.mgmtQ = s.sh.mgmtQ := rfl
@[simp] theorem modTicket_sh_mgmtQ (s : State) (k : Nat) (f : Ticket → Ticket) : (s.modTicket k f).sh.mgmtQ = s.sh.mgmtQ := rfl
@[simp] theorem modCtx_sh_i3cQ (s : State) (c : Nat) (f : Ctx → Ctx) : (s.modCtx c f).sh.i3cQ = s.sh.i3cQ := rfl
@[simp] theorem modTicket_sh_i3cQ (s : State) (k : Nat) (f : Ticket → Ticket) : (s.modTicket k f).sh.i3cQ = s.sh.i3cQ := rfl
@[simp] theorem modCtx_sh_mgmtLost (s : State) (c : Nat) (f : Ctx → Ctx) : (s.modCtx c f).sh.mgmtLost = s.sh.mgmtLost := rfl
@[simp] theorem modTicket_sh_mgmtLost (s : State) (k : Nat) (f : Ticket → Ticket) : (s.modTicket k f).sh.mgmtLost = s.sh.mgmtLost := rfl
@[simp] theorem modCtx_sh_i3cLost (s : State) (c : Nat) (f : Ctx → Ctx) : (s.modCtx c f).sh.i3cLost = s.sh.i3cLost := rfl
@[simp] theorem modTicket_sh_i3cLost (s : State) (k : Nat) (f : Ticket → Ticket) : (s.modTicket k f).sh.i3cLost = s.sh.i3cLost := rfl
@[simp] theorem modCtx_sh_pacing (s : State) (c : Nat) (f : Ctx → Ctx) : (s.modCtx c f).sh.pacing = s.sh.pacing := rfl
@[simp] theorem modTicket_sh_pacing (s : State) (k : Nat) (f : Ticket → Ticket) : (s.modTicket k f).sh.pacing = s.sh.pacing := rfl
@[simp] theorem modCtx_sh_wmLog (s : State) (c : Nat) (f : Ctx → Ctx) : (s.modCtx c f).sh.wmLog = s.sh.wmLog := rfl
@[simp] theorem modTicket_sh_wmLog (s : State) (k : Nat) (f : Ticket → Ticket) : (s.modTicket k f).sh.wmLog = s.sh.wmLog := rfl
@[simp] theorem modCtx_sh_verifying (s : State) (c : Nat) (f : Ctx → Ctx) : (s.modCtx c f).sh.verifying = s.sh.verifying := rfl
@[simp] theorem modTicket_sh_verifying (s : State) (k : Nat) (f : Ticket → Ticket) : (s.modTicket k f).sh.verifying = s.sh.verifying := rfl
@[simp] theorem modCtx_sh_triages (s : State) (c : Nat) (f : Ctx → Ctx) : (s.modCtx c f).sh.triages = s.sh.triages := rfl
@[simp] theorem modTicket_sh_triages (s : State) (k : Nat) (f : Ticket → Ticket) : (s.modTicket k f).sh.triages = s.sh.triages := rfl
@[simp] theorem modCtx_sh_triageQ (s : State) (c : Nat) (f : Ctx → Ctx) : (s.modCtx c f).sh.triageQ = s.sh.triageQ := rfl
@[simp] theorem modTicket_sh_triageQ (s : State) (k : Nat) (f : Ticket → Ticket) : (s.modTicket k f).sh.triageQ = s.sh.triageQ := rfl
@[simp] theorem modCtx_sh_replaces (s : State) (c : Nat) (f : Ctx → Ctx) : (s.modCtx c f).sh.replaces = s.sh.replaces := rfl
@[simp] theorem modTicket_sh_replaces (s : State) (k : Nat) (f : Ticket → Ticket) : (s.modTicket k f).sh.replaces = s.sh.replaces := rfl
@[simp] theorem modCtx_sh_unplaced (s : State) (c : Nat) (f : Ctx → Ctx) : (s.modCtx c f).sh.unplaced = s.sh.unplaced := rfl
@[simp] theorem modTicket_sh_unplaced (s : State) (k : Nat) (f : Ticket → Ticket) : (s.modTicket k f).sh.unplaced = s.sh.unplaced := rfl
@[simp] theorem modCtx_sh_pairs (s : State) (c : Nat) (f : Ctx → Ctx) : (s.modCtx c f).sh.pairs = s.sh.pairs := rfl
@[simp] theorem modTicket_sh_pairs (s : State) (k : Nat) (f : Ticket → Ticket) : (s.modTicket k f).sh.pairs = s.sh.pairs := rfl
@[simp] theorem modCtx_sh_groups (s : State) (c : Nat) (f : Ctx → Ctx) : (s.modCtx c f).sh.groups = s.sh.groups := rfl
@[simp] theorem modTicket_sh_groups (s : State) (k : Nat) (f : Ticket → Ticket) : (s.modTicket k f).sh.groups = s.sh.groups := rfl
@[simp] theorem modCtx_sh_deckleCopy (s : State) (c : Nat) (f : Ctx → Ctx) : (s.modCtx c f).sh.deckleCopy = s.sh.deckleCopy := rfl
@[simp] theorem modTicket_sh_deckleCopy (s : State) (k : Nat) (f : Ticket → Ticket) : (s.modTicket k f).sh.deckleCopy = s.sh.deckleCopy := rfl
@[simp] theorem modCtx_sh_intervals (s : State) (c : Nat) (f : Ctx → Ctx) : (s.modCtx c f).sh.intervals = s.sh.intervals := rfl
@[simp] theorem modTicket_sh_intervals (s : State) (k : Nat) (f : Ticket → Ticket) : (s.modTicket k f).sh.intervals = s.sh.intervals := rfl
@[simp] theorem modCtx_sh_mirrorSeq (s : State) (c : Nat) (f : Ctx → Ctx) : (s.modCtx c f).sh.mirrorSeq = s.sh.mirrorSeq := rfl
@[simp] theorem modTicket_sh_mirrorSeq (s : State) (k : Nat) (f : Ticket → Ticket) : (s.modTicket k f).sh.mirrorSeq = s.sh.mirrorSeq := rfl
@[simp] theorem modCtx_sh_riskThresh (s : State) (c : Nat) (f : Ctx → Ctx) : (s.modCtx c f).sh.riskThresh = s.sh.riskThresh := rfl
@[simp] theorem modTicket_sh_riskThresh (s : State) (k : Nat) (f : Ticket → Ticket) : (s.modTicket k f).sh.riskThresh = s.sh.riskThresh := rfl
@[simp] theorem modCtx_sh_lastSwitch (s : State) (c : Nat) (f : Ctx → Ctx) : (s.modCtx c f).sh.lastSwitch = s.sh.lastSwitch := rfl
@[simp] theorem modTicket_sh_lastSwitch (s : State) (k : Nat) (f : Ticket → Ticket) : (s.modTicket k f).sh.lastSwitch = s.sh.lastSwitch := rfl
@[simp] theorem modCtx_sh_portHeld (s : State) (c : Nat) (f : Ctx → Ctx) : (s.modCtx c f).sh.portHeld = s.sh.portHeld := rfl
@[simp] theorem modTicket_sh_portHeld (s : State) (k : Nat) (f : Ticket → Ticket) : (s.modTicket k f).sh.portHeld = s.sh.portHeld := rfl
@[simp] theorem modCtx_sh_heldRecs (s : State) (c : Nat) (f : Ctx → Ctx) : (s.modCtx c f).sh.heldRecs = s.sh.heldRecs := rfl
@[simp] theorem modTicket_sh_heldRecs (s : State) (k : Nat) (f : Ticket → Ticket) : (s.modTicket k f).sh.heldRecs = s.sh.heldRecs := rfl
@[simp] theorem modCtx_sh_fwds (s : State) (c : Nat) (f : Ctx → Ctx) : (s.modCtx c f).sh.fwds = s.sh.fwds := rfl
@[simp] theorem modTicket_sh_fwds (s : State) (k : Nat) (f : Ticket → Ticket) : (s.modTicket k f).sh.fwds = s.sh.fwds := rfl
@[simp] theorem modCtx_sh_gap (s : State) (c : Nat) (f : Ctx → Ctx) : (s.modCtx c f).sh.gap = s.sh.gap := rfl
@[simp] theorem modTicket_sh_gap (s : State) (k : Nat) (f : Ticket → Ticket) : (s.modTicket k f).sh.gap = s.sh.gap := rfl
@[simp] theorem modCtx_sh_noStandby (s : State) (c : Nat) (f : Ctx → Ctx) : (s.modCtx c f).sh.noStandby = s.sh.noStandby := rfl
@[simp] theorem modTicket_sh_noStandby (s : State) (k : Nat) (f : Ticket → Ticket) : (s.modTicket k f).sh.noStandby = s.sh.noStandby := rfl
@[simp] theorem modCtx_sh_torty (s : State) (c : Nat) (f : Ctx → Ctx) : (s.modCtx c f).sh.torty = s.sh.torty := rfl
@[simp] theorem modTicket_sh_torty (s : State) (k : Nat) (f : Ticket → Ticket) : (s.modTicket k f).sh.torty = s.sh.torty := rfl
@[simp] theorem modCtx_sh_dists (s : State) (c : Nat) (f : Ctx → Ctx) : (s.modCtx c f).sh.dists = s.sh.dists := rfl
@[simp] theorem modTicket_sh_dists (s : State) (k : Nat) (f : Ticket → Ticket) : (s.modTicket k f).sh.dists = s.sh.dists := rfl
@[simp] theorem modCtx_sh_leases (s : State) (c : Nat) (f : Ctx → Ctx) : (s.modCtx c f).sh.leases = s.sh.leases := rfl
@[simp] theorem modTicket_sh_leases (s : State) (k : Nat) (f : Ticket → Ticket) : (s.modTicket k f).sh.leases = s.sh.leases := rfl
@[simp] theorem modCtx_sh_refusals (s : State) (c : Nat) (f : Ctx → Ctx) : (s.modCtx c f).sh.refusals = s.sh.refusals := rfl
@[simp] theorem modTicket_sh_refusals (s : State) (k : Nat) (f : Ticket → Ticket) : (s.modTicket k f).sh.refusals = s.sh.refusals := rfl
@[simp] theorem modCtx_sh_starved (s : State) (c : Nat) (f : Ctx → Ctx) : (s.modCtx c f).sh.starved = s.sh.starved := rfl
@[simp] theorem modTicket_sh_starved (s : State) (k : Nat) (f : Ticket → Ticket) : (s.modTicket k f).sh.starved = s.sh.starved := rfl
@[simp] theorem modCtx_sh_startupQ (s : State) (c : Nat) (f : Ctx → Ctx) : (s.modCtx c f).sh.startupQ = s.sh.startupQ := rfl
@[simp] theorem modTicket_sh_startupQ (s : State) (k : Nat) (f : Ticket → Ticket) : (s.modTicket k f).sh.startupQ = s.sh.startupQ := rfl
@[simp] theorem modCtx_sh_blackout (s : State) (c : Nat) (f : Ctx → Ctx) : (s.modCtx c f).sh.blackout = s.sh.blackout := rfl
@[simp] theorem modTicket_sh_blackout (s : State) (k : Nat) (f : Ticket → Ticket) : (s.modTicket k f).sh.blackout = s.sh.blackout := rfl
@[simp] theorem modCtx_sh_nearDies (s : State) (c : Nat) (f : Ctx → Ctx) : (s.modCtx c f).sh.nearDies = s.sh.nearDies := rfl
@[simp] theorem modTicket_sh_nearDies (s : State) (k : Nat) (f : Ticket → Ticket) : (s.modTicket k f).sh.nearDies = s.sh.nearDies := rfl
@[simp] theorem modCtx_sh_lanes (s : State) (c : Nat) (f : Ctx → Ctx) : (s.modCtx c f).sh.lanes = s.sh.lanes := rfl
@[simp] theorem modTicket_sh_lanes (s : State) (k : Nat) (f : Ticket → Ticket) : (s.modTicket k f).sh.lanes = s.sh.lanes := rfl
@[simp] theorem modCtx_sh_resets (s : State) (c : Nat) (f : Ctx → Ctx) : (s.modCtx c f).sh.resets = s.sh.resets := rfl
@[simp] theorem modTicket_sh_resets (s : State) (k : Nat) (f : Ticket → Ticket) : (s.modTicket k f).sh.resets = s.sh.resets := rfl
@[simp] theorem modPort_felt_seq (s : State) (k : Nat) (f : Port → Port) : (s.modPort k f).felt.seq = s.felt.seq := rfl
@[simp] theorem modPort_felt_waiting (s : State) (k : Nat) (f : Port → Port) : (s.modPort k f).felt.waiting = s.felt.waiting := rfl
@[simp] theorem modPort_felt_seen (s : State) (k : Nat) (f : Port → Port) : (s.modPort k f).felt.seen = s.felt.seen := rfl
@[simp] theorem modPort_felt_broken (s : State) (k : Nat) (f : Port → Port) : (s.modPort k f).felt.broken = s.felt.broken := rfl
@[simp] theorem modPort_felt_logged (s : State) (k : Nat) (f : Port → Port) : (s.modPort k f).felt.logged = s.felt.logged := rfl
@[simp] theorem modPort_felt_joins (s : State) (k : Nat) (f : Port → Port) : (s.modPort k f).felt.joins = s.felt.joins := rfl
@[simp] theorem modPort_felt_partialTxns (s : State) (k : Nat) (f : Port → Port) : (s.modPort k f).felt.partialTxns = s.felt.partialTxns := rfl
@[simp] theorem modPort_felt_heard (s : State) (k : Nat) (f : Port → Port) : (s.modPort k f).felt.heard = s.felt.heard := rfl

end Sys2Proof.Machine
end

