-- ==== Sys2Proof/Laws/Keeps.lean ====
section
/-! SUPPORT. What no command does: `Keeps` says that the queue is untouched, outputs are only appended, the stores stay canonical and the
factory data stay as they are; with `kp`, the life-cycle state and the enrolled keys stay too. -/

namespace Sys2Proof.Machine

/-- The package's data that no command changes; with `kp`, the life-cycle state, the count of returns and the keys beside them. -/
def factory (kp : Bool) (g : Pkg) :=
  (g.uid, g.vendorKeys, g.factoryBad, g.prefSpare, g.placement, g.gain, g.offset, g.vgain, g.pscale, g.laserRef, g.eyeRef, g.spad, if kp then (g.lifecycle, g.returns, g.keys) else (0, 0, []))
/-- What a command keeps of the state `s` in the state `t`. -/
structure Keeps (kp : Bool) (s t : State) : Prop where
  pending : t.pending = s.pending
  out : ∃ l, t.out = l ++ s.out
  fresh : s.fresh ≤ t.fresh
  factory : factory kp t.pkg = factory kp s.pkg
  dies : twf {} s.dies → twf {} t.dies
  cores : twf {} s.cores → twf {} t.cores
  lcs : twf {} s.lcs → twf {} t.lcs

theorem Keeps.refl (kp : Bool) (s : State) : Keeps kp s s := ⟨rfl, ⟨[], rfl⟩, le_refl _, rfl, id, id, id⟩
variable {kp : Bool} {s0 s : State}
theorem modPkg_keeps (f : Pkg → Pkg) (hf : ∀ g, factory kp (f g) = factory kp g) (h : Keeps kp s0 s) : Keeps kp s0 (s.modPkg f) :=
  { h with factory := (hf _).trans h.factory }
theorem modSh_keeps (f : Shared → Shared) (h : Keeps kp s0 s) : Keeps kp s0 (s.modSh f) := { h with }
theorem modDbg_keeps (f : Debug → Debug) (h : Keeps kp s0 s) : Keeps kp s0 (s.modDbg f) := { h with }
theorem modFelt_keeps (f : Felt → Felt) (h : Keeps kp s0 s) : Keeps kp s0 (s.modFelt f) := { h with }
theorem modVat_keeps (v : Hub) (f : Vat → Vat) (h : Keeps kp s0 s) : Keeps kp s0 (s.modVat v f) := by cases v <;> exact { h with }
theorem modDie_keeps (d : Nat) (f : Die → Die) (h : Keeps kp s0 s) : Keeps kp s0 (s.modDie d f) :=
  { h with dies := fun w => twf_tset _ _ _ _ (h.dies w) }
theorem modCore_keeps (d : Nat) (f : Core → Core) (h : Keeps kp s0 s) : Keeps kp s0 (s.modCore d f) :=
  { h with cores := fun w => twf_tset _ _ _ _ (h.cores w) }
theorem modLc_keeps (d : Nat) (f : Lc → Lc) (h : Keeps kp s0 s) : Keeps kp s0 (s.modLc d f) :=
  { h with lcs := fun w => twf_tset _ _ _ _ (h.lcs w) }
theorem modCtx_keeps (d : Nat) (f : Ctx → Ctx) (h : Keeps kp s0 s) : Keeps kp s0 (s.modCtx d f) := { h with }
theorem modTicket_keeps (d : Nat) (f : Ticket → Ticket) (h : Keeps kp s0 s) : Keeps kp s0 (s.modTicket d f) := { h with }
theorem modPort_keeps (d : Nat) (f : Port → Port) (h : Keeps kp s0 s) : Keeps kp s0 (s.modPort d f) := { h with }
theorem emit_keeps (o : Out) (h : Keeps kp s0 s) : Keeps kp s0 (s.emit o) :=
  { h with out := let ⟨l, e⟩ := h.out; ⟨o :: l, by simp [State.emit, e]⟩ }
theorem draw_keeps (h : Keeps kp s0 s) : Keeps kp s0 s.draw.2 := { h with fresh := Nat.le_succ_of_le h.fresh }
theorem each_keepsS {α : Type} (l : List α) (f : State → α → State) (hf : ∀ t a, Keeps kp s0 t → Keeps kp s0 (f t a)) (h : Keeps kp s0 s) :
    Keeps kp s0 (each l f s) := each_holds (Keeps kp s0) l f s hf h
theorem keepDurable_keeps (h : Keeps kp s0 s) : Keeps kp s0 s.keepDurable := by
  unfold State.keepDurable; split
  · exact h
  · exact modPkg_keeps _ (fun _ => rfl) h
theorem bringUp_keeps (h : Keeps kp s0 s) : Keeps kp s0 s.bringUp := by
  unfold State.bringUp
  exact keepDurable_keeps { h with factory := h.factory, dies := fun _ => rfl, cores := fun _ => rfl, lcs := fun _ => rfl }
theorem duplicate_keeps {t : State} (rq : Req) (op : Nat) (e : s.duplicate rq op = some t) (h : Keeps kp s0 s) : Keeps kp s0 t := by
  unfold State.duplicate at e
  split at e
  · extract_lets k at e
    split at e
    · split at e
      · cases e; exact h
      · cases e
    · cases e
  · split at e
    · cases e; exact emit_keeps _ h
    · split at e
      · cases e; exact emit_keeps _ h
      · cases e
theorem enableDies_keeps (h : Keeps kp s0 s) : Keeps kp s0 s.enableDies := by
  unfold State.enableDies
  apply modPkg_keeps _ _ h
  intro g
  split
  · rfl
  · split
    · split <;> rfl
    · rfl
theorem holdReset_keeps (h : Keeps kp s0 s) : Keeps kp s0 s.holdReset := { bringUp_keeps h with factory := (bringUp_keeps h).factory }
/-- Every next state of an outcome is kept. -/
structure Nexts (kp : Bool) (s0 : State) (o : Host.Outcome State Fault Refusal) : Prop where
  keeps : ∀ t, o = .next t → Keeps kp s0 t
theorem next_nexts {t : State} (h : Keeps kp s0 t) : Nexts kp s0 (.next t) := ⟨by intro u e; cases e; exact h⟩
theorem fault_nexts (f : Fault) : Nexts kp s0 (.fault f) := ⟨by intro u e; cases e⟩
theorem refused_nexts (f : Refusal) : Nexts kp s0 (.refused f) := ⟨by intro u e; cases e⟩
theorem guardId_nexts {t : State} (b : Bool) (h : Keeps kp s0 t) : Nexts kp s0 (guardId b t) := by
  unfold guardId; split
  · exact next_nexts h
  · exact fault_nexts _
theorem startReel0_keeps (h : Keeps kp s0 s) : Keeps kp s0 { s with pkg := { s.pkg with t0 := s.pkg.t0 + s.reel }, reel := 0 } :=
  { h with factory := h.factory }
end Sys2Proof.Machine
end

