-- ==== Sys2Proof/Laws/KeepsParts.lean ====
section
/-! SUPPORT. Each function of the machine keeps what `Keeps` says: the operations of the parts, first half. -/

namespace Sys2Proof.Machine

set_option linter.unusedTactic false
set_option linter.unreachableTactic false
set_option linter.unusedVariables false

variable {kp : Bool} {s0 s : State}

theorem modReplica_keeps (c : Nat) (f : Replica → Replica) (h : Keeps kp s0 s) :
    Keeps kp s0 (s.modReplica c f) := by
  unfold State.modReplica
  repeat' first
    | with_reducible assumption | with_reducible apply modCtx_keeps
theorem abortBarrier_keeps (c : Nat) (h : Keeps kp s0 s) :
    Keeps kp s0 (s.abortBarrier c) := by
  unfold State.abortBarrier
  repeat' first
    | with_reducible assumption | with_reducible apply modReplica_keeps | with_reducible apply emit_keeps
theorem servePort_keeps (n k : Nat) (h : Keeps kp s0 s) : Keeps kp s0 (State.servePort n s k) := by
  induction n generalizing s with
  | zero => exact h | succ k0 ih =>
    unfold State.servePort
    repeat' first
      | with_reducible assumption | with_reducible apply ih | with_reducible apply modPort_keeps | with_reducible apply emit_keeps
      | exact fun _ => rfl | (intro t a ht; beta_reduce) | (intro t ht; beta_reduce)
      | (extract_lets +onlyGivenNames x; refine (fun (hx : Keeps kp s0 x) => ?_ : Keeps kp s0 x → _) ?_; (on_goal 2 => subst x); (on_goal 1 => clear_value x))
      | (extract_lets +onlyGivenNames x; clear_value x)
      | split
theorem serve_keeps (k : Nat) (h : Keeps kp s0 s) :
    Keeps kp s0 (s.serve k) := by
  unfold State.serve
  repeat' first
    | with_reducible assumption | with_reducible apply servePort_keeps
theorem control_keeps (k code data : Nat) (h : Keeps kp s0 s) :
    Keeps kp s0 (s.control k code data) := by
  unfold State.control
  repeat' first
    | with_reducible assumption | with_reducible apply serve_keeps | with_reducible apply modPort_keeps
theorem discardFrames_keeps (d : Nat) (l : List FeltFrame) (h : Keeps kp s0 s) :
    Keeps kp s0 (s.discardFrames d l) := by
  unfold State.discardFrames
  repeat' first
    | with_reducible assumption | exact fun _ => rfl | (intro t a ht; beta_reduce) | (intro t ht; beta_reduce) | with_reducible apply each_keepsS
    | with_reducible apply control_keeps | split
theorem enqueue_keeps (k : Nat) (l : List FeltFrame) (h : Keeps kp s0 s) :
    Keeps kp s0 (s.enqueue k l) := by
  unfold State.enqueue
  repeat' first
    | with_reducible assumption | with_reducible apply discardFrames_keeps | with_reducible apply serve_keeps | with_reducible apply modPort_keeps
    | split
theorem inject_keeps (t : Txn) (h : Keeps kp s0 s) :
    Keeps kp s0 (s.inject t) := by
  unfold State.inject
  repeat' first
    | with_reducible assumption | exact fun _ => rfl | (intro t a ht; beta_reduce) | (intro t ht; beta_reduce) | with_reducible apply each_keepsS
    | with_reducible apply enqueue_keeps | split
theorem feltSend_keeps (src ty mode dst : Nat) (words : List Nat) (ring : optParam (Option Nat) none) (h : Keeps kp s0 s) :
    Keeps kp s0 (s.feltSend src ty mode dst words ring) := by
  unfold State.feltSend
  repeat' first
    | with_reducible assumption | with_reducible apply modFelt_keeps | with_reducible apply emit_keeps | with_reducible apply inject_keeps
theorem mirror_keeps (h : Keeps kp s0 s) :
    Keeps kp s0 (s.mirror) := by
  unfold State.mirror
  repeat' first
    | with_reducible assumption | exact fun _ => rfl | (intro t a ht; beta_reduce) | (intro t ht; beta_reduce) | with_reducible apply modSh_keeps
    | with_reducible apply feltSend_keeps
    | (extract_lets +onlyGivenNames x; refine (fun (hx : Keeps kp s0 x) => ?_ : Keeps kp s0 x → _) ?_; (on_goal 2 => subst x); (on_goal 1 => clear_value x))
    | (extract_lets +onlyGivenNames x; clear_value x)
    | split
theorem bump_keeps (src m reel : Nat) (h : Keeps kp s0 s) :
    Keeps kp s0 (s.bump src m reel).1 := by
  unfold State.bump
  repeat' first
    | with_reducible assumption | with_reducible apply mirror_keeps | with_reducible apply modSh_keeps | split
theorem postInt_keeps (src : Nat) (h : Keeps kp s0 s) :
    Keeps kp s0 (s.postInt src) := by
  unfold State.postInt
  repeat' first
    | with_reducible assumption | with_reducible apply modSh_keeps | split
theorem dropRec_keeps (h0 : Hub) (r : Rec) (h : Keeps kp s0 s) :
    Keeps kp s0 (s.dropRec h0 r) := by
  unfold State.dropRec
  repeat' first
    | with_reducible assumption | exact fun _ => rfl | (intro t a ht; beta_reduce) | (intro t ht; beta_reduce) | with_reducible apply modVat_keeps
    | with_reducible apply bump_keeps | with_reducible apply postInt_keeps | with_reducible apply modSh_keeps | (intro g; split <;> rfl)
    | (extract_lets +onlyGivenNames x; refine (fun (hx : Keeps kp s0 x) => ?_ : Keeps kp s0 x → _) ?_; (on_goal 2 => subst x); (on_goal 1 => clear_value x))
    | (extract_lets +onlyGivenNames x; refine (fun (hx : Keeps kp s0 x.1) => ?_ : Keeps kp s0 x.1 → _) ?_; (on_goal 2 => subst x); (on_goal 1 => clear_value x))
    | (extract_lets +onlyGivenNames x; refine (fun (hx : Keeps kp s0 x.2) => ?_ : Keeps kp s0 x.2 → _) ?_; (on_goal 2 => subst x); (on_goal 1 => clear_value x))
    | (extract_lets +onlyGivenNames x; have : ∀ z, x z = x z := fun _ => rfl; clear this; subst x; beta_reduce)
    | (extract_lets +onlyGivenNames x; clear_value x)
    | split
theorem stage_keeps (h0 : Hub) (r : Rec) (h : Keeps kp s0 s) :
    Keeps kp s0 (s.stage h0 r) := by
  unfold State.stage
  repeat' first
    | with_reducible assumption | exact fun _ => rfl | (intro t a ht; beta_reduce) | (intro t ht; beta_reduce) | with_reducible apply modVat_keeps
    | with_reducible apply dropRec_keeps
    | (extract_lets +onlyGivenNames x; refine (fun (hx : Keeps kp s0 x) => ?_ : Keeps kp s0 x → _) ?_; (on_goal 2 => subst x); (on_goal 1 => clear_value x))
    | (extract_lets +onlyGivenNames x; clear_value x)
    | split
theorem hubEnter_keeps (h0 : Hub) (r : Rec) (h : Keeps kp s0 s) :
    Keeps kp s0 (s.hubEnter h0 r) := by
  unfold State.hubEnter
  repeat' first
    | with_reducible assumption | exact fun _ => rfl | (intro t a ht; beta_reduce) | (intro t ht; beta_reduce) | with_reducible apply modVat_keeps
    | with_reducible apply stage_keeps
    | (extract_lets +onlyGivenNames x; refine (fun (hx : Keeps kp s0 x) => ?_ : Keeps kp s0 x → _) ?_; (on_goal 2 => subst x); (on_goal 1 => clear_value x))
    | (extract_lets +onlyGivenNames x; clear_value x)
    | split
theorem sendI3c_keeps (n : Note) (h : Keeps kp s0 s) :
    Keeps kp s0 (s.sendI3c n) := by
  unfold State.sendI3c
  repeat' first
    | with_reducible assumption | with_reducible apply modSh_keeps
theorem sendMgmt_keeps (n : Note) (h : Keeps kp s0 s) :
    Keeps kp s0 (s.sendMgmt n) := by
  unfold State.sendMgmt
  repeat' first
    | with_reducible assumption | with_reducible apply modSh_keeps | with_reducible apply emit_keeps | with_reducible apply feltSend_keeps | split
theorem sendNote_keeps (r : Rec) (held : Nat) (h : Keeps kp s0 s) :
    Keeps kp s0 (s.sendNote r held) := by
  unfold State.sendNote
  repeat' first
    | with_reducible assumption | with_reducible apply sendI3c_keeps | with_reducible apply sendMgmt_keeps | with_reducible apply modSh_keeps
theorem notify_keeps (r : Rec) (h : Keeps kp s0 s) :
    Keeps kp s0 (s.notify r) := by
  unfold State.notify
  repeat' first
    | with_reducible assumption | with_reducible apply modSh_keeps | with_reducible apply sendNote_keeps | split
theorem written_keeps (r : Rec) (h : Keeps kp s0 s) :
    Keeps kp s0 (s.written r) := by
  unfold State.written
  repeat' first
    | with_reducible assumption | with_reducible apply notify_keeps | split
theorem enterRec_keeps (r : Rec) (h : Keeps kp s0 s) :
    Keeps kp s0 (s.enterRec r) := by
  unfold State.enterRec
  repeat' first
    | with_reducible assumption | exact fun _ => rfl | (intro t a ht; beta_reduce) | (intro t ht; beta_reduce) | with_reducible apply mirror_keeps
    | with_reducible apply modSh_keeps | with_reducible apply hubEnter_keeps | with_reducible apply written_keeps
    | (extract_lets +onlyGivenNames x; refine (fun (hx : Keeps kp s0 x) => ?_ : Keeps kp s0 x → _) ?_; (on_goal 2 => subst x); (on_goal 1 => clear_value x))
    | (extract_lets +onlyGivenNames x; clear_value x)
    | split
theorem recordAt_keeps (code severity source reel : Nat) (unaligned : Bool) (p1 p2 p3 : Nat) (h : Keeps kp s0 s) :
    Keeps kp s0 (s.recordAt code severity source reel unaligned p1 p2 p3) := by
  unfold State.recordAt
  repeat' first
    | with_reducible assumption | with_reducible apply modSh_keeps | with_reducible apply enterRec_keeps | split
theorem record_keeps (code severity source p1 p2 p3 : Nat) (h : Keeps kp s0 s) :
    Keeps kp s0 (s.record code severity source p1 p2 p3) := by
  unfold State.record
  repeat' first
    | with_reducible assumption | with_reducible apply recordAt_keeps
theorem distDone_keeps (x : Dist) (failed code : Nat) (h : Keeps kp s0 s) :
    Keeps kp s0 (s.distDone x failed code) := by
  unfold State.distDone
  repeat' first
    | with_reducible assumption | with_reducible apply record_keeps
theorem modFurnish_keeps (d : Nat) (f : Furnish → Furnish) (h : Keeps kp s0 s) :
    Keeps kp s0 (s.modFurnish d f) := by
  unfold State.modFurnish
  repeat' first
    | with_reducible assumption | with_reducible apply modDie_keeps
theorem deliver_keeps (path : Path) (tag crc : Nat) (r : Reply) (h : Keeps kp s0 s) :
    Keeps kp s0 (s.deliver path tag crc r) := by
  unfold State.deliver
  repeat' first
    | with_reducible assumption | with_reducible apply modSh_keeps | with_reducible apply emit_keeps | split
theorem msi_keeps (vector : Nat) (h : Keeps kp s0 s) :
    Keeps kp s0 (s.msi vector) := by
  unfold State.msi
  repeat' first
    | with_reducible assumption | with_reducible apply modSh_keeps | with_reducible apply emit_keeps | split
theorem endRun_keeps (x : Run) (status : Nat) (data : List (Nat × Nat)) (h : Keeps kp s0 s) :
    Keeps kp s0 (s.endRun x status data) := by
  unfold State.endRun
  repeat' first
    | with_reducible assumption | exact fun _ => rfl | (intro t a ht; beta_reduce) | (intro t ht; beta_reduce) | with_reducible apply modSh_keeps
    | with_reducible apply deliver_keeps | with_reducible apply msi_keeps
    | (extract_lets +onlyGivenNames x; refine (fun (hx : Keeps kp s0 x) => ?_ : Keeps kp s0 x → _) ?_; (on_goal 2 => subst x); (on_goal 1 => clear_value x))
    | (extract_lets +onlyGivenNames x; clear_value x)
    | split
theorem endRuns_keeps (p : Run → Bool) (status : Nat) (data : List (Nat × Nat)) (h : Keeps kp s0 s) :
    Keeps kp s0 (s.endRuns p status data) := by
  unfold State.endRuns
  repeat' first
    | with_reducible assumption | exact fun _ => rfl | (intro t a ht; beta_reduce) | (intro t ht; beta_reduce) | with_reducible apply each_keepsS
    | with_reducible apply endRun_keeps | split
theorem endCommit_keeps (kind status : Nat) (h : Keeps kp s0 s) :
    Keeps kp s0 (s.endCommit kind status) := by
  unfold State.endCommit
  repeat' first
    | with_reducible assumption | with_reducible apply endRuns_keeps
theorem abortDist_keeps (kind : Nat) (failing : List Nat) (h : Keeps kp s0 s) :
    Keeps kp s0 (s.abortDist kind failing) := by
  unfold State.abortDist
  repeat' first
    | with_reducible assumption | exact fun _ => rfl | (intro t a ht; beta_reduce) | (intro t ht; beta_reduce) | with_reducible apply modSh_keeps
    | with_reducible apply distDone_keeps | with_reducible apply each_keepsS | with_reducible apply modFurnish_keeps
    | with_reducible apply endCommit_keeps | split
theorem firstStage_keeps (d src : Nat) (details : List Detail) (h : Keeps kp s0 s) :
    Keeps kp s0 (s.firstStage d src details) := by
  unfold State.firstStage
  repeat' first
    | with_reducible assumption | with_reducible apply modDie_keeps | split
theorem stopSlice_keeps (src : Nat) (h : Keeps kp s0 s) :
    Keeps kp s0 (s.stopSlice src) := by
  unfold State.stopSlice
  repeat' first
    | with_reducible assumption | exact fun _ => rfl | (intro t a ht; beta_reduce) | (intro t ht; beta_reduce) | with_reducible apply modDie_keeps
    | (extract_lets +onlyGivenNames x; refine (fun (hx : Keeps kp s0 x) => ?_ : Keeps kp s0 x → _) ?_; (on_goal 2 => subst x); (on_goal 1 => clear_value x))
    | (extract_lets +onlyGivenNames x; clear_value x)
    | split
theorem countLater_keeps (d src key : Nat) (h : Keeps kp s0 s) :
    Keeps kp s0 (s.countLater d src key) := by
  unfold State.countLater
  repeat' first
    | with_reducible assumption | exact fun _ => rfl | (intro t a ht; beta_reduce) | (intro t ht; beta_reduce)
    | with_reducible apply firstStage_keeps | with_reducible apply modSh_keeps
    | (extract_lets +onlyGivenNames x; refine (fun (hx : Keeps kp s0 x) => ?_ : Keeps kp s0 x → _) ?_; (on_goal 2 => subst x); (on_goal 1 => clear_value x))
    | (extract_lets +onlyGivenNames x; clear_value x)
    | split
theorem sendNmi_keeps (d src : Nat) (h : Keeps kp s0 s) :
    Keeps kp s0 (s.sendNmi d src) := by
  unfold State.sendNmi
  repeat' first
    | with_reducible assumption | exact fun _ => rfl | (intro t a ht; beta_reduce) | (intro t ht; beta_reduce) | with_reducible apply each_keepsS
    | with_reducible apply countLater_keeps | with_reducible apply feltSend_keeps | split
theorem mramWrite_keeps (h : Keeps kp s0 s) :
    Keeps kp s0 (s.mramWrite) := by
  unfold State.mramWrite
  repeat' first
    | with_reducible assumption | with_reducible apply modVat_keeps
theorem setPin_keeps (src : Nat) (h : Keeps kp s0 s) :
    Keeps kp s0 (s.setPin src) := by
  unfold State.setPin
  repeat' first
    | with_reducible assumption | with_reducible apply record_keeps | with_reducible apply mramWrite_keeps | with_reducible apply modSh_keeps
    | split
theorem holdRegion_keeps (region key kind : Nat) (h : Keeps kp s0 s) :
    Keeps kp s0 (s.holdRegion region key kind) := by
  unfold State.holdRegion
  repeat' first
    | with_reducible assumption | with_reducible apply modSh_keeps | split
theorem tapRing_keeps (p kind detail : Nat) (h : Keeps kp s0 s) :
    Keeps kp s0 (s.tapRing p kind detail) := by
  unfold State.tapRing
  repeat' first
    | with_reducible assumption | with_reducible apply modCore_keeps | split
theorem ringHold_keeps (p key : Nat) (start : Bool) (h : Keeps kp s0 s) :
    Keeps kp s0 (s.ringHold p key start) := by
  unfold State.ringHold
  repeat' first
    | with_reducible assumption | with_reducible apply tapRing_keeps | split
theorem holdDie_keeps (d key kind : Nat) (h : Keeps kp s0 s) :
    Keeps kp s0 (s.holdDie d key kind) := by
  unfold State.holdDie
  repeat' first
    | with_reducible assumption | exact fun _ => rfl | (intro t a ht; beta_reduce) | (intro t ht; beta_reduce)
    | with_reducible apply holdRegion_keeps | with_reducible apply each_keepsS | with_reducible apply ringHold_keeps | split
theorem holdCore_keeps (p key : Nat) (h : Keeps kp s0 s) :
    Keeps kp s0 (s.holdCore p key) := by
  unfold State.holdCore
  repeat' first
    | with_reducible assumption | with_reducible apply ringHold_keeps | with_reducible apply modCore_keeps | with_reducible apply holdRegion_keeps
    | split
theorem holdDomain_keeps (domain target : Nat) (h : Keeps kp s0 s) :
    Keeps kp s0 (s.holdDomain domain target) := by
  unfold State.holdDomain
  repeat' first
    | with_reducible assumption | exact fun _ => rfl | (intro t a ht; beta_reduce) | (intro t ht; beta_reduce) | with_reducible apply each_keepsS
    | with_reducible apply holdDie_keeps | with_reducible apply holdCore_keeps | split
theorem queueReset_keeps (domain target source : Nat) (h : Keeps kp s0 s) :
    Keeps kp s0 (s.queueReset domain target source) := by
  unfold State.queueReset
  repeat' first
    | with_reducible assumption | with_reducible apply modSh_keeps | with_reducible apply holdDomain_keeps
theorem dieRing_keeps (d kind detail : Nat) (h : Keeps kp s0 s) :
    Keeps kp s0 (s.dieRing d kind detail) := by
  unfold State.dieRing
  repeat' first
    | with_reducible assumption | with_reducible apply modDie_keeps
theorem raiseFence_keeps (d f : Nat) (h : Keeps kp s0 s) :
    Keeps kp s0 (s.raiseFence d f) := by
  unfold State.raiseFence
  repeat' first
    | with_reducible assumption | with_reducible apply dieRing_keeps | with_reducible apply modDie_keeps
theorem holdPart_keeps (p : Nat) (h : Keeps kp s0 s) :
    Keeps kp s0 (s.holdPart p) := by
  unfold State.holdPart
  repeat' first
    | with_reducible assumption | exact fun _ => rfl | (intro t a ht; beta_reduce) | (intro t ht; beta_reduce) | with_reducible apply modPkg_keeps
    | with_reducible apply each_keepsS | with_reducible apply holdDie_keeps | with_reducible apply raiseFence_keeps | split
theorem tellReactions_keeps (src reactions : Nat) (h : Keeps kp s0 s) :
    Keeps kp s0 (s.tellReactions src reactions) := by
  unfold State.tellReactions
  repeat' first
    | with_reducible assumption | with_reducible apply postInt_keeps | with_reducible apply sendNmi_keeps | with_reducible apply setPin_keeps
    | split
theorem vatSend_keeps (ty mode dst : Nat) (words : List Nat) (h : Keeps kp s0 s) :
    Keeps kp s0 (s.vatSend ty mode dst words) := by
  unfold State.vatSend
  repeat' first
    | with_reducible assumption | with_reducible apply feltSend_keeps
theorem startTeardown_keeps (c trigger : Nat) (h : Keeps kp s0 s) :
    Keeps kp s0 (s.startTeardown c trigger) := by
  unfold State.startTeardown
  repeat' first
    | with_reducible assumption | exact fun _ => rfl | (intro t a ht; beta_reduce) | (intro t ht; beta_reduce) | with_reducible apply mirror_keeps
    | with_reducible apply modCtx_keeps | with_reducible apply modPkg_keeps | with_reducible apply each_keepsS | with_reducible apply vatSend_keeps
    | (extract_lets +onlyGivenNames x; refine (fun (hx : Keeps kp s0 x) => ?_ : Keeps kp s0 x → _) ?_; (on_goal 2 => subst x); (on_goal 1 => clear_value x))
    | (extract_lets +onlyGivenNames x; clear_value x)
    | split
theorem loseScratchpad_keeps (p : Nat) (h : Keeps kp s0 s) :
    Keeps kp s0 (s.loseScratchpad p) := by
  unfold State.loseScratchpad
  repeat' first
    | with_reducible assumption | exact fun _ => rfl | (intro t a ht; beta_reduce) | (intro t ht; beta_reduce) | with_reducible apply each_keepsS
    | with_reducible apply emit_keeps | with_reducible apply startTeardown_keeps | with_reducible apply firstStage_keeps
    | (extract_lets +onlyGivenNames x; refine (fun (hx : Keeps kp s0 x) => ?_ : Keeps kp s0 x → _) ?_; (on_goal 2 => subst x); (on_goal 1 => clear_value x))
    | (extract_lets +onlyGivenNames x; clear_value x)
    | split
theorem resetCoreBegin_keeps (domain p : Nat) (h : Keeps kp s0 s) :
    Keeps kp s0 (State.resetCoreBegin domain s p) := by
  unfold State.resetCoreBegin
  repeat' first
    | with_reducible assumption | with_reducible apply loseScratchpad_keeps | with_reducible apply startTeardown_keeps
    | with_reducible apply holdCore_keeps | with_reducible apply modCore_keeps | split
theorem beginReset_keeps (domain target source : Nat) (h : Keeps kp s0 s) :
    Keeps kp s0 (s.beginReset domain target source) := by
  unfold State.beginReset
  repeat' first
    | with_reducible assumption | exact fun _ => rfl | (intro t a ht; beta_reduce) | (intro t ht; beta_reduce) | with_reducible apply modSh_keeps
    | with_reducible apply resetCoreBegin_keeps | with_reducible apply raiseFence_keeps | with_reducible apply each_keepsS
    | with_reducible apply holdDie_keeps | with_reducible apply dieRing_keeps | with_reducible apply modDie_keeps
    | with_reducible apply loseScratchpad_keeps | with_reducible apply modCore_keeps | with_reducible apply startTeardown_keeps | split
theorem countLadder_keeps (k p2 p3 : Nat) (h : Keeps kp s0 s) :
    Keeps kp s0 (s.countLadder k p2 p3) := by
  unfold State.countLadder
  repeat' first
    | with_reducible assumption | exact fun _ => rfl | (intro t a ht; beta_reduce) | (intro t ht; beta_reduce) | with_reducible apply bump_keeps
    | with_reducible apply tellReactions_keeps | with_reducible apply record_keeps | (intro g; split <;> rfl)
    | (extract_lets +onlyGivenNames x; refine (fun (hx : Keeps kp s0 x) => ?_ : Keeps kp s0 x → _) ?_; (on_goal 2 => subst x); (on_goal 1 => clear_value x))
    | (extract_lets +onlyGivenNames x; refine (fun (hx : Keeps kp s0 x.1) => ?_ : Keeps kp s0 x.1 → _) ?_; (on_goal 2 => subst x); (on_goal 1 => clear_value x))
    | (extract_lets +onlyGivenNames x; refine (fun (hx : Keeps kp s0 x.2) => ?_ : Keeps kp s0 x.2 → _) ?_; (on_goal 2 => subst x); (on_goal 1 => clear_value x))
    | (extract_lets +onlyGivenNames x; have : ∀ z, x z = x z := fun _ => rfl; clear this; subst x; beta_reduce)
    | (extract_lets +onlyGivenNames x; clear_value x)
    | split
theorem countPkgReset_keeps (source : Nat) (h : Keeps kp s0 s) :
    Keeps kp s0 (s.countPkgReset source) := by
  unfold State.countPkgReset
  repeat' first
    | with_reducible assumption | with_reducible apply countLadder_keeps | with_reducible apply bump_keeps
theorem escalate_keeps (source fromRung toRung why count : Nat) (h : Keeps kp s0 s) :
    Keeps kp s0 (s.escalate source fromRung toRung why count) := by
  unfold State.escalate
  repeat' first
    | with_reducible assumption | with_reducible apply record_keeps
theorem teardownAll_keeps (trigger : Nat) (h : Keeps kp s0 s) :
    Keeps kp s0 (s.teardownAll trigger) := by
  unfold State.teardownAll
  repeat' first
    | with_reducible assumption | exact fun _ => rfl | (intro t a ht; beta_reduce) | (intro t ht; beta_reduce) | with_reducible apply each_keepsS
    | with_reducible apply startTeardown_keeps | split
theorem enterOos_keeps (reason : Nat) (h : Keeps kp s0 s) :
    Keeps kp s0 (s.enterOos reason) := by
  unfold State.enterOos
  repeat' first
    | with_reducible assumption | exact fun _ => rfl | (intro t a ht; beta_reduce) | (intro t ht; beta_reduce) | with_reducible apply modPkg_keeps
    | with_reducible apply record_keeps | with_reducible apply teardownAll_keeps | with_reducible apply setPin_keeps
    | with_reducible apply countLadder_keeps | split
theorem sendPowerReq_keeps (h : Keeps kp s0 s) :
    Keeps kp s0 (s.sendPowerReq) := by
  unfold State.sendPowerReq
  repeat' first
    | with_reducible assumption | exact fun _ => rfl | (intro t a ht; beta_reduce) | (intro t ht; beta_reduce) | with_reducible apply enterOos_keeps
    | with_reducible apply record_keeps | with_reducible apply emit_keeps | with_reducible apply modPkg_keeps
    | (extract_lets +onlyGivenNames x; refine (fun (hx : Keeps kp s0 x) => ?_ : Keeps kp s0 x → _) ?_; (on_goal 2 => subst x); (on_goal 1 => clear_value x))
    | (extract_lets +onlyGivenNames x; clear_value x)
    | split
theorem requestPowerCycle_keeps (source : Nat) (h : Keeps kp s0 s) :
    Keeps kp s0 (s.requestPowerCycle source) := by
  unfold State.requestPowerCycle
  repeat' first
    | with_reducible assumption | exact fun _ => rfl | (intro t a ht; beta_reduce) | (intro t ht; beta_reduce)
    | with_reducible apply teardownAll_keeps | with_reducible apply each_keepsS | with_reducible apply holdDie_keeps
    | with_reducible apply modPkg_keeps | with_reducible apply sendPowerReq_keeps | with_reducible apply countPkgReset_keeps | split
theorem packageReset_keeps (source : Nat) (counted : Bool) (h : Keeps kp s0 s) :
    Keeps kp s0 (s.packageReset source counted) := by
  unfold State.packageReset
  repeat' first
    | with_reducible assumption | exact fun _ => rfl | (intro t a ht; beta_reduce) | (intro t ht; beta_reduce)
    | with_reducible apply countPkgReset_keeps | with_reducible apply escalate_keeps | with_reducible apply enterOos_keeps
    | with_reducible apply requestPowerCycle_keeps | with_reducible apply bringUp_keeps | with_reducible apply modPkg_keeps
    | (extract_lets +onlyGivenNames x; refine (fun (hx : Keeps kp s0 x) => ?_ : Keeps kp s0 x → _) ?_; (on_goal 2 => subst x); (on_goal 1 => clear_value x))
    | (extract_lets +onlyGivenNames x; clear_value x)
    | split
theorem requestPart_keeps (p source : Nat) (h : Keeps kp s0 s) :
    Keeps kp s0 (s.requestPart p source) := by
  unfold State.requestPart
  repeat' first
    | with_reducible assumption | exact fun _ => rfl | (intro t a ht; beta_reduce) | (intro t ht; beta_reduce) | with_reducible apply holdPart_keeps
    | with_reducible apply bump_keeps | with_reducible apply tellReactions_keeps | with_reducible apply record_keeps
    | with_reducible apply beginReset_keeps | with_reducible apply packageReset_keeps | (intro g; split <;> rfl)
    | (extract_lets +onlyGivenNames x; refine (fun (hx : Keeps kp s0 x) => ?_ : Keeps kp s0 x → _) ?_; (on_goal 2 => subst x); (on_goal 1 => clear_value x))
    | (extract_lets +onlyGivenNames x; refine (fun (hx : Keeps kp s0 x.1) => ?_ : Keeps kp s0 x.1 → _) ?_; (on_goal 2 => subst x); (on_goal 1 => clear_value x))
    | (extract_lets +onlyGivenNames x; refine (fun (hx : Keeps kp s0 x.2) => ?_ : Keeps kp s0 x.2 → _) ?_; (on_goal 2 => subst x); (on_goal 1 => clear_value x))
    | (extract_lets +onlyGivenNames x; have : ∀ z, x z = x z := fun _ => rfl; clear this; subst x; beta_reduce)
    | (extract_lets +onlyGivenNames x; clear_value x)
    | split
theorem requestCore_keeps (domain target source : Nat) (h : Keeps kp s0 s) :
    Keeps kp s0 (s.requestCore domain target source) := by
  unfold State.requestCore
  repeat' first
    | with_reducible assumption | exact fun _ => rfl | (intro t a ht; beta_reduce) | (intro t ht; beta_reduce)
    | with_reducible apply requestPart_keeps | with_reducible apply escalate_keeps | with_reducible apply beginReset_keeps
    | with_reducible apply modSh_keeps
    | (extract_lets +onlyGivenNames x; refine (fun (hx : Keeps kp s0 x) => ?_ : Keeps kp s0 x → _) ?_; (on_goal 2 => subst x); (on_goal 1 => clear_value x))
    | (extract_lets +onlyGivenNames x; clear_value x)
    | split
theorem requestReset_keeps (domain target source : Nat) (h : Keeps kp s0 s) :
    Keeps kp s0 (s.requestReset domain target source) := by
  unfold State.requestReset
  repeat' first
    | with_reducible assumption | with_reducible apply queueReset_keeps | with_reducible apply requestCore_keeps
    | with_reducible apply beginReset_keeps | with_reducible apply requestPart_keeps | with_reducible apply packageReset_keeps | split
theorem dropFwds_keeps (h0 : Hub) (h : Keeps kp s0 s) :
    Keeps kp s0 (s.dropFwds h0) := by
  unfold State.dropFwds
  repeat' first
    | with_reducible assumption | exact fun _ => rfl | (intro t a ht; beta_reduce) | (intro t ht; beta_reduce) | with_reducible apply modSh_keeps
    | with_reducible apply modFelt_keeps | with_reducible apply each_keepsS | with_reducible apply emit_keeps | split
theorem vatDown_keeps (h0 : Hub) (h : Keeps kp s0 s) :
    Keeps kp s0 (s.vatDown h0) := by
  unfold State.vatDown
  repeat' first
    | with_reducible assumption | with_reducible apply keepDurable_keeps | with_reducible apply modVat_keeps | with_reducible apply dropFwds_keeps
theorem gapFails_keeps (g : Gap) (h : Keeps kp s0 s) :
    Keeps kp s0 (s.gapFails g) := by
  unfold State.gapFails
  repeat' first
    | with_reducible assumption | exact fun _ => rfl | (intro t a ht; beta_reduce) | (intro t ht; beta_reduce) | with_reducible apply modSh_keeps
    | with_reducible apply vatDown_keeps | with_reducible apply each_keepsS | with_reducible apply emit_keeps
    | (extract_lets +onlyGivenNames x; refine (fun (hx : Keeps kp s0 x) => ?_ : Keeps kp s0 x → _) ?_; (on_goal 2 => subst x); (on_goal 1 => clear_value x))
    | (extract_lets +onlyGivenNames x; clear_value x)
    | split
theorem modGap_keeps (f : Gap → Gap) (h : Keeps kp s0 s) :
    Keeps kp s0 (s.modGap f) := by
  unfold State.modGap
  repeat' first
    | with_reducible assumption | with_reducible apply modSh_keeps
theorem failOver_keeps (h0 : Hub) (code : Nat) (h : Keeps kp s0 s) :
    Keeps kp s0 (s.failOver h0 code) := by
  unfold State.failOver
  repeat' first
    | with_reducible assumption | with_reducible apply feltSend_keeps | with_reducible apply modSh_keeps | with_reducible apply vatDown_keeps
    | split
theorem vatTrigger_keeps (h0 : Hub) (code : Nat) (h : Keeps kp s0 s) :
    Keeps kp s0 (s.vatTrigger h0 code) := by
  unfold State.vatTrigger
  repeat' first
    | with_reducible assumption | with_reducible apply gapFails_keeps | with_reducible apply feltSend_keeps | with_reducible apply modGap_keeps
    | with_reducible apply vatDown_keeps | with_reducible apply failOver_keeps | split
theorem takeBlk_keeps (src : Nat) (h : Keeps kp s0 s) :
    Keeps kp s0 (s.takeBlk src) := by
  unfold State.takeBlk
  repeat' first
    | with_reducible assumption | exact fun _ => rfl | (intro t a ht; beta_reduce) | (intro t ht; beta_reduce) | with_reducible apply modCore_keeps
    | with_reducible apply requestReset_keeps | with_reducible apply vatTrigger_keeps | with_reducible apply queueReset_keeps
    | with_reducible apply startTeardown_keeps
    | (extract_lets +onlyGivenNames x; refine (fun (hx : Keeps kp s0 x) => ?_ : Keeps kp s0 x → _) ?_; (on_goal 2 => subst x); (on_goal 1 => clear_value x))
    | (extract_lets +onlyGivenNames x; clear_value x)
    | split
theorem agentReact_keeps (d src reactions : Nat) (h : Keeps kp s0 s) :
    Keeps kp s0 (s.agentReact d src reactions) := by
  unfold State.agentReact
  repeat' first
    | with_reducible assumption | with_reducible apply sendNmi_keeps | with_reducible apply setPin_keeps | with_reducible apply takeBlk_keeps
    | split
theorem toVat_keeps (die ty : Nat) (words : List Nat) (h : Keeps kp s0 s) :
    Keeps kp s0 (s.toVat die ty words) := by
  unfold State.toVat
  repeat' first
    | with_reducible assumption | with_reducible apply modDie_keeps | with_reducible apply feltSend_keeps | split
theorem forwardFirst_keeps (die : Nat) (h : Keeps kp s0 s) :
    Keeps kp s0 (s.forwardFirst die) := by
  unfold State.forwardFirst
  repeat' first
    | with_reducible assumption | with_reducible apply toVat_keeps | with_reducible apply modDie_keeps | split
theorem agentCount_keeps (d src : Nat) (detail : Detail) (h : Keeps kp s0 s) :
    Keeps kp s0 (s.agentCount d src detail) := by
  unfold State.agentCount
  repeat' first
    | with_reducible assumption | with_reducible apply firstStage_keeps | with_reducible apply stopSlice_keeps
    | with_reducible apply agentReact_keeps | with_reducible apply forwardFirst_keeps | split
theorem spadEcc_keeps (p : Nat) (x : SpadAccess) (h : Keeps kp s0 s) :
    Keeps kp s0 (s.spadEcc p x) := by
  unfold State.spadEcc
  repeat' first
    | with_reducible assumption | with_reducible apply agentCount_keeps | with_reducible apply emit_keeps | split
theorem setStall_keeps (p reason : Nat) (awaited : Option Nat) (h : Keeps kp s0 s) :
    Keeps kp s0 (s.setStall p reason awaited) := by
  unfold State.setStall
  repeat' first
    | with_reducible assumption | exact fun _ => rfl | (intro t a ht; beta_reduce) | (intro t ht; beta_reduce) | with_reducible apply modCore_keeps
    | (extract_lets +onlyGivenNames x; refine (fun (hx : Keeps kp s0 x) => ?_ : Keeps kp s0 x → _) ?_; (on_goal 2 => subst x); (on_goal 1 => clear_value x))
    | (extract_lets +onlyGivenNames x; clear_value x)
    | split
theorem failRegs_keeps (p t offset : Nat) (r : FailRegs) (h : Keeps kp s0 s) :
    Keeps kp s0 (s.failRegs p t offset r) := by
  unfold State.failRegs
  repeat' first
    | with_reducible assumption | with_reducible apply modCore_keeps
theorem noteUnit_keeps (p offset : Nat) (t : Option Nat) (h : Keeps kp s0 s) :
    Keeps kp s0 (s.noteUnit p offset t) := by
  unfold State.noteUnit
  repeat' first
    | with_reducible assumption | with_reducible apply modTicket_keeps | with_reducible apply failRegs_keeps | split
theorem breach_keeps (p c offset layer oper : Nat) (t : Option Nat) (h : Keeps kp s0 s) :
    Keeps kp s0 (s.breach p c offset layer oper t) := by
  unfold State.breach
  repeat' first
    | with_reducible assumption | with_reducible apply agentCount_keeps | with_reducible apply noteUnit_keeps
theorem watchSlots_keeps (p n : Nat) (x : SpadAccess) (h : Keeps kp s0 s) :
    Keeps kp s0 (s.watchSlots p n x).1 := by
  unfold State.watchSlots
  repeat' first
    | with_reducible assumption | with_reducible apply breach_keeps | with_reducible apply tapRing_keeps | with_reducible apply emit_keeps
    | with_reducible apply modLc_keeps | with_reducible apply each_keepsS | split
theorem holdScope_keeps (c scope : Nat) (h : Keeps kp s0 s) :
    Keeps kp s0 (s.holdScope c scope) := by
  unfold State.holdScope
  repeat' first
    | with_reducible assumption | exact fun _ => rfl | (intro t a ht; beta_reduce) | (intro t ht; beta_reduce) | with_reducible apply each_keepsS
    | with_reducible apply holdDie_keeps | with_reducible apply holdCore_keeps | with_reducible apply vatSend_keeps | split
theorem brkTrigger_keeps (d c : Nat) (b : Brk) (h : Keeps kp s0 s) :
    Keeps kp s0 (s.brkTrigger d c b) := by
  unfold State.brkTrigger
  repeat' first
    | with_reducible assumption | exact fun _ => rfl | (intro t a ht; beta_reduce) | (intro t ht; beta_reduce) | with_reducible apply record_keeps
    | with_reducible apply modCtx_keeps | with_reducible apply each_keepsS | with_reducible apply feltSend_keeps
    | with_reducible apply holdScope_keeps
    | (extract_lets +onlyGivenNames x; refine (fun (hx : Keeps kp s0 x) => ?_ : Keeps kp s0 x → _) ?_; (on_goal 2 => subst x); (on_goal 1 => clear_value x))
    | (extract_lets +onlyGivenNames x; clear_value x)
    | split
theorem sendStop_keeps (d : Nat) (h : Keeps kp s0 s) :
    Keeps kp s0 (s.sendStop d) := by
  unfold State.sendStop
  repeat' first
    | with_reducible assumption | exact fun _ => rfl | (intro t a ht; beta_reduce) | (intro t ht; beta_reduce) | with_reducible apply each_keepsS
    | with_reducible apply toVat_keeps | with_reducible apply draw_keeps | split
theorem latchStop_keeps (d : Nat) (h : Keeps kp s0 s) :
    Keeps kp s0 (s.latchStop d) := by
  unfold State.latchStop
  repeat' first
    | with_reducible assumption | exact fun _ => rfl | (intro t a ht; beta_reduce) | (intro t ht; beta_reduce) | with_reducible apply emit_keeps
    | with_reducible apply modDie_keeps | with_reducible apply each_keepsS | with_reducible apply modCore_keeps | with_reducible apply tapRing_keeps
    | with_reducible apply holdDie_keeps | with_reducible apply sendStop_keeps | split
theorem startStop_keeps (d initiator : Nat) (h : Keeps kp s0 s) :
    Keeps kp s0 (s.startStop d initiator) := by
  unfold State.startStop
  repeat' first
    | with_reducible assumption | with_reducible apply latchStop_keeps | with_reducible apply modDbg_keeps | split
theorem watchHit_keeps (p n index : Nat) (w : Watch) (t : Option Nat) (h : Keeps kp s0 s) :
    Keeps kp s0 (s.watchHit p n index w t) := by
  unfold State.watchHit
  repeat' first
    | with_reducible assumption | exact fun _ => rfl | (intro t a ht; beta_reduce) | (intro t ht; beta_reduce) | with_reducible apply modLc_keeps
    | with_reducible apply agentCount_keeps | with_reducible apply noteUnit_keeps | with_reducible apply tapRing_keeps
    | with_reducible apply recordAt_keeps | with_reducible apply brkTrigger_keeps | with_reducible apply startStop_keeps
    | (extract_lets +onlyGivenNames x; refine (fun (hx : Keeps kp s0 x) => ?_ : Keeps kp s0 x → _) ?_; (on_goal 2 => subst x); (on_goal 1 => clear_value x))
    | (extract_lets +onlyGivenNames x; clear_value x)
    | split
theorem watchAll_keeps (p n : Nat) (x : SpadAccess) (h : Keeps kp s0 s) :
    Keeps kp s0 (s.watchAll p n x) := by
  unfold State.watchAll
  repeat' first
    | with_reducible assumption | exact fun _ => rfl | (intro t a ht; beta_reduce) | (intro t ht; beta_reduce) | with_reducible apply each_keepsS
    | with_reducible apply watchHit_keeps | split
theorem handshake_keeps (p : Nat) (reasons : List Nat) (h : Keeps kp s0 s) :
    Keeps kp s0 (s.handshake p reasons) := by
  unfold State.handshake
  repeat' first
    | with_reducible assumption | exact fun _ => rfl | (intro t a ht; beta_reduce) | (intro t ht; beta_reduce) | with_reducible apply setStall_keeps
    | with_reducible apply modDie_keeps
    | (extract_lets +onlyGivenNames x; refine (fun (hx : Keeps kp s0 x) => ?_ : Keeps kp s0 x → _) ?_; (on_goal 2 => subst x); (on_goal 1 => clear_value x))
    | (extract_lets +onlyGivenNames x; clear_value x)
    | split
theorem consumePoison_keeps (p c layer oper t : Nat) (h : Keeps kp s0 s) :
    Keeps kp s0 (s.consumePoison p c layer oper t) := by
  unfold State.consumePoison
  repeat' first
    | with_reducible assumption | exact fun _ => rfl | (intro t a ht; beta_reduce) | (intro t ht; beta_reduce)
    | with_reducible apply agentCount_keeps | with_reducible apply noteUnit_keeps
    | (extract_lets +onlyGivenNames x; refine (fun (hx : Keeps kp s0 x) => ?_ : Keeps kp s0 x → _) ?_; (on_goal 2 => subst x); (on_goal 1 => clear_value x))
    | (extract_lets +onlyGivenNames x; clear_value x)
    | split
theorem foldPartial_keeps (t : Nat) (f : DigestRec → DigestRec) (h : Keeps kp s0 s) :
    Keeps kp s0 (s.foldPartial t f) := by
  unfold State.foldPartial
  repeat' first
    | with_reducible assumption | with_reducible apply modLc_keeps
theorem faultRecs_keeps (src key reel : Nat) (crossing : Option Nat) (details : List Detail) (h : Keeps kp s0 s) :
    Keeps kp s0 (s.faultRecs src key reel crossing details) := by
  unfold State.faultRecs
  repeat' first
    | with_reducible assumption | exact fun _ => rfl | (intro t a ht; beta_reduce) | (intro t ht; beta_reduce) | with_reducible apply each_keepsS
    | with_reducible apply recordAt_keeps
    | (extract_lets +onlyGivenNames x; refine (fun (hx : Keeps kp s0 x) => ?_ : Keeps kp s0 x → _) ?_; (on_goal 2 => subst x); (on_goal 1 => clear_value x))
    | (extract_lets +onlyGivenNames x; clear_value x)
    | split
theorem ackWith_keeps (die dst ty seq status : Nat) (extra : Option Nat) (h : Keeps kp s0 s) :
    Keeps kp s0 (s.ackWith die dst ty seq status extra) := by
  unfold State.ackWith
  repeat' first
    | with_reducible assumption | with_reducible apply emit_keeps | with_reducible apply inject_keeps
theorem ack_keeps (die dst ty seq status : Nat) (h : Keeps kp s0 s) :
    Keeps kp s0 (s.ack die dst ty seq status) := by
  unfold State.ack
  repeat' first
    | with_reducible assumption | with_reducible apply ackWith_keeps
theorem noteSeen_keeps (rcv src ty seq : Nat) (h : Keeps kp s0 s) :
    Keeps kp s0 (s.noteSeen rcv src ty seq) := by
  unfold State.noteSeen
  repeat' first
    | with_reducible assumption | with_reducible apply modFelt_keeps
theorem orderNow_keeps (die ty : Nat) (words : List Nat) (h : Keeps kp s0 s) :
    Keeps kp s0 (s.orderNow die ty words) := by
  unfold State.orderNow
  repeat' first
    | with_reducible assumption | exact fun _ => rfl | (intro t a ht; beta_reduce) | (intro t ht; beta_reduce) | with_reducible apply modFelt_keeps
    | with_reducible apply emit_keeps | with_reducible apply inject_keeps | with_reducible apply ack_keeps | with_reducible apply noteSeen_keeps
    | with_reducible apply modDie_keeps | with_reducible apply feltSend_keeps | with_reducible apply countLater_keeps
    | (extract_lets +onlyGivenNames x; refine (fun (hx : Keeps kp s0 x) => ?_ : Keeps kp s0 x → _) ?_; (on_goal 2 => subst x); (on_goal 1 => clear_value x))
    | (extract_lets +onlyGivenNames x; clear_value x)
    | split
theorem modSlice_keeps (d : Nat) (f : DeckleSlice → DeckleSlice) (h : Keeps kp s0 s) :
    Keeps kp s0 (s.modSlice d f) := by
  unfold State.modSlice
  repeat' first
    | with_reducible assumption | with_reducible apply modSh_keeps | with_reducible apply modDie_keeps
theorem setPhys_keeps (p w : Nat) (h : Keeps kp s0 s) :
    Keeps kp s0 (s.setPhys p w) := by
  unfold State.setPhys
  repeat' first
    | with_reducible assumption | with_reducible apply modSlice_keeps | split
theorem fenceCore_keeps (p state cause : Nat) (h : Keeps kp s0 s) :
    Keeps kp s0 (s.fenceCore p state cause) := by
  unfold State.fenceCore
  repeat' first
    | with_reducible assumption | with_reducible apply orderNow_keeps | with_reducible apply record_keeps | with_reducible apply setPhys_keeps
    | split
theorem gateCore_keeps (p : Nat) (h : Keeps kp s0 s) :
    Keeps kp s0 (s.gateCore p) := by
  unfold State.gateCore
  repeat' first
    | with_reducible assumption | with_reducible apply beginReset_keeps
theorem markDefective_keeps (p cause : Nat) (h : Keeps kp s0 s) :
    Keeps kp s0 (s.markDefective p cause) := by
  unfold State.markDefective
  repeat' first
    | with_reducible assumption | exact fun _ => rfl | (intro t a ht; beta_reduce) | (intro t ht; beta_reduce)
    | with_reducible apply mramWrite_keeps | with_reducible apply modPkg_keeps | with_reducible apply fenceCore_keeps
    | with_reducible apply gateCore_keeps | split
theorem planReplace_keeps (p cause : Nat) (defective : Bool) (h : Keeps kp s0 s) :
    Keeps kp s0 (s.planReplace p cause defective) := by
  unfold State.planReplace
  repeat' first
    | with_reducible assumption | with_reducible apply markDefective_keeps | with_reducible apply modSh_keeps | split
theorem threshAction_keeps (src key : Nat) (h : Keeps kp s0 s) :
    Keeps kp s0 (s.threshAction src key) := by
  unfold State.threshAction
  repeat' first
    | with_reducible assumption | with_reducible apply planReplace_keeps | split
theorem applyOne_keeps (src key reel : Nat) (details : List Detail) (h : Keeps kp s0 s) :
    Keeps kp s0 (s.applyOne src key reel details) := by
  unfold State.applyOne
  repeat' first
    | with_reducible assumption | exact fun _ => rfl | (intro t a ht; beta_reduce) | (intro t ht; beta_reduce) | with_reducible apply bump_keeps
    | with_reducible apply faultRecs_keeps | with_reducible apply postInt_keeps | with_reducible apply recordAt_keeps
    | with_reducible apply modSh_keeps | with_reducible apply vatSend_keeps | with_reducible apply threshAction_keeps | (intro g; split <;> rfl)
    | (extract_lets +onlyGivenNames x; refine (fun (hx : Keeps kp s0 x) => ?_ : Keeps kp s0 x → _) ?_; (on_goal 2 => subst x); (on_goal 1 => clear_value x))
    | (extract_lets +onlyGivenNames x; refine (fun (hx : Keeps kp s0 x.1) => ?_ : Keeps kp s0 x.1 → _) ?_; (on_goal 2 => subst x); (on_goal 1 => clear_value x))
    | (extract_lets +onlyGivenNames x; refine (fun (hx : Keeps kp s0 x.2) => ?_ : Keeps kp s0 x.2 → _) ?_; (on_goal 2 => subst x); (on_goal 1 => clear_value x))
    | (extract_lets +onlyGivenNames x; have : ∀ z, x z = x z := fun _ => rfl; clear this; subst x; beta_reduce)
    | (extract_lets +onlyGivenNames x; clear_value x)
    | split
theorem ctxFault_keeps (c : Nat) (h : Keeps kp s0 s) :
    Keeps kp s0 (s.ctxFault c) := by
  unfold State.ctxFault
  repeat' first
    | with_reducible assumption | with_reducible apply startTeardown_keeps
theorem pkgAfter_keeps (src key : Nat) (crossed : Bool) (h : Keeps kp s0 s) :
    Keeps kp s0 (s.pkgAfter src key crossed) := by
  unfold State.pkgAfter
  repeat' first
    | with_reducible assumption | exact fun _ => rfl | (intro t a ht; beta_reduce) | (intro t ht; beta_reduce)
    | with_reducible apply packageReset_keeps
    | (extract_lets +onlyGivenNames x; refine (fun (hx : Keeps kp s0 x) => ?_ : Keeps kp s0 x → _) ?_; (on_goal 2 => subst x); (on_goal 1 => clear_value x))
    | (extract_lets +onlyGivenNames x; clear_value x)
    | split
theorem applyBase_keeps (src key reel : Nat) (details : List Detail) (h : Keeps kp s0 s) :
    Keeps kp s0 (s.applyBase src key reel details) := by
  unfold State.applyBase
  repeat' first
    | with_reducible assumption | with_reducible apply bump_keeps | with_reducible apply applyOne_keeps | with_reducible apply ctxFault_keeps
    | with_reducible apply pkgAfter_keeps | split
theorem applyCount_keeps (src reel : Nat) (details : List Detail) (h : Keeps kp s0 s) :
    Keeps kp s0 (s.applyCount src reel details) := by
  unfold State.applyCount
  repeat' first
    | with_reducible assumption | with_reducible apply applyBase_keeps | with_reducible apply bump_keeps | with_reducible apply agentReact_keeps
    | split
theorem vatCount_keeps (src : Nat) (detail : Detail) (h : Keeps kp s0 s) :
    Keeps kp s0 (s.vatCount src detail) := by
  unfold State.vatCount
  repeat' first
    | with_reducible assumption | with_reducible apply agentReact_keeps | with_reducible apply firstStage_keeps
    | with_reducible apply applyCount_keeps | split
theorem checkTotal_keeps (die : Option Nat) (total : Nat) (r : DigestRec) (d : Detail) (h : Keeps kp s0 s) :
    Keeps kp s0 (s.checkTotal die total r d) := by
  unfold State.checkTotal
  repeat' first
    | with_reducible assumption | with_reducible apply agentCount_keeps | with_reducible apply vatCount_keeps | split
theorem foldUnit_keeps (t : Nat) (replayed : Bool) (h : Keeps kp s0 s) :
    Keeps kp s0 (s.foldUnit t replayed) := by
  unfold State.foldUnit
  repeat' first
    | with_reducible assumption | exact fun _ => rfl | (intro t a ht; beta_reduce) | (intro t ht; beta_reduce)
    | with_reducible apply foldPartial_keeps | with_reducible apply checkTotal_keeps
    | (extract_lets +onlyGivenNames x; refine (fun (hx : Keeps kp s0 x) => ?_ : Keeps kp s0 x → _) ?_; (on_goal 2 => subst x); (on_goal 1 => clear_value x))
    | (extract_lets +onlyGivenNames x; clear_value x)
    | split
theorem foldPoison_keeps (t : Nat) (h : Keeps kp s0 s) :
    Keeps kp s0 (s.foldPoison t) := by
  unfold State.foldPoison
  repeat' first
    | with_reducible assumption | exact fun _ => rfl | (intro t a ht; beta_reduce) | (intro t ht; beta_reduce)
    | with_reducible apply foldPartial_keeps | with_reducible apply agentCount_keeps
    | (extract_lets +onlyGivenNames x; refine (fun (hx : Keeps kp s0 x) => ?_ : Keeps kp s0 x → _) ?_; (on_goal 2 => subst x); (on_goal 1 => clear_value x))
    | (extract_lets +onlyGivenNames x; clear_value x)
    | split
theorem discard_keeps (c n : Nat) (killed : Bool) (p : GateXfer → Bool) (h : Keeps kp s0 s) :
    Keeps kp s0 (s.discard c n killed p) := by
  unfold State.discard
  repeat' first
    | with_reducible assumption | exact fun _ => rfl | (intro t a ht; beta_reduce) | (intro t ht; beta_reduce) | with_reducible apply each_keepsS
    | with_reducible apply emit_keeps | with_reducible apply modCtx_keeps | with_reducible apply modLc_keeps | split
theorem cancelSlots_keeps (k : Ticket) (h : Keeps kp s0 s) :
    Keeps kp s0 (s.cancelSlots k) := by
  unfold State.cancelSlots
  repeat' first
    | with_reducible assumption | with_reducible apply modLc_keeps | with_reducible apply each_keepsS | split
theorem endTicketStall_keeps (n t : Nat) (h : Keeps kp s0 s) :
    Keeps kp s0 (s.endTicketStall n t) := by
  unfold State.endTicketStall
  repeat' first
    | with_reducible assumption | with_reducible apply setStall_keeps | split
theorem freeReaders_keeps (c n t : Nat) (h : Keeps kp s0 s) :
    Keeps kp s0 (s.freeReaders c n t) := by
  unfold State.freeReaders
  repeat' first
    | with_reducible assumption | with_reducible apply modLc_keeps
theorem profStart_keeps (p n : Nat) (h : Keeps kp s0 s) :
    Keeps kp s0 (s.profStart p n) := by
  unfold State.profStart
  repeat' first
    | with_reducible assumption | with_reducible apply modLc_keeps
theorem profAdd_keeps (d : Nat) (e : ProfEntry) (h : Keeps kp s0 s) :
    Keeps kp s0 (s.profAdd d e) := by
  unfold State.profAdd
  repeat' first
    | with_reducible assumption | with_reducible apply modDie_keeps
theorem profFlush_keeps (p n layer oper execs : Nat) (h : Keeps kp s0 s) :
    Keeps kp s0 (s.profFlush p n layer oper execs) := by
  unfold State.profFlush
  repeat' first
    | with_reducible assumption | with_reducible apply profStart_keeps | with_reducible apply profAdd_keeps
theorem sendWmOne_keeps (d : Nat) (w : WmDie) (h : Keeps kp s0 s) :
    Keeps kp s0 (s.sendWmOne d w) := by
  unfold State.sendWmOne
  repeat' first
    | with_reducible assumption | with_reducible apply modDie_keeps | with_reducible apply checkTotal_keeps | with_reducible apply modCtx_keeps
    | with_reducible apply toVat_keeps | split
theorem sendWm_keeps (c d : Nat) (h : Keeps kp s0 s) :
    Keeps kp s0 (s.sendWm c d) := by
  unfold State.sendWm
  repeat' first
    | with_reducible assumption | exact fun _ => rfl | (intro t a ht; beta_reduce) | (intro t ht; beta_reduce) | with_reducible apply each_keepsS
    | with_reducible apply sendWmOne_keeps | split
theorem addRepl_keeps (c n key : Nat) (r : DigestRec) (h : Keeps kp s0 s) :
    Keeps kp s0 (s.addRepl c n key r) := by
  unfold State.addRepl
  repeat' first
    | with_reducible assumption | with_reducible apply modDie_keeps
theorem dieShard_keeps (c n layer oper : Nat) (r : DigestRec) (h : Keeps kp s0 s) :
    Keeps kp s0 (s.dieShard c n layer oper r) := by
  unfold State.dieShard
  repeat' first
    | with_reducible assumption | exact fun _ => rfl | (intro t a ht; beta_reduce) | (intro t ht; beta_reduce) | with_reducible apply modDie_keeps
    | with_reducible apply addRepl_keeps
    | (extract_lets +onlyGivenNames x; refine (fun (hx : Keeps kp s0 x) => ?_ : Keeps kp s0 x → _) ?_; (on_goal 2 => subst x); (on_goal 1 => clear_value x))
    | (extract_lets +onlyGivenNames x; clear_value x)
    | split
theorem formReplica_keeps (c : Nat) (h : Keeps kp s0 s) :
    Keeps kp s0 (s.formReplica c) := by
  unfold State.formReplica
  repeat' first
    | with_reducible assumption | with_reducible apply checkTotal_keeps | with_reducible apply emit_keeps | with_reducible apply mirror_keeps
    | with_reducible apply modReplica_keeps | split
theorem sendPart_keeps (c iter index d : Nat) (h : Keeps kp s0 s) :
    Keeps kp s0 (s.sendPart c iter index d) := by
  unfold State.sendPart
  repeat' first
    | with_reducible assumption | with_reducible apply toVat_keeps | with_reducible apply checkTotal_keeps
theorem beginCompare_keeps (c iter : Nat) (h : Keeps kp s0 s) :
    Keeps kp s0 (s.beginCompare c iter) := by
  unfold State.beginCompare
  repeat' first
    | with_reducible assumption | exact fun _ => rfl | (intro t a ht; beta_reduce) | (intro t ht; beta_reduce)
    | with_reducible apply modReplica_keeps | with_reducible apply formReplica_keeps | with_reducible apply each_keepsS
    | with_reducible apply sendPart_keeps | split
theorem dropRepl_keeps (c : Nat) (h : Keeps kp s0 s) :
    Keeps kp s0 (s.dropRepl c) := by
  unfold State.dropRepl
  repeat' first
    | with_reducible assumption | exact fun _ => rfl | (intro t a ht; beta_reduce) | (intro t ht; beta_reduce) | with_reducible apply each_keepsS
    | with_reducible apply modDie_keeps | split
theorem iterate_keeps (c : Nat) (h : Keeps kp s0 s) :
    Keeps kp s0 (s.iterate c) := by
  unfold State.iterate
  repeat' first
    | with_reducible assumption | exact fun _ => rfl | (intro t a ht; beta_reduce) | (intro t ht; beta_reduce) | with_reducible apply mirror_keeps
    | with_reducible apply modCtx_keeps | with_reducible apply beginCompare_keeps | with_reducible apply dropRepl_keeps
    | (extract_lets +onlyGivenNames x; refine (fun (hx : Keeps kp s0 x) => ?_ : Keeps kp s0 x → _) ?_; (on_goal 2 => subst x); (on_goal 1 => clear_value x))
    | (extract_lets +onlyGivenNames x; clear_value x)
    | split
theorem opComplete_keeps (c layer oper pass : Nat) (h : Keeps kp s0 s) :
    Keeps kp s0 (s.opComplete c layer oper pass) := by
  unfold State.opComplete
  repeat' first
    | with_reducible assumption | exact fun _ => rfl | (intro t a ht; beta_reduce) | (intro t ht; beta_reduce) | with_reducible apply modCtx_keeps
    | with_reducible apply each_keepsS | with_reducible apply iterate_keeps
    | (extract_lets +onlyGivenNames x; refine (fun (hx : Keeps kp s0 x) => ?_ : Keeps kp s0 x → _) ?_; (on_goal 2 => subst x); (on_goal 1 => clear_value x))
    | (extract_lets +onlyGivenNames x; clear_value x)
    | split
theorem endOper_keeps (c n layer oper pass : Nat) (h : Keeps kp s0 s) :
    Keeps kp s0 (s.endOper c n layer oper pass) := by
  unfold State.endOper
  repeat' first
    | with_reducible assumption | exact fun _ => rfl | (intro t a ht; beta_reduce) | (intro t ht; beta_reduce) | with_reducible apply modLc_keeps
    | with_reducible apply profFlush_keeps | with_reducible apply modCtx_keeps | with_reducible apply sendWm_keeps
    | with_reducible apply dieShard_keeps | with_reducible apply opComplete_keeps
    | (extract_lets +onlyGivenNames x; refine (fun (hx : Keeps kp s0 x) => ?_ : Keeps kp s0 x → _) ?_; (on_goal 2 => subst x); (on_goal 1 => clear_value x))
    | (extract_lets +onlyGivenNames x; clear_value x)
    | split
theorem endIfLast_keeps (k : Ticket) (h : Keeps kp s0 s) :
    Keeps kp s0 (s.endIfLast k) := by
  unfold State.endIfLast
  repeat' first
    | with_reducible assumption | exact fun _ => rfl | (intro t a ht; beta_reduce) | (intro t ht; beta_reduce) | with_reducible apply endOper_keeps
    | (extract_lets +onlyGivenNames x; refine (fun (hx : Keeps kp s0 x) => ?_ : Keeps kp s0 x → _) ?_; (on_goal 2 => subst x); (on_goal 1 => clear_value x))
    | (extract_lets +onlyGivenNames x; clear_value x)
    | split
theorem postHosts_keeps (c : Nat) (h : Keeps kp s0 s) :
    Keeps kp s0 (s.postHosts c) := by
  unfold State.postHosts
  repeat' first
    | with_reducible assumption | exact fun _ => rfl | (intro t a ht; beta_reduce) | (intro t ht; beta_reduce) | with_reducible apply each_keepsS
    | with_reducible apply emit_keeps | with_reducible apply modCtx_keeps | split
theorem hostReady_keeps (c n status : Nat) (h : Keeps kp s0 s) :
    Keeps kp s0 (s.hostReady c n status) := by
  unfold State.hostReady
  repeat' first
    | with_reducible assumption | with_reducible apply postHosts_keeps | with_reducible apply modCtx_keeps | split
theorem letGo_keeps (p c n : Nat) (x : GateXfer) (h : Keeps kp s0 s) :
    Keeps kp s0 (s.letGo p c n x) := by
  unfold State.letGo
  repeat' first
    | with_reducible assumption | with_reducible apply emit_keeps | with_reducible apply modTicket_keeps | with_reducible apply hostReady_keeps
    | split
theorem drainGate_keeps (c n : Nat) (h : Keeps kp s0 s) :
    Keeps kp s0 (s.drainGate c n) := by
  unfold State.drainGate
  repeat' first
    | with_reducible assumption | exact fun _ => rfl | (intro t a ht; beta_reduce) | (intro t ht; beta_reduce) | with_reducible apply each_keepsS
    | with_reducible apply letGo_keeps | with_reducible apply modLc_keeps | split
theorem moveBoundary_keeps (n : Nat) (h : Keeps kp s0 s) :
    Keeps kp s0 (s.moveBoundary n) := by
  unfold State.moveBoundary
  repeat' first
    | with_reducible assumption | with_reducible apply modLc_keeps | split
theorem modGroup_keeps (c g : Nat) (f : PGroup → PGroup) (h : Keeps kp s0 s) :
    Keeps kp s0 (s.modGroup c g f) := by
  unfold State.modGroup
  repeat' first
    | with_reducible assumption | with_reducible apply modCtx_keeps
theorem movePress_keeps (n c y : Nat) (h : Keeps kp s0 s) : Keeps kp s0 (State.movePress n s c y) := by
  induction n generalizing s with
  | zero => exact h | succ k0 ih =>
    unfold State.movePress
    repeat' first
      | with_reducible assumption | with_reducible apply ih | with_reducible apply moveBoundary_keeps | with_reducible apply modGroup_keeps
      | with_reducible apply each_keepsS | exact fun _ => rfl | (intro t a ht; beta_reduce) | (intro t ht; beta_reduce)
      | (extract_lets +onlyGivenNames x; refine (fun (hx : Keeps kp s0 x) => ?_ : Keeps kp s0 x → _) ?_; (on_goal 2 => subst x); (on_goal 1 => clear_value x))
      | (extract_lets +onlyGivenNames x; clear_value x)
      | split
theorem pressClosed_keeps (c n t : Nat) (h : Keeps kp s0 s) :
    Keeps kp s0 (s.pressClosed c n t) := by
  unfold State.pressClosed
  repeat' first
    | with_reducible assumption | with_reducible apply modLc_keeps | with_reducible apply movePress_keeps
theorem pressLost_keeps (n t : Nat) (again : Bool) (h : Keeps kp s0 s) :
    Keeps kp s0 (s.pressLost n t again) := by
  unfold State.pressLost
  repeat' first
    | with_reducible assumption | with_reducible apply modLc_keeps
theorem closeTicket_keeps (t last : Nat) (h : Keeps kp s0 s) :
    Keeps kp s0 (s.closeTicket t last) := by
  unfold State.closeTicket
  repeat' first
    | with_reducible assumption | exact fun _ => rfl | (intro t a ht; beta_reduce) | (intro t ht; beta_reduce)
    | with_reducible apply modTicket_keeps | with_reducible apply tapRing_keeps | with_reducible apply foldUnit_keeps
    | with_reducible apply foldPoison_keeps | with_reducible apply modLc_keeps | with_reducible apply discard_keeps
    | with_reducible apply emit_keeps | with_reducible apply cancelSlots_keeps | with_reducible apply endTicketStall_keeps
    | with_reducible apply freeReaders_keeps | with_reducible apply endIfLast_keeps | with_reducible apply drainGate_keeps
    | with_reducible apply pressClosed_keeps | with_reducible apply pressLost_keeps | with_reducible apply mirror_keeps
    | (extract_lets +onlyGivenNames x; refine (fun (hx : Keeps kp s0 x) => ?_ : Keeps kp s0 x → _) ?_; (on_goal 2 => subst x); (on_goal 1 => clear_value x))
    | (extract_lets +onlyGivenNames x; clear_value x)
    | split
theorem holdLost_keeps (p t : Nat) (d : Detail) (h : Keeps kp s0 s) :
    Keeps kp s0 (s.holdLost p t d) := by
  unfold State.holdLost
  repeat' first
    | with_reducible assumption | with_reducible apply agentCount_keeps | with_reducible apply closeTicket_keeps
theorem poisonUnit_keeps (p t : Nat) (h : Keeps kp s0 s) :
    Keeps kp s0 (s.poisonUnit p t) := by
  unfold State.poisonUnit
  repeat' first
    | with_reducible assumption | exact fun _ => rfl | (intro t a ht; beta_reduce) | (intro t ht; beta_reduce)
    | with_reducible apply consumePoison_keeps | with_reducible apply holdLost_keeps | with_reducible apply closeTicket_keeps
    | (extract_lets +onlyGivenNames x; refine (fun (hx : Keeps kp s0 x) => ?_ : Keeps kp s0 x → _) ?_; (on_goal 2 => subst x); (on_goal 1 => clear_value x))
    | (extract_lets +onlyGivenNames x; clear_value x)
    | split
theorem accessPad_keeps (core : Nat) (x : SpadAccess) (h : Keeps kp s0 s) :
    Keeps kp s0 (s.accessPad core x) := by
  unfold State.accessPad
  repeat' first
    | with_reducible assumption | exact fun _ => rfl | (intro t a ht; beta_reduce) | (intro t ht; beta_reduce) | with_reducible apply spadEcc_keeps
    | with_reducible apply modCore_keeps | with_reducible apply setStall_keeps | with_reducible apply watchSlots_keeps
    | with_reducible apply watchAll_keeps | with_reducible apply handshake_keeps | with_reducible apply poisonUnit_keeps | (intro g; split <;> rfl)
    | (extract_lets +onlyGivenNames x; refine (fun (hx : Keeps kp s0 x) => ?_ : Keeps kp s0 x → _) ?_; (on_goal 2 => subst x); (on_goal 1 => clear_value x))
    | (extract_lets +onlyGivenNames x; refine (fun (hx : Keeps kp s0 x.1) => ?_ : Keeps kp s0 x.1 → _) ?_; (on_goal 2 => subst x); (on_goal 1 => clear_value x))
    | (extract_lets +onlyGivenNames x; refine (fun (hx : Keeps kp s0 x.2) => ?_ : Keeps kp s0 x.2 → _) ?_; (on_goal 2 => subst x); (on_goal 1 => clear_value x))
    | (extract_lets +onlyGivenNames x; have : ∀ z, x z = x z := fun _ => rfl; clear this; subst x; beta_reduce)
    | (extract_lets +onlyGivenNames x; clear_value x)
    | split
theorem fail_keeps (h : Keeps kp s0 s) :
    Keeps kp s0 (s.fail) := by
  unfold State.fail
  repeat' first
    | with_reducible assumption | with_reducible apply emit_keeps
theorem vatDeny_keeps (h0 : Hub) (h : Keeps kp s0 s) :
    Keeps kp s0 (s.vatDeny h0) := by
  unfold State.vatDeny
  repeat' first
    | with_reducible assumption | with_reducible apply modVat_keeps
theorem forward_keeps (h0 : Hub) (v : Option Word) (priv : Priv) (h : Keeps kp s0 s) :
    Keeps kp s0 (s.forward h0 v priv) := by
  unfold State.forward
  repeat' first
    | with_reducible assumption | exact fun _ => rfl | (intro t a ht; beta_reduce) | (intro t ht; beta_reduce) | with_reducible apply fail_keeps
    | with_reducible apply feltSend_keeps | with_reducible apply modSh_keeps
    | (extract_lets +onlyGivenNames x; refine (fun (hx : Keeps kp s0 x) => ?_ : Keeps kp s0 x → _) ?_; (on_goal 2 => subst x); (on_goal 1 => clear_value x))
    | (extract_lets +onlyGivenNames x; clear_value x)
    | split
theorem vatRead_keeps (h0 : Hub) (off : Nat) (priv : Priv) (h : Keeps kp s0 s) :
    Keeps kp s0 (s.vatRead h0 off priv) := by
  unfold State.vatRead
  repeat' first
    | with_reducible assumption | with_reducible apply emit_keeps | with_reducible apply fail_keeps | with_reducible apply vatDeny_keeps
    | with_reducible apply forward_keeps | with_reducible apply modVat_keeps | split
theorem mtpRead_keeps (p off : Nat) (h : Keeps kp s0 s) :
    Keeps kp s0 (s.mtpRead p off).2 := by
  unfold State.mtpRead
  repeat' first
    | with_reducible assumption | with_reducible apply modCore_keeps | split
theorem cplDeny_keeps (d : Nat) (h : Keeps kp s0 s) :
    Keeps kp s0 (s.cplDeny d) := by
  unfold State.cplDeny
  repeat' first
    | with_reducible assumption | with_reducible apply modDie_keeps
theorem couchRead_keeps (d off : Nat) (priv : Priv) (tag : Option Nat) (h : Keeps kp s0 s) :
    Keeps kp s0 (s.couchRead d off priv tag).2 := by
  unfold State.couchRead
  repeat' first
    | with_reducible assumption | with_reducible apply mtpRead_keeps | with_reducible apply cplDeny_keeps | with_reducible apply modDie_keeps
    | split
theorem accessRead_keeps (a : Access) (h : Keeps kp s0 s) :
    Keeps kp s0 (s.accessRead a) := by
  unfold State.accessRead
  repeat' first
    | with_reducible assumption | exact fun _ => rfl | (intro t a ht; beta_reduce) | (intro t ht; beta_reduce) | with_reducible apply fail_keeps
    | with_reducible apply vatRead_keeps | with_reducible apply modSh_keeps | with_reducible apply couchRead_keeps | with_reducible apply emit_keeps
    | (intro g; split <;> rfl)
    | (extract_lets +onlyGivenNames x; refine (fun (hx : Keeps kp s0 x) => ?_ : Keeps kp s0 x → _) ?_; (on_goal 2 => subst x); (on_goal 1 => clear_value x))
    | (extract_lets +onlyGivenNames x; refine (fun (hx : Keeps kp s0 x.1) => ?_ : Keeps kp s0 x.1 → _) ?_; (on_goal 2 => subst x); (on_goal 1 => clear_value x))
    | (extract_lets +onlyGivenNames x; refine (fun (hx : Keeps kp s0 x.2) => ?_ : Keeps kp s0 x.2 → _) ?_; (on_goal 2 => subst x); (on_goal 1 => clear_value x))
    | (extract_lets +onlyGivenNames x; have : ∀ z, x z = x z := fun _ => rfl; clear this; subst x; beta_reduce)
    | (extract_lets +onlyGivenNames x; clear_value x)
    | split
theorem apStart_keeps (n : Nat) (k : ApSlot) (h : Keeps kp s0 s) :
    Keeps kp s0 (s.apStart n k) := by
  unfold State.apStart
  repeat' first
    | with_reducible assumption | exact fun _ => rfl | (intro t a ht; beta_reduce) | (intro t ht; beta_reduce) | with_reducible apply modSh_keeps
    | with_reducible apply deliver_keeps | (intro g; split <;> rfl)
    | (extract_lets +onlyGivenNames x; refine (fun (hx : Keeps kp s0 x) => ?_ : Keeps kp s0 x → _) ?_; (on_goal 2 => subst x); (on_goal 1 => clear_value x))
    | (extract_lets +onlyGivenNames x; refine (fun (hx : Keeps kp s0 x.1) => ?_ : Keeps kp s0 x.1 → _) ?_; (on_goal 2 => subst x); (on_goal 1 => clear_value x))
    | (extract_lets +onlyGivenNames x; refine (fun (hx : Keeps kp s0 x.2) => ?_ : Keeps kp s0 x.2 → _) ?_; (on_goal 2 => subst x); (on_goal 1 => clear_value x))
    | (extract_lets +onlyGivenNames x; have : ∀ z, x z = x z := fun _ => rfl; clear this; subst x; beta_reduce)
    | (extract_lets +onlyGivenNames x; clear_value x)
    | split
theorem apWrite_keeps (h0 : Hub) (off : Nat) (v : Word) (h : Keeps kp s0 s) :
    Keeps kp s0 (s.apWrite h0 off v) := by
  unfold State.apWrite
  repeat' first
    | with_reducible assumption | exact fun _ => rfl | (intro t a ht; beta_reduce) | (intro t ht; beta_reduce) | with_reducible apply emit_keeps
    | with_reducible apply modVat_keeps | with_reducible apply mirror_keeps | with_reducible apply modSh_keeps | with_reducible apply apStart_keeps
    | (extract_lets +onlyGivenNames x; refine (fun (hx : Keeps kp s0 x) => ?_ : Keeps kp s0 x → _) ?_; (on_goal 2 => subst x); (on_goal 1 => clear_value x))
    | (extract_lets +onlyGivenNames x; clear_value x)
    | split
theorem writeMsi_keeps (f : Shared → Shared) (h : Keeps kp s0 s) :
    Keeps kp s0 (s.writeMsi f) := by
  unfold State.writeMsi
  repeat' first
    | with_reducible assumption | with_reducible apply mirror_keeps | with_reducible apply modSh_keeps | split
theorem vatWriteReg_keeps (h0 : Hub) (off v : Nat) (h : Keeps kp s0 s) :
    Keeps kp s0 (s.vatWriteReg h0 off v) := by
  unfold State.vatWriteReg
  repeat' first
    | with_reducible assumption | with_reducible apply mirror_keeps | with_reducible apply modSh_keeps | with_reducible apply writeMsi_keeps
    | with_reducible apply modVat_keeps | split
theorem vatWrite_keeps (h0 : Hub) (off : Nat) (v : Word) (priv : Priv) (h : Keeps kp s0 s) :
    Keeps kp s0 (s.vatWrite h0 off v priv) := by
  unfold State.vatWrite
  repeat' first
    | with_reducible assumption | with_reducible apply emit_keeps | with_reducible apply apWrite_keeps | with_reducible apply fail_keeps
    | with_reducible apply vatDeny_keeps | with_reducible apply forward_keeps | with_reducible apply vatWriteReg_keeps | split
theorem setVoid_keeps (b : Nat) (h : Keeps kp s0 s) :
    Keeps kp s0 (s.setVoid b) := by
  unfold State.setVoid
  repeat' first
    | with_reducible assumption | exact fun _ => rfl | (intro t a ht; beta_reduce) | (intro t ht; beta_reduce) | with_reducible apply modPkg_keeps
    | with_reducible apply vatCount_keeps | with_reducible apply record_keeps | split
theorem writeCtrl_keeps (p v : Nat) (priv : Priv) (h : Keeps kp s0 s) :
    Keeps kp s0 (s.writeCtrl p v priv) := by
  unfold State.writeCtrl
  repeat' first
    | with_reducible assumption | exact fun _ => rfl | (intro t a ht; beta_reduce) | (intro t ht; beta_reduce) | with_reducible apply modCore_keeps
    | with_reducible apply record_keeps | with_reducible apply modPkg_keeps | with_reducible apply setVoid_keeps
    | (extract_lets +onlyGivenNames x; refine (fun (hx : Keeps kp s0 x) => ?_ : Keeps kp s0 x → _) ?_; (on_goal 2 => subst x); (on_goal 1 => clear_value x))
    | (extract_lets +onlyGivenNames x; clear_value x)
    | split
theorem winReject_keeps (p : Nat) (h : Keeps kp s0 s) :
    Keeps kp s0 (s.winReject p) := by
  unfold State.winReject
  repeat' first
    | with_reducible assumption | with_reducible apply modCore_keeps
theorem setWin_keeps (p : Nat) (w : Win) (h : Keeps kp s0 s) :
    Keeps kp s0 (s.setWin p w) := by
  unfold State.setWin
  repeat' first
    | with_reducible assumption | with_reducible apply modLc_keeps | with_reducible apply modCore_keeps | split
theorem writeWinCmd_keeps (p v : Nat) (priv : Priv) (tag : Option Nat) (h : Keeps kp s0 s) :
    Keeps kp s0 (s.writeWinCmd p v priv tag) := by
  unfold State.writeWinCmd
  repeat' first
    | with_reducible assumption | exact fun _ => rfl | (intro t a ht; beta_reduce) | (intro t ht; beta_reduce) | with_reducible apply setWin_keeps
    | with_reducible apply winReject_keeps
    | (extract_lets +onlyGivenNames x; refine (fun (hx : Keeps kp s0 x) => ?_ : Keeps kp s0 x → _) ?_; (on_goal 2 => subst x); (on_goal 1 => clear_value x))
    | (extract_lets +onlyGivenNames x; clear_value x)
    | split
theorem mtpWrite_keeps (p off v : Nat) (priv : Priv) (tag : Option Nat) (h : Keeps kp s0 s) :
    Keeps kp s0 (s.mtpWrite p off v priv tag) := by
  unfold State.mtpWrite
  repeat' first
    | with_reducible assumption | exact fun _ => rfl | (intro t a ht; beta_reduce) | (intro t ht; beta_reduce)
    | with_reducible apply writeCtrl_keeps | with_reducible apply modCore_keeps | with_reducible apply winReject_keeps
    | with_reducible apply setWin_keeps | with_reducible apply writeWinCmd_keeps
    | (extract_lets +onlyGivenNames x; refine (fun (hx : Keeps kp s0 x) => ?_ : Keeps kp s0 x → _) ?_; (on_goal 2 => subst x); (on_goal 1 => clear_value x))
    | (extract_lets +onlyGivenNames x; clear_value x)
    | split
theorem mtpWriteIn_keeps (p off : Nat) (v : Word) (priv : Priv) (tag : Option Nat) (h : Keeps kp s0 s) :
    Keeps kp s0 (s.mtpWriteIn p off v priv tag) := by
  unfold State.mtpWriteIn
  repeat' first
    | with_reducible assumption | with_reducible apply modCore_keeps | with_reducible apply mtpWrite_keeps | split
theorem couchWrite_keeps (d off : Nat) (v : Word) (priv : Priv) (tag : Option Nat) (h : Keeps kp s0 s) :
    Keeps kp s0 (s.couchWrite d off v priv tag).2 := by
  unfold State.couchWrite
  repeat' first
    | with_reducible assumption | with_reducible apply mtpWriteIn_keeps | with_reducible apply cplDeny_keeps | split
theorem accessWrite_keeps (a : Access) (v : Word) (h : Keeps kp s0 s) :
    Keeps kp s0 (s.accessWrite a v) := by
  unfold State.accessWrite
  repeat' first
    | with_reducible assumption | exact fun _ => rfl | (intro t a ht; beta_reduce) | (intro t ht; beta_reduce) | with_reducible apply fail_keeps
    | with_reducible apply vatWrite_keeps | with_reducible apply modSh_keeps | with_reducible apply couchWrite_keeps
    | with_reducible apply emit_keeps | (intro g; split <;> rfl)
    | (extract_lets +onlyGivenNames x; refine (fun (hx : Keeps kp s0 x) => ?_ : Keeps kp s0 x → _) ?_; (on_goal 2 => subst x); (on_goal 1 => clear_value x))
    | (extract_lets +onlyGivenNames x; refine (fun (hx : Keeps kp s0 x.1) => ?_ : Keeps kp s0 x.1 → _) ?_; (on_goal 2 => subst x); (on_goal 1 => clear_value x))
    | (extract_lets +onlyGivenNames x; refine (fun (hx : Keeps kp s0 x.2) => ?_ : Keeps kp s0 x.2 → _) ?_; (on_goal 2 => subst x); (on_goal 1 => clear_value x))
    | (extract_lets +onlyGivenNames x; have : ∀ z, x z = x z := fun _ => rfl; clear this; subst x; beta_reduce)
    | (extract_lets +onlyGivenNames x; clear_value x)
    | split
theorem releaseHeld_keeps (l : List (Access × Option Word)) (h : Keeps kp s0 s) :
    Keeps kp s0 (s.releaseHeld l) := by
  unfold State.releaseHeld
  repeat' first
    | with_reducible assumption | exact fun _ => rfl | (intro t a ht; beta_reduce) | (intro t ht; beta_reduce) | with_reducible apply each_keepsS
    | with_reducible apply accessWrite_keeps | with_reducible apply accessRead_keeps | split
theorem refuseDepose_keeps (g : Gap) (h : Keeps kp s0 s) :
    Keeps kp s0 (s.refuseDepose g) := by
  unfold State.refuseDepose
  repeat' first
    | with_reducible assumption | with_reducible apply modSh_keeps | with_reducible apply releaseHeld_keeps | with_reducible apply record_keeps
theorem putEpoch_keeps (e : Nat) (r : Hub) (h : Keeps kp s0 s) :
    Keeps kp s0 (s.putEpoch e r) := by
  unfold State.putEpoch
  repeat' first
    | with_reducible assumption | with_reducible apply modVat_keeps
theorem announce_keeps (g : Gap) (h : Keeps kp s0 s) :
    Keeps kp s0 (s.announce g) := by
  unfold State.announce
  repeat' first
    | with_reducible assumption | with_reducible apply modGap_keeps | with_reducible apply modVat_keeps | with_reducible apply putEpoch_keeps
    | with_reducible apply feltSend_keeps
theorem decideDepose_keeps (last : Bool) (h : Keeps kp s0 s) :
    Keeps kp s0 (s.decideDepose last) := by
  unfold State.decideDepose
  repeat' first
    | with_reducible assumption | exact fun _ => rfl | (intro t a ht; beta_reduce) | (intro t ht; beta_reduce)
    | with_reducible apply refuseDepose_keeps | with_reducible apply announce_keeps
    | (extract_lets +onlyGivenNames x; refine (fun (hx : Keeps kp s0 x) => ?_ : Keeps kp s0 x → _) ?_; (on_goal 2 => subst x); (on_goal 1 => clear_value x))
    | (extract_lets +onlyGivenNames x; clear_value x)
    | split
theorem deposeAnswer_keeps (die status reelLo : Nat) (h : Keeps kp s0 s) :
    Keeps kp s0 (s.deposeAnswer die status reelLo) := by
  unfold State.deposeAnswer
  repeat' first
    | with_reducible assumption | with_reducible apply decideDepose_keeps | with_reducible apply modGap_keeps | split
theorem modDist_keeps (kind : Nat) (f : Dist → Dist) (h : Keeps kp s0 s) :
    Keeps kp s0 (s.modDist kind f) := by
  unfold State.modDist
  repeat' first
    | with_reducible assumption | with_reducible apply modSh_keeps
theorem armAcked_keeps (d id : Nat) (h : Keeps kp s0 s) :
    Keeps kp s0 (s.armAcked d id) := by
  unfold State.armAcked
  repeat' first
    | with_reducible assumption | with_reducible apply modDist_keeps | split
theorem dropWm_keeps (d : Nat) (words : List Nat) (h : Keeps kp s0 s) :
    Keeps kp s0 (s.dropWm d words) := by
  unfold State.dropWm
  repeat' first
    | with_reducible assumption | with_reducible apply modDie_keeps
theorem writeInterval_keeps (region : Nat) (i : Interval) (h : Keeps kp s0 s) :
    Keeps kp s0 (s.writeInterval region i) := by
  unfold State.writeInterval
  repeat' first
    | with_reducible assumption | with_reducible apply recordAt_keeps
theorem unholdRegion_keeps (region key : Nat) (h : Keeps kp s0 s) :
    Keeps kp s0 (s.unholdRegion region key) := by
  unfold State.unholdRegion
  repeat' first
    | with_reducible assumption | exact fun _ => rfl | (intro t a ht; beta_reduce) | (intro t ht; beta_reduce) | with_reducible apply modSh_keeps
    | with_reducible apply writeInterval_keeps
    | (extract_lets +onlyGivenNames x; refine (fun (hx : Keeps kp s0 x) => ?_ : Keeps kp s0 x → _) ?_; (on_goal 2 => subst x); (on_goal 1 => clear_value x))
    | (extract_lets +onlyGivenNames x; clear_value x)
    | split
theorem chargeHold_keeps (p b : Nat) (h : Keeps kp s0 s) :
    Keeps kp s0 (s.chargeHold p b) := by
  unfold State.chargeHold
  repeat' first
    | with_reducible assumption | with_reducible apply modCore_keeps
theorem unholdCore_keeps (p key : Nat) (h : Keeps kp s0 s) :
    Keeps kp s0 (s.unholdCore p key) := by
  unfold State.unholdCore
  repeat' first
    | with_reducible assumption | with_reducible apply ringHold_keeps | with_reducible apply modCore_keeps | with_reducible apply unholdRegion_keeps
    | with_reducible apply chargeHold_keeps | split
theorem modFailure_keeps (p : Nat) (f : Triage → Triage) (h : Keeps kp s0 s) :
    Keeps kp s0 (s.modFailure p f) := by
  unfold State.modFailure
  repeat' first
    | with_reducible assumption | with_reducible apply modSh_keeps
theorem dropGate_keeps (n t : Nat) (h : Keeps kp s0 s) :
    Keeps kp s0 (s.dropGate n t) := by
  unfold State.dropGate
  repeat' first
    | with_reducible assumption | with_reducible apply discard_keeps
theorem orderReplay_keeps (p n fromStep toStep : Nat) (l : List Nat) (h : Keeps kp s0 s) :
    Keeps kp s0 (s.orderReplay p n fromStep toStep l) := by
  unfold State.orderReplay
  repeat' first
    | with_reducible assumption | exact fun _ => rfl | (intro t a ht; beta_reduce) | (intro t ht; beta_reduce) | with_reducible apply modCore_keeps
    | with_reducible apply emit_keeps | with_reducible apply each_keepsS | with_reducible apply modTicket_keeps
    | with_reducible apply dropGate_keeps | split
theorem orderA_keeps (t : Triage) (h : Keeps kp s0 s) :
    Keeps kp s0 (s.orderA t) := by
  unfold State.orderA
  repeat' first
    | with_reducible assumption | with_reducible apply orderReplay_keeps
theorem stopRollback_keeps (c g : Nat) (h : Keeps kp s0 s) :
    Keeps kp s0 (s.stopRollback c g) := by
  unfold State.stopRollback
  repeat' first
    | with_reducible assumption | exact fun _ => rfl | (intro t a ht; beta_reduce) | (intro t ht; beta_reduce) | with_reducible apply modGroup_keeps
    | with_reducible apply each_keepsS | with_reducible apply unholdCore_keeps | with_reducible apply movePress_keeps
    | with_reducible apply modFailure_keeps | with_reducible apply orderA_keeps
    | (extract_lets +onlyGivenNames x; refine (fun (hx : Keeps kp s0 x) => ?_ : Keeps kp s0 x → _) ?_; (on_goal 2 => subst x); (on_goal 1 => clear_value x))
    | (extract_lets +onlyGivenNames x; clear_value x)
    | split
theorem unshard_keeps (c n : Nat) (passes : Table Nat) (h : Keeps kp s0 s) :
    Keeps kp s0 (s.unshard c n passes) := by
  unfold State.unshard
  repeat' first
    | with_reducible assumption | exact fun _ => rfl | (intro t a ht; beta_reduce) | (intro t ht; beta_reduce) | with_reducible apply modCtx_keeps
    | with_reducible apply each_keepsS | with_reducible apply modDie_keeps | split
theorem addReplay_keeps (p n len : Nat) (h : Keeps kp s0 s) :
    Keeps kp s0 (s.addReplay p n len) := by
  unfold State.addReplay
  repeat' first
    | with_reducible assumption | with_reducible apply modCore_keeps | with_reducible apply modLc_keeps
theorem rollMember_keeps (c : Nat) (y : Nat × Nat) (h : Keeps kp s0 s) :
    Keeps kp s0 (s.rollMember c y) := by
  unfold State.rollMember
  repeat' first
    | with_reducible assumption | exact fun _ => rfl | (intro t a ht; beta_reduce) | (intro t ht; beta_reduce) | with_reducible apply each_keepsS
    | with_reducible apply closeTicket_keeps | with_reducible apply modLc_keeps | with_reducible apply discard_keeps
    | with_reducible apply unshard_keeps | with_reducible apply addReplay_keeps | with_reducible apply modFailure_keeps
    | with_reducible apply modCore_keeps | with_reducible apply modTicket_keeps | with_reducible apply unholdCore_keeps
    | with_reducible apply emit_keeps | split
theorem recovery_keeps (t : Triage) (outcome core : Nat) (h : Keeps kp s0 s) :
    Keeps kp s0 (s.recovery t outcome core) := by
  unfold State.recovery
  repeat' first
    | with_reducible assumption | with_reducible apply recordAt_keeps
theorem memberRecovered_keeps (t : Triage) (p n span : Nat) (h : Keeps kp s0 s) :
    Keeps kp s0 (s.memberRecovered t p n span) := by
  unfold State.memberRecovered
  repeat' first
    | with_reducible assumption | with_reducible apply recovery_keeps
theorem restoreGroup_keeps (c g : Nat) (h : Keeps kp s0 s) :
    Keeps kp s0 (s.restoreGroup c g) := by
  unfold State.restoreGroup
  repeat' first
    | with_reducible assumption | exact fun _ => rfl | (intro t a ht; beta_reduce) | (intro t ht; beta_reduce) | with_reducible apply each_keepsS
    | with_reducible apply rollMember_keeps | with_reducible apply modGroup_keeps | with_reducible apply record_keeps
    | with_reducible apply vatCount_keeps | with_reducible apply memberRecovered_keeps | with_reducible apply orderA_keeps
    | with_reducible apply mirror_keeps | split
theorem rollStep_keeps (c g : Nat) (h : Keeps kp s0 s) :
    Keeps kp s0 (s.rollStep c g) := by
  unfold State.rollStep
  repeat' first
    | with_reducible assumption | exact fun _ => rfl | (intro t a ht; beta_reduce) | (intro t ht; beta_reduce)
    | with_reducible apply stopRollback_keeps | with_reducible apply modGroup_keeps | with_reducible apply each_keepsS
    | with_reducible apply vatSend_keeps | with_reducible apply mirror_keeps | with_reducible apply restoreGroup_keeps
    | (extract_lets +onlyGivenNames x; refine (fun (hx : Keeps kp s0 x) => ?_ : Keeps kp s0 x → _) ?_; (on_goal 2 => subst x); (on_goal 1 => clear_value x))
    | (extract_lets +onlyGivenNames x; clear_value x)
    | split
theorem rollAll_keeps (h : Keeps kp s0 s) :
    Keeps kp s0 (s.rollAll) := by
  unfold State.rollAll
  repeat' first
    | with_reducible assumption | exact fun _ => rfl | (intro t a ht; beta_reduce) | (intro t ht; beta_reduce) | with_reducible apply each_keepsS
    | with_reducible apply rollStep_keeps | split
theorem ackEffect_keeps (w : Pend) (d status reelLo : Nat) (h : Keeps kp s0 s) :
    Keeps kp s0 (s.ackEffect w d status reelLo) := by
  unfold State.ackEffect
  repeat' first
    | with_reducible assumption | with_reducible apply deposeAnswer_keeps | with_reducible apply armAcked_keeps | with_reducible apply dropWm_keeps
    | with_reducible apply rollAll_keeps | split
theorem modFlash_keeps (kind : Nat) (f : FlashKind → FlashKind) (h : Keeps kp s0 s) :
    Keeps kp s0 (s.modFlash kind f) := by
  unfold State.modFlash
  repeat' first
    | with_reducible assumption | exact fun _ => rfl | (intro t a ht; beta_reduce) | (intro t ht; beta_reduce) | with_reducible apply modPkg_keeps
    | split
theorem clearVoid_keeps (b : Nat) (h : Keeps kp s0 s) :
    Keeps kp s0 (s.clearVoid b) := by
  unfold State.clearVoid
  repeat' first
    | with_reducible assumption | exact fun _ => rfl | (intro t a ht; beta_reduce) | (intro t ht; beta_reduce) | with_reducible apply modPkg_keeps
    | with_reducible apply record_keeps
    | (extract_lets +onlyGivenNames x; refine (fun (hx : Keeps kp s0 x) => ?_ : Keeps kp s0 x → _) ?_; (on_goal 2 => subst x); (on_goal 1 => clear_value x))
    | (extract_lets +onlyGivenNames x; clear_value x)
    | split
theorem finishDist_keeps (x : Dist) (h : Keeps kp s0 s) :
    Keeps kp s0 (s.finishDist x) := by
  unfold State.finishDist
  repeat' first
    | with_reducible assumption | exact fun _ => rfl | (intro t a ht; beta_reduce) | (intro t ht; beta_reduce) | with_reducible apply modSh_keeps
    | with_reducible apply distDone_keeps | with_reducible apply modPkg_keeps | with_reducible apply modFlash_keeps
    | with_reducible apply endCommit_keeps | with_reducible apply record_keeps | with_reducible apply clearVoid_keeps | (intro g; split <;> rfl)
    | (extract_lets +onlyGivenNames x; refine (fun (hx : Keeps kp s0 x) => ?_ : Keeps kp s0 x → _) ?_; (on_goal 2 => subst x); (on_goal 1 => clear_value x))
    | (extract_lets +onlyGivenNames x; refine (fun (hx : Keeps kp s0 x.1) => ?_ : Keeps kp s0 x.1 → _) ?_; (on_goal 2 => subst x); (on_goal 1 => clear_value x))
    | (extract_lets +onlyGivenNames x; refine (fun (hx : Keeps kp s0 x.2) => ?_ : Keeps kp s0 x.2 → _) ?_; (on_goal 2 => subst x); (on_goal 1 => clear_value x))
    | (extract_lets +onlyGivenNames x; have : ∀ z, x z = x z := fun _ => rfl; clear this; subst x; beta_reduce)
    | (extract_lets +onlyGivenNames x; clear_value x)
    | split
theorem activated_keeps (kind d count : Nat) (h : Keeps kp s0 s) :
    Keeps kp s0 (s.activated kind d count) := by
  unfold State.activated
  repeat' first
    | with_reducible assumption | exact fun _ => rfl | (intro t a ht; beta_reduce) | (intro t ht; beta_reduce) | with_reducible apply modDist_keeps
    | with_reducible apply finishDist_keeps
    | (extract_lets +onlyGivenNames x; refine (fun (hx : Keeps kp s0 x) => ?_ : Keeps kp s0 x → _) ?_; (on_goal 2 => subst x); (on_goal 1 => clear_value x))
    | (extract_lets +onlyGivenNames x; clear_value x)
    | split
theorem activate_keeps (d kind : Nat) (x : Staging) (count : Nat) (h : Keeps kp s0 s) :
    Keeps kp s0 (s.activate d kind x count) := by
  unfold State.activate
  repeat' first
    | with_reducible assumption | with_reducible apply modFurnish_keeps | with_reducible apply activated_keeps | split
theorem modBeater_keeps (d : Nat) (f : Beater → Beater) (h : Keeps kp s0 s) :
    Keeps kp s0 (s.modBeater d f) := by
  unfold State.modBeater
  repeat' first
    | with_reducible assumption | with_reducible apply modDie_keeps
theorem beginBeat_keeps (d : Nat) (t : Nat × Nat × Nat) (h : Keeps kp s0 s) :
    Keeps kp s0 (s.beginBeat d t) := by
  unfold State.beginBeat
  repeat' first
    | with_reducible assumption | with_reducible apply modBeater_keeps
theorem adopt_keeps (d : Nat) (h : Keeps kp s0 s) :
    Keeps kp s0 (s.adopt d) := by
  unfold State.adopt
  repeat' first
    | with_reducible assumption | exact fun _ => rfl | (intro t a ht; beta_reduce) | (intro t ht; beta_reduce)
    | with_reducible apply modFurnish_keeps | with_reducible apply beginBeat_keeps
    | (extract_lets +onlyGivenNames x; refine (fun (hx : Keeps kp s0 x) => ?_ : Keeps kp s0 x → _) ?_; (on_goal 2 => subst x); (on_goal 1 => clear_value x))
    | (extract_lets +onlyGivenNames x; clear_value x)
    | split
theorem replayOpen_keeps (n p freeze : Nat) (h : Keeps kp s0 s) :
    Keeps kp s0 (s.replayOpen n p freeze) := by
  unfold State.replayOpen
  repeat' first
    | with_reducible assumption | exact fun _ => rfl | (intro t a ht; beta_reduce) | (intro t ht; beta_reduce) | with_reducible apply each_keepsS
    | with_reducible apply modTicket_keeps | with_reducible apply orderReplay_keeps | split
theorem modTriage_keeps (p : Nat) (f : Triage → Triage) (h : Keeps kp s0 s) :
    Keeps kp s0 (s.modTriage p f) := by
  unfold State.modTriage
  repeat' first
    | with_reducible assumption | with_reducible apply modSh_keeps
theorem orderFill_keeps (n src dst : Nat) (zeros : Bool) (h : Keeps kp s0 s) :
    Keeps kp s0 (s.orderFill n src dst zeros) := by
  unfold State.orderFill
  repeat' first
    | with_reducible assumption | with_reducible apply emit_keeps | with_reducible apply modLc_keeps
theorem triageFill_keeps (t : Triage) (q : Nat × Bool) (h : Keeps kp s0 s) :
    Keeps kp s0 (s.triageFill t q) := by
  unfold State.triageFill
  repeat' first
    | with_reducible assumption | with_reducible apply orderFill_keeps | with_reducible apply modTriage_keeps
theorem verdictRec_keeps (t : Triage) (v : Nat) (h : Keeps kp s0 s) :
    Keeps kp s0 (s.verdictRec t v) := by
  unfold State.verdictRec
  repeat' first
    | with_reducible assumption | with_reducible apply record_keeps
theorem reportFault_keeps (p t n c layer oper source : Nat) (h : Keeps kp s0 s) :
    Keeps kp s0 (s.reportFault p t n c layer oper source) := by
  unfold State.reportFault
  repeat' first
    | with_reducible assumption | with_reducible apply toVat_keeps
theorem noteCompare_keeps (t offset : Nat) (h : Keeps kp s0 s) :
    Keeps kp s0 (s.noteCompare t offset) := by
  unfold State.noteCompare
  repeat' first
    | with_reducible assumption | exact fun _ => rfl | (intro t a ht; beta_reduce) | (intro t ht; beta_reduce) | with_reducible apply modSh_keeps
    | (extract_lets +onlyGivenNames x; refine (fun (hx : Keeps kp s0 x) => ?_ : Keeps kp s0 x → _) ?_; (on_goal 2 => subst x); (on_goal 1 => clear_value x))
    | (extract_lets +onlyGivenNames x; clear_value x)
    | split
theorem freezeCore_keeps (p : Nat) (h : Keeps kp s0 s) :
    Keeps kp s0 (s.freezeCore p) := by
  unfold State.freezeCore
  repeat' first
    | with_reducible assumption | with_reducible apply holdCore_keeps | with_reducible apply modCore_keeps
theorem failUnit_keeps (p n t offset : Nat) (h : Keeps kp s0 s) :
    Keeps kp s0 (s.failUnit p n t offset) := by
  unfold State.failUnit
  repeat' first
    | with_reducible assumption | exact fun _ => rfl | (intro t a ht; beta_reduce) | (intro t ht; beta_reduce)
    | with_reducible apply reportFault_keeps | with_reducible apply noteCompare_keeps | with_reducible apply modTicket_keeps
    | with_reducible apply mirror_keeps | with_reducible apply each_keepsS | with_reducible apply modLc_keeps
    | with_reducible apply freezeCore_keeps
    | (extract_lets +onlyGivenNames x; refine (fun (hx : Keeps kp s0 x) => ?_ : Keeps kp s0 x → _) ?_; (on_goal 2 => subst x); (on_goal 1 => clear_value x))
    | (extract_lets +onlyGivenNames x; clear_value x)
    | split
theorem checkFail_keeps (t offset : Nat) (r : FailRegs) (h : Keeps kp s0 s) :
    Keeps kp s0 (s.checkFail t offset r) := by
  unfold State.checkFail
  repeat' first
    | with_reducible assumption | exact fun _ => rfl | (intro t a ht; beta_reduce) | (intro t ht; beta_reduce)
    | with_reducible apply agentCount_keeps | with_reducible apply modTicket_keeps | with_reducible apply failRegs_keeps
    | with_reducible apply tapRing_keeps | with_reducible apply failUnit_keeps
    | (extract_lets +onlyGivenNames x; refine (fun (hx : Keeps kp s0 x) => ?_ : Keeps kp s0 x → _) ?_; (on_goal 2 => subst x); (on_goal 1 => clear_value x))
    | (extract_lets +onlyGivenNames x; clear_value x)
    | split
theorem partDone_keeps (t m : Nat) (h : Keeps kp s0 s) :
    Keeps kp s0 (s.partDone t m) := by
  unfold State.partDone
  repeat' first
    | with_reducible assumption | exact fun _ => rfl | (intro t a ht; beta_reduce) | (intro t ht; beta_reduce)
    | with_reducible apply modTicket_keeps | with_reducible apply closeTicket_keeps | with_reducible apply drainGate_keeps
    | (extract_lets +onlyGivenNames x; refine (fun (hx : Keeps kp s0 x) => ?_ : Keeps kp s0 x → _) ?_; (on_goal 2 => subst x); (on_goal 1 => clear_value x))
    | (extract_lets +onlyGivenNames x; clear_value x)
    | split
theorem checkTally_keeps (t : Nat) (x : List Nat × Nat × Nat) (h : Keeps kp s0 s) :
    Keeps kp s0 (s.checkTally t x) := by
  unfold State.checkTally
  repeat' first
    | with_reducible assumption | with_reducible apply checkFail_keeps | with_reducible apply partDone_keeps | split
theorem waitedTallies_keeps (c : Nat) (h : Keeps kp s0 s) :
    Keeps kp s0 (s.waitedTallies c) := by
  unfold State.waitedTallies
  repeat' first
    | with_reducible assumption | exact fun _ => rfl | (intro t a ht; beta_reduce) | (intro t ht; beta_reduce) | with_reducible apply each_keepsS
    | with_reducible apply checkTally_keeps | with_reducible apply modTicket_keeps | split
theorem unmark_keeps (c n : Nat) (h : Keeps kp s0 s) :
    Keeps kp s0 (s.unmark c n) := by
  unfold State.unmark
  repeat' first
    | with_reducible assumption | exact fun _ => rfl | (intro t a ht; beta_reduce) | (intro t ht; beta_reduce) | with_reducible apply each_keepsS
    | with_reducible apply modLc_keeps | with_reducible apply setStall_keeps
    | (extract_lets +onlyGivenNames x; refine (fun (hx : Keeps kp s0 x) => ?_ : Keeps kp s0 x → _) ?_; (on_goal 2 => subst x); (on_goal 1 => clear_value x))
    | (extract_lets +onlyGivenNames x; clear_value x)
    | split
theorem endTriage_keeps (t : Triage) (v outcome core : Nat) (h : Keeps kp s0 s) :
    Keeps kp s0 (s.endTriage t v outcome core) := by
  unfold State.endTriage
  repeat' first
    | with_reducible assumption | exact fun _ => rfl | (intro t a ht; beta_reduce) | (intro t ht; beta_reduce) | with_reducible apply modSh_keeps
    | with_reducible apply recovery_keeps | with_reducible apply verdictRec_keeps | with_reducible apply mirror_keeps
    | with_reducible apply waitedTallies_keeps | with_reducible apply unmark_keeps | with_reducible apply requestReset_keeps
    | with_reducible apply modCore_keeps
    | (extract_lets +onlyGivenNames x; refine (fun (hx : Keeps kp s0 x) => ?_ : Keeps kp s0 x → _) ?_; (on_goal 2 => subst x); (on_goal 1 => clear_value x))
    | (extract_lets +onlyGivenNames x; clear_value x)
    | split
theorem queueBeat_keeps (p kind why : Nat) (h : Keeps kp s0 s) :
    Keeps kp s0 (s.queueBeat p kind why) := by
  unfold State.queueBeat
  repeat' first
    | with_reducible assumption | with_reducible apply modDie_keeps
theorem triageBeat_keeps (p why : Nat) (h : Keeps kp s0 s) :
    Keeps kp s0 (s.triageBeat p why) := by
  unfold State.triageBeat
  repeat' first
    | with_reducible assumption | with_reducible apply modDie_keeps | with_reducible apply queueBeat_keeps | split
theorem applyVerdict_keeps (t : Nat) (pass : Bool) (h : Keeps kp s0 s) :
    Keeps kp s0 (s.applyVerdict t pass) := by
  unfold State.applyVerdict
  repeat' first
    | with_reducible assumption | with_reducible apply partDone_keeps | with_reducible apply checkFail_keeps | split
theorem takeVerdict_keeps (t : Nat) (pass : Bool) (h : Keeps kp s0 s) :
    Keeps kp s0 (s.takeVerdict t pass) := by
  unfold State.takeVerdict
  repeat' first
    | with_reducible assumption | with_reducible apply modCore_keeps | with_reducible apply applyVerdict_keeps | split
theorem handshakeParked_keeps (p : Nat) (reasons : List Nat) (h : Keeps kp s0 s) :
    Keeps kp s0 (s.handshakeParked p reasons) := by
  unfold State.handshakeParked
  repeat' first
    | with_reducible assumption | with_reducible apply handshake_keeps | split
theorem deliverXfer_keeps (x : Xfer) (h : Keeps kp s0 s) :
    Keeps kp s0 (s.deliverXfer x) := by
  unfold State.deliverXfer
  repeat' first
    | with_reducible assumption | with_reducible apply agentCount_keeps | with_reducible apply modCore_keeps
    | with_reducible apply handshakeParked_keeps | with_reducible apply handshake_keeps | split
theorem applyKept_keeps (p : Nat) (h : Keeps kp s0 s) :
    Keeps kp s0 (s.applyKept p) := by
  unfold State.applyKept
  repeat' first
    | with_reducible assumption | exact fun _ => rfl | (intro t a ht; beta_reduce) | (intro t ht; beta_reduce) | with_reducible apply each_keepsS
    | with_reducible apply mtpWriteIn_keeps | with_reducible apply takeVerdict_keeps | with_reducible apply modCore_keeps
    | with_reducible apply accessPad_keeps | with_reducible apply deliverXfer_keeps | with_reducible apply modLc_keeps | split
theorem unpark_keeps (p : Nat) (h : Keeps kp s0 s) :
    Keeps kp s0 (s.unpark p) := by
  unfold State.unpark
  repeat' first
    | with_reducible assumption | with_reducible apply applyKept_keeps | with_reducible apply tapRing_keeps | with_reducible apply modCore_keeps
    | split
theorem freePark_keeps (p : Nat) (h : Keeps kp s0 s) :
    Keeps kp s0 (s.freePark p) := by
  unfold State.freePark
  repeat' first
    | with_reducible assumption | exact fun _ => rfl | (intro t a ht; beta_reduce) | (intro t ht; beta_reduce) | with_reducible apply unpark_keeps
    | (extract_lets +onlyGivenNames x; refine (fun (hx : Keeps kp s0 x) => ?_ : Keeps kp s0 x → _) ?_; (on_goal 2 => subst x); (on_goal 1 => clear_value x))
    | (extract_lets +onlyGivenNames x; clear_value x)
    | split
theorem thawCore_keeps (p : Nat) (h : Keeps kp s0 s) :
    Keeps kp s0 (s.thawCore p) := by
  unfold State.thawCore
  repeat' first
    | with_reducible assumption | with_reducible apply unholdCore_keeps | with_reducible apply modCore_keeps
theorem setHome_keeps (d i w : Nat) (h : Keeps kp s0 s) :
    Keeps kp s0 (s.setHome d i w) := by
  unfold State.setHome
  repeat' first
    | with_reducible assumption | with_reducible apply modSlice_keeps | split
theorem unplace_keeps (n : Nat) (h : Keeps kp s0 s) :
    Keeps kp s0 (s.unplace n) := by
  unfold State.unplace
  repeat' first
    | with_reducible assumption | with_reducible apply setHome_keeps
theorem releaseXfers_keeps (n : Nat) (h : Keeps kp s0 s) :
    Keeps kp s0 (s.releaseXfers n) := by
  unfold State.releaseXfers
  repeat' first
    | with_reducible assumption | exact fun _ => rfl | (intro t a ht; beta_reduce) | (intro t ht; beta_reduce) | with_reducible apply each_keepsS
    | with_reducible apply deliverXfer_keeps | with_reducible apply modLc_keeps | with_reducible apply handshake_keeps | split
theorem faultCtx_keeps (c layer oper : Nat) (h : Keeps kp s0 s) :
    Keeps kp s0 (s.faultCtx c layer oper) := by
  unfold State.faultCtx
  repeat' first
    | with_reducible assumption | with_reducible apply vatCount_keeps | split
theorem checkDeckle_keeps (d : Nat) (h : Keeps kp s0 s) :
    Keeps kp s0 (s.checkDeckle d) := by
  unfold State.checkDeckle
  repeat' first
    | with_reducible assumption | with_reducible apply vatCount_keeps | with_reducible apply modSh_keeps | split
theorem checkHome_keeps (d : Nat) (h : Keeps kp s0 s) :
    Keeps kp s0 (s.checkHome d) := by
  unfold State.checkHome
  repeat' first
    | with_reducible assumption | with_reducible apply agentCount_keeps | with_reducible apply checkDeckle_keeps | split
theorem takeDown_keeps (n old oldState cause : Nat) (h : Keeps kp s0 s) :
    Keeps kp s0 (s.takeDown n old oldState cause) := by
  unfold State.takeDown
  repeat' first
    | with_reducible assumption | exact fun _ => rfl | (intro t a ht; beta_reduce) | (intro t ht; beta_reduce) | with_reducible apply modCore_keeps
    | with_reducible apply freePark_keeps | with_reducible apply fenceCore_keeps | with_reducible apply unholdCore_keeps
    | with_reducible apply thawCore_keeps | with_reducible apply unplace_keeps | with_reducible apply releaseXfers_keeps
    | with_reducible apply modSh_keeps | with_reducible apply each_keepsS | with_reducible apply faultCtx_keeps
    | with_reducible apply checkHome_keeps | with_reducible apply mirror_keeps | split
theorem exhaust_keeps (n old oldState cause : Nat) (h : Keeps kp s0 s) :
    Keeps kp s0 (s.exhaust n old oldState cause) := by
  unfold State.exhaust
  repeat' first
    | with_reducible assumption | with_reducible apply takeDown_keeps | with_reducible apply record_keeps
theorem leaveCore_keeps (t : Triage) (h : Keeps kp s0 s) :
    Keeps kp s0 (s.leaveCore t) := by
  unfold State.leaveCore
  repeat' first
    | with_reducible assumption | with_reducible apply modSh_keeps | with_reducible apply exhaust_keeps | with_reducible apply takeDown_keeps
    | split
theorem placeNext_keeps (t : Triage) (v : Nat) (h : Keeps kp s0 s) :
    Keeps kp s0 (s.placeNext t v) := by
  unfold State.placeNext
  repeat' first
    | with_reducible assumption | with_reducible apply replayOpen_keeps | with_reducible apply modTriage_keeps
    | with_reducible apply triageFill_keeps | with_reducible apply endTriage_keeps | with_reducible apply triageBeat_keeps
    | with_reducible apply leaveCore_keeps | split
theorem orderB_keeps (t : Triage) (q : Nat) (h : Keeps kp s0 s) :
    Keeps kp s0 (s.orderB t q) := by
  unfold State.orderB
  repeat' first
    | with_reducible assumption | with_reducible apply orderReplay_keeps | with_reducible apply modTriage_keeps
theorem callB_keeps (t : Triage) (h : Keeps kp s0 s) :
    Keeps kp s0 (s.callB t) := by
  unfold State.callB
  repeat' first
    | with_reducible assumption | with_reducible apply orderB_keeps | with_reducible apply triageFill_keeps | with_reducible apply modTriage_keeps
    | split
theorem askPool_keeps (d : Nat) (h : Keeps kp s0 s) :
    Keeps kp s0 (s.askPool d) := by
  unfold State.askPool
  repeat' first
    | with_reducible assumption | with_reducible apply toVat_keeps | with_reducible apply modDie_keeps | split
theorem takePool_keeps (c n : Nat) (d : List Nat) (rseq part : Nat) (h : Keeps kp s0 s) :
    Keeps kp s0 (s.takePool c n d rseq part).2 := by
  unfold State.takePool
  repeat' first
    | with_reducible assumption | exact fun _ => rfl | (intro t a ht; beta_reduce) | (intro t ht; beta_reduce) | with_reducible apply askPool_keeps
    | with_reducible apply modTicket_keeps | with_reducible apply mirror_keeps
    | (extract_lets +onlyGivenNames x; refine (fun (hx : Keeps kp s0 x) => ?_ : Keeps kp s0 x → _) ?_; (on_goal 2 => subst x); (on_goal 1 => clear_value x))
    | (extract_lets +onlyGivenNames x; clear_value x)
    | split
theorem takePools_keeps (t : Nat) (h : Keeps kp s0 s) :
    Keeps kp s0 (s.takePools t) := by
  unfold State.takePools
  repeat' first
    | with_reducible assumption | exact fun _ => rfl | (intro t a ht; beta_reduce) | (intro t ht; beta_reduce) | with_reducible apply each_keepsS
    | with_reducible apply takePool_keeps | with_reducible apply modTicket_keeps | (intro g; split <;> rfl)
    | (extract_lets +onlyGivenNames x; refine (fun (hx : Keeps kp s0 x) => ?_ : Keeps kp s0 x → _) ?_; (on_goal 2 => subst x); (on_goal 1 => clear_value x))
    | (extract_lets +onlyGivenNames x; refine (fun (hx : Keeps kp s0 x.1) => ?_ : Keeps kp s0 x.1 → _) ?_; (on_goal 2 => subst x); (on_goal 1 => clear_value x))
    | (extract_lets +onlyGivenNames x; refine (fun (hx : Keeps kp s0 x.2) => ?_ : Keeps kp s0 x.2 → _) ?_; (on_goal 2 => subst x); (on_goal 1 => clear_value x))
    | (extract_lets +onlyGivenNames x; have : ∀ z, x z = x z := fun _ => rfl; clear this; subst x; beta_reduce)
    | (extract_lets +onlyGivenNames x; clear_value x)
    | split
theorem servePool_keeps (d : Nat) (h : Keeps kp s0 s) :
    Keeps kp s0 (s.servePool d) := by
  unfold State.servePool
  repeat' first
    | with_reducible assumption | exact fun _ => rfl | (intro t a ht; beta_reduce) | (intro t ht; beta_reduce) | with_reducible apply each_keepsS
    | with_reducible apply takePools_keeps
    | (extract_lets +onlyGivenNames x; refine (fun (hx : Keeps kp s0 x) => ?_ : Keeps kp s0 x → _) ?_; (on_goal 2 => subst x); (on_goal 1 => clear_value x))
    | (extract_lets +onlyGivenNames x; clear_value x)
    | split
theorem freePool_keeps (t : Nat) (last : Option Nat) (h : Keeps kp s0 s) :
    Keeps kp s0 (s.freePool t last) := by
  unfold State.freePool
  repeat' first
    | with_reducible assumption | with_reducible apply servePool_keeps | with_reducible apply modTicket_keeps | split
theorem endPool_keeps (l : List Nat) (part : Nat) (last : Option Nat) (h : Keeps kp s0 s) :
    Keeps kp s0 (s.endPool l part last) := by
  unfold State.endPool
  repeat' first
    | with_reducible assumption | exact fun _ => rfl | (intro t a ht; beta_reduce) | (intro t ht; beta_reduce) | with_reducible apply freePool_keeps
    | with_reducible apply each_keepsS | with_reducible apply modTicket_keeps | split
theorem failPool_keeps (t part : Nat) (h : Keeps kp s0 s) :
    Keeps kp s0 (s.failPool t part) := by
  unfold State.failPool
  repeat' first
    | with_reducible assumption | with_reducible apply modTicket_keeps | split
theorem agree_keeps (t part : Nat) (digest : List Nat) (h : Keeps kp s0 s) :
    Keeps kp s0 (s.agree t part digest) := by
  unfold State.agree
  repeat' first
    | with_reducible assumption | with_reducible apply modTicket_keeps
theorem giveVerdict_keeps (cross : Bool) (t : Nat) (pass : Bool) (h : Keeps kp s0 s) :
    Keeps kp s0 (s.giveVerdict cross t pass) := by
  unfold State.giveVerdict
  repeat' first
    | with_reducible assumption | with_reducible apply vatSend_keeps | with_reducible apply takeVerdict_keeps | split
theorem gateDecides_keeps (c : Nat) (h : Keeps kp s0 s) :
    Keeps kp s0 (s.gateDecides c) := by
  unfold State.gateDecides
  repeat' first
    | with_reducible assumption | exact fun _ => rfl | (intro t a ht; beta_reduce) | (intro t ht; beta_reduce) | with_reducible apply each_keepsS
    | with_reducible apply draw_keeps | with_reducible apply modLc_keeps | with_reducible apply drainGate_keeps
    | with_reducible apply partDone_keeps | with_reducible apply modTicket_keeps | with_reducible apply closeTicket_keeps
    | with_reducible apply dropGate_keeps | (intro g; split <;> rfl)
    | (extract_lets +onlyGivenNames x; refine (fun (hx : Keeps kp s0 x) => ?_ : Keeps kp s0 x → _) ?_; (on_goal 2 => subst x); (on_goal 1 => clear_value x))
    | (extract_lets +onlyGivenNames x; refine (fun (hx : Keeps kp s0 x.1) => ?_ : Keeps kp s0 x.1 → _) ?_; (on_goal 2 => subst x); (on_goal 1 => clear_value x))
    | (extract_lets +onlyGivenNames x; refine (fun (hx : Keeps kp s0 x.2) => ?_ : Keeps kp s0 x.2 → _) ?_; (on_goal 2 => subst x); (on_goal 1 => clear_value x))
    | (extract_lets +onlyGivenNames x; have : ∀ z, x z = x z := fun _ => rfl; clear this; subst x; beta_reduce)
    | (extract_lets +onlyGivenNames x; clear_value x)
    | split
theorem pairFail_keeps (own other : PairReport) (h : Keeps kp s0 s) :
    Keeps kp s0 (s.pairFail own other) := by
  unfold State.pairFail
  repeat' first
    | with_reducible assumption | with_reducible apply modTicket_keeps | with_reducible apply checkFail_keeps | split
theorem comparePair_keeps (x y : PairReport) (cross : Bool) (h : Keeps kp s0 s) :
    Keeps kp s0 (s.comparePair x y cross) := by
  unfold State.comparePair
  repeat' first
    | with_reducible assumption | exact fun _ => rfl | (intro t a ht; beta_reduce) | (intro t ht; beta_reduce) | with_reducible apply endPool_keeps
    | with_reducible apply failPool_keeps | with_reducible apply agree_keeps | with_reducible apply giveVerdict_keeps
    | with_reducible apply gateDecides_keeps | with_reducible apply pairFail_keeps
    | (extract_lets +onlyGivenNames x; refine (fun (hx : Keeps kp s0 x) => ?_ : Keeps kp s0 x → _) ?_; (on_goal 2 => subst x); (on_goal 1 => clear_value x))
    | (extract_lets +onlyGivenNames x; clear_value x)
    | split
theorem decideGroup_keeps (l : List LaidReport) (cross : Bool) (h : Keeps kp s0 s) :
    Keeps kp s0 (s.decideGroup l cross) := by
  unfold State.decideGroup
  repeat' first
    | with_reducible assumption | exact fun _ => rfl | (intro t a ht; beta_reduce) | (intro t ht; beta_reduce) | with_reducible apply endPool_keeps
    | with_reducible apply failPool_keeps | with_reducible apply each_keepsS | with_reducible apply giveVerdict_keeps
    | with_reducible apply agree_keeps | with_reducible apply checkFail_keeps
    | (extract_lets +onlyGivenNames x; refine (fun (hx : Keeps kp s0 x) => ?_ : Keeps kp s0 x → _) ?_; (on_goal 2 => subst x); (on_goal 1 => clear_value x))
    | (extract_lets +onlyGivenNames x; clear_value x)
    | split
theorem settle_keeps (n : Nat) (h : Keeps kp s0 s) : Keeps kp s0 (State.settle n s) := by
  induction n generalizing s with
  | zero => exact h | succ k0 ih =>
    unfold State.settle
    repeat' first
      | with_reducible assumption | with_reducible apply ih | with_reducible apply comparePair_keeps | with_reducible apply decideGroup_keeps
      | with_reducible apply modSh_keeps | exact fun _ => rfl | (intro t a ht; beta_reduce) | (intro t ht; beta_reduce)
      | (extract_lets +onlyGivenNames x; refine (fun (hx : Keeps kp s0 x) => ?_ : Keeps kp s0 x → _) ?_; (on_goal 2 => subst x); (on_goal 1 => clear_value x))
      | (extract_lets +onlyGivenNames x; clear_value x)
      | split
theorem settleAll_keeps (h : Keeps kp s0 s) :
    Keeps kp s0 (s.settleAll) := by
  unfold State.settleAll
  repeat' first
    | with_reducible assumption | with_reducible apply settle_keeps
theorem resumeCore_keeps (p : Nat) (h : Keeps kp s0 s) :
    Keeps kp s0 (s.resumeCore p) := by
  unfold State.resumeCore
  repeat' first
    | with_reducible assumption | with_reducible apply thawCore_keeps | split
theorem passVerdict_keeps (t : Nat) (h : Keeps kp s0 s) :
    Keeps kp s0 (s.passVerdict t) := by
  unfold State.passVerdict
  repeat' first
    | with_reducible assumption | exact fun _ => rfl | (intro t a ht; beta_reduce) | (intro t ht; beta_reduce)
    | with_reducible apply modTicket_keeps | with_reducible apply closeTicket_keeps
    | (extract_lets +onlyGivenNames x; refine (fun (hx : Keeps kp s0 x) => ?_ : Keeps kp s0 x → _) ?_; (on_goal 2 => subst x); (on_goal 1 => clear_value x))
    | (extract_lets +onlyGivenNames x; clear_value x)
    | split
theorem reopenUnit_keeps (t part : Nat) (digest : List Nat) (h : Keeps kp s0 s) :
    Keeps kp s0 (s.reopenUnit t part digest) := by
  unfold State.reopenUnit
  repeat' first
    | with_reducible assumption | with_reducible apply agree_keeps | with_reducible apply modTicket_keeps | with_reducible apply dropGate_keeps
    | split
theorem disposeUnit_keeps (t : Triage) (h : Keeps kp s0 s) :
    Keeps kp s0 (s.disposeUnit t) := by
  unfold State.disposeUnit
  repeat' first
    | with_reducible assumption | with_reducible apply reopenUnit_keeps | with_reducible apply passVerdict_keeps | split
theorem verdictFor_keeps (t : Triage) (v : Nat) (h : Keeps kp s0 s) :
    Keeps kp s0 (s.verdictFor t v) := by
  unfold State.verdictFor
  repeat' first
    | with_reducible assumption | exact fun _ => rfl | (intro t a ht; beta_reduce) | (intro t ht; beta_reduce)
    | with_reducible apply modTriage_keeps | with_reducible apply settleAll_keeps | with_reducible apply each_keepsS
    | with_reducible apply endPool_keeps | with_reducible apply endTriage_keeps | with_reducible apply resumeCore_keeps
    | with_reducible apply releaseXfers_keeps | with_reducible apply passVerdict_keeps | with_reducible apply triageBeat_keeps
    | with_reducible apply placeNext_keeps | with_reducible apply disposeUnit_keeps | with_reducible apply closeTicket_keeps
    | with_reducible apply leaveCore_keeps | with_reducible apply fenceCore_keeps | with_reducible apply faultCtx_keeps
    | with_reducible apply vatCount_keeps | split
theorem advanceOne_keeps (t : Triage) (h : Keeps kp s0 s) :
    Keeps kp s0 (s.advanceOne t) := by
  unfold State.advanceOne
  repeat' first
    | with_reducible assumption | exact fun _ => rfl | (intro t a ht; beta_reduce) | (intro t ht; beta_reduce) | with_reducible apply callB_keeps
    | with_reducible apply verdictFor_keeps
    | (extract_lets +onlyGivenNames x; refine (fun (hx : Keeps kp s0 x) => ?_ : Keeps kp s0 x → _) ?_; (on_goal 2 => subst x); (on_goal 1 => clear_value x))
    | (extract_lets +onlyGivenNames x; clear_value x)
    | split
theorem detach_keeps (t : Triage) (h : Keeps kp s0 s) :
    Keeps kp s0 (s.detach t) := by
  unfold State.detach
  repeat' first
    | with_reducible assumption | exact fun _ => rfl | (intro t a ht; beta_reduce) | (intro t ht; beta_reduce) | with_reducible apply each_keepsS
    | with_reducible apply advanceOne_keeps | with_reducible apply modSh_keeps | split
theorem groupB_keeps (l : List Triage) (t : Triage) (h : Keeps kp s0 s) :
    Keeps kp s0 (s.groupB l t) := by
  unfold State.groupB
  repeat' first
    | with_reducible assumption | with_reducible apply callB_keeps | with_reducible apply triageFill_keeps | with_reducible apply modTriage_keeps
    | split
theorem advanceGroup_keeps (t : Triage) (h : Keeps kp s0 s) :
    Keeps kp s0 (s.advanceGroup t) := by
  unfold State.advanceGroup
  repeat' first
    | with_reducible assumption | exact fun _ => rfl | (intro t a ht; beta_reduce) | (intro t ht; beta_reduce) | with_reducible apply detach_keeps
    | with_reducible apply each_keepsS | with_reducible apply groupB_keeps | with_reducible apply verdictFor_keeps
    | (extract_lets +onlyGivenNames x; refine (fun (hx : Keeps kp s0 x) => ?_ : Keeps kp s0 x → _) ?_; (on_goal 2 => subst x); (on_goal 1 => clear_value x))
    | (extract_lets +onlyGivenNames x; clear_value x)
    | split
theorem advancePair_keeps (t : Triage) (h : Keeps kp s0 s) :
    Keeps kp s0 (s.advancePair t) := by
  unfold State.advancePair
  repeat' first
    | with_reducible assumption | exact fun _ => rfl | (intro t a ht; beta_reduce) | (intro t ht; beta_reduce) | with_reducible apply detach_keeps
    | with_reducible apply callB_keeps | with_reducible apply verdictFor_keeps
    | (extract_lets +onlyGivenNames x; refine (fun (hx : Keeps kp s0 x) => ?_ : Keeps kp s0 x → _) ?_; (on_goal 2 => subst x); (on_goal 1 => clear_value x))
    | (extract_lets +onlyGivenNames x; clear_value x)
    | split
theorem advance_keeps (p : Nat) (h : Keeps kp s0 s) :
    Keeps kp s0 (s.advance p) := by
  unfold State.advance
  repeat' first
    | with_reducible assumption | with_reducible apply placeNext_keeps | with_reducible apply advanceGroup_keeps
    | with_reducible apply advancePair_keeps | with_reducible apply advanceOne_keeps | split
theorem stepLimits_keeps (p c n old : Nat) (h : Keeps kp s0 s) :
    Keeps kp s0 (s.stepLimits p c n old) := by
  unfold State.stepLimits
  repeat' first
    | with_reducible assumption | exact fun _ => rfl | (intro t a ht; beta_reduce) | (intro t ht; beta_reduce) | with_reducible apply each_keepsS
    | with_reducible apply breach_keeps
    | (extract_lets +onlyGivenNames x; refine (fun (hx : Keeps kp s0 x) => ?_ : Keeps kp s0 x → _) ?_; (on_goal 2 => subst x); (on_goal 1 => clear_value x))
    | (extract_lets +onlyGivenNames x; clear_value x)
    | split
theorem brkTriggers_keeps (d c : Nat) (p : Brk → Bool) (h : Keeps kp s0 s) :
    Keeps kp s0 (s.brkTriggers d c p) := by
  unfold State.brkTriggers
  repeat' first
    | with_reducible assumption | exact fun _ => rfl | (intro t a ht; beta_reduce) | (intro t ht; beta_reduce) | with_reducible apply each_keepsS
    | with_reducible apply brkTrigger_keeps | split
theorem runAgain_keeps (p c n old : Nat) (h : Keeps kp s0 s) :
    Keeps kp s0 (s.runAgain p c n old) := by
  unfold State.runAgain
  repeat' first
    | with_reducible assumption | exact fun _ => rfl | (intro t a ht; beta_reduce) | (intro t ht; beta_reduce) | with_reducible apply holdCore_keeps
    | with_reducible apply modCore_keeps | with_reducible apply modCtx_keeps
    | (extract_lets +onlyGivenNames x; refine (fun (hx : Keeps kp s0 x) => ?_ : Keeps kp s0 x → _) ?_; (on_goal 2 => subst x); (on_goal 1 => clear_value x))
    | (extract_lets +onlyGivenNames x; clear_value x)
    | split
theorem advanced_keeps (p c n old : Nat) (h : Keeps kp s0 s) :
    Keeps kp s0 (s.advanced p c n old) := by
  unfold State.advanced
  repeat' first
    | with_reducible assumption | with_reducible apply stepLimits_keeps | with_reducible apply brkTriggers_keeps
    | with_reducible apply runAgain_keeps

end Sys2Proof.Machine
end

