-- ==== Sys2Proof/Laws/KeepsUnits.lean ====
section
/-! SUPPORT. Each function of the machine keeps what `Keeps` says: the operations of the parts, second half. -/

namespace Sys2Proof.Machine

set_option linter.unusedTactic false
set_option linter.unreachableTactic false
set_option linter.unusedVariables false

variable {kp : Bool} {s0 s : State}

theorem revert_keeps (kind : Nat) (h : Keeps kp s0 s) :
    Keeps kp s0 (s.revert kind) := by
  unfold State.revert
  repeat' first
    | with_reducible assumption | with_reducible apply modFlash_keeps | with_reducible apply record_keeps | split
theorem checkFurnish_keeps (kind : Nat) (h : Keeps kp s0 s) :
    Keeps kp s0 (s.checkFurnish kind) := by
  unfold State.checkFurnish
  repeat' first
    | with_reducible assumption | exact fun _ => rfl | (intro t a ht; beta_reduce) | (intro t ht; beta_reduce) | with_reducible apply modFlash_keeps
    | with_reducible apply setVoid_keeps | with_reducible apply record_keeps
    | (extract_lets +onlyGivenNames x; refine (fun (hx : Keeps kp s0 x) => ?_ : Keeps kp s0 x → _) ?_; (on_goal 2 => subst x); (on_goal 1 => clear_value x))
    | (extract_lets +onlyGivenNames x; clear_value x)
    | split
theorem reloadBanks_keeps (d : Nat) (h : Keeps kp s0 s) :
    Keeps kp s0 (s.reloadBanks d) := by
  unfold State.reloadBanks
  repeat' first
    | with_reducible assumption | exact fun _ => rfl | (intro t a ht; beta_reduce) | (intro t ht; beta_reduce) | with_reducible apply each_keepsS
    | with_reducible apply emit_keeps | with_reducible apply modDie_keeps | with_reducible apply vatSend_keeps | with_reducible apply modDist_keeps
    | split
theorem sendOpen_keeps (x : Dist) (h : Keeps kp s0 s) :
    Keeps kp s0 (s.sendOpen x) := by
  unfold State.sendOpen
  repeat' first
    | with_reducible assumption | exact fun _ => rfl | (intro t a ht; beta_reduce) | (intro t ht; beta_reduce) | with_reducible apply each_keepsS
    | with_reducible apply vatSend_keeps | with_reducible apply modDist_keeps | split
theorem loadFurnish_keeps (h : Keeps kp s0 s) :
    Keeps kp s0 (s.loadFurnish) := by
  unfold State.loadFurnish
  repeat' first
    | with_reducible assumption | exact fun _ => rfl | (intro t a ht; beta_reduce) | (intro t ht; beta_reduce) | with_reducible apply revert_keeps
    | with_reducible apply checkFurnish_keeps | with_reducible apply clearVoid_keeps | with_reducible apply each_keepsS
    | with_reducible apply reloadBanks_keeps | with_reducible apply sendOpen_keeps | split
theorem takeLicence_keeps (h : Keeps kp s0 s) :
    Keeps kp s0 (s.takeLicence) := by
  unfold State.takeLicence
  repeat' first
    | with_reducible assumption | exact fun _ => rfl | (intro t a ht; beta_reduce) | (intro t ht; beta_reduce) | with_reducible apply modPkg_keeps
    | with_reducible apply record_keeps | split
theorem bistBlock_keeps (src block ident test : Nat) (h : Keeps kp s0 s) :
    Keeps kp s0 (s.bistBlock src block ident test) := by
  unfold State.bistBlock
  repeat' first
    | with_reducible assumption | with_reducible apply agentCount_keeps | with_reducible apply record_keeps
theorem agentOut_keeps (die test : Nat) (h : Keeps kp s0 s) :
    Keeps kp s0 (s.agentOut die test) := by
  unfold State.agentOut
  repeat' first
    | with_reducible assumption | with_reducible apply bistBlock_keeps | with_reducible apply modDie_keeps | with_reducible apply modVat_keeps
    | split
theorem dropCutOff_keeps (h : Keeps kp s0 s) :
    Keeps kp s0 (s.dropCutOff) := by
  unfold State.dropCutOff
  repeat' first
    | with_reducible assumption | exact fun _ => rfl | (intro t a ht; beta_reduce) | (intro t ht; beta_reduce) | with_reducible apply each_keepsS
    | with_reducible apply agentOut_keeps | split
theorem stopBoot_keeps (reason step : Nat) (h : Keeps kp s0 s) :
    Keeps kp s0 (s.stopBoot reason step) := by
  unfold State.stopBoot
  repeat' first
    | with_reducible assumption | exact fun _ => rfl | (intro t a ht; beta_reduce) | (intro t ht; beta_reduce) | with_reducible apply modPkg_keeps
    | with_reducible apply mramWrite_keeps | with_reducible apply record_keeps | split
theorem grantLease_keeps (d kind : Nat) (h : Keeps kp s0 s) :
    Keeps kp s0 (s.grantLease d kind) := by
  unfold State.grantLease
  repeat' first
    | with_reducible assumption | with_reducible apply modSh_keeps | with_reducible apply vatSend_keeps
theorem grantWaiting_keeps (h : Keeps kp s0 s) :
    Keeps kp s0 (s.grantWaiting) := by
  unfold State.grantWaiting
  repeat' first
    | with_reducible assumption | exact fun _ => rfl | (intro t a ht; beta_reduce) | (intro t ht; beta_reduce) | with_reducible apply each_keepsS
    | with_reducible apply grantLease_keeps | with_reducible apply modSh_keeps | split
theorem startScreens_keeps (h : Keeps kp s0 s) :
    Keeps kp s0 (s.startScreens) := by
  unfold State.startScreens
  repeat' first
    | with_reducible assumption | exact fun _ => rfl | (intro t a ht; beta_reduce) | (intro t ht; beta_reduce) | with_reducible apply each_keepsS
    | with_reducible apply modBeater_keeps | with_reducible apply modPkg_keeps | with_reducible apply modCore_keeps
    | with_reducible apply emit_keeps | with_reducible apply grantWaiting_keeps | with_reducible apply modSh_keeps | split
theorem afterAlign_keeps (h : Keeps kp s0 s) :
    Keeps kp s0 (s.afterAlign) := by
  unfold State.afterAlign
  repeat' first
    | with_reducible assumption | exact fun _ => rfl | (intro t a ht; beta_reduce) | (intro t ht; beta_reduce)
    | with_reducible apply loadFurnish_keeps | with_reducible apply modPkg_keeps | with_reducible apply enableDies_keeps
    | with_reducible apply takeLicence_keeps | with_reducible apply dropCutOff_keeps | with_reducible apply stopBoot_keeps
    | with_reducible apply startScreens_keeps
    | (extract_lets +onlyGivenNames x; refine (fun (hx : Keeps kp s0 x) => ?_ : Keeps kp s0 x → _) ?_; (on_goal 2 => subst x); (on_goal 1 => clear_value x))
    | (extract_lets +onlyGivenNames x; clear_value x)
    | split
theorem afterGap_keeps (g : Gap) (x : Run) (h : Keeps kp s0 s) :
    Keeps kp s0 (s.afterGap g x) := by
  unfold State.afterGap
  repeat' first
    | with_reducible assumption | with_reducible apply endRun_keeps | split
theorem modReplace_keeps (n : Nat) (f : Replace → Replace) (h : Keeps kp s0 s) :
    Keeps kp s0 (s.modReplace n f) := by
  unfold State.modReplace
  repeat' first
    | with_reducible assumption | with_reducible apply modSh_keeps
theorem beginReplace_keeps (r : Replace) (new : Nat) (borrowed : Bool) (h : Keeps kp s0 s) :
    Keeps kp s0 (s.beginReplace r new borrowed) := by
  unfold State.beginReplace
  repeat' first
    | with_reducible assumption | with_reducible apply modReplace_keeps | with_reducible apply holdCore_keeps | with_reducible apply orderFill_keeps
    | split
theorem hangReset_keeps (p : Nat) (h : Keeps kp s0 s) :
    Keeps kp s0 (s.hangReset p) := by
  unfold State.hangReset
  repeat' first
    | with_reducible assumption | with_reducible apply requestReset_keeps | split
theorem replaceStuck_keeps (r : Replace) (h : Keeps kp s0 s) :
    Keeps kp s0 (s.replaceStuck r) := by
  unfold State.replaceStuck
  repeat' first
    | with_reducible assumption | with_reducible apply releaseXfers_keeps | with_reducible apply modSh_keeps | with_reducible apply record_keeps
    | with_reducible apply unholdCore_keeps | with_reducible apply modReplace_keeps | with_reducible apply exhaust_keeps
    | with_reducible apply hangReset_keeps | split
theorem startQueued_keeps (h : Keeps kp s0 s) :
    Keeps kp s0 (s.startQueued) := by
  unfold State.startQueued
  repeat' first
    | with_reducible assumption | exact fun _ => rfl | (intro t a ht; beta_reduce) | (intro t ht; beta_reduce) | with_reducible apply each_keepsS
    | with_reducible apply beginReplace_keeps | with_reducible apply replaceStuck_keeps | with_reducible apply modReplace_keeps | split
theorem startRollback_keeps (t : Triage) (g : Nat) (h : Keeps kp s0 s) :
    Keeps kp s0 (s.startRollback t g) := by
  unfold State.startRollback
  repeat' first
    | with_reducible assumption | exact fun _ => rfl | (intro t a ht; beta_reduce) | (intro t ht; beta_reduce) | with_reducible apply modGroup_keeps
    | with_reducible apply each_keepsS | with_reducible apply modFailure_keeps | with_reducible apply vatSend_keeps
    | with_reducible apply mirror_keeps | split
theorem beginRollback_keeps (t : Triage) (g : Nat) (h : Keeps kp s0 s) :
    Keeps kp s0 (s.beginRollback t g) := by
  unfold State.beginRollback
  repeat' first
    | with_reducible assumption | exact fun _ => rfl | (intro t a ht; beta_reduce) | (intro t ht; beta_reduce) | with_reducible apply orderA_keeps
    | with_reducible apply modFailure_keeps | with_reducible apply modGroup_keeps | with_reducible apply modTriage_keeps
    | with_reducible apply faultCtx_keeps | with_reducible apply startRollback_keeps
    | (extract_lets +onlyGivenNames x; refine (fun (hx : Keeps kp s0 x) => ?_ : Keeps kp s0 x → _) ?_; (on_goal 2 => subst x); (on_goal 1 => clear_value x))
    | (extract_lets +onlyGivenNames x; clear_value x)
    | split
theorem startTriage_keeps (t : Triage) (h : Keeps kp s0 s) :
    Keeps kp s0 (s.startTriage t) := by
  unfold State.startTriage
  repeat' first
    | with_reducible assumption | exact fun _ => rfl | (intro t a ht; beta_reduce) | (intro t ht; beta_reduce) | with_reducible apply mirror_keeps
    | with_reducible apply modSh_keeps | with_reducible apply takePools_keeps | with_reducible apply beginRollback_keeps
    | with_reducible apply orderA_keeps | with_reducible apply triageFill_keeps
    | (extract_lets +onlyGivenNames x; refine (fun (hx : Keeps kp s0 x) => ?_ : Keeps kp s0 x → _) ?_; (on_goal 2 => subst x); (on_goal 1 => clear_value x))
    | (extract_lets +onlyGivenNames x; clear_value x)
    | split
theorem pump_keeps (n : Nat) (h : Keeps kp s0 s) : Keeps kp s0 (State.pump n s) := by
  induction n generalizing s with
  | zero => exact h | succ k ih =>
    unfold State.pump
    split
    · exact h
    · exact ih (advance_keeps _ (startTriage_keeps _ h))
theorem goOn_keeps (h : Keeps kp s0 s) :
    Keeps kp s0 (s.goOn) := by
  unfold State.goOn
  repeat' first
    | with_reducible assumption | exact fun _ => rfl | (intro t a ht; beta_reduce) | (intro t ht; beta_reduce)
    | with_reducible apply startQueued_keeps | with_reducible apply pump_keeps | with_reducible apply each_keepsS
    | with_reducible apply advance_keeps | split
theorem replayed_keeps (t : Triage) (p len : Nat) (h : Keeps kp s0 s) :
    Keeps kp s0 (s.replayed t p len) := by
  unfold State.replayed
  repeat' first
    | with_reducible assumption | with_reducible apply modTriage_keeps | with_reducible apply modTicket_keeps | with_reducible apply addReplay_keeps
theorem endA_keeps (t : Triage) (stage : Nat) (digest : Option (List Nat)) (h : Keeps kp s0 s) :
    Keeps kp s0 (s.endA t stage digest) := by
  unfold State.endA
  repeat' first
    | with_reducible assumption | with_reducible apply modTriage_keeps | with_reducible apply replayed_keeps | with_reducible apply vatSend_keeps
    | with_reducible apply modCore_keeps
theorem closeA_keeps (t : Triage) (r : ReplayEnd) (digest : List Nat) (h : Keeps kp s0 s) :
    Keeps kp s0 (s.closeA t r digest) := by
  unfold State.closeA
  repeat' first
    | with_reducible assumption | with_reducible apply modTriage_keeps | with_reducible apply endA_keeps | split
theorem closeB_keeps (t : Triage) (digest : List Nat) (h : Keeps kp s0 s) :
    Keeps kp s0 (s.closeB t digest) := by
  unfold State.closeB
  repeat' first
    | with_reducible assumption | with_reducible apply modTriage_keeps | split
theorem retryA_keeps (h : Keeps kp s0 s) :
    Keeps kp s0 (s.retryA) := by
  unfold State.retryA
  repeat' first
    | with_reducible assumption | exact fun _ => rfl | (intro t a ht; beta_reduce) | (intro t ht; beta_reduce) | with_reducible apply each_keepsS
    | with_reducible apply closeA_keeps | with_reducible apply takePools_keeps | with_reducible apply closeB_keeps | split
theorem afterStage_keeps (p : Nat) (h : Keeps kp s0 s) :
    Keeps kp s0 (s.afterStage p) := by
  unfold State.afterStage
  repeat' first
    | with_reducible assumption | with_reducible apply goOn_keeps | with_reducible apply retryA_keeps | with_reducible apply advance_keeps
theorem agentDoes_keeps (d : Nat) (op : AgentOp) (h : Keeps kp s0 s) :
    Keeps kp s0 (s.agentDoes d op).2 := by
  unfold State.agentDoes
  repeat' first
    | with_reducible assumption | with_reducible apply couchRead_keeps | with_reducible apply couchWrite_keeps | with_reducible apply modCore_keeps
    | with_reducible apply unpark_keeps | split
theorem alignHop_keeps (d n ring : Nat) (h : Keeps kp s0 s) :
    Keeps kp s0 (s.alignHop d n ring) := by
  unfold State.alignHop
  repeat' first
    | with_reducible assumption | exact fun _ => rfl | (intro t a ht; beta_reduce) | (intro t ht; beta_reduce) | with_reducible apply each_keepsS
    | with_reducible apply feltSend_keeps | split
theorem alignAll_keeps (root : Nat) (h : Keeps kp s0 s) :
    Keeps kp s0 (s.alignAll root) := by
  unfold State.alignAll
  repeat' first
    | with_reducible assumption | with_reducible apply alignHop_keeps
theorem applyBatch_keeps (die : Nat) (b : CountBatch) (h : Keeps kp s0 s) :
    Keeps kp s0 (s.applyBatch die b) := by
  unfold State.applyBatch
  repeat' first
    | with_reducible assumption | with_reducible apply applyCount_keeps | with_reducible apply vatCount_keeps | split
theorem armDist_keeps (kind : Nat) (dies : List Nat) (count : Nat) (h : Keeps kp s0 s) :
    Keeps kp s0 (s.armDist kind dies count) := by
  unfold State.armDist
  repeat' first
    | with_reducible assumption | exact fun _ => rfl | (intro t a ht; beta_reduce) | (intro t ht; beta_reduce) | with_reducible apply each_keepsS
    | with_reducible apply vatSend_keeps | with_reducible apply modDist_keeps | split
theorem armRerun_keeps (c : Nat) (h : Keeps kp s0 s) :
    Keeps kp s0 (s.armRerun c) := by
  unfold State.armRerun
  repeat' first
    | with_reducible assumption | with_reducible apply beginCompare_keeps | split
theorem armSnap_keeps (c id iter point : Nat) (package : Bool) (delta deadline : Nat) (m : ReamMap) (h : Keeps kp s0 s) :
    Keeps kp s0 (s.armSnap c id iter point package delta deadline m) := by
  unfold State.armSnap
  repeat' first
    | with_reducible assumption | with_reducible apply mirror_keeps | with_reducible apply modCtx_keeps
theorem beginRun_keeps (rq : Req) (opcode ctx arg : Nat) (clamps : List Clamp) (h : Keeps kp s0 s) :
    Keeps kp s0 (s.beginRun rq opcode ctx arg clamps) := by
  unfold State.beginRun
  repeat' first
    | with_reducible assumption | with_reducible apply modSh_keeps | split
theorem askAgent_keeps (rq : Req) (die opcode : Nat) (params : List Nat) (f : State → State) (hf : ∀ z0, Keeps kp s0 z0 → Keeps kp s0 (f z0)) (h : Keeps kp s0 s) :
    Keeps kp s0 (s.askAgent rq die opcode params f) := by
  unfold State.askAgent
  repeat' first
    | with_reducible assumption | with_reducible apply hf | with_reducible apply orderNow_keeps | with_reducible apply feltSend_keeps
    | with_reducible apply beginRun_keeps | split
theorem askLease_keeps (d : Nat) (h : Keeps kp s0 s) :
    Keeps kp s0 (s.askLease d) := by
  unfold State.askLease
  repeat' first
    | with_reducible assumption | exact fun _ => rfl | (intro t a ht; beta_reduce) | (intro t ht; beta_reduce) | with_reducible apply adopt_keeps
    | with_reducible apply toVat_keeps | with_reducible apply modBeater_keeps
    | (extract_lets +onlyGivenNames x; refine (fun (hx : Keeps kp s0 x) => ?_ : Keeps kp s0 x → _) ?_; (on_goal 2 => subst x); (on_goal 1 => clear_value x))
    | (extract_lets +onlyGivenNames x; clear_value x)
    | split
theorem askVerdict_keeps (t : Nat) (h : Keeps kp s0 s) :
    Keeps kp s0 (s.askVerdict t) := by
  unfold State.askVerdict
  repeat' first
    | with_reducible assumption | exact fun _ => rfl | (intro t a ht; beta_reduce) | (intro t ht; beta_reduce) | with_reducible apply toVat_keeps
    | (extract_lets +onlyGivenNames x; refine (fun (hx : Keeps kp s0 x) => ?_ : Keeps kp s0 x → _) ?_; (on_goal 2 => subst x); (on_goal 1 => clear_value x))
    | (extract_lets +onlyGivenNames x; clear_value x)
    | split
theorem finish_keeps (rq : Req) (op status : Nat) (clamps : List Clamp) (data : List (Nat × Nat)) (h : Keeps kp s0 s) :
    Keeps kp s0 (s.finish rq op status clamps data) := by
  unfold State.finish
  repeat' first
    | with_reducible assumption | with_reducible apply deliver_keeps
theorem refuse_keeps (rq : Req) (op status reason : Nat) (h : Keeps kp s0 s) :
    Keeps kp s0 (s.refuse rq op status reason) := by
  unfold State.refuse
  repeat' first
    | with_reducible assumption | with_reducible apply finish_keeps
theorem authFail_keeps (rq : Req) (reason : Nat) (h : Keeps kp s0 s) :
    Keeps kp s0 (s.authFail rq reason) := by
  unfold State.authFail
  repeat' first
    | with_reducible assumption | with_reducible apply vatCount_keeps | with_reducible apply refuse_keeps | split
theorem endOp_keeps (opcode ctx status : Nat) (data : List (Nat × Nat)) (h : Keeps kp s0 s) :
    Keeps kp s0 (s.endOp opcode ctx status data) := by
  unfold State.endOp
  repeat' first
    | with_reducible assumption | with_reducible apply endRuns_keeps
theorem endDump_keeps (h : Keeps kp s0 s) :
    Keeps kp s0 (s.endDump) := by
  unfold State.endDump
  repeat' first
    | with_reducible assumption | exact fun _ => rfl | (intro t a ht; beta_reduce) | (intro t ht; beta_reduce) | with_reducible apply draw_keeps
    | with_reducible apply record_keeps | with_reducible apply modDbg_keeps | with_reducible apply endOp_keeps | with_reducible apply each_keepsS
    | with_reducible apply hangReset_keeps | (intro g; split <;> rfl)
    | (extract_lets +onlyGivenNames x; refine (fun (hx : Keeps kp s0 x) => ?_ : Keeps kp s0 x → _) ?_; (on_goal 2 => subst x); (on_goal 1 => clear_value x))
    | (extract_lets +onlyGivenNames x; refine (fun (hx : Keeps kp s0 x.1) => ?_ : Keeps kp s0 x.1 → _) ?_; (on_goal 2 => subst x); (on_goal 1 => clear_value x))
    | (extract_lets +onlyGivenNames x; refine (fun (hx : Keeps kp s0 x.2) => ?_ : Keeps kp s0 x.2 → _) ?_; (on_goal 2 => subst x); (on_goal 1 => clear_value x))
    | (extract_lets +onlyGivenNames x; have : ∀ z, x z = x z := fun _ => rfl; clear this; subst x; beta_reduce)
    | (extract_lets +onlyGivenNames x; clear_value x)
    | split
theorem nextScan_keeps (n : Nat) (h : Keeps kp s0 s) : Keeps kp s0 (State.nextScan n s) := by
  induction n generalizing s with
  | zero => exact h | succ k ih =>
    unfold State.nextScan
    split
    · exact h
    · split
      · exact modDbg_keeps _ h
      · split
        · exact ih (modDbg_keeps _ h)
        · exact emit_keeps _ h
theorem goDump_keeps (h : Keeps kp s0 s) :
    Keeps kp s0 (s.goDump) := by
  unfold State.goDump
  repeat' first
    | with_reducible assumption | with_reducible apply endDump_keeps | with_reducible apply nextScan_keeps
theorem autoDump_keeps (p : Nat) (h : Keeps kp s0 s) :
    Keeps kp s0 (s.autoDump p) := by
  unfold State.autoDump
  repeat' first
    | with_reducible assumption | with_reducible apply modDbg_keeps | with_reducible apply goDump_keeps | split
theorem snapFail_keeps (c id reason : Nat) (h : Keeps kp s0 s) :
    Keeps kp s0 (s.snapFail c id reason) := by
  unfold State.snapFail
  repeat' first
    | with_reducible assumption | with_reducible apply record_keeps
theorem autoSnap_keeps (c : Nat) (h : Keeps kp s0 s) :
    Keeps kp s0 (s.autoSnap c) := by
  unfold State.autoSnap
  repeat' first
    | with_reducible assumption | exact fun _ => rfl | (intro t a ht; beta_reduce) | (intro t ht; beta_reduce) | with_reducible apply modCtx_keeps
    | with_reducible apply snapFail_keeps | with_reducible apply armSnap_keeps
    | (extract_lets +onlyGivenNames x; refine (fun (hx : Keeps kp s0 x) => ?_ : Keeps kp s0 x → _) ?_; (on_goal 2 => subst x); (on_goal 1 => clear_value x))
    | (extract_lets +onlyGivenNames x; clear_value x)
    | split
theorem correctReel_keeps (d correct : Nat) (h : Keeps kp s0 s) :
    Keeps kp s0 (s.correctReel d correct) := by
  unfold State.correctReel
  repeat' first
    | with_reducible assumption | with_reducible apply modDie_keeps
theorem startReel_keeps (root : Nat) (h : Keeps kp s0 s) :
    Keeps kp s0 (s.startReel root) := by
  unfold State.startReel
  repeat' first
    | with_reducible assumption | with_reducible apply alignAll_keeps | with_reducible apply correctReel_keeps
    | with_reducible apply startReel0_keeps
theorem epochEnd_keeps (h0 : Hub) (e : Nat) (h : Keeps kp s0 s) :
    Keeps kp s0 (s.epochEnd h0 e) := by
  unfold State.epochEnd
  repeat' first
    | with_reducible assumption | with_reducible apply record_keeps | with_reducible apply modVat_keeps | split
theorem takeHeldRecs_keeps (h : Keeps kp s0 s) :
    Keeps kp s0 (s.takeHeldRecs) := by
  unfold State.takeHeldRecs
  repeat' first
    | with_reducible assumption | with_reducible apply each_keepsS | with_reducible apply enterRec_keeps | with_reducible apply modSh_keeps
theorem becomeActive_keeps (h0 : Hub) (h : Keeps kp s0 s) :
    Keeps kp s0 (s.becomeActive h0) := by
  unfold State.becomeActive
  repeat' first
    | with_reducible assumption | exact fun _ => rfl | (intro t a ht; beta_reduce) | (intro t ht; beta_reduce) | with_reducible apply putEpoch_keeps
    | with_reducible apply modPkg_keeps | with_reducible apply modVat_keeps | with_reducible apply startReel_keeps
    | with_reducible apply epochEnd_keeps | with_reducible apply takeHeldRecs_keeps | with_reducible apply modSh_keeps | split
theorem modCal_keeps (d : Nat) (f : Cal → Cal) (h : Keeps kp s0 s) :
    Keeps kp s0 (s.modCal d f) := by
  unfold State.modCal
  repeat' first
    | with_reducible assumption | with_reducible apply modDie_keeps
theorem beginCalHold_keeps (d : Nat) (therm : Bool) (h : Keeps kp s0 s) :
    Keeps kp s0 (s.beginCalHold d therm) := by
  unfold State.beginCalHold
  repeat' first
    | with_reducible assumption | with_reducible apply holdDie_keeps | with_reducible apply modCal_keeps | split
theorem beginOper_keeps (p c n layer oper : Nat) (h : Keeps kp s0 s) :
    Keeps kp s0 (s.beginOper p c n layer oper) := by
  unfold State.beginOper
  repeat' first
    | with_reducible assumption | with_reducible apply brkTriggers_keeps | with_reducible apply modLc_keeps | with_reducible apply profStart_keeps
    | split
theorem bistFail_keeps (d item index : Nat) (measured limit : Int) (h : Keeps kp s0 s) :
    Keeps kp s0 (s.bistFail d item index measured limit) := by
  unfold State.bistFail
  repeat' first
    | with_reducible assumption | with_reducible apply agentCount_keeps | with_reducible apply record_keeps
theorem breakA_keeps (t : Triage) (h : Keeps kp s0 s) :
    Keeps kp s0 (s.breakA t) := by
  unfold State.breakA
  repeat' first
    | with_reducible assumption | with_reducible apply modTriage_keeps | with_reducible apply replayed_keeps
theorem buildSlice_keeps (d : Nat) (h : Keeps kp s0 s) :
    Keeps kp s0 (s.buildSlice d) := by
  unfold State.buildSlice
  repeat' first
    | with_reducible assumption | with_reducible apply modDie_keeps | with_reducible apply modSh_keeps
theorem checkComplete_keeps (kind : Nat) (h : Keeps kp s0 s) :
    Keeps kp s0 (s.checkComplete kind) := by
  unfold State.checkComplete
  repeat' first
    | with_reducible assumption | with_reducible apply endCommit_keeps | with_reducible apply modSh_keeps | with_reducible apply distDone_keeps
    | with_reducible apply armDist_keeps | split
theorem checkHead_keeps (h0 : Hub) (h : Keeps kp s0 s) :
    Keeps kp s0 (s.checkHead h0) := by
  unfold State.checkHead
  repeat' first
    | with_reducible assumption | with_reducible apply record_keeps | with_reducible apply modSh_keeps | split
theorem checkSlots_keeps (c : Nat) (l : List (Option DigestRec)) (h : Keeps kp s0 s) :
    Keeps kp s0 (s.checkSlots c l) := by
  unfold State.checkSlots
  repeat' first
    | with_reducible assumption | exact fun _ => rfl | (intro t a ht; beta_reduce) | (intro t ht; beta_reduce) | with_reducible apply each_keepsS
    | with_reducible apply checkTotal_keeps | split
theorem enterSync_keeps (h0 : Hub) (h : Keeps kp s0 s) :
    Keeps kp s0 (s.enterSync h0) := by
  unfold State.enterSync
  repeat' first
    | with_reducible assumption | with_reducible apply modVat_keeps
theorem chooseVat_keeps (h : Keeps kp s0 s) :
    Keeps kp s0 (s.chooseVat) := by
  unfold State.chooseVat
  repeat' first
    | with_reducible assumption | exact fun _ => rfl | (intro t a ht; beta_reduce) | (intro t ht; beta_reduce)
    | with_reducible apply becomeActive_keeps | with_reducible apply enterSync_keeps | with_reducible apply modVat_keeps
    | with_reducible apply stopBoot_keeps | with_reducible apply takeHeldRecs_keeps | with_reducible apply requestPowerCycle_keeps
    | with_reducible apply escalate_keeps | with_reducible apply setPin_keeps | with_reducible apply modPkg_keeps
    | (extract_lets +onlyGivenNames x; refine (fun (hx : Keeps kp s0 x) => ?_ : Keeps kp s0 x → _) ?_; (on_goal 2 => subst x); (on_goal 1 => clear_value x))
    | (extract_lets +onlyGivenNames x; clear_value x)
    | split
theorem classify_keeps (p : Nat) (b : Beater) (h : Keeps kp s0 s) :
    Keeps kp s0 (s.classify p b) := by
  unfold State.classify
  repeat' first
    | with_reducible assumption | exact fun _ => rfl | (intro t a ht; beta_reduce) | (intro t ht; beta_reduce) | with_reducible apply record_keeps
    | with_reducible apply vatCount_keeps | with_reducible apply fenceCore_keeps | with_reducible apply planReplace_keeps
    | with_reducible apply markDefective_keeps | with_reducible apply modCore_keeps
    | (extract_lets +onlyGivenNames x; refine (fun (hx : Keeps kp s0 x) => ?_ : Keeps kp s0 x → _) ?_; (on_goal 2 => subst x); (on_goal 1 => clear_value x))
    | (extract_lets +onlyGivenNames x; clear_value x)
    | split
theorem clearBrks_keeps (c : Nat) (p : Brk → Bool) (h : Keeps kp s0 s) :
    Keeps kp s0 (s.clearBrks c p) := by
  unfold State.clearBrks
  repeat' first
    | with_reducible assumption | exact fun _ => rfl | (intro t a ht; beta_reduce) | (intro t ht; beta_reduce) | with_reducible apply modCtx_keeps
    | with_reducible apply each_keepsS | with_reducible apply modDie_keeps | split
theorem clearOverdue_keeps (h : Keeps kp s0 s) :
    Keeps kp s0 (s.clearOverdue) := by
  unfold State.clearOverdue
  repeat' first
    | with_reducible assumption | with_reducible apply clearVoid_keeps | split
theorem evalThermal_keeps (h : Keeps kp s0 s) :
    Keeps kp s0 (s.evalThermal) := by
  unfold State.evalThermal
  repeat' first
    | with_reducible assumption | exact fun _ => rfl | (intro t a ht; beta_reduce) | (intro t ht; beta_reduce) | with_reducible apply modPkg_keeps
    | with_reducible apply clearVoid_keeps
    | (extract_lets +onlyGivenNames x; refine (fun (hx : Keeps kp s0 x) => ?_ : Keeps kp s0 x → _) ?_; (on_goal 2 => subst x); (on_goal 1 => clear_value x))
    | (extract_lets +onlyGivenNames x; clear_value x)
    | split
theorem clearScreenVoid_keeps (h : Keeps kp s0 s) :
    Keeps kp s0 (s.clearScreenVoid) := by
  unfold State.clearScreenVoid
  repeat' first
    | with_reducible assumption | exact fun _ => rfl | (intro t a ht; beta_reduce) | (intro t ht; beta_reduce)
    | with_reducible apply clearOverdue_keeps | with_reducible apply clearVoid_keeps | with_reducible apply modPkg_keeps
    | with_reducible apply evalThermal_keeps | split
theorem recClear_keeps (scope priv : Nat) (h : Keeps kp s0 s) :
    Keeps kp s0 (s.recClear scope priv) := by
  unfold State.recClear
  repeat' first
    | with_reducible assumption | with_reducible apply modVat_keeps | with_reducible apply modSh_keeps | with_reducible apply record_keeps | split
theorem clearWaiting_keeps (h : Keeps kp s0 s) :
    Keeps kp s0 (s.clearWaiting) := by
  unfold State.clearWaiting
  repeat' first
    | with_reducible assumption | exact fun _ => rfl | (intro t a ht; beta_reduce) | (intro t ht; beta_reduce) | with_reducible apply each_keepsS
    | with_reducible apply endRun_keeps | with_reducible apply recClear_keeps | split
theorem closeAreaWins_keeps (d : Nat) (h : Keeps kp s0 s) :
    Keeps kp s0 (s.closeAreaWins d) := by
  unfold State.closeAreaWins
  repeat' first
    | with_reducible assumption | exact fun _ => rfl | (intro t a ht; beta_reduce) | (intro t ht; beta_reduce) | with_reducible apply each_keepsS
    | with_reducible apply modLc_keeps | split
theorem windowRec_keeps (store : Nat) (opened : Bool) (code held : Nat) (h : Keeps kp s0 s) :
    Keeps kp s0 (s.windowRec store opened code held) := by
  unfold State.windowRec
  repeat' first
    | with_reducible assumption | with_reducible apply record_keeps
theorem closeFlash_keeps (code : Nat) (h : Keeps kp s0 s) :
    Keeps kp s0 (s.closeFlash code) := by
  unfold State.closeFlash
  repeat' first
    | with_reducible assumption | exact fun _ => rfl | (intro t a ht; beta_reduce) | (intro t ht; beta_reduce)
    | with_reducible apply windowRec_keeps | with_reducible apply modPkg_keeps | split
theorem closeMram_keeps (h0 : Hub) (code : Nat) (h : Keeps kp s0 s) :
    Keeps kp s0 (s.closeMram h0 code) := by
  unfold State.closeMram
  repeat' first
    | with_reducible assumption | with_reducible apply windowRec_keeps | with_reducible apply keepDurable_keeps | with_reducible apply modVat_keeps
    | split
theorem coloc_keeps (n p : Nat) (h : Keeps kp s0 s) :
    Keeps kp s0 (s.coloc n p) := by
  unfold State.coloc
  repeat' first
    | with_reducible assumption | exact fun _ => rfl | (intro t a ht; beta_reduce) | (intro t ht; beta_reduce) | with_reducible apply each_keepsS
    | with_reducible apply record_keeps | split
theorem hold_keeps (i : Instr) (rq : Req) (op : Nat) (h : Keeps kp s0 s) :
    Keeps kp s0 (s.hold i rq op) := by
  unfold State.hold
  repeat' first
    | with_reducible assumption | with_reducible apply modSh_keeps | split
theorem touch_keeps (rq : Req) (signed : Bool) (h : Keeps kp s0 s) :
    Keeps kp s0 (s.touch rq signed) := by
  unfold State.touch
  repeat' first
    | with_reducible assumption | with_reducible apply modSh_keeps | split
theorem command_keeps (i : Instr) (rq : Req) (op : OpInfo) (ctxs : List Nat) (idsOk : Bool) (f : State → State) (hf : ∀ z0, Keeps kp s0 z0 → Keeps kp s0 (f z0)) (h : Keeps kp s0 s) :
    Keeps kp s0 (s.command i rq op ctxs idsOk f) := by
  unfold State.command
  repeat' first
    | with_reducible assumption | exact fun _ => rfl | (intro t a ht; beta_reduce) | (intro t ht; beta_reduce) | with_reducible apply hf
    | with_reducible apply hold_keeps | with_reducible apply finish_keeps | with_reducible apply modSh_keeps | with_reducible apply vatCount_keeps
    | with_reducible apply touch_keeps | (exact duplicate_keeps _ _ (by assumption) (by assumption))
    | (extract_lets +onlyGivenNames x; refine (fun (hx : Keeps kp s0 x) => ?_ : Keeps kp s0 x → _) ?_; (on_goal 2 => subst x); (on_goal 1 => clear_value x))
    | (extract_lets +onlyGivenNames x; clear_value x)
    | split
theorem passPoint_keeps (n : Nat) (h : Keeps kp s0 s) :
    Keeps kp s0 (s.passPoint n) := by
  unfold State.passPoint
  repeat' first
    | with_reducible assumption | with_reducible apply modLc_keeps
theorem completeStep_keeps (p c n : Nat) (kind : StepKind) (pressPoint : Bool) (h : Keeps kp s0 s) :
    Keeps kp s0 (s.completeStep p c n kind pressPoint) := by
  unfold State.completeStep
  repeat' first
    | with_reducible assumption | with_reducible apply modCore_keeps | with_reducible apply setStall_keeps | with_reducible apply modLc_keeps
    | with_reducible apply passPoint_keeps | with_reducible apply movePress_keeps | with_reducible apply advanced_keeps | split
theorem screenEffect_keeps (p v : Nat) (h : Keeps kp s0 s) :
    Keeps kp s0 (s.screenEffect p v) := by
  unfold State.screenEffect
  repeat' first
    | with_reducible assumption | exact fun _ => rfl | (intro t a ht; beta_reduce) | (intro t ht; beta_reduce) | with_reducible apply modCore_keeps
    | with_reducible apply markDefective_keeps | with_reducible apply fenceCore_keeps
    | (extract_lets +onlyGivenNames x; refine (fun (hx : Keeps kp s0 x) => ?_ : Keeps kp s0 x → _) ?_; (on_goal 2 => subst x); (on_goal 1 => clear_value x))
    | (extract_lets +onlyGivenNames x; clear_value x)
    | split
theorem returnLease_keeps (d : Nat) (h : Keeps kp s0 s) :
    Keeps kp s0 (s.returnLease d) := by
  unfold State.returnLease
  repeat' first
    | with_reducible assumption | with_reducible apply toVat_keeps | with_reducible apply dieRing_keeps | with_reducible apply modBeater_keeps
    | split
theorem endCompare_keeps (c : Nat) (h : Keeps kp s0 s) :
    Keeps kp s0 (s.endCompare c) := by
  unfold State.endCompare
  repeat' first
    | with_reducible assumption | with_reducible apply modReplica_keeps | with_reducible apply mirror_keeps | with_reducible apply dropRepl_keeps
    | with_reducible apply modCtx_keeps
theorem sendReplicaVerdict_keeps (o : Replica) (iter v map : Nat) (r : DigestRec) (h : Keeps kp s0 s) :
    Keeps kp s0 (s.sendReplicaVerdict o iter v map r) := by
  unfold State.sendReplicaVerdict
  repeat' first
    | with_reducible assumption | with_reducible apply emit_keeps
theorem disagreed_keeps (c : Nat) (o : Replica) (iter v map : Nat) (r : DigestRec) (h : Keeps kp s0 s) :
    Keeps kp s0 (s.disagreed c o iter v map r) := by
  unfold State.disagreed
  repeat' first
    | with_reducible assumption | with_reducible apply sendReplicaVerdict_keeps | with_reducible apply vatCount_keeps
    | with_reducible apply record_keeps
theorem freeReplica_keeps (c : Nat) (h : Keeps kp s0 s) :
    Keeps kp s0 (s.freeReplica c) := by
  unfold State.freeReplica
  repeat' first
    | with_reducible assumption | exact fun _ => rfl | (intro t a ht; beta_reduce) | (intro t ht; beta_reduce) | with_reducible apply each_keepsS
    | with_reducible apply unholdCore_keeps | split
theorem expelTwo_keeps (c : Nat) (o : Replica) (i map : Nat) (own : DigestRec) (h : Keeps kp s0 s) :
    Keeps kp s0 (s.expelTwo c o i map own) := by
  unfold State.expelTwo
  repeat' first
    | with_reducible assumption | with_reducible apply endCompare_keeps | with_reducible apply disagreed_keeps
    | with_reducible apply freeReplica_keeps | split
theorem holdReplica_keeps (c : Nat) (h : Keeps kp s0 s) :
    Keeps kp s0 (s.holdReplica c) := by
  unfold State.holdReplica
  repeat' first
    | with_reducible assumption | exact fun _ => rfl | (intro t a ht; beta_reduce) | (intro t ht; beta_reduce) | with_reducible apply each_keepsS
    | with_reducible apply holdCore_keeps | split
theorem decideMarked_keeps (c : Nat) (h : Keeps kp s0 s) :
    Keeps kp s0 (s.decideMarked c) := by
  unfold State.decideMarked
  repeat' first
    | with_reducible assumption | with_reducible apply expelTwo_keeps | with_reducible apply endCompare_keeps
    | with_reducible apply holdReplica_keeps | with_reducible apply disagreed_keeps | split
theorem runEnded_keeps (p : Nat) (failed : Bool) (h : Keeps kp s0 s) :
    Keeps kp s0 (s.runEnded p failed) := by
  unfold State.runEnded
  repeat' first
    | with_reducible assumption | exact fun _ => rfl | (intro t a ht; beta_reduce) | (intro t ht; beta_reduce) | with_reducible apply each_keepsS
    | with_reducible apply decideMarked_keeps | with_reducible apply modReplica_keeps | split
theorem endTargeted_keeps (d p : Nat) (b : Beater) (h : Keeps kp s0 s) :
    Keeps kp s0 (s.endTargeted d p b) := by
  unfold State.endTargeted
  repeat' first
    | with_reducible assumption | exact fun _ => rfl | (intro t a ht; beta_reduce) | (intro t ht; beta_reduce) | with_reducible apply modCore_keeps
    | with_reducible apply markDefective_keeps | with_reducible apply fenceCore_keeps
    | (extract_lets +onlyGivenNames x; refine (fun (hx : Keeps kp s0 x) => ?_ : Keeps kp s0 x → _) ?_; (on_goal 2 => subst x); (on_goal 1 => clear_value x))
    | (extract_lets +onlyGivenNames x; clear_value x)
    | split
theorem endBeat_keeps (d p : Nat) (h : Keeps kp s0 s) :
    Keeps kp s0 (s.endBeat d p) := by
  unfold State.endBeat
  repeat' first
    | with_reducible assumption | exact fun _ => rfl | (intro t a ht; beta_reduce) | (intro t ht; beta_reduce)
    | with_reducible apply modBeater_keeps | with_reducible apply clearScreenVoid_keeps | with_reducible apply modCore_keeps
    | with_reducible apply runEnded_keeps | with_reducible apply endTargeted_keeps | with_reducible apply classify_keeps
    | with_reducible apply returnLease_keeps | with_reducible apply askLease_keeps
    | (extract_lets +onlyGivenNames x; refine (fun (hx : Keeps kp s0 x) => ?_ : Keeps kp s0 x → _) ?_; (on_goal 2 => subst x); (on_goal 1 => clear_value x))
    | (extract_lets +onlyGivenNames x; clear_value x)
    | split
theorem screenVerdict_keeps (d p v reruns : Nat) (twice : Bool) (h : Keeps kp s0 s) :
    Keeps kp s0 (s.screenVerdict d p v reruns twice) := by
  unfold State.screenVerdict
  repeat' first
    | with_reducible assumption | exact fun _ => rfl | (intro t a ht; beta_reduce) | (intro t ht; beta_reduce) | with_reducible apply record_keeps
    | with_reducible apply modBeater_keeps | with_reducible apply unpark_keeps | with_reducible apply agentCount_keeps
    | with_reducible apply bistBlock_keeps | with_reducible apply modPkg_keeps | with_reducible apply screenEffect_keeps
    | with_reducible apply modCore_keeps | with_reducible apply returnLease_keeps | with_reducible apply endBeat_keeps
    | with_reducible apply askLease_keeps
    | (extract_lets +onlyGivenNames x; refine (fun (hx : Keeps kp s0 x) => ?_ : Keeps kp s0 x → _) ?_; (on_goal 2 => subst x); (on_goal 1 => clear_value x))
    | (extract_lets +onlyGivenNames x; clear_value x)
    | split
theorem confirmEnd_keeps (d p misr : Nat) (ok : Bool) (h : Keeps kp s0 s) :
    Keeps kp s0 (s.confirmEnd d p misr ok) := by
  unfold State.confirmEnd
  repeat' first
    | with_reducible assumption | exact fun _ => rfl | (intro t a ht; beta_reduce) | (intro t ht; beta_reduce) | with_reducible apply askLease_keeps
    | with_reducible apply modBeater_keeps | with_reducible apply screenVerdict_keeps
    | (extract_lets +onlyGivenNames x; refine (fun (hx : Keeps kp s0 x) => ?_ : Keeps kp s0 x → _) ?_; (on_goal 2 => subst x); (on_goal 1 => clear_value x))
    | (extract_lets +onlyGivenNames x; clear_value x)
    | split
theorem coreFail_keeps (p offset : Nat) (h : Keeps kp s0 s) :
    Keeps kp s0 (s.coreFail p offset) := by
  unfold State.coreFail
  repeat' first
    | with_reducible assumption | exact fun _ => rfl | (intro t a ht; beta_reduce) | (intro t ht; beta_reduce)
    | with_reducible apply agentCount_keeps | with_reducible apply failUnit_keeps | with_reducible apply failRegs_keeps
    | with_reducible apply tapRing_keeps | with_reducible apply checkFail_keeps | with_reducible apply reportFault_keeps
    | (extract_lets +onlyGivenNames x; refine (fun (hx : Keeps kp s0 x) => ?_ : Keeps kp s0 x → _) ?_; (on_goal 2 => subst x); (on_goal 1 => clear_value x))
    | (extract_lets +onlyGivenNames x; clear_value x)
    | split
theorem recordHang_keeps (kind p n : Nat) (h : Keeps kp s0 s) :
    Keeps kp s0 (s.recordHang kind p n) := by
  unfold State.recordHang
  repeat' first
    | with_reducible assumption | with_reducible apply record_keeps
theorem countPartHang_keeps (p c : Nat) (h : Keeps kp s0 s) :
    Keeps kp s0 (s.countPartHang p c) := by
  unfold State.countPartHang
  repeat' first
    | with_reducible assumption | with_reducible apply vatCount_keeps
theorem deadlock_keeps (p n c : Nat) (h : Keeps kp s0 s) :
    Keeps kp s0 (s.deadlock p n c) := by
  unfold State.deadlock
  repeat' first
    | with_reducible assumption | with_reducible apply faultCtx_keeps | with_reducible apply recordHang_keeps
    | with_reducible apply countPartHang_keeps
theorem replaceNow_keeps (n old kind cause : Nat) (h : Keeps kp s0 s) :
    Keeps kp s0 (s.replaceNow n old kind cause) := by
  unfold State.replaceNow
  repeat' first
    | with_reducible assumption | exact fun _ => rfl | (intro t a ht; beta_reduce) | (intro t ht; beta_reduce) | with_reducible apply modSh_keeps
    | with_reducible apply holdCore_keeps | with_reducible apply beginReplace_keeps | with_reducible apply replaceStuck_keeps
    | (intro g; split <;> rfl)
    | (extract_lets +onlyGivenNames x; refine (fun (hx : Keeps kp s0 x) => ?_ : Keeps kp s0 x → _) ?_; (on_goal 2 => subst x); (on_goal 1 => clear_value x))
    | (extract_lets +onlyGivenNames x; refine (fun (hx : Keeps kp s0 x.1) => ?_ : Keeps kp s0 x.1 → _) ?_; (on_goal 2 => subst x); (on_goal 1 => clear_value x))
    | (extract_lets +onlyGivenNames x; refine (fun (hx : Keeps kp s0 x.2) => ?_ : Keeps kp s0 x.2 → _) ?_; (on_goal 2 => subst x); (on_goal 1 => clear_value x))
    | (extract_lets +onlyGivenNames x; have : ∀ z, x z = x z := fun _ => rfl; clear this; subst x; beta_reduce)
    | (extract_lets +onlyGivenNames x; clear_value x)
    | split
theorem coreHangs_keeps (p n c : Nat) (h : Keeps kp s0 s) :
    Keeps kp s0 (s.coreHangs p n c) := by
  unfold State.coreHangs
  repeat' first
    | with_reducible assumption | exact fun _ => rfl | (intro t a ht; beta_reduce) | (intro t ht; beta_reduce) | with_reducible apply deadlock_keeps
    | with_reducible apply recordHang_keeps | with_reducible apply agentCount_keeps | with_reducible apply modLc_keeps
    | with_reducible apply modCore_keeps | with_reducible apply hangReset_keeps | with_reducible apply replaceNow_keeps
    | with_reducible apply autoDump_keeps
    | (extract_lets +onlyGivenNames x; refine (fun (hx : Keeps kp s0 x) => ?_ : Keeps kp s0 x → _) ?_; (on_goal 2 => subst x); (on_goal 1 => clear_value x))
    | (extract_lets +onlyGivenNames x; clear_value x)
    | split
theorem creditWindow_keeps (p : Nat) (h : Keeps kp s0 s) :
    Keeps kp s0 (s.creditWindow p) := by
  unfold State.creditWindow
  repeat' first
    | with_reducible assumption | exact fun _ => rfl | (intro t a ht; beta_reduce) | (intro t ht; beta_reduce) | with_reducible apply advanced_keeps
    | with_reducible apply modLc_keeps | with_reducible apply modCore_keeps
    | (extract_lets +onlyGivenNames x; refine (fun (hx : Keeps kp s0 x) => ?_ : Keeps kp s0 x → _) ?_; (on_goal 2 => subst x); (on_goal 1 => clear_value x))
    | (extract_lets +onlyGivenNames x; clear_value x)
    | split
theorem signalBarrier_keeps (c : Nat) (h : Keeps kp s0 s) :
    Keeps kp s0 (s.signalBarrier c) := by
  unfold State.signalBarrier
  repeat' first
    | with_reducible assumption | with_reducible apply endCompare_keeps | with_reducible apply freeReplica_keeps
    | with_reducible apply modReplica_keeps | with_reducible apply emit_keeps
theorem digestPath_keeps (c : Nat) (o : Replica) (i : Nat) (own : DigestRec) (h : Keeps kp s0 s) :
    Keeps kp s0 (s.digestPath c o i own) := by
  unfold State.digestPath
  repeat' first
    | with_reducible assumption | exact fun _ => rfl | (intro t a ht; beta_reduce) | (intro t ht; beta_reduce) | with_reducible apply each_keepsS
    | with_reducible apply vatSend_keeps | with_reducible apply queueBeat_keeps | with_reducible apply signalBarrier_keeps
    | with_reducible apply disagreed_keeps | split
theorem freeParam_keeps (h : Keeps kp s0 s) :
    Keeps kp s0 (s.freeParam).2 := by
  unfold State.freeParam
  repeat' first
    | with_reducible assumption | with_reducible apply draw_keeps
theorem markRecord_keeps (code severity source p1 : Nat) (h : Keeps kp s0 s) :
    Keeps kp s0 (s.markRecord code severity source p1) := by
  unfold State.markRecord
  repeat' first
    | with_reducible assumption | with_reducible apply freeParam_keeps | with_reducible apply record_keeps
theorem locateBetween_keeps (c : Nat) (o : Replica) (others : List DigestRec) (h : Keeps kp s0 s) :
    Keeps kp s0 (s.locateBetween c o others) := by
  unfold State.locateBetween
  repeat' first
    | with_reducible assumption | exact fun _ => rfl | (intro t a ht; beta_reduce) | (intro t ht; beta_reduce) | with_reducible apply each_keepsS
    | with_reducible apply queueBeat_keeps | with_reducible apply markRecord_keeps | with_reducible apply modReplica_keeps | split
theorem decideTwo_keeps (c : Nat) (o : Replica) (i : Nat) (own other otherInPass : DigestRec) (others : List DigestRec) (h : Keeps kp s0 s) :
    Keeps kp s0 (s.decideTwo c o i own other otherInPass others) := by
  unfold State.decideTwo
  repeat' first
    | with_reducible assumption | exact fun _ => rfl | (intro t a ht; beta_reduce) | (intro t ht; beta_reduce)
    | with_reducible apply modReplica_keeps | with_reducible apply digestPath_keeps | with_reducible apply expelTwo_keeps
    | with_reducible apply endCompare_keeps | with_reducible apply modSh_keeps | with_reducible apply locateBetween_keeps
    | (extract_lets +onlyGivenNames x; refine (fun (hx : Keeps kp s0 x) => ?_ : Keeps kp s0 x → _) ?_; (on_goal 2 => subst x); (on_goal 1 => clear_value x))
    | (extract_lets +onlyGivenNames x; clear_value x)
    | split
theorem setRing_keeps (die ring v : Nat) (h : Keeps kp s0 s) :
    Keeps kp s0 (s.setRing die ring v) := by
  unfold State.setRing
  repeat' first
    | with_reducible assumption | with_reducible apply modDie_keeps
theorem declareDown_keeps (die port cause : Nat) (h : Keeps kp s0 s) :
    Keeps kp s0 (s.declareDown die port cause) := by
  unfold State.declareDown
  repeat' first
    | with_reducible assumption | exact fun _ => rfl | (intro t a ht; beta_reduce) | (intro t ht; beta_reduce) | with_reducible apply modPort_keeps
    | with_reducible apply each_keepsS | with_reducible apply modFelt_keeps | with_reducible apply setRing_keeps
    | with_reducible apply dieRing_keeps | with_reducible apply control_keeps | with_reducible apply discardFrames_keeps
    | with_reducible apply feltSend_keeps
    | (extract_lets +onlyGivenNames x; refine (fun (hx : Keeps kp s0 x) => ?_ : Keeps kp s0 x → _) ?_; (on_goal 2 => subst x); (on_goal 1 => clear_value x))
    | (extract_lets +onlyGivenNames x; clear_value x)
    | split
theorem declareReady_keeps (h : Keeps kp s0 s) :
    Keeps kp s0 (s.declareReady) := by
  unfold State.declareReady
  repeat' first
    | with_reducible assumption | exact fun _ => rfl | (intro t a ht; beta_reduce) | (intro t ht; beta_reduce) | with_reducible apply modPkg_keeps
    | with_reducible apply clearOverdue_keeps | with_reducible apply mirror_keeps | with_reducible apply mramWrite_keeps
    | with_reducible apply record_keeps | with_reducible apply msi_keeps | split
theorem distAnswer_keeps (d dist answer : Nat) (h : Keeps kp s0 s) :
    Keeps kp s0 (s.distAnswer d dist answer) := by
  unfold State.distAnswer
  repeat' first
    | with_reducible assumption | with_reducible apply toVat_keeps
theorem unholdDie_keeps (d key : Nat) (h : Keeps kp s0 s) :
    Keeps kp s0 (s.unholdDie d key) := by
  unfold State.unholdDie
  repeat' first
    | with_reducible assumption | exact fun _ => rfl | (intro t a ht; beta_reduce) | (intro t ht; beta_reduce)
    | with_reducible apply unholdRegion_keeps | with_reducible apply each_keepsS | with_reducible apply chargeHold_keeps
    | with_reducible apply ringHold_keeps | split
theorem freeCore_keeps (c p : Nat) (h : Keeps kp s0 s) :
    Keeps kp s0 (s.freeCore c p) := by
  unfold State.freeCore
  repeat' first
    | with_reducible assumption | exact fun _ => rfl | (intro t a ht; beta_reduce) | (intro t ht; beta_reduce)
    | with_reducible apply unholdCore_keeps | with_reducible apply modCore_keeps
    | (extract_lets +onlyGivenNames x; refine (fun (hx : Keeps kp s0 x) => ?_ : Keeps kp s0 x → _) ?_; (on_goal 2 => subst x); (on_goal 1 => clear_value x))
    | (extract_lets +onlyGivenNames x; clear_value x)
    | split
theorem freeScope_keeps (c scope : Nat) (h : Keeps kp s0 s) :
    Keeps kp s0 (s.freeScope c scope) := by
  unfold State.freeScope
  repeat' first
    | with_reducible assumption | exact fun _ => rfl | (intro t a ht; beta_reduce) | (intro t ht; beta_reduce) | with_reducible apply each_keepsS
    | with_reducible apply unholdDie_keeps | with_reducible apply freeCore_keeps | split
theorem doResume_keeps (c run : Nat) (b : BrkHold) (h : Keeps kp s0 s) :
    Keeps kp s0 (s.doResume c run b) := by
  unfold State.doResume
  repeat' first
    | with_reducible assumption | exact fun _ => rfl | (intro t a ht; beta_reduce) | (intro t ht; beta_reduce)
    | with_reducible apply freeScope_keeps | with_reducible apply modCtx_keeps | with_reducible apply each_keepsS
    | with_reducible apply modCore_keeps | with_reducible apply applyKept_keeps | with_reducible apply drainGate_keeps
    | with_reducible apply mirror_keeps | with_reducible apply record_keeps
    | (extract_lets +onlyGivenNames x; refine (fun (hx : Keeps kp s0 x) => ?_ : Keeps kp s0 x → _) ?_; (on_goal 2 => subst x); (on_goal 1 => clear_value x))
    | (extract_lets +onlyGivenNames x; clear_value x)
    | split
theorem dropAgentHolds_keeps (d : Nat) (h : Keeps kp s0 s) :
    Keeps kp s0 (s.dropAgentHolds d) := by
  unfold State.dropAgentHolds
  repeat' first
    | with_reducible assumption | with_reducible apply unholdDie_keeps
theorem dropBrk_keeps (c : Nat) (h : Keeps kp s0 s) :
    Keeps kp s0 (s.dropBrk c) := by
  unfold State.dropBrk
  repeat' first
    | with_reducible assumption | with_reducible apply modCtx_keeps | with_reducible apply endOp_keeps | with_reducible apply freeScope_keeps
    | split
theorem dropQueues_keeps (h0 : Hub) (h : Keeps kp s0 s) :
    Keeps kp s0 (s.dropQueues h0) := by
  unfold State.dropQueues
  repeat' first
    | with_reducible assumption | exact fun _ => rfl | (intro t a ht; beta_reduce) | (intro t ht; beta_reduce) | with_reducible apply each_keepsS
    | with_reducible apply vatCount_keeps | with_reducible apply modVat_keeps | split
theorem dropReset_keeps (domain target : Nat) (h : Keeps kp s0 s) :
    Keeps kp s0 (s.dropReset domain target) := by
  unfold State.dropReset
  repeat' first
    | with_reducible assumption | with_reducible apply modSh_keeps
theorem dropUnmirrored_keeps (h : Keeps kp s0 s) :
    Keeps kp s0 (s.dropUnmirrored) := by
  unfold State.dropUnmirrored
  repeat' first
    | with_reducible assumption | exact fun _ => rfl | (intro t a ht; beta_reduce) | (intro t ht; beta_reduce) | with_reducible apply each_keepsS
    | with_reducible apply abortDist_keeps | with_reducible apply modSh_keeps | with_reducible apply modPkg_keeps
    | with_reducible apply modDbg_keeps | with_reducible apply hangReset_keeps | split
theorem endCalHold_keeps (d : Nat) (h : Keeps kp s0 s) :
    Keeps kp s0 (s.endCalHold d) := by
  unfold State.endCalHold
  repeat' first
    | with_reducible assumption | with_reducible apply unholdDie_keeps | split
theorem takeOver_keeps (old new : Hub) (e : Nat) (h : Keeps kp s0 s) :
    Keeps kp s0 (s.takeOver old new e) := by
  unfold State.takeOver
  repeat' first
    | with_reducible assumption | exact fun _ => rfl | (intro t a ht; beta_reduce) | (intro t ht; beta_reduce) | with_reducible apply modFelt_keeps
    | with_reducible apply each_keepsS | with_reducible apply feltSend_keeps | split
theorem sendHeld_keeps (d : Nat) (h : Keeps kp s0 s) :
    Keeps kp s0 (s.sendHeld d) := by
  unfold State.sendHeld
  repeat' first
    | with_reducible assumption | exact fun _ => rfl | (intro t a ht; beta_reduce) | (intro t ht; beta_reduce) | with_reducible apply each_keepsS
    | with_reducible apply toVat_keeps | with_reducible apply modDie_keeps | split
theorem sendAllHeld_keeps (h : Keeps kp s0 s) :
    Keeps kp s0 (s.sendAllHeld) := by
  unfold State.sendAllHeld
  repeat' first
    | with_reducible assumption | with_reducible apply each_keepsS | with_reducible apply sendHeld_keeps
theorem resumePath_keeps (path : Nat) (h : Keeps kp s0 s) :
    Keeps kp s0 (s.resumePath path) := by
  unfold State.resumePath
  repeat' first
    | with_reducible assumption | exact fun _ => rfl | (intro t a ht; beta_reduce) | (intro t ht; beta_reduce) | with_reducible apply modSh_keeps
    | with_reducible apply vatCount_keeps | with_reducible apply record_keeps
    | (extract_lets +onlyGivenNames x; refine (fun (hx : Keeps kp s0 x) => ?_ : Keeps kp s0 x → _) ?_; (on_goal 2 => subst x); (on_goal 1 => clear_value x))
    | (extract_lets +onlyGivenNames x; clear_value x)
    | split
theorem flushMgmt_keeps (h : Keeps kp s0 s) :
    Keeps kp s0 (s.flushMgmt) := by
  unfold State.flushMgmt
  repeat' first
    | with_reducible assumption | exact fun _ => rfl | (intro t a ht; beta_reduce) | (intro t ht; beta_reduce) | with_reducible apply each_keepsS
    | with_reducible apply emit_keeps | with_reducible apply modSh_keeps | with_reducible apply feltSend_keeps | split
theorem resumeTriages_keeps (h : Keeps kp s0 s) :
    Keeps kp s0 (s.resumeTriages) := by
  unfold State.resumeTriages
  repeat' first
    | with_reducible assumption | exact fun _ => rfl | (intro t a ht; beta_reduce) | (intro t ht; beta_reduce) | with_reducible apply each_keepsS
    | with_reducible apply orderB_keeps | with_reducible apply replayed_keeps | with_reducible apply orderA_keeps | split
theorem rebuildStop_keeps (h : Keeps kp s0 s) :
    Keeps kp s0 (s.rebuildStop) := by
  unfold State.rebuildStop
  repeat' first
    | with_reducible assumption | with_reducible apply each_keepsS | with_reducible apply sendStop_keeps | with_reducible apply modDbg_keeps | split
theorem endGap_keeps (g : Gap) (h : Keeps kp s0 s) :
    Keeps kp s0 (s.endGap g) := by
  unfold State.endGap
  repeat' first
    | with_reducible assumption | exact fun _ => rfl | (intro t a ht; beta_reduce) | (intro t ht; beta_reduce) | with_reducible apply vatDown_keeps
    | with_reducible apply modVat_keeps | with_reducible apply modSh_keeps | with_reducible apply dropQueues_keeps
    | with_reducible apply dropUnmirrored_keeps | with_reducible apply takeHeldRecs_keeps | with_reducible apply takeOver_keeps
    | with_reducible apply each_keepsS | with_reducible apply afterGap_keeps | with_reducible apply finish_keeps | with_reducible apply record_keeps
    | with_reducible apply epochEnd_keeps | with_reducible apply vatCount_keeps | with_reducible apply sendAllHeld_keeps
    | with_reducible apply rollAll_keeps | with_reducible apply resumePath_keeps | with_reducible apply flushMgmt_keeps
    | with_reducible apply resumeTriages_keeps | with_reducible apply releaseHeld_keeps | with_reducible apply rebuildStop_keeps | split
theorem endLease_keeps (d : Nat) (h : Keeps kp s0 s) :
    Keeps kp s0 (s.endLease d) := by
  unfold State.endLease
  repeat' first
    | with_reducible assumption | with_reducible apply returnLease_keeps | split
theorem endShift_keeps (d p : Nat) (h : Keeps kp s0 s) :
    Keeps kp s0 (s.endShift d p) := by
  unfold State.endShift
  repeat' first
    | with_reducible assumption | with_reducible apply modBeater_keeps | with_reducible apply creditWindow_keeps
    | with_reducible apply setStall_keeps | with_reducible apply endLease_keeps | split
theorem endSnapHold_keeps (c : Nat) (h : Keeps kp s0 s) :
    Keeps kp s0 (s.endSnapHold c) := by
  unfold State.endSnapHold
  repeat' first
    | with_reducible assumption | exact fun _ => rfl | (intro t a ht; beta_reduce) | (intro t ht; beta_reduce) | with_reducible apply each_keepsS
    | with_reducible apply modLc_keeps | with_reducible apply unholdCore_keeps
    | (extract_lets +onlyGivenNames x; refine (fun (hx : Keeps kp s0 x) => ?_ : Keeps kp s0 x → _) ?_; (on_goal 2 => subst x); (on_goal 1 => clear_value x))
    | (extract_lets +onlyGivenNames x; clear_value x)
    | split
theorem endSwitchWait_keeps (h : Keeps kp s0 s) :
    Keeps kp s0 (s.endSwitchWait) := by
  unfold State.endSwitchWait
  repeat' first
    | with_reducible assumption | with_reducible apply modSh_keeps | with_reducible apply sendAllHeld_keeps
    | with_reducible apply takeHeldRecs_keeps | with_reducible apply endOp_keeps | split
theorem endWalk_keeps (chain : List Nat) (h : Keeps kp s0 s) :
    Keeps kp s0 (s.endWalk chain) := by
  unfold State.endWalk
  repeat' first
    | with_reducible assumption | exact fun _ => rfl | (intro t a ht; beta_reduce) | (intro t ht; beta_reduce) | with_reducible apply each_keepsS
    | with_reducible apply modCore_keeps | split
theorem openFlash_keeps (h : Keeps kp s0 s) :
    Keeps kp s0 (s.openFlash) := by
  unfold State.openFlash
  repeat' first
    | with_reducible assumption | exact fun _ => rfl | (intro t a ht; beta_reduce) | (intro t ht; beta_reduce) | with_reducible apply modPkg_keeps
    | with_reducible apply each_keepsS | with_reducible apply windowRec_keeps | with_reducible apply endRuns_keeps | split
theorem evalFlash_keeps (n : Nat) (t : Int) (h : Keeps kp s0 s) :
    Keeps kp s0 (s.evalFlash n t) := by
  unfold State.evalFlash
  repeat' first
    | with_reducible assumption | exact fun _ => rfl | (intro t a ht; beta_reduce) | (intro t ht; beta_reduce)
    | with_reducible apply closeFlash_keeps | with_reducible apply openFlash_keeps | with_reducible apply modPkg_keeps
    | (extract_lets +onlyGivenNames x; refine (fun (hx : Keeps kp s0 x) => ?_ : Keeps kp s0 x → _) ?_; (on_goal 2 => subst x); (on_goal 1 => clear_value x))
    | (extract_lets +onlyGivenNames x; clear_value x)
    | split
theorem stageLost_keeps (h0 : Hub) (h : Keeps kp s0 s) :
    Keeps kp s0 (s.stageLost h0) := by
  unfold State.stageLost
  repeat' first
    | with_reducible assumption | exact fun _ => rfl | (intro t a ht; beta_reduce) | (intro t ht; beta_reduce) | with_reducible apply record_keeps
    | with_reducible apply modVat_keeps
    | (extract_lets +onlyGivenNames x; refine (fun (hx : Keeps kp s0 x) => ?_ : Keeps kp s0 x → _) ?_; (on_goal 2 => subst x); (on_goal 1 => clear_value x))
    | (extract_lets +onlyGivenNames x; clear_value x)
    | split
theorem refill_keeps (h0 : Hub) (h : Keeps kp s0 s) :
    Keeps kp s0 (s.refill h0) := by
  unfold State.refill
  repeat' first
    | with_reducible assumption | exact fun _ => rfl | (intro t a ht; beta_reduce) | (intro t ht; beta_reduce)
    | with_reducible apply stageLost_keeps | with_reducible apply modVat_keeps
    | (extract_lets +onlyGivenNames x; refine (fun (hx : Keeps kp s0 x) => ?_ : Keeps kp s0 x → _) ?_; (on_goal 2 => subst x); (on_goal 1 => clear_value x))
    | (extract_lets +onlyGivenNames x; clear_value x)
    | split
theorem openMram_keeps (h0 : Hub) (h : Keeps kp s0 s) :
    Keeps kp s0 (s.openMram h0) := by
  unfold State.openMram
  repeat' first
    | with_reducible assumption | exact fun _ => rfl | (intro t a ht; beta_reduce) | (intro t ht; beta_reduce) | with_reducible apply modPkg_keeps
    | with_reducible apply modVat_keeps | with_reducible apply clearWaiting_keeps | with_reducible apply windowRec_keeps
    | with_reducible apply refill_keeps | split
theorem evalMram_keeps (h0 : Hub) (n : Nat) (t : Int) (h : Keeps kp s0 s) :
    Keeps kp s0 (s.evalMram h0 n t) := by
  unfold State.evalMram
  repeat' first
    | with_reducible assumption | exact fun _ => rfl | (intro t a ht; beta_reduce) | (intro t ht; beta_reduce)
    | with_reducible apply closeMram_keeps | with_reducible apply openMram_keeps | with_reducible apply modVat_keeps
    | (extract_lets +onlyGivenNames x; refine (fun (hx : Keeps kp s0 x) => ?_ : Keeps kp s0 x → _) ?_; (on_goal 2 => subst x); (on_goal 1 => clear_value x))
    | (extract_lets +onlyGivenNames x; clear_value x)
    | split
theorem evalNear_keeps (d n : Nat) (t : Int) (h : Keeps kp s0 s) :
    Keeps kp s0 (s.evalNear d n t) := by
  unfold State.evalNear
  repeat' first
    | with_reducible assumption | exact fun _ => rfl | (intro t a ht; beta_reduce) | (intro t ht; beta_reduce) | with_reducible apply modCal_keeps
    | with_reducible apply modSh_keeps | with_reducible apply agentCount_keeps
    | (extract_lets +onlyGivenNames x; refine (fun (hx : Keeps kp s0 x) => ?_ : Keeps kp s0 x → _) ?_; (on_goal 2 => subst x); (on_goal 1 => clear_value x))
    | (extract_lets +onlyGivenNames x; clear_value x)
    | split
theorem evalThermHold_keeps (d : Nat) (h : Keeps kp s0 s) :
    Keeps kp s0 (s.evalThermHold d) := by
  unfold State.evalThermHold
  repeat' first
    | with_reducible assumption | exact fun _ => rfl | (intro t a ht; beta_reduce) | (intro t ht; beta_reduce)
    | with_reducible apply endCalHold_keeps | with_reducible apply modCal_keeps
    | (extract_lets +onlyGivenNames x; refine (fun (hx : Keeps kp s0 x) => ?_ : Keeps kp s0 x → _) ?_; (on_goal 2 => subst x); (on_goal 1 => clear_value x))
    | (extract_lets +onlyGivenNames x; clear_value x)
    | split
theorem runLocate_keeps (c : Nat) (refs : List RefRec) (samePlan : Bool) (h : Keeps kp s0 s) :
    Keeps kp s0 (s.runLocate c refs samePlan) := by
  unfold State.runLocate
  repeat' first
    | with_reducible assumption | exact fun _ => rfl | (intro t a ht; beta_reduce) | (intro t ht; beta_reduce)
    | with_reducible apply markRecord_keeps | with_reducible apply each_keepsS | with_reducible apply queueBeat_keeps | split
theorem expectMismatch_keeps (c layer oper : Nat) (h : Keeps kp s0 s) :
    Keeps kp s0 (s.expectMismatch c layer oper) := by
  unfold State.expectMismatch
  repeat' first
    | with_reducible assumption | with_reducible apply freeParam_keeps | with_reducible apply vatCount_keeps | with_reducible apply markRecord_keeps
    | with_reducible apply runLocate_keeps
theorem failDeferred_keeps (p : Nat) (h : Keeps kp s0 s) :
    Keeps kp s0 (s.failDeferred p) := by
  unfold State.failDeferred
  repeat' first
    | with_reducible assumption | exact fun _ => rfl | (intro t a ht; beta_reduce) | (intro t ht; beta_reduce) | with_reducible apply modCore_keeps
    | with_reducible apply modDie_keeps | with_reducible apply each_keepsS | with_reducible apply emit_keeps
    | (extract_lets +onlyGivenNames x; refine (fun (hx : Keeps kp s0 x) => ?_ : Keeps kp s0 x → _) ?_; (on_goal 2 => subst x); (on_goal 1 => clear_value x))
    | (extract_lets +onlyGivenNames x; clear_value x)
    | split
theorem failSnap_keeps (c reason : Nat) (h : Keeps kp s0 s) :
    Keeps kp s0 (s.failSnap c reason) := by
  unfold State.failSnap
  repeat' first
    | with_reducible assumption | with_reducible apply endSnapHold_keeps | with_reducible apply modCtx_keeps | with_reducible apply endOp_keeps
    | with_reducible apply mirror_keeps | with_reducible apply snapFail_keeps | split
theorem takePair_keeps (r : PairReport) (h : Keeps kp s0 s) :
    Keeps kp s0 (s.takePair r) := by
  unfold State.takePair
  repeat' first
    | with_reducible assumption | exact fun _ => rfl | (intro t a ht; beta_reduce) | (intro t ht; beta_reduce) | with_reducible apply partDone_keeps
    | with_reducible apply modTicket_keeps | with_reducible apply giveVerdict_keeps | with_reducible apply pairFail_keeps
    | with_reducible apply settleAll_keeps | with_reducible apply modSh_keeps
    | (extract_lets +onlyGivenNames x; refine (fun (hx : Keeps kp s0 x) => ?_ : Keeps kp s0 x → _) ?_; (on_goal 2 => subst x); (on_goal 1 => clear_value x))
    | (extract_lets +onlyGivenNames x; clear_value x)
    | split
theorem takeLaid_keeps (r : LaidReport) (h : Keeps kp s0 s) :
    Keeps kp s0 (s.takeLaid r) := by
  unfold State.takeLaid
  repeat' first
    | with_reducible assumption | exact fun _ => rfl | (intro t a ht; beta_reduce) | (intro t ht; beta_reduce) | with_reducible apply partDone_keeps
    | with_reducible apply modTicket_keeps | with_reducible apply giveVerdict_keeps | with_reducible apply checkFail_keeps
    | with_reducible apply settleAll_keeps | with_reducible apply modSh_keeps
    | (extract_lets +onlyGivenNames x; refine (fun (hx : Keeps kp s0 x) => ?_ : Keeps kp s0 x → _) ?_; (on_goal 2 => subst x); (on_goal 1 => clear_value x))
    | (extract_lets +onlyGivenNames x; clear_value x)
    | split
theorem feedReplay_keeps (t : Triage) (digest : List Nat) (h : Keeps kp s0 s) :
    Keeps kp s0 (s.feedReplay t digest) := by
  unfold State.feedReplay
  repeat' first
    | with_reducible assumption | exact fun _ => rfl | (intro t a ht; beta_reduce) | (intro t ht; beta_reduce) | with_reducible apply each_keepsS
    | with_reducible apply takePair_keeps | with_reducible apply takeLaid_keeps | split
theorem fillFailed_keeps (p cause : Nat) (h : Keeps kp s0 s) :
    Keeps kp s0 (s.fillFailed p cause) := by
  unfold State.fillFailed
  repeat' first
    | with_reducible assumption | with_reducible apply triageBeat_keeps | with_reducible apply fenceCore_keeps
    | with_reducible apply agentCount_keeps
theorem moveHolds_keeps (old new : Nat) (h : Keeps kp s0 s) :
    Keeps kp s0 (s.moveHolds old new) := by
  unfold State.moveHolds
  repeat' first
    | with_reducible assumption | exact fun _ => rfl | (intro t a ht; beta_reduce) | (intro t ht; beta_reduce) | with_reducible apply each_keepsS
    | with_reducible apply unholdCore_keeps | with_reducible apply holdCore_keeps | split
theorem recross_keeps (n : Nat) (h : Keeps kp s0 s) :
    Keeps kp s0 (s.recross n) := by
  unfold State.recross
  repeat' first
    | with_reducible assumption | exact fun _ => rfl | (intro t a ht; beta_reduce) | (intro t ht; beta_reduce)
    | with_reducible apply settleAll_keeps | with_reducible apply each_keepsS | with_reducible apply modTicket_keeps
    | with_reducible apply takePools_keeps
    | (extract_lets +onlyGivenNames x; refine (fun (hx : Keeps kp s0 x) => ?_ : Keeps kp s0 x → _) ?_; (on_goal 2 => subst x); (on_goal 1 => clear_value x))
    | (extract_lets +onlyGivenNames x; clear_value x)
    | split
theorem placeOn_keeps (n old new kind oldState cause since : Nat) (h : Keeps kp s0 s) :
    Keeps kp s0 (s.placeOn n old new kind oldState cause since) := by
  unfold State.placeOn
  repeat' first
    | with_reducible assumption | exact fun _ => rfl | (intro t a ht; beta_reduce) | (intro t ht; beta_reduce) | with_reducible apply orderNow_keeps
    | with_reducible apply modSh_keeps | with_reducible apply tapRing_keeps | with_reducible apply profFlush_keeps
    | with_reducible apply modCore_keeps | with_reducible apply setHome_keeps | with_reducible apply setStall_keeps
    | with_reducible apply setPhys_keeps | with_reducible apply mramWrite_keeps | with_reducible apply modPkg_keeps
    | with_reducible apply mirror_keeps | with_reducible apply moveHolds_keeps | with_reducible apply each_keepsS
    | with_reducible apply sendWm_keeps | with_reducible apply profStart_keeps | with_reducible apply unholdCore_keeps
    | with_reducible apply thawCore_keeps | with_reducible apply releaseXfers_keeps | with_reducible apply recross_keeps
    | with_reducible apply coloc_keeps | with_reducible apply record_keeps | with_reducible apply checkHome_keeps
    | with_reducible apply freePark_keeps | with_reducible apply applyKept_keeps | with_reducible apply gateCore_keeps
    | (extract_lets +onlyGivenNames x; refine (fun (hx : Keeps kp s0 x) => ?_ : Keeps kp s0 x → _) ?_; (on_goal 2 => subst x); (on_goal 1 => clear_value x))
    | (extract_lets +onlyGivenNames x; clear_value x)
    | split
theorem finishReplace_keeps (r : Replace) (new : Nat) (h : Keeps kp s0 s) :
    Keeps kp s0 (s.finishReplace r new) := by
  unfold State.finishReplace
  repeat' first
    | with_reducible assumption | exact fun _ => rfl | (intro t a ht; beta_reduce) | (intro t ht; beta_reduce)
    | with_reducible apply addReplay_keeps | with_reducible apply placeOn_keeps | with_reducible apply screenEffect_keeps
    | (extract_lets +onlyGivenNames x; refine (fun (hx : Keeps kp s0 x) => ?_ : Keeps kp s0 x → _) ?_; (on_goal 2 => subst x); (on_goal 1 => clear_value x))
    | (extract_lets +onlyGivenNames x; clear_value x)
    | split
theorem flashDo_keeps (rq : Req) (op : Nat) (x : Option (Nat × List Byte)) (h : Keeps kp s0 s) :
    Keeps kp s0 (s.flashDo rq op x) := by
  unfold State.flashDo
  repeat' first
    | with_reducible assumption | exact fun _ => rfl | (intro t a ht; beta_reduce) | (intro t ht; beta_reduce) | with_reducible apply finish_keeps
    | with_reducible apply modPkg_keeps | with_reducible apply beginRun_keeps | split
theorem foldGroup_keeps (t expo : Nat) (mants accs : List Int) (x : GroupAt) (h : Keeps kp s0 s) :
    Keeps kp s0 (s.foldGroup t expo mants accs x) := by
  unfold State.foldGroup
  repeat' first
    | with_reducible assumption | exact fun _ => rfl | (intro t a ht; beta_reduce) | (intro t ht; beta_reduce)
    | with_reducible apply modTicket_keeps
    | (extract_lets +onlyGivenNames x; refine (fun (hx : Keeps kp s0 x) => ?_ : Keeps kp s0 x → _) ?_; (on_goal 2 => subst x); (on_goal 1 => clear_value x))
    | (extract_lets +onlyGivenNames x; clear_value x)
    | split
theorem haltSlice_keeps (d p : Nat) (keep : Bool) (h : Keeps kp s0 s) :
    Keeps kp s0 (s.haltSlice d p keep) := by
  unfold State.haltSlice
  repeat' first
    | with_reducible assumption | exact fun _ => rfl | (intro t a ht; beta_reduce) | (intro t ht; beta_reduce)
    | with_reducible apply modBeater_keeps | with_reducible apply endShift_keeps | with_reducible apply unpark_keeps
    | with_reducible apply holdCore_keeps
    | (extract_lets +onlyGivenNames x; refine (fun (hx : Keeps kp s0 x) => ?_ : Keeps kp s0 x → _) ?_; (on_goal 2 => subst x); (on_goal 1 => clear_value x))
    | (extract_lets +onlyGivenNames x; clear_value x)
    | split
theorem hear_keeps (d : Nat) (h : Keeps kp s0 s) :
    Keeps kp s0 (s.hear d) := by
  unfold State.hear
  repeat' first
    | with_reducible assumption | with_reducible apply modFelt_keeps
theorem takeReset_keeps (h : Keeps kp s0 s) :
    Keeps kp s0 (s.takeReset) := by
  unfold State.takeReset
  repeat' first
    | with_reducible assumption | with_reducible apply modSh_keeps | with_reducible apply startTeardown_keeps
    | with_reducible apply requestReset_keeps | split
theorem takeReact_keeps (h : Keeps kp s0 s) :
    Keeps kp s0 (s.takeReact) := by
  unfold State.takeReact
  repeat' first
    | with_reducible assumption | with_reducible apply agentReact_keeps | with_reducible apply modSh_keeps | with_reducible apply packageReset_keeps
    | split
theorem takeDue_keeps (h : Keeps kp s0 s) :
    Keeps kp s0 (s.takeDue) := by
  unfold State.takeDue
  repeat' first
    | with_reducible assumption | with_reducible apply takeReset_keeps | with_reducible apply takeReact_keeps
theorem installGroup_keeps (c : Nat) (g : GroupTable) (h : Keeps kp s0 s) :
    Keeps kp s0 (s.installGroup c g) := by
  unfold State.installGroup
  repeat' first
    | with_reducible assumption | with_reducible apply record_keeps | with_reducible apply mirror_keeps | with_reducible apply modCtx_keeps
theorem issueStopped_keeps (c : Nat) (h : Keeps kp s0 s) :
    Keeps kp s0 (s.issueStopped c) := by
  unfold State.issueStopped
  repeat' first
    | with_reducible assumption | exact fun _ => rfl | (intro t a ht; beta_reduce) | (intro t ht; beta_reduce) | with_reducible apply endOp_keeps
    | with_reducible apply modCtx_keeps | with_reducible apply each_keepsS | with_reducible apply vatSend_keeps | split
theorem triageRefill_keeps (t : Triage) (q cause : Nat) (h : Keeps kp s0 s) :
    Keeps kp s0 (s.triageRefill t q cause) := by
  unfold State.triageRefill
  repeat' first
    | with_reducible assumption | exact fun _ => rfl | (intro t a ht; beta_reduce) | (intro t ht; beta_reduce)
    | with_reducible apply fillFailed_keeps | with_reducible apply modTriage_keeps | with_reducible apply triageFill_keeps
    | with_reducible apply releaseXfers_keeps
    | (extract_lets +onlyGivenNames x; refine (fun (hx : Keeps kp s0 x) => ?_ : Keeps kp s0 x → _) ?_; (on_goal 2 => subst x); (on_goal 1 => clear_value x))
    | (extract_lets +onlyGivenNames x; clear_value x)
    | split
theorem replaceRefill_keeps (r : Replace) (h : Keeps kp s0 s) :
    Keeps kp s0 (s.replaceRefill r) := by
  unfold State.replaceRefill
  repeat' first
    | with_reducible assumption | exact fun _ => rfl | (intro t a ht; beta_reduce) | (intro t ht; beta_reduce)
    | with_reducible apply modReplace_keeps | with_reducible apply replaceStuck_keeps | with_reducible apply orderFill_keeps
    | (extract_lets +onlyGivenNames x; refine (fun (hx : Keeps kp s0 x) => ?_ : Keeps kp s0 x → _) ?_; (on_goal 2 => subst x); (on_goal 1 => clear_value x))
    | (extract_lets +onlyGivenNames x; clear_value x)
    | split
theorem spareFails_keeps (p src : Nat) (h : Keeps kp s0 s) :
    Keeps kp s0 (s.spareFails p src) := by
  unfold State.spareFails
  repeat' first
    | with_reducible assumption | with_reducible apply advance_keeps | with_reducible apply triageRefill_keeps
    | with_reducible apply replaceRefill_keeps | with_reducible apply fillFailed_keeps | split
theorem loseCore_keeps (p cause : Nat) (h : Keeps kp s0 s) :
    Keeps kp s0 (s.loseCore p cause) := by
  unfold State.loseCore
  repeat' first
    | with_reducible assumption | with_reducible apply replaceNow_keeps | with_reducible apply goOn_keeps | with_reducible apply spareFails_keeps
    | with_reducible apply fenceCore_keeps | split
theorem sliceFailed_keeps (d p misr expected : Nat) (h : Keeps kp s0 s) :
    Keeps kp s0 (s.sliceFailed d p misr expected) := by
  unfold State.sliceFailed
  repeat' first
    | with_reducible assumption | exact fun _ => rfl | (intro t a ht; beta_reduce) | (intro t ht; beta_reduce) | with_reducible apply record_keeps
    | with_reducible apply modBeater_keeps | with_reducible apply agentCount_keeps | with_reducible apply loseCore_keeps
    | (extract_lets +onlyGivenNames x; refine (fun (hx : Keeps kp s0 x) => ?_ : Keeps kp s0 x → _) ?_; (on_goal 2 => subst x); (on_goal 1 => clear_value x))
    | (extract_lets +onlyGivenNames x; clear_value x)
    | split
theorem judgeSlice_keeps (d p : Nat) (retained : Bool) (h : Keeps kp s0 s) :
    Keeps kp s0 (s.judgeSlice d p retained) := by
  unfold State.judgeSlice
  repeat' first
    | with_reducible assumption | exact fun _ => rfl | (intro t a ht; beta_reduce) | (intro t ht; beta_reduce)
    | with_reducible apply modBeater_keeps | with_reducible apply loseCore_keeps | with_reducible apply agentCount_keeps
    | with_reducible apply unpark_keeps | with_reducible apply confirmEnd_keeps | with_reducible apply sliceFailed_keeps
    | with_reducible apply askLease_keeps | with_reducible apply endBeat_keeps | (intro g; split <;> rfl)
    | (extract_lets +onlyGivenNames x; refine (fun (hx : Keeps kp s0 x) => ?_ : Keeps kp s0 x → _) ?_; (on_goal 2 => subst x); (on_goal 1 => clear_value x))
    | (extract_lets +onlyGivenNames x; refine (fun (hx : Keeps kp s0 x.1) => ?_ : Keeps kp s0 x.1 → _) ?_; (on_goal 2 => subst x); (on_goal 1 => clear_value x))
    | (extract_lets +onlyGivenNames x; refine (fun (hx : Keeps kp s0 x.2) => ?_ : Keeps kp s0 x.2 → _) ?_; (on_goal 2 => subst x); (on_goal 1 => clear_value x))
    | (extract_lets +onlyGivenNames x; have : ∀ z, x z = x z := fun _ => rfl; clear this; subst x; beta_reduce)
    | (extract_lets +onlyGivenNames x; clear_value x)
    | split
theorem keepLost_keeps (c : Nat) (h : Keeps kp s0 s) :
    Keeps kp s0 (s.keepLost c) := by
  unfold State.keepLost
  repeat' first
    | with_reducible assumption | with_reducible apply modCtx_keeps | split
theorem killLc_keeps (tag n : Nat) (h : Keeps kp s0 s) :
    Keeps kp s0 (s.killLc tag n) := by
  unfold State.killLc
  repeat' first
    | with_reducible assumption | exact fun _ => rfl | (intro t a ht; beta_reduce) | (intro t ht; beta_reduce) | with_reducible apply each_keepsS
    | with_reducible apply closeTicket_keeps | with_reducible apply modLc_keeps | split
theorem killPool_keeps (c : Nat) (h : Keeps kp s0 s) :
    Keeps kp s0 (s.killPool c) := by
  unfold State.killPool
  repeat' first
    | with_reducible assumption | exact fun _ => rfl | (intro t a ht; beta_reduce) | (intro t ht; beta_reduce) | with_reducible apply each_keepsS
    | with_reducible apply freePool_keeps | split
theorem killSnap_keeps (c : Nat) (h : Keeps kp s0 s) :
    Keeps kp s0 (s.killSnap c) := by
  unfold State.killSnap
  repeat' first
    | with_reducible assumption | with_reducible apply endOp_keeps | with_reducible apply snapFail_keeps | with_reducible apply modCtx_keeps | split
theorem lateBrk_keeps (c : Nat) (h : Keeps kp s0 s) :
    Keeps kp s0 (s.lateBrk c) := by
  unfold State.lateBrk
  repeat' first
    | with_reducible assumption | with_reducible apply holdScope_keeps | with_reducible apply modCtx_keeps | split
theorem launchDone_keeps (c : Nat) (h : Keeps kp s0 s) :
    Keeps kp s0 (s.launchDone c) := by
  unfold State.launchDone
  repeat' first
    | with_reducible assumption | exact fun _ => rfl | (intro t a ht; beta_reduce) | (intro t ht; beta_reduce) | with_reducible apply endOp_keeps
    | (extract_lets +onlyGivenNames x; refine (fun (hx : Keeps kp s0 x) => ?_ : Keeps kp s0 x → _) ?_; (on_goal 2 => subst x); (on_goal 1 => clear_value x))
    | (extract_lets +onlyGivenNames x; clear_value x)
    | split
theorem launchRelease_keeps (d c : Nat) (h : Keeps kp s0 s) :
    Keeps kp s0 (s.launchRelease d c) := by
  unfold State.launchRelease
  repeat' first
    | with_reducible assumption | exact fun _ => rfl | (intro t a ht; beta_reduce) | (intro t ht; beta_reduce) | with_reducible apply modDie_keeps
    | with_reducible apply each_keepsS | with_reducible apply modCore_keeps | with_reducible apply modLc_keeps
    | with_reducible apply launchDone_keeps | with_reducible apply mirror_keeps | with_reducible apply modCtx_keeps | split
theorem logMark_keeps (e : LogEntry) (h : Keeps kp s0 s) :
    Keeps kp s0 (s.logMark e) := by
  unfold State.logMark
  repeat' first
    | with_reducible assumption | with_reducible apply mirror_keeps | with_reducible apply modSh_keeps
theorem layerMark_keeps (c layer pass : Nat) (h : Keeps kp s0 s) :
    Keeps kp s0 (s.layerMark c layer pass) := by
  unfold State.layerMark
  repeat' first
    | with_reducible assumption | exact fun _ => rfl | (intro t a ht; beta_reduce) | (intro t ht; beta_reduce) | with_reducible apply modCtx_keeps
    | with_reducible apply each_keepsS | with_reducible apply logMark_keeps | with_reducible apply checkTotal_keeps
    | (extract_lets +onlyGivenNames x; refine (fun (hx : Keeps kp s0 x) => ?_ : Keeps kp s0 x → _) ?_; (on_goal 2 => subst x); (on_goal 1 => clear_value x))
    | (extract_lets +onlyGivenNames x; clear_value x)
    | split
theorem leaveHop_keeps (die neighbour port : Nat) (h : Keeps kp s0 s) :
    Keeps kp s0 (s.leaveHop die neighbour port) := by
  unfold State.leaveHop
  repeat' first
    | with_reducible assumption | exact fun _ => rfl | (intro t a ht; beta_reduce) | (intro t ht; beta_reduce) | with_reducible apply modDie_keeps
    | with_reducible apply modPkg_keeps | with_reducible apply each_keepsS | with_reducible apply alignHop_keeps
    | (extract_lets +onlyGivenNames x; refine (fun (hx : Keeps kp s0 x) => ?_ : Keeps kp s0 x → _) ?_; (on_goal 2 => subst x); (on_goal 1 => clear_value x))
    | (extract_lets +onlyGivenNames x; clear_value x)
    | split
theorem lendPool_keeps (h : Keeps kp s0 s) :
    Keeps kp s0 (s.lendPool) := by
  unfold State.lendPool
  repeat' first
    | with_reducible assumption | with_reducible apply vatSend_keeps | with_reducible apply mirror_keeps | with_reducible apply modSh_keeps | split
theorem linkError_keeps (die port : Nat) (h : Keeps kp s0 s) :
    Keeps kp s0 (s.linkError die port) := by
  unfold State.linkError
  repeat' first
    | with_reducible assumption | exact fun _ => rfl | (intro t a ht; beta_reduce) | (intro t ht; beta_reduce)
    | with_reducible apply agentCount_keeps | with_reducible apply modPort_keeps | with_reducible apply declareDown_keeps
    | (extract_lets +onlyGivenNames x; refine (fun (hx : Keeps kp s0 x) => ?_ : Keeps kp s0 x → _) ?_; (on_goal 2 => subst x); (on_goal 1 => clear_value x))
    | (extract_lets +onlyGivenNames x; clear_value x)
    | split
theorem loadLc_keeps (tag : Nat) (e : PlanLc) (h : Keeps kp s0 s) :
    Keeps kp s0 (s.loadLc tag e) := by
  unfold State.loadLc
  repeat' first
    | with_reducible assumption | with_reducible apply modLc_keeps | with_reducible apply each_keepsS
theorem looseFail_keeps (p src : Nat) (h : Keeps kp s0 s) :
    Keeps kp s0 (s.looseFail p src) := by
  unfold State.looseFail
  repeat' first
    | with_reducible assumption | with_reducible apply spareFails_keeps | with_reducible apply triageBeat_keeps
    | with_reducible apply fenceCore_keeps | split
theorem loseLock_keeps (d : Nat) (h : Keeps kp s0 s) :
    Keeps kp s0 (s.loseLock d) := by
  unfold State.loseLock
  repeat' first
    | with_reducible assumption | with_reducible apply modDie_keeps
theorem loseRetention_keeps (h : Keeps kp s0 s) :
    Keeps kp s0 (s.loseRetention) := by
  unfold State.loseRetention
  repeat' first
    | with_reducible assumption | exact fun _ => rfl | (intro t a ht; beta_reduce) | (intro t ht; beta_reduce) | with_reducible apply modSh_keeps
    | with_reducible apply modPkg_keeps | split
theorem loseShard_keeps (x : Shard) (h : Keeps kp s0 s) :
    Keeps kp s0 (s.loseShard x) := by
  unfold State.loseShard
  repeat' first
    | with_reducible assumption | exact fun _ => rfl | (intro t a ht; beta_reduce) | (intro t ht; beta_reduce) | with_reducible apply modPkg_keeps
    | split
theorem lowerCause_keeps (x : Triage) (h : Keeps kp s0 s) :
    Keeps kp s0 (s.lowerCause x) := by
  unfold State.lowerCause
  repeat' first
    | with_reducible assumption | with_reducible apply modFailure_keeps
theorem lowerFence_keeps (d f : Nat) (h : Keeps kp s0 s) :
    Keeps kp s0 (s.lowerFence d f) := by
  unfold State.lowerFence
  repeat' first
    | with_reducible assumption | with_reducible apply modDie_keeps
theorem markSingle_keeps (h0 : Hub) (seq : Nat) (h : Keeps kp s0 s) :
    Keeps kp s0 (s.markSingle h0 seq) := by
  unfold State.markSingle
  repeat' first
    | with_reducible assumption | with_reducible apply modVat_keeps
theorem markUnreadable_keeps (u : DumpUnit) (h : Keeps kp s0 s) :
    Keeps kp s0 (s.markUnreadable u) := by
  unfold State.markUnreadable
  repeat' first
    | with_reducible assumption | with_reducible apply modDbg_keeps | with_reducible apply planReplace_keeps | with_reducible apply fenceCore_keeps
    | split
theorem mctpReply_keeps (hub : Hub) (i3c : Bool) (command : Nat) (data : List Nat) (h : Keeps kp s0 s) :
    Keeps kp s0 (s.mctpReply hub i3c command data) := by
  unfold State.mctpReply
  repeat' first
    | with_reducible assumption | with_reducible apply emit_keeps | split
theorem mirrorLost_keeps (h : Keeps kp s0 s) :
    Keeps kp s0 (s.mirrorLost) := by
  unfold State.mirrorLost
  repeat' first
    | with_reducible assumption | with_reducible apply vatCount_keeps | with_reducible apply endSwitchWait_keeps
    | with_reducible apply enterSync_keeps | split
theorem modSensor_keeps (d n : Nat) (f : Sensor → Sensor) (h : Keeps kp s0 s) :
    Keeps kp s0 (s.modSensor d n f) := by
  unfold State.modSensor
  repeat' first
    | with_reducible assumption | with_reducible apply modCal_keeps
theorem modStaging_keeps (d kind : Nat) (f : Staging → Staging) (h : Keeps kp s0 s) :
    Keeps kp s0 (s.modStaging d kind f) := by
  unfold State.modStaging
  repeat' first
    | with_reducible assumption | with_reducible apply modFurnish_keeps
theorem moveQueued_keeps (n q : Nat) (h : Keeps kp s0 s) :
    Keeps kp s0 (s.moveQueued n q) := by
  unfold State.moveQueued
  repeat' first
    | with_reducible assumption | with_reducible apply freezeCore_keeps | with_reducible apply modSh_keeps | split
theorem noPlan_keeps (p n : Nat) (h : Keeps kp s0 s) :
    Keeps kp s0 (s.noPlan p n) := by
  unfold State.noPlan
  repeat' first
    | with_reducible assumption | with_reducible apply breach_keeps | with_reducible apply agentCount_keeps | split
theorem noteAck_keeps (w : Pend) (d : Nat) (h : Keeps kp s0 s) :
    Keeps kp s0 (s.noteAck w d) := by
  unfold State.noteAck
  repeat' first
    | with_reducible assumption | exact fun _ => rfl | (intro t a ht; beta_reduce) | (intro t ht; beta_reduce) | with_reducible apply modFelt_keeps
    | (extract_lets +onlyGivenNames x; refine (fun (hx : Keeps kp s0 x) => ?_ : Keeps kp s0 x → _) ?_; (on_goal 2 => subst x); (on_goal 1 => clear_value x))
    | (extract_lets +onlyGivenNames x; clear_value x)
    | split
theorem noteLanes_keeps (lanes : List LaneCount) (h : Keeps kp s0 s) :
    Keeps kp s0 (s.noteLanes lanes) := by
  unfold State.noteLanes
  repeat' first
    | with_reducible assumption | exact fun _ => rfl | (intro t a ht; beta_reduce) | (intro t ht; beta_reduce) | with_reducible apply modSh_keeps
    | with_reducible apply each_keepsS | with_reducible apply record_keeps | split
theorem noteReply_keeps (d id : Nat) (h : Keeps kp s0 s) :
    Keeps kp s0 (s.noteReply d id) := by
  unfold State.noteReply
  repeat' first
    | with_reducible assumption | exact fun _ => rfl | (intro t a ht; beta_reduce) | (intro t ht; beta_reduce) | with_reducible apply noteAck_keeps
    | (extract_lets +onlyGivenNames x; refine (fun (hx : Keeps kp s0 x) => ?_ : Keeps kp s0 x → _) ?_; (on_goal 2 => subst x); (on_goal 1 => clear_value x))
    | (extract_lets +onlyGivenNames x; clear_value x)
    | split
theorem noteThermal_keeps (d : Nat) (h : Keeps kp s0 s) :
    Keeps kp s0 (s.noteThermal d) := by
  unfold State.noteThermal
  repeat' first
    | with_reducible assumption | exact fun _ => rfl | (intro t a ht; beta_reduce) | (intro t ht; beta_reduce) | with_reducible apply setVoid_keeps
    | with_reducible apply modPkg_keeps | split
theorem openDist_keeps (kind : Nat) (data : List Host.Cell) (asked : Option Nat) (targets : List Nat) (h : Keeps kp s0 s) :
    Keeps kp s0 (s.openDist kind data asked targets) := by
  unfold State.openDist
  repeat' first
    | with_reducible assumption | exact fun _ => rfl | (intro t a ht; beta_reduce) | (intro t ht; beta_reduce) | with_reducible apply draw_keeps
    | with_reducible apply modSh_keeps | with_reducible apply sendOpen_keeps | (intro g; split <;> rfl)
    | (extract_lets +onlyGivenNames x; refine (fun (hx : Keeps kp s0 x) => ?_ : Keeps kp s0 x → _) ?_; (on_goal 2 => subst x); (on_goal 1 => clear_value x))
    | (extract_lets +onlyGivenNames x; refine (fun (hx : Keeps kp s0 x.1) => ?_ : Keeps kp s0 x.1 → _) ?_; (on_goal 2 => subst x); (on_goal 1 => clear_value x))
    | (extract_lets +onlyGivenNames x; refine (fun (hx : Keeps kp s0 x.2) => ?_ : Keeps kp s0 x.2 → _) ?_; (on_goal 2 => subst x); (on_goal 1 => clear_value x))
    | (extract_lets +onlyGivenNames x; have : ∀ z, x z = x z := fun _ => rfl; clear this; subst x; beta_reduce)
    | (extract_lets +onlyGivenNames x; clear_value x)
    | split
theorem passPoints_keeps (c layer oper : Nat) (h : Keeps kp s0 s) :
    Keeps kp s0 (s.passPoints c layer oper) := by
  unfold State.passPoints
  repeat' first
    | with_reducible assumption | exact fun _ => rfl | (intro t a ht; beta_reduce) | (intro t ht; beta_reduce) | with_reducible apply modCtx_keeps
    | (extract_lets +onlyGivenNames x; refine (fun (hx : Keeps kp s0 x) => ?_ : Keeps kp s0 x → _) ?_; (on_goal 2 => subst x); (on_goal 1 => clear_value x))
    | (extract_lets +onlyGivenNames x; clear_value x)
    | split
theorem openUnit_keeps (p n c t descIdx : Nat) (spec last : Bool) (h : Keeps kp s0 s) :
    Keeps kp s0 (s.openUnit p n c t descIdx spec last) := by
  unfold State.openUnit
  repeat' first
    | with_reducible assumption | exact fun _ => rfl | (intro t a ht; beta_reduce) | (intro t ht; beta_reduce)
    | with_reducible apply passPoints_keeps | with_reducible apply beginOper_keeps | with_reducible apply modTicket_keeps
    | with_reducible apply modLc_keeps | with_reducible apply modCore_keeps | with_reducible apply breach_keeps
    | with_reducible apply takePools_keeps
    | (extract_lets +onlyGivenNames x; refine (fun (hx : Keeps kp s0 x) => ?_ : Keeps kp s0 x → _) ?_; (on_goal 2 => subst x); (on_goal 1 => clear_value x))
    | (extract_lets +onlyGivenNames x; clear_value x)
    | split
theorem operMark_keeps (c layer oper : Nat) (r : DigestRec) (h : Keeps kp s0 s) :
    Keeps kp s0 (s.operMark c layer oper r) := by
  unfold State.operMark
  repeat' first
    | with_reducible assumption | with_reducible apply logMark_keeps | with_reducible apply expectMismatch_keeps
    | with_reducible apply layerMark_keeps | split
theorem orderReread_keeps (c : Nat) (h : Keeps kp s0 s) :
    Keeps kp s0 (s.orderReread c) := by
  unfold State.orderReread
  repeat' first
    | with_reducible assumption | exact fun _ => rfl | (intro t a ht; beta_reduce) | (intro t ht; beta_reduce) | with_reducible apply each_keepsS
    | with_reducible apply vatSend_keeps | with_reducible apply holdReplica_keeps | split
theorem sendReport_keeps (p kind : Nat) (cross : Bool) (words : List Nat) (h : Keeps kp s0 s) :
    Keeps kp s0 (s.sendReport p kind cross words) := by
  unfold State.sendReport
  repeat' first
    | with_reducible assumption | with_reducible apply toVat_keeps | with_reducible apply emit_keeps | split
theorem pairReport_keeps (p t : Nat) (h : Keeps kp s0 s) :
    Keeps kp s0 (s.pairReport p t) := by
  unfold State.pairReport
  repeat' first
    | with_reducible assumption | exact fun _ => rfl | (intro t a ht; beta_reduce) | (intro t ht; beta_reduce) | with_reducible apply partDone_keeps
    | with_reducible apply sendReport_keeps
    | (extract_lets +onlyGivenNames x; refine (fun (hx : Keeps kp s0 x) => ?_ : Keeps kp s0 x → _) ?_; (on_goal 2 => subst x); (on_goal 1 => clear_value x))
    | (extract_lets +onlyGivenNames x; clear_value x)
    | split
theorem outWords_keeps (p t : Nat) (words decision : List Nat) (last : Bool) (h : Keeps kp s0 s) :
    Keeps kp s0 (s.outWords p t words decision last) := by
  unfold State.outWords
  repeat' first
    | with_reducible assumption | exact fun _ => rfl | (intro t a ht; beta_reduce) | (intro t ht; beta_reduce)
    | with_reducible apply modTicket_keeps | with_reducible apply pairReport_keeps | with_reducible apply sendReport_keeps
    | (extract_lets +onlyGivenNames x; refine (fun (hx : Keeps kp s0 x) => ?_ : Keeps kp s0 x → _) ?_; (on_goal 2 => subst x); (on_goal 1 => clear_value x))
    | (extract_lets +onlyGivenNames x; clear_value x)
    | split
theorem peerOffline_keeps (h0 : Hub) (h : Keeps kp s0 s) :
    Keeps kp s0 (s.peerOffline h0) := by
  unfold State.peerOffline
  repeat' first
    | with_reducible assumption | with_reducible apply modVat_keeps
theorem placeLate_keeps (r : Replace) (new : Nat) (h : Keeps kp s0 s) :
    Keeps kp s0 (s.placeLate r new) := by
  unfold State.placeLate
  repeat' first
    | with_reducible assumption | exact fun _ => rfl | (intro t a ht; beta_reduce) | (intro t ht; beta_reduce) | with_reducible apply orderNow_keeps
    | with_reducible apply setPhys_keeps | with_reducible apply setHome_keeps | with_reducible apply modSh_keeps | with_reducible apply record_keeps
    | with_reducible apply checkHome_keeps | with_reducible apply mirror_keeps | with_reducible apply releaseXfers_keeps
    | with_reducible apply tapRing_keeps
    | (extract_lets +onlyGivenNames x; refine (fun (hx : Keeps kp s0 x) => ?_ : Keeps kp s0 x → _) ?_; (on_goal 2 => subst x); (on_goal 1 => clear_value x))
    | (extract_lets +onlyGivenNames x; clear_value x)
    | split
theorem pldmReply_keeps (hub : Hub) (type command code : Nat) (data : List Nat) (h : Keeps kp s0 s) :
    Keeps kp s0 (s.pldmReply hub type command code data) := by
  unfold State.pldmReply
  repeat' first
    | with_reducible assumption | with_reducible apply emit_keeps | split
theorem pollDist_keeps (kind : Nat) (h : Keeps kp s0 s) :
    Keeps kp s0 (s.pollDist kind) := by
  unfold State.pollDist
  repeat' first
    | with_reducible assumption | exact fun _ => rfl | (intro t a ht; beta_reduce) | (intro t ht; beta_reduce) | with_reducible apply each_keepsS
    | with_reducible apply vatSend_keeps | with_reducible apply modDist_keeps | split
theorem presentPrior_keeps (p c n t : Nat) (dst : Dest) (h : Keeps kp s0 s) :
    Keeps kp s0 (s.presentPrior p c n t dst) := by
  unfold State.presentPrior
  repeat' first
    | with_reducible assumption | exact fun _ => rfl | (intro t a ht; beta_reduce) | (intro t ht; beta_reduce) | with_reducible apply emit_keeps
    | with_reducible apply modCtx_keeps | with_reducible apply drainGate_keeps | with_reducible apply modLc_keeps
    | (extract_lets +onlyGivenNames x; refine (fun (hx : Keeps kp s0 x) => ?_ : Keeps kp s0 x → _) ?_; (on_goal 2 => subst x); (on_goal 1 => clear_value x))
    | (extract_lets +onlyGivenNames x; clear_value x)
    | split
theorem presentUnit_keeps (p c n t : Nat) (dst : Dest) (decision : Bool) (h : Keeps kp s0 s) :
    Keeps kp s0 (s.presentUnit p c n t dst decision) := by
  unfold State.presentUnit
  repeat' first
    | with_reducible assumption | exact fun _ => rfl | (intro t a ht; beta_reduce) | (intro t ht; beta_reduce) | with_reducible apply emit_keeps
    | with_reducible apply modTicket_keeps | with_reducible apply modCtx_keeps | with_reducible apply modLc_keeps
    | with_reducible apply drainGate_keeps | with_reducible apply breach_keeps
    | (extract_lets +onlyGivenNames x; refine (fun (hx : Keeps kp s0 x) => ?_ : Keeps kp s0 x → _) ?_; (on_goal 2 => subst x); (on_goal 1 => clear_value x))
    | (extract_lets +onlyGivenNames x; clear_value x)
    | split
theorem putSession_keeps (n : Nat) (x : Option Session) (h : Keeps kp s0 s) :
    Keeps kp s0 (s.putSession n x) := by
  unfold State.putSession
  repeat' first
    | with_reducible assumption | with_reducible apply mirror_keeps | with_reducible apply modSh_keeps
theorem putWatch_keeps (n index : Nat) (w : Option Watch) (h : Keeps kp s0 s) :
    Keeps kp s0 (s.putWatch n index w) := by
  unfold State.putWatch
  repeat' first
    | with_reducible assumption | with_reducible apply modCore_keeps | with_reducible apply modLc_keeps | split
theorem queueFailure_keeps (x : Triage) (h : Keeps kp s0 s) :
    Keeps kp s0 (s.queueFailure x) := by
  unfold State.queueFailure
  repeat' first
    | with_reducible assumption | exact fun _ => rfl | (intro t a ht; beta_reduce) | (intro t ht; beta_reduce) | with_reducible apply modSh_keeps
    | with_reducible apply modGroup_keeps
    | (extract_lets +onlyGivenNames x; refine (fun (hx : Keeps kp s0 x) => ?_ : Keeps kp s0 x → _) ?_; (on_goal 2 => subst x); (on_goal 1 => clear_value x))
    | (extract_lets +onlyGivenNames x; clear_value x)
    | split
theorem quietEnd_keeps (p n c : Nat) (chain : List Nat) (h : Keeps kp s0 s) :
    Keeps kp s0 (s.quietEnd p n c chain) := by
  unfold State.quietEnd
  repeat' first
    | with_reducible assumption | with_reducible apply deadlock_keeps | with_reducible apply endWalk_keeps | split
theorem reclaimDone_keeps (h : Keeps kp s0 s) :
    Keeps kp s0 (s.reclaimDone) := by
  unfold State.reclaimDone
  repeat' first
    | with_reducible assumption | exact fun _ => rfl | (intro t a ht; beta_reduce) | (intro t ht; beta_reduce) | with_reducible apply modPkg_keeps
    | with_reducible apply endRuns_keeps | split
theorem recv_keeps (rcv : Nat) (h0 : Hdr) (ty : Nat) (f : State → State) (hf : ∀ z0, Keeps kp s0 z0 → Keeps kp s0 (f z0)) (h : Keeps kp s0 s) :
    Keeps kp s0 (s.recv rcv h0 ty f) := by
  unfold State.recv
  repeat' first
    | with_reducible assumption | with_reducible apply hf | with_reducible apply ack_keeps | with_reducible apply noteSeen_keeps | split
theorem recvCmd_keeps (die : Nat) (h0 : Hdr) (ty : Nat) (f : State → State) (hf : ∀ z0, Keeps kp s0 z0 → Keeps kp s0 (f z0)) (h : Keeps kp s0 s) :
    Keeps kp s0 (s.recvCmd die h0 ty f) := by
  unfold State.recvCmd
  repeat' first
    | with_reducible assumption | exact fun _ => rfl | (intro t a ht; beta_reduce) | (intro t ht; beta_reduce) | with_reducible apply hf
    | with_reducible apply ack_keeps | with_reducible apply feltSend_keeps | with_reducible apply agentCount_keeps | with_reducible apply recv_keeps
    | with_reducible apply modDie_keeps
    | (extract_lets +onlyGivenNames x; refine (fun (hx : Keeps kp s0 x) => ?_ : Keeps kp s0 x → _) ?_; (on_goal 2 => subst x); (on_goal 1 => clear_value x))
    | (extract_lets +onlyGivenNames x; clear_value x)
    | split
theorem recvVat_keeps (i : Instr) (h0 : Hdr) (ty : Nat) (f : State → State) (hf : ∀ z0, Keeps kp s0 z0 → Keeps kp s0 (f z0)) (h : Keeps kp s0 s) :
    Keeps kp s0 (s.recvVat i h0 ty f) := by
  unfold State.recvVat
  repeat' first
    | with_reducible assumption | with_reducible apply hf | with_reducible apply modSh_keeps | with_reducible apply recv_keeps
    | with_reducible apply hear_keeps | split
theorem windowRefused_keeps (d : Nat) (h : Keeps kp s0 s) :
    Keeps kp s0 (s.windowRefused d) := by
  unfold State.windowRefused
  repeat' first
    | with_reducible assumption | with_reducible apply modSh_keeps
theorem refuseLease_keeps (d kind : Nat) (h : Keeps kp s0 s) :
    Keeps kp s0 (s.refuseLease d kind) := by
  unfold State.refuseLease
  repeat' first
    | with_reducible assumption | with_reducible apply vatSend_keeps | with_reducible apply windowRefused_keeps | split
theorem repeatAlign_keeps (h : Keeps kp s0 s) :
    Keeps kp s0 (s.repeatAlign) := by
  unfold State.repeatAlign
  repeat' first
    | with_reducible assumption | exact fun _ => rfl | (intro t a ht; beta_reduce) | (intro t ht; beta_reduce) | with_reducible apply modPkg_keeps
    | with_reducible apply each_keepsS | with_reducible apply modPort_keeps | with_reducible apply alignAll_keeps
    | with_reducible apply modDie_keeps | split
theorem replayStep_keeps (p n : Nat) (h : Keeps kp s0 s) :
    Keeps kp s0 (s.replayStep p n) := by
  unfold State.replayStep
  repeat' first
    | with_reducible assumption | with_reducible apply modCore_keeps | with_reducible apply modLc_keeps
theorem resetCoreEnd_keeps (domain p : Nat) (h : Keeps kp s0 s) :
    Keeps kp s0 (State.resetCoreEnd domain s p) := by
  unfold State.resetCoreEnd
  repeat' first
    | with_reducible assumption | exact fun _ => rfl | (intro t a ht; beta_reduce) | (intro t ht; beta_reduce)
    | with_reducible apply failDeferred_keeps | with_reducible apply emit_keeps | with_reducible apply modCore_keeps
    | with_reducible apply modPkg_keeps | with_reducible apply modLc_keeps | with_reducible apply unholdCore_keeps
    | with_reducible apply queueBeat_keeps
    | (extract_lets +onlyGivenNames x; refine (fun (hx : Keeps kp s0 x) => ?_ : Keeps kp s0 x → _) ?_; (on_goal 2 => subst x); (on_goal 1 => clear_value x))
    | (extract_lets +onlyGivenNames x; clear_value x)
    | split
theorem resetDone_keeps (domain target start : Nat) (counts : Nat × Nat) (h : Keeps kp s0 s) :
    Keeps kp s0 (s.resetDone domain target start counts) := by
  unfold State.resetDone
  repeat' first
    | with_reducible assumption | with_reducible apply record_keeps
theorem restartChain_keeps (chain : List Nat) (h : Keeps kp s0 s) :
    Keeps kp s0 (s.restartChain chain) := by
  unfold State.restartChain
  repeat' first
    | with_reducible assumption | exact fun _ => rfl | (intro t a ht; beta_reduce) | (intro t ht; beta_reduce) | with_reducible apply each_keepsS
    | with_reducible apply modCore_keeps | split
theorem writeShard_keeps (x : Shard) (l : List Nat) (h : Keeps kp s0 s) :
    Keeps kp s0 (s.writeShard x l) := by
  unfold State.writeShard
  repeat' first
    | with_reducible assumption | exact fun _ => rfl | (intro t a ht; beta_reduce) | (intro t ht; beta_reduce) | with_reducible apply modPkg_keeps
    | split
theorem restoreReam_keeps (c ream : Nat) (r : Ream) (left : List (Option (List Nat))) (data : List (List Nat)) (h : Keeps kp s0 s) :
    Keeps kp s0 (s.restoreReam c ream r left data) := by
  unfold State.restoreReam
  repeat' first
    | with_reducible assumption | exact fun _ => rfl | (intro t a ht; beta_reduce) | (intro t ht; beta_reduce) | with_reducible apply each_keepsS
    | with_reducible apply writeShard_keeps | with_reducible apply emit_keeps | split
theorem restoreRefused_keeps (c id reason what : Nat) (h : Keeps kp s0 s) :
    Keeps kp s0 (s.restoreRefused c id reason what) := by
  unfold State.restoreRefused
  repeat' first
    | with_reducible assumption | with_reducible apply record_keeps
theorem restoredParts_keeps (c : Nat) (set : List TensorPart) (h : Keeps kp s0 s) :
    Keeps kp s0 (s.restoredParts c set) := by
  unfold State.restoredParts
  repeat' first
    | with_reducible assumption | exact fun _ => rfl | (intro t a ht; beta_reduce) | (intro t ht; beta_reduce) | with_reducible apply each_keepsS
    | with_reducible apply addRepl_keeps | with_reducible apply dropRepl_keeps
    | (extract_lets +onlyGivenNames x; refine (fun (hx : Keeps kp s0 x) => ?_ : Keeps kp s0 x → _) ?_; (on_goal 2 => subst x); (on_goal 1 => clear_value x))
    | (extract_lets +onlyGivenNames x; clear_value x)
    | split
theorem retryAll_keeps (h : Keeps kp s0 s) :
    Keeps kp s0 (s.retryAll) := by
  unfold State.retryAll
  repeat' first
    | with_reducible assumption | exact fun _ => rfl | (intro t a ht; beta_reduce) | (intro t ht; beta_reduce) | with_reducible apply retryA_keeps
    | with_reducible apply goOn_keeps | with_reducible apply each_keepsS | with_reducible apply advance_keeps | split
theorem returnCredit_keeps (die port cls flits : Nat) (h : Keeps kp s0 s) :
    Keeps kp s0 (s.returnCredit die port cls flits) := by
  unfold State.returnCredit
  repeat' first
    | with_reducible assumption | with_reducible apply control_keeps
theorem returnHeld_keeps (d dst : Nat) (h : Keeps kp s0 s) :
    Keeps kp s0 (s.returnHeld d dst) := by
  unfold State.returnHeld
  repeat' first
    | with_reducible assumption | exact fun _ => rfl | (intro t a ht; beta_reduce) | (intro t ht; beta_reduce) | with_reducible apply modFelt_keeps
    | with_reducible apply each_keepsS | with_reducible apply feltSend_keeps | with_reducible apply modDie_keeps
    | with_reducible apply noteAck_keeps | with_reducible apply ack_keeps | split
theorem riskOne_keeps (c : Nat) (h : Keeps kp s0 s) :
    Keeps kp s0 (s.riskOne c) := by
  unfold State.riskOne
  repeat' first
    | with_reducible assumption | exact fun _ => rfl | (intro t a ht; beta_reduce) | (intro t ht; beta_reduce) | with_reducible apply modCtx_keeps
    | with_reducible apply record_keeps | with_reducible apply autoSnap_keeps
    | (extract_lets +onlyGivenNames x; refine (fun (hx : Keeps kp s0 x) => ?_ : Keeps kp s0 x → _) ?_; (on_goal 2 => subst x); (on_goal 1 => clear_value x))
    | (extract_lets +onlyGivenNames x; clear_value x)
    | split
theorem sendAgain_keeps (t : Txn) (h : Keeps kp s0 s) :
    Keeps kp s0 (s.sendAgain t) := by
  unfold State.sendAgain
  repeat' first
    | with_reducible assumption | with_reducible apply feltSend_keeps | split
theorem sendChunk_keeps (x : Dist) (number : Nat) (target : Option Nat) (h : Keeps kp s0 s) :
    Keeps kp s0 (s.sendChunk x number target) := by
  unfold State.sendChunk
  repeat' first
    | with_reducible assumption | with_reducible apply feltSend_keeps | with_reducible apply emit_keeps
theorem sendDepose_keeps (g : Gap) (gated : Bool) (h : Keeps kp s0 s) :
    Keeps kp s0 (s.sendDepose g gated) := by
  unfold State.sendDepose
  repeat' first
    | with_reducible assumption | exact fun _ => rfl | (intro t a ht; beta_reduce) | (intro t ht; beta_reduce) | with_reducible apply modGap_keeps
    | with_reducible apply modFelt_keeps | with_reducible apply feltSend_keeps | with_reducible apply modPkg_keeps | split
theorem serveAgent_keeps (die : Nat) (h : Keeps kp s0 s) :
    Keeps kp s0 (s.serveAgent die) := by
  unfold State.serveAgent
  repeat' first
    | with_reducible assumption | with_reducible apply reloadBanks_keeps | with_reducible apply each_keepsS | with_reducible apply sendAgain_keeps
    | with_reducible apply modDie_keeps
theorem setEntry_keeps (p w : Nat) (h : Keeps kp s0 s) :
    Keeps kp s0 (s.setEntry p w) := by
  unfold State.setEntry
  repeat' first
    | with_reducible assumption | with_reducible apply each_keepsS | with_reducible apply checkHome_keeps | with_reducible apply setPhys_keeps
theorem shiftSlice_keeps (d p : Nat) (stall : Bool) (h : Keeps kp s0 s) :
    Keeps kp s0 (s.shiftSlice d p stall) := by
  unfold State.shiftSlice
  repeat' first
    | with_reducible assumption | exact fun _ => rfl | (intro t a ht; beta_reduce) | (intro t ht; beta_reduce) | with_reducible apply modPkg_keeps
    | with_reducible apply modDie_keeps | with_reducible apply tapRing_keeps | with_reducible apply modCore_keeps | with_reducible apply emit_keeps
    | with_reducible apply modBeater_keeps | split
theorem showWins_keeps (h0 : Hub) (h : Keeps kp s0 s) :
    Keeps kp s0 (s.showWins h0) := by
  unfold State.showWins
  repeat' first
    | with_reducible assumption | with_reducible apply modCal_keeps
theorem snapDone_keeps (c : Nat) (x : Snap) (h : Keeps kp s0 s) :
    Keeps kp s0 (s.snapDone c x) := by
  unfold State.snapDone
  repeat' first
    | with_reducible assumption | exact fun _ => rfl | (intro t a ht; beta_reduce) | (intro t ht; beta_reduce)
    | with_reducible apply endSnapHold_keeps | with_reducible apply modCtx_keeps | with_reducible apply record_keeps
    | with_reducible apply mirror_keeps | with_reducible apply emit_keeps | with_reducible apply vatSend_keeps | with_reducible apply endOp_keeps
    | with_reducible apply startTeardown_keeps
    | (extract_lets +onlyGivenNames x; refine (fun (hx : Keeps kp s0 x) => ?_ : Keeps kp s0 x → _) ?_; (on_goal 2 => subst x); (on_goal 1 => clear_value x))
    | (extract_lets +onlyGivenNames x; clear_value x)
    | split
theorem snapPoisoned_keeps (c : Nat) (h : Keeps kp s0 s) :
    Keeps kp s0 (s.snapPoisoned c) := by
  unfold State.snapPoisoned
  repeat' first
    | with_reducible assumption | with_reducible apply faultCtx_keeps | with_reducible apply vatCount_keeps | with_reducible apply failSnap_keeps
theorem staged_keeps (d kind : Nat) (h : Keeps kp s0 s) :
    Keeps kp s0 (s.staged d kind) := by
  unfold State.staged
  repeat' first
    | with_reducible assumption | with_reducible apply distAnswer_keeps | with_reducible apply modFurnish_keeps | split
theorem standbyHealth_keeps (h0 : Hub) (h : Keeps kp s0 s) :
    Keeps kp s0 (s.standbyHealth h0) := by
  unfold State.standbyHealth
  repeat' first
    | with_reducible assumption | with_reducible apply record_keeps
theorem startSwitch_keeps (h : Keeps kp s0 s) :
    Keeps kp s0 (s.startSwitch) := by
  unfold State.startSwitch
  repeat' first
    | with_reducible assumption | with_reducible apply sendDepose_keeps | with_reducible apply modSh_keeps | with_reducible apply vatDown_keeps
    | split
theorem stopDone_keeps (initiator : Nat) (h : Keeps kp s0 s) :
    Keeps kp s0 (s.stopDone initiator) := by
  unfold State.stopDone
  repeat' first
    | with_reducible assumption | with_reducible apply modDbg_keeps | with_reducible apply endOp_keeps | with_reducible apply record_keeps
theorem stopIssue_keeps (n : Nat) (h : Keeps kp s0 s) :
    Keeps kp s0 (s.stopIssue n) := by
  unfold State.stopIssue
  repeat' first
    | with_reducible assumption | exact fun _ => rfl | (intro t a ht; beta_reduce) | (intro t ht; beta_reduce) | with_reducible apply modLc_keeps
    | with_reducible apply discard_keeps | with_reducible apply unholdCore_keeps | with_reducible apply setStall_keeps
    | with_reducible apply modCore_keeps
    | (extract_lets +onlyGivenNames x; refine (fun (hx : Keeps kp s0 x) => ?_ : Keeps kp s0 x → _) ?_; (on_goal 2 => subst x); (on_goal 1 => clear_value x))
    | (extract_lets +onlyGivenNames x; clear_value x)
    | split
theorem stopRollbacks_keeps (c : Nat) (h : Keeps kp s0 s) :
    Keeps kp s0 (s.stopRollbacks c) := by
  unfold State.stopRollbacks
  repeat' first
    | with_reducible assumption | exact fun _ => rfl | (intro t a ht; beta_reduce) | (intro t ht; beta_reduce) | with_reducible apply each_keepsS
    | with_reducible apply stopRollback_keeps | split
theorem storeRec_keeps (h0 : Hub) (r : Rec) (h : Keeps kp s0 s) :
    Keeps kp s0 (s.storeRec h0 r) := by
  unfold State.storeRec
  repeat' first
    | with_reducible assumption | with_reducible apply modVat_keeps
theorem takeSegment_keeps (die : Nat) (f : FrameIn) (h : Keeps kp s0 s) :
    Keeps kp s0 (s.takeSegment die f) := by
  unfold State.takeSegment
  repeat' first
    | with_reducible assumption | with_reducible apply modFelt_keeps
theorem takeTemp_keeps (d n : Nat) (t : Int) (h : Keeps kp s0 s) :
    Keeps kp s0 (s.takeTemp d n t) := by
  unfold State.takeTemp
  repeat' first
    | with_reducible assumption | with_reducible apply modCal_keeps | with_reducible apply evalNear_keeps | with_reducible apply noteThermal_keeps
    | with_reducible apply beginCalHold_keeps | with_reducible apply agentCount_keeps | with_reducible apply evalThermHold_keeps
    | with_reducible apply showWins_keeps | with_reducible apply evalFlash_keeps | with_reducible apply evalMram_keeps
    | with_reducible apply evalThermal_keeps | split
theorem ticketState_keeps (p : Nat) (h : Keeps kp s0 s) :
    Keeps kp s0 (s.ticketState p) := by
  unfold State.ticketState
  repeat' first
    | with_reducible assumption | exact fun _ => rfl | (intro t a ht; beta_reduce) | (intro t ht; beta_reduce)
    | with_reducible apply agentCount_keeps | with_reducible apply each_keepsS | with_reducible apply failUnit_keeps | split
theorem txnFailed_keeps (w : Pend) (h : Keeps kp s0 s) :
    Keeps kp s0 (s.txnFailed w) := by
  unfold State.txnFailed
  repeat' first
    | with_reducible assumption | exact fun _ => rfl | (intro t a ht; beta_reduce) | (intro t ht; beta_reduce) | with_reducible apply each_keepsS
    | with_reducible apply record_keeps | with_reducible apply mirrorLost_keeps | with_reducible apply decideDepose_keeps
    | (extract_lets +onlyGivenNames x; refine (fun (hx : Keeps kp s0 x) => ?_ : Keeps kp s0 x → _) ?_; (on_goal 2 => subst x); (on_goal 1 => clear_value x))
    | (extract_lets +onlyGivenNames x; clear_value x)
    | split
theorem unitDone_keeps (status : Nat) (image : List Byte) (h : Keeps kp s0 s) :
    Keeps kp s0 (s.unitDone status image) := by
  unfold State.unitDone
  repeat' first
    | with_reducible assumption | with_reducible apply modDbg_keeps | with_reducible apply goDump_keeps | with_reducible apply markUnreadable_keeps
    | split
theorem vatCountRecorded_keeps (src : Nat) (detail : Detail) (h : Keeps kp s0 s) :
    Keeps kp s0 (s.vatCountRecorded src detail) := by
  unfold State.vatCountRecorded
  repeat' first
    | with_reducible assumption | with_reducible apply record_keeps | with_reducible apply vatCount_keeps | split
theorem waitEnd_keeps (chain : List Nat) (p n c : Nat) (h : Keeps kp s0 s) :
    Keeps kp s0 (s.waitEnd chain p n c) := by
  unfold State.waitEnd
  repeat' first
    | with_reducible assumption | exact fun _ => rfl | (intro t a ht; beta_reduce) | (intro t ht; beta_reduce)
    | with_reducible apply recordHang_keeps | with_reducible apply countPartHang_keeps | with_reducible apply restartChain_keeps
    | with_reducible apply agentCount_keeps | with_reducible apply modBeater_keeps | with_reducible apply haltSlice_keeps
    | with_reducible apply ticketState_keeps | with_reducible apply modCore_keeps | with_reducible apply each_keepsS
    | with_reducible apply askVerdict_keeps | with_reducible apply settleAll_keeps | with_reducible apply lendPool_keeps
    | with_reducible apply servePool_keeps
    | (extract_lets +onlyGivenNames x; refine (fun (hx : Keeps kp s0 x) => ?_ : Keeps kp s0 x → _) ?_; (on_goal 2 => subst x); (on_goal 1 => clear_value x))
    | (extract_lets +onlyGivenNames x; clear_value x)
    | split
theorem walk_keeps (n d c : Nat) (l : List Nat) (h : Keeps kp s0 s) : Keeps kp s0 (State.walk n d c l s) := by
  induction n generalizing l with
  | zero => exact endWalk_keeps _ h | succ k ih =>
    unfold State.walk
    repeat' first
      | with_reducible assumption | with_reducible apply ih | with_reducible apply endWalk_keeps | with_reducible apply quietEnd_keeps
      | with_reducible apply feltSend_keeps | with_reducible apply coreHangs_keeps | with_reducible apply waitEnd_keeps
      | with_reducible apply deadlock_keeps | split
theorem whenActing_keeps (i : Instr) (f : State → State) (hf : ∀ z0, Keeps kp s0 z0 → Keeps kp s0 (f z0)) (h : Keeps kp s0 s) :
    Keeps kp s0 (s.whenActing i f) := by
  unfold State.whenActing
  repeat' first
    | with_reducible assumption | with_reducible apply hf | with_reducible apply modSh_keeps | split
theorem zeroCounters_keeps (p : Nat) (h : Keeps kp s0 s) :
    Keeps kp s0 (s.zeroCounters p) := by
  unfold State.zeroCounters
  repeat' first
    | with_reducible assumption | exact fun _ => rfl | (intro t a ht; beta_reduce) | (intro t ht; beta_reduce)
    | with_reducible apply profFlush_keeps | with_reducible apply modCore_keeps | with_reducible apply profStart_keeps
    | (extract_lets +onlyGivenNames x; refine (fun (hx : Keeps kp s0 x) => ?_ : Keeps kp s0 x → _) ?_; (on_goal 2 => subst x); (on_goal 1 => clear_value x))
    | (extract_lets +onlyGivenNames x; clear_value x)
    | split

end Sys2Proof.Machine
end

