-- ==== Sys2Proof/Laws/KeepsCommands.lean ====
section
/-! SUPPORT. Each command keeps what `Keeps` says; KEY_ENROLL, KEY_REVOKE and LIFECYCLE_SET, which change the keys or the life-cycle state, without `kp`. -/

namespace Sys2Proof.Machine

set_option linter.unusedTactic false
set_option linter.unreachableTactic false
set_option linter.unusedVariables false

variable {kp : Bool} {s0 s : State}

theorem execAccumulatorAdd_keeps (core ticket row col : Nat) (acc addend : Int) (scale : Option Int) (h : Keeps kp s0 s) :
    Nexts kp s0 (execAccumulatorAdd core ticket row col acc addend scale s) := by
  unfold execAccumulatorAdd
  repeat' first
    | with_reducible assumption | exact fun _ => rfl | (intro t a ht; beta_reduce) | (intro t ht; beta_reduce) | with_reducible apply next_nexts
    | with_reducible apply guardId_nexts | with_reducible apply fault_nexts | with_reducible apply checkFail_keeps
    | (extract_lets +onlyGivenNames x; refine (fun (hx : Keeps kp s0 x) => ?_ : Keeps kp s0 x → _) ?_; (on_goal 2 => subst x); (on_goal 1 => clear_value x))
    | (extract_lets +onlyGivenNames x; clear_value x)
    | split
theorem execActiveVatFault_keeps (trigger source : Nat) (h : Keeps kp s0 s) :
    Nexts kp s0 (execActiveVatFault trigger source s) := by
  unfold execActiveVatFault
  repeat' first
    | with_reducible assumption | with_reducible apply next_nexts | with_reducible apply guardId_nexts | with_reducible apply fault_nexts
    | with_reducible apply vatTrigger_keeps | with_reducible apply agentCount_keeps | split
theorem execAgentCmd_keeps (h0 : Hdr) (die : Nat) (op : AgentOp) (h : Keeps kp s0 s) :
    Nexts kp s0 (execAgentCmd h0 die op s) := by
  unfold execAgentCmd
  repeat' first
    | with_reducible assumption | exact fun _ => rfl | (intro t a ht; beta_reduce) | (intro t ht; beta_reduce) | with_reducible apply next_nexts
    | with_reducible apply guardId_nexts | with_reducible apply fault_nexts | with_reducible apply feltSend_keeps
    | with_reducible apply recvCmd_keeps | with_reducible apply agentDoes_keeps | with_reducible apply modDie_keeps | split
theorem execAgentInternal_keeps (die : Nat) (h : Keeps kp s0 s) :
    Nexts kp s0 (execAgentInternal die s) := by
  unfold execAgentInternal
  repeat' first
    | with_reducible assumption | with_reducible apply next_nexts | with_reducible apply guardId_nexts | with_reducible apply fault_nexts
    | with_reducible apply agentCount_keeps | split
theorem execAgentReply_keeps (h0 : Hdr) (id : Nat) (value : Word) (error : Bool) (h : Keeps kp s0 s) :
    Nexts kp s0 (execAgentReply h0 id value error s) := by
  unfold execAgentReply
  repeat' first
    | with_reducible assumption | exact fun _ => rfl | (intro t a ht; beta_reduce) | (intro t ht; beta_reduce) | with_reducible apply next_nexts
    | with_reducible apply guardId_nexts | with_reducible apply fault_nexts | with_reducible apply recvVat_keeps
    | with_reducible apply checkDeckle_keeps | with_reducible apply noteReply_keeps | with_reducible apply modSh_keeps
    | with_reducible apply fail_keeps | with_reducible apply emit_keeps
    | (extract_lets +onlyGivenNames x; refine (fun (hx : Keeps kp s0 x) => ?_ : Keeps kp s0 x → _) ?_; (on_goal 2 => subst x); (on_goal 1 => clear_value x))
    | (extract_lets +onlyGivenNames x; clear_value x)
    | split
theorem execAgentResetDone_keeps (die : Nat) (h : Keeps kp s0 s) :
    Nexts kp s0 (execAgentResetDone die s) := by
  unfold execAgentResetDone
  repeat' first
    | with_reducible assumption | exact fun _ => rfl | (intro t a ht; beta_reduce) | (intro t ht; beta_reduce) | with_reducible apply next_nexts
    | with_reducible apply guardId_nexts | with_reducible apply fault_nexts | with_reducible apply whenActing_keeps
    | with_reducible apply serveAgent_keeps | with_reducible apply modSh_keeps | with_reducible apply dropReset_keeps
    | with_reducible apply modDie_keeps | with_reducible apply unpark_keeps | with_reducible apply unholdDie_keeps
    | with_reducible apply dropAgentHolds_keeps | with_reducible apply correctReel_keeps | with_reducible apply resetDone_keeps
    | with_reducible apply dieRing_keeps | with_reducible apply mirror_keeps | split
theorem execAgentSelfBistDone_keeps (die : Nat) (ok calOk : Bool) (test : Nat) (h : Keeps kp s0 s) :
    Nexts kp s0 (execAgentSelfBistDone die ok calOk test s) := by
  unfold execAgentSelfBistDone
  repeat' first
    | with_reducible assumption | with_reducible apply next_nexts | with_reducible apply guardId_nexts | with_reducible apply fault_nexts
    | with_reducible apply modDie_keeps | with_reducible apply agentCount_keeps | with_reducible apply emit_keeps
    | with_reducible apply chooseVat_keeps | with_reducible apply agentOut_keeps | split
theorem execAlignDone_keeps (h : Keeps kp s0 s) :
    Nexts kp s0 (execAlignDone s) := by
  unfold execAlignDone
  repeat' first
    | with_reducible assumption | exact fun _ => rfl | (intro t a ht; beta_reduce) | (intro t ht; beta_reduce) | with_reducible apply next_nexts
    | with_reducible apply guardId_nexts | with_reducible apply fault_nexts | with_reducible apply repeatAlign_keeps
    | with_reducible apply feltSend_keeps | with_reducible apply afterAlign_keeps | with_reducible apply each_keepsS
    | with_reducible apply agentCount_keeps | with_reducible apply modDie_keeps | split
theorem execAlignEcho_keeps (die neighbour port rt1 rt2 rt3 : Nat) (h : Keeps kp s0 s) :
    Nexts kp s0 (execAlignEcho die neighbour port rt1 rt2 rt3 s) := by
  unfold execAlignEcho
  repeat' first
    | with_reducible assumption | exact fun _ => rfl | (intro t a ht; beta_reduce) | (intro t ht; beta_reduce) | with_reducible apply next_nexts
    | with_reducible apply guardId_nexts | with_reducible apply fault_nexts | with_reducible apply modPort_keeps
    | with_reducible apply feltSend_keeps | with_reducible apply leaveHop_keeps | with_reducible apply alignHop_keeps
    | (extract_lets +onlyGivenNames x; refine (fun (hx : Keeps kp s0 x) => ?_ : Keeps kp s0 x → _) ?_; (on_goal 2 => subst x); (on_goal 1 => clear_value x))
    | (extract_lets +onlyGivenNames x; clear_value x)
    | split
theorem execAlignProbe_keeps (h0 : Hdr) (die value : Nat) (h : Keeps kp s0 s) :
    Nexts kp s0 (execAlignProbe h0 die value s) := by
  unfold execAlignProbe
  repeat' first
    | with_reducible assumption | exact fun _ => rfl | (intro t a ht; beta_reduce) | (intro t ht; beta_reduce) | with_reducible apply next_nexts
    | with_reducible apply guardId_nexts | with_reducible apply fault_nexts | with_reducible apply recv_keeps | with_reducible apply feltSend_keeps
    | split
theorem execAlignSet_keeps (h0 : Hdr) (die t halfRt edgeIn : Nat) (h : Keeps kp s0 s) :
    Nexts kp s0 (execAlignSet h0 die t halfRt edgeIn s) := by
  unfold execAlignSet
  repeat' first
    | with_reducible assumption | exact fun _ => rfl | (intro t a ht; beta_reduce) | (intro t ht; beta_reduce) | with_reducible apply next_nexts
    | with_reducible apply guardId_nexts | with_reducible apply fault_nexts | with_reducible apply recv_keeps
    | with_reducible apply correctReel_keeps | with_reducible apply alignHop_keeps
    | (extract_lets +onlyGivenNames x; refine (fun (hx : Keeps kp s0 x) => ?_ : Keeps kp s0 x → _) ?_; (on_goal 2 => subst x); (on_goal 1 => clear_value x))
    | (extract_lets +onlyGivenNames x; clear_value x)
    | split
theorem execAnalogBistSlice_keeps (die item index : Nat) (measured second : Int) (signal : Bool) (h : Keeps kp s0 s) :
    Nexts kp s0 (execAnalogBistSlice die item index measured second signal s) := by
  unfold execAnalogBistSlice
  repeat' first
    | with_reducible assumption | exact fun _ => rfl | (intro t a ht; beta_reduce) | (intro t ht; beta_reduce) | with_reducible apply next_nexts
    | with_reducible apply guardId_nexts | with_reducible apply fault_nexts | with_reducible apply modCal_keeps
    | with_reducible apply bistFail_keeps
    | (extract_lets +onlyGivenNames x; refine (fun (hx : Keeps kp s0 x) => ?_ : Keeps kp s0 x → _) ?_; (on_goal 2 => subst x); (on_goal 1 => clear_value x))
    | (extract_lets +onlyGivenNames x; clear_value x)
    | split
theorem execAnalogLoopback_keeps (rq : Req) (lane bits errors : Nat) (h : Keeps kp s0 s) :
    Nexts kp s0 (execAnalogLoopback rq lane bits errors s) := by
  unfold execAnalogLoopback
  repeat' first
    | with_reducible assumption | exact fun _ => rfl | (intro t a ht; beta_reduce) | (intro t ht; beta_reduce) | with_reducible apply next_nexts
    | with_reducible apply guardId_nexts | with_reducible apply fault_nexts | with_reducible apply command_keeps | with_reducible apply finish_keeps
    | with_reducible apply askAgent_keeps | with_reducible apply bistFail_keeps | split
theorem execAnnounceReturn_keeps (h0 : Hdr) (h : Keeps kp s0 s) :
    Nexts kp s0 (execAnnounceReturn h0 s) := by
  unfold execAnnounceReturn
  repeat' first
    | with_reducible assumption | exact fun _ => rfl | (intro t a ht; beta_reduce) | (intro t ht; beta_reduce) | with_reducible apply next_nexts
    | with_reducible apply guardId_nexts | with_reducible apply fault_nexts | with_reducible apply endGap_keeps | with_reducible apply modGap_keeps
    | (extract_lets +onlyGivenNames x; refine (fun (hx : Keeps kp s0 x) => ?_ : Keeps kp s0 x → _) ?_; (on_goal 2 => subst x); (on_goal 1 => clear_value x))
    | (extract_lets +onlyGivenNames x; clear_value x)
    | split
theorem execAnnounce_keeps (h0 : Hdr) (die : Nat) (h : Keeps kp s0 s) :
    Nexts kp s0 (execAnnounce h0 die s) := by
  unfold execAnnounce
  repeat' first
    | with_reducible assumption | exact fun _ => rfl | (intro t a ht; beta_reduce) | (intro t ht; beta_reduce) | with_reducible apply next_nexts
    | with_reducible apply guardId_nexts | with_reducible apply fault_nexts | with_reducible apply recvCmd_keeps
    | with_reducible apply returnHeld_keeps | split
theorem execAperturePacketWrite_keeps (a : Access) (v : Word) (h : Keeps kp s0 s) :
    Nexts kp s0 (execAperturePacketWrite a v s) := by
  unfold execAperturePacketWrite
  repeat' first
    | with_reducible assumption | with_reducible apply next_nexts | with_reducible apply guardId_nexts | with_reducible apply fault_nexts
    | with_reducible apply accessWrite_keeps
theorem execAuthClose_keeps (rq : Req) (h : Keeps kp s0 s) :
    Nexts kp s0 (execAuthClose rq s) := by
  unfold execAuthClose
  repeat' first
    | with_reducible assumption | exact fun _ => rfl | (intro t a ht; beta_reduce) | (intro t ht; beta_reduce) | with_reducible apply next_nexts
    | with_reducible apply guardId_nexts | with_reducible apply fault_nexts | with_reducible apply command_keeps | with_reducible apply finish_keeps
    | with_reducible apply putSession_keeps | split
theorem execAuthOpen_keeps (rq : Req) (priv keyId : Nat) (h : Keeps kp s0 s) :
    Nexts kp s0 (execAuthOpen rq priv keyId s) := by
  unfold execAuthOpen
  repeat' first
    | with_reducible assumption | exact fun _ => rfl | (intro t a ht; beta_reduce) | (intro t ht; beta_reduce) | with_reducible apply next_nexts
    | with_reducible apply guardId_nexts | with_reducible apply fault_nexts | with_reducible apply command_keeps | with_reducible apply refuse_keeps
    | with_reducible apply finish_keeps | with_reducible apply draw_keeps | with_reducible apply putSession_keeps | (intro g; split <;> rfl)
    | (extract_lets +onlyGivenNames x; refine (fun (hx : Keeps kp s0 x) => ?_ : Keeps kp s0 x → _) ?_; (on_goal 2 => subst x); (on_goal 1 => clear_value x))
    | (extract_lets +onlyGivenNames x; refine (fun (hx : Keeps kp s0 x.1) => ?_ : Keeps kp s0 x.1 → _) ?_; (on_goal 2 => subst x); (on_goal 1 => clear_value x))
    | (extract_lets +onlyGivenNames x; refine (fun (hx : Keeps kp s0 x.2) => ?_ : Keeps kp s0 x.2 → _) ?_; (on_goal 2 => subst x); (on_goal 1 => clear_value x))
    | (extract_lets +onlyGivenNames x; have : ∀ z, x z = x z := fun _ => rfl; clear this; subst x; beta_reduce)
    | (extract_lets +onlyGivenNames x; clear_value x)
    | split
theorem execAuthProveWindowExpiry_keeps (session : Nat) (h : Keeps kp s0 s) :
    Nexts kp s0 (execAuthProveWindowExpiry session s) := by
  unfold execAuthProveWindowExpiry
  repeat' first
    | with_reducible assumption | with_reducible apply next_nexts | with_reducible apply guardId_nexts | with_reducible apply fault_nexts
    | with_reducible apply putSession_keeps | split
theorem execAuthProve_keeps (rq : Req) (session : Nat) (h : Keeps kp s0 s) :
    Nexts kp s0 (execAuthProve rq session s) := by
  unfold execAuthProve
  repeat' first
    | with_reducible assumption | exact fun _ => rfl | (intro t a ht; beta_reduce) | (intro t ht; beta_reduce) | with_reducible apply next_nexts
    | with_reducible apply guardId_nexts | with_reducible apply fault_nexts | with_reducible apply command_keeps
    | with_reducible apply authFail_keeps | with_reducible apply draw_keeps | with_reducible apply finish_keeps
    | with_reducible apply putSession_keeps | split
theorem execBadopCommandPacket_keeps (path : Path) (opcode tag crc : Nat) (lenOk : Bool) (h : Keeps kp s0 s) :
    Nexts kp s0 (execBadopCommandPacket path opcode tag crc lenOk s) := by
  unfold execBadopCommandPacket
  repeat' first
    | with_reducible assumption | exact fun _ => rfl | (intro t a ht; beta_reduce) | (intro t ht; beta_reduce) | with_reducible apply next_nexts
    | with_reducible apply guardId_nexts | with_reducible apply fault_nexts | with_reducible apply hold_keeps | with_reducible apply finish_keeps
    | (exact duplicate_keeps _ _ (by assumption) (by assumption)) | split | (intro g; split <;> rfl)
    | (extract_lets +onlyGivenNames x; refine (fun (hx : Keeps kp s0 x) => ?_ : Keeps kp s0 x → _) ?_; (on_goal 2 => subst x); (on_goal 1 => clear_value x))
    | (extract_lets +onlyGivenNames x; refine (fun (hx : Keeps kp s0 x.1) => ?_ : Keeps kp s0 x.1 → _) ?_; (on_goal 2 => subst x); (on_goal 1 => clear_value x))
    | (extract_lets +onlyGivenNames x; refine (fun (hx : Keeps kp s0 x.2) => ?_ : Keeps kp s0 x.2 → _) ?_; (on_goal 2 => subst x); (on_goal 1 => clear_value x))
    | (extract_lets +onlyGivenNames x; have : ∀ z, x z = x z := fun _ => rfl; clear this; subst x; beta_reduce)
    | (extract_lets +onlyGivenNames x; clear_value x)
    | extract_lets +onlyGivenNames x
theorem execBarrierDrained_keeps (die seq : Nat) (h : Keeps kp s0 s) :
    Nexts kp s0 (execBarrierDrained die seq s) := by
  unfold execBarrierDrained
  repeat' first
    | with_reducible assumption | exact fun _ => rfl | (intro t a ht; beta_reduce) | (intro t ht; beta_reduce) | with_reducible apply next_nexts
    | with_reducible apply guardId_nexts | with_reducible apply fault_nexts | with_reducible apply each_keepsS | with_reducible apply ack_keeps
    | with_reducible apply modDie_keeps | split
theorem execBarrier_keeps (h0 : Hdr) (die tag : Nat) (gen : Option Nat) (h : Keeps kp s0 s) :
    Nexts kp s0 (execBarrier h0 die tag gen s) := by
  unfold execBarrier
  repeat' first
    | with_reducible assumption | exact fun _ => rfl | (intro t a ht; beta_reduce) | (intro t ht; beta_reduce) | with_reducible apply next_nexts
    | with_reducible apply guardId_nexts | with_reducible apply fault_nexts | with_reducible apply ack_keeps | with_reducible apply feltSend_keeps
    | with_reducible apply agentCount_keeps | with_reducible apply modDie_keeps | with_reducible apply noteSeen_keeps
    | (extract_lets +onlyGivenNames x; refine (fun (hx : Keeps kp s0 x) => ?_ : Keeps kp s0 x → _) ?_; (on_goal 2 => subst x); (on_goal 1 => clear_value x))
    | (extract_lets +onlyGivenNames x; clear_value x)
    | split
theorem execBitmap_keeps (h0 : Hdr) (dist : Nat) (words : List Nat) (h : Keeps kp s0 s) :
    Nexts kp s0 (execBitmap h0 dist words s) := by
  unfold execBitmap
  repeat' first
    | with_reducible assumption | exact fun _ => rfl | (intro t a ht; beta_reduce) | (intro t ht; beta_reduce) | with_reducible apply next_nexts
    | with_reducible apply guardId_nexts | with_reducible apply fault_nexts | with_reducible apply recvVat_keeps
    | with_reducible apply modDist_keeps | with_reducible apply checkComplete_keeps | with_reducible apply abortDist_keeps
    | (extract_lets +onlyGivenNames x; refine (fun (hx : Keeps kp s0 x) => ?_ : Keeps kp s0 x → _) ?_; (on_goal 2 => subst x); (on_goal 1 => clear_value x))
    | (extract_lets +onlyGivenNames x; clear_value x)
    | split
theorem execBridgeInboundAdmit_keeps (hub : Hub) (h : Keeps kp s0 s) :
    Nexts kp s0 (execBridgeInboundAdmit hub s) := by
  unfold execBridgeInboundAdmit
  repeat' first
    | with_reducible assumption | with_reducible apply next_nexts | with_reducible apply guardId_nexts | with_reducible apply fault_nexts
    | with_reducible apply feltSend_keeps | with_reducible apply modVat_keeps | split
theorem execBridged_keeps (h0 : Hdr) (payload : List Nat) (h : Keeps kp s0 s) :
    Nexts kp s0 (execBridged h0 payload s) := by
  unfold execBridged
  repeat' first
    | with_reducible assumption | exact fun _ => rfl | (intro t a ht; beta_reduce) | (intro t ht; beta_reduce) | with_reducible apply next_nexts
    | with_reducible apply guardId_nexts | with_reducible apply fault_nexts | with_reducible apply recvVat_keeps | with_reducible apply emit_keeps
    | with_reducible apply modVat_keeps | with_reducible apply ack_keeps | with_reducible apply hear_keeps | split
theorem execBrkAddrTrap_keeps (die addr : Nat) (h : Keeps kp s0 s) :
    Nexts kp s0 (execBrkAddrTrap die addr s) := by
  unfold execBrkAddrTrap
  repeat' first
    | with_reducible assumption | exact fun _ => rfl | (intro t a ht; beta_reduce) | (intro t ht; beta_reduce) | with_reducible apply next_nexts
    | with_reducible apply guardId_nexts | with_reducible apply fault_nexts | with_reducible apply each_keepsS
    | with_reducible apply brkTriggers_keeps | split
theorem execBrkClear_keeps (rq : Req) (number : Nat) (h : Keeps kp s0 s) :
    Nexts kp s0 (execBrkClear rq number s) := by
  unfold execBrkClear
  repeat' first
    | with_reducible assumption | exact fun _ => rfl | (intro t a ht; beta_reduce) | (intro t ht; beta_reduce) | with_reducible apply next_nexts
    | with_reducible apply guardId_nexts | with_reducible apply fault_nexts | with_reducible apply command_keeps | with_reducible apply finish_keeps
    | with_reducible apply mirror_keeps | with_reducible apply clearBrks_keeps | split
theorem execBrkDrainEnd_keeps (ctx : Nat) (h : Keeps kp s0 s) :
    Nexts kp s0 (execBrkDrainEnd ctx s) := by
  unfold execBrkDrainEnd
  repeat' first
    | with_reducible assumption | exact fun _ => rfl | (intro t a ht; beta_reduce) | (intro t ht; beta_reduce) | with_reducible apply next_nexts
    | with_reducible apply guardId_nexts | with_reducible apply fault_nexts | with_reducible apply modCtx_keeps | with_reducible apply record_keeps
    | with_reducible apply postInt_keeps | with_reducible apply endOp_keeps | with_reducible apply doResume_keeps
    | (extract_lets +onlyGivenNames x; refine (fun (hx : Keeps kp s0 x) => ?_ : Keeps kp s0 x → _) ?_; (on_goal 2 => subst x); (on_goal 1 => clear_value x))
    | (extract_lets +onlyGivenNames x; clear_value x)
    | split
theorem execBrkHoldScreen_keeps (core : Nat) (h : Keeps kp s0 s) :
    Nexts kp s0 (execBrkHoldScreen core s) := by
  unfold execBrkHoldScreen
  repeat' first
    | with_reducible assumption | with_reducible apply next_nexts | with_reducible apply guardId_nexts | with_reducible apply fault_nexts
    | with_reducible apply askLease_keeps | with_reducible apply modCore_keeps | split
theorem execBrkResume_keeps (rq : Req) (run : Nat) (h : Keeps kp s0 s) :
    Nexts kp s0 (execBrkResume rq run s) := by
  unfold execBrkResume
  repeat' first
    | with_reducible assumption | exact fun _ => rfl | (intro t a ht; beta_reduce) | (intro t ht; beta_reduce) | with_reducible apply next_nexts
    | with_reducible apply guardId_nexts | with_reducible apply fault_nexts | with_reducible apply command_keeps | with_reducible apply finish_keeps
    | with_reducible apply doResume_keeps | with_reducible apply beginRun_keeps | with_reducible apply modCtx_keeps | split
theorem execBrkSet_keeps (rq : Req) (kind scope arg arg2 : Nat) (h : Keeps kp s0 s) :
    Nexts kp s0 (execBrkSet rq kind scope arg arg2 s) := by
  unfold execBrkSet
  repeat' first
    | with_reducible assumption | exact fun _ => rfl | (intro t a ht; beta_reduce) | (intro t ht; beta_reduce) | with_reducible apply next_nexts
    | with_reducible apply guardId_nexts | with_reducible apply fault_nexts | with_reducible apply command_keeps | with_reducible apply refuse_keeps
    | with_reducible apply finish_keeps | with_reducible apply modCtx_keeps | with_reducible apply each_keepsS | with_reducible apply modDie_keeps
    | with_reducible apply mirror_keeps
    | (extract_lets +onlyGivenNames x; refine (fun (hx : Keeps kp s0 x) => ?_ : Keeps kp s0 x → _) ?_; (on_goal 2 => subst x); (on_goal 1 => clear_value x))
    | (extract_lets +onlyGivenNames x; clear_value x)
    | split
theorem execCalSet_keeps (rq : Req) (field scope : Nat) (value : Int) (h : Keeps kp s0 s) :
    Nexts kp s0 (execCalSet rq field scope value s) := by
  unfold execCalSet
  repeat' first
    | with_reducible assumption | exact fun _ => rfl | (intro t a ht; beta_reduce) | (intro t ht; beta_reduce) | with_reducible apply next_nexts
    | with_reducible apply guardId_nexts | with_reducible apply fault_nexts | with_reducible apply command_keeps | with_reducible apply modPkg_keeps
    | with_reducible apply record_keeps | with_reducible apply mramWrite_keeps | with_reducible apply finish_keeps | split
theorem execCheckerRail_keeps (core : Nat) (h : Keeps kp s0 s) :
    Nexts kp s0 (execCheckerRail core s) := by
  unfold execCheckerRail
  repeat' first
    | with_reducible assumption | with_reducible apply next_nexts | with_reducible apply guardId_nexts | with_reducible apply fault_nexts
    | with_reducible apply coreFail_keeps
theorem execChunkPaceTick_keeps (kind : Nat) (h : Keeps kp s0 s) :
    Nexts kp s0 (execChunkPaceTick kind s) := by
  unfold execChunkPaceTick
  repeat' first
    | with_reducible assumption | with_reducible apply next_nexts | with_reducible apply guardId_nexts | with_reducible apply fault_nexts
    | with_reducible apply modDist_keeps | with_reducible apply sendChunk_keeps | with_reducible apply pollDist_keeps | split
theorem execChunk_keeps (die dist number : Nat) (bytes : List Byte) (crc : Nat) (h : Keeps kp s0 s) :
    Nexts kp s0 (execChunk die dist number bytes crc s) := by
  unfold execChunk
  repeat' first
    | with_reducible assumption | with_reducible apply next_nexts | with_reducible apply guardId_nexts | with_reducible apply fault_nexts
    | with_reducible apply modStaging_keeps | with_reducible apply modFurnish_keeps | with_reducible apply agentCount_keeps | split
theorem execClusterBufferEcc_keeps (die cluster : Nat) (corrected : Bool) (h : Keeps kp s0 s) :
    Nexts kp s0 (execClusterBufferEcc die cluster corrected s) := by
  unfold execClusterBufferEcc
  repeat' first
    | with_reducible assumption | with_reducible apply next_nexts | with_reducible apply guardId_nexts | with_reducible apply fault_nexts
    | with_reducible apply agentCount_keeps | with_reducible apply emit_keeps | split
theorem execCoreReturn_keeps (rq : Req) (pcore : Nat) (h : Keeps kp s0 s) :
    Nexts kp s0 (execCoreReturn rq pcore s) := by
  unfold execCoreReturn
  repeat' first
    | with_reducible assumption | exact fun _ => rfl | (intro t a ht; beta_reduce) | (intro t ht; beta_reduce) | with_reducible apply next_nexts
    | with_reducible apply guardId_nexts | with_reducible apply fault_nexts | with_reducible apply command_keeps | with_reducible apply finish_keeps
    | with_reducible apply fenceCore_keeps | with_reducible apply modCore_keeps | split
theorem execCountFwd_keeps (h0 : Hdr) (batches : List CountBatch) (h : Keeps kp s0 s) :
    Nexts kp s0 (execCountFwd h0 batches s) := by
  unfold execCountFwd
  repeat' first
    | with_reducible assumption | exact fun _ => rfl | (intro t a ht; beta_reduce) | (intro t ht; beta_reduce) | with_reducible apply next_nexts
    | with_reducible apply guardId_nexts | with_reducible apply fault_nexts | with_reducible apply recvVat_keeps | with_reducible apply each_keepsS
    | with_reducible apply applyBatch_keeps | split
theorem execCounterParity_keeps (core : Nat) (screen : Bool) (h : Keeps kp s0 s) :
    Nexts kp s0 (execCounterParity core screen s) := by
  unfold execCounterParity
  repeat' first
    | with_reducible assumption | with_reducible apply next_nexts | with_reducible apply guardId_nexts | with_reducible apply fault_nexts
    | with_reducible apply agentCount_keeps | with_reducible apply modCore_keeps
theorem execCounterRead_keeps (rq : Req) (pcore count clear : Nat) (h : Keeps kp s0 s) :
    Nexts kp s0 (execCounterRead rq pcore count clear s) := by
  unfold execCounterRead
  repeat' first
    | with_reducible assumption | exact fun _ => rfl | (intro t a ht; beta_reduce) | (intro t ht; beta_reduce) | with_reducible apply next_nexts
    | with_reducible apply guardId_nexts | with_reducible apply fault_nexts | with_reducible apply command_keeps | with_reducible apply finish_keeps
    | with_reducible apply each_keepsS | with_reducible apply zeroCounters_keeps | split
theorem execCreditTimeout_keeps (die port : Nat) (h : Keeps kp s0 s) :
    Nexts kp s0 (execCreditTimeout die port s) := by
  unfold execCreditTimeout
  repeat' first
    | with_reducible assumption | with_reducible apply next_nexts | with_reducible apply guardId_nexts | with_reducible apply fault_nexts
    | with_reducible apply declareDown_keeps | with_reducible apply agentCount_keeps
theorem execCredit_keeps (die port data : Nat) (h : Keeps kp s0 s) :
    Nexts kp s0 (execCredit die port data s) := by
  unfold execCredit
  repeat' first
    | with_reducible assumption | with_reducible apply next_nexts | with_reducible apply guardId_nexts | with_reducible apply fault_nexts
    | with_reducible apply serve_keeps | with_reducible apply modPort_keeps
theorem execCtxKill_keeps (rq : Req) (h : Keeps kp s0 s) :
    Nexts kp s0 (execCtxKill rq s) := by
  unfold execCtxKill
  repeat' first
    | with_reducible assumption | exact fun _ => rfl | (intro t a ht; beta_reduce) | (intro t ht; beta_reduce) | with_reducible apply next_nexts
    | with_reducible apply guardId_nexts | with_reducible apply fault_nexts | with_reducible apply command_keeps | with_reducible apply finish_keeps
    | with_reducible apply beginRun_keeps | with_reducible apply startTeardown_keeps | split | (intro g; split <;> rfl)
    | (extract_lets +onlyGivenNames x; refine (fun (hx : Keeps kp s0 x) => ?_ : Keeps kp s0 x → _) ?_; (on_goal 2 => subst x); (on_goal 1 => clear_value x))
    | (extract_lets +onlyGivenNames x; refine (fun (hx : Keeps kp s0 x.1) => ?_ : Keeps kp s0 x.1 → _) ?_; (on_goal 2 => subst x); (on_goal 1 => clear_value x))
    | (extract_lets +onlyGivenNames x; refine (fun (hx : Keeps kp s0 x.2) => ?_ : Keeps kp s0 x.2 → _) ?_; (on_goal 2 => subst x); (on_goal 1 => clear_value x))
    | (extract_lets +onlyGivenNames x; have : ∀ z, x z = x z := fun _ => rfl; clear this; subst x; beta_reduce)
    | (extract_lets +onlyGivenNames x; clear_value x)
    | extract_lets +onlyGivenNames x
theorem execCtxLoad_keeps (rq : Req) (f : LoadFields) (pr : PlanRead) (h : Keeps kp s0 s) :
    Nexts kp s0 (execCtxLoad rq f pr s) := by
  unfold execCtxLoad
  repeat' first
    | with_reducible assumption | exact fun _ => rfl | (intro t a ht; beta_reduce) | (intro t ht; beta_reduce) | with_reducible apply next_nexts
    | with_reducible apply guardId_nexts | with_reducible apply fault_nexts | with_reducible apply command_keeps | with_reducible apply refuse_keeps
    | with_reducible apply modCtx_keeps | with_reducible apply each_keepsS | with_reducible apply modSh_keeps | with_reducible apply modPkg_keeps
    | with_reducible apply modDie_keeps | with_reducible apply loadLc_keeps | with_reducible apply modCore_keeps | with_reducible apply finish_keeps
    | with_reducible apply mirror_keeps
    | (extract_lets +onlyGivenNames x; refine (fun (hx : Keeps kp s0 x) => ?_ : Keeps kp s0 x → _) ?_; (on_goal 2 => subst x); (on_goal 1 => clear_value x))
    | (extract_lets +onlyGivenNames x; clear_value x)
    | split
theorem execCtxStatus_keeps (rq : Req) (h : Keeps kp s0 s) :
    Nexts kp s0 (execCtxStatus rq s) := by
  unfold execCtxStatus
  repeat' first
    | with_reducible assumption | exact fun _ => rfl | (intro t a ht; beta_reduce) | (intro t ht; beta_reduce) | with_reducible apply next_nexts
    | with_reducible apply guardId_nexts | with_reducible apply fault_nexts | with_reducible apply command_keeps | with_reducible apply finish_keeps
    | split
theorem execD2dCodewordError_keeps (die link : Nat) (corrected : Bool) (h : Keeps kp s0 s) :
    Nexts kp s0 (execD2dCodewordError die link corrected s) := by
  unfold execD2dCodewordError
  repeat' first
    | with_reducible assumption | with_reducible apply next_nexts | with_reducible apply guardId_nexts | with_reducible apply fault_nexts
    | with_reducible apply agentCount_keeps | with_reducible apply emit_keeps | split
theorem execDataTransferArrival_keeps (x : Xfer) (h : Keeps kp s0 s) :
    Nexts kp s0 (execDataTransferArrival x s) := by
  unfold execDataTransferArrival
  repeat' first
    | with_reducible assumption | with_reducible apply next_nexts | with_reducible apply guardId_nexts | with_reducible apply fault_nexts
    | with_reducible apply modLc_keeps | with_reducible apply deliverXfer_keeps | split
theorem execDeckleMapBuild_keeps (h : Keeps kp s0 s) :
    Nexts kp s0 (execDeckleMapBuild s) := by
  unfold execDeckleMapBuild
  repeat' first
    | with_reducible assumption | exact fun _ => rfl | (intro t a ht; beta_reduce) | (intro t ht; beta_reduce) | with_reducible apply next_nexts
    | with_reducible apply guardId_nexts | with_reducible apply fault_nexts | with_reducible apply each_keepsS | with_reducible apply modPkg_keeps
    | with_reducible apply declareReady_keeps | with_reducible apply mramWrite_keeps | with_reducible apply buildSlice_keeps | split
theorem execDeckleRead_keeps (rq : Req) (die segment : Nat) (h : Keeps kp s0 s) :
    Nexts kp s0 (execDeckleRead rq die segment s) := by
  unfold execDeckleRead
  repeat' first
    | with_reducible assumption | exact fun _ => rfl | (intro t a ht; beta_reduce) | (intro t ht; beta_reduce) | with_reducible apply next_nexts
    | with_reducible apply guardId_nexts | with_reducible apply fault_nexts | with_reducible apply command_keeps | with_reducible apply finish_keeps
    | with_reducible apply askAgent_keeps | with_reducible apply checkDeckle_keeps | split
theorem execDeposeGateTimeout_keeps (h : Keeps kp s0 s) :
    Nexts kp s0 (execDeposeGateTimeout s) := by
  unfold execDeposeGateTimeout
  repeat' first
    | with_reducible assumption | with_reducible apply next_nexts | with_reducible apply guardId_nexts | with_reducible apply fault_nexts
    | with_reducible apply sendDepose_keeps | split
theorem execDepose_keeps (h0 : Hdr) (die : Nat) (gated : Bool) (h : Keeps kp s0 s) :
    Nexts kp s0 (execDepose h0 die gated s) := by
  unfold execDepose
  repeat' first
    | with_reducible assumption | exact fun _ => rfl | (intro t a ht; beta_reduce) | (intro t ht; beta_reduce) | with_reducible apply next_nexts
    | with_reducible apply guardId_nexts | with_reducible apply fault_nexts | with_reducible apply ack_keeps | with_reducible apply feltSend_keeps
    | with_reducible apply agentCount_keeps | with_reducible apply ackWith_keeps | with_reducible apply noteSeen_keeps
    | with_reducible apply modDie_keeps | with_reducible apply vatDown_keeps
    | (extract_lets +onlyGivenNames x; refine (fun (hx : Keeps kp s0 x) => ?_ : Keeps kp s0 x → _) ?_; (on_goal 2 => subst x); (on_goal 1 => clear_value x))
    | (extract_lets +onlyGivenNames x; clear_value x)
    | split
theorem execDispatchTallyCheck_keeps (core ticket : Nat) (taus : List Nat) (n tally : Nat) (h : Keeps kp s0 s) :
    Nexts kp s0 (execDispatchTallyCheck core ticket taus n tally s) := by
  unfold execDispatchTallyCheck
  repeat' first
    | with_reducible assumption | exact fun _ => rfl | (intro t a ht; beta_reduce) | (intro t ht; beta_reduce) | with_reducible apply next_nexts
    | with_reducible apply guardId_nexts | with_reducible apply fault_nexts | with_reducible apply modTicket_keeps
    | with_reducible apply checkTally_keeps
    | (extract_lets +onlyGivenNames x; refine (fun (hx : Keeps kp s0 x) => ?_ : Keeps kp s0 x → _) ?_; (on_goal 2 => subst x); (on_goal 1 => clear_value x))
    | (extract_lets +onlyGivenNames x; clear_value x)
    | split
theorem execDistAckDeadline_keeps (kind : Nat) (h : Keeps kp s0 s) :
    Nexts kp s0 (execDistAckDeadline kind s) := by
  unfold execDistAckDeadline
  repeat' first
    | with_reducible assumption | exact fun _ => rfl | (intro t a ht; beta_reduce) | (intro t ht; beta_reduce) | with_reducible apply next_nexts
    | with_reducible apply guardId_nexts | with_reducible apply fault_nexts | with_reducible apply armDist_keeps | with_reducible apply each_keepsS
    | with_reducible apply vatSend_keeps | split
theorem execDistActivation_keeps (die : Nat) (h : Keeps kp s0 s) :
    Nexts kp s0 (execDistActivation die s) := by
  unfold execDistActivation
  repeat' first
    | with_reducible assumption | exact fun _ => rfl | (intro t a ht; beta_reduce) | (intro t ht; beta_reduce) | with_reducible apply next_nexts
    | with_reducible apply guardId_nexts | with_reducible apply fault_nexts | with_reducible apply each_keepsS | with_reducible apply activate_keeps
    | split
theorem execDistAgentAnswer_keeps (h0 : Hdr) (dist answer : Nat) (h : Keeps kp s0 s) :
    Nexts kp s0 (execDistAgentAnswer h0 dist answer s) := by
  unfold execDistAgentAnswer
  repeat' first
    | with_reducible assumption | exact fun _ => rfl | (intro t a ht; beta_reduce) | (intro t ht; beta_reduce) | with_reducible apply next_nexts
    | with_reducible apply guardId_nexts | with_reducible apply fault_nexts | with_reducible apply recvVat_keeps
    | with_reducible apply modDist_keeps | with_reducible apply abortDist_keeps | with_reducible apply checkComplete_keeps | split
theorem execDistArm_keeps (h0 : Hdr) (die dist count : Nat) (h : Keeps kp s0 s) :
    Nexts kp s0 (execDistArm h0 die dist count s) := by
  unfold execDistArm
  repeat' first
    | with_reducible assumption | exact fun _ => rfl | (intro t a ht; beta_reduce) | (intro t ht; beta_reduce) | with_reducible apply next_nexts
    | with_reducible apply guardId_nexts | with_reducible apply fault_nexts | with_reducible apply recvCmd_keeps
    | with_reducible apply modFurnish_keeps | split
theorem execDistDisarm_keeps (h0 : Hdr) (die dist : Nat) (h : Keeps kp s0 s) :
    Nexts kp s0 (execDistDisarm h0 die dist s) := by
  unfold execDistDisarm
  repeat' first
    | with_reducible assumption | exact fun _ => rfl | (intro t a ht; beta_reduce) | (intro t ht; beta_reduce) | with_reducible apply next_nexts
    | with_reducible apply guardId_nexts | with_reducible apply fault_nexts | with_reducible apply recvCmd_keeps
    | with_reducible apply modFurnish_keeps | split
theorem execDistOpen_keeps (h0 : Hdr) (die dist kind chunks : Nat) (hdr : List Byte) (h : Keeps kp s0 s) :
    Nexts kp s0 (execDistOpen h0 die dist kind chunks hdr s) := by
  unfold execDistOpen
  repeat' first
    | with_reducible assumption | exact fun _ => rfl | (intro t a ht; beta_reduce) | (intro t ht; beta_reduce) | with_reducible apply next_nexts
    | with_reducible apply guardId_nexts | with_reducible apply fault_nexts | with_reducible apply recvCmd_keeps
    | with_reducible apply distAnswer_keeps | with_reducible apply modFurnish_keeps | split
theorem execDistPoll_keeps (h0 : Hdr) (die dist : Nat) (h : Keeps kp s0 s) :
    Nexts kp s0 (execDistPoll h0 die dist s) := by
  unfold execDistPoll
  repeat' first
    | with_reducible assumption | exact fun _ => rfl | (intro t a ht; beta_reduce) | (intro t ht; beta_reduce) | with_reducible apply next_nexts
    | with_reducible apply guardId_nexts | with_reducible apply fault_nexts | with_reducible apply recvCmd_keeps | with_reducible apply toVat_keeps
    | split
theorem execDomainResetDone_keeps (domain target : Nat) (h : Keeps kp s0 s) :
    Nexts kp s0 (execDomainResetDone domain target s) := by
  unfold execDomainResetDone
  repeat' first
    | with_reducible assumption | exact fun _ => rfl | (intro t a ht; beta_reduce) | (intro t ht; beta_reduce) | with_reducible apply next_nexts
    | with_reducible apply guardId_nexts | with_reducible apply fault_nexts | with_reducible apply mirror_keeps | with_reducible apply each_keepsS
    | with_reducible apply resetCoreEnd_keeps | with_reducible apply dropReset_keeps | with_reducible apply resetDone_keeps
    | with_reducible apply lowerFence_keeps | with_reducible apply emit_keeps | with_reducible apply modPkg_keeps
    | with_reducible apply unholdDie_keeps | split
theorem execDumpRead_keeps (rq : Req) (off unlock : Nat) (h : Keeps kp s0 s) :
    Nexts kp s0 (execDumpRead rq off unlock s) := by
  unfold execDumpRead
  repeat' first
    | with_reducible assumption | exact fun _ => rfl | (intro t a ht; beta_reduce) | (intro t ht; beta_reduce) | with_reducible apply next_nexts
    | with_reducible apply guardId_nexts | with_reducible apply fault_nexts | with_reducible apply command_keeps | with_reducible apply finish_keeps
    | with_reducible apply modDbg_keeps | split
theorem execDumpUnitDone_keeps (markerOk : Bool) (image : List Byte) (h : Keeps kp s0 s) :
    Nexts kp s0 (execDumpUnitDone markerOk image s) := by
  unfold execDumpUnitDone
  repeat' first
    | with_reducible assumption | with_reducible apply next_nexts | with_reducible apply guardId_nexts | with_reducible apply fault_nexts
    | with_reducible apply unitDone_keeps
theorem execDumpUnitTimeout_keeps (h : Keeps kp s0 s) :
    Nexts kp s0 (execDumpUnitTimeout s) := by
  unfold execDumpUnitTimeout
  repeat' first
    | with_reducible assumption | with_reducible apply next_nexts | with_reducible apply guardId_nexts | with_reducible apply fault_nexts
    | with_reducible apply unitDone_keeps
theorem execDump_keeps (rq : Req) (lock : Nat) (units : List DumpUnit) (h : Keeps kp s0 s) :
    Nexts kp s0 (execDump rq lock units s) := by
  unfold execDump
  repeat' first
    | with_reducible assumption | exact fun _ => rfl | (intro t a ht; beta_reduce) | (intro t ht; beta_reduce) | with_reducible apply next_nexts
    | with_reducible apply guardId_nexts | with_reducible apply fault_nexts | with_reducible apply command_keeps | with_reducible apply finish_keeps
    | with_reducible apply goDump_keeps | with_reducible apply beginRun_keeps | with_reducible apply modDbg_keeps | split
theorem execEcho_keeps (die port value : Nat) (h : Keeps kp s0 s) :
    Nexts kp s0 (execEcho die port value s) := by
  unfold execEcho
  repeat' first
    | with_reducible assumption | exact fun _ => rfl | (intro t a ht; beta_reduce) | (intro t ht; beta_reduce) | with_reducible apply next_nexts
    | with_reducible apply guardId_nexts | with_reducible apply fault_nexts | with_reducible apply modPort_keeps
    | with_reducible apply feltSend_keeps | with_reducible apply modFelt_keeps
    | (extract_lets +onlyGivenNames x; refine (fun (hx : Keeps kp s0 x) => ?_ : Keeps kp s0 x → _) ?_; (on_goal 2 => subst x); (on_goal 1 => clear_value x))
    | (extract_lets +onlyGivenNames x; clear_value x)
    | split
theorem execEntdaa_keeps (hub : Hub) (addr : Nat) (h : Keeps kp s0 s) :
    Nexts kp s0 (execEntdaa hub addr s) := by
  unfold execEntdaa
  repeat' first
    | with_reducible assumption | with_reducible apply next_nexts | with_reducible apply guardId_nexts | with_reducible apply fault_nexts
    | with_reducible apply modVat_keeps
theorem execEpochStale_keeps (_h : Hdr) (hub : Hub) (epoch : Nat) (h : Keeps kp s0 s) :
    Nexts kp s0 (execEpochStale _h hub epoch s) := by
  unfold execEpochStale
  repeat' first
    | with_reducible assumption | with_reducible apply next_nexts | with_reducible apply guardId_nexts | with_reducible apply fault_nexts
    | with_reducible apply vatDown_keeps | split
theorem execFaultCfg_keeps (rq : Req) (template each thresh n w record : Nat) (h : Keeps kp s0 s) :
    Nexts kp s0 (execFaultCfg rq template each thresh n w record s) := by
  unfold execFaultCfg
  repeat' first
    | with_reducible assumption | exact fun _ => rfl | (intro t a ht; beta_reduce) | (intro t ht; beta_reduce) | with_reducible apply next_nexts
    | with_reducible apply guardId_nexts | with_reducible apply fault_nexts | with_reducible apply command_keeps | with_reducible apply finish_keeps
    | with_reducible apply mramWrite_keeps | with_reducible apply mirror_keeps | with_reducible apply modSh_keeps
    | with_reducible apply record_keeps | split
theorem execFaultClear_keeps (rq : Req) (source : Nat) (h : Keeps kp s0 s) :
    Nexts kp s0 (execFaultClear rq source s) := by
  unfold execFaultClear
  repeat' first
    | with_reducible assumption | exact fun _ => rfl | (intro t a ht; beta_reduce) | (intro t ht; beta_reduce) | with_reducible apply next_nexts
    | with_reducible apply guardId_nexts | with_reducible apply fault_nexts | with_reducible apply command_keeps | with_reducible apply finish_keeps
    | with_reducible apply mramWrite_keeps | with_reducible apply mirror_keeps | with_reducible apply modSh_keeps
    | with_reducible apply record_keeps | split
theorem execFaultPending_keeps (rq : Req) (h : Keeps kp s0 s) :
    Nexts kp s0 (execFaultPending rq s) := by
  unfold execFaultPending
  repeat' first
    | with_reducible assumption | exact fun _ => rfl | (intro t a ht; beta_reduce) | (intro t ht; beta_reduce) | with_reducible apply next_nexts
    | with_reducible apply guardId_nexts | with_reducible apply fault_nexts | with_reducible apply command_keeps | with_reducible apply mirror_keeps
    | with_reducible apply modSh_keeps | with_reducible apply finish_keeps | split
theorem execFaultRead_keeps (rq : Req) (first count : Nat) (h : Keeps kp s0 s) :
    Nexts kp s0 (execFaultRead rq first count s) := by
  unfold execFaultRead
  repeat' first
    | with_reducible assumption | exact fun _ => rfl | (intro t a ht; beta_reduce) | (intro t ht; beta_reduce) | with_reducible apply next_nexts
    | with_reducible apply guardId_nexts | with_reducible apply fault_nexts | with_reducible apply command_keeps | with_reducible apply refuse_keeps
    | with_reducible apply modSh_keeps | with_reducible apply each_keepsS | with_reducible apply finish_keeps
    | (extract_lets +onlyGivenNames x; refine (fun (hx : Keeps kp s0 x) => ?_ : Keeps kp s0 x → _) ?_; (on_goal 2 => subst x); (on_goal 1 => clear_value x))
    | (extract_lets +onlyGivenNames x; clear_value x)
    | split
theorem execFaultReport_keeps (h0 : Hdr) (words : List Nat) (h : Keeps kp s0 s) :
    Nexts kp s0 (execFaultReport h0 words s) := by
  unfold execFaultReport
  repeat' first
    | with_reducible assumption | exact fun _ => rfl | (intro t a ht; beta_reduce) | (intro t ht; beta_reduce) | with_reducible apply next_nexts
    | with_reducible apply guardId_nexts | with_reducible apply fault_nexts | with_reducible apply recvVat_keeps
    | with_reducible apply looseFail_keeps | with_reducible apply advance_keeps | with_reducible apply lowerCause_keeps
    | with_reducible apply queueFailure_keeps | with_reducible apply goOn_keeps | split
theorem execFaultZero_keeps (rq : Req) (first count : Nat) (h : Keeps kp s0 s) :
    Nexts kp s0 (execFaultZero rq first count s) := by
  unfold execFaultZero
  repeat' first
    | with_reducible assumption | exact fun _ => rfl | (intro t a ht; beta_reduce) | (intro t ht; beta_reduce) | with_reducible apply next_nexts
    | with_reducible apply guardId_nexts | with_reducible apply fault_nexts | with_reducible apply command_keeps | with_reducible apply refuse_keeps
    | with_reducible apply mirror_keeps | with_reducible apply modSh_keeps | with_reducible apply finish_keeps | with_reducible apply record_keeps
    | (extract_lets +onlyGivenNames x; refine (fun (hx : Keeps kp s0 x) => ?_ : Keeps kp s0 x → _) ?_; (on_goal 2 => subst x); (on_goal 1 => clear_value x))
    | (extract_lets +onlyGivenNames x; clear_value x)
    | split
theorem execFeltAck_keeps (h0 : Hdr) (die txn status reelLo : Nat) (h : Keeps kp s0 s) :
    Nexts kp s0 (execFeltAck h0 die txn status reelLo s) := by
  unfold execFeltAck
  repeat' first
    | with_reducible assumption | exact fun _ => rfl | (intro t a ht; beta_reduce) | (intro t ht; beta_reduce) | with_reducible apply next_nexts
    | with_reducible apply guardId_nexts | with_reducible apply fault_nexts | with_reducible apply hear_keeps | with_reducible apply modDie_keeps
    | with_reducible apply ackEffect_keeps | with_reducible apply noteAck_keeps
    | (extract_lets +onlyGivenNames x; refine (fun (hx : Keeps kp s0 x) => ?_ : Keeps kp s0 x → _) ?_; (on_goal 2 => subst x); (on_goal 1 => clear_value x))
    | (extract_lets +onlyGivenNames x; clear_value x)
    | split
theorem execFeltDump_keeps (h0 : Hdr) (off : Nat) (bytes : List Byte) (h : Keeps kp s0 s) :
    Nexts kp s0 (execFeltDump h0 off bytes s) := by
  unfold execFeltDump
  repeat' first
    | with_reducible assumption | exact fun _ => rfl | (intro t a ht; beta_reduce) | (intro t ht; beta_reduce) | with_reducible apply next_nexts
    | with_reducible apply guardId_nexts | with_reducible apply fault_nexts | with_reducible apply recvVat_keeps | with_reducible apply modDbg_keeps
    | split
theorem execFeltLinkQualDone_keeps (die port echoed errors : Nat) (h : Keeps kp s0 s) :
    Nexts kp s0 (execFeltLinkQualDone die port echoed errors s) := by
  unfold execFeltLinkQualDone
  repeat' first
    | with_reducible assumption | with_reducible apply next_nexts | with_reducible apply guardId_nexts | with_reducible apply fault_nexts
    | with_reducible apply dropCutOff_keeps | with_reducible apply declareDown_keeps | with_reducible apply bistBlock_keeps | split
theorem execFeltSpacerTimeout_keeps (die port : Nat) (h : Keeps kp s0 s) :
    Nexts kp s0 (execFeltSpacerTimeout die port s) := by
  unfold execFeltSpacerTimeout
  repeat' first
    | with_reducible assumption | with_reducible apply next_nexts | with_reducible apply guardId_nexts | with_reducible apply fault_nexts
    | with_reducible apply linkError_keeps
theorem execFeltStatus_keeps (rq : Req) (h : Keeps kp s0 s) :
    Nexts kp s0 (execFeltStatus rq s) := by
  unfold execFeltStatus
  repeat' first
    | with_reducible assumption | exact fun _ => rfl | (intro t a ht; beta_reduce) | (intro t ht; beta_reduce) | with_reducible apply next_nexts
    | with_reducible apply guardId_nexts | with_reducible apply fault_nexts | with_reducible apply command_keeps | with_reducible apply finish_keeps
    | split
theorem execFenceCmd_keeps (h0 : Hdr) (die : Nat) (o : FenceOrder) (h : Keeps kp s0 s) :
    Nexts kp s0 (execFenceCmd h0 die o s) := by
  unfold execFenceCmd
  repeat' first
    | with_reducible assumption | exact fun _ => rfl | (intro t a ht; beta_reduce) | (intro t ht; beta_reduce) | with_reducible apply next_nexts
    | with_reducible apply guardId_nexts | with_reducible apply fault_nexts | with_reducible apply recvCmd_keeps
    | with_reducible apply setEntry_keeps | with_reducible apply checkHome_keeps | with_reducible apply setHome_keeps
    | with_reducible apply beginReset_keeps | split
theorem execFirstStageForward_keeps (die : Nat) (h : Keeps kp s0 s) :
    Nexts kp s0 (execFirstStageForward die s) := by
  unfold execFirstStageForward
  repeat' first
    | with_reducible assumption | with_reducible apply next_nexts | with_reducible apply guardId_nexts | with_reducible apply fault_nexts
    | with_reducible apply forwardFirst_keeps
theorem execFleetStale_keeps (h : Keeps kp s0 s) :
    Nexts kp s0 (execFleetStale s) := by
  unfold execFleetStale
  repeat' first
    | with_reducible assumption | exact fun _ => rfl | (intro t a ht; beta_reduce) | (intro t ht; beta_reduce) | with_reducible apply next_nexts
    | with_reducible apply guardId_nexts | with_reducible apply fault_nexts | with_reducible apply whenActing_keeps
    | with_reducible apply setVoid_keeps | with_reducible apply record_keeps | split
theorem execFreeze_keeps (h0 : Hdr) (die : Nat) (cores : List Nat) (reason : Nat) (h : Keeps kp s0 s) :
    Nexts kp s0 (execFreeze h0 die cores reason s) := by
  unfold execFreeze
  repeat' first
    | with_reducible assumption | exact fun _ => rfl | (intro t a ht; beta_reduce) | (intro t ht; beta_reduce) | with_reducible apply next_nexts
    | with_reducible apply guardId_nexts | with_reducible apply fault_nexts | with_reducible apply recvCmd_keeps | with_reducible apply each_keepsS
    | with_reducible apply holdCore_keeps | split
theorem execFwBegin_keeps (rq : Req) (header : List Byte) (h : Keeps kp s0 s) :
    Nexts kp s0 (execFwBegin rq header s) := by
  unfold execFwBegin
  repeat' first
    | with_reducible assumption | exact fun _ => rfl | (intro t a ht; beta_reduce) | (intro t ht; beta_reduce) | with_reducible apply next_nexts
    | with_reducible apply guardId_nexts | with_reducible apply fault_nexts | with_reducible apply command_keeps | with_reducible apply finish_keeps
    | with_reducible apply flashDo_keeps | with_reducible apply modPkg_keeps
    | (extract_lets +onlyGivenNames x; refine (fun (hx : Keeps kp s0 x) => ?_ : Keeps kp s0 x → _) ?_; (on_goal 2 => subst x); (on_goal 1 => clear_value x))
    | (extract_lets +onlyGivenNames x; clear_value x)
    | split
theorem execFwCommit_keeps (rq : Req) (h : Keeps kp s0 s) :
    Nexts kp s0 (execFwCommit rq s) := by
  unfold execFwCommit
  repeat' first
    | with_reducible assumption | exact fun _ => rfl | (intro t a ht; beta_reduce) | (intro t ht; beta_reduce) | with_reducible apply next_nexts
    | with_reducible apply guardId_nexts | with_reducible apply fault_nexts | with_reducible apply command_keeps | with_reducible apply finish_keeps
    | with_reducible apply modPkg_keeps | split
theorem execFwLoadDone_keeps (hub : Hub) (readErrors : Nat) (h : Keeps kp s0 s) :
    Nexts kp s0 (execFwLoadDone hub readErrors s) := by
  unfold execFwLoadDone
  repeat' first
    | with_reducible assumption | exact fun _ => rfl | (intro t a ht; beta_reduce) | (intro t ht; beta_reduce) | with_reducible apply next_nexts
    | with_reducible apply guardId_nexts | with_reducible apply fault_nexts | with_reducible apply each_keepsS | with_reducible apply vatCount_keeps
    | with_reducible apply modVat_keeps | with_reducible apply record_keeps | with_reducible apply chooseVat_keeps
    | with_reducible apply enterSync_keeps
    | (extract_lets +onlyGivenNames x; refine (fun (hx : Keeps kp s0 x) => ?_ : Keeps kp s0 x → _) ?_; (on_goal 2 => subst x); (on_goal 1 => clear_value x))
    | (extract_lets +onlyGivenNames x; clear_value x)
    | split
theorem execFwWatchdogExpiry_keeps (h : Keeps kp s0 s) :
    Nexts kp s0 (execFwWatchdogExpiry s) := by
  unfold execFwWatchdogExpiry
  repeat' first
    | with_reducible assumption | with_reducible apply next_nexts | with_reducible apply guardId_nexts | with_reducible apply fault_nexts
    | with_reducible apply vatTrigger_keeps | with_reducible apply failOver_keeps | split
theorem execFwWrite_keeps (rq : Req) (off : Nat) (bytes : List Byte) (h : Keeps kp s0 s) :
    Nexts kp s0 (execFwWrite rq off bytes s) := by
  unfold execFwWrite
  repeat' first
    | with_reducible assumption | exact fun _ => rfl | (intro t a ht; beta_reduce) | (intro t ht; beta_reduce) | with_reducible apply next_nexts
    | with_reducible apply guardId_nexts | with_reducible apply fault_nexts | with_reducible apply command_keeps | with_reducible apply finish_keeps
    | with_reducible apply flashDo_keeps | split
theorem execGateConfirm_keeps (_h : Hdr) (h : Keeps kp s0 s) :
    Nexts kp s0 (execGateConfirm _h s) := by
  unfold execGateConfirm
  repeat' first
    | with_reducible assumption | with_reducible apply next_nexts | with_reducible apply guardId_nexts | with_reducible apply fault_nexts
    | with_reducible apply sendDepose_keeps | with_reducible apply modGap_keeps | with_reducible apply vatDown_keeps | split
theorem execGenSet_keeps (h0 : Hdr) (die group gen : Nat) (h : Keeps kp s0 s) :
    Nexts kp s0 (execGenSet h0 die group gen s) := by
  unfold execGenSet
  repeat' first
    | with_reducible assumption | exact fun _ => rfl | (intro t a ht; beta_reduce) | (intro t ht; beta_reduce) | with_reducible apply next_nexts
    | with_reducible apply guardId_nexts | with_reducible apply fault_nexts | with_reducible apply recvCmd_keeps | with_reducible apply each_keepsS
    | with_reducible apply modLc_keeps | split
theorem execGetEndpointId_keeps (hub : Hub) (i3c : Bool) (h : Keeps kp s0 s) :
    Nexts kp s0 (execGetEndpointId hub i3c s) := by
  unfold execGetEndpointId
  repeat' first
    | with_reducible assumption | with_reducible apply next_nexts | with_reducible apply guardId_nexts | with_reducible apply fault_nexts
    | with_reducible apply mctpReply_keeps
theorem execGetMctpVersionSupport_keeps (hub : Hub) (i3c : Bool) (msgType : Nat) (h : Keeps kp s0 s) :
    Nexts kp s0 (execGetMctpVersionSupport hub i3c msgType s) := by
  unfold execGetMctpVersionSupport
  repeat' first
    | with_reducible assumption | with_reducible apply next_nexts | with_reducible apply guardId_nexts | with_reducible apply fault_nexts
    | with_reducible apply mctpReply_keeps
theorem execGetMessageTypeSupport_keeps (hub : Hub) (i3c : Bool) (h : Keeps kp s0 s) :
    Nexts kp s0 (execGetMessageTypeSupport hub i3c s) := by
  unfold execGetMessageTypeSupport
  repeat' first
    | with_reducible assumption | with_reducible apply next_nexts | with_reducible apply guardId_nexts | with_reducible apply fault_nexts
    | with_reducible apply mctpReply_keeps
theorem execGetPdrRepositoryInfo_keeps (hub : Hub) (h : Keeps kp s0 s) :
    Nexts kp s0 (execGetPdrRepositoryInfo hub s) := by
  unfold execGetPdrRepositoryInfo
  repeat' first
    | with_reducible assumption | with_reducible apply next_nexts | with_reducible apply guardId_nexts | with_reducible apply fault_nexts
    | with_reducible apply pldmReply_keeps
theorem execGetPdr_keeps (hub : Hub) (record : Nat) (h : Keeps kp s0 s) :
    Nexts kp s0 (execGetPdr hub record s) := by
  unfold execGetPdr
  repeat' first
    | with_reducible assumption | with_reducible apply next_nexts | with_reducible apply guardId_nexts | with_reducible apply fault_nexts
    | with_reducible apply pldmReply_keeps
theorem execGetPldmCommands_keeps (hub : Hub) (pldmType : Nat) (h : Keeps kp s0 s) :
    Nexts kp s0 (execGetPldmCommands hub pldmType s) := by
  unfold execGetPldmCommands
  repeat' first
    | with_reducible assumption | with_reducible apply next_nexts | with_reducible apply guardId_nexts | with_reducible apply fault_nexts
    | with_reducible apply pldmReply_keeps
theorem execGetPldmTypes_keeps (hub : Hub) (h : Keeps kp s0 s) :
    Nexts kp s0 (execGetPldmTypes hub s) := by
  unfold execGetPldmTypes
  repeat' first
    | with_reducible assumption | with_reducible apply next_nexts | with_reducible apply guardId_nexts | with_reducible apply fault_nexts
    | with_reducible apply pldmReply_keeps
theorem execGetPldmVersion_keeps (hub : Hub) (pldmType : Nat) (h : Keeps kp s0 s) :
    Nexts kp s0 (execGetPldmVersion hub pldmType s) := by
  unfold execGetPldmVersion
  repeat' first
    | with_reducible assumption | with_reducible apply next_nexts | with_reducible apply guardId_nexts | with_reducible apply fault_nexts
    | with_reducible apply pldmReply_keeps
theorem execGetSensorReading_keeps (hub : Hub) (sensor : Nat) (h : Keeps kp s0 s) :
    Nexts kp s0 (execGetSensorReading hub sensor s) := by
  unfold execGetSensorReading
  repeat' first
    | with_reducible assumption | with_reducible apply next_nexts | with_reducible apply guardId_nexts | with_reducible apply fault_nexts
    | with_reducible apply pldmReply_keeps
theorem execGetStateSensorReadings_keeps (hub : Hub) (sensor : Nat) (h : Keeps kp s0 s) :
    Nexts kp s0 (execGetStateSensorReadings hub sensor s) := by
  unfold execGetStateSensorReadings
  repeat' first
    | with_reducible assumption | with_reducible apply next_nexts | with_reducible apply guardId_nexts | with_reducible apply fault_nexts
    | with_reducible apply pldmReply_keeps
theorem execGetTid_keeps (hub : Hub) (h : Keeps kp s0 s) :
    Nexts kp s0 (execGetTid hub s) := by
  unfold execGetTid
  repeat' first
    | with_reducible assumption | with_reducible apply next_nexts | with_reducible apply guardId_nexts | with_reducible apply fault_nexts
    | with_reducible apply pldmReply_keeps
theorem execGetVendorDefinedMessageSupport_keeps (hub : Hub) (i3c : Bool) (h : Keeps kp s0 s) :
    Nexts kp s0 (execGetVendorDefinedMessageSupport hub i3c s) := by
  unfold execGetVendorDefinedMessageSupport
  repeat' first
    | with_reducible assumption | with_reducible apply next_nexts | with_reducible apply guardId_nexts | with_reducible apply fault_nexts
    | with_reducible apply mctpReply_keeps
theorem execGroupSet_keeps (rq : Req) (g : GroupTable) (h : Keeps kp s0 s) :
    Nexts kp s0 (execGroupSet rq g s) := by
  unfold execGroupSet
  repeat' first
    | with_reducible assumption | exact fun _ => rfl | (intro t a ht; beta_reduce) | (intro t ht; beta_reduce) | with_reducible apply next_nexts
    | with_reducible apply guardId_nexts | with_reducible apply fault_nexts | with_reducible apply command_keeps | with_reducible apply finish_keeps
    | with_reducible apply installGroup_keeps
    | (extract_lets +onlyGivenNames x; refine (fun (hx : Keeps kp s0 x) => ?_ : Keeps kp s0 x → _) ?_; (on_goal 2 => subst x); (on_goal 1 => clear_value x))
    | (extract_lets +onlyGivenNames x; clear_value x)
    | split
theorem execGstopJtag_keeps (hub : Hub) (h : Keeps kp s0 s) :
    Nexts kp s0 (execGstopJtag hub s) := by
  unfold execGstopJtag
  repeat' first
    | with_reducible assumption | with_reducible apply next_nexts | with_reducible apply guardId_nexts | with_reducible apply fault_nexts
    | with_reducible apply startStop_keeps | split
theorem execGstopRel_keeps (h0 : Hdr) (die count : Nat) (h : Keeps kp s0 s) :
    Nexts kp s0 (execGstopRel h0 die count s) := by
  unfold execGstopRel
  repeat' first
    | with_reducible assumption | exact fun _ => rfl | (intro t a ht; beta_reduce) | (intro t ht; beta_reduce) | with_reducible apply next_nexts
    | with_reducible apply guardId_nexts | with_reducible apply fault_nexts | with_reducible apply recvCmd_keeps | with_reducible apply modDbg_keeps
    | split
theorem execGstopReleaseActivation_keeps (h : Keeps kp s0 s) :
    Nexts kp s0 (execGstopReleaseActivation s) := by
  unfold execGstopReleaseActivation
  repeat' first
    | with_reducible assumption | exact fun _ => rfl | (intro t a ht; beta_reduce) | (intro t ht; beta_reduce) | with_reducible apply next_nexts
    | with_reducible apply guardId_nexts | with_reducible apply fault_nexts | with_reducible apply each_keepsS
    | with_reducible apply unholdDie_keeps | with_reducible apply modDie_keeps | with_reducible apply modCore_keeps
    | with_reducible apply lateBrk_keeps | with_reducible apply modDbg_keeps | with_reducible apply endOp_keeps | with_reducible apply record_keeps
    | split
theorem execGstopRelease_keeps (rq : Req) (resume : Nat) (h : Keeps kp s0 s) :
    Nexts kp s0 (execGstopRelease rq resume s) := by
  unfold execGstopRelease
  repeat' first
    | with_reducible assumption | exact fun _ => rfl | (intro t a ht; beta_reduce) | (intro t ht; beta_reduce) | with_reducible apply next_nexts
    | with_reducible apply guardId_nexts | with_reducible apply fault_nexts | with_reducible apply command_keeps | with_reducible apply finish_keeps
    | with_reducible apply record_keeps | with_reducible apply modDbg_keeps | with_reducible apply beginRun_keeps
    | with_reducible apply vatSend_keeps | split
theorem execGstop_keeps (rq : Req) (h : Keeps kp s0 s) :
    Nexts kp s0 (execGstop rq s) := by
  unfold execGstop
  repeat' first
    | with_reducible assumption | exact fun _ => rfl | (intro t a ht; beta_reduce) | (intro t ht; beta_reduce) | with_reducible apply next_nexts
    | with_reducible apply guardId_nexts | with_reducible apply fault_nexts | with_reducible apply command_keeps | with_reducible apply finish_keeps
    | with_reducible apply beginRun_keeps | with_reducible apply startStop_keeps | split
theorem execHangFreezeTimeout_keeps (core : Nat) (h : Keeps kp s0 s) :
    Nexts kp s0 (execHangFreezeTimeout core s) := by
  unfold execHangFreezeTimeout
  repeat' first
    | with_reducible assumption | with_reducible apply next_nexts | with_reducible apply guardId_nexts | with_reducible apply fault_nexts
    | with_reducible apply raiseFence_keeps | with_reducible apply modCore_keeps | split
theorem execHangWalk_keeps (h0 : Hdr) (w : WalkStep) (h : Keeps kp s0 s) :
    Nexts kp s0 (execHangWalk h0 w s) := by
  unfold execHangWalk
  repeat' first
    | with_reducible assumption | exact fun _ => rfl | (intro t a ht; beta_reduce) | (intro t ht; beta_reduce) | with_reducible apply next_nexts
    | with_reducible apply guardId_nexts | with_reducible apply fault_nexts | with_reducible apply whenActing_keeps
    | with_reducible apply recv_keeps | with_reducible apply walk_keeps | split
theorem execHangWatchdogExpiry_keeps (core : Nat) (h : Keeps kp s0 s) :
    Nexts kp s0 (execHangWatchdogExpiry core s) := by
  unfold execHangWatchdogExpiry
  repeat' first
    | with_reducible assumption | exact fun _ => rfl | (intro t a ht; beta_reduce) | (intro t ht; beta_reduce) | with_reducible apply next_nexts
    | with_reducible apply guardId_nexts | with_reducible apply fault_nexts | with_reducible apply whenActing_keeps
    | with_reducible apply walk_keeps | with_reducible apply modCore_keeps | split
theorem execHoursPersistTick_keeps (h : Keeps kp s0 s) :
    Nexts kp s0 (execHoursPersistTick s) := by
  unfold execHoursPersistTick
  repeat' first
    | with_reducible assumption | exact fun _ => rfl | (intro t a ht; beta_reduce) | (intro t ht; beta_reduce) | with_reducible apply next_nexts
    | with_reducible apply guardId_nexts | with_reducible apply fault_nexts | with_reducible apply modPkg_keeps
    | with_reducible apply mramWrite_keeps | split
theorem execI3cNotifyRead_keeps (h : Keeps kp s0 s) :
    Nexts kp s0 (execI3cNotifyRead s) := by
  unfold execI3cNotifyRead
  repeat' first
    | with_reducible assumption | with_reducible apply next_nexts | with_reducible apply guardId_nexts | with_reducible apply fault_nexts
    | with_reducible apply emit_keeps | with_reducible apply modSh_keeps | with_reducible apply resumePath_keeps | split
theorem execIdent_keeps (rq : Req) (h : Keeps kp s0 s) :
    Nexts kp s0 (execIdent rq s) := by
  unfold execIdent
  repeat' first
    | with_reducible assumption | exact fun _ => rfl | (intro t a ht; beta_reduce) | (intro t ht; beta_reduce) | with_reducible apply next_nexts
    | with_reducible apply guardId_nexts | with_reducible apply fault_nexts | with_reducible apply command_keeps | with_reducible apply finish_keeps
    | split
theorem execIdle_keeps (die port : Nat) (h : Keeps kp s0 s) :
    Nexts kp s0 (execIdle die port s) := by
  unfold execIdle
  repeat' first
    | with_reducible assumption | with_reducible apply next_nexts | with_reducible apply guardId_nexts | with_reducible apply fault_nexts
    | with_reducible apply control_keeps
theorem execInboundBridgedMessage_keeps (hub : Hub) (i3c : Bool) (payload : List Nat) (h : Keeps kp s0 s) :
    Nexts kp s0 (execInboundBridgedMessage hub i3c payload s) := by
  unfold execInboundBridgedMessage
  repeat' first
    | with_reducible assumption | with_reducible apply next_nexts | with_reducible apply guardId_nexts | with_reducible apply fault_nexts
    | with_reducible apply modVat_keeps | with_reducible apply agentCount_keeps | split
theorem execIntPostTick_keeps (h : Keeps kp s0 s) :
    Nexts kp s0 (execIntPostTick s) := by
  unfold execIntPostTick
  repeat' first
    | with_reducible assumption | exact fun _ => rfl | (intro t a ht; beta_reduce) | (intro t ht; beta_reduce) | with_reducible apply next_nexts
    | with_reducible apply guardId_nexts | with_reducible apply fault_nexts | with_reducible apply msi_keeps | with_reducible apply modSh_keeps
    | (extract_lets +onlyGivenNames x; refine (fun (hx : Keeps kp s0 x) => ?_ : Keeps kp s0 x → _) ?_; (on_goal 2 => subst x); (on_goal 1 => clear_value x))
    | (extract_lets +onlyGivenNames x; clear_value x)
    | split
theorem execIssueStep_keeps (core : Nat) (kind : StepKind) (seqA seqB : List Nat) (pressPoint : Bool) (h : Keeps kp s0 s) :
    Nexts kp s0 (execIssueStep core kind seqA seqB pressPoint s) := by
  unfold execIssueStep
  repeat' first
    | with_reducible assumption | exact fun _ => rfl | (intro t a ht; beta_reduce) | (intro t ht; beta_reduce) | with_reducible apply next_nexts
    | with_reducible apply guardId_nexts | with_reducible apply fault_nexts | with_reducible apply coreFail_keeps
    | with_reducible apply replayStep_keeps | with_reducible apply passPoint_keeps | with_reducible apply movePress_keeps
    | with_reducible apply noPlan_keeps | with_reducible apply completeStep_keeps | with_reducible apply modCore_keeps
    | (extract_lets +onlyGivenNames x; refine (fun (hx : Keeps kp s0 x) => ?_ : Keeps kp s0 x → _) ?_; (on_goal 2 => subst x); (on_goal 1 => clear_value x))
    | (extract_lets +onlyGivenNames x; clear_value x)
    | split
theorem execJoinPartialArrival_keeps (core ticket join fromLc : Nat) (acc value : Int) (poisoned : Bool) (h : Keeps kp s0 s) :
    Nexts kp s0 (execJoinPartialArrival core ticket join fromLc acc value poisoned s) := by
  unfold execJoinPartialArrival
  repeat' first
    | with_reducible assumption | exact fun _ => rfl | (intro t a ht; beta_reduce) | (intro t ht; beta_reduce) | with_reducible apply next_nexts
    | with_reducible apply guardId_nexts | with_reducible apply fault_nexts | with_reducible apply handshake_keeps
    | with_reducible apply breach_keeps | with_reducible apply modLc_keeps | with_reducible apply poisonUnit_keeps
    | with_reducible apply modTicket_keeps | with_reducible apply checkFail_keeps
    | (extract_lets +onlyGivenNames x; refine (fun (hx : Keeps kp s0 x) => ?_ : Keeps kp s0 x → _) ?_; (on_goal 2 => subst x); (on_goal 1 => clear_value x))
    | (extract_lets +onlyGivenNames x; clear_value x)
    | split
theorem execKeyEnroll_keeps (rq : Req) (cls keyId base count x y : Nat) (h : Keeps false s0 s) :
    Nexts false s0 (execKeyEnroll rq cls keyId base count x y s) := by
  unfold execKeyEnroll
  repeat' first
    | with_reducible assumption | exact fun _ => rfl | (intro t a ht; beta_reduce) | (intro t ht; beta_reduce) | with_reducible apply next_nexts
    | with_reducible apply guardId_nexts | with_reducible apply fault_nexts | with_reducible apply command_keeps | with_reducible apply finish_keeps
    | with_reducible apply modPkg_keeps | split | (intro g; split <;> rfl)
    | (extract_lets +onlyGivenNames x; refine (fun (hx : Keeps false s0 x) => ?_ : Keeps false s0 x → _) ?_; (on_goal 2 => subst x); (on_goal 1 => clear_value x))
    | (extract_lets +onlyGivenNames x; refine (fun (hx : Keeps false s0 x.1) => ?_ : Keeps false s0 x.1 → _) ?_; (on_goal 2 => subst x); (on_goal 1 => clear_value x))
    | (extract_lets +onlyGivenNames x; refine (fun (hx : Keeps false s0 x.2) => ?_ : Keeps false s0 x.2 → _) ?_; (on_goal 2 => subst x); (on_goal 1 => clear_value x))
    | (extract_lets +onlyGivenNames x; have : ∀ z, x z = x z := fun _ => rfl; clear this; subst x; beta_reduce)
    | (extract_lets +onlyGivenNames x; clear_value x)
    | extract_lets +onlyGivenNames x
theorem execKeyRevoke_keeps (rq : Req) (cls keyId : Nat) (h : Keeps false s0 s) :
    Nexts false s0 (execKeyRevoke rq cls keyId s) := by
  unfold execKeyRevoke
  repeat' first
    | with_reducible assumption | exact fun _ => rfl | (intro t a ht; beta_reduce) | (intro t ht; beta_reduce) | with_reducible apply next_nexts
    | with_reducible apply guardId_nexts | with_reducible apply fault_nexts | with_reducible apply command_keeps | with_reducible apply finish_keeps
    | with_reducible apply modPkg_keeps | with_reducible apply mirror_keeps | with_reducible apply modSh_keeps | split | (intro g; split <;> rfl)
    | (extract_lets +onlyGivenNames x; refine (fun (hx : Keeps false s0 x) => ?_ : Keeps false s0 x → _) ?_; (on_goal 2 => subst x); (on_goal 1 => clear_value x))
    | (extract_lets +onlyGivenNames x; refine (fun (hx : Keeps false s0 x.1) => ?_ : Keeps false s0 x.1 → _) ?_; (on_goal 2 => subst x); (on_goal 1 => clear_value x))
    | (extract_lets +onlyGivenNames x; refine (fun (hx : Keeps false s0 x.2) => ?_ : Keeps false s0 x.2 → _) ?_; (on_goal 2 => subst x); (on_goal 1 => clear_value x))
    | (extract_lets +onlyGivenNames x; have : ∀ z, x z = x z := fun _ => rfl; clear this; subst x; beta_reduce)
    | (extract_lets +onlyGivenNames x; clear_value x)
    | extract_lets +onlyGivenNames x
theorem execLadderCfg_keeps (rq : Req) (part n w : Nat) (h : Keeps kp s0 s) :
    Nexts kp s0 (execLadderCfg rq part n w s) := by
  unfold execLadderCfg
  repeat' first
    | with_reducible assumption | exact fun _ => rfl | (intro t a ht; beta_reduce) | (intro t ht; beta_reduce) | with_reducible apply next_nexts
    | with_reducible apply guardId_nexts | with_reducible apply fault_nexts | with_reducible apply command_keeps | with_reducible apply modSh_keeps
    | with_reducible apply finish_keeps | with_reducible apply mirror_keeps | with_reducible apply mramWrite_keeps | split
theorem execLaidCheckResolve_keeps (core ticket : Nat) (rows : List LaidRow) (csv : CsvData) (h : Keeps kp s0 s) :
    Nexts kp s0 (execLaidCheckResolve core ticket rows csv s) := by
  unfold execLaidCheckResolve
  repeat' first
    | with_reducible assumption | exact fun _ => rfl | (intro t a ht; beta_reduce) | (intro t ht; beta_reduce) | with_reducible apply next_nexts
    | with_reducible apply guardId_nexts | with_reducible apply fault_nexts | with_reducible apply checkFail_keeps
    | with_reducible apply partDone_keeps | with_reducible apply sendReport_keeps
    | (extract_lets +onlyGivenNames x; refine (fun (hx : Keeps kp s0 x) => ?_ : Keeps kp s0 x → _) ?_; (on_goal 2 => subst x); (on_goal 1 => clear_value x))
    | (extract_lets +onlyGivenNames x; clear_value x)
    | split
theorem execLaidRes_keeps (h0 : Hdr) (r : LaidReport) (h : Keeps kp s0 s) :
    Nexts kp s0 (execLaidRes h0 r s) := by
  unfold execLaidRes
  repeat' first
    | with_reducible assumption | exact fun _ => rfl | (intro t a ht; beta_reduce) | (intro t ht; beta_reduce) | with_reducible apply next_nexts
    | with_reducible apply guardId_nexts | with_reducible apply fault_nexts | with_reducible apply recvVat_keeps
    | with_reducible apply retryAll_keeps | with_reducible apply takeLaid_keeps | split
theorem execLaneBerWindowEnd_keeps (c : LaneCount) (optical : Bool) (h : Keeps kp s0 s) :
    Nexts kp s0 (execLaneBerWindowEnd c optical s) := by
  unfold execLaneBerWindowEnd
  repeat' first
    | with_reducible assumption | with_reducible apply next_nexts | with_reducible apply guardId_nexts | with_reducible apply fault_nexts
    | with_reducible apply agentCount_keeps | split
theorem execLatePlacement_keeps (lc spare : Nat) (h : Keeps kp s0 s) :
    Nexts kp s0 (execLatePlacement lc spare s) := by
  unfold execLatePlacement
  repeat' first
    | with_reducible assumption | exact fun _ => rfl | (intro t a ht; beta_reduce) | (intro t ht; beta_reduce) | with_reducible apply next_nexts
    | with_reducible apply guardId_nexts | with_reducible apply fault_nexts | with_reducible apply whenActing_keeps
    | with_reducible apply modSh_keeps | with_reducible apply orderFill_keeps
    | (extract_lets +onlyGivenNames x; refine (fun (hx : Keeps kp s0 x) => ?_ : Keeps kp s0 x → _) ?_; (on_goal 2 => subst x); (on_goal 1 => clear_value x))
    | (extract_lets +onlyGivenNames x; clear_value x)
    | split
theorem execLaunchArm_keeps (h0 : Hdr) (die ctx count : Nat) (h : Keeps kp s0 s) :
    Nexts kp s0 (execLaunchArm h0 die ctx count s) := by
  unfold execLaunchArm
  repeat' first
    | with_reducible assumption | exact fun _ => rfl | (intro t a ht; beta_reduce) | (intro t ht; beta_reduce) | with_reducible apply next_nexts
    | with_reducible apply guardId_nexts | with_reducible apply fault_nexts | with_reducible apply recvCmd_keeps
    | with_reducible apply launchRelease_keeps | with_reducible apply modDie_keeps | split
theorem execLaunchAt_keeps (rq : Req) (count : Nat) (h : Keeps kp s0 s) :
    Nexts kp s0 (execLaunchAt rq count s) := by
  unfold execLaunchAt
  repeat' first
    | with_reducible assumption | exact fun _ => rfl | (intro t a ht; beta_reduce) | (intro t ht; beta_reduce) | with_reducible apply next_nexts
    | with_reducible apply guardId_nexts | with_reducible apply fault_nexts | with_reducible apply command_keeps | with_reducible apply finish_keeps
    | with_reducible apply beginRun_keeps | with_reducible apply mirror_keeps | with_reducible apply modCtx_keeps | with_reducible apply each_keepsS
    | with_reducible apply vatSend_keeps
    | (extract_lets +onlyGivenNames x; refine (fun (hx : Keeps kp s0 x) => ?_ : Keeps kp s0 x → _) ?_; (on_goal 2 => subst x); (on_goal 1 => clear_value x))
    | (extract_lets +onlyGivenNames x; clear_value x)
    | split
theorem execLaunchRelease_keeps (die ctx : Nat) (h : Keeps kp s0 s) :
    Nexts kp s0 (execLaunchRelease die ctx s) := by
  unfold execLaunchRelease
  repeat' first
    | with_reducible assumption | with_reducible apply next_nexts | with_reducible apply guardId_nexts | with_reducible apply fault_nexts
    | with_reducible apply launchRelease_keeps | split
theorem execLeaseBlackoutEnd_keeps (h : Keeps kp s0 s) :
    Nexts kp s0 (execLeaseBlackoutEnd s) := by
  unfold execLeaseBlackoutEnd
  repeat' first
    | with_reducible assumption | with_reducible apply next_nexts | with_reducible apply guardId_nexts | with_reducible apply fault_nexts
    | with_reducible apply grantWaiting_keeps | with_reducible apply modSh_keeps
theorem execLeaseExpiry_keeps (die : Nat) (h : Keeps kp s0 s) :
    Nexts kp s0 (execLeaseExpiry die s) := by
  unfold execLeaseExpiry
  repeat' first
    | with_reducible assumption | with_reducible apply next_nexts | with_reducible apply guardId_nexts | with_reducible apply fault_nexts
    | with_reducible apply modBeater_keeps | with_reducible apply haltSlice_keeps | with_reducible apply toVat_keeps
    | with_reducible apply grantWaiting_keeps | with_reducible apply modSh_keeps | split
theorem execLeaseGrant_keeps (h0 : Hdr) (die kind expiry : Nat) (h : Keeps kp s0 s) :
    Nexts kp s0 (execLeaseGrant h0 die kind expiry s) := by
  unfold execLeaseGrant
  repeat' first
    | with_reducible assumption | exact fun _ => rfl | (intro t a ht; beta_reduce) | (intro t ht; beta_reduce) | with_reducible apply next_nexts
    | with_reducible apply guardId_nexts | with_reducible apply fault_nexts | with_reducible apply recvCmd_keeps | with_reducible apply modDie_keeps
    | with_reducible apply modBeater_keeps | with_reducible apply dieRing_keeps | with_reducible apply returnLease_keeps
    | (extract_lets +onlyGivenNames x; refine (fun (hx : Keeps kp s0 x) => ?_ : Keeps kp s0 x → _) ?_; (on_goal 2 => subst x); (on_goal 1 => clear_value x))
    | (extract_lets +onlyGivenNames x; clear_value x)
    | split
theorem execLeaseReq_keeps (h0 : Hdr) (kind : Nat) (h : Keeps kp s0 s) :
    Nexts kp s0 (execLeaseReq h0 kind s) := by
  unfold execLeaseReq
  repeat' first
    | with_reducible assumption | exact fun _ => rfl | (intro t a ht; beta_reduce) | (intro t ht; beta_reduce) | with_reducible apply next_nexts
    | with_reducible apply guardId_nexts | with_reducible apply fault_nexts | with_reducible apply recvVat_keeps
    | with_reducible apply grantWaiting_keeps | with_reducible apply modSh_keeps | with_reducible apply grantLease_keeps
    | with_reducible apply refuseLease_keeps | split
theorem execLeaseRetryTick_keeps (die : Nat) (h : Keeps kp s0 s) :
    Nexts kp s0 (execLeaseRetryTick die s) := by
  unfold execLeaseRetryTick
  repeat' first
    | with_reducible assumption | with_reducible apply next_nexts | with_reducible apply guardId_nexts | with_reducible apply fault_nexts
    | with_reducible apply toVat_keeps | with_reducible apply askLease_keeps | split
theorem execLeaseReturn_keeps (h0 : Hdr) (h : Keeps kp s0 s) :
    Nexts kp s0 (execLeaseReturn h0 s) := by
  unfold execLeaseReturn
  repeat' first
    | with_reducible assumption | exact fun _ => rfl | (intro t a ht; beta_reduce) | (intro t ht; beta_reduce) | with_reducible apply next_nexts
    | with_reducible apply guardId_nexts | with_reducible apply fault_nexts | with_reducible apply recvVat_keeps
    | with_reducible apply grantWaiting_keeps | with_reducible apply modSh_keeps | split
theorem execLicenceInstall_keeps (rq : Req) (raw : List Byte) (h : Keeps kp s0 s) :
    Nexts kp s0 (execLicenceInstall rq raw s) := by
  unfold execLicenceInstall
  repeat' first
    | with_reducible assumption | exact fun _ => rfl | (intro t a ht; beta_reduce) | (intro t ht; beta_reduce) | with_reducible apply next_nexts
    | with_reducible apply guardId_nexts | with_reducible apply fault_nexts | with_reducible apply command_keeps | with_reducible apply refuse_keeps
    | with_reducible apply record_keeps | with_reducible apply finish_keeps | with_reducible apply modPkg_keeps
    | (extract_lets +onlyGivenNames x; refine (fun (hx : Keeps kp s0 x) => ?_ : Keeps kp s0 x → _) ?_; (on_goal 2 => subst x); (on_goal 1 => clear_value x))
    | (extract_lets +onlyGivenNames x; clear_value x)
    | split
theorem execLicenceRead_keeps (rq : Req) (h : Keeps kp s0 s) :
    Nexts kp s0 (execLicenceRead rq s) := by
  unfold execLicenceRead
  repeat' first
    | with_reducible assumption | exact fun _ => rfl | (intro t a ht; beta_reduce) | (intro t ht; beta_reduce) | with_reducible apply next_nexts
    | with_reducible apply guardId_nexts | with_reducible apply fault_nexts | with_reducible apply command_keeps | with_reducible apply finish_keeps
    | split
theorem execLifecycleSet_keeps (rq : Req) (state : Nat) (h : Keeps false s0 s) :
    Nexts false s0 (execLifecycleSet rq state s) := by
  unfold execLifecycleSet
  repeat' first
    | with_reducible assumption | exact fun _ => rfl | (intro t a ht; beta_reduce) | (intro t ht; beta_reduce) | with_reducible apply next_nexts
    | with_reducible apply guardId_nexts | with_reducible apply fault_nexts | with_reducible apply command_keeps | with_reducible apply refuse_keeps
    | with_reducible apply finish_keeps | with_reducible apply modPkg_keeps | with_reducible apply record_keeps
    | with_reducible apply packageReset_keeps | split | (intro g; split <;> rfl)
    | (extract_lets +onlyGivenNames x; refine (fun (hx : Keeps false s0 x) => ?_ : Keeps false s0 x → _) ?_; (on_goal 2 => subst x); (on_goal 1 => clear_value x))
    | (extract_lets +onlyGivenNames x; refine (fun (hx : Keeps false s0 x.1) => ?_ : Keeps false s0 x.1 → _) ?_; (on_goal 2 => subst x); (on_goal 1 => clear_value x))
    | (extract_lets +onlyGivenNames x; refine (fun (hx : Keeps false s0 x.2) => ?_ : Keeps false s0 x.2 → _) ?_; (on_goal 2 => subst x); (on_goal 1 => clear_value x))
    | (extract_lets +onlyGivenNames x; have : ∀ z, x z = x z := fun _ => rfl; clear this; subst x; beta_reduce)
    | (extract_lets +onlyGivenNames x; clear_value x)
    | extract_lets +onlyGivenNames x
theorem execLinkDown_keeps (die port : Nat) (h : Keeps kp s0 s) :
    Nexts kp s0 (execLinkDown die port s) := by
  unfold execLinkDown
  repeat' first
    | with_reducible assumption | with_reducible apply next_nexts | with_reducible apply guardId_nexts | with_reducible apply fault_nexts
    | with_reducible apply declareDown_keeps
theorem execLinkQualDone_keeps (lanes : List LaneCount) (h : Keeps kp s0 s) :
    Nexts kp s0 (execLinkQualDone lanes s) := by
  unfold execLinkQualDone
  repeat' first
    | with_reducible assumption | exact fun _ => rfl | (intro t a ht; beta_reduce) | (intro t ht; beta_reduce) | with_reducible apply next_nexts
    | with_reducible apply guardId_nexts | with_reducible apply fault_nexts | with_reducible apply endOp_keeps | with_reducible apply modPkg_keeps
    | with_reducible apply noteLanes_keeps | split
theorem execLinkQualRead_keeps (rq : Req) (first count : Nat) (h : Keeps kp s0 s) :
    Nexts kp s0 (execLinkQualRead rq first count s) := by
  unfold execLinkQualRead
  repeat' first
    | with_reducible assumption | exact fun _ => rfl | (intro t a ht; beta_reduce) | (intro t ht; beta_reduce) | with_reducible apply next_nexts
    | with_reducible apply guardId_nexts | with_reducible apply fault_nexts | with_reducible apply command_keeps | with_reducible apply finish_keeps
    | split
theorem execLinkQual_keeps (rq : Req) (h : Keeps kp s0 s) :
    Nexts kp s0 (execLinkQual rq s) := by
  unfold execLinkQual
  repeat' first
    | with_reducible assumption | exact fun _ => rfl | (intro t a ht; beta_reduce) | (intro t ht; beta_reduce) | with_reducible apply next_nexts
    | with_reducible apply guardId_nexts | with_reducible apply fault_nexts | with_reducible apply command_keeps | with_reducible apply finish_keeps
    | with_reducible apply emit_keeps | with_reducible apply beginRun_keeps | split
theorem execLinkSilenceTimeout_keeps (die port : Nat) (h : Keeps kp s0 s) :
    Nexts kp s0 (execLinkSilenceTimeout die port s) := by
  unfold execLinkSilenceTimeout
  repeat' first
    | with_reducible assumption | with_reducible apply next_nexts | with_reducible apply guardId_nexts | with_reducible apply fault_nexts
    | with_reducible apply declareDown_keeps
theorem execLivePeriod_keeps (h : Keeps kp s0 s) :
    Nexts kp s0 (execLivePeriod s) := by
  unfold execLivePeriod
  repeat' first
    | with_reducible assumption | with_reducible apply next_nexts | with_reducible apply guardId_nexts | with_reducible apply fault_nexts
    | with_reducible apply feltSend_keeps | split
theorem execLiveTimeout_keeps (h : Keeps kp s0 s) :
    Nexts kp s0 (execLiveTimeout s) := by
  unfold execLiveTimeout
  repeat' first
    | with_reducible assumption | exact fun _ => rfl | (intro t a ht; beta_reduce) | (intro t ht; beta_reduce) | with_reducible apply next_nexts
    | with_reducible apply guardId_nexts | with_reducible apply fault_nexts | with_reducible apply modSh_keeps
    | with_reducible apply sendDepose_keeps | with_reducible apply feltSend_keeps
    | (extract_lets +onlyGivenNames x; refine (fun (hx : Keeps kp s0 x) => ?_ : Keeps kp s0 x → _) ?_; (on_goal 2 => subst x); (on_goal 1 => clear_value x))
    | (extract_lets +onlyGivenNames x; clear_value x)
    | split
theorem execLive_keeps (h0 : Hdr) (die : Nat) (h : Keeps kp s0 s) :
    Nexts kp s0 (execLive h0 die s) := by
  unfold execLive
  repeat' first
    | with_reducible assumption | exact fun _ => rfl | (intro t a ht; beta_reduce) | (intro t ht; beta_reduce) | with_reducible apply next_nexts
    | with_reducible apply guardId_nexts | with_reducible apply fault_nexts | with_reducible apply recvCmd_keeps | with_reducible apply modDie_keeps
    | with_reducible apply unholdDie_keeps | with_reducible apply modVat_keeps
    | (extract_lets +onlyGivenNames x; refine (fun (hx : Keeps kp s0 x) => ?_ : Keeps kp s0 x → _) ?_; (on_goal 2 => subst x); (on_goal 1 => clear_value x))
    | (extract_lets +onlyGivenNames x; clear_value x)
    | split
theorem execManifest_keeps (h0 : Hdr) (ctx : Nat) (man : Manifest) (h : Keeps kp s0 s) :
    Nexts kp s0 (execManifest h0 ctx man s) := by
  unfold execManifest
  repeat' first
    | with_reducible assumption | exact fun _ => rfl | (intro t a ht; beta_reduce) | (intro t ht; beta_reduce) | with_reducible apply next_nexts
    | with_reducible apply guardId_nexts | with_reducible apply fault_nexts | with_reducible apply recvCmd_keeps | with_reducible apply modCtx_keeps
    | split
theorem execMeshAccessAtFence_keeps (die : Nat) (reply : Bool) (h : Keeps kp s0 s) :
    Nexts kp s0 (execMeshAccessAtFence die reply s) := by
  unfold execMeshAccessAtFence
  repeat' first
    | with_reducible assumption | exact fun _ => rfl | (intro t a ht; beta_reduce) | (intro t ht; beta_reduce) | with_reducible apply next_nexts
    | with_reducible apply guardId_nexts | with_reducible apply fault_nexts | with_reducible apply modDie_keeps | with_reducible apply emit_keeps
    | (extract_lets +onlyGivenNames x; refine (fun (hx : Keeps kp s0 x) => ?_ : Keeps kp s0 x → _) ?_; (on_goal 2 => subst x); (on_goal 1 => clear_value x))
    | (extract_lets +onlyGivenNames x; clear_value x)
    | split
theorem execMessageInterruptAccepted_keeps (h : Keeps kp s0 s) :
    Nexts kp s0 (execMessageInterruptAccepted s) := by
  unfold execMessageInterruptAccepted
  repeat' first
    | with_reducible assumption | with_reducible apply next_nexts | with_reducible apply guardId_nexts | with_reducible apply fault_nexts
    | with_reducible apply modSh_keeps | with_reducible apply mirror_keeps | split
theorem execMgmtLinkDown_keeps (hub : Hub) (h : Keeps kp s0 s) :
    Nexts kp s0 (execMgmtLinkDown hub s) := by
  unfold execMgmtLinkDown
  repeat' first
    | with_reducible assumption | with_reducible apply next_nexts | with_reducible apply guardId_nexts | with_reducible apply fault_nexts
    | with_reducible apply vatCount_keeps | with_reducible apply modVat_keeps
theorem execMgmtLinkUp_keeps (hub : Hub) (h : Keeps kp s0 s) :
    Nexts kp s0 (execMgmtLinkUp hub s) := by
  unfold execMgmtLinkUp
  repeat' first
    | with_reducible assumption | exact fun _ => rfl | (intro t a ht; beta_reduce) | (intro t ht; beta_reduce) | with_reducible apply next_nexts
    | with_reducible apply guardId_nexts | with_reducible apply fault_nexts | with_reducible apply each_keepsS | with_reducible apply emit_keeps
    | with_reducible apply modVat_keeps | with_reducible apply resumePath_keeps | with_reducible apply flushMgmt_keeps | split
theorem execMirrorSynced_keeps (h : Keeps kp s0 s) :
    Nexts kp s0 (execMirrorSynced s) := by
  unfold execMirrorSynced
  repeat' first
    | with_reducible assumption | with_reducible apply next_nexts | with_reducible apply guardId_nexts | with_reducible apply fault_nexts
    | with_reducible apply modVat_keeps | with_reducible apply record_keeps | split
theorem execMirror_keeps (h0 : Hdr) (seq : Nat) (h : Keeps kp s0 s) :
    Nexts kp s0 (execMirror h0 seq s) := by
  unfold execMirror
  repeat' first
    | with_reducible assumption | exact fun _ => rfl | (intro t a ht; beta_reduce) | (intro t ht; beta_reduce) | with_reducible apply next_nexts
    | with_reducible apply guardId_nexts | with_reducible apply fault_nexts | with_reducible apply recvCmd_keeps | with_reducible apply modVat_keeps
    | with_reducible apply startSwitch_keeps | with_reducible apply endSwitchWait_keeps
    | (extract_lets +onlyGivenNames x; refine (fun (hx : Keeps kp s0 x) => ?_ : Keeps kp s0 x → _) ?_; (on_goal 2 => subst x); (on_goal 1 => clear_value x))
    | (extract_lets +onlyGivenNames x; clear_value x)
    | split
theorem execMsiAcceptTimeout_keeps (h : Keeps kp s0 s) :
    Nexts kp s0 (execMsiAcceptTimeout s) := by
  unfold execMsiAcceptTimeout
  repeat' first
    | with_reducible assumption | with_reducible apply next_nexts | with_reducible apply guardId_nexts | with_reducible apply fault_nexts
    | with_reducible apply vatCountRecorded_keeps | with_reducible apply modSh_keeps | split
theorem execMtpStallLoRead_keeps (a : Access) (h : Keeps kp s0 s) :
    Nexts kp s0 (execMtpStallLoRead a s) := by
  unfold execMtpStallLoRead
  repeat' first
    | with_reducible assumption | with_reducible apply next_nexts | with_reducible apply guardId_nexts | with_reducible apply fault_nexts
    | with_reducible apply accessRead_keeps
theorem execMtpWinCmdClose_keeps (a : Access) (v : Word) (h : Keeps kp s0 s) :
    Nexts kp s0 (execMtpWinCmdClose a v s) := by
  unfold execMtpWinCmdClose
  repeat' first
    | with_reducible assumption | with_reducible apply next_nexts | with_reducible apply guardId_nexts | with_reducible apply fault_nexts
    | with_reducible apply accessWrite_keeps
theorem execMtpWinCmdOpen_keeps (a : Access) (v : Word) (h : Keeps kp s0 s) :
    Nexts kp s0 (execMtpWinCmdOpen a v s) := by
  unfold execMtpWinCmdOpen
  repeat' first
    | with_reducible assumption | with_reducible apply next_nexts | with_reducible apply guardId_nexts | with_reducible apply fault_nexts
    | with_reducible apply accessWrite_keeps
theorem execMtpWmOperRead_keeps (a : Access) (h : Keeps kp s0 s) :
    Nexts kp s0 (execMtpWmOperRead a s) := by
  unfold execMtpWmOperRead
  repeat' first
    | with_reducible assumption | with_reducible apply next_nexts | with_reducible apply guardId_nexts | with_reducible apply fault_nexts
    | with_reducible apply accessRead_keeps
theorem execNmi_keeps (h0 : Hdr) (die source : Nat) (h : Keeps kp s0 s) :
    Nexts kp s0 (execNmi h0 die source s) := by
  unfold execNmi
  repeat' first
    | with_reducible assumption | exact fun _ => rfl | (intro t a ht; beta_reduce) | (intro t ht; beta_reduce) | with_reducible apply next_nexts
    | with_reducible apply guardId_nexts | with_reducible apply fault_nexts | with_reducible apply ack_keeps | with_reducible apply recv_keeps
    | with_reducible apply emit_keeps | split
theorem execNoStandbyReset_keeps (h : Keeps kp s0 s) :
    Nexts kp s0 (execNoStandbyReset s) := by
  unfold execNoStandbyReset
  repeat' first
    | with_reducible assumption | with_reducible apply next_nexts | with_reducible apply guardId_nexts | with_reducible apply fault_nexts
    | with_reducible apply packageReset_keeps | with_reducible apply modSh_keeps | split
theorem execNotifyRelay_keeps (h0 : Hdr) (number : Nat) (h : Keeps kp s0 s) :
    Nexts kp s0 (execNotifyRelay h0 number s) := by
  unfold execNotifyRelay
  repeat' first
    | with_reducible assumption | exact fun _ => rfl | (intro t a ht; beta_reduce) | (intro t ht; beta_reduce) | with_reducible apply next_nexts
    | with_reducible apply guardId_nexts | with_reducible apply fault_nexts | with_reducible apply recvCmd_keeps | with_reducible apply emit_keeps
    | with_reducible apply modSh_keeps | split
theorem execNotifySourceSecondEnd_keeps (source : Nat) (h : Keeps kp s0 s) :
    Nexts kp s0 (execNotifySourceSecondEnd source s) := by
  unfold execNotifySourceSecondEnd
  repeat' first
    | with_reducible assumption | with_reducible apply next_nexts | with_reducible apply guardId_nexts | with_reducible apply fault_nexts
    | with_reducible apply modSh_keeps | with_reducible apply sendNote_keeps | split
theorem execOosEnter_keeps (rq : Req) (h : Keeps kp s0 s) :
    Nexts kp s0 (execOosEnter rq s) := by
  unfold execOosEnter
  repeat' first
    | with_reducible assumption | exact fun _ => rfl | (intro t a ht; beta_reduce) | (intro t ht; beta_reduce) | with_reducible apply next_nexts
    | with_reducible apply guardId_nexts | with_reducible apply fault_nexts | with_reducible apply command_keeps | with_reducible apply finish_keeps
    | with_reducible apply enterOos_keeps | split
theorem execPaceSample_keeps (die monitor raw : Nat) (h : Keeps kp s0 s) :
    Nexts kp s0 (execPaceSample die monitor raw s) := by
  unfold execPaceSample
  repeat' first
    | with_reducible assumption | exact fun _ => rfl | (intro t a ht; beta_reduce) | (intro t ht; beta_reduce) | with_reducible apply next_nexts
    | with_reducible apply guardId_nexts | with_reducible apply fault_nexts | with_reducible apply modCal_keeps
    | with_reducible apply agentCount_keeps
    | (extract_lets +onlyGivenNames x; refine (fun (hx : Keeps kp s0 x) => ?_ : Keeps kp s0 x → _) ?_; (on_goal 2 => subst x); (on_goal 1 => clear_value x))
    | (extract_lets +onlyGivenNames x; clear_value x)
    | split
theorem execPairDigest_keeps (h0 : Hdr) (r : PairReport) (h : Keeps kp s0 s) :
    Nexts kp s0 (execPairDigest h0 r s) := by
  unfold execPairDigest
  repeat' first
    | with_reducible assumption | exact fun _ => rfl | (intro t a ht; beta_reduce) | (intro t ht; beta_reduce) | with_reducible apply next_nexts
    | with_reducible apply guardId_nexts | with_reducible apply fault_nexts | with_reducible apply retryAll_keeps
    | with_reducible apply takePair_keeps | with_reducible apply recvVat_keeps | split
theorem execPartRelease_keeps (rq : Req) (part : Nat) (h : Keeps kp s0 s) :
    Nexts kp s0 (execPartRelease rq part s) := by
  unfold execPartRelease
  repeat' first
    | with_reducible assumption | exact fun _ => rfl | (intro t a ht; beta_reduce) | (intro t ht; beta_reduce) | with_reducible apply next_nexts
    | with_reducible apply guardId_nexts | with_reducible apply fault_nexts | with_reducible apply command_keeps | with_reducible apply modPkg_keeps
    | with_reducible apply each_keepsS | with_reducible apply unholdDie_keeps | with_reducible apply lowerFence_keeps
    | with_reducible apply finish_keeps | with_reducible apply mirror_keeps | split
theorem execPartialTxnTimeout_keeps (die src cls : Nat) (h : Keeps kp s0 s) :
    Nexts kp s0 (execPartialTxnTimeout die src cls s) := by
  unfold execPartialTxnTimeout
  repeat' first
    | with_reducible assumption | with_reducible apply next_nexts | with_reducible apply guardId_nexts | with_reducible apply fault_nexts
    | with_reducible apply modFelt_keeps
theorem execPartitionAssignment_keeps (die part : Nat) (h : Keeps kp s0 s) :
    Nexts kp s0 (execPartitionAssignment die part s) := by
  unfold execPartitionAssignment
  repeat' first
    | with_reducible assumption | exact fun _ => rfl | (intro t a ht; beta_reduce) | (intro t ht; beta_reduce) | with_reducible apply next_nexts
    | with_reducible apply guardId_nexts | with_reducible apply fault_nexts | with_reducible apply mirror_keeps | with_reducible apply modPkg_keeps
    | split
theorem execPayloadHashDone_keeps (die : Nat) (h : Keeps kp s0 s) :
    Nexts kp s0 (execPayloadHashDone die s) := by
  unfold execPayloadHashDone
  repeat' first
    | with_reducible assumption | exact fun _ => rfl | (intro t a ht; beta_reduce) | (intro t ht; beta_reduce) | with_reducible apply next_nexts
    | with_reducible apply guardId_nexts | with_reducible apply fault_nexts | with_reducible apply staged_keeps
    | with_reducible apply modStaging_keeps | with_reducible apply distAnswer_keeps | with_reducible apply agentCount_keeps
    | (extract_lets +onlyGivenNames x; refine (fun (hx : Keeps kp s0 x) => ?_ : Keeps kp s0 x → _) ?_; (on_goal 2 => subst x); (on_goal 1 => clear_value x))
    | (extract_lets +onlyGivenNames x; clear_value x)
    | split
theorem execPlannedReplaceSpareTimeout_keeps (lc : Nat) (h : Keeps kp s0 s) :
    Nexts kp s0 (execPlannedReplaceSpareTimeout lc s) := by
  unfold execPlannedReplaceSpareTimeout
  repeat' first
    | with_reducible assumption | exact fun _ => rfl | (intro t a ht; beta_reduce) | (intro t ht; beta_reduce) | with_reducible apply next_nexts
    | with_reducible apply guardId_nexts | with_reducible apply fault_nexts | with_reducible apply whenActing_keeps
    | with_reducible apply beginReplace_keeps | with_reducible apply replaceStuck_keeps | split
theorem execPoolBlockReturn_keeps (die : Nat) (h : Keeps kp s0 s) :
    Nexts kp s0 (execPoolBlockReturn die s) := by
  unfold execPoolBlockReturn
  repeat' first
    | with_reducible assumption | exact fun _ => rfl | (intro t a ht; beta_reduce) | (intro t ht; beta_reduce) | with_reducible apply next_nexts
    | with_reducible apply guardId_nexts | with_reducible apply fault_nexts | with_reducible apply lendPool_keeps | with_reducible apply toVat_keeps
    | with_reducible apply mirror_keeps | with_reducible apply modSh_keeps
    | (extract_lets +onlyGivenNames x; refine (fun (hx : Keeps kp s0 x) => ?_ : Keeps kp s0 x → _) ?_; (on_goal 2 => subst x); (on_goal 1 => clear_value x))
    | (extract_lets +onlyGivenNames x; clear_value x)
    | split
theorem execPoolLoan_keeps (h0 : Hdr) (die : Nat) (block : Option Nat) (h : Keeps kp s0 s) :
    Nexts kp s0 (execPoolLoan h0 die block s) := by
  unfold execPoolLoan
  repeat' first
    | with_reducible assumption | exact fun _ => rfl | (intro t a ht; beta_reduce) | (intro t ht; beta_reduce) | with_reducible apply next_nexts
    | with_reducible apply guardId_nexts | with_reducible apply fault_nexts | with_reducible apply recvVat_keeps
    | with_reducible apply lendPool_keeps | with_reducible apply modSh_keeps | with_reducible apply recvCmd_keeps
    | with_reducible apply retryAll_keeps | with_reducible apply settleAll_keeps | with_reducible apply askPool_keeps
    | with_reducible apply servePool_keeps | with_reducible apply modDie_keeps | split
theorem execPowerCycleReqRepeat_keeps (h : Keeps kp s0 s) :
    Nexts kp s0 (execPowerCycleReqRepeat s) := by
  unfold execPowerCycleReqRepeat
  repeat' first
    | with_reducible assumption | with_reducible apply next_nexts | with_reducible apply guardId_nexts | with_reducible apply fault_nexts
    | with_reducible apply sendPowerReq_keeps | split
theorem execPowerLoss_keeps (h : Keeps kp s0 s) : Nexts kp s0 (execPowerLoss s) :=
  ⟨by intro u e; cases e; exact { loseRetention_keeps (holdReset_keeps h) with factory := (loseRetention_keeps (holdReset_keeps h)).factory }⟩
theorem execProbePeriod_keeps (die port : Nat) (h : Keeps kp s0 s) :
    Nexts kp s0 (execProbePeriod die port s) := by
  unfold execProbePeriod
  repeat' first
    | with_reducible assumption | with_reducible apply next_nexts | with_reducible apply guardId_nexts | with_reducible apply fault_nexts
    | with_reducible apply draw_keeps | with_reducible apply control_keeps | with_reducible apply modPort_keeps | split
theorem execProbe_keeps (die port value : Nat) (h : Keeps kp s0 s) :
    Nexts kp s0 (execProbe die port value s) := by
  unfold execProbe
  repeat' first
    | with_reducible assumption | with_reducible apply next_nexts | with_reducible apply guardId_nexts | with_reducible apply fault_nexts
    | with_reducible apply control_keeps
theorem execProfClear_keeps (rq : Req) (die : Nat) (h : Keeps kp s0 s) :
    Nexts kp s0 (execProfClear rq die s) := by
  unfold execProfClear
  repeat' first
    | with_reducible assumption | exact fun _ => rfl | (intro t a ht; beta_reduce) | (intro t ht; beta_reduce) | with_reducible apply next_nexts
    | with_reducible apply guardId_nexts | with_reducible apply fault_nexts | with_reducible apply command_keeps | with_reducible apply each_keepsS
    | with_reducible apply modDie_keeps | with_reducible apply finish_keeps | split
theorem execProfRead_keeps (rq : Req) (die first count : Nat) (h : Keeps kp s0 s) :
    Nexts kp s0 (execProfRead rq die first count s) := by
  unfold execProfRead
  repeat' first
    | with_reducible assumption | exact fun _ => rfl | (intro t a ht; beta_reduce) | (intro t ht; beta_reduce) | with_reducible apply next_nexts
    | with_reducible apply guardId_nexts | with_reducible apply fault_nexts | with_reducible apply command_keeps | with_reducible apply finish_keeps
    | split
theorem execReact_keeps (h0 : Hdr) (die : Nat) (r : Reaction) (h : Keeps kp s0 s) :
    Nexts kp s0 (execReact h0 die r s) := by
  unfold execReact
  repeat' first
    | with_reducible assumption | exact fun _ => rfl | (intro t a ht; beta_reduce) | (intro t ht; beta_reduce) | with_reducible apply next_nexts
    | with_reducible apply guardId_nexts | with_reducible apply fault_nexts | with_reducible apply recvCmd_keeps
    | with_reducible apply agentReact_keeps | split
theorem execReamAreaSet_keeps (rq : Req) (die off len : Nat) (h : Keeps kp s0 s) :
    Nexts kp s0 (execReamAreaSet rq die off len s) := by
  unfold execReamAreaSet
  repeat' first
    | with_reducible assumption | exact fun _ => rfl | (intro t a ht; beta_reduce) | (intro t ht; beta_reduce) | with_reducible apply next_nexts
    | with_reducible apply guardId_nexts | with_reducible apply fault_nexts | with_reducible apply command_keeps | with_reducible apply finish_keeps
    | with_reducible apply mirror_keeps | with_reducible apply closeAreaWins_keeps | with_reducible apply modPkg_keeps | split
theorem execRecClear_keeps (rq : Req) (scope : Nat) (h : Keeps kp s0 s) :
    Nexts kp s0 (execRecClear rq scope s) := by
  unfold execRecClear
  repeat' first
    | with_reducible assumption | exact fun _ => rfl | (intro t a ht; beta_reduce) | (intro t ht; beta_reduce) | with_reducible apply next_nexts
    | with_reducible apply guardId_nexts | with_reducible apply fault_nexts | with_reducible apply command_keeps | with_reducible apply refuse_keeps
    | with_reducible apply finish_keeps | with_reducible apply recClear_keeps | with_reducible apply beginRun_keeps | split
theorem execRecRead_keeps (rq : Req) (area first count : Nat) (h : Keeps kp s0 s) :
    Nexts kp s0 (execRecRead rq area first count s) := by
  unfold execRecRead
  repeat' first
    | with_reducible assumption | exact fun _ => rfl | (intro t a ht; beta_reduce) | (intro t ht; beta_reduce) | with_reducible apply next_nexts
    | with_reducible apply guardId_nexts | with_reducible apply fault_nexts | with_reducible apply command_keeps | with_reducible apply finish_keeps
    | split
theorem execReclaimAutoSnapTimeout_keeps (ctx : Nat) (h : Keeps kp s0 s) :
    Nexts kp s0 (execReclaimAutoSnapTimeout ctx s) := by
  unfold execReclaimAutoSnapTimeout
  repeat' first
    | with_reducible assumption | exact fun _ => rfl | (intro t a ht; beta_reduce) | (intro t ht; beta_reduce) | with_reducible apply next_nexts
    | with_reducible apply guardId_nexts | with_reducible apply fault_nexts | with_reducible apply whenActing_keeps
    | with_reducible apply autoSnap_keeps
    | (extract_lets +onlyGivenNames x; refine (fun (hx : Keeps kp s0 x) => ?_ : Keeps kp s0 x → _) ?_; (on_goal 2 => subst x); (on_goal 1 => clear_value x))
    | (extract_lets +onlyGivenNames x; clear_value x)
    | split
theorem execReclaimDeadline_keeps (h : Keeps kp s0 s) :
    Nexts kp s0 (execReclaimDeadline s) := by
  unfold execReclaimDeadline
  repeat' first
    | with_reducible assumption | exact fun _ => rfl | (intro t a ht; beta_reduce) | (intro t ht; beta_reduce) | with_reducible apply next_nexts
    | with_reducible apply guardId_nexts | with_reducible apply fault_nexts | with_reducible apply whenActing_keeps
    | with_reducible apply reclaimDone_keeps | with_reducible apply each_keepsS | with_reducible apply startTeardown_keeps
    | with_reducible apply failSnap_keeps | split
theorem execReclaim_keeps (rq : Req) (parts deadline : Nat) (h : Keeps kp s0 s) :
    Nexts kp s0 (execReclaim rq parts deadline s) := by
  unfold execReclaim
  repeat' first
    | with_reducible assumption | exact fun _ => rfl | (intro t a ht; beta_reduce) | (intro t ht; beta_reduce) | with_reducible apply next_nexts
    | with_reducible apply guardId_nexts | with_reducible apply fault_nexts | with_reducible apply command_keeps | with_reducible apply finish_keeps
    | with_reducible apply modPkg_keeps | with_reducible apply each_keepsS | with_reducible apply record_keeps | with_reducible apply emit_keeps
    | with_reducible apply modCtx_keeps | with_reducible apply reclaimDone_keeps | with_reducible apply beginRun_keeps
    | with_reducible apply mirror_keeps | split
theorem execRecordWriteDone_keeps (hub : Hub) (ok retryOk : Bool) (h : Keeps kp s0 s) :
    Nexts kp s0 (execRecordWriteDone hub ok retryOk s) := by
  unfold execRecordWriteDone
  repeat' first
    | with_reducible assumption | with_reducible apply next_nexts | with_reducible apply guardId_nexts | with_reducible apply fault_nexts
    | with_reducible apply modVat_keeps | with_reducible apply checkHead_keeps | with_reducible apply storeRec_keeps
    | with_reducible apply written_keeps | with_reducible apply refill_keeps | with_reducible apply vatCount_keeps
    | with_reducible apply markSingle_keeps | split
theorem execReelCmp_keeps (h0 : Hdr) (die count : Nat) (h : Keeps kp s0 s) :
    Nexts kp s0 (execReelCmp h0 die count s) := by
  unfold execReelCmp
  repeat' first
    | with_reducible assumption | exact fun _ => rfl | (intro t a ht; beta_reduce) | (intro t ht; beta_reduce) | with_reducible apply next_nexts
    | with_reducible apply guardId_nexts | with_reducible apply fault_nexts | with_reducible apply recv_keeps | with_reducible apply modDie_keeps
    | with_reducible apply agentCount_keeps | with_reducible apply correctReel_keeps
    | (extract_lets +onlyGivenNames x; refine (fun (hx : Keeps kp s0 x) => ?_ : Keeps kp s0 x → _) ?_; (on_goal 2 => subst x); (on_goal 1 => clear_value x))
    | (extract_lets +onlyGivenNames x; clear_value x)
    | split
theorem execReelCompareTick_keeps (die : Nat) (h : Keeps kp s0 s) :
    Nexts kp s0 (execReelCompareTick die s) := by
  unfold execReelCompareTick
  repeat' first
    | with_reducible assumption | with_reducible apply next_nexts | with_reducible apply guardId_nexts | with_reducible apply fault_nexts
    | with_reducible apply feltSend_keeps | with_reducible apply modDie_keeps
theorem execReelCorrectionResume_keeps (die : Nat) (h : Keeps kp s0 s) :
    Nexts kp s0 (execReelCorrectionResume die s) := by
  unfold execReelCorrectionResume
  repeat' first
    | with_reducible assumption | with_reducible apply next_nexts | with_reducible apply guardId_nexts | with_reducible apply fault_nexts
    | with_reducible apply modDie_keeps | split
theorem execReelLockLoss_keeps (die : Nat) (h : Keeps kp s0 s) :
    Nexts kp s0 (execReelLockLoss die s) := by
  unfold execReelLockLoss
  repeat' first
    | with_reducible assumption | with_reducible apply next_nexts | with_reducible apply guardId_nexts | with_reducible apply fault_nexts
    | with_reducible apply agentCount_keeps | with_reducible apply loseLock_keeps
theorem execReelLockReturn_keeps (die : Nat) (h : Keeps kp s0 s) :
    Nexts kp s0 (execReelLockReturn die s) := by
  unfold execReelLockReturn
  repeat' first
    | with_reducible assumption | with_reducible apply next_nexts | with_reducible apply guardId_nexts | with_reducible apply fault_nexts
    | with_reducible apply correctReel_keeps | with_reducible apply modDie_keeps | split
theorem execRefLoss_keeps (h : Keeps kp s0 s) :
    Nexts kp s0 (execRefLoss s) := by
  unfold execRefLoss
  repeat' first
    | with_reducible assumption | with_reducible apply next_nexts | with_reducible apply guardId_nexts | with_reducible apply fault_nexts
    | with_reducible apply vatCount_keeps | with_reducible apply each_keepsS | with_reducible apply loseLock_keeps
theorem execRegisterLoRead_keeps (a : Access) (h : Keeps kp s0 s) :
    Nexts kp s0 (execRegisterLoRead a s) := by
  unfold execRegisterLoRead
  repeat' first
    | with_reducible assumption | with_reducible apply next_nexts | with_reducible apply guardId_nexts | with_reducible apply fault_nexts
    | with_reducible apply accessRead_keeps
theorem execRegisterWrite_keeps (a : Access) (v : Word) (h : Keeps kp s0 s) :
    Nexts kp s0 (execRegisterWrite a v s) := by
  unfold execRegisterWrite
  repeat' first
    | with_reducible assumption | with_reducible apply next_nexts | with_reducible apply guardId_nexts | with_reducible apply fault_nexts
    | with_reducible apply accessWrite_keeps
theorem execRelaxRead_keeps (rq : Req) (part clear : Nat) (h : Keeps kp s0 s) :
    Nexts kp s0 (execRelaxRead rq part clear s) := by
  unfold execRelaxRead
  repeat' first
    | with_reducible assumption | exact fun _ => rfl | (intro t a ht; beta_reduce) | (intro t ht; beta_reduce) | with_reducible apply next_nexts
    | with_reducible apply guardId_nexts | with_reducible apply fault_nexts | with_reducible apply command_keeps | with_reducible apply each_keepsS
    | with_reducible apply modDie_keeps | with_reducible apply modPkg_keeps | with_reducible apply finish_keeps | split
theorem execRelaxSet_keeps (rq : Req) (part enable : Nat) (h : Keeps kp s0 s) :
    Nexts kp s0 (execRelaxSet rq part enable s) := by
  unfold execRelaxSet
  repeat' first
    | with_reducible assumption | exact fun _ => rfl | (intro t a ht; beta_reduce) | (intro t ht; beta_reduce) | with_reducible apply next_nexts
    | with_reducible apply guardId_nexts | with_reducible apply fault_nexts | with_reducible apply command_keeps | with_reducible apply modPkg_keeps
    | with_reducible apply each_keepsS | with_reducible apply modDie_keeps | with_reducible apply finish_keeps | split
theorem execRelaxedStallScan_keeps (core reason : Nat) (awaited : Option Nat) (h : Keeps kp s0 s) :
    Nexts kp s0 (execRelaxedStallScan core reason awaited s) := by
  unfold execRelaxedStallScan
  repeat' first
    | with_reducible assumption | exact fun _ => rfl | (intro t a ht; beta_reduce) | (intro t ht; beta_reduce) | with_reducible apply next_nexts
    | with_reducible apply guardId_nexts | with_reducible apply fault_nexts | with_reducible apply modCore_keeps
    | with_reducible apply setStall_keeps | with_reducible apply adopt_keeps | with_reducible apply shiftSlice_keeps
    | with_reducible apply toVat_keeps | with_reducible apply modBeater_keeps
    | (extract_lets +onlyGivenNames x; refine (fun (hx : Keeps kp s0 x) => ?_ : Keeps kp s0 x → _) ?_; (on_goal 2 => subst x); (on_goal 1 => clear_value x))
    | (extract_lets +onlyGivenNames x; clear_value x)
    | split
theorem execReleaseGateTransfer_keeps (core : Nat) (ticket : Option UnitRef) (dst : Dest) (words decision : List Nat) (last : Bool) (h : Keeps kp s0 s) :
    Nexts kp s0 (execReleaseGateTransfer core ticket dst words decision last s) := by
  unfold execReleaseGateTransfer
  repeat' first
    | with_reducible assumption | exact fun _ => rfl | (intro t a ht; beta_reduce) | (intro t ht; beta_reduce) | with_reducible apply next_nexts
    | with_reducible apply guardId_nexts | with_reducible apply fault_nexts | with_reducible apply presentUnit_keeps
    | with_reducible apply outWords_keeps | with_reducible apply presentPrior_keeps | with_reducible apply modCtx_keeps
    | with_reducible apply drainGate_keeps | with_reducible apply modLc_keeps
    | (extract_lets +onlyGivenNames x; refine (fun (hx : Keeps kp s0 x) => ?_ : Keeps kp s0 x → _) ?_; (on_goal 2 => subst x); (on_goal 1 => clear_value x))
    | (extract_lets +onlyGivenNames x; clear_value x)
    | split
theorem execReleaseUnitOpen_keeps (core descIdx : Nat) (spec last : Bool) (h : Keeps kp s0 s) :
    Nexts kp s0 (execReleaseUnitOpen core descIdx spec last s) := by
  unfold execReleaseUnitOpen
  repeat' first
    | with_reducible assumption | exact fun _ => rfl | (intro t a ht; beta_reduce) | (intro t ht; beta_reduce) | with_reducible apply next_nexts
    | with_reducible apply guardId_nexts | with_reducible apply fault_nexts | with_reducible apply noPlan_keeps | with_reducible apply modLc_keeps
    | with_reducible apply modTicket_keeps | with_reducible apply setStall_keeps | with_reducible apply openUnit_keeps
    | (extract_lets +onlyGivenNames x; refine (fun (hx : Keeps kp s0 x) => ?_ : Keeps kp s0 x → _) ?_; (on_goal 2 => subst x); (on_goal 1 => clear_value x))
    | (extract_lets +onlyGivenNames x; clear_value x)
    | split
theorem execReplPart_keeps (h0 : Hdr) (ctx iter : Nat) (r : DigestRec) (h : Keeps kp s0 s) :
    Nexts kp s0 (execReplPart h0 ctx iter r s) := by
  unfold execReplPart
  repeat' first
    | with_reducible assumption | exact fun _ => rfl | (intro t a ht; beta_reduce) | (intro t ht; beta_reduce) | with_reducible apply next_nexts
    | with_reducible apply guardId_nexts | with_reducible apply fault_nexts | with_reducible apply recvVat_keeps
    | with_reducible apply formReplica_keeps | with_reducible apply modReplica_keeps | split
theorem execReplacementReplayDone_keeps (lc : Nat) (h : Keeps kp s0 s) :
    Nexts kp s0 (execReplacementReplayDone lc s) := by
  unfold execReplacementReplayDone
  repeat' first
    | with_reducible assumption | exact fun _ => rfl | (intro t a ht; beta_reduce) | (intro t ht; beta_reduce) | with_reducible apply next_nexts
    | with_reducible apply guardId_nexts | with_reducible apply fault_nexts | with_reducible apply whenActing_keeps
    | with_reducible apply addReplay_keeps | with_reducible apply moveQueued_keeps | with_reducible apply placeOn_keeps
    | with_reducible apply goOn_keeps | with_reducible apply endTriage_keeps | with_reducible apply triageBeat_keeps
    | with_reducible apply hangReset_keeps | with_reducible apply finishReplace_keeps | split
theorem execReplacementStart_keeps (lc : Nat) (h : Keeps kp s0 s) :
    Nexts kp s0 (execReplacementStart lc s) := by
  unfold execReplacementStart
  repeat' first
    | with_reducible assumption | exact fun _ => rfl | (intro t a ht; beta_reduce) | (intro t ht; beta_reduce) | with_reducible apply next_nexts
    | with_reducible apply guardId_nexts | with_reducible apply fault_nexts | with_reducible apply whenActing_keeps
    | with_reducible apply beginReplace_keeps | with_reducible apply modSh_keeps
    | (extract_lets +onlyGivenNames x; refine (fun (hx : Keeps kp s0 x) => ?_ : Keeps kp s0 x → _) ?_; (on_goal 2 => subst x); (on_goal 1 => clear_value x))
    | (extract_lets +onlyGivenNames x; clear_value x)
    | split
theorem execReplicaCfg_keeps (rq : Req) (group r index k : Nat) (h : Keeps kp s0 s) :
    Nexts kp s0 (execReplicaCfg rq group r index k s) := by
  unfold execReplicaCfg
  repeat' first
    | with_reducible assumption | exact fun _ => rfl | (intro t a ht; beta_reduce) | (intro t ht; beta_reduce) | with_reducible apply next_nexts
    | with_reducible apply guardId_nexts | with_reducible apply fault_nexts | with_reducible apply command_keeps | with_reducible apply finish_keeps
    | with_reducible apply modCtx_keeps | with_reducible apply mirror_keeps | with_reducible apply armRerun_keeps | split
theorem execReplicaExpel_keeps (rq : Req) (group iter : Nat) (h : Keeps kp s0 s) :
    Nexts kp s0 (execReplicaExpel rq group iter s) := by
  unfold execReplicaExpel
  repeat' first
    | with_reducible assumption | exact fun _ => rfl | (intro t a ht; beta_reduce) | (intro t ht; beta_reduce) | with_reducible apply next_nexts
    | with_reducible apply guardId_nexts | with_reducible apply fault_nexts | with_reducible apply command_keeps | with_reducible apply finish_keeps
    | with_reducible apply startTeardown_keeps | with_reducible apply keepLost_keeps | split
theorem execReplicaMembers_keeps (rq : Req) (r index : Nat) (h : Keeps kp s0 s) :
    Nexts kp s0 (execReplicaMembers rq r index s) := by
  unfold execReplicaMembers
  repeat' first
    | with_reducible assumption | exact fun _ => rfl | (intro t a ht; beta_reduce) | (intro t ht; beta_reduce) | with_reducible apply next_nexts
    | with_reducible apply guardId_nexts | with_reducible apply fault_nexts | with_reducible apply command_keeps | with_reducible apply finish_keeps
    | with_reducible apply mirror_keeps | with_reducible apply modReplica_keeps | split
theorem execReplicaRereadDone_keeps (ctx : Nat) (shards : List (Nat × DigestRec)) (h : Keeps kp s0 s) :
    Nexts kp s0 (execReplicaRereadDone ctx shards s) := by
  unfold execReplicaRereadDone
  repeat' first
    | with_reducible assumption | exact fun _ => rfl | (intro t a ht; beta_reduce) | (intro t ht; beta_reduce) | with_reducible apply next_nexts
    | with_reducible apply guardId_nexts | with_reducible apply fault_nexts | with_reducible apply whenActing_keeps
    | with_reducible apply sendReplicaVerdict_keeps | with_reducible apply modReplica_keeps | with_reducible apply decideTwo_keeps | split
theorem execReplicaRereadExchange_keeps (ctx group iter : Nat) (other otherInPass : DigestRec) (tensors : List DigestRec) (otherFailing : Bool) (h : Keeps kp s0 s) :
    Nexts kp s0 (execReplicaRereadExchange ctx group iter other otherInPass tensors otherFailing s) := by
  unfold execReplicaRereadExchange
  repeat' first
    | with_reducible assumption | exact fun _ => rfl | (intro t a ht; beta_reduce) | (intro t ht; beta_reduce) | with_reducible apply next_nexts
    | with_reducible apply guardId_nexts | with_reducible apply fault_nexts | with_reducible apply whenActing_keeps
    | with_reducible apply decideMarked_keeps | with_reducible apply modReplica_keeps | with_reducible apply decideTwo_keeps | split
theorem execReplicaSlotRead_keeps (ctx : Nat) (recs : List DigestRec) (conflict : Bool) (h : Keeps kp s0 s) :
    Nexts kp s0 (execReplicaSlotRead ctx recs conflict s) := by
  unfold execReplicaSlotRead
  repeat' first
    | with_reducible assumption | exact fun _ => rfl | (intro t a ht; beta_reduce) | (intro t ht; beta_reduce) | with_reducible apply next_nexts
    | with_reducible apply guardId_nexts | with_reducible apply fault_nexts | with_reducible apply whenActing_keeps
    | with_reducible apply modReplica_keeps | with_reducible apply checkSlots_keeps | with_reducible apply modSh_keeps
    | with_reducible apply sendReplicaVerdict_keeps | with_reducible apply signalBarrier_keeps | with_reducible apply disagreed_keeps
    | with_reducible apply abortBarrier_keeps | with_reducible apply orderReread_keeps | with_reducible apply endCompare_keeps
    | with_reducible apply holdReplica_keeps
    | (extract_lets +onlyGivenNames x; refine (fun (hx : Keeps kp s0 x) => ?_ : Keeps kp s0 x → _) ?_; (on_goal 2 => subst x); (on_goal 1 => clear_value x))
    | (extract_lets +onlyGivenNames x; clear_value x)
    | split
theorem execResetOverrun_keeps (domain target : Nat) (h : Keeps kp s0 s) :
    Nexts kp s0 (execResetOverrun domain target s) := by
  unfold execResetOverrun
  repeat' first
    | with_reducible assumption | exact fun _ => rfl | (intro t a ht; beta_reduce) | (intro t ht; beta_reduce) | with_reducible apply next_nexts
    | with_reducible apply guardId_nexts | with_reducible apply fault_nexts | with_reducible apply whenActing_keeps
    | with_reducible apply lowerFence_keeps | with_reducible apply dropReset_keeps | with_reducible apply takeDown_keeps
    | with_reducible apply fenceCore_keeps | with_reducible apply modPkg_keeps | with_reducible apply beginReset_keeps
    | with_reducible apply mramWrite_keeps | with_reducible apply requestPart_keeps | with_reducible apply escalate_keeps
    | with_reducible apply packageReset_keeps | split
theorem execReset_keeps (rq : Req) (domain target : Nat) (h : Keeps kp s0 s) :
    Nexts kp s0 (execReset rq domain target s) := by
  unfold execReset
  repeat' first
    | with_reducible assumption | exact fun _ => rfl | (intro t a ht; beta_reduce) | (intro t ht; beta_reduce) | with_reducible apply next_nexts
    | with_reducible apply guardId_nexts | with_reducible apply fault_nexts | with_reducible apply command_keeps | with_reducible apply finish_keeps
    | with_reducible apply requestReset_keeps | split
theorem execRestoreGatherDone_keeps (ctx : Nat) (remote : List ((Nat × Nat) × Option (List Nat))) (poisoned : List (Nat × Nat)) (set : List TensorPart) (h : Keeps kp s0 s) :
    Nexts kp s0 (execRestoreGatherDone ctx remote poisoned set s) := by
  unfold execRestoreGatherDone
  repeat' first
    | with_reducible assumption | exact fun _ => rfl | (intro t a ht; beta_reduce) | (intro t ht; beta_reduce) | with_reducible apply next_nexts
    | with_reducible apply guardId_nexts | with_reducible apply fault_nexts | with_reducible apply whenActing_keeps
    | with_reducible apply modCtx_keeps | with_reducible apply endOp_keeps | with_reducible apply mirror_keeps
    | with_reducible apply restoreRefused_keeps | with_reducible apply each_keepsS | with_reducible apply restoreReam_keeps
    | with_reducible apply modLc_keeps | with_reducible apply armRerun_keeps | with_reducible apply modReplica_keeps
    | with_reducible apply restoredParts_keeps | with_reducible apply installGroup_keeps | with_reducible apply record_keeps
    | (intro g; split <;> rfl)
    | (extract_lets +onlyGivenNames x; refine (fun (hx : Keeps kp s0 x) => ?_ : Keeps kp s0 x → _) ?_; (on_goal 2 => subst x); (on_goal 1 => clear_value x))
    | (extract_lets +onlyGivenNames x; refine (fun (hx : Keeps kp s0 x.1) => ?_ : Keeps kp s0 x.1 → _) ?_; (on_goal 2 => subst x); (on_goal 1 => clear_value x))
    | (extract_lets +onlyGivenNames x; refine (fun (hx : Keeps kp s0 x.2) => ?_ : Keeps kp s0 x.2 → _) ?_; (on_goal 2 => subst x); (on_goal 1 => clear_value x))
    | (extract_lets +onlyGivenNames x; have : ∀ z, x z = x z := fun _ => rfl; clear this; subst x; beta_reduce)
    | (extract_lets +onlyGivenNames x; clear_value x)
    | split
theorem execRestore_keeps (rq : Req) (snap delta : Nat) (man : Manifest) (crc : Nat) (g : GroupTable) (h : Keeps kp s0 s) :
    Nexts kp s0 (execRestore rq snap delta man crc g s) := by
  unfold execRestore
  repeat' first
    | with_reducible assumption | exact fun _ => rfl | (intro t a ht; beta_reduce) | (intro t ht; beta_reduce) | with_reducible apply next_nexts
    | with_reducible apply guardId_nexts | with_reducible apply fault_nexts | with_reducible apply command_keeps | with_reducible apply finish_keeps
    | with_reducible apply refuse_keeps | with_reducible apply restoreRefused_keeps | with_reducible apply beginRun_keeps
    | with_reducible apply mirror_keeps | with_reducible apply modCtx_keeps
    | (extract_lets +onlyGivenNames x; refine (fun (hx : Keeps kp s0 x) => ?_ : Keeps kp s0 x → _) ?_; (on_goal 2 => subst x); (on_goal 1 => clear_value x))
    | (extract_lets +onlyGivenNames x; clear_value x)
    | split
theorem execRingBreak_keeps (h0 : Hdr) (die ring link : Nat) (h : Keeps kp s0 s) :
    Nexts kp s0 (execRingBreak h0 die ring link s) := by
  unfold execRingBreak
  repeat' first
    | with_reducible assumption | exact fun _ => rfl | (intro t a ht; beta_reduce) | (intro t ht; beta_reduce) | with_reducible apply next_nexts
    | with_reducible apply guardId_nexts | with_reducible apply fault_nexts | with_reducible apply recv_keeps | with_reducible apply modFelt_keeps
    | with_reducible apply setRing_keeps | with_reducible apply record_keeps
    | (extract_lets +onlyGivenNames x; refine (fun (hx : Keeps kp s0 x) => ?_ : Keeps kp s0 x → _) ?_; (on_goal 2 => subst x); (on_goal 1 => clear_value x))
    | (extract_lets +onlyGivenNames x; clear_value x)
    | split
theorem execRingJoinActivation_keeps (die ring : Nat) (h : Keeps kp s0 s) :
    Nexts kp s0 (execRingJoinActivation die ring s) := by
  unfold execRingJoinActivation
  repeat' first
    | with_reducible assumption | exact fun _ => rfl | (intro t a ht; beta_reduce) | (intro t ht; beta_reduce) | with_reducible apply next_nexts
    | with_reducible apply guardId_nexts | with_reducible apply fault_nexts | with_reducible apply modFelt_keeps | with_reducible apply each_keepsS
    | with_reducible apply record_keeps | with_reducible apply dieRing_keeps | with_reducible apply modPort_keeps
    | with_reducible apply setRing_keeps | split
theorem execRingJoin_keeps (h0 : Hdr) (die ring link count : Nat) (h : Keeps kp s0 s) :
    Nexts kp s0 (execRingJoin h0 die ring link count s) := by
  unfold execRingJoin
  repeat' first
    | with_reducible assumption | exact fun _ => rfl | (intro t a ht; beta_reduce) | (intro t ht; beta_reduce) | with_reducible apply next_nexts
    | with_reducible apply guardId_nexts | with_reducible apply fault_nexts | with_reducible apply recv_keeps | with_reducible apply modFelt_keeps
    | (extract_lets +onlyGivenNames x; refine (fun (hx : Keeps kp s0 x) => ?_ : Keeps kp s0 x → _) ?_; (on_goal 2 => subst x); (on_goal 1 => clear_value x))
    | (extract_lets +onlyGivenNames x; clear_value x)
    | split
theorem execRingRead_keeps (rq : Req) (ring target first count clear : Nat) (h : Keeps kp s0 s) :
    Nexts kp s0 (execRingRead rq ring target first count clear s) := by
  unfold execRingRead
  repeat' first
    | with_reducible assumption | exact fun _ => rfl | (intro t a ht; beta_reduce) | (intro t ht; beta_reduce) | with_reducible apply next_nexts
    | with_reducible apply guardId_nexts | with_reducible apply fault_nexts | with_reducible apply command_keeps | with_reducible apply refuse_keeps
    | with_reducible apply finish_keeps | with_reducible apply modCore_keeps | split
theorem execRiskRecompute_keeps (h : Keeps kp s0 s) :
    Nexts kp s0 (execRiskRecompute s) := by
  unfold execRiskRecompute
  repeat' first
    | with_reducible assumption | with_reducible apply next_nexts | with_reducible apply guardId_nexts | with_reducible apply fault_nexts
    | with_reducible apply modSh_keeps | with_reducible apply each_keepsS | with_reducible apply riskOne_keeps | split
theorem execRoundedGroupCheck_keeps (core ticket group expo : Nat) (mants accs : List Int) (place : GroupAt) (last : Bool) (h : Keeps kp s0 s) :
    Nexts kp s0 (execRoundedGroupCheck core ticket group expo mants accs place last s) := by
  unfold execRoundedGroupCheck
  repeat' first
    | with_reducible assumption | exact fun _ => rfl | (intro t a ht; beta_reduce) | (intro t ht; beta_reduce) | with_reducible apply next_nexts
    | with_reducible apply guardId_nexts | with_reducible apply fault_nexts | with_reducible apply each_keepsS
    | with_reducible apply checkFail_keeps | with_reducible apply foldGroup_keeps | with_reducible apply pairReport_keeps
    | with_reducible apply modTicket_keeps | with_reducible apply partDone_keeps
    | (extract_lets +onlyGivenNames x; refine (fun (hx : Keeps kp s0 x) => ?_ : Keeps kp s0 x → _) ?_; (on_goal 2 => subst x); (on_goal 1 => clear_value x))
    | (extract_lets +onlyGivenNames x; clear_value x)
    | split
theorem execRouterBufferEcc_keeps (die : Nat) (cluster : Option Nat) (corrected : Bool) (h : Keeps kp s0 s) :
    Nexts kp s0 (execRouterBufferEcc die cluster corrected s) := by
  unfold execRouterBufferEcc
  repeat' first
    | with_reducible assumption | with_reducible apply next_nexts | with_reducible apply guardId_nexts | with_reducible apply fault_nexts
    | with_reducible apply agentCount_keeps | with_reducible apply emit_keeps | split
theorem execScratchpadAccess_keeps (core : Nat) (x : SpadAccess) (h : Keeps kp s0 s) :
    Nexts kp s0 (execScratchpadAccess core x s) := by
  unfold execScratchpadAccess
  repeat' first
    | with_reducible assumption | with_reducible apply next_nexts | with_reducible apply guardId_nexts | with_reducible apply fault_nexts
    | with_reducible apply handshakeParked_keeps | with_reducible apply modCore_keeps | with_reducible apply accessPad_keeps | split
theorem execScreenLate_keeps (core : Nat) (h : Keeps kp s0 s) :
    Nexts kp s0 (execScreenLate core s) := by
  unfold execScreenLate
  repeat' first
    | with_reducible assumption | with_reducible apply next_nexts | with_reducible apply guardId_nexts | with_reducible apply fault_nexts
    | with_reducible apply record_keeps | with_reducible apply modCore_keeps | split
theorem execScreenOverdue_keeps (core : Nat) (h : Keeps kp s0 s) :
    Nexts kp s0 (execScreenOverdue core s) := by
  unfold execScreenOverdue
  repeat' first
    | with_reducible assumption | exact fun _ => rfl | (intro t a ht; beta_reduce) | (intro t ht; beta_reduce) | with_reducible apply next_nexts
    | with_reducible apply guardId_nexts | with_reducible apply fault_nexts | with_reducible apply whenActing_keeps
    | with_reducible apply setVoid_keeps | with_reducible apply record_keeps | with_reducible apply modCore_keeps | split
theorem execScreenRun_keeps (rq : Req) (pcore kind : Nat) (h : Keeps kp s0 s) :
    Nexts kp s0 (execScreenRun rq pcore kind s) := by
  unfold execScreenRun
  repeat' first
    | with_reducible assumption | exact fun _ => rfl | (intro t a ht; beta_reduce) | (intro t ht; beta_reduce) | with_reducible apply next_nexts
    | with_reducible apply guardId_nexts | with_reducible apply fault_nexts | with_reducible apply command_keeps | with_reducible apply refuse_keeps
    | with_reducible apply finish_keeps | with_reducible apply askAgent_keeps | with_reducible apply askLease_keeps
    | with_reducible apply queueBeat_keeps
    | (extract_lets +onlyGivenNames x; refine (fun (hx : Keeps kp s0 x) => ?_ : Keeps kp s0 x → _) ?_; (on_goal 2 => subst x); (on_goal 1 => clear_value x))
    | (extract_lets +onlyGivenNames x; clear_value x)
    | split
theorem execScreenStatus_keeps (rq : Req) (h : Keeps kp s0 s) :
    Nexts kp s0 (execScreenStatus rq s) := by
  unfold execScreenStatus
  repeat' first
    | with_reducible assumption | exact fun _ => rfl | (intro t a ht; beta_reduce) | (intro t ht; beta_reduce) | with_reducible apply next_nexts
    | with_reducible apply guardId_nexts | with_reducible apply fault_nexts | with_reducible apply command_keeps | with_reducible apply finish_keeps
    | split
theorem execScrubDone_keeps (ctx : Nat) (h : Keeps kp s0 s) :
    Nexts kp s0 (execScrubDone ctx s) := by
  unfold execScrubDone
  repeat' first
    | with_reducible assumption | exact fun _ => rfl | (intro t a ht; beta_reduce) | (intro t ht; beta_reduce) | with_reducible apply next_nexts
    | with_reducible apply guardId_nexts | with_reducible apply fault_nexts | with_reducible apply each_keepsS | with_reducible apply modCore_keeps
    | with_reducible apply emit_keeps | with_reducible apply modLc_keeps | with_reducible apply modCtx_keeps
    | with_reducible apply reclaimDone_keeps | with_reducible apply mirror_keeps | split
theorem execSensorRead_keeps (rq : Req) (die : Nat) (h : Keeps kp s0 s) :
    Nexts kp s0 (execSensorRead rq die s) := by
  unfold execSensorRead
  repeat' first
    | with_reducible assumption | exact fun _ => rfl | (intro t a ht; beta_reduce) | (intro t ht; beta_reduce) | with_reducible apply next_nexts
    | with_reducible apply guardId_nexts | with_reducible apply fault_nexts | with_reducible apply command_keeps | with_reducible apply finish_keeps
    | with_reducible apply askAgent_keeps | split
theorem execSensorRefCheck_keeps (die sensor : Nat) (value ref : Int) (h : Keeps kp s0 s) :
    Nexts kp s0 (execSensorRefCheck die sensor value ref s) := by
  unfold execSensorRefCheck
  repeat' first
    | with_reducible assumption | exact fun _ => rfl | (intro t a ht; beta_reduce) | (intro t ht; beta_reduce) | with_reducible apply next_nexts
    | with_reducible apply guardId_nexts | with_reducible apply fault_nexts | with_reducible apply modSensor_keeps
    | with_reducible apply takeTemp_keeps | with_reducible apply agentCount_keeps
    | (extract_lets +onlyGivenNames x; refine (fun (hx : Keeps kp s0 x) => ?_ : Keeps kp s0 x → _) ?_; (on_goal 2 => subst x); (on_goal 1 => clear_value x))
    | (extract_lets +onlyGivenNames x; clear_value x)
    | split
theorem execSensorSubst_keeps (rq : Req) (die sensor : Nat) (h : Keeps kp s0 s) :
    Nexts kp s0 (execSensorSubst rq die sensor s) := by
  unfold execSensorSubst
  repeat' first
    | with_reducible assumption | exact fun _ => rfl | (intro t a ht; beta_reduce) | (intro t ht; beta_reduce) | with_reducible apply next_nexts
    | with_reducible apply guardId_nexts | with_reducible apply fault_nexts | with_reducible apply command_keeps | with_reducible apply finish_keeps
    | with_reducible apply modSensor_keeps | with_reducible apply record_keeps | split
theorem execSeqCmpEnWrite_keeps (a : Access) (v : Word) (h : Keeps kp s0 s) :
    Nexts kp s0 (execSeqCmpEnWrite a v s) := by
  unfold execSeqCmpEnWrite
  repeat' first
    | with_reducible assumption | with_reducible apply next_nexts | with_reducible apply guardId_nexts | with_reducible apply fault_nexts
    | with_reducible apply accessWrite_keeps
theorem execServiceResume_keeps (rq : Req) (h : Keeps kp s0 s) :
    Nexts kp s0 (execServiceResume rq s) := by
  unfold execServiceResume
  repeat' first
    | with_reducible assumption | exact fun _ => rfl | (intro t a ht; beta_reduce) | (intro t ht; beta_reduce) | with_reducible apply next_nexts
    | with_reducible apply guardId_nexts | with_reducible apply fault_nexts | with_reducible apply command_keeps | with_reducible apply modPkg_keeps
    | with_reducible apply modSh_keeps | with_reducible apply record_keeps | with_reducible apply mramWrite_keeps
    | with_reducible apply packageReset_keeps | with_reducible apply finish_keeps | split
theorem execSessionExpiry_keeps (session : Nat) (h : Keeps kp s0 s) :
    Nexts kp s0 (execSessionExpiry session s) := by
  unfold execSessionExpiry
  repeat' first
    | with_reducible assumption | with_reducible apply next_nexts | with_reducible apply guardId_nexts | with_reducible apply fault_nexts
    | with_reducible apply putSession_keeps | split
theorem execSetEndpointId_keeps (hub : Hub) (i3c : Bool) (eid setter : Nat) (h : Keeps kp s0 s) :
    Nexts kp s0 (execSetEndpointId hub i3c eid setter s) := by
  unfold execSetEndpointId
  repeat' first
    | with_reducible assumption | with_reducible apply next_nexts | with_reducible apply guardId_nexts | with_reducible apply fault_nexts
    | with_reducible apply mctpReply_keeps | with_reducible apply modVat_keeps | split
theorem execShiftSegmentDone_keeps (die misr : Nat) (h : Keeps kp s0 s) :
    Nexts kp s0 (execShiftSegmentDone die misr s) := by
  unfold execShiftSegmentDone
  repeat' first
    | with_reducible assumption | exact fun _ => rfl | (intro t a ht; beta_reduce) | (intro t ht; beta_reduce) | with_reducible apply next_nexts
    | with_reducible apply guardId_nexts | with_reducible apply fault_nexts | with_reducible apply modBeater_keeps
    | with_reducible apply haltSlice_keeps
    | (extract_lets +onlyGivenNames x; refine (fun (hx : Keeps kp s0 x) => ?_ : Keeps kp s0 x → _) ?_; (on_goal 2 => subst x); (on_goal 1 => clear_value x))
    | (extract_lets +onlyGivenNames x; clear_value x)
    | split
theorem execSizingWindowForfeit_keeps (die : Nat) (h : Keeps kp s0 s) :
    Nexts kp s0 (execSizingWindowForfeit die s) := by
  unfold execSizingWindowForfeit
  repeat' first
    | with_reducible assumption | exact fun _ => rfl | (intro t a ht; beta_reduce) | (intro t ht; beta_reduce) | with_reducible apply next_nexts
    | with_reducible apply guardId_nexts | with_reducible apply fault_nexts | with_reducible apply modBeater_keeps
    | (extract_lets +onlyGivenNames x; refine (fun (hx : Keeps kp s0 x) => ?_ : Keeps kp s0 x → _) ?_; (on_goal 2 => subst x); (on_goal 1 => clear_value x))
    | (extract_lets +onlyGivenNames x; clear_value x)
    | split
theorem execSizingWindowLeaseRequest_keeps (core start len : Nat) (h : Keeps kp s0 s) :
    Nexts kp s0 (execSizingWindowLeaseRequest core start len s) := by
  unfold execSizingWindowLeaseRequest
  repeat' first
    | with_reducible assumption | exact fun _ => rfl | (intro t a ht; beta_reduce) | (intro t ht; beta_reduce) | with_reducible apply next_nexts
    | with_reducible apply guardId_nexts | with_reducible apply fault_nexts | with_reducible apply adopt_keeps | with_reducible apply toVat_keeps
    | with_reducible apply modBeater_keeps
    | (extract_lets +onlyGivenNames x; refine (fun (hx : Keeps kp s0 x) => ?_ : Keeps kp s0 x → _) ?_; (on_goal 2 => subst x); (on_goal 1 => clear_value x))
    | (extract_lets +onlyGivenNames x; clear_value x)
    | split
theorem execSliceEnd_keeps (die : Nat) (retained : Bool) (h : Keeps kp s0 s) :
    Nexts kp s0 (execSliceEnd die retained s) := by
  unfold execSliceEnd
  repeat' first
    | with_reducible assumption | exact fun _ => rfl | (intro t a ht; beta_reduce) | (intro t ht; beta_reduce) | with_reducible apply next_nexts
    | with_reducible apply guardId_nexts | with_reducible apply fault_nexts | with_reducible apply haltSlice_keeps
    | with_reducible apply modBeater_keeps | with_reducible apply endShift_keeps | with_reducible apply judgeSlice_keeps
    | with_reducible apply whenActing_keeps
    | (extract_lets +onlyGivenNames x; refine (fun (hx : Keeps kp s0 x) => ?_ : Keeps kp s0 x → _) ?_; (on_goal 2 => subst x); (on_goal 1 => clear_value x))
    | (extract_lets +onlyGivenNames x; clear_value x)
    | split
theorem execSliceStart_keeps (die core : Nat) (h : Keeps kp s0 s) :
    Nexts kp s0 (execSliceStart die core s) := by
  unfold execSliceStart
  repeat' first
    | with_reducible assumption | exact fun _ => rfl | (intro t a ht; beta_reduce) | (intro t ht; beta_reduce) | with_reducible apply next_nexts
    | with_reducible apply guardId_nexts | with_reducible apply fault_nexts | with_reducible apply adopt_keeps
    | with_reducible apply shiftSlice_keeps
    | (extract_lets +onlyGivenNames x; refine (fun (hx : Keeps kp s0 x) => ?_ : Keeps kp s0 x → _) ?_; (on_goal 2 => subst x); (on_goal 1 => clear_value x))
    | (extract_lets +onlyGivenNames x; clear_value x)
    | split
theorem execSnapBarrierComplete_keeps (ctx : Nat) (poisoned : Bool) (h : Keeps kp s0 s) :
    Nexts kp s0 (execSnapBarrierComplete ctx poisoned s) := by
  unfold execSnapBarrierComplete
  repeat' first
    | with_reducible assumption | exact fun _ => rfl | (intro t a ht; beta_reduce) | (intro t ht; beta_reduce) | with_reducible apply next_nexts
    | with_reducible apply guardId_nexts | with_reducible apply fault_nexts | with_reducible apply whenActing_keeps
    | with_reducible apply snapPoisoned_keeps | with_reducible apply mirror_keeps | with_reducible apply modCtx_keeps
    | (extract_lets +onlyGivenNames x; refine (fun (hx : Keeps kp s0 x) => ?_ : Keeps kp s0 x → _) ?_; (on_goal 2 => subst x); (on_goal 1 => clear_value x))
    | (extract_lets +onlyGivenNames x; clear_value x)
    | split
theorem execSnapBegin_keeps (rq : Req) (snap iter point : Nat) (package : Bool) (delta deadline : Nat) (m : ReamMap) (h : Keeps kp s0 s) :
    Nexts kp s0 (execSnapBegin rq snap iter point package delta deadline m s) := by
  unfold execSnapBegin
  repeat' first
    | with_reducible assumption | exact fun _ => rfl | (intro t a ht; beta_reduce) | (intro t ht; beta_reduce) | with_reducible apply next_nexts
    | with_reducible apply guardId_nexts | with_reducible apply fault_nexts | with_reducible apply command_keeps | with_reducible apply finish_keeps
    | with_reducible apply refuse_keeps | with_reducible apply snapFail_keeps | with_reducible apply beginRun_keeps
    | with_reducible apply armSnap_keeps
    | (extract_lets +onlyGivenNames x; refine (fun (hx : Keeps kp s0 x) => ?_ : Keeps kp s0 x → _) ?_; (on_goal 2 => subst x); (on_goal 1 => clear_value x))
    | (extract_lets +onlyGivenNames x; clear_value x)
    | split
theorem execSnapDeadlineExpiry_keeps (ctx : Nat) (h : Keeps kp s0 s) :
    Nexts kp s0 (execSnapDeadlineExpiry ctx s) := by
  unfold execSnapDeadlineExpiry
  repeat' first
    | with_reducible assumption | exact fun _ => rfl | (intro t a ht; beta_reduce) | (intro t ht; beta_reduce) | with_reducible apply next_nexts
    | with_reducible apply guardId_nexts | with_reducible apply fault_nexts | with_reducible apply whenActing_keeps
    | with_reducible apply failSnap_keeps | split
theorem execSnapDefault_keeps (rq : Req) (package : Bool) (base : Nat) (m : ReamMap) (h : Keeps kp s0 s) :
    Nexts kp s0 (execSnapDefault rq package base m s) := by
  unfold execSnapDefault
  repeat' first
    | with_reducible assumption | exact fun _ => rfl | (intro t a ht; beta_reduce) | (intro t ht; beta_reduce) | with_reducible apply next_nexts
    | with_reducible apply guardId_nexts | with_reducible apply fault_nexts | with_reducible apply command_keeps | with_reducible apply finish_keeps
    | with_reducible apply refuse_keeps | with_reducible apply mirror_keeps | with_reducible apply modCtx_keeps
    | (extract_lets +onlyGivenNames x; refine (fun (hx : Keeps kp s0 x) => ?_ : Keeps kp s0 x → _) ?_; (on_goal 2 => subst x); (on_goal 1 => clear_value x))
    | (extract_lets +onlyGivenNames x; clear_value x)
    | split
theorem execSnapHolderAck_keeps (ctx ream shard : Nat) (words : List Nat) (poisoned failed : Bool) (set : List TensorPart) (h : Keeps kp s0 s) :
    Nexts kp s0 (execSnapHolderAck ctx ream shard words poisoned failed set s) := by
  unfold execSnapHolderAck
  repeat' first
    | with_reducible assumption | exact fun _ => rfl | (intro t a ht; beta_reduce) | (intro t ht; beta_reduce) | with_reducible apply next_nexts
    | with_reducible apply guardId_nexts | with_reducible apply fault_nexts | with_reducible apply whenActing_keeps
    | with_reducible apply snapPoisoned_keeps | with_reducible apply modCtx_keeps | with_reducible apply loseShard_keeps
    | with_reducible apply writeShard_keeps | with_reducible apply failSnap_keeps | with_reducible apply snapDone_keeps
    | (extract_lets +onlyGivenNames x; refine (fun (hx : Keeps kp s0 x) => ?_ : Keeps kp s0 x → _) ?_; (on_goal 2 => subst x); (on_goal 1 => clear_value x))
    | (extract_lets +onlyGivenNames x; clear_value x)
    | split
theorem execSnapPointReached_keeps (lc : Nat) (h : Keeps kp s0 s) :
    Nexts kp s0 (execSnapPointReached lc s) := by
  unfold execSnapPointReached
  repeat' first
    | with_reducible assumption | with_reducible apply next_nexts | with_reducible apply guardId_nexts | with_reducible apply fault_nexts
    | with_reducible apply modCtx_keeps | with_reducible apply setStall_keeps | with_reducible apply holdCore_keeps
    | with_reducible apply modLc_keeps | split
theorem execSnapRelease_keeps (rq : Req) (snap : Nat) (h : Keeps kp s0 s) :
    Nexts kp s0 (execSnapRelease rq snap s) := by
  unfold execSnapRelease
  repeat' first
    | with_reducible assumption | exact fun _ => rfl | (intro t a ht; beta_reduce) | (intro t ht; beta_reduce) | with_reducible apply next_nexts
    | with_reducible apply guardId_nexts | with_reducible apply fault_nexts | with_reducible apply command_keeps | with_reducible apply finish_keeps
    | with_reducible apply modCtx_keeps | with_reducible apply mirror_keeps
    | (extract_lets +onlyGivenNames x; refine (fun (hx : Keeps kp s0 x) => ?_ : Keeps kp s0 x → _) ?_; (on_goal 2 => subst x); (on_goal 1 => clear_value x))
    | (extract_lets +onlyGivenNames x; clear_value x)
    | split
theorem execSpareFillDone_keeps (lc : Nat) (sent received : List Nat) (h : Keeps kp s0 s) :
    Nexts kp s0 (execSpareFillDone lc sent received s) := by
  unfold execSpareFillDone
  repeat' first
    | with_reducible assumption | exact fun _ => rfl | (intro t a ht; beta_reduce) | (intro t ht; beta_reduce) | with_reducible apply next_nexts
    | with_reducible apply guardId_nexts | with_reducible apply fault_nexts | with_reducible apply whenActing_keeps
    | with_reducible apply afterStage_keeps | with_reducible apply modTriage_keeps | with_reducible apply triageRefill_keeps
    | with_reducible apply goOn_keeps | with_reducible apply replaceRefill_keeps | with_reducible apply fillFailed_keeps
    | with_reducible apply placeLate_keeps | with_reducible apply replayOpen_keeps | with_reducible apply modReplace_keeps
    | (extract_lets +onlyGivenNames x; refine (fun (hx : Keeps kp s0 x) => ?_ : Keeps kp s0 x → _) ?_; (on_goal 2 => subst x); (on_goal 1 => clear_value x))
    | (extract_lets +onlyGivenNames x; clear_value x)
    | split
theorem execStageANotCompleted_keeps (core : Nat) (h : Keeps kp s0 s) :
    Nexts kp s0 (execStageANotCompleted core s) := by
  unfold execStageANotCompleted
  repeat' first
    | with_reducible assumption | exact fun _ => rfl | (intro t a ht; beta_reduce) | (intro t ht; beta_reduce) | with_reducible apply next_nexts
    | with_reducible apply guardId_nexts | with_reducible apply fault_nexts | with_reducible apply whenActing_keeps
    | with_reducible apply afterStage_keeps | with_reducible apply breakA_keeps | split
theorem execStagingCopyDone_keeps (die : Nat) (h : Keeps kp s0 s) :
    Nexts kp s0 (execStagingCopyDone die s) := by
  unfold execStagingCopyDone
  repeat' first
    | with_reducible assumption | exact fun _ => rfl | (intro t a ht; beta_reduce) | (intro t ht; beta_reduce) | with_reducible apply next_nexts
    | with_reducible apply guardId_nexts | with_reducible apply fault_nexts | with_reducible apply each_keepsS
    | with_reducible apply modFurnish_keeps | with_reducible apply staged_keeps | with_reducible apply modStaging_keeps | split
theorem execStallIntervalSaturate_keeps (region : Nat) (h : Keeps kp s0 s) :
    Nexts kp s0 (execStallIntervalSaturate region s) := by
  unfold execStallIntervalSaturate
  repeat' first
    | with_reducible assumption | with_reducible apply next_nexts | with_reducible apply guardId_nexts | with_reducible apply fault_nexts
    | with_reducible apply writeInterval_keeps | with_reducible apply modSh_keeps | split
theorem execStandbySelftestItemDone_keeps (item : Nat) (pass : Bool) (h : Keeps kp s0 s) :
    Nexts kp s0 (execStandbySelftestItemDone item pass s) := by
  unfold execStandbySelftestItemDone
  repeat' first
    | with_reducible assumption | exact fun _ => rfl | (intro t a ht; beta_reduce) | (intro t ht; beta_reduce) | with_reducible apply next_nexts
    | with_reducible apply guardId_nexts | with_reducible apply fault_nexts | with_reducible apply modVat_keeps
    | with_reducible apply vatCount_keeps | with_reducible apply endSwitchWait_keeps | with_reducible apply peerOffline_keeps
    | with_reducible apply vatDown_keeps | with_reducible apply standbyHealth_keeps
    | (extract_lets +onlyGivenNames x; refine (fun (hx : Keeps kp s0 x) => ?_ : Keeps kp s0 x → _) ?_; (on_goal 2 => subst x); (on_goal 1 => clear_value x))
    | (extract_lets +onlyGivenNames x; clear_value x)
    | split
theorem execStartupScreenTimeout_keeps (h : Keeps kp s0 s) :
    Nexts kp s0 (execStartupScreenTimeout s) := by
  unfold execStartupScreenTimeout
  repeat' first
    | with_reducible assumption | exact fun _ => rfl | (intro t a ht; beta_reduce) | (intro t ht; beta_reduce) | with_reducible apply next_nexts
    | with_reducible apply guardId_nexts | with_reducible apply fault_nexts | with_reducible apply each_keepsS
    | with_reducible apply modBeater_keeps | with_reducible apply returnLease_keeps | with_reducible apply modSh_keeps
    | with_reducible apply modPkg_keeps
    | (extract_lets +onlyGivenNames x; refine (fun (hx : Keeps kp s0 x) => ?_ : Keeps kp s0 x → _) ?_; (on_goal 2 => subst x); (on_goal 1 => clear_value x))
    | (extract_lets +onlyGivenNames x; clear_value x)
    | split
theorem execStationIsolated_keeps (die : Nat) (h : Keeps kp s0 s) :
    Nexts kp s0 (execStationIsolated die s) := by
  unfold execStationIsolated
  repeat' first
    | with_reducible assumption | with_reducible apply next_nexts | with_reducible apply guardId_nexts | with_reducible apply fault_nexts
    | with_reducible apply packageReset_keeps | with_reducible apply record_keeps | split
theorem execStationIsolation_keeps (die : Nat) (h : Keeps kp s0 s) :
    Nexts kp s0 (execStationIsolation die s) := by
  unfold execStationIsolation
  repeat' first
    | with_reducible assumption | with_reducible apply next_nexts | with_reducible apply guardId_nexts | with_reducible apply fault_nexts
    | with_reducible apply setPin_keeps | with_reducible apply holdDie_keeps | with_reducible apply modDie_keeps | split
theorem execStbyLivePeriod_keeps (h : Keeps kp s0 s) :
    Nexts kp s0 (execStbyLivePeriod s) := by
  unfold execStbyLivePeriod
  repeat' first
    | with_reducible assumption | with_reducible apply next_nexts | with_reducible apply guardId_nexts | with_reducible apply fault_nexts
    | with_reducible apply feltSend_keeps | split
theorem execStbyLiveTimeout_keeps (h : Keeps kp s0 s) :
    Nexts kp s0 (execStbyLiveTimeout s) := by
  unfold execStbyLiveTimeout
  repeat' first
    | with_reducible assumption | with_reducible apply next_nexts | with_reducible apply guardId_nexts | with_reducible apply fault_nexts
    | with_reducible apply endSwitchWait_keeps | with_reducible apply standbyHealth_keeps | with_reducible apply peerOffline_keeps
    | with_reducible apply vatDown_keeps | split
theorem execStbyLive_keeps (h0 : Hdr) (r : Health) (h : Keeps kp s0 s) :
    Nexts kp s0 (execStbyLive h0 r s) := by
  unfold execStbyLive
  repeat' first
    | with_reducible assumption | exact fun _ => rfl | (intro t a ht; beta_reduce) | (intro t ht; beta_reduce) | with_reducible apply next_nexts
    | with_reducible apply guardId_nexts | with_reducible apply fault_nexts | with_reducible apply recvVat_keeps | with_reducible apply modVat_keeps
    | split
theorem execStopRead_keeps (rq : Req) (first count : Nat) (h : Keeps kp s0 s) :
    Nexts kp s0 (execStopRead rq first count s) := by
  unfold execStopRead
  repeat' first
    | with_reducible assumption | exact fun _ => rfl | (intro t a ht; beta_reduce) | (intro t ht; beta_reduce) | with_reducible apply next_nexts
    | with_reducible apply guardId_nexts | with_reducible apply fault_nexts | with_reducible apply command_keeps | with_reducible apply finish_keeps
    | split
theorem execStopRise_keeps (die : Nat) (h : Keeps kp s0 s) :
    Nexts kp s0 (execStopRise die s) := by
  unfold execStopRise
  repeat' first
    | with_reducible assumption | with_reducible apply next_nexts | with_reducible apply guardId_nexts | with_reducible apply fault_nexts
    | with_reducible apply latchStop_keeps | split
theorem execStopTable_keeps (h0 : Hdr) (words : List Nat) (h : Keeps kp s0 s) :
    Nexts kp s0 (execStopTable h0 words s) := by
  unfold execStopTable
  repeat' first
    | with_reducible assumption | exact fun _ => rfl | (intro t a ht; beta_reduce) | (intro t ht; beta_reduce) | with_reducible apply next_nexts
    | with_reducible apply guardId_nexts | with_reducible apply fault_nexts | with_reducible apply recvVat_keeps | with_reducible apply modDbg_keeps
    | with_reducible apply stopDone_keeps
    | (extract_lets +onlyGivenNames x; refine (fun (hx : Keeps kp s0 x) => ?_ : Keeps kp s0 x → _) ?_; (on_goal 2 => subst x); (on_goal 1 => clear_value x))
    | (extract_lets +onlyGivenNames x; clear_value x)
    | split
theorem execSysRstNAssert_keeps (h : Keeps kp s0 s) :
    Nexts kp s0 (execSysRstNAssert s) := by
  unfold execSysRstNAssert
  repeat' first
    | with_reducible assumption | exact fun _ => rfl | (intro t a ht; beta_reduce) | (intro t ht; beta_reduce) | with_reducible apply next_nexts
    | with_reducible apply guardId_nexts | with_reducible apply fault_nexts | with_reducible apply holdReset_keeps
    | with_reducible apply modPkg_keeps | split
theorem execSysRstNRelease_keeps (h : Keeps kp s0 s) :
    Nexts kp s0 (execSysRstNRelease s) := by
  unfold execSysRstNRelease
  repeat' first
    | with_reducible assumption | exact fun _ => rfl | (intro t a ht; beta_reduce) | (intro t ht; beta_reduce) | with_reducible apply next_nexts
    | with_reducible apply guardId_nexts | with_reducible apply fault_nexts | with_reducible apply bringUp_keeps | with_reducible apply modPkg_keeps
    | split
theorem execTagRevoke_keeps (h0 : Hdr) (die tag : Nat) (h : Keeps kp s0 s) :
    Nexts kp s0 (execTagRevoke h0 die tag s) := by
  unfold execTagRevoke
  repeat' first
    | with_reducible assumption | exact fun _ => rfl | (intro t a ht; beta_reduce) | (intro t ht; beta_reduce) | with_reducible apply next_nexts
    | with_reducible apply guardId_nexts | with_reducible apply fault_nexts | with_reducible apply recvCmd_keeps | with_reducible apply modDie_keeps
    | with_reducible apply stopRollbacks_keeps | with_reducible apply issueStopped_keeps | with_reducible apply each_keepsS
    | with_reducible apply stopIssue_keeps | split
theorem execTapSelftestDone_keeps (core cases : Nat) (h : Keeps kp s0 s) :
    Nexts kp s0 (execTapSelftestDone core cases s) := by
  unfold execTapSelftestDone
  repeat' first
    | with_reducible assumption | exact fun _ => rfl | (intro t a ht; beta_reduce) | (intro t ht; beta_reduce) | with_reducible apply next_nexts
    | with_reducible apply guardId_nexts | with_reducible apply fault_nexts | with_reducible apply modCore_keeps
    | with_reducible apply whenActing_keeps | with_reducible apply agentCount_keeps | with_reducible apply noteUnit_keeps
    | with_reducible apply afterStage_keeps | with_reducible apply modTriage_keeps | with_reducible apply bistBlock_keeps
    | with_reducible apply modPkg_keeps | with_reducible apply coreFail_keeps
    | (extract_lets +onlyGivenNames x; refine (fun (hx : Keeps kp s0 x) => ?_ : Keeps kp s0 x → _) ?_; (on_goal 2 => subst x); (on_goal 1 => clear_value x))
    | (extract_lets +onlyGivenNames x; clear_value x)
    | split
theorem execTeardownDrainEnd_keeps (ctx discarded : Nat) (barrier : Bool) (h : Keeps kp s0 s) :
    Nexts kp s0 (execTeardownDrainEnd ctx discarded barrier s) := by
  unfold execTeardownDrainEnd
  repeat' first
    | with_reducible assumption | exact fun _ => rfl | (intro t a ht; beta_reduce) | (intro t ht; beta_reduce) | with_reducible apply next_nexts
    | with_reducible apply guardId_nexts | with_reducible apply fault_nexts | with_reducible apply whenActing_keeps
    | with_reducible apply stopRollbacks_keeps | with_reducible apply killPool_keeps | with_reducible apply each_keepsS
    | with_reducible apply killLc_keeps | with_reducible apply killSnap_keeps | with_reducible apply dropBrk_keeps
    | with_reducible apply modSh_keeps | with_reducible apply settleAll_keeps | with_reducible apply modDie_keeps | with_reducible apply emit_keeps
    | with_reducible apply modCtx_keeps | with_reducible apply record_keeps | with_reducible apply endRuns_keeps | with_reducible apply endOp_keeps
    | with_reducible apply mirror_keeps | split
theorem execTeardownOverrun_keeps (ctx : Nat) (cores : List Nat) (h : Keeps kp s0 s) :
    Nexts kp s0 (execTeardownOverrun ctx cores s) := by
  unfold execTeardownOverrun
  repeat' first
    | with_reducible assumption | exact fun _ => rfl | (intro t a ht; beta_reduce) | (intro t ht; beta_reduce) | with_reducible apply next_nexts
    | with_reducible apply guardId_nexts | with_reducible apply fault_nexts | with_reducible apply whenActing_keeps
    | with_reducible apply each_keepsS | with_reducible apply requestCore_keeps | with_reducible apply escalate_keeps | split
theorem execTempSample_keeps (die sensor raw : Nat) (h : Keeps kp s0 s) :
    Nexts kp s0 (execTempSample die sensor raw s) := by
  unfold execTempSample
  repeat' first
    | with_reducible assumption | with_reducible apply next_nexts | with_reducible apply guardId_nexts | with_reducible apply fault_nexts
    | with_reducible apply takeTemp_keeps | split
theorem execTicketRead_keeps (rq : Req) (ticket : Nat) (h : Keeps kp s0 s) :
    Nexts kp s0 (execTicketRead rq ticket s) := by
  unfold execTicketRead
  repeat' first
    | with_reducible assumption | exact fun _ => rfl | (intro t a ht; beta_reduce) | (intro t ht; beta_reduce) | with_reducible apply next_nexts
    | with_reducible apply guardId_nexts | with_reducible apply fault_nexts | with_reducible apply command_keeps | with_reducible apply refuse_keeps
    | with_reducible apply finish_keeps | split
theorem execTicketState_keeps (core : Nat) (h : Keeps kp s0 s) :
    Nexts kp s0 (execTicketState core s) := by
  unfold execTicketState
  repeat' first
    | with_reducible assumption | with_reducible apply next_nexts | with_reducible apply guardId_nexts | with_reducible apply fault_nexts
    | with_reducible apply ticketState_keeps
theorem execTortyCommit_keeps (rq : Req) (kind len activation dieMask : Nat) (h : Keeps kp s0 s) :
    Nexts kp s0 (execTortyCommit rq kind len activation dieMask s) := by
  unfold execTortyCommit
  repeat' first
    | with_reducible assumption | exact fun _ => rfl | (intro t a ht; beta_reduce) | (intro t ht; beta_reduce) | with_reducible apply next_nexts
    | with_reducible apply guardId_nexts | with_reducible apply fault_nexts | with_reducible apply command_keeps | with_reducible apply finish_keeps
    | with_reducible apply refuse_keeps | with_reducible apply record_keeps | with_reducible apply beginRun_keeps
    | with_reducible apply openDist_keeps | with_reducible apply modPkg_keeps | with_reducible apply modFlash_keeps
    | (extract_lets +onlyGivenNames x; refine (fun (hx : Keeps kp s0 x) => ?_ : Keeps kp s0 x → _) ?_; (on_goal 2 => subst x); (on_goal 1 => clear_value x))
    | (extract_lets +onlyGivenNames x; clear_value x)
    | split
theorem execTortyFlashWriteDone_keeps (kind : Nat) (h : Keeps kp s0 s) :
    Nexts kp s0 (execTortyFlashWriteDone kind s) := by
  unfold execTortyFlashWriteDone
  repeat' first
    | with_reducible assumption | exact fun _ => rfl | (intro t a ht; beta_reduce) | (intro t ht; beta_reduce) | with_reducible apply next_nexts
    | with_reducible apply guardId_nexts | with_reducible apply fault_nexts | with_reducible apply openDist_keeps
    | with_reducible apply modPkg_keeps | with_reducible apply modFlash_keeps
    | (extract_lets +onlyGivenNames x; refine (fun (hx : Keeps kp s0 x) => ?_ : Keeps kp s0 x → _) ?_; (on_goal 2 => subst x); (on_goal 1 => clear_value x))
    | (extract_lets +onlyGivenNames x; clear_value x)
    | split
theorem execTortyWrite_keeps (rq : Req) (chunk : Nat) (bytes : List Byte) (h : Keeps kp s0 s) :
    Nexts kp s0 (execTortyWrite rq chunk bytes s) := by
  unfold execTortyWrite
  repeat' first
    | with_reducible assumption | exact fun _ => rfl | (intro t a ht; beta_reduce) | (intro t ht; beta_reduce) | with_reducible apply next_nexts
    | with_reducible apply guardId_nexts | with_reducible apply fault_nexts | with_reducible apply command_keeps | with_reducible apply finish_keeps
    | with_reducible apply modSh_keeps | split
theorem execTransitFrame_keeps (die port : Nat) (flits : List Nat) (h : Keeps kp s0 s) :
    Nexts kp s0 (execTransitFrame die port flits s) := by
  unfold execTransitFrame
  repeat' first
    | with_reducible assumption | exact fun _ => rfl | (intro t a ht; beta_reduce) | (intro t ht; beta_reduce) | with_reducible apply next_nexts
    | with_reducible apply guardId_nexts | with_reducible apply fault_nexts | with_reducible apply returnCredit_keeps
    | with_reducible apply linkError_keeps | with_reducible apply takeSegment_keeps | with_reducible apply ack_keeps
    | with_reducible apply enqueue_keeps
    | (extract_lets +onlyGivenNames x; refine (fun (hx : Keeps kp s0 x) => ?_ : Keeps kp s0 x → _) ?_; (on_goal 2 => subst x); (on_goal 1 => clear_value x))
    | (extract_lets +onlyGivenNames x; clear_value x)
    | split
theorem execTriageStageADone_keeps (core : Nat) (r : ReplayEnd) (digest : List Nat) (h : Keeps kp s0 s) :
    Nexts kp s0 (execTriageStageADone core r digest s) := by
  unfold execTriageStageADone
  repeat' first
    | with_reducible assumption | exact fun _ => rfl | (intro t a ht; beta_reduce) | (intro t ht; beta_reduce) | with_reducible apply next_nexts
    | with_reducible apply guardId_nexts | with_reducible apply fault_nexts | with_reducible apply whenActing_keeps
    | with_reducible apply closeA_keeps | with_reducible apply feedReplay_keeps | with_reducible apply modCore_keeps
    | with_reducible apply endA_keeps | with_reducible apply closeTicket_keeps | with_reducible apply breakA_keeps
    | with_reducible apply detach_keeps | with_reducible apply verdictFor_keeps | with_reducible apply afterStage_keeps | split
theorem execTriageStageBDone_keeps (core : Nat) (r : ReplayEnd) (digest : List Nat) (h : Keeps kp s0 s) :
    Nexts kp s0 (execTriageStageBDone core r digest s) := by
  unfold execTriageStageBDone
  repeat' first
    | with_reducible assumption | exact fun _ => rfl | (intro t a ht; beta_reduce) | (intro t ht; beta_reduce) | with_reducible apply next_nexts
    | with_reducible apply guardId_nexts | with_reducible apply fault_nexts | with_reducible apply whenActing_keeps
    | with_reducible apply replayed_keeps | with_reducible apply afterStage_keeps | with_reducible apply closeB_keeps
    | with_reducible apply feedReplay_keeps | with_reducible apply closeTicket_keeps | with_reducible apply modTriage_keeps
    | with_reducible apply goOn_keeps | with_reducible apply detach_keeps | with_reducible apply verdictFor_keeps
    | (extract_lets +onlyGivenNames x; refine (fun (hx : Keeps kp s0 x) => ?_ : Keeps kp s0 x → _) ?_; (on_goal 2 => subst x); (on_goal 1 => clear_value x))
    | (extract_lets +onlyGivenNames x; clear_value x)
    | split
theorem execTxnResendTimeout_keeps (die cls seq : Nat) (h : Keeps kp s0 s) :
    Nexts kp s0 (execTxnResendTimeout die cls seq s) := by
  unfold execTxnResendTimeout
  repeat' first
    | with_reducible assumption | with_reducible apply next_nexts | with_reducible apply guardId_nexts | with_reducible apply fault_nexts
    | with_reducible apply emit_keeps | with_reducible apply inject_keeps | with_reducible apply modFelt_keeps | with_reducible apply rollAll_keeps
    | with_reducible apply txnFailed_keeps | split
theorem execUcodeBankSwitch_keeps (die : Nat) (h : Keeps kp s0 s) :
    Nexts kp s0 (execUcodeBankSwitch die s) := by
  unfold execUcodeBankSwitch
  repeat' first
    | with_reducible assumption | with_reducible apply next_nexts | with_reducible apply guardId_nexts | with_reducible apply fault_nexts
    | with_reducible apply activated_keeps | with_reducible apply dieRing_keeps | with_reducible apply modFurnish_keeps | split
theorem execUncorrCw_keeps (die engine lane : Nat) (h : Keeps kp s0 s) :
    Nexts kp s0 (execUncorrCw die engine lane s) := by
  unfold execUncorrCw
  repeat' first
    | with_reducible assumption | with_reducible apply next_nexts | with_reducible apply guardId_nexts | with_reducible apply fault_nexts
    | with_reducible apply emit_keeps | with_reducible apply agentCount_keeps
theorem execUnsupportedPldmCommand_keeps (hub : Hub) (pldmType command : Nat) (h : Keeps kp s0 s) :
    Nexts kp s0 (execUnsupportedPldmCommand hub pldmType command s) := by
  unfold execUnsupportedPldmCommand
  repeat' first
    | with_reducible assumption | with_reducible apply next_nexts | with_reducible apply guardId_nexts | with_reducible apply fault_nexts
    | with_reducible apply pldmReply_keeps
theorem execVatBLoadStart_keeps (h : Keeps kp s0 s) :
    Nexts kp s0 (execVatBLoadStart s) := by
  unfold execVatBLoadStart
  repeat' first
    | with_reducible assumption | with_reducible apply next_nexts | with_reducible apply guardId_nexts | with_reducible apply fault_nexts
    | with_reducible apply modVat_keeps | split
theorem execVatClearAptDrop_keeps (a : Access) (v : Word) (h : Keeps kp s0 s) :
    Nexts kp s0 (execVatClearAptDrop a v s) := by
  unfold execVatClearAptDrop
  repeat' first
    | with_reducible assumption | with_reducible apply next_nexts | with_reducible apply guardId_nexts | with_reducible apply fault_nexts
    | with_reducible apply accessWrite_keeps
theorem execVatClearPrivDeny_keeps (a : Access) (v : Word) (h : Keeps kp s0 s) :
    Nexts kp s0 (execVatClearPrivDeny a v s) := by
  unfold execVatClearPrivDeny
  repeat' first
    | with_reducible assumption | with_reducible apply next_nexts | with_reducible apply guardId_nexts | with_reducible apply fault_nexts
    | with_reducible apply accessWrite_keeps
theorem execVatClearReplAgree_keeps (a : Access) (v : Word) (h : Keeps kp s0 s) :
    Nexts kp s0 (execVatClearReplAgree a v s) := by
  unfold execVatClearReplAgree
  repeat' first
    | with_reducible assumption | with_reducible apply next_nexts | with_reducible apply guardId_nexts | with_reducible apply fault_nexts
    | with_reducible apply accessWrite_keeps
theorem execVatCplDataRead_keeps (a : Access) (h : Keeps kp s0 s) :
    Nexts kp s0 (execVatCplDataRead a s) := by
  unfold execVatCplDataRead
  repeat' first
    | with_reducible assumption | with_reducible apply next_nexts | with_reducible apply guardId_nexts | with_reducible apply fault_nexts
    | with_reducible apply accessRead_keeps
theorem execVatCplDataWrite_keeps (a : Access) (v : Word) (h : Keeps kp s0 s) :
    Nexts kp s0 (execVatCplDataWrite a v s) := by
  unfold execVatCplDataWrite
  repeat' first
    | with_reducible assumption | with_reducible apply next_nexts | with_reducible apply guardId_nexts | with_reducible apply fault_nexts
    | with_reducible apply accessWrite_keeps
theorem execVatCplForwardTimeout_keeps (id : Nat) (h : Keeps kp s0 s) :
    Nexts kp s0 (execVatCplForwardTimeout id s) := by
  unfold execVatCplForwardTimeout
  repeat' first
    | with_reducible assumption | with_reducible apply next_nexts | with_reducible apply guardId_nexts | with_reducible apply fault_nexts
    | with_reducible apply fail_keeps | with_reducible apply modSh_keeps | split
theorem execVatFailed_keeps (h0 : Hdr) (_trigger : Nat) (h : Keeps kp s0 s) :
    Nexts kp s0 (execVatFailed h0 _trigger s) := by
  unfold execVatFailed
  repeat' first
    | with_reducible assumption | exact fun _ => rfl | (intro t a ht; beta_reduce) | (intro t ht; beta_reduce) | with_reducible apply next_nexts
    | with_reducible apply guardId_nexts | with_reducible apply fault_nexts | with_reducible apply recv_keeps
    | with_reducible apply sendDepose_keeps | split
theorem execVatHealth_keeps (rq : Req) (h : Keeps kp s0 s) :
    Nexts kp s0 (execVatHealth rq s) := by
  unfold execVatHealth
  repeat' first
    | with_reducible assumption | exact fun _ => rfl | (intro t a ht; beta_reduce) | (intro t ht; beta_reduce) | with_reducible apply next_nexts
    | with_reducible apply guardId_nexts | with_reducible apply fault_nexts | with_reducible apply command_keeps | with_reducible apply finish_keeps
    | split
theorem execVatSelfBistDone_keeps (hub : Hub) (logicOk memoryOk : Bool) (test : Nat) (h : Keeps kp s0 s) :
    Nexts kp s0 (execVatSelfBistDone hub logicOk memoryOk test s) := by
  unfold execVatSelfBistDone
  repeat' first
    | with_reducible assumption | with_reducible apply next_nexts | with_reducible apply guardId_nexts | with_reducible apply fault_nexts
    | with_reducible apply modVat_keeps | with_reducible apply bistBlock_keeps | with_reducible apply chooseVat_keeps | split
theorem execVatStandbyRetry_keeps (rq : Req) (h : Keeps kp s0 s) :
    Nexts kp s0 (execVatStandbyRetry rq s) := by
  unfold execVatStandbyRetry
  repeat' first
    | with_reducible assumption | exact fun _ => rfl | (intro t a ht; beta_reduce) | (intro t ht; beta_reduce) | with_reducible apply next_nexts
    | with_reducible apply guardId_nexts | with_reducible apply fault_nexts | with_reducible apply command_keeps | with_reducible apply finish_keeps
    | with_reducible apply modVat_keeps
    | (extract_lets +onlyGivenNames x; refine (fun (hx : Keeps kp s0 x) => ?_ : Keeps kp s0 x → _) ?_; (on_goal 2 => subst x); (on_goal 1 => clear_value x))
    | (extract_lets +onlyGivenNames x; clear_value x)
    | split
theorem execVatSwitch_keeps (rq : Req) (h : Keeps kp s0 s) :
    Nexts kp s0 (execVatSwitch rq s) := by
  unfold execVatSwitch
  repeat' first
    | with_reducible assumption | exact fun _ => rfl | (intro t a ht; beta_reduce) | (intro t ht; beta_reduce) | with_reducible apply next_nexts
    | with_reducible apply guardId_nexts | with_reducible apply fault_nexts | with_reducible apply command_keeps | with_reducible apply finish_keeps
    | with_reducible apply beginRun_keeps | with_reducible apply startSwitch_keeps | with_reducible apply modSh_keeps
    | (extract_lets +onlyGivenNames x; refine (fun (hx : Keeps kp s0 x) => ?_ : Keeps kp s0 x → _) ?_; (on_goal 2 => subst x); (on_goal 1 => clear_value x))
    | (extract_lets +onlyGivenNames x; clear_value x)
    | split
theorem execVerdict_keeps (h0 : Hdr) (ticket : Nat) (pass : Bool) (h : Keeps kp s0 s) :
    Nexts kp s0 (execVerdict h0 ticket pass s) := by
  unfold execVerdict
  repeat' first
    | with_reducible assumption | exact fun _ => rfl | (intro t a ht; beta_reduce) | (intro t ht; beta_reduce) | with_reducible apply next_nexts
    | with_reducible apply guardId_nexts | with_reducible apply fault_nexts | with_reducible apply recvCmd_keeps
    | with_reducible apply retryAll_keeps | with_reducible apply takeVerdict_keeps | split
theorem execVmonSample_keeps (die monitor raw nominal : Nat) (h : Keeps kp s0 s) :
    Nexts kp s0 (execVmonSample die monitor raw nominal s) := by
  unfold execVmonSample
  repeat' first
    | with_reducible assumption | exact fun _ => rfl | (intro t a ht; beta_reduce) | (intro t ht; beta_reduce) | with_reducible apply next_nexts
    | with_reducible apply guardId_nexts | with_reducible apply fault_nexts | with_reducible apply modCal_keeps
    | with_reducible apply beginCalHold_keeps | with_reducible apply agentCount_keeps | with_reducible apply endCalHold_keeps
    | with_reducible apply closeMram_keeps | with_reducible apply showWins_keeps | with_reducible apply closeFlash_keeps
    | (extract_lets +onlyGivenNames x; refine (fun (hx : Keeps kp s0 x) => ?_ : Keeps kp s0 x → _) ?_; (on_goal 2 => subst x); (on_goal 1 => clear_value x))
    | (extract_lets +onlyGivenNames x; clear_value x)
    | split
theorem execWatchClear_keeps (rq : Req) (lc index : Nat) (h : Keeps kp s0 s) :
    Nexts kp s0 (execWatchClear rq lc index s) := by
  unfold execWatchClear
  repeat' first
    | with_reducible assumption | exact fun _ => rfl | (intro t a ht; beta_reduce) | (intro t ht; beta_reduce) | with_reducible apply next_nexts
    | with_reducible apply guardId_nexts | with_reducible apply fault_nexts | with_reducible apply command_keeps | with_reducible apply refuse_keeps
    | with_reducible apply finish_keeps | with_reducible apply putWatch_keeps | split
theorem execWatchSet_keeps (rq : Req) (index lc base len kinds tagMatch action : Nat) (h : Keeps kp s0 s) :
    Nexts kp s0 (execWatchSet rq index lc base len kinds tagMatch action s) := by
  unfold execWatchSet
  repeat' first
    | with_reducible assumption | exact fun _ => rfl | (intro t a ht; beta_reduce) | (intro t ht; beta_reduce) | with_reducible apply next_nexts
    | with_reducible apply guardId_nexts | with_reducible apply fault_nexts | with_reducible apply command_keeps | with_reducible apply refuse_keeps
    | with_reducible apply finish_keeps | with_reducible apply putWatch_keeps | split
theorem execWmDie_keeps (h0 : Hdr) (ctx layer oper : Nat) (r : DigestRec) (h : Keeps kp s0 s) :
    Nexts kp s0 (execWmDie h0 ctx layer oper r s) := by
  unfold execWmDie
  repeat' first
    | with_reducible assumption | exact fun _ => rfl | (intro t a ht; beta_reduce) | (intro t ht; beta_reduce) | with_reducible apply next_nexts
    | with_reducible apply guardId_nexts | with_reducible apply fault_nexts | with_reducible apply recvVat_keeps | with_reducible apply modCtx_keeps
    | with_reducible apply checkTotal_keeps | with_reducible apply operMark_keeps
    | (extract_lets +onlyGivenNames x; refine (fun (hx : Keeps kp s0 x) => ?_ : Keeps kp s0 x → _) ?_; (on_goal 2 => subst x); (on_goal 1 => clear_value x))
    | (extract_lets +onlyGivenNames x; clear_value x)
    | split
theorem execWmKeySet_keeps (rq : Req) (k0 k1 : Nat) (h : Keeps kp s0 s) :
    Nexts kp s0 (execWmKeySet rq k0 k1 s) := by
  unfold execWmKeySet
  repeat' first
    | with_reducible assumption | exact fun _ => rfl | (intro t a ht; beta_reduce) | (intro t ht; beta_reduce) | with_reducible apply next_nexts
    | with_reducible apply guardId_nexts | with_reducible apply fault_nexts | with_reducible apply command_keeps | with_reducible apply finish_keeps
    | with_reducible apply mirror_keeps | with_reducible apply modCtx_keeps | split | (intro g; split <;> rfl)
    | (extract_lets +onlyGivenNames x; refine (fun (hx : Keeps kp s0 x) => ?_ : Keeps kp s0 x → _) ?_; (on_goal 2 => subst x); (on_goal 1 => clear_value x))
    | (extract_lets +onlyGivenNames x; refine (fun (hx : Keeps kp s0 x.1) => ?_ : Keeps kp s0 x.1 → _) ?_; (on_goal 2 => subst x); (on_goal 1 => clear_value x))
    | (extract_lets +onlyGivenNames x; refine (fun (hx : Keeps kp s0 x.2) => ?_ : Keeps kp s0 x.2 → _) ?_; (on_goal 2 => subst x); (on_goal 1 => clear_value x))
    | (extract_lets +onlyGivenNames x; have : ∀ z, x z = x z := fun _ => rfl; clear this; subst x; beta_reduce)
    | (extract_lets +onlyGivenNames x; clear_value x)
    | extract_lets +onlyGivenNames x
theorem count_factory (g : Pkg) : factory kp g.count = factory kp g := by
  unfold Pkg.count
  by_cases h1 : g.voidReasons = 0 <;> by_cases h2 : g.voidFrac + 1 < 878906250 <;> by_cases h3 : g.hoursFrac + 1 < 878906250 <;>
    simp [h1, h2, h3, factory]
theorem execWmLocate_keeps (rq : Req) (refs : List RefRec) (samePlan : Bool) (h : Keeps kp s0 s) :
    Nexts kp s0 (execWmLocate rq refs samePlan s) := by
  unfold execWmLocate
  repeat' first
    | with_reducible assumption | exact fun _ => rfl | (intro t a ht; beta_reduce) | (intro t ht; beta_reduce) | with_reducible apply next_nexts
    | with_reducible apply guardId_nexts | with_reducible apply fault_nexts | with_reducible apply command_keeps
    | with_reducible apply runLocate_keeps | with_reducible apply finish_keeps | split
theorem execWmRead_keeps (rq : Req) (first count : Nat) (h : Keeps kp s0 s) :
    Nexts kp s0 (execWmRead rq first count s) := by
  unfold execWmRead
  repeat' first
    | with_reducible assumption | exact fun _ => rfl | (intro t a ht; beta_reduce) | (intro t ht; beta_reduce) | with_reducible apply next_nexts
    | with_reducible apply guardId_nexts | with_reducible apply fault_nexts | with_reducible apply command_keeps | with_reducible apply finish_keeps
    | split
theorem execWmVerifyReadDone_keeps (ctx : Nat) (recs : List DigestRec) (h : Keeps kp s0 s) :
    Nexts kp s0 (execWmVerifyReadDone ctx recs s) := by
  unfold execWmVerifyReadDone
  repeat' first
    | with_reducible assumption | with_reducible apply next_nexts | with_reducible apply guardId_nexts | with_reducible apply fault_nexts
    | with_reducible apply modSh_keeps | with_reducible apply expectMismatch_keeps | with_reducible apply endOp_keeps | split
theorem execWmVerify_keeps (rq : Req) (h : Keeps kp s0 s) :
    Nexts kp s0 (execWmVerify rq s) := by
  unfold execWmVerify
  repeat' first
    | with_reducible assumption | exact fun _ => rfl | (intro t a ht; beta_reduce) | (intro t ht; beta_reduce) | with_reducible apply next_nexts
    | with_reducible apply guardId_nexts | with_reducible apply fault_nexts | with_reducible apply command_keeps | with_reducible apply finish_keeps
    | with_reducible apply beginRun_keeps | with_reducible apply modSh_keeps | split
theorem execXpkgWait_keeps (core : Nat) (h : Keeps kp s0 s) :
    Nexts kp s0 (execXpkgWait core s) := by
  unfold execXpkgWait
  repeat' first
    | with_reducible assumption | with_reducible apply next_nexts | with_reducible apply guardId_nexts | with_reducible apply fault_nexts
    | with_reducible apply record_keeps | split
theorem idle_keeps (h : Keeps kp s0 s) : Keeps kp s0 s.idle := by
  unfold State.idle
  split
  · extract_lets x y
    have hx : Keeps kp s0 x := { h with factory := (count_factory s.pkg).trans h.factory }
    have hy : Keeps kp s0 y := endSwitchWait_keeps (takeDue_keeps hx)
    split
    · exact clearOverdue_keeps hy
    · exact hy
  · exact h

end Sys2Proof.Machine
end

