-- ==== Sys2Proof/WellFormed.lean ====
section
/-! DEFINITION. Which commands are well formed: every operand fits the field that carries it. -/

namespace Sys2Proof

/-- A number fits below a bound. -/
def below (n x : Nat) : Bool := decide (x < n)

/-- A path names a slot of the aperture, or an endpoint ID of 8 bits (R406, R375). -/
def Path.ok : Path → Bool
  | .aperture k => decide (k < 64)
  | .mgmt _ e => decide (e < 256)
  | .i3c _ e => decide (e < 256)

/-- A packet header's fields fit their widths (Table 13.1), the halves of its signature theirs (R422). -/
def Req.ok (r : Req) : Bool :=
  r.path.ok && decide (r.tag < 65536) && decide (r.ctx < 65536) && decide (r.session < 65536) && decide (r.token < 2 ^ 48) &&
  decide (r.crc < 2 ^ 32) && decide (r.sigR < 2 ^ 384) && decide (r.sigS < 2 ^ 384)

/-- A frame header's fields fit their widths (Table 11.4, R318). -/
def Hdr.ok (h : Hdr) : Bool :=
  decide (h.src < 128) && decide (h.seq < 65536) && decide (h.ring < 2) && decide (h.epoch < 2 ^ 32)

/-- An access carries a 40-bit address (R10) and a 16-bit tag (R486). -/
def Access.ok (a : Access) : Bool := decide (a.addr < 2 ^ 40) && a.tag.all (below 65536)

/-- A destination's logical core ID fits its 14 bits (Table 0.3). -/
def Dest.ok : Dest → Bool
  | .lc n => decide (n < 16384)
  | .host => true
  | .package => true

/-- A digest record's fields fit Table 4.2. -/
def DigestRec.ok (r : DigestRec) : Bool :=
  decide (r.tensor < 2 ^ 32) && decide (r.pass < 2 ^ 32) && decide (r.count < 2 ^ 48) && decide (r.flags < 65536) && decide (r.d0 < 2 ^ 61) &&
  decide (r.d1 < 2 ^ 61)

/-- A reference record's logical core and digest fit (R146). -/
def RefRec.ok (r : RefRec) : Bool := r.lc.all (below 16384) && r.digest.ok

/-- A pair report's identifiers fit (Table 0.3, R116). -/
def PairReport.ok (r : PairReport) : Bool :=
  decide (r.ctx < 4096) && decide (r.lc < 16384) && decide (r.partner < 16384) && decide (r.layer < 65536) && decide (r.oper < 65536) &&
  decide (r.ticket < 262144) && decide (r.da < 2 ^ 64) && decide (r.dr < 2 ^ 64)

/-- A Laid report's identifiers fit (Table 0.3, R111). -/
def LaidReport.ok (r : LaidReport) : Bool :=
  decide (r.ctx < 4096) && decide (r.layer < 65536) && decide (r.oper < 65536) && decide (r.lc < 16384) && decide (r.anchor < 16384) &&
  decide (r.ticket < 262144)

/-- A fence order's entry fits 16 bits, its core and cluster their fields (R257, R258). -/
def FenceOrder.ok : FenceOrder → Bool
  | .phys c e => decide (c < 65536) && decide (e < 65536)
  | .home i e => decide (i < 256) && decide (e < 65536)
  | .resetCore c => decide (c < 65536)
  | .resetCluster c => decide (c < 16)

/-- A hang walk names logical cores and a context (R269). -/
def WalkStep.ok (w : WalkStep) : Bool := w.chain.all (below 16384) && decide (w.ctx < 4096)

/-- A transfer's destination and tag fit (R165). -/
def Xfer.ok (x : Xfer) : Bool := decide (x.dstLc < 16384) && decide (x.tag < 65536)

/-- A reference to a release unit fits the ticket table and its RSEQ field (Table 0.3, R156). -/
def UnitRef.ok (r : UnitRef) : Bool := below 262144 r.ticket && r.rseq.all (below (2 ^ 32))

/-- A rounded group's place fits the limits of the index map (R136). -/
def GroupAt.ok (a : GroupAt) : Bool := decide (a.row < 2 ^ 40) && decide (a.col < 2 ^ 40) && decide (a.tau < 2 ^ 40)

/-- A scratchpad access lies in the scratchpad's address range, its tag and its writer's ticket fit (Table 1.1, Table 0.3). -/
def SpadAccess.ok (x : SpadAccess) : Bool := decide (x.off < 2 ^ 32) && decide (x.tag < 65536) && x.writer.all (below 262144)

/-- A die-local command's register offset and tag fit (Table 11.6). -/
def AgentOp.ok : AgentOp → Bool
  | .read _ off _ tag => decide (off < 2 ^ 20) && tag.all (below 65536)
  | .write _ off _ _ tag => decide (off < 2 ^ 20) && tag.all (below 65536)
  | .selfTest c => decide (c < 65536)
  | .unpark c => decide (c < 65536)

/-- A group table's group, epoch and ranks fit (R308). -/
def GroupTable.ok (g : GroupTable) : Bool := decide (g.id < 65536) && decide (g.epoch < 2 ^ 32) && decide (g.ranks < 65536) && decide (g.rank < 65536)

/-- A health report's fields fit (R337). -/
def Health.ok (r : Health) : Bool := decide (r.role < 256) && decide (r.mirrorSeq < 2 ^ 32) && decide (r.serial < 2 ^ 32)

/-- A reaction names a source (Table 0.3). -/
def Reaction.ok (r : Reaction) : Bool := decide (r.source < 2 ^ 20)

/-- A batch of increments names a source, and its number fits 8 bits (R25). -/
def CountBatch.ok (b : CountBatch) : Bool := decide (b.source < 2 ^ 20) && decide (b.count < 256)

/-- One lane's ID and counts fit their fields (R380). -/
def LaneCount.ok (c : LaneCount) : Bool :=
  decide (c.lane < 65536) && decide (c.bits < 2 ^ 64) && decide (c.errors < 2 ^ 64) && decide (c.codewords < 2 ^ 32) && decide (c.corrected < 2 ^ 32) &&
    decide (c.uncorrectable < 2 ^ 32)

/-- A dump unit's fields fit (Table 14.12). -/
def DumpUnit.ok (u : DumpUnit) : Bool :=
  decide (u.kind < 65536) && decide (u.unit < 65536) && decide (u.offset < 2 ^ 32) && decide (u.length < 2 ^ 32)

/-- The configuration fields of a load fit their parameters (Table 13.6). -/
def LoadFields.ok (f : LoadFields) : Bool :=
  decide (f.poisonMode < 256) && decide (f.autoSnap < 256) && decide (f.hangT < 2 ^ 32) && decide (f.xwaitT < 2 ^ 32) && decide (f.riskT < 2 ^ 32) &&
  decide (f.snapMin < 2 ^ 32) && decide (f.planSha < 2 ^ 384)

/-- A manifest's ID, step counts and group table fit (Table 9.6). -/
def Manifest.ok (m : Manifest) : Bool :=
  decide (m.id < 2 ^ 32) && m.steps.all (fun e => decide (e.1 < 16384) && decide (e.2 < 2 ^ 64)) && m.group.ok

/-- A command is well formed: every identifier, header and word fits its field. -/
def Instr.wf : Instr → Bool
  | .registerWrite a _ => a.ok
  | .registerLoRead a => a.ok
  | .mtpWmOperRead a => a.ok
  | .mtpStallLoRead a => a.ok
  | .vatCplDataRead a => a.ok
  | .vatCplDataWrite a _ => a.ok
  | .vatCplForwardTimeout _ => true
  | .vatClearReplAgree a _ => a.ok
  | .vatClearPrivDeny a _ => a.ok
  | .vatClearAptDrop a _ => a.ok
  | .seqCmpEnWrite a _ => a.ok
  | .mtpWinCmdOpen a _ => a.ok
  | .mtpWinCmdClose a _ => a.ok
  | .aperturePacketWrite a _ => a.ok
  | .ident rq => rq.ok
  | .authOpen rq _ keyId => rq.ok && decide (keyId < 2 ^ 32)
  | .authProve rq session => rq.ok && decide (session < 65536)
  | .authProveWindowExpiry session => decide (session < 65536)
  | .authClose rq => rq.ok
  | .sessionExpiry session => decide (session < 65536)
  | .vatHealth rq => rq.ok
  | .ctxLoad rq f _ => rq.ok && f.ok
  | .launchAt rq _ => rq.ok
  | .ctxKill rq => rq.ok
  | .ctxStatus rq => rq.ok
  | .relaxSet rq part _ => rq.ok && decide (part < 256)
  | .relaxRead rq part _ => rq.ok && decide (part < 256)
  | .faultRead rq _ _ => rq.ok
  | .faultCfg rq _ _ _ _ _ _ => rq.ok
  | .faultZero rq _ _ => rq.ok
  | .faultClear rq source => rq.ok && decide (source < 2 ^ 20)
  | .faultPending rq => rq.ok
  | .deckleRead rq die _ => rq.ok && decide (die < 128)
  | .coreReturn rq pcore => rq.ok && decide (pcore < 65536)
  | .reset rq _ target => rq.ok && decide (target < 65536)
  | .ladderCfg rq part _ _ => rq.ok && decide (part < 256)
  | .partRelease rq part => rq.ok && decide (part < 256)
  | .oosEnter rq => rq.ok
  | .serviceResume rq => rq.ok
  | .wmKeySet rq _ _ => rq.ok
  | .wmRead rq _ _ => rq.ok
  | .wmVerify rq => rq.ok
  | .wmVerifyReadDone ctx recs => decide (ctx < 65536) && recs.all DigestRec.ok
  | .wmLocate rq refs _ => rq.ok && refs.all RefRec.ok
  | .replicaCfg rq group _ _ _ => rq.ok && decide (group < 65536)
  | .replicaExpel rq group _ => rq.ok && decide (group < 65536)
  | .replicaMembers rq _ _ => rq.ok
  | .ticketRead rq ticket => rq.ok && decide (ticket < 262144)
  | .screenRun rq pcore kind => rq.ok && decide (pcore < 65536) && decide (kind < 256)
  | .screenStatus rq => rq.ok
  | .tortyWrite rq _ _ => rq.ok
  | .tortyCommit rq kind _ _ _ => rq.ok && decide (kind < 256)
  | .tortyFlashWriteDone _ => true
  | .reamAreaSet rq die _ _ => rq.ok && decide (die < 128)
  | .snapBegin rq snap _ _ _ _ _ _ => rq.ok && decide (snap < 2 ^ 32)
  | .snapRelease rq snap => rq.ok && decide (snap < 2 ^ 32)
  | .restore rq snap _ man crc g => rq.ok && decide (snap < 2 ^ 32) && man.ok && decide (crc < 2 ^ 32) && g.ok
  | .groupSet rq g => rq.ok && g.ok
  | .reclaim rq _ _ => rq.ok
  | .snapDefault rq _ _ _ => rq.ok
  | .vatSwitch rq => rq.ok
  | .vatStandbyRetry rq => rq.ok
  | .fwBegin rq header => rq.ok && decide (header.length = 256)
  | .fwWrite rq _ _ => rq.ok
  | .fwCommit rq => rq.ok
  | .linkQual rq => rq.ok
  | .linkQualDone lanes => lanes.all LaneCount.ok
  | .linkQualRead rq _ _ => rq.ok
  | .feltStatus rq => rq.ok
  | .calSet rq _ _ _ => rq.ok
  | .sensorSubst rq die _ => rq.ok && decide (die < 128)
  | .analogLoopback rq _ _ _ => rq.ok
  | .sensorRead rq die => rq.ok && decide (die < 128)
  | .lifecycleSet rq _ => rq.ok
  | .keyEnroll rq _ keyId _ _ _ _ => rq.ok && decide (keyId < 2 ^ 32)
  | .keyRevoke rq _ keyId => rq.ok && decide (keyId < 2 ^ 32)
  | .licenceInstall rq raw => rq.ok && decide (raw.length = 256)
  | .licenceRead rq => rq.ok
  | .watchSet rq _ lc _ _ _ _ _ => rq.ok && decide (lc < 16384)
  | .watchClear rq lc _ => rq.ok && decide (lc < 16384)
  | .brkSet rq kind _ _ _ => rq.ok && decide (kind < 256)
  | .brkClear rq number => rq.ok && decide (number < 65536)
  | .brkResume rq _ => rq.ok
  | .gstop rq => rq.ok
  | .gstopRelease rq _ => rq.ok
  | .stopRead rq _ _ => rq.ok
  | .dump rq _ units => rq.ok && units.all DumpUnit.ok
  | .dumpRead rq _ _ => rq.ok
  | .ringRead rq _ _ _ _ _ => rq.ok
  | .counterRead rq pcore _ _ => rq.ok && decide (pcore < 65536)
  | .profRead rq die _ _ => rq.ok && decide (die < 128)
  | .profClear rq die => rq.ok && decide (die < 128)
  | .recRead rq _ _ _ => rq.ok
  | .recClear rq _ => rq.ok
  | .setEndpointId _ _ eid setter => decide (eid < 256) && decide (setter < 256)
  | .getEndpointId _ _ => true
  | .getMctpVersionSupport _ _ _ => true
  | .getMessageTypeSupport _ _ => true
  | .getVendorDefinedMessageSupport _ _ => true
  | .getTid _ => true
  | .getPldmVersion _ _ => true
  | .getPldmTypes _ => true
  | .getPldmCommands _ _ => true
  | .getPdrRepositoryInfo _ => true
  | .getPdr _ _ => true
  | .getSensorReading _ _ => true
  | .getStateSensorReadings _ _ => true
  | .entdaa _ _ => true
  | .bridgeInboundAdmit _ => true
  | .releaseUnitOpen core _ _ _ => decide (core < 65536)
  | .issueStep core _ _ _ _ => decide (core < 65536)
  | .accumulatorAdd core ticket _ _ _ _ _ => decide (core < 65536) && decide (ticket < 262144)
  | .laidCheckResolve core ticket _ _ => decide (core < 65536) && decide (ticket < 262144)
  | .roundedGroupCheck core ticket _ _ _ _ place _ => decide (core < 65536) && decide (ticket < 262144) && place.ok
  | .dispatchTallyCheck core ticket _ _ _ => decide (core < 65536) && decide (ticket < 262144)
  | .pairDigest h r => h.ok && r.ok
  | .laidRes h r => h.ok && r.ok
  | .scratchpadAccess core x => decide (core < 65536) && x.ok
  | .joinPartialArrival core ticket _ fromLc _ _ _ => decide (core < 65536) && decide (ticket < 262144) && decide (fromLc < 16384)
  | .releaseGateTransfer core ticket dst words _ _ => decide (core < 65536) && ticket.all UnitRef.ok && dst.ok && words.all (below (2 ^ 64))
  | .checkerRail core => decide (core < 65536)
  | .dataTransferArrival x => x.ok
  | .meshAccessAtFence die _ => decide (die < 128)
  | .d2dCodewordError die _ _ => decide (die < 128)
  | .routerBufferEcc die cluster _ => decide (die < 128) && cluster.all (below 16)
  | .clusterBufferEcc die cluster _ => decide (die < 128) && decide (cluster < 16)
  | .uncorrCw die _ _ => decide (die < 128)
  | .agentInternal die => decide (die < 128)
  | .ticketState core => decide (core < 65536)
  | .counterParity core _ => decide (core < 65536)
  | .verdict h ticket _ => h.ok && decide (ticket < 262144)
  | .faultReport h words => h.ok && words.all (below (2 ^ 32))
  | .triageStageADone core _ _ => decide (core < 65536)
  | .tapSelftestDone core _ => decide (core < 65536)
  | .spareFillDone lc _ _ => decide (lc < 16384)
  | .triageStageBDone core _ _ => decide (core < 65536)
  | .replacementReplayDone lc => decide (lc < 16384)
  | .replacementStart lc => decide (lc < 16384)
  | .plannedReplaceSpareTimeout lc => decide (lc < 16384)
  | .latePlacement lc spare => decide (lc < 16384) && decide (spare < 65536)
  | .poolLoan h die _ => h.ok && decide (die < 128)
  | .poolBlockReturn die => decide (die < 128)
  | .sizingWindowLeaseRequest core _ _ => decide (core < 65536)
  | .sizingWindowForfeit die => decide (die < 128)
  | .sliceStart die core => decide (die < 128) && decide (core < 65536)
  | .shiftSegmentDone die _ => decide (die < 128)
  | .sliceEnd die _ => decide (die < 128)
  | .leaseReq h _ => h.ok
  | .leaseGrant h die _ _ => h.ok && decide (die < 128)
  | .leaseReturn h => h.ok
  | .leaseExpiry die => decide (die < 128)
  | .leaseRetryTick die => decide (die < 128)
  | .leaseBlackoutEnd => true
  | .relaxedStallScan core _ _ => decide (core < 65536)
  | .screenLate core => decide (core < 65536)
  | .screenOverdue core => decide (core < 65536)
  | .fleetStale => true
  | .distOpen h die _ _ _ _ => h.ok && decide (die < 128)
  | .stagingCopyDone die => decide (die < 128)
  | .chunkPaceTick _ => true
  | .chunk die _ _ _ crc => decide (die < 128) && decide (crc < 2 ^ 32)
  | .distPoll h die _ => h.ok && decide (die < 128)
  | .bitmap h _ words => h.ok && words.all (below (2 ^ 32))
  | .payloadHashDone die => decide (die < 128)
  | .distAgentAnswer h _ _ => h.ok
  | .distArm h die _ _ => h.ok && decide (die < 128)
  | .distAckDeadline _ => true
  | .distDisarm h die _ => h.ok && decide (die < 128)
  | .distActivation die => decide (die < 128)
  | .ucodeBankSwitch die => decide (die < 128)
  | .firstStageForward die => decide (die < 128)
  | .countFwd h batches => h.ok && batches.all CountBatch.ok
  | .react h die r => h.ok && decide (die < 128) && r.ok
  | .nmi h die source => h.ok && decide (die < 128) && decide (source < 2 ^ 20)
  | .intPostTick => true
  | .msiAcceptTimeout => true
  | .notifySourceSecondEnd source => decide (source < 2 ^ 20)
  | .mgmtLinkUp _ => true
  | .mgmtLinkDown _ => true
  | .i3cNotifyRead => true
  | .notifyRelay h _ => h.ok
  | .hangWatchdogExpiry core => decide (core < 65536)
  | .hangWalk h w => h.ok && w.ok
  | .hangFreezeTimeout core => decide (core < 65536)
  | .tagRevoke h die tag => h.ok && decide (die < 128) && decide (tag < 65536)
  | .teardownDrainEnd ctx _ _ => decide (ctx < 65536)
  | .scrubDone ctx => decide (ctx < 65536)
  | .teardownOverrun ctx cores => decide (ctx < 65536) && cores.all (below 65536)
  | .fenceCmd h die o => h.ok && decide (die < 128) && o.ok
  | .freeze h die cores _ => h.ok && decide (die < 128) && cores.all (below 65536)
  | .genSet h die group _ => h.ok && decide (die < 128) && decide (group < 65536)
  | .domainResetDone _ _ => true
  | .resetOverrun _ _ => true
  | .agentResetDone die => decide (die < 128)
  | .powerCycleReqRepeat => true
  | .riskRecompute => true
  | .xpkgWait core => decide (core < 65536)
  | .snapPointReached lc => decide (lc < 16384)
  | .snapBarrierComplete ctx _ => decide (ctx < 65536)
  | .snapHolderAck ctx _ _ words _ _ _ => decide (ctx < 65536) && words.all (below (2 ^ 64))
  | .snapDeadlineExpiry ctx => decide (ctx < 65536)
  | .manifest h ctx man => h.ok && decide (ctx < 65536) && man.ok
  | .restoreGatherDone ctx _ _ _ => decide (ctx < 65536)
  | .reclaimAutoSnapTimeout ctx => decide (ctx < 65536)
  | .reclaimDeadline => true
  | .wmDie h ctx layer oper r => h.ok && decide (ctx < 65536) && decide (layer < 65536) && decide (oper < 65536) && r.ok
  | .replPart h ctx _ r => h.ok && decide (ctx < 65536) && r.ok
  | .replicaSlotRead ctx recs _ => decide (ctx < 65536) && recs.all DigestRec.ok
  | .replicaRereadDone ctx shards => decide (ctx < 65536) && shards.all fun e => below 65536 e.1 && e.2.ok
  | .replicaRereadExchange ctx group iter other otherInPass tensors _ => decide (ctx < 65536) && decide (group < 65536) && decide (iter < 2 ^ 32) &&
    other.ok && otherInPass.ok && tensors.all fun r => r.ok
  | .livePeriod => true
  | .live h die => h.ok && decide (die < 128)
  | .stbyLivePeriod => true
  | .stbyLive h r => h.ok && r.ok
  | .liveTimeout => true
  | .fwWatchdogExpiry => true
  | .activeVatFault _ source => decide (source < 2 ^ 20)
  | .vatFailed h _ => h.ok
  | .noStandbyReset => true
  | .gateConfirm h => h.ok
  | .deposeGateTimeout => true
  | .depose h die _ => h.ok && decide (die < 128)
  | .announce h die => h.ok && decide (die < 128)
  | .announceReturn h => h.ok
  | .epochStale h _ epoch => h.ok && decide (epoch < 2 ^ 32)
  | .stbyLiveTimeout => true
  | .mirror h seq => h.ok && decide (seq < 2 ^ 32)
  | .mirrorSynced => true
  | .standbySelftestItemDone _ _ => true
  | .vatBLoadStart => true
  | .fwLoadDone _ _ => true
  | .transitFrame die _ flits => decide (die < 128) && flits.all (below (2 ^ 40))
  | .feltSpacerTimeout die _ => decide (die < 128)
  | .feltAck h die _ _ _ => h.ok && decide (die < 128)
  | .credit die _ _ => decide (die < 128)
  | .idle die _ => decide (die < 128)
  | .probe die _ _ => decide (die < 128)
  | .echo die _ _ => decide (die < 128)
  | .probePeriod die _ => decide (die < 128)
  | .linkDown die _ => decide (die < 128)
  | .creditTimeout die _ => decide (die < 128)
  | .linkSilenceTimeout die _ => decide (die < 128)
  | .partialTxnTimeout die src _ => decide (die < 128) && decide (src < 128)
  | .txnResendTimeout die _ seq => decide (die < 128) && decide (seq < 65536)
  | .ringBreak h die _ _ => h.ok && decide (die < 128)
  | .ringJoin h die _ _ _ => h.ok && decide (die < 128)
  | .ringJoinActivation die _ => decide (die < 128)
  | .stationIsolation die => decide (die < 128)
  | .stationIsolated die => decide (die < 128)
  | .stopRise die => decide (die < 128)
  | .barrier h die tag gen => h.ok && decide (die < 128) && decide (tag < 65536) && gen.all (below 256)
  | .barrierDrained die seq => decide (die < 128) && decide (seq < 65536)
  | .bridged h payload => h.ok && payload.all (below (2 ^ 32))
  | .agentCmd h die op => h.ok && decide (die < 128) && op.ok
  | .agentReply h _ _ _ => h.ok
  | .laneBerWindowEnd c _ => c.ok
  | .feltLinkQualDone die _ _ _ => decide (die < 128)
  | .alignProbe h die _ => h.ok && decide (die < 128)
  | .alignEcho die neighbour _ _ _ _ => decide (die < 128) && decide (neighbour < 128)
  | .alignSet h die _ _ _ => h.ok && decide (die < 128)
  | .alignDone => true
  | .reelCompareTick die => decide (die < 128)
  | .reelCmp h die _ => h.ok && decide (die < 128)
  | .reelCorrectionResume die => decide (die < 128)
  | .reelLockLoss die => decide (die < 128)
  | .reelLockReturn die => decide (die < 128)
  | .refLoss => true
  | .launchArm h die ctx _ => h.ok && decide (die < 128) && decide (ctx < 65536)
  | .launchRelease die ctx => decide (die < 128) && decide (ctx < 65536)
  | .stallIntervalSaturate _ => true
  | .tempSample die _ _ => decide (die < 128)
  | .vmonSample die _ _ _ => decide (die < 128)
  | .paceSample die _ _ => decide (die < 128)
  | .sensorRefCheck die _ _ _ => decide (die < 128)
  | .analogBistSlice die _ _ _ _ _ => decide (die < 128)
  | .brkAddrTrap die _ => decide (die < 128)
  | .brkDrainEnd ctx => decide (ctx < 65536)
  | .brkHoldScreen core => decide (core < 65536)
  | .gstopJtag _ => true
  | .stopTable h words => h.ok && words.all (below (2 ^ 32))
  | .gstopRel h die _ => h.ok && decide (die < 128)
  | .gstopReleaseActivation => true
  | .dumpUnitDone _ _ => true
  | .dumpUnitTimeout => true
  | .feltDump h _ _ => h.ok
  | .recordWriteDone _ _ _ => true
  | .hoursPersistTick => true
  | .sysRstNRelease => true
  | .sysRstNAssert => true
  | .powerLoss => true
  | .vatSelfBistDone _ _ _ _ => true
  | .agentSelfBistDone die _ _ _ => decide (die < 128)
  | .startupScreenTimeout => true
  | .deckleMapBuild => true
  | .inboundBridgedMessage _ _ payload => payload.all (below (2 ^ 32))
  | .messageInterruptAccepted => true
  | .stageANotCompleted core => decide (core < 65536)
  | .partitionAssignment die part => decide (die < 128) && decide (part < 256)
  | .unsupportedPldmCommand _ _ _ => true
  | .badopCommandPacket path opcode tag crc _ => path.ok && decide (opcode < 65536) && decide (tag < 65536) && decide (crc < 2 ^ 32)

end Sys2Proof
end

