-- ==== Sys2Proof/Laws/PerInstr.lean ====
section
/-! SUPPORT. A well-formed command's headers fit their fields, for each command. -/

namespace Sys2Proof.Laws.WellFormed

/-- The packet header that a command carries. -/
def request : Instr → Option Req
  | .ident x => some x
  | .authOpen x _ _ => some x
  | .authProve x _ => some x
  | .authClose x => some x
  | .vatHealth x => some x
  | .ctxLoad x _ _ => some x
  | .launchAt x _ => some x
  | .ctxKill x => some x
  | .ctxStatus x => some x
  | .relaxSet x _ _ => some x
  | .relaxRead x _ _ => some x
  | .faultRead x _ _ => some x
  | .faultCfg x _ _ _ _ _ _ => some x
  | .faultZero x _ _ => some x
  | .faultClear x _ => some x
  | .faultPending x => some x
  | .deckleRead x _ _ => some x
  | .coreReturn x _ => some x
  | .reset x _ _ => some x
  | .ladderCfg x _ _ _ => some x
  | .partRelease x _ => some x
  | .oosEnter x => some x
  | .serviceResume x => some x
  | .wmKeySet x _ _ => some x
  | .wmRead x _ _ => some x
  | .wmVerify x => some x
  | .wmLocate x _ _ => some x
  | .replicaCfg x _ _ _ _ => some x
  | .replicaExpel x _ _ => some x
  | .replicaMembers x _ _ => some x
  | .ticketRead x _ => some x
  | .screenRun x _ _ => some x
  | .screenStatus x => some x
  | .tortyWrite x _ _ => some x
  | .tortyCommit x _ _ _ _ => some x
  | .reamAreaSet x _ _ _ => some x
  | .snapBegin x _ _ _ _ _ _ _ => some x
  | .snapRelease x _ => some x
  | .restore x _ _ _ _ _ => some x
  | .groupSet x _ => some x
  | .reclaim x _ _ => some x
  | .snapDefault x _ _ _ => some x
  | .vatSwitch x => some x
  | .vatStandbyRetry x => some x
  | .fwBegin x _ => some x
  | .fwWrite x _ _ => some x
  | .fwCommit x => some x
  | .linkQual x => some x
  | .linkQualRead x _ _ => some x
  | .feltStatus x => some x
  | .calSet x _ _ _ => some x
  | .sensorSubst x _ _ => some x
  | .analogLoopback x _ _ _ => some x
  | .sensorRead x _ => some x
  | .lifecycleSet x _ => some x
  | .keyEnroll x _ _ _ _ _ _ => some x
  | .keyRevoke x _ _ => some x
  | .licenceInstall x _ => some x
  | .licenceRead x => some x
  | .watchSet x _ _ _ _ _ _ _ => some x
  | .watchClear x _ _ => some x
  | .brkSet x _ _ _ _ => some x
  | .brkClear x _ => some x
  | .brkResume x _ => some x
  | .gstop x => some x
  | .gstopRelease x _ => some x
  | .stopRead x _ _ => some x
  | .dump x _ _ => some x
  | .dumpRead x _ _ => some x
  | .ringRead x _ _ _ _ _ => some x
  | .counterRead x _ _ _ => some x
  | .profRead x _ _ _ => some x
  | .profClear x _ => some x
  | .recRead x _ _ _ => some x
  | .recClear x _ => some x
  | _ => none

/-- The frame header that a command carries. -/
def header : Instr → Option Hdr
  | .pairDigest x _ => some x
  | .laidRes x _ => some x
  | .verdict x _ _ => some x
  | .faultReport x _ => some x
  | .poolLoan x _ _ => some x
  | .leaseReq x _ => some x
  | .leaseGrant x _ _ _ => some x
  | .leaseReturn x => some x
  | .distOpen x _ _ _ _ _ => some x
  | .distPoll x _ _ => some x
  | .bitmap x _ _ => some x
  | .distAgentAnswer x _ _ => some x
  | .distArm x _ _ _ => some x
  | .distDisarm x _ _ => some x
  | .countFwd x _ => some x
  | .react x _ _ => some x
  | .nmi x _ _ => some x
  | .notifyRelay x _ => some x
  | .hangWalk x _ => some x
  | .tagRevoke x _ _ => some x
  | .fenceCmd x _ _ => some x
  | .freeze x _ _ _ => some x
  | .genSet x _ _ _ => some x
  | .manifest x _ _ => some x
  | .wmDie x _ _ _ _ => some x
  | .replPart x _ _ _ => some x
  | .live x _ => some x
  | .stbyLive x _ => some x
  | .bridged x _ => some x
  | .agentReply x _ _ _ => some x
  | .stopTable x _ => some x
  | .feltDump x _ _ => some x
  | .vatFailed x _ => some x
  | .gateConfirm x => some x
  | .depose x _ _ => some x
  | .announce x _ => some x
  | .announceReturn x => some x
  | .epochStale x _ _ => some x
  | .mirror x _ => some x
  | .feltAck x _ _ _ _ => some x
  | .ringBreak x _ _ _ => some x
  | .ringJoin x _ _ _ _ => some x
  | .barrier x _ _ _ => some x
  | .agentCmd x _ _ => some x
  | .alignProbe x _ _ => some x
  | .alignSet x _ _ _ _ => some x
  | .reelCmp x _ _ => some x
  | .launchArm x _ _ _ => some x
  | .gstopRel x _ _ => some x
  | _ => none

/-- The register access that a command carries. -/
def access : Instr → Option Access
  | .registerWrite x _ => some x
  | .registerLoRead x => some x
  | .mtpWmOperRead x => some x
  | .mtpStallLoRead x => some x
  | .vatCplDataRead x => some x
  | .vatCplDataWrite x _ => some x
  | .vatClearReplAgree x _ => some x
  | .vatClearPrivDeny x _ => some x
  | .vatClearAptDrop x _ => some x
  | .seqCmpEnWrite x _ => some x
  | .mtpWinCmdOpen x _ => some x
  | .mtpWinCmdClose x _ => some x
  | .aperturePacketWrite x _ => some x
  | _ => none

/-- What a well-formed command carries fits its fields: the packet's header, the frame's header, the access's address. -/
def Statement (i : Instr) : Prop :=
  i.wf = true → (request i).all Req.ok = true ∧ (header i).all Hdr.ok = true ∧ (access i).all Access.ok = true

/-- The first of two conditions that hold. -/
theorem left {a b : Bool} (w : (a && b) = true) : a = true := (Bool.and_eq_true_iff.mp w).1

theorem registerWrite (a : Access) (v : Word) : Statement (.registerWrite a v) := fun w => ⟨rfl, rfl, w⟩
theorem registerLoRead (a : Access) : Statement (.registerLoRead a) := fun w => ⟨rfl, rfl, w⟩
theorem mtpWmOperRead (a : Access) : Statement (.mtpWmOperRead a) := fun w => ⟨rfl, rfl, w⟩
theorem mtpStallLoRead (a : Access) : Statement (.mtpStallLoRead a) := fun w => ⟨rfl, rfl, w⟩
theorem vatCplDataRead (a : Access) : Statement (.vatCplDataRead a) := fun w => ⟨rfl, rfl, w⟩
theorem vatCplDataWrite (a : Access) (v : Word) : Statement (.vatCplDataWrite a v) := fun w => ⟨rfl, rfl, w⟩
theorem vatCplForwardTimeout (id : Nat) : Statement (.vatCplForwardTimeout id) := fun _ => ⟨rfl, rfl, rfl⟩
theorem vatClearReplAgree (a : Access) (v : Word) : Statement (.vatClearReplAgree a v) := fun w => ⟨rfl, rfl, w⟩
theorem vatClearPrivDeny (a : Access) (v : Word) : Statement (.vatClearPrivDeny a v) := fun w => ⟨rfl, rfl, w⟩
theorem vatClearAptDrop (a : Access) (v : Word) : Statement (.vatClearAptDrop a v) := fun w => ⟨rfl, rfl, w⟩
theorem seqCmpEnWrite (a : Access) (v : Word) : Statement (.seqCmpEnWrite a v) := fun w => ⟨rfl, rfl, w⟩
theorem mtpWinCmdOpen (a : Access) (v : Word) : Statement (.mtpWinCmdOpen a v) := fun w => ⟨rfl, rfl, w⟩
theorem mtpWinCmdClose (a : Access) (v : Word) : Statement (.mtpWinCmdClose a v) := fun w => ⟨rfl, rfl, w⟩
theorem aperturePacketWrite (a : Access) (v : Word) : Statement (.aperturePacketWrite a v) := fun w => ⟨rfl, rfl, w⟩
theorem ident (rq : Req) : Statement (.ident rq) := fun w => ⟨w, rfl, rfl⟩
theorem authOpen (rq : Req) (priv keyId : Nat) : Statement (.authOpen rq priv keyId) := fun w => ⟨(left w), rfl, rfl⟩
theorem authProve (rq : Req) (session : Nat) : Statement (.authProve rq session) := fun w => ⟨(left w), rfl, rfl⟩
theorem authProveWindowExpiry (session : Nat) : Statement (.authProveWindowExpiry session) := fun _ => ⟨rfl, rfl, rfl⟩
theorem authClose (rq : Req) : Statement (.authClose rq) := fun w => ⟨w, rfl, rfl⟩
theorem sessionExpiry (session : Nat) : Statement (.sessionExpiry session) := fun _ => ⟨rfl, rfl, rfl⟩
theorem vatHealth (rq : Req) : Statement (.vatHealth rq) := fun w => ⟨w, rfl, rfl⟩
theorem ctxLoad (rq : Req) (f : LoadFields) (pr : PlanRead) : Statement (.ctxLoad rq f pr) := fun w => ⟨(left w), rfl, rfl⟩
theorem launchAt (rq : Req) (count : Nat) : Statement (.launchAt rq count) := fun w => ⟨w, rfl, rfl⟩
theorem ctxKill (rq : Req) : Statement (.ctxKill rq) := fun w => ⟨w, rfl, rfl⟩
theorem ctxStatus (rq : Req) : Statement (.ctxStatus rq) := fun w => ⟨w, rfl, rfl⟩
theorem relaxSet (rq : Req) (part enable : Nat) : Statement (.relaxSet rq part enable) := fun w => ⟨(left w), rfl, rfl⟩
theorem relaxRead (rq : Req) (part clear : Nat) : Statement (.relaxRead rq part clear) := fun w => ⟨(left w), rfl, rfl⟩
theorem faultRead (rq : Req) (first count : Nat) : Statement (.faultRead rq first count) := fun w => ⟨w, rfl, rfl⟩
theorem faultCfg (rq : Req) (template each thresh n w record : Nat) : Statement (.faultCfg rq template each thresh n w record) := fun w => ⟨w, rfl, rfl⟩
theorem faultZero (rq : Req) (first count : Nat) : Statement (.faultZero rq first count) := fun w => ⟨w, rfl, rfl⟩
theorem faultClear (rq : Req) (source : Nat) : Statement (.faultClear rq source) := fun w => ⟨(left w), rfl, rfl⟩
theorem faultPending (rq : Req) : Statement (.faultPending rq) := fun w => ⟨w, rfl, rfl⟩
theorem deckleRead (rq : Req) (die segment : Nat) : Statement (.deckleRead rq die segment) := fun w => ⟨(left w), rfl, rfl⟩
theorem coreReturn (rq : Req) (pcore : Nat) : Statement (.coreReturn rq pcore) := fun w => ⟨(left w), rfl, rfl⟩
theorem reset (rq : Req) (domain target : Nat) : Statement (.reset rq domain target) := fun w => ⟨(left w), rfl, rfl⟩
theorem ladderCfg (rq : Req) (part n w : Nat) : Statement (.ladderCfg rq part n w) := fun w => ⟨(left w), rfl, rfl⟩
theorem partRelease (rq : Req) (part : Nat) : Statement (.partRelease rq part) := fun w => ⟨(left w), rfl, rfl⟩
theorem oosEnter (rq : Req) : Statement (.oosEnter rq) := fun w => ⟨w, rfl, rfl⟩
theorem serviceResume (rq : Req) : Statement (.serviceResume rq) := fun w => ⟨w, rfl, rfl⟩
theorem wmKeySet (rq : Req) (s0 s1 : Nat) : Statement (.wmKeySet rq s0 s1) := fun w => ⟨w, rfl, rfl⟩
theorem wmRead (rq : Req) (first count : Nat) : Statement (.wmRead rq first count) := fun w => ⟨w, rfl, rfl⟩
theorem wmVerify (rq : Req) : Statement (.wmVerify rq) := fun w => ⟨w, rfl, rfl⟩
theorem wmVerifyReadDone (ctx : Nat) (recs : List DigestRec) : Statement (.wmVerifyReadDone ctx recs) := fun _ => ⟨rfl, rfl, rfl⟩
theorem wmLocate (rq : Req) (refs : List RefRec) (samePlan : Bool) : Statement (.wmLocate rq refs samePlan) := fun w => ⟨(left w), rfl, rfl⟩
theorem replicaCfg (rq : Req) (group r index k : Nat) : Statement (.replicaCfg rq group r index k) := fun w => ⟨(left w), rfl, rfl⟩
theorem replicaExpel (rq : Req) (group iter : Nat) : Statement (.replicaExpel rq group iter) := fun w => ⟨(left w), rfl, rfl⟩
theorem replicaMembers (rq : Req) (r index : Nat) : Statement (.replicaMembers rq r index) := fun w => ⟨w, rfl, rfl⟩
theorem ticketRead (rq : Req) (ticket : Nat) : Statement (.ticketRead rq ticket) := fun w => ⟨(left w), rfl, rfl⟩
theorem screenRun (rq : Req) (pcore kind : Nat) : Statement (.screenRun rq pcore kind) := fun w => ⟨(left (left w)), rfl, rfl⟩
theorem screenStatus (rq : Req) : Statement (.screenStatus rq) := fun w => ⟨w, rfl, rfl⟩
theorem tortyWrite (rq : Req) (chunk : Nat) (bytes : List Byte) : Statement (.tortyWrite rq chunk bytes) := fun w => ⟨w, rfl, rfl⟩
theorem tortyCommit (rq : Req) (kind len activation dieMask : Nat) : Statement (.tortyCommit rq kind len activation dieMask) := fun w => ⟨(left w), rfl, rfl⟩
theorem tortyFlashWriteDone (kind : Nat) : Statement (.tortyFlashWriteDone kind) := fun _ => ⟨rfl, rfl, rfl⟩
theorem reamAreaSet (rq : Req) (die off len : Nat) : Statement (.reamAreaSet rq die off len) := fun w => ⟨(left w), rfl, rfl⟩
theorem snapBegin (rq : Req) (snap iter point : Nat) (package : Bool) (delta deadline : Nat) (m : ReamMap) : Statement (.snapBegin rq snap iter point package delta deadline m) := fun w => ⟨(left w), rfl, rfl⟩
theorem snapRelease (rq : Req) (snap : Nat) : Statement (.snapRelease rq snap) := fun w => ⟨(left w), rfl, rfl⟩
theorem restore (rq : Req) (snap delta : Nat) (man : Manifest) (crc : Nat) (g : GroupTable) : Statement (.restore rq snap delta man crc g) := fun w => ⟨(left (left (left (left w)))), rfl, rfl⟩
theorem groupSet (rq : Req) (g : GroupTable) : Statement (.groupSet rq g) := fun w => ⟨(left w), rfl, rfl⟩
theorem reclaim (rq : Req) (parts deadline : Nat) : Statement (.reclaim rq parts deadline) := fun w => ⟨w, rfl, rfl⟩
theorem snapDefault (rq : Req) (package : Bool) (base : Nat) (m : ReamMap) : Statement (.snapDefault rq package base m) := fun w => ⟨w, rfl, rfl⟩
theorem vatSwitch (rq : Req) : Statement (.vatSwitch rq) := fun w => ⟨w, rfl, rfl⟩
theorem vatStandbyRetry (rq : Req) : Statement (.vatStandbyRetry rq) := fun w => ⟨w, rfl, rfl⟩
theorem fwBegin (rq : Req) (header : List Byte) : Statement (.fwBegin rq header) := fun w => ⟨(left w), rfl, rfl⟩
theorem fwWrite (rq : Req) (off : Nat) (bytes : List Byte) : Statement (.fwWrite rq off bytes) := fun w => ⟨w, rfl, rfl⟩
theorem fwCommit (rq : Req) : Statement (.fwCommit rq) := fun w => ⟨w, rfl, rfl⟩
theorem linkQual (rq : Req) : Statement (.linkQual rq) := fun w => ⟨w, rfl, rfl⟩
theorem linkQualDone (lanes : List LaneCount) : Statement (.linkQualDone lanes) := fun _ => ⟨rfl, rfl, rfl⟩
theorem linkQualRead (rq : Req) (first count : Nat) : Statement (.linkQualRead rq first count) := fun w => ⟨w, rfl, rfl⟩
theorem feltStatus (rq : Req) : Statement (.feltStatus rq) := fun w => ⟨w, rfl, rfl⟩
theorem calSet (rq : Req) (field scope : Nat) (value : Int) : Statement (.calSet rq field scope value) := fun w => ⟨w, rfl, rfl⟩
theorem sensorSubst (rq : Req) (die sensor : Nat) : Statement (.sensorSubst rq die sensor) := fun w => ⟨(left w), rfl, rfl⟩
theorem analogLoopback (rq : Req) (lane bits errors : Nat) : Statement (.analogLoopback rq lane bits errors) := fun w => ⟨w, rfl, rfl⟩
theorem sensorRead (rq : Req) (die : Nat) : Statement (.sensorRead rq die) := fun w => ⟨(left w), rfl, rfl⟩
theorem lifecycleSet (rq : Req) (state : Nat) : Statement (.lifecycleSet rq state) := fun w => ⟨w, rfl, rfl⟩
theorem keyEnroll (rq : Req) (cls keyId base count x y : Nat) : Statement (.keyEnroll rq cls keyId base count x y) := fun w => ⟨(left w), rfl, rfl⟩
theorem keyRevoke (rq : Req) (cls keyId : Nat) : Statement (.keyRevoke rq cls keyId) := fun w => ⟨(left w), rfl, rfl⟩
theorem licenceInstall (rq : Req) (raw : List Byte) : Statement (.licenceInstall rq raw) := fun w => ⟨(left w), rfl, rfl⟩
theorem licenceRead (rq : Req) : Statement (.licenceRead rq) := fun w => ⟨w, rfl, rfl⟩
theorem watchSet (rq : Req) (index lc base len kinds tagMatch action : Nat) : Statement (.watchSet rq index lc base len kinds tagMatch action) := fun w => ⟨(left w), rfl, rfl⟩
theorem watchClear (rq : Req) (lc index : Nat) : Statement (.watchClear rq lc index) := fun w => ⟨(left w), rfl, rfl⟩
theorem brkSet (rq : Req) (kind scope arg arg2 : Nat) : Statement (.brkSet rq kind scope arg arg2) := fun w => ⟨(left w), rfl, rfl⟩
theorem brkClear (rq : Req) (number : Nat) : Statement (.brkClear rq number) := fun w => ⟨(left w), rfl, rfl⟩
theorem brkResume (rq : Req) (run : Nat) : Statement (.brkResume rq run) := fun w => ⟨w, rfl, rfl⟩
theorem gstop (rq : Req) : Statement (.gstop rq) := fun w => ⟨w, rfl, rfl⟩
theorem gstopRelease (rq : Req) (resume : Nat) : Statement (.gstopRelease rq resume) := fun w => ⟨w, rfl, rfl⟩
theorem stopRead (rq : Req) (first count : Nat) : Statement (.stopRead rq first count) := fun w => ⟨w, rfl, rfl⟩
theorem dump (rq : Req) (lock : Nat) (units : List DumpUnit) : Statement (.dump rq lock units) := fun w => ⟨(left w), rfl, rfl⟩
theorem dumpRead (rq : Req) (off unlock : Nat) : Statement (.dumpRead rq off unlock) := fun w => ⟨w, rfl, rfl⟩
theorem ringRead (rq : Req) (ring target first count clear : Nat) : Statement (.ringRead rq ring target first count clear) := fun w => ⟨w, rfl, rfl⟩
theorem counterRead (rq : Req) (pcore count clear : Nat) : Statement (.counterRead rq pcore count clear) := fun w => ⟨(left w), rfl, rfl⟩
theorem profRead (rq : Req) (die first count : Nat) : Statement (.profRead rq die first count) := fun w => ⟨(left w), rfl, rfl⟩
theorem profClear (rq : Req) (die : Nat) : Statement (.profClear rq die) := fun w => ⟨(left w), rfl, rfl⟩
theorem recRead (rq : Req) (area first count : Nat) : Statement (.recRead rq area first count) := fun w => ⟨w, rfl, rfl⟩
theorem recClear (rq : Req) (scope : Nat) : Statement (.recClear rq scope) := fun w => ⟨w, rfl, rfl⟩
theorem badopCommandPacket (path : Path) (opcode tag crc : Nat) (lenOk : Bool) : Statement (.badopCommandPacket path opcode tag crc lenOk) := fun _ => ⟨rfl, rfl, rfl⟩
theorem setEndpointId (hub : Hub) (i3c : Bool) (eid setter : Nat) : Statement (.setEndpointId hub i3c eid setter) := fun _ => ⟨rfl, rfl, rfl⟩
theorem getEndpointId (hub : Hub) (i3c : Bool) : Statement (.getEndpointId hub i3c) := fun _ => ⟨rfl, rfl, rfl⟩
theorem getMctpVersionSupport (hub : Hub) (i3c : Bool) (msgType : Nat) : Statement (.getMctpVersionSupport hub i3c msgType) := fun _ => ⟨rfl, rfl, rfl⟩
theorem getMessageTypeSupport (hub : Hub) (i3c : Bool) : Statement (.getMessageTypeSupport hub i3c) := fun _ => ⟨rfl, rfl, rfl⟩
theorem getVendorDefinedMessageSupport (hub : Hub) (i3c : Bool) : Statement (.getVendorDefinedMessageSupport hub i3c) := fun _ => ⟨rfl, rfl, rfl⟩
theorem getTid (hub : Hub) : Statement (.getTid hub) := fun _ => ⟨rfl, rfl, rfl⟩
theorem getPldmVersion (hub : Hub) (pldmType : Nat) : Statement (.getPldmVersion hub pldmType) := fun _ => ⟨rfl, rfl, rfl⟩
theorem getPldmTypes (hub : Hub) : Statement (.getPldmTypes hub) := fun _ => ⟨rfl, rfl, rfl⟩
theorem getPldmCommands (hub : Hub) (pldmType : Nat) : Statement (.getPldmCommands hub pldmType) := fun _ => ⟨rfl, rfl, rfl⟩
theorem getPdrRepositoryInfo (hub : Hub) : Statement (.getPdrRepositoryInfo hub) := fun _ => ⟨rfl, rfl, rfl⟩
theorem getPdr (hub : Hub) (record : Nat) : Statement (.getPdr hub record) := fun _ => ⟨rfl, rfl, rfl⟩
theorem getSensorReading (hub : Hub) (sensor : Nat) : Statement (.getSensorReading hub sensor) := fun _ => ⟨rfl, rfl, rfl⟩
theorem getStateSensorReadings (hub : Hub) (sensor : Nat) : Statement (.getStateSensorReadings hub sensor) := fun _ => ⟨rfl, rfl, rfl⟩
theorem entdaa (hub : Hub) (addr : Nat) : Statement (.entdaa hub addr) := fun _ => ⟨rfl, rfl, rfl⟩
theorem bridgeInboundAdmit (hub : Hub) : Statement (.bridgeInboundAdmit hub) := fun _ => ⟨rfl, rfl, rfl⟩
theorem releaseUnitOpen (core descIdx : Nat) (spec last : Bool) : Statement (.releaseUnitOpen core descIdx spec last) := fun _ => ⟨rfl, rfl, rfl⟩
theorem issueStep (core : Nat) (kind : StepKind) (seqA seqB : List Nat) (pressPoint : Bool) : Statement (.issueStep core kind seqA seqB pressPoint) := fun _ => ⟨rfl, rfl, rfl⟩
theorem accumulatorAdd (core ticket row col : Nat) (acc addend : Int) (scale : Option Int) : Statement (.accumulatorAdd core ticket row col acc addend scale) := fun _ => ⟨rfl, rfl, rfl⟩
theorem laidCheckResolve (core ticket : Nat) (rows : List LaidRow) (csv : CsvData) : Statement (.laidCheckResolve core ticket rows csv) := fun _ => ⟨rfl, rfl, rfl⟩
theorem roundedGroupCheck (core ticket group expo : Nat) (mants accs : List Int) (place : GroupAt) (last : Bool) : Statement (.roundedGroupCheck core ticket group expo mants accs place last) := fun _ => ⟨rfl, rfl, rfl⟩
theorem dispatchTallyCheck (core ticket : Nat) (taus : List Nat) (n tally : Nat) : Statement (.dispatchTallyCheck core ticket taus n tally) := fun _ => ⟨rfl, rfl, rfl⟩
theorem pairDigest (h : Hdr) (r : PairReport) : Statement (.pairDigest h r) := fun w => ⟨rfl, (left w), rfl⟩
theorem laidRes (h : Hdr) (r : LaidReport) : Statement (.laidRes h r) := fun w => ⟨rfl, (left w), rfl⟩
theorem scratchpadAccess (core : Nat) (x : SpadAccess) : Statement (.scratchpadAccess core x) := fun _ => ⟨rfl, rfl, rfl⟩
theorem joinPartialArrival (core ticket join fromLc : Nat) (acc value : Int) (poisoned : Bool) : Statement (.joinPartialArrival core ticket join fromLc acc value poisoned) := fun _ => ⟨rfl, rfl, rfl⟩
theorem releaseGateTransfer (core : Nat) (ticket : Option UnitRef) (dst : Dest) (words decision : List Nat) (last : Bool) : Statement (.releaseGateTransfer core ticket dst words decision last) := fun _ => ⟨rfl, rfl, rfl⟩
theorem checkerRail (core : Nat) : Statement (.checkerRail core) := fun _ => ⟨rfl, rfl, rfl⟩
theorem dataTransferArrival (x : Xfer) : Statement (.dataTransferArrival x) := fun _ => ⟨rfl, rfl, rfl⟩
theorem meshAccessAtFence (die : Nat) (reply : Bool) : Statement (.meshAccessAtFence die reply) := fun _ => ⟨rfl, rfl, rfl⟩
theorem d2dCodewordError (die link : Nat) (corrected : Bool) : Statement (.d2dCodewordError die link corrected) := fun _ => ⟨rfl, rfl, rfl⟩
theorem routerBufferEcc (die : Nat) (cluster : Option Nat) (corrected : Bool) : Statement (.routerBufferEcc die cluster corrected) := fun _ => ⟨rfl, rfl, rfl⟩
theorem clusterBufferEcc (die cluster : Nat) (corrected : Bool) : Statement (.clusterBufferEcc die cluster corrected) := fun _ => ⟨rfl, rfl, rfl⟩
theorem uncorrCw (die engine lane : Nat) : Statement (.uncorrCw die engine lane) := fun _ => ⟨rfl, rfl, rfl⟩
theorem agentInternal (die : Nat) : Statement (.agentInternal die) := fun _ => ⟨rfl, rfl, rfl⟩
theorem ticketState (core : Nat) : Statement (.ticketState core) := fun _ => ⟨rfl, rfl, rfl⟩
theorem counterParity (core : Nat) (screen : Bool) : Statement (.counterParity core screen) := fun _ => ⟨rfl, rfl, rfl⟩
theorem verdict (h : Hdr) (ticket : Nat) (pass : Bool) : Statement (.verdict h ticket pass) := fun w => ⟨rfl, (left w), rfl⟩
theorem faultReport (h : Hdr) (words : List Nat) : Statement (.faultReport h words) := fun w => ⟨rfl, (left w), rfl⟩
theorem triageStageADone (core : Nat) (r : ReplayEnd) (digest : List Nat) : Statement (.triageStageADone core r digest) := fun _ => ⟨rfl, rfl, rfl⟩
theorem stageANotCompleted (core : Nat) : Statement (.stageANotCompleted core) := fun _ => ⟨rfl, rfl, rfl⟩
theorem tapSelftestDone (core cases : Nat) : Statement (.tapSelftestDone core cases) := fun _ => ⟨rfl, rfl, rfl⟩
theorem spareFillDone (lc : Nat) (sent received : List Nat) : Statement (.spareFillDone lc sent received) := fun _ => ⟨rfl, rfl, rfl⟩
theorem triageStageBDone (core : Nat) (r : ReplayEnd) (digest : List Nat) : Statement (.triageStageBDone core r digest) := fun _ => ⟨rfl, rfl, rfl⟩
theorem replacementReplayDone (lc : Nat) : Statement (.replacementReplayDone lc) := fun _ => ⟨rfl, rfl, rfl⟩
theorem replacementStart (lc : Nat) : Statement (.replacementStart lc) := fun _ => ⟨rfl, rfl, rfl⟩
theorem plannedReplaceSpareTimeout (lc : Nat) : Statement (.plannedReplaceSpareTimeout lc) := fun _ => ⟨rfl, rfl, rfl⟩
theorem latePlacement (lc spare : Nat) : Statement (.latePlacement lc spare) := fun _ => ⟨rfl, rfl, rfl⟩
theorem poolLoan (h : Hdr) (die : Nat) (block : Option Nat) : Statement (.poolLoan h die block) := fun w => ⟨rfl, (left w), rfl⟩
theorem poolBlockReturn (die : Nat) : Statement (.poolBlockReturn die) := fun _ => ⟨rfl, rfl, rfl⟩
theorem sizingWindowLeaseRequest (core start len : Nat) : Statement (.sizingWindowLeaseRequest core start len) := fun _ => ⟨rfl, rfl, rfl⟩
theorem sizingWindowForfeit (die : Nat) : Statement (.sizingWindowForfeit die) := fun _ => ⟨rfl, rfl, rfl⟩
theorem sliceStart (die core : Nat) : Statement (.sliceStart die core) := fun _ => ⟨rfl, rfl, rfl⟩
theorem shiftSegmentDone (die misr : Nat) : Statement (.shiftSegmentDone die misr) := fun _ => ⟨rfl, rfl, rfl⟩
theorem sliceEnd (die : Nat) (retained : Bool) : Statement (.sliceEnd die retained) := fun _ => ⟨rfl, rfl, rfl⟩
theorem leaseReq (h : Hdr) (kind : Nat) : Statement (.leaseReq h kind) := fun w => ⟨rfl, w, rfl⟩
theorem leaseGrant (h : Hdr) (die kind expiry : Nat) : Statement (.leaseGrant h die kind expiry) := fun w => ⟨rfl, (left w), rfl⟩
theorem leaseReturn (h : Hdr) : Statement (.leaseReturn h) := fun w => ⟨rfl, w, rfl⟩
theorem leaseExpiry (die : Nat) : Statement (.leaseExpiry die) := fun _ => ⟨rfl, rfl, rfl⟩
theorem leaseRetryTick (die : Nat) : Statement (.leaseRetryTick die) := fun _ => ⟨rfl, rfl, rfl⟩
theorem leaseBlackoutEnd : Statement (.leaseBlackoutEnd) := fun _ => ⟨rfl, rfl, rfl⟩
theorem relaxedStallScan (core reason : Nat) (awaited : Option Nat) : Statement (.relaxedStallScan core reason awaited) := fun _ => ⟨rfl, rfl, rfl⟩
theorem screenLate (core : Nat) : Statement (.screenLate core) := fun _ => ⟨rfl, rfl, rfl⟩
theorem screenOverdue (core : Nat) : Statement (.screenOverdue core) := fun _ => ⟨rfl, rfl, rfl⟩
theorem fleetStale : Statement (.fleetStale) := fun _ => ⟨rfl, rfl, rfl⟩
theorem distOpen (h : Hdr) (die dist kind chunks : Nat) (hdr : List Byte) : Statement (.distOpen h die dist kind chunks hdr) := fun w => ⟨rfl, (left w), rfl⟩
theorem stagingCopyDone (die : Nat) : Statement (.stagingCopyDone die) := fun _ => ⟨rfl, rfl, rfl⟩
theorem chunkPaceTick (kind : Nat) : Statement (.chunkPaceTick kind) := fun _ => ⟨rfl, rfl, rfl⟩
theorem chunk (die dist number : Nat) (bytes : List Byte) (crc : Nat) : Statement (.chunk die dist number bytes crc) := fun _ => ⟨rfl, rfl, rfl⟩
theorem distPoll (h : Hdr) (die dist : Nat) : Statement (.distPoll h die dist) := fun w => ⟨rfl, (left w), rfl⟩
theorem bitmap (h : Hdr) (dist : Nat) (words : List Nat) : Statement (.bitmap h dist words) := fun w => ⟨rfl, (left w), rfl⟩
theorem payloadHashDone (die : Nat) : Statement (.payloadHashDone die) := fun _ => ⟨rfl, rfl, rfl⟩
theorem distAgentAnswer (h : Hdr) (dist answer : Nat) : Statement (.distAgentAnswer h dist answer) := fun w => ⟨rfl, w, rfl⟩
theorem distArm (h : Hdr) (die dist count : Nat) : Statement (.distArm h die dist count) := fun w => ⟨rfl, (left w), rfl⟩
theorem distAckDeadline (kind : Nat) : Statement (.distAckDeadline kind) := fun _ => ⟨rfl, rfl, rfl⟩
theorem distDisarm (h : Hdr) (die dist : Nat) : Statement (.distDisarm h die dist) := fun w => ⟨rfl, (left w), rfl⟩
theorem distActivation (die : Nat) : Statement (.distActivation die) := fun _ => ⟨rfl, rfl, rfl⟩
theorem ucodeBankSwitch (die : Nat) : Statement (.ucodeBankSwitch die) := fun _ => ⟨rfl, rfl, rfl⟩
theorem firstStageForward (die : Nat) : Statement (.firstStageForward die) := fun _ => ⟨rfl, rfl, rfl⟩
theorem countFwd (h : Hdr) (batches : List CountBatch) : Statement (.countFwd h batches) := fun w => ⟨rfl, (left w), rfl⟩
theorem react (h : Hdr) (die : Nat) (r : Reaction) : Statement (.react h die r) := fun w => ⟨rfl, (left (left w)), rfl⟩
theorem nmi (h : Hdr) (die source : Nat) : Statement (.nmi h die source) := fun w => ⟨rfl, (left (left w)), rfl⟩
theorem intPostTick : Statement (.intPostTick) := fun _ => ⟨rfl, rfl, rfl⟩
theorem msiAcceptTimeout : Statement (.msiAcceptTimeout) := fun _ => ⟨rfl, rfl, rfl⟩
theorem notifySourceSecondEnd (source : Nat) : Statement (.notifySourceSecondEnd source) := fun _ => ⟨rfl, rfl, rfl⟩
theorem mgmtLinkUp (hub : Hub) : Statement (.mgmtLinkUp hub) := fun _ => ⟨rfl, rfl, rfl⟩
theorem mgmtLinkDown (hub : Hub) : Statement (.mgmtLinkDown hub) := fun _ => ⟨rfl, rfl, rfl⟩
theorem i3cNotifyRead : Statement (.i3cNotifyRead) := fun _ => ⟨rfl, rfl, rfl⟩
theorem notifyRelay (h : Hdr) (number : Nat) : Statement (.notifyRelay h number) := fun w => ⟨rfl, w, rfl⟩
theorem hangWatchdogExpiry (core : Nat) : Statement (.hangWatchdogExpiry core) := fun _ => ⟨rfl, rfl, rfl⟩
theorem hangWalk (h : Hdr) (w : WalkStep) : Statement (.hangWalk h w) := fun w => ⟨rfl, (left w), rfl⟩
theorem hangFreezeTimeout (core : Nat) : Statement (.hangFreezeTimeout core) := fun _ => ⟨rfl, rfl, rfl⟩
theorem tagRevoke (h : Hdr) (die tag : Nat) : Statement (.tagRevoke h die tag) := fun w => ⟨rfl, (left (left w)), rfl⟩
theorem teardownDrainEnd (ctx discarded : Nat) (barrier : Bool) : Statement (.teardownDrainEnd ctx discarded barrier) := fun _ => ⟨rfl, rfl, rfl⟩
theorem scrubDone (ctx : Nat) : Statement (.scrubDone ctx) := fun _ => ⟨rfl, rfl, rfl⟩
theorem teardownOverrun (ctx : Nat) (cores : List Nat) : Statement (.teardownOverrun ctx cores) := fun _ => ⟨rfl, rfl, rfl⟩
theorem fenceCmd (h : Hdr) (die : Nat) (o : FenceOrder) : Statement (.fenceCmd h die o) := fun w => ⟨rfl, (left (left w)), rfl⟩
theorem freeze (h : Hdr) (die : Nat) (cores : List Nat) (reason : Nat) : Statement (.freeze h die cores reason) := fun w => ⟨rfl, (left (left w)), rfl⟩
theorem genSet (h : Hdr) (die group gen : Nat) : Statement (.genSet h die group gen) := fun w => ⟨rfl, (left (left w)), rfl⟩
theorem domainResetDone (domain target : Nat) : Statement (.domainResetDone domain target) := fun _ => ⟨rfl, rfl, rfl⟩
theorem resetOverrun (domain target : Nat) : Statement (.resetOverrun domain target) := fun _ => ⟨rfl, rfl, rfl⟩
theorem agentResetDone (die : Nat) : Statement (.agentResetDone die) := fun _ => ⟨rfl, rfl, rfl⟩
theorem powerCycleReqRepeat : Statement (.powerCycleReqRepeat) := fun _ => ⟨rfl, rfl, rfl⟩
theorem riskRecompute : Statement (.riskRecompute) := fun _ => ⟨rfl, rfl, rfl⟩
theorem xpkgWait (core : Nat) : Statement (.xpkgWait core) := fun _ => ⟨rfl, rfl, rfl⟩
theorem snapPointReached (lc : Nat) : Statement (.snapPointReached lc) := fun _ => ⟨rfl, rfl, rfl⟩
theorem snapBarrierComplete (ctx : Nat) (poisoned : Bool) : Statement (.snapBarrierComplete ctx poisoned) := fun _ => ⟨rfl, rfl, rfl⟩
theorem snapHolderAck (ctx ream shard : Nat) (words : List Nat) (poisoned failed : Bool) (set : List TensorPart) : Statement (.snapHolderAck ctx ream shard words poisoned failed set) := fun _ => ⟨rfl, rfl, rfl⟩
theorem snapDeadlineExpiry (ctx : Nat) : Statement (.snapDeadlineExpiry ctx) := fun _ => ⟨rfl, rfl, rfl⟩
theorem manifest (h : Hdr) (ctx : Nat) (man : Manifest) : Statement (.manifest h ctx man) := fun w => ⟨rfl, (left (left w)), rfl⟩
theorem restoreGatherDone (ctx : Nat) (remote : List ((Nat × Nat) × Option (List Nat))) (poisoned : List (Nat × Nat)) (set : List TensorPart) : Statement (.restoreGatherDone ctx remote poisoned set) := fun _ => ⟨rfl, rfl, rfl⟩
theorem reclaimAutoSnapTimeout (ctx : Nat) : Statement (.reclaimAutoSnapTimeout ctx) := fun _ => ⟨rfl, rfl, rfl⟩
theorem reclaimDeadline : Statement (.reclaimDeadline) := fun _ => ⟨rfl, rfl, rfl⟩
theorem wmDie (h : Hdr) (ctx layer oper : Nat) (r : DigestRec) : Statement (.wmDie h ctx layer oper r) := fun w => ⟨rfl, (left (left (left (left w)))), rfl⟩
theorem replPart (h : Hdr) (ctx iter : Nat) (r : DigestRec) : Statement (.replPart h ctx iter r) := fun w => ⟨rfl, (left (left w)), rfl⟩
theorem replicaSlotRead (ctx : Nat) (recs : List DigestRec) (conflict : Bool) : Statement (.replicaSlotRead ctx recs conflict) := fun _ => ⟨rfl, rfl, rfl⟩
theorem replicaRereadDone (ctx : Nat) (shards : List (Nat × DigestRec)) : Statement (.replicaRereadDone ctx shards) := fun _ => ⟨rfl, rfl, rfl⟩
theorem replicaRereadExchange (ctx group iter : Nat) (other otherInPass : DigestRec) (tensors : List DigestRec) (otherFailing : Bool) : Statement (.replicaRereadExchange ctx group iter other otherInPass tensors otherFailing) := fun _ => ⟨rfl, rfl, rfl⟩
theorem livePeriod : Statement (.livePeriod) := fun _ => ⟨rfl, rfl, rfl⟩
theorem live (h : Hdr) (die : Nat) : Statement (.live h die) := fun w => ⟨rfl, (left w), rfl⟩
theorem stbyLivePeriod : Statement (.stbyLivePeriod) := fun _ => ⟨rfl, rfl, rfl⟩
theorem stbyLive (h : Hdr) (r : Health) : Statement (.stbyLive h r) := fun w => ⟨rfl, (left w), rfl⟩
theorem bridged (h : Hdr) (payload : List Nat) : Statement (.bridged h payload) := fun w => ⟨rfl, (left w), rfl⟩
theorem agentReply (h : Hdr) (id : Nat) (value : Word) (error : Bool) : Statement (.agentReply h id value error) := fun w => ⟨rfl, w, rfl⟩
theorem stopTable (h : Hdr) (words : List Nat) : Statement (.stopTable h words) := fun w => ⟨rfl, (left w), rfl⟩
theorem feltDump (h : Hdr) (off : Nat) (bytes : List Byte) : Statement (.feltDump h off bytes) := fun w => ⟨rfl, w, rfl⟩
theorem liveTimeout : Statement (.liveTimeout) := fun _ => ⟨rfl, rfl, rfl⟩
theorem fwWatchdogExpiry : Statement (.fwWatchdogExpiry) := fun _ => ⟨rfl, rfl, rfl⟩
theorem activeVatFault (trigger source : Nat) : Statement (.activeVatFault trigger source) := fun _ => ⟨rfl, rfl, rfl⟩
theorem vatFailed (h : Hdr) (trigger : Nat) : Statement (.vatFailed h trigger) := fun w => ⟨rfl, w, rfl⟩
theorem noStandbyReset : Statement (.noStandbyReset) := fun _ => ⟨rfl, rfl, rfl⟩
theorem gateConfirm (h : Hdr) : Statement (.gateConfirm h) := fun w => ⟨rfl, w, rfl⟩
theorem deposeGateTimeout : Statement (.deposeGateTimeout) := fun _ => ⟨rfl, rfl, rfl⟩
theorem depose (h : Hdr) (die : Nat) (gated : Bool) : Statement (.depose h die gated) := fun w => ⟨rfl, (left w), rfl⟩
theorem announce (h : Hdr) (die : Nat) : Statement (.announce h die) := fun w => ⟨rfl, (left w), rfl⟩
theorem announceReturn (h : Hdr) : Statement (.announceReturn h) := fun w => ⟨rfl, w, rfl⟩
theorem epochStale (h : Hdr) (hub : Hub) (epoch : Nat) : Statement (.epochStale h hub epoch) := fun w => ⟨rfl, (left w), rfl⟩
theorem stbyLiveTimeout : Statement (.stbyLiveTimeout) := fun _ => ⟨rfl, rfl, rfl⟩
theorem mirror (h : Hdr) (seq : Nat) : Statement (.mirror h seq) := fun w => ⟨rfl, (left w), rfl⟩
theorem mirrorSynced : Statement (.mirrorSynced) := fun _ => ⟨rfl, rfl, rfl⟩
theorem standbySelftestItemDone (item : Nat) (pass : Bool) : Statement (.standbySelftestItemDone item pass) := fun _ => ⟨rfl, rfl, rfl⟩
theorem vatBLoadStart : Statement (.vatBLoadStart) := fun _ => ⟨rfl, rfl, rfl⟩
theorem fwLoadDone (hub : Hub) (readErrors : Nat) : Statement (.fwLoadDone hub readErrors) := fun _ => ⟨rfl, rfl, rfl⟩
theorem transitFrame (die port : Nat) (flits : List Nat) : Statement (.transitFrame die port flits) := fun _ => ⟨rfl, rfl, rfl⟩
theorem feltSpacerTimeout (die port : Nat) : Statement (.feltSpacerTimeout die port) := fun _ => ⟨rfl, rfl, rfl⟩
theorem feltAck (h : Hdr) (die txn status : Nat) (reelLo : Nat) : Statement (.feltAck h die txn status reelLo) := fun w => ⟨rfl, (left w), rfl⟩
theorem credit (die port data : Nat) : Statement (.credit die port data) := fun _ => ⟨rfl, rfl, rfl⟩
theorem idle (die port : Nat) : Statement (.idle die port) := fun _ => ⟨rfl, rfl, rfl⟩
theorem probe (die port value : Nat) : Statement (.probe die port value) := fun _ => ⟨rfl, rfl, rfl⟩
theorem echo (die port value : Nat) : Statement (.echo die port value) := fun _ => ⟨rfl, rfl, rfl⟩
theorem probePeriod (die port : Nat) : Statement (.probePeriod die port) := fun _ => ⟨rfl, rfl, rfl⟩
theorem linkDown (die port : Nat) : Statement (.linkDown die port) := fun _ => ⟨rfl, rfl, rfl⟩
theorem creditTimeout (die port : Nat) : Statement (.creditTimeout die port) := fun _ => ⟨rfl, rfl, rfl⟩
theorem linkSilenceTimeout (die port : Nat) : Statement (.linkSilenceTimeout die port) := fun _ => ⟨rfl, rfl, rfl⟩
theorem partialTxnTimeout (die src cls : Nat) : Statement (.partialTxnTimeout die src cls) := fun _ => ⟨rfl, rfl, rfl⟩
theorem txnResendTimeout (die cls seq : Nat) : Statement (.txnResendTimeout die cls seq) := fun _ => ⟨rfl, rfl, rfl⟩
theorem ringBreak (h : Hdr) (die ring link : Nat) : Statement (.ringBreak h die ring link) := fun w => ⟨rfl, (left w), rfl⟩
theorem ringJoin (h : Hdr) (die ring link count : Nat) : Statement (.ringJoin h die ring link count) := fun w => ⟨rfl, (left w), rfl⟩
theorem ringJoinActivation (die ring : Nat) : Statement (.ringJoinActivation die ring) := fun _ => ⟨rfl, rfl, rfl⟩
theorem stationIsolation (die : Nat) : Statement (.stationIsolation die) := fun _ => ⟨rfl, rfl, rfl⟩
theorem stationIsolated (die : Nat) : Statement (.stationIsolated die) := fun _ => ⟨rfl, rfl, rfl⟩
theorem stopRise (die : Nat) : Statement (.stopRise die) := fun _ => ⟨rfl, rfl, rfl⟩
theorem barrier (h : Hdr) (die tag : Nat) (gen : Option Nat) : Statement (.barrier h die tag gen) := fun w => ⟨rfl, (left (left (left w))), rfl⟩
theorem barrierDrained (die seq : Nat) : Statement (.barrierDrained die seq) := fun _ => ⟨rfl, rfl, rfl⟩
theorem agentCmd (h : Hdr) (die : Nat) (op : AgentOp) : Statement (.agentCmd h die op) := fun w => ⟨rfl, (left (left w)), rfl⟩
theorem laneBerWindowEnd (c : LaneCount) (optical : Bool) : Statement (.laneBerWindowEnd c optical) := fun _ => ⟨rfl, rfl, rfl⟩
theorem feltLinkQualDone (die port echoed errors : Nat) : Statement (.feltLinkQualDone die port echoed errors) := fun _ => ⟨rfl, rfl, rfl⟩
theorem alignProbe (h : Hdr) (die value : Nat) : Statement (.alignProbe h die value) := fun w => ⟨rfl, (left w), rfl⟩
theorem alignEcho (die neighbour port : Nat) (rt1 rt2 rt3 : Nat) : Statement (.alignEcho die neighbour port rt1 rt2 rt3) := fun _ => ⟨rfl, rfl, rfl⟩
theorem alignSet (h : Hdr) (die t halfRt edgeIn : Nat) : Statement (.alignSet h die t halfRt edgeIn) := fun w => ⟨rfl, (left w), rfl⟩
theorem alignDone : Statement (.alignDone) := fun _ => ⟨rfl, rfl, rfl⟩
theorem reelCompareTick (die : Nat) : Statement (.reelCompareTick die) := fun _ => ⟨rfl, rfl, rfl⟩
theorem reelCmp (h : Hdr) (die count : Nat) : Statement (.reelCmp h die count) := fun w => ⟨rfl, (left w), rfl⟩
theorem reelCorrectionResume (die : Nat) : Statement (.reelCorrectionResume die) := fun _ => ⟨rfl, rfl, rfl⟩
theorem reelLockLoss (die : Nat) : Statement (.reelLockLoss die) := fun _ => ⟨rfl, rfl, rfl⟩
theorem reelLockReturn (die : Nat) : Statement (.reelLockReturn die) := fun _ => ⟨rfl, rfl, rfl⟩
theorem refLoss : Statement (.refLoss) := fun _ => ⟨rfl, rfl, rfl⟩
theorem launchArm (h : Hdr) (die ctx count : Nat) : Statement (.launchArm h die ctx count) := fun w => ⟨rfl, (left (left w)), rfl⟩
theorem launchRelease (die ctx : Nat) : Statement (.launchRelease die ctx) := fun _ => ⟨rfl, rfl, rfl⟩
theorem stallIntervalSaturate (region : Nat) : Statement (.stallIntervalSaturate region) := fun _ => ⟨rfl, rfl, rfl⟩
theorem tempSample (die sensor raw : Nat) : Statement (.tempSample die sensor raw) := fun _ => ⟨rfl, rfl, rfl⟩
theorem vmonSample (die monitor raw nominal : Nat) : Statement (.vmonSample die monitor raw nominal) := fun _ => ⟨rfl, rfl, rfl⟩
theorem paceSample (die monitor raw : Nat) : Statement (.paceSample die monitor raw) := fun _ => ⟨rfl, rfl, rfl⟩
theorem sensorRefCheck (die sensor : Nat) (value ref : Int) : Statement (.sensorRefCheck die sensor value ref) := fun _ => ⟨rfl, rfl, rfl⟩
theorem analogBistSlice (die item index : Nat) (measured second : Int) (signal : Bool) : Statement (.analogBistSlice die item index measured second signal) := fun _ => ⟨rfl, rfl, rfl⟩
theorem brkAddrTrap (die addr : Nat) : Statement (.brkAddrTrap die addr) := fun _ => ⟨rfl, rfl, rfl⟩
theorem brkDrainEnd (ctx : Nat) : Statement (.brkDrainEnd ctx) := fun _ => ⟨rfl, rfl, rfl⟩
theorem brkHoldScreen (core : Nat) : Statement (.brkHoldScreen core) := fun _ => ⟨rfl, rfl, rfl⟩
theorem gstopJtag (hub : Hub) : Statement (.gstopJtag hub) := fun _ => ⟨rfl, rfl, rfl⟩
theorem gstopRel (h : Hdr) (die count : Nat) : Statement (.gstopRel h die count) := fun w => ⟨rfl, (left w), rfl⟩
theorem gstopReleaseActivation : Statement (.gstopReleaseActivation) := fun _ => ⟨rfl, rfl, rfl⟩
theorem dumpUnitDone (markerOk : Bool) (image : List Byte) : Statement (.dumpUnitDone markerOk image) := fun _ => ⟨rfl, rfl, rfl⟩
theorem dumpUnitTimeout : Statement (.dumpUnitTimeout) := fun _ => ⟨rfl, rfl, rfl⟩
theorem recordWriteDone (hub : Hub) (ok retryOk : Bool) : Statement (.recordWriteDone hub ok retryOk) := fun _ => ⟨rfl, rfl, rfl⟩
theorem hoursPersistTick : Statement (.hoursPersistTick) := fun _ => ⟨rfl, rfl, rfl⟩
theorem sysRstNRelease : Statement (.sysRstNRelease) := fun _ => ⟨rfl, rfl, rfl⟩
theorem sysRstNAssert : Statement (.sysRstNAssert) := fun _ => ⟨rfl, rfl, rfl⟩
theorem powerLoss : Statement (.powerLoss) := fun _ => ⟨rfl, rfl, rfl⟩
theorem vatSelfBistDone (hub : Hub) (logicOk memoryOk : Bool) (test : Nat) : Statement (.vatSelfBistDone hub logicOk memoryOk test) := fun _ => ⟨rfl, rfl, rfl⟩
theorem agentSelfBistDone (die : Nat) (ok calOk : Bool) (test : Nat) : Statement (.agentSelfBistDone die ok calOk test) := fun _ => ⟨rfl, rfl, rfl⟩
theorem startupScreenTimeout : Statement (.startupScreenTimeout) := fun _ => ⟨rfl, rfl, rfl⟩
theorem deckleMapBuild : Statement (.deckleMapBuild) := fun _ => ⟨rfl, rfl, rfl⟩
theorem inboundBridgedMessage (hub : Hub) (i3c : Bool) (payload : List Nat) : Statement (.inboundBridgedMessage hub i3c payload) := fun _ => ⟨rfl, rfl, rfl⟩
theorem messageInterruptAccepted : Statement (.messageInterruptAccepted) := fun _ => ⟨rfl, rfl, rfl⟩
theorem partitionAssignment (die part : Nat) : Statement (.partitionAssignment die part) := fun _ => ⟨rfl, rfl, rfl⟩
theorem unsupportedPldmCommand (hub : Hub) (pldmType command : Nat) : Statement (.unsupportedPldmCommand hub pldmType command) := fun _ => ⟨rfl, rfl, rfl⟩

end Sys2Proof.Laws.WellFormed
end

