-- ==== Sys2Proof/Laws/Windows.lean ====
section
/-! SUPPORT. Where the addresses of the windows lie, and what an access to a register of a Vat or a tap comes down to. -/

namespace Sys2Proof.Machine

theorem placeOf_vat (h : Hub) (off : Nat) (ho : off < 0x100000) : placeOf (vatAddr h off) = .vatWin (some h) off := by
  cases h
  · unfold vatAddr placeOf
    simp only [Bool.and_eq_true, decide_eq_true_eq]
    rw [if_pos (by omega), Nat.add_sub_cancel_left]
  · unfold vatAddr placeOf
    simp only [Bool.and_eq_true, decide_eq_true_eq]
    rw [if_neg (by omega), if_pos (by omega), Nat.add_sub_cancel_left]

theorem tap_range (p : Nat) (hp : validCore p = true) : coreDie p < 96 ∧ coreIndex p < 156 := by
  simp [validCore] at hp
  simp only [coreDie, coreIndex]; omega
theorem pcoreOf_tap (p : Nat) (hp : validCore p = true) : pcoreOf (coreDie p) (coreIndex p) = p := by
  simp [validCore] at hp
  simp only [pcoreOf, coreDie, coreIndex]; omega
theorem placeOf_tap (p off : Nat) (hp : validCore p = true) (ho : off < 0x100) :
    placeOf (tapAddr p off) = .couchWin (coreDie p) (0x6000 + coreIndex p * 0x100 + off) := by
  have := tap_range p hp
  unfold tapAddr placeOf
  simp only [Bool.and_eq_true, decide_eq_true_eq]
  rw [if_neg (by omega), if_neg (by omega), if_neg (by omega), if_pos (by omega)]
  have e1 : (0xE0006000 + (0x10000 * coreDie p + 0x100 * coreIndex p + off) - 0xE0000000) / 0x10000 = coreDie p := by omega
  have e2 : (0xE0006000 + (0x10000 * coreDie p + 0x100 * coreIndex p + off) - 0xE0000000) % 0x10000 = 0x6000 + coreIndex p * 0x100 + off := by omega
  rw [e1, e2]
theorem tapAt_tap (p off : Nat) (hp : validCore p = true) (ho : off < 0x100) : tapAt (coreDie p) (0x6000 + coreIndex p * 0x100 + off) = some p := by
  have h := tap_range p hp
  unfold tapAt
  rw [if_pos (by simp [isCompute]; omega)]
  have : (0x6000 + coreIndex p * 0x100 + off - 0x6000) / 0x100 = coreIndex p := by omega
  rw [this, pcoreOf_tap p hp]
theorem served_active (s : State) (h : Hub) (e : (s.vat h).role = .active) : s.served = true := by
  have ha : s.activeHub.isSome := by
    unfold State.activeHub
    cases h
    · simp [State.vat] at e; simp [e]
    · simp [State.vat] at e; by_cases h : s.vatA.role = .active <;> simp [e, h]
  have hl : s.aliasHub.isSome := by
    unfold State.aliasHub State.acting
    obtain ⟨v, hv⟩ := Option.isSome_iff_exists.mp ha
    rw [hv]; cases s.sh.switching <;> rfl
  simp [State.served, hl]
theorem emits_head (s t : State) (o : Out) (h : t.out = o :: s.out) : Emits s t o := ⟨[o], h, by simp⟩
theorem accessWrite_vat (s : State) (h : Hub) (off : Nat) (pr : Priv) (tag : Option Nat) (v : Word) (ho : off < 0x100000) (ha : off % 4 = 0) (hs : s.served = true) :
    s.accessWrite ⟨vatAddr h off, 4, pr, tag⟩ v = s.vatWrite h off v pr := by
  have e : vatAddr h off % 4 = 0 := by cases h <;> simp only [vatAddr] <;> omega
  unfold State.accessWrite
  simp [placeOf_vat h off ho, hs, e]
theorem accessRead_vat (s : State) (h : Hub) (off : Nat) (pr : Priv) (tag : Option Nat) (ho : off < 0x100000) (ha : off % 4 = 0) (hs : s.served = true) :
    s.accessRead ⟨vatAddr h off, 4, pr, tag⟩ = s.vatRead h off pr := by
  have e : vatAddr h off % 4 = 0 := by cases h <;> simp only [vatAddr] <;> omega
  unfold State.accessRead
  simp [placeOf_vat h off ho, hs, e]
theorem accessRead_tap (s : State) (p off : Nat) (pr : Priv) (tag : Option Nat) (hp : validCore p = true) (ho : off < 0x100) (ha : off % 4 = 0) (hs : s.served = true)
    (hr : (s.die (coreDie p)).inReset = false) (ht : s.tapMeets p (mtpReadPriv off) pr tag = true) :
    s.accessRead ⟨tapAddr p off, 4, pr, tag⟩ = (s.mtpRead p off).2.emit (.readValue (BitVec.ofNat 32 (s.mtpRead p off).1)) := by
  have e : tapAddr p off % 4 = 0 := by simp only [tapAddr]; omega
  have e2 : (0x6000 + coreIndex p * 0x100 + off) % 0x100 = off := by omega
  unfold State.accessRead
  simp [placeOf_tap p off hp ho, hs, e, State.couchRead, hr, tapAt_tap p off hp ho, e2, ht]
theorem accessWrite_tap (s : State) (p off : Nat) (pr : Priv) (tag : Option Nat) (v : Word) (hp : validCore p = true) (ho : off < 0x100) (ha : off % 4 = 0) (hs : s.served = true)
    (hr : (s.die (coreDie p)).inReset = false) (ht : s.tapMeets p (mtpWritePriv off) pr tag = true) :
    s.accessWrite ⟨tapAddr p off, 4, pr, tag⟩ v = (s.mtpWriteIn p off v pr tag).emit .writeDone := by
  have e : tapAddr p off % 4 = 0 := by simp only [tapAddr]; omega
  have e2 : (0x6000 + coreIndex p * 0x100 + off) % 0x100 = off := by omega
  unfold State.accessWrite
  simp [placeOf_tap p off hp ho, hs, e, State.couchWrite, hr, tapAt_tap p off hp ho, e2, ht]

end Sys2Proof.Machine
end

