-- ==== Sys2Proof/Tests/Slice0.lean ====
section
/-! SUPPORT. The model's own tests: states and operands that meet the hypotheses of every obligation, clause by clause; ill-formed terms that each
check of well-formedness refuses; and the manual's worked examples. -/

open Sys2Proof Sys2Proof.Machine

namespace Sys2Proof.Tests
set_option linter.unusedVariables false
set_option Elab.async false

/-- A compute die in use: core 0 carries logical core 0, core 1 carries logical core 1. -/
def dieUp : Die := { bist := some true, epoch := 5, reelOn := true, reelLock := true, unaligned := false, phys := [(0, 2 ^ 29), (1, 2 ^ 29 + 2 ^ 14)]
                     home := [(0, 2 ^ 31), (1, 2 ^ 31 + 2 ^ 17 + 1)] }
/-- A hub die in use. -/
def hubUp : Die := { bist := some true, epoch := 5, reelOn := true, reelLock := true, unaligned := false }
/-- A plan's entry for a logical core, with the given unit descriptors. -/
def planFor (n : Nat) (descs : List (List Nat)) : PlanLc :=
  { lc := n, descs := descs, slots := [], wins := [], pressGroup := 0xFFFF, ringOffset := 0, rollback := [], joins := [], maps := [], cancels := [] }
/-- A plan of logical cores 0 and 1. -/
def planUp : Plan := { lcs := [planFor 0 [], planFor 1 []], training := true, tensors := [], updateOps := [], layerOps := [], streams := [], drawOps := []
                       samplesPerIter := 0, samplesBefore := [], expected := [], formatOk := true }
/-- Vat A ACTIVE and Vat B STANDBY in epoch 5, the package ready in Field, context 1 launched on two cores, three sessions open. -/
def up : State :=
  { State.reset with
    reel := 1000000
    pkg := { boot := .ready, ready := true, dieMask := 2 ^ 96 - 1, vendorKeys := [9], keys := [⟨1, 3, 0, 0, 0, 0⟩, ⟨2, 4, 0, 8, 0, 0⟩] }
    vatA := { role := .active, epoch := 5, mramEpoch := 5, bist := some true, image := some true }
    vatB := { role := .standby, epoch := 5, mramEpoch := 5, bist := some true, image := some true }
    sh := { ctxs := [(1, { state := 2, plan := some planUp })]
            sessions := [(1, some { priv := .operator, keyId := 3, path := .mgmt .a 8, token := some 77 }),
              (2, some { priv := .tenant, keyId := 4, path := .mgmt .a 8, token := some 78 }),
              (3, some { priv := .vendor, keyId := 9, path := .mgmt .a 8, token := some 79 })] }
    dies := [(0, dieUp), (96, hubUp), (97, hubUp)]
    lcs := [(0, { lstep := 100, lstepValid := true, tag := some 1, issuing := true }), (1, { lstep := 100, lstepValid := true, tag := some 1, issuing := true })] }
/-- A packet of the Operator's session. -/
def rqO : Req := { path := .mgmt .a 8, tag := 21, priv := .operator, ctx := 1, session := 1, token := 77, lenOk := true, crc := 5, reservedZero := true, sigR := 1, sigS := 2 }
/-- A packet of the Tenant's session. -/
def rqT : Req := { rqO with priv := .tenant, session := 2, token := 78 }
/-- A packet of the Vendor's session. -/
def rqV : Req := { rqO with priv := .vendor, session := 3, token := 79 }
/-- A packet under no session. -/
def rqN : Req := { rqO with priv := .none, session := 0, token := 0 }
/-- The header of a transaction from die 0 to a hub, and of the active Vat's to a die. -/
def hIn : Hdr := { src := 0, seq := 7, ring := 0, epoch := 5 }
def hOut : Hdr := { src := 96, seq := 7, ring := 0, epoch := 5 }
/-- Context 1 of a state, changed. -/
def withCtx (f : Ctx → Ctx) : State := up.modCtx 1 f
def withSh (f : Shared → Shared) : State := up.modSh f
def withDie (d : Nat) (f : Die → Die) : State := up.modDie d f
/-- A running command. -/
def runOf (op c : Nat) : Run := { path := .mgmt .a 8, tag := 30, crc := 6, opcode := op, ctx := c, start := 0, clamps := [], arg := 0 }
/-- An event record. -/
def rec1 : Rec := { seq := 4, code := 0x0700, severity := 1, unaligned := false, staged := true, single := false, source := 1, pcycle := 0, hours := 0, reel := 0,
                    p1 := 0, p2 := 0, p3 := 0 }
/-- Two more dies: die 1 carries logical core 144 on core 256, and die 2 spares. -/
def dieOne : Die := { dieUp with phys := [(0, 2 ^ 29 + 144 * 2 ^ 14)], home := [(0, 2 ^ 31 + 144 * 2 ^ 17 + 256)] }
/-- The first bytes of a package of a kind with a serial and so many slices. -/
def packBytes (kind serial slices : Nat) : List Nat :=
  numBytes 4 0x59545254 ++ numBytes 2 1 ++ [kind, 1] ++ numBytes 4 3 ++ numBytes 2 Config.siliconStep ++ List.replicate 18 0 ++ numBytes 4 serial ++
    numBytes 4 2048 ++ numBytes 4 slices
def packCells (kind serial slices : Nat) : List Host.Cell := tput (0 : Byte) [] 0 ((packBytes kind serial slices).map (BitVec.ofNat 8))
/-- A distribution of a package to dies 0 and 1. -/
def distUp : Dist := { id := 9, kind := 2, serial := 5, chunks := 3, step := 1, targets := [0, 1], ready := [], complete := [], hashFail := [], next := 0
                       resend := [], polled := [], repaired := 0, rounds := 0, armCount := 0, acked := [], activated := [], late := 0, firstArm := none
                       asked := none, data := packCells 2 5 2, bytes := 2304 }
def withDist (f : Dist → Dist) : State := withSh fun h => { h with dists := [(2, some (f distUp))] }
/-- The same package at an agent. -/
def stagUp : Staging := { dist := 9, total := 3, header := [], bank := 1, chunks := [], copied := true, hashed := false, arm := none }
def withStag (f : Staging → Staging) : State := withDie 0 fun k => { k with furnish := { k.furnish with staging := [(2, some (f stagUp))] } }
/-- A replica comparison configured. -/
def repUp : Replica := { group := 7, r := 3, index := 1, k := 16 }
def withRep (f : Replica → Replica) : State := withCtx fun x => { x with replica := some (f repUp) }
/-- A digest record. -/
def recA : DigestRec := { tensor := 1, pass := 2, count := 30, flags := 0, d0 := 5, d1 := 6 }
/-- A triage of core 0. -/
def triUp : Triage := { (default : Triage) with core := 0, lc := 0, ticket := 0, ctx := 1, layer := 1, oper := 2, source := 1, spare := some 12 }
def withTri (f : Triage → Triage) : State := withSh fun h => { h with triages := [f triUp] }
/-- A unit descriptor: a rounded unit of layer 1, operator 2 and 16 rows; a Laid one, one with a dispatch tally, and one with a duplicate on logical core 1. -/
def descR : List Nat := [65538, 100, 0, 0, 16, 0, 0, 0]
def descL : List Nat := [65538, 2 ^ 30 + 100, 0, 64, 65536 + 16, 0, 0, 0]
def descT : List Nat := [65538, 2 ^ 29 + 100, 0, 0, 16, 64, 0, 0]
def descD : List Nat := [65538, 2 ^ 31 + 500, 0, 0, 16, 0, 2 ^ 18, 0]
def descG : List Nat := [65538, 2 ^ 30 + 500, 0, 64, 65536 + 16, 2 ^ 31 + 2 ^ 30 + 2 * 256, 0, 0]
def descGate : List Nat := [65538, 2 ^ 17 + 500, 0, 0, 16, 0, 16, 0]
/-- Logical core 0 has one unit descriptor and the given ticket 0. -/
def unitUp (d : List Nat) (k : Ticket) : State :=
  withSh fun h => { h with ctxs := [(1, { state := 2, plan := some { planUp with lcs := [planFor 0 [d], planFor 1 [d]] } })], tickets := [(0, k)] }
def tickUp : Ticket := { state := .opened, ctx := 1, layer := 1, oper := 2, descIdx := 0 }
/-- A snapshot of context 1, its holds done, and a manifest. -/
def snapUp : Snap := { id := 4, iter := 2, point := 0, package := false, delta := 0, deadline := 100, step := 2, held := [0, 1], barrierReel := 0, reams := [], acked := []
                       lost := [], man := none, data := [], state := (0, 0, 0) }
def manUp : Manifest := { (default : Manifest) with id := 4, valid := true, iter := 2, steps := [(0, 90)], planSha := 0, d0 := 5, d1 := 6, count := 30 }
def reamUp : Ream := { n := 1, shards := [{ holder := 0, die := 0, index := 0, offset := 0, length := 64, digest := 0, here := true },
                                          { holder := 0, die := 1, index := 1, offset := 0, length := 64, digest := 0, here := true }] }
def snapAcks : Snap := { snapUp with step := 5, reams := [reamUp], man := some manUp }
def groupUp : GroupTable := { id := 1, epoch := 3, ranks := 2, rank := 1, addrs := [5, 6] }
/-- A die that may screen core 2: its sensors are sampled, its base furnish and microcode are active, and it holds a lease. -/
def calOk : Cal := { temps := (List.range 16).map fun n => (n, { sampled := true, temp := 400 }) }
def dieScr : Die := { dieUp with cal := calOk, beater := { target := some 2, lease := some 2000000 }
                                 furnish := { bank0 := packCells 1 1 400, ucode0 := packCells 3 1 0, ucodeRom := false } }
def withScr (f : Beater → Beater) : State := withDie 0 fun _ => { dieScr with beater := f dieScr.beater }
/-- A breakpoint, a hold it gives, a dump's unit, a stopped core's entry, a switch-over gap, and a transaction that waits. -/
def brkUp : Brk := { number := 0, kind := 0, scope := 0, arg := 64, arg2 := 0 }
def brkHeldUp (f : Bool) : BrkHold := { kind := 0, scope := 0, number := 0, start := 5, inForce := f, resume := none, after := false }
def unitOne : DumpUnit := { kind := 1, unit := 2, offset := 0, length := 0 }
def withDbg (f : Debug → Debug) : State := { up with dbg := f up.dbg }
def gapUp : Gap := { trigger := 1, start := 0, step := 1, newActive := .b, epoch := 6, gated := false, confirmed := false, deposeReel := 0, asked := 0, acks := [0, 1], naks := []
                     lastAck := 0, returned := [], others := [], items := [], held := [], switchRun := false }
def withGap (f : Gap → Gap) : State := withSh fun h => { h with gap := some (f gapUp) }
def pendUp : Pend := { t := { src := 0, type := 0x08, mode := 0, dst := 96, seq := 3, words := [1] }, resends := 0, acked := [] }
def fwH : FwHeader := { magic := 0x4D524B56, format := 1, step := Config.siliconStep, keyId := 9, serial := 1, payloadLen := 64, entry := 0, sha := 0, r := 0, s := 0, zeros := true }
/-- A transaction on the wire to die 0, and to the die beyond it: the flits of its only frame, and the frame that they spell. -/
def txUp (d : Nat) : Txn := { src := 97, type := 0x08, mode := 0, dst := d, seq := 3, words := [1, 2] }
def flitsUp (d : Nat) : List Nat := frameFlits 0 (frameWords (txUp d) 50 0 0 true [1, 2])
def frameUp (d : Nat) : FrameIn := { cls := 0, w0 := headWord0 (txUp d) 2, w1 := headWord1 3 50 0 0 true, payload := [1, 2] }
/-- A context under reclamation with a default map. -/
def reclUp : State := withCtx fun x => { x with reclaimAt := some 5, autoSnap := 1, defaultMap := some (false, 0, ⟨[], true⟩) }
/-- What holds of a table's default and of every entry holds of what it reads. -/
theorem tget_all {β : Type} (d : β) (f : β → Bool) (l : Table β) (h0 : f d = true) (h : (l.all fun e => f e.2) = true) (n : Nat) :
    f (tget d l n) = true := by
  induction l with
  | nil => exact h0
  | cons e l ih =>
    simp only [List.all_cons, Bool.and_eq_true] at h
    by_cases k : n = e.1 <;> simp [tget, k, h.1, ih h.2]
theorem held_none (s : State) (h : (s.dies.all fun e => e.2.held == []) = true) (d : Nat) : (s.die d).held = [] :=
  eq_of_beq (tget_all ({} : Die) (fun k => k.held == []) s.dies rfl h d)
theorem gate_none (s : State) (h : (s.lcs.all fun e => e.2.gate == []) = true) (n : Nat) : (s.lc n).gate = [] :=
  eq_of_beq (tget_all ({} : Lc) (fun k => k.gate == []) s.lcs rfl h n)

/-- States and operands that meet the hypotheses of each clause of RegisterCommandsComplete. -/
theorem test_hyps_RegisterCommandsComplete :
    (∃ (s : State) (h : Hub) (pr : Priv) (tag : Option Nat) (v : Word), (s.vat h).role = Role.active ∧ privMeets pr Priv.operator = true ∧ bit s.sh.msiCtl 31 = false) ∧
    (∃ (s : State) (h : Hub) (pr : Priv) (tag : Option Nat), (s.vat h).role = Role.active) ∧
    (∃ (s : State) (p : Nat) (pr : Priv) (tag : Option Nat), s.served = true ∧ validCore p = true ∧ (s.die (coreDie p)).inReset = false ∧ s.cstate p < 6 ∧ s.tapMeets p Priv.tenant pr tag = true) ∧
    (∃ (s : State) (p : Nat) (pr : Priv) (tag : Option Nat), s.served = true ∧ validCore p = true ∧ (s.die (coreDie p)).inReset = false ∧ s.cstate p < 6 ∧ s.tapMeets p Priv.operator pr tag = true) ∧
    (∃ (s : State) (h : Hub) (pr : Priv) (tag : Option Nat), s.activeHub = some h ∧ privMeets pr Priv.operator = true ∧ (s.vat h).cplDie < 100 ∧ (s.die (s.vat h).cplDie).inReset = false) ∧
    (∃ (s : State) (h : Hub) (pr : Priv) (tag : Option Nat) (v : Word), s.activeHub = some h ∧ privMeets pr Priv.operator = true ∧ (s.vat h).cplDie < 100 ∧ (s.die (s.vat h).cplDie).inReset = false) ∧
    (∃ (s : State) (id : Nat), (∃ f ∈ s.sh.fwds, f.id = id)) :=
  ⟨⟨up, .a, .operator, none, 7#32, by decide +kernel⟩,
    ⟨up, .a, .none, none, by decide +kernel⟩,
    ⟨up, 0, .tenant, some 1, by decide +kernel⟩,
    ⟨up, 0, .operator, none, by decide +kernel⟩,
    ⟨up, .a, .operator, none, by decide +kernel⟩,
    ⟨up, .a, .operator, none, 9#32, by decide +kernel⟩,
    ⟨withSh fun h => { h with fwds := [⟨7, 3, false, 0⟩] }, 7, by decide +kernel⟩⟩

/-- States and operands that meet the hypotheses of each clause of ControlWritesComplete. -/
theorem test_hyps_ControlWritesComplete :
    (∃ (s : State) (h : Hub) (pr : Priv) (tag : Option Nat), (s.vat h).role = Role.active ∧ privMeets pr Priv.operator = true) ∧
    (∃ (s : State) (h : Hub) (pr : Priv) (tag : Option Nat), (s.vat h).role = Role.active ∧ privMeets pr Priv.operator = true) ∧
    (∃ (s : State) (h : Hub) (pr : Priv) (tag : Option Nat), (s.vat h).role = Role.active ∧ privMeets pr Priv.operator = true) ∧
    (∃ (s : State) (p : Nat) (pr : Priv) (tag : Option Nat) (v : Word), s.served = true ∧ validCore p = true ∧ (s.die (coreDie p)).inReset = false ∧ s.cstate p < 4 ∧ s.tapMeets p Priv.operator pr tag = true ∧ (s.core p).lock = false ∧ bit (s.cfg 209).each 1 = false ∧ bit (s.cfg 209).thresh 1 = false) ∧
    (∃ (s : State) (p : Nat) (n : Nat) (k : Nat) (v : Word), BitVec.toNat v % 4 = 1 ∧ s.served = true ∧ validCore p = true ∧ (s.die (coreDie p)).inReset = false ∧ s.cstate p < 4 ∧ s.lcOf p = some n ∧ (s.lc n).tag = some k ∧ (s.die (coreDie p)).revoked.contains k = false ∧ (s.ctx (k % 4096)).state ≠ 3 ∧ (s.win p).opened = false ∧ (s.win p).base + clampLen s.pkg.spad (s.win p).base (s.win p).len ≤ s.pkg.spad ∧ s.inReamArea (coreDie p) (s.win p).base (clampLen s.pkg.spad (s.win p).base (s.win p).len) = false) ∧
    (∃ (s : State) (p : Nat) (n : Nat) (v : Word), BitVec.toNat v % 4 = 2 ∧ s.served = true ∧ validCore p = true ∧ (s.die (coreDie p)).inReset = false ∧ s.cstate p < 4 ∧ s.lcOf p = some n ∧ (s.win p).opened = true) ∧
    (∃ (s : State) (h : Hub) (n : Nat) (i : Nat) (pr : Priv) (tag : Option Nat) (v : Word), s.acting = some h ∧ n < 64 ∧ i < 128 ∧ (tget { } s.sh.slots n).state ≠ 2 ∧ (∀ (k : ApSlot), k.packet = tset 0 (tget { } s.sh.slots n).packet i v → startWord k ≠ i * 4)) :=
  ⟨⟨up.modVat .a (fun v => { v with privDeny := 3 }), .a, .operator, none, by decide +kernel⟩,
    ⟨up.modVat .a (fun v => { v with privDeny := 3 }), .a, .operator, none, by decide +kernel⟩,
    ⟨up.modVat .a (fun v => { v with privDeny := 3 }), .a, .operator, none, by decide +kernel⟩,
    ⟨up, 0, .operator, none, 0x80000000#32, by decide +kernel⟩,
    ⟨up, 0, 0, 1, 1#32, by decide +kernel⟩,
    ⟨up.modLc 0 (fun l => { l with wins := [(0, { opened := true, gen := 255 })] }), 0, 0, 2#32, by decide +kernel⟩,
    ⟨up, .a, 63, 126, .operator, none, 9#32, by decide +kernel, by decide +kernel, by decide +kernel, by decide +kernel, fun k h => by simp only [startWord, apLength, h]; decide +kernel⟩⟩

/-- States and operands that meet the hypotheses of each clause of SessionCommandsComplete. -/
theorem test_hyps_SessionCommandsComplete :
    (∃ (s : State) (rq : Req) (v : Hub), s.admits (Instr.ident rq) = true ∧ s.acting = some v) ∧
    (∃ (s : State) (rq : Req) (priv : Nat) (keyId : Nat), s.admits (Instr.authOpen rq priv keyId) = true ∧ (priv = 2 → pathHub rq.path = none) ∧ s.pkg.lifecycle = 2 ∧ s.openSessions < 32) ∧
    (∃ (s : State) (rq : Req) (n : Nat) (x : Session), s.admits (Instr.authProve rq n) = true ∧ rq.priv = Priv.none ∧ s.session n = some x ∧ x.token = none ∧ s.reel ≤ x.opened + 10000000000 ∧ samePath x.path rq.path = true) ∧
    (∃ (s : State) (n : Nat) (x : Session), s.session n = some x ∧ x.token = none) ∧
    (∃ (s : State) (rq : Req), s.admits (Instr.authClose rq) = true) ∧
    (∃ (s : State) (n : Nat) (x : Session), s.session n = some x) ∧
    (∃ (s : State) (rq : Req), s.admits (Instr.vatHealth rq) = true) :=
  ⟨⟨up, rqN, .a, by decide +kernel⟩,
    ⟨up, rqN, 1, 3, by decide +kernel⟩,
    ⟨withSh (fun h => { h with sessions := [(5, some { priv := .operator, keyId := 3, path := .mgmt .a 8 })] }), rqN, 5, { priv := .operator, keyId := 3, path := .mgmt .a 8 }, by decide +kernel⟩,
    ⟨withSh (fun h => { h with sessions := [(5, some { priv := .operator, keyId := 3, path := .mgmt .a 8 })] }), 5, { priv := .operator, keyId := 3, path := .mgmt .a 8 }, by decide +kernel⟩,
    ⟨up, rqT, by decide +kernel⟩,
    ⟨up, 1, { priv := .operator, keyId := 3, path := .mgmt .a 8, token := some 77 }, by decide +kernel⟩,
    ⟨up, rqN, by decide +kernel⟩⟩

/-- States and operands that meet the hypotheses of each clause of KeyCommandsComplete. -/
theorem test_hyps_KeyCommandsComplete :
    (∃ (s : State) (rq : Req) (n : Nat), s.admits (Instr.lifecycleSet rq n) = true ∧ rq.priv = Priv.vendor ∧ lifecycleOk s.pkg.lifecycle n s.pkg.returns = true ∧ s.distRuns = false ∧ s.snapshotRuns = false ∧ s.pkg.fwWriting = none) ∧
    (∃ (s : State) (rq : Req) (cls : Nat) (id : Nat) (base : Nat) (count : Nat) (x : Nat) (y : Nat), s.admits (Instr.keyEnroll rq cls id base count x y) = true ∧ (s.keysOf cls).length < if cls = 1 then 8 else 64) ∧
    (∃ (s : State) (rq : Req) (cls : Nat) (id : Nat) (k : Key), s.admits (Instr.keyRevoke rq cls id) = true ∧ k ∈ s.pkg.keys ∧ k.cls = cls ∧ k.id = id) ∧
    (∃ (s : State) (rq : Req) (raw : List Byte) (l : Licence), s.admits (Instr.licenceInstall rq raw) = true ∧ l = licenceOf (List.map (fun x => BitVec.toNat x) raw)) ∧
    (∃ (s : State) (rq : Req), s.admits (Instr.licenceRead rq) = true) :=
  ⟨⟨up, rqV, 3, by decide +kernel⟩,
    ⟨up, rqO, 2, 6, 8, 8, 1, 2, by decide +kernel⟩,
    ⟨up, rqO, 2, 4, ⟨2, 4, 0, 8, 0, 0⟩, by decide +kernel⟩,
    ⟨up, rqO, List.replicate 256 0, licenceOf (List.replicate 256 0), by decide +kernel⟩,
    ⟨up, rqO, by decide +kernel⟩⟩

/-- States and operands that meet the hypotheses of each clause of ContextCommandsComplete. -/
theorem test_hyps_ContextCommandsComplete :
    (∃ (s : State) (rq : Req) (f : LoadFields) (pr : PlanRead), s.admits (Instr.ctxLoad rq f pr) = true ∧ s.loadRefusal rq.ctx f pr = none) ∧
    (∃ (s : State) (rq : Req), s.admits (Instr.ctxKill rq) = true ∧ (s.ctx rq.ctx).state = 0) ∧
    (∃ (s : State) (rq : Req) (x : Teardown), s.admits (Instr.ctxKill rq) = true ∧ (s.ctx rq.ctx).state = 3 ∧ (s.ctx rq.ctx).teardown = some x ∧ x.step < 6) ∧
    (∃ (s : State) (rq : Req), s.admits (Instr.ctxKill rq) = true ∧ ((s.ctx rq.ctx).state = 1 ∨ (s.ctx rq.ctx).state = 2)) ∧
    (∃ (s : State) (rq : Req), s.admits (Instr.ctxStatus rq) = true) :=
  ⟨⟨{ up with sh := { up.sh with ctxs := [] }, lcs := [] }, rqT, { poisonMode := 1, autoSnap := 0, hangT := 50, xwaitT := 0, riskT := 0, snapMin := 0, planSha := 4 }, ⟨4, planUp⟩, by decide +kernel⟩,
    ⟨withSh (fun h => { h with ctxs := [] }), rqT, by decide +kernel⟩,
    ⟨withCtx (fun x => { x with state := 3, teardown := some ⟨1, 0, 5, 0⟩ }), rqT, ⟨1, 0, 5, 0⟩, by decide +kernel⟩,
    ⟨up, rqT, by decide +kernel⟩,
    ⟨up, rqT, by decide +kernel⟩⟩

/-- States and operands that meet the hypotheses of each clause of FaultCommandsComplete. -/
theorem test_hyps_FaultCommandsComplete :
    (∃ (s : State) (rq : Req) (first : Nat), s.admits (Instr.faultRead rq first 1) = true ∧ rq.priv ≠ Priv.tenant) ∧
    (∃ (s : State) (rq : Req) (src : Nat) (e : Nat) (h : Nat) (n : Nat) (w : Nat) (r : Nat) (key : Nat), s.admits (Instr.faultCfg rq src e h n w r) = true ∧ classOf src = some key ∧ blkAllowed key = true ∧ key ≠ 216 ∧ e < 32 ∧ h < 32 ∧ 1 ≤ n ∧ n ≤ 4095 ∧ 1 ≤ w ∧ w ≤ 3600000000 ∧ r ≤ 1) ∧
    (∃ (s : State) (rq : Req) (first : Nat) (count : Nat), s.admits (Instr.faultZero rq first count) = true ∧ rq.priv ≠ Priv.tenant ∧ 1 ≤ count ∧ count ≤ 8192) ∧
    (∃ (s : State) (rq : Req) (src : Nat), s.admits (Instr.faultClear rq src) = true ∧ src ∈ s.sh.pins ∧ s.pinCondition src = false) ∧
    (∃ (s : State) (rq : Req), s.admits (Instr.faultPending rq) = true) :=
  ⟨⟨withSh (fun h => { h with counters := [(1, { count := 2, total := 2 })] }), rqO, 1, by decide +kernel⟩,
    ⟨up, rqO, 0, 31, 31, 4095, 1, 1, 0, by decide +kernel⟩,
    ⟨withSh (fun h => { h with counters := [(1, { count := 2, total := 2 })] }), rqO, 0, 8192, by decide +kernel⟩,
    ⟨withSh (fun h => { h with pins := [1, 7489] }), rqO, 7489, by decide +kernel⟩,
    ⟨withSh (fun h => { h with pendingList := [1, 2] }), rqO, by decide +kernel⟩⟩

/-- States and operands that meet the hypotheses of each clause of FaultDeliveryCompletes. -/
theorem test_hyps_FaultDeliveryCompletes :
    (∃ (s : State) (d : Nat) (v : Hub), isDie d = true ∧ (s.die d).inReset = false ∧ s.acting = some v ∧ (s.die d).first ≠ []) ∧
    (∃ (s : State) (h : Hdr) (v : Hub) (src : Nat) (r : Nat), isDie h.src = true ∧ s.acting = some v ∧ s.newAt v h 9 = true ∧ src < 1048576 ∧ s.steady src = true ∧ r = s.now) ∧
    (∃ (s : State) (h : Hdr) (d : Nat) (src : Nat), isDie d = true ∧ (s.die d).inReset = false ∧ (s.die d).epoch ≤ h.epoch ∧ s.unseen d h 10 = true ∧ src < 1048576) ∧
    (∃ (s : State) (h : Hdr) (d : Nat) (src : Nat), isDie d = true ∧ (s.die d).inReset = false ∧ s.unseen d h 14 = true) ∧
    (∃ (s : State) (v : Hub), s.sh.intNew = true ∧ s.acting = some v ∧ (∀ (r : Nat), s.sh.intAt = some r → r + 10000 ≤ s.reel)) ∧
    (∃ (s : State) (v : Hub) (w : Nat × Nat) (l : List (Nat × Nat)), s.acting = some v ∧ s.sh.msiWait = w :: l ∧ s.steady (hubSource v 10) = true) ∧
    (∃ (s : State) (w : Nat × Nat) (l : List (Nat × Nat)), s.sh.msiWait = w :: l) :=
  ⟨⟨withDie 0 (fun k => { k with first := [(1, { count := 1, details := [default] })] }), 0, .a, by decide +kernel⟩,
    ⟨up, hIn, .a, 0, 1000000, by decide +kernel⟩,
    ⟨up, hOut, 0, 1048575, by decide +kernel⟩,
    ⟨up, hOut, 0, 5, by decide +kernel⟩,
    ⟨withSh (fun h => { h with intNew := true, intAt := some 990000, msiCtl := 1, msiAddr := 64, msiFault := 3 }), .a, by decide +kernel⟩,
    ⟨withSh (fun h => { h with msiWait := [(1, 0)] }), .a, (1, 0), [], by decide +kernel⟩,
    ⟨withSh (fun h => { h with msiWait := [(2, 0), (1, 5)] }), (2, 0), [(1, 5)], by decide +kernel⟩⟩

/-- States and operands that meet the hypotheses of each clause of DieErrorsAreCounted. -/
theorem test_hyps_DieErrorsAreCounted :
    (∃ (s : State) (d : Nat) (link : Nat), isDie d = true ∧ (s.die d).inReset = false ∧ s.calm (dieSource d 14) = true) ∧
    (∃ (s : State) (d : Nat), isDie d = true ∧ (s.die d).inReset = false ∧ s.calm (dieSource d 16) = true) ∧
    (∃ (s : State) (d : Nat) (c : Nat), isCompute d = true ∧ c < 12 ∧ (s.die d).inReset = false ∧ s.calm (clusterSource d c 1) = true) ∧
    (∃ (s : State) (d : Nat) (e : Nat) (l : Nat), (d = 98 ∨ d = 99) ∧ e < 16 ∧ l < 32 ∧ (s.die d).inReset = false ∧ s.calm (engineSource d e 1) = true) ∧
    (∃ (s : State) (d : Nat), isDie d = true ∧ (s.die d).inReset = false ∧ s.calm (dieSource d 7) = true) ∧
    (∃ (s : State) (p : Nat), validCore p = true ∧ (s.die (coreDie p)).inReset = false ∧ s.calm (coreSource p 33) = true) :=
  ⟨⟨up, 0, 3, by decide +kernel⟩,
    ⟨up, 0, by decide +kernel⟩,
    ⟨up, 0, 11, by decide +kernel⟩,
    ⟨up, 98, 15, 31, by decide +kernel⟩,
    ⟨withSh (fun h => { h with classCfg := [(71, some ⟨16, 0, 2, 1000, true⟩)] }), 99, by decide +kernel⟩,
    ⟨up, 0, by decide +kernel⟩⟩

/-- States and operands that meet the hypotheses of each clause of PackageSubmissionCompletes. -/
theorem test_hyps_PackageSubmissionCompletes :
    (∃ (s : State) (rq : Req) (n : Nat) (bytes : List Byte), s.admits (Instr.tortyWrite rq n bytes) = true) ∧
    (∃ (s : State) (rq : Req) (kind : Nat) (len : Nat) (act : Nat) (mask : Nat), s.admits (Instr.tortyCommit rq kind len act mask) = true ∧ s.dist kind = none ∧ (s.flashKind kind).writing = none ∧ kind ≠ 4) ∧
    (∃ (s : State) (rq : Req) (len : Nat) (act : Nat) (mask : Nat) (d : Nat), s.admits (Instr.tortyCommit rq 4 len act mask) = true ∧ s.dist 4 = none ∧ (s.flashKind 4).writing = none ∧ d < 96 ∧ bit mask d = true ∧ s.enabled d = true) ∧
    (∃ (s : State) (kind : Nat) (l : List Host.Cell) (v : Hub), (s.flashKind kind).writing = some l ∧ s.pkg.flashWin = true ∧ s.acting = some v) ∧
    (∃ (s : State) (kind : Nat) (x : Machine.Dist), s.dist kind = some x ∧ x.step = 2 ∧ x.next + 1 < x.chunks) ∧
    (∃ (s : State) (h : Hdr) (v : Hub) (id : Nat) (words : List Nat) (kind : Nat) (x : Machine.Dist), isDie h.src = true ∧ s.acting = some v ∧ s.newAt v h 193 = true ∧ List.find? (fun e => Option.map (fun x => x.id) e.2 == some id) s.sh.dists = some (kind, some x) ∧ s.dist kind = some x ∧ x.step = 3 ∧ h.src ∉ x.polled ∧ h.src ∈ x.targets ∧ (insertNat h.src x.polled).length < x.targets.length) ∧
    (∃ (s : State) (h : Hdr) (v : Hub) (id : Nat) (kind : Nat) (x : Machine.Dist), isDie h.src = true ∧ s.acting = some v ∧ s.newAt v h 129 = true ∧ List.find? (fun e => Option.map (fun x => x.id) e.2 == some id) s.sh.dists = some (kind, some x) ∧ s.dist kind = some x ∧ x.step = 1 ∧ h.src ∈ x.targets) ∧
    (∃ (s : State) (kind : Nat) (x : Machine.Dist) (d : Nat), s.dist kind = some x ∧ x.step = 7 ∧ d ∈ x.targets ∧ d ∉ x.acked ∧ d ∉ x.activated) :=
  ⟨⟨up, rqO, 3, [1, 2], by decide +kernel⟩,
    ⟨up.modPkg (fun g => { g with keys := [⟨1, 3, 0, 0, 0, 0⟩] }), rqO, 2, 2304, 0, 0, by decide +kernel⟩,
    ⟨up, rqO, 2304, 0, 1, 0, by decide +kernel⟩,
    ⟨up.modPkg (fun g => { g with flashWin := true, flash := [(2, { writing := some (packCells 2 5 2) })] }), 2, packCells 2 5 2, .a, by decide +kernel⟩,
    ⟨withDist (fun x => { x with step := 2 }), 2, { distUp with step := 2 }, by decide +kernel⟩,
    ⟨withDist (fun x => { x with step := 3 }), hIn, .a, 9, [1], 2, { distUp with step := 3 }, by decide +kernel⟩,
    ⟨withDist id, hIn, .a, 9, 2, distUp, by decide +kernel⟩,
    ⟨withDist (fun x => { x with step := 7 }), 2, { distUp with step := 7 }, 1, by decide +kernel⟩⟩

/-- States and operands that meet the hypotheses of each clause of PackageReceptionCompletes. -/
theorem test_hyps_PackageReceptionCompletes :
    (∃ (s : State) (h : Hdr) (d : Nat) (id : Nat) (kind : Nat) (chunks : Nat) (hdr : List Byte), isDie d = true ∧ 1 ≤ kind ∧ kind ≤ 4 ∧ (s.die d).inReset = false ∧ (s.die d).epoch ≤ h.epoch ∧ s.unseen d h 139 = true) ∧
    (∃ (s : State) (d : Nat) (x : Staging), isDie d = true ∧ tget none (s.die d).furnish.staging 1 = some x ∧ tget none (s.die d).furnish.staging 2 = none) ∧
    (∃ (s : State) (d : Nat) (id : Nat) (n : Nat) (bytes : List Byte) (crc : Nat) (kind : Nat) (x : Staging), isDie d = true ∧ (s.die d).inReset = false ∧ List.find? (fun e => Option.map (fun x => x.dist) e.2 == some id) (s.die d).furnish.staging = some (kind, some x) ∧ tget none (s.die d).furnish.staging kind = some x ∧ chunkFits x kind n bytes crc = true) ∧
    (∃ (s : State) (h : Hdr) (v : Hub) (d : Nat) (id : Nat) (kind : Nat) (x : Staging), isDie d = true ∧ (s.die d).inReset = false ∧ (s.die d).epoch ≤ h.epoch ∧ s.unseen d h 140 = true ∧ s.acting = some v ∧ List.find? (fun e => Option.map (fun x => x.dist) e.2 == some id) (s.die d).furnish.staging = some (kind, some x)) ∧
    (∃ (s : State) (d : Nat) (kind : Nat) (x : Staging) (m : List Host.Cell), isDie d = true ∧ (s.die d).inReset = false ∧ s.calm (dieSource d 5) = true ∧ List.find? (fun e => Option.any (fun x => !x.hashed && x.chunks.length == x.total) e.2) (s.die d).furnish.staging = some (kind, some x) ∧ tget none (s.die d).furnish.staging kind = some x ∧ m = (s.die d).furnish.stage kind x.bank) ∧
    (∃ (s : State) (h : Hdr) (d : Nat) (id : Nat) (n : Nat) (kind : Nat) (x : Staging), isDie d = true ∧ (s.die d).inReset = false ∧ (s.die d).epoch ≤ h.epoch ∧ tget none (s.die d).furnish.staging kind = some x ∧ x.dist = id ∧ s.unseen d h 141 = true) ∧
    (∃ (s : State) (h : Hdr) (d : Nat) (id : Nat) (n : Nat) (kind : Nat) (x : Staging), isDie d = true ∧ (s.die d).inReset = false ∧ (s.die d).epoch ≤ h.epoch ∧ tget none (s.die d).furnish.staging kind = some x ∧ x.dist = id ∧ s.unseen d h 142 = true) ∧
    (∃ (s : State) (d : Nat) (kind : Nat) (x : Staging) (n : Nat), isDie d = true ∧ (s.die d).furnish.staging = [(kind, some x)] ∧ x.arm = some n ∧ n ≤ s.dieReel d ∧ (kind = 1 ∨ kind = 2)) ∧
    (∃ (s : State) (d : Nat) (kind : Nat) (x : Staging) (n : Nat), isDie d = true ∧ (s.die d).furnish.staging = [(kind, some x)] ∧ x.arm = some n ∧ n ≤ s.dieReel d ∧ kind = 3) ∧
    (∃ (s : State) (d : Nat) (n : Nat), isDie d = true ∧ (s.die d).furnish.ucodePending = some n ∧ (s.die d).beater.shifting = false ∧ (s.die d).beater.confirm = 0 ∧ (s.die d).beater.judge = false) :=
  ⟨⟨up, hOut, 0, 9, 3, 5, [], by decide +kernel⟩,
    ⟨withDie 0 (fun k => { k with furnish := { staging := [(1, some stagUp)] } }), 0, stagUp, by decide +kernel⟩,
    ⟨withStag (fun x => { x with header := List.replicate 36 0 ++ [4, 3, 0, 0] }), 0, 9, 1, [1, 2, 3, 4], chunkCrc 9 1 [1, 2, 3, 4], 2, { stagUp with header := List.replicate 36 0 ++ [4, 3, 0, 0] }, by decide +kernel⟩,
    ⟨withStag id, hOut, .a, 0, 9, 2, stagUp, by decide +kernel⟩,
    ⟨withStag (fun x => { x with chunks := [0, 1, 2] }), 0, 2, { stagUp with chunks := [0, 1, 2] }, [], by decide +kernel⟩,
    ⟨withStag id, hOut, 0, 9, 77, 2, stagUp, by decide +kernel⟩,
    ⟨withStag id, hOut, 0, 9, 77, 2, stagUp, by decide +kernel⟩,
    ⟨withStag (fun x => { x with arm := some 77 }), 0, 2, { stagUp with arm := some 77 }, 77, by decide +kernel⟩,
    ⟨withDie 0 (fun k => { k with furnish := { k.furnish with staging := [(3, some { stagUp with arm := some 77 })] } }), 0, 3, { stagUp with arm := some 77 }, 77, by decide +kernel⟩,
    ⟨withDie 0 (fun k => { k with furnish := { ucodePending := some 4 } }), 0, 4, by decide +kernel⟩⟩

/-- States and operands that meet the hypotheses of each clause of NotificationPathsComplete. -/
theorem test_hyps_NotificationPathsComplete :
    (∃ (s : State) (hub : Hub), s.sh.mgmtLost.1 = 0) ∧
    (∃ (s : State) (hub : Hub) (v : Hub), s.acting = some v ∧ s.steady (hubSource hub 11) = true) ∧
    (∃ (s : State) (src : Nat) (p : Pace) (r : Rec), tget none s.sh.pacing src = some p ∧ p.latest = some r) ∧
    (∃ (s : State) (v : Hub) (n : Note) (q : List Note), s.acting = some v ∧ (s.vat v).i3cAddr ≠ none ∧ s.sh.i3cQ = n :: q ∧ s.sh.i3cLost.1 = 0) ∧
    (∃ (s : State) (h : Hdr) (v : Hub) (k : Nat) (n : Note), s.acting = some v ∧ (s.die (hubDie (otherHub v))).inReset = false ∧ (s.die (hubDie (otherHub v))).epoch ≤ h.epoch ∧ s.unseen (hubDie (otherHub v)) h 144 = true ∧ (s.vat (otherHub v)).linkUp = true ∧ List.find? (fun n => n.number == k) s.sh.mgmtQ = some n) :=
  ⟨⟨{ up.modSh (fun h => { h with mgmtQ := [⟨1, 0, rec1⟩] }) with vatA := { up.vatA with linkUp := false, outQ := [[1, 2]] } }, .a, by decide +kernel⟩,
    ⟨up, .a, .a, by decide +kernel⟩,
    ⟨{ up.modSh (fun h => { h with pacing := [(1, some ⟨1, 2, some rec1⟩)], noteNext := 4 }) with vatA := { up.vatA with i3cAddr := some 8 } }, 1, ⟨1, 2, some rec1⟩, rec1, by decide +kernel⟩,
    ⟨{ up.modSh (fun h => { h with i3cQ := [⟨1, 0, rec1⟩] }) with vatA := { up.vatA with i3cAddr := some 8 } }, .a, ⟨1, 0, rec1⟩, [], by decide +kernel⟩,
    ⟨{ up.modSh (fun h => { h with mgmtQ := [⟨1, 0, rec1⟩] }) with vatA := { up.vatA with linkUp := false } }, hOut, .a, 1, ⟨1, 0, rec1⟩, by decide +kernel⟩⟩

/-- States and operands that meet the hypotheses of each clause of MctpControlCompletes. -/
theorem test_hyps_MctpControlCompletes :
    (∃ (s : State) (hub : Hub) (i3c : Bool) (eid : Nat) (setter : Nat), s.pkg.powered = true ∧ eid < 256 ∧ setter < 256) ∧
    (∃ (s : State) (hub : Hub) (i3c : Bool) (eid : Nat), s.pkg.powered = true ∧ (if i3c = true then (s.vat hub).i3cEid else (s.vat hub).eid) = some eid) ∧
    (∃ (s : State) (hub : Hub) (i3c : Bool) (ty : Nat), s.pkg.powered = true) ∧
    (∃ (s : State) (hub : Hub) (i3c : Bool) (ty : Nat), s.pkg.powered = true) ∧
    (∃ (s : State) (hub : Hub) (i3c : Bool) (ty : Nat), s.pkg.powered = true) ∧
    (∃ (s : State) (hub : Hub) (addr : Nat), addr < 128 ∧ (s.acting = some hub → s.sh.i3cLost.1 = 0)) :=
  ⟨⟨up, .a, true, 9, 8, by decide +kernel⟩,
    ⟨{ up with vatB := { up.vatB with eid := some 12 } }, .b, false, 12, by decide +kernel⟩,
    ⟨up, .a, true, 1, by decide +kernel⟩,
    ⟨up, .b, false, 1, by decide +kernel⟩,
    ⟨up, .a, true, 1, by decide +kernel⟩,
    ⟨up, .a, 8, by decide +kernel⟩⟩

/-- States and operands that meet the hypotheses of each clause of PldmCompletes. -/
theorem test_hyps_PldmCompletes :
    (∃ (s : State) (hub : Hub), s.pkg.powered = true ∧ (s.pkg.boot ≠ Boot.stopped ∨ s.acting ≠ none)) ∧
    (∃ (s : State) (hub : Hub) (ty : Nat), s.pkg.powered = true ∧ (s.pkg.boot ≠ Boot.stopped ∨ s.acting ≠ none)) ∧
    (∃ (s : State) (hub : Hub), s.pkg.powered = true ∧ (s.pkg.boot ≠ Boot.stopped ∨ s.acting ≠ none)) ∧
    (∃ (s : State) (hub : Hub) (ty : Nat), s.pkg.powered = true ∧ (s.pkg.boot ≠ Boot.stopped ∨ s.acting ≠ none)) ∧
    (∃ (s : State) (hub : Hub), s.pkg.powered = true ∧ (s.pkg.boot ≠ Boot.stopped ∨ s.acting ≠ none)) ∧
    (∃ (s : State) (hub : Hub) (n : Nat), s.pkg.powered = true ∧ (s.pkg.boot ≠ Boot.stopped ∨ s.acting ≠ none)) ∧
    (∃ (s : State) (hub : Hub) (n : Nat), s.pkg.powered = true ∧ (s.pkg.boot ≠ Boot.stopped ∨ s.acting ≠ none)) ∧
    (∃ (s : State) (hub : Hub) (n : Nat), s.pkg.powered = true ∧ (s.pkg.boot ≠ Boot.stopped ∨ s.acting ≠ none)) ∧
    (∃ (s : State) (hub : Hub) (ty : Nat) (k : Nat), s.pkg.powered = true ∧ (s.pkg.boot ≠ Boot.stopped ∨ s.acting ≠ none)) ∧
    (∃ (s : State) (path : Sys2Proof.Path) (op : Nat) (tag : Nat) (crc : Nat) (lenOk : Bool) (v : Hub), s.acting = some v ∧ (pathHub path = none ∨ s.sh.gap = none) ∧ opcodes.contains op = false ∧ s.duplicate (badRequest path tag crc lenOk) op = none) :=
  ⟨⟨up, .a, by decide +kernel⟩,
    ⟨up, .a, 2, by decide +kernel⟩,
    ⟨up, .a, by decide +kernel⟩,
    ⟨up, .a, 2, by decide +kernel⟩,
    ⟨up, .a, by decide +kernel⟩,
    ⟨up, .a, 17, by decide +kernel⟩,
    ⟨up, .a, 17, by decide +kernel⟩,
    ⟨up, .a, 17, by decide +kernel⟩,
    ⟨up, .a, 2, 9, by decide +kernel⟩,
    ⟨up, .mgmt .a 8, 0x9999, 3, 4, true, .a, by decide +kernel⟩⟩

/-- States and operands that meet the hypotheses of each clause of HangDetectionCompletes. -/
theorem test_hyps_HangDetectionCompletes :
    (∃ (s : State) (v : Hub) (p : Nat) (q : Nat) (n : Nat) (m : Nat) (c : Nat), s.acting = some v ∧ validCore p = true ∧ (s.core p).parked = false ∧ s.lcOf p = some n ∧ s.lcCtx n = some c ∧ (s.ctx c).state = 2 ∧ (s.lc n).issuing = true ∧ s.hangPaused p = false ∧ (s.core p).stallNow ∈ [1, 2, 5, 6, 9] ∧ (s.core p).awaited = some m ∧ m ≠ n ∧ s.carrier n = some p ∧ s.carrier m = some q ∧ coreDie q ≠ coreDie p) ∧
    (∃ (s : State) (h : Hdr) (v : Hub) (c : Nat) (n : Nat) (m : Nat) (p : Nat), s.acting = some v ∧ n < 13824 ∧ m < 13824 ∧ c < 4096 ∧ s.carrier n = some p ∧ s.unseen (coreDie p) h 138 = true ∧ s.stopped p = false ∧ (s.core p).stallNow = 0 ∧ s.issuesNone p c = false) ∧
    (∃ (s : State) (p : Nat), validCore p = true ∧ (s.core p).hung = true ∧ (s.core p).portFence = false) :=
  ⟨⟨{ up with cores := [(0, { stallNow := 2, awaited := some 144 })], dies := [(0, dieUp), (1, dieOne), (96, hubUp), (97, hubUp)] }, .a, 0, 256, 0, 144, 1, by decide +kernel⟩,
    ⟨up.modCore 0 (fun c => { c with lastIssue := 990000, hangCheck := true }), { hIn with src := 1 }, .a, 1, 0, 1, 0, by decide +kernel⟩,
    ⟨up.modCore 0 (fun c => { c with hung := true }), 0, by decide +kernel⟩⟩

/-- States and operands that meet the hypotheses of each clause of WatermarkCommandsComplete. -/
theorem test_hyps_WatermarkCommandsComplete :
    (∃ (s : State) (rq : Req) (a : Nat) (b : Nat), s.admits (Instr.wmKeySet rq a b) = true ∧ (s.ctx rq.ctx).state < 2 ∧ 2 ≤ a ∧ a ≤ p61 - 2 ∧ 2 ≤ b ∧ b ≤ p61 - 2) ∧
    (∃ (s : State) (rq : Req) (first : Nat) (e : LogEntry) (l : List LogEntry), s.admits (Instr.wmRead rq first 1) = true ∧ List.drop first (List.filter (fun e => s.inRange rq e.ctx) s.sh.wmLog.reverse) = e :: l) ∧
    (∃ (s : State) (rq : Req), s.admits (Instr.wmVerify rq) = true ∧ (s.ctx rq.ctx).plan ≠ none ∧ (s.ctx rq.ctx).state ≠ 3 ∧ s.ctxStill rq.ctx = true ∧ rq.ctx ∉ s.sh.verifying) ∧
    (∃ (s : State) (c : Nat) (p : Plan) (recs : List DigestRec) (x : Run), c < 4096 ∧ c ∈ s.sh.verifying ∧ (s.ctx c).plan = some p ∧ (∀ e ∈ constExpected p, recs.any (mismatch e) = false) ∧ List.filter (fun x => x.opcode == 1026 && x.ctx == c) s.sh.runs = [x]) ∧
    (∃ (s : State) (rq : Req) (refs : List RefRec) (same : Bool), s.admits (Instr.wmLocate rq refs same) = true) ∧
    (∃ (s : State) (h : Hdr) (c : Nat) (layer : Nat) (oper : Nat) (r : DigestRec) (v : Hub), c < 4096 ∧ layer < 65536 ∧ oper < 65536 ∧ isDie h.src = true ∧ s.acting = some v ∧ s.newAt v h 67 = true ∧ (s.ctx c).plan ≠ none ∧ (s.ctx c).state ≠ 3 ∧ tget 0 (s.ctx c).opLogged (operKey layer oper) ≤ r.pass ∧ s.opMark c layer oper r.pass = none ∧ (∃ n ∈ s.opLcs c layer oper, ∀ e ∈ (s.ctx c).opSent, e.lc = n → e.exec ≠ execKey r.pass (operKey layer oper))) :=
  ⟨⟨withCtx (fun x => { x with state := 1 }), rqT, 2, p61 - 2, by decide +kernel⟩,
    ⟨withSh (fun h => { h with wmLog := [⟨recA, 1, 2, 3⟩, ⟨recA, 1, 4, 5⟩] }), rqT, 1, ⟨recA, 1, 2, 3⟩, [], by decide +kernel⟩,
    ⟨withCtx (fun x => { x with state := 1 }), rqT, by decide +kernel⟩,
    ⟨{ withSh (fun h => { h with verifying := [1], runs := [runOf 0x0402 1] }) with lcs := [] }, 1, planUp, [recA], runOf 0x0402 1, by decide +kernel⟩,
    ⟨up, rqT, [], true, by decide +kernel⟩,
    ⟨{ up.modCtx 1 (fun x => { x with plan := some { planUp with lcs := [planFor 0 [descR], planFor 144 [descR]], tensors := [⟨4, 0, 1, 2, 60, false, false⟩] } }) with dies := [(0, dieUp), (1, dieOne), (96, hubUp), (97, hubUp)] }, hIn, 1, 1, 2, recA, .a, by decide +kernel⟩⟩

/-- States and operands that meet the hypotheses of each clause of ReplicaCommandsComplete. -/
theorem test_hyps_ReplicaCommandsComplete :
    (∃ (s : State) (rq : Req) (group : Nat) (r : Nat) (i : Nat) (k : Nat), s.admits (Instr.replicaCfg rq group r i k) = true ∧ ((s.ctx rq.ctx).state = 1 ∨ (s.ctx rq.ctx).state = 2) ∧ 2 ≤ r ∧ r ≤ 255 ∧ i < r ∧ 1 ≤ k ∧ k ≤ 256 ∧ (∀ (o : Replica), (s.ctx rq.ctx).replica = some o → o.pending = none)) ∧
    (∃ (s : State) (rq : Req) (o : Replica) (iter : Nat), s.admits (Instr.replicaExpel rq o.group iter) = true ∧ (s.ctx rq.ctx).replica = some o ∧ ((s.ctx rq.ctx).state = 1 ∨ (s.ctx rq.ctx).state = 2)) ∧
    (∃ (s : State) (rq : Req) (o : Replica) (r : Nat) (i : Nat), s.admits (Instr.replicaMembers rq r i) = true ∧ (s.ctx rq.ctx).replica = some o ∧ 2 ≤ r ∧ r ≤ 255 ∧ i < r) ∧
    (∃ (s : State) (h : Hdr) (c : Nat) (iter : Nat) (r : DigestRec) (v : Hub) (o : Replica) (m : DigestRec), c < 4096 ∧ isDie h.src = true ∧ s.acting = some v ∧ s.newAt v h 68 = true ∧ (s.ctx c).replica = some o ∧ o.pending = some iter ∧ r ≠ default ∧ (s.ctx c).state ≠ 3 ∧ (∀ d ∈ o.dies, d = h.src ∨ ∃ e ∈ o.parts, e.1 = d) ∧ m = replicaRec (s.replicaTotal c) o.index iter (List.map (fun x => x.2) (tset default o.parts h.src r)) ∧ m.count ≤ s.replicaTotal c ∧ o.inPass = none) ∧
    (∃ (s : State) (w : Hub) (c : Nat) (recs : List DigestRec) (conflict : Bool) (o : Replica) (i : Nat) (v : Nat × Nat × DigestRec), s.acting = some w ∧ c < 4096 ∧ (s.ctx c).replica = some o ∧ o.pending = some i ∧ v = replicaVerdict (s.replicaTotal c) o.r i o.index recs conflict) ∧
    (∃ (s : State) (v : Hub) (c : Nat) (shards : List (Nat × DigestRec)) (o : Replica) (i : Nat) (r : DigestRec), s.acting = some v ∧ c < 4096 ∧ (s.ctx c).replica = some o ∧ o.pending = some i ∧ o.exchange = none ∧ r = replicaRec (s.replicaTotal c) o.index i (List.map (fun x => x.2) shards)) ∧
    (∃ (s : State) (v : Hub) (c : Nat) (other : DigestRec) (inPass : DigestRec) (tensors : List DigestRec) (b : Bool) (o : Replica) (i : Nat) (own : DigestRec), s.acting = some v ∧ c < 4096 ∧ (s.ctx c).replica = some o ∧ o.pending = some i ∧ o.located = false ∧ o.reread = some own) :=
  ⟨⟨up, rqO, 7, 3, 1, 16, by decide +kernel⟩,
    ⟨withRep id, rqO, repUp, 5, by decide +kernel⟩,
    ⟨withRep id, rqO, repUp, 2, 1, by decide +kernel⟩,
    ⟨(withRep (fun r => { r with pending := some 16 })).modCtx 1 (fun x => { x with plan := some { planUp with tensors := [⟨4, 0, 1, 2, 60, true, false⟩] } }), hIn, 1, 16, recA, .a, { repUp with pending := some 16 }, replicaRec 60 1 16 [recA], by decide +kernel⟩,
    ⟨withRep (fun r => { r with pending := some 16 }), .a, 1, [], false, { repUp with pending := some 16 }, 16, replicaVerdict 0 3 16 1 [] false, by decide +kernel⟩,
    ⟨withRep (fun r => { r with pending := some 16 }), .a, 1, [(0, recA)], { repUp with pending := some 16 }, 16, replicaRec 0 1 16 [recA], by decide +kernel⟩,
    ⟨withRep (fun r => { r with pending := some 16, inPass := some recA, reread := some recA }), .a, 1, { recA with d0 := 9 }, { recA with d0 := 9 }, [], false, { repUp with pending := some 16, inPass := some recA, reread := some recA }, 16, recA, by decide +kernel⟩⟩

/-- States and operands that meet the hypotheses of each clause of TriageStagesComplete. -/
theorem test_hyps_TriageStagesComplete :
    (∃ (s : State) (h : Hdr) (v : Hub) (p : Nat) (n : Nat) (k : Nat) (c : Nat) (layer : Nat) (oper : Nat) (src : Nat) (reel : Nat) (step : Nat) (x : Triage), validCore p = true ∧ n < 13824 ∧ k < 262143 ∧ c < 4096 ∧ layer < 65536 ∧ oper < 65536 ∧ src < 2 ^ 20 ∧ reel < 2 ^ 32 ∧ step < 2 ^ 32 ∧ s.acting = some v ∧ s.newAt v h 8 = true ∧ s.sh.triageQ = [] ∧ x = s.newTriage p n k c layer oper src reel step ∧ x.pgroup = none ∧ src % 8192 % 48 ∉ [1, 2] ∧ s.mayStart x = true) ∧
    (∃ (s : State) (v : Hub) (p : Nat) (x : Triage) (d : List Nat), validCore p = true ∧ s.acting = some v ∧ s.alone x ∧ x.core = p ∧ x.stageADone = false ∧ x.waitA = none ∧ x.pgroup = none ∧ x.verdict = none ∧ x.stageS = none ∧ isPair x = false ∧ isGroup x = false ∧ s.peerParts x = [] ∧ (s.ticket x.ticket).state = TState.triage ∧ ([7, 8, 9, 10].any fun i => bit (s.ticket x.ticket).replayCodes i) = false) ∧
    (∃ (s : State) (v : Hub) (p : Nat) (x : Triage) (q : Nat), validCore p = true ∧ s.acting = some v ∧ s.alone x ∧ x.core = p ∧ x.stageADone = false ∧ x.verdict = none ∧ isPair x = false ∧ isGroup x = false ∧ x.spare = some q ∧ x.filled = true ∧ x.bStarted = false ∧ x.stageBDone = false) ∧
    (∃ (s : State) (p : Nat), validCore p = true ∧ s.triageOf p = none) ∧
    (∃ (s : State) (v : Hub) (n : Nat) (x : Triage) (q : Nat) (sent : List Nat) (received : List Nat), n < 13824 ∧ s.acting = some v ∧ ordSum 0 sent = ordSum 0 received ∧ s.alone x ∧ x.lc = n ∧ x.spare = some q ∧ x.filled = false ∧ x.verdict = none ∧ x.stageADone = false) ∧
    (∃ (s : State) (w : Hub) (p : Nat) (x : Triage) (q : Nat) (d : List Nat), validCore p = true ∧ s.acting = some w ∧ s.alone x ∧ x.core = p ∧ x.bStarted = true ∧ x.stageBDone = false ∧ x.waitB = none ∧ s.peerParts x = [] ∧ ([7, 8, 9, 10].any fun i => bit (s.ticket x.ticket).replayCodes i) = false ∧ x.verdict = none ∧ isPair x = false ∧ isGroup x = false ∧ x.stageADone = true ∧ x.stageA = 1 ∧ x.stageS = some true ∧ x.spare = some q ∧ x.filled = true ∧ x.placing = false) ∧
    (∃ (s : State) (w : Hub) (n : Nat) (x : Triage) (q : Nat) (v : Nat), n < 13824 ∧ s.acting = some w ∧ s.alone x ∧ x.lc = n ∧ x.spare = some q ∧ validCore q = true ∧ x.verdict = some v ∧ x.placing = true ∧ (s.core x.core).blkWait = none ∧ (s.core x.core).deferred = [] ∧ (s.core q).deferred = [] ∧ (s.lc n).heldXfers = [] ∧ s.sh.pairs = [] ∧ s.sh.groups = [] ∧ s.obeys (s.homeDie n) = true ∧ s.obeys (coreDie x.core) = true ∧ s.obeys (coreDie q) = true ∧ s.noPkg 73) :=
  ⟨⟨up, hIn, .a, 0, 0, 0, 1, 1, 2, 3, 4, 5, up.newTriage 0 0 0 1 1 2 3 4 5, by decide +kernel⟩,
    ⟨(withTri id).modSh (fun h => { h with tickets := [(0, { tickUp with state := .triage })] }), .a, 0, triUp, [1], by decide +kernel⟩,
    ⟨withTri (fun x => { x with filled := true }), .a, 0, { triUp with filled := true }, 12, by decide +kernel⟩,
    ⟨up, 0, by decide +kernel⟩,
    ⟨withTri id, .a, 0, triUp, 12, [1, 2], [1, 2], by decide +kernel⟩,
    ⟨withTri (fun x => { x with filled := true, bStarted := true, stageADone := true, stageA := 1, stageS := some true }), .a, 0, { triUp with filled := true, bStarted := true, stageADone := true, stageA := 1, stageS := some true }, 12, [1], by decide +kernel⟩,
    ⟨withTri (fun x => { x with verdict := some 1, placing := true, filled := true }), .a, 0, { triUp with verdict := some 1, placing := true, filled := true }, 12, 1, by decide +kernel⟩⟩

/-- States and operands that meet the hypotheses of each clause of RollbackOrdersComplete. -/
theorem test_hyps_RollbackOrdersComplete :
    (∃ (s : State) (h : Hdr) (d : Nat) (cores : List Nat) (r : Nat), isDie d = true ∧ (∀ p ∈ cores, validCore p = true ∧ coreDie p = d) ∧ (s.die d).inReset = false ∧ (s.die d).epoch ≤ h.epoch ∧ s.unseen d h 11 = true) ∧
    (∃ (s : State) (h : Hdr) (d : Nat) (c : Nat) (g : Nat) (gen : Nat) (n : Nat) (p : Nat), isDie d = true ∧ (s.die d).inReset = false ∧ (s.die d).epoch ≤ h.epoch ∧ s.unseen d h 15 = true ∧ gen < 256 ∧ (s.pgroup c g).rolling ≠ 0 ∧ (s.pgroup c g).gen = gen ∧ n ∈ s.groupOf c g ∧ s.carrier n = some p ∧ coreDie p = d) :=
  ⟨⟨up, hOut, 0, [0, 1], 7, by decide +kernel⟩,
    ⟨{ up.modCtx 1 (fun x => { x with plan := some { planUp with lcs := [{ planFor 0 [] with pressGroup := 3 }] }, pgroups := [(3, { gen := 5, rolling := 1 })] }) with felt := {} }, hOut, 0, 1, 3, 5, 0, 0, by decide +kernel⟩⟩

/-- States and operands that meet the hypotheses of each clause of IssueEventsComplete. -/
theorem test_hyps_IssueEventsComplete :
    (∃ (s : State) (p : Nat) (n : Nat) (c : Nat) (k : Nat) (i : Nat) (spec : Bool) (last : Bool) (e : PlanLc) (d : List Nat), s.carries p n c ∧ (s.lc n).issuing = true ∧ s.stopped p = false ∧ s.stalled p = false ∧ s.spanRuns p = false ∧ List.find? (fun t => (s.ticket t).state == TState.free) (lcTickets n) = some k ∧ s.planLc c n = some e ∧ e.descs[i]? = some d ∧ s.descOk c n d = true ∧ (∀ m ∈ s.checkPeers c d, s.lcDie m = coreDie p)) ∧
    (∃ (s : State) (p : Nat) (n : Nat) (c : Nat) (a : List Nat) (b : List Nat), s.carries p n c ∧ (s.lc n).issuing = true ∧ s.stopped p = false ∧ s.stalled p = false ∧ ((s.core p).seqCmp = true → a = b) ∧ (s.lc n).lstep + 1 < 2 ^ 64 ∧ (s.core p).pstep + 1 < 2 ^ 64 ∧ (s.lc n).planSteps ≠ (s.lc n).lastPress + 131072 ∧ (∀ k ∈ lcTickets n, (s.ticket k).state = TState.opened → (s.ticket k).doneAt = none → (s.lc n).planSteps ≠ (s.ticket k).start + 131072)) ∧
    (∃ (s : State) (p : Nat) (n : Nat) (c : Nat) (a : List Nat) (b : List Nat), s.carries p n c ∧ (s.lc n).issuing = true ∧ s.stopped p = false ∧ s.stalled p = false ∧ (s.core p).seqCmp = true ∧ a ≠ b ∧ (s.ticket (s.currentUnit n)).state = TState.free) ∧
    (∃ (s : State) (p : Nat) (n : Nat) (c : Nat), s.carries p n c ∧ (s.ticket (s.currentUnit n)).state = TState.free) ∧
    (∃ (s : State) (p : Nat) (n : Nat) (c : Nat), s.carries p n c ∧ s.calm (coreSource p 32) = true) :=
  ⟨⟨unitUp descR {}, 0, 0, 1, 0, 0, false, false, planFor 0 [descR], descR, by decide +kernel⟩,
    ⟨unitUp descR tickUp, 0, 0, 1, [3], [3], by decide +kernel⟩,
    ⟨up, 0, 0, 1, [3], [4], by decide +kernel⟩,
    ⟨up, 0, 0, 1, by decide +kernel⟩,
    ⟨unitUp descR tickUp, 0, 0, 1, by decide +kernel⟩⟩

/-- States and operands that meet the hypotheses of each clause of UnitChecksComplete. -/
theorem test_hyps_UnitChecksComplete :
    (∃ (s : State) (p : Nat) (k : Nat) (row : Nat) (col : Nat) (a : Int) (b : Int), s.unitOpen p k ∧ fits128 (a + b) = true) ∧
    (∃ (s : State) (p : Nat) (k : Nat) (row : Nat) (col : Nat) (a : Int) (b : Int), s.unitOpen p k ∧ fits128 (a + b) = false) ∧
    (∃ (s : State) (p : Nat) (k : Nat) (rows : List LaidRow) (csv : CsvData), s.unitOpen p k ∧ descLaid (s.unitDesc k) = true ∧ descGroup (s.unitDesc k) = false ∧ csvBad (s.unitDesc k) csv = false ∧ badGroup rows = none ∧ (∀ r ∈ rows, laidLhs r = laidRhs csv.entries (descEmin (s.unitDesc k)) r)) ∧
    (∃ (s : State) (p : Nat) (k : Nat) (rows : List LaidRow) (csv : CsvData), s.unitOpen p k ∧ descLaid (s.unitDesc k) = true ∧ descGroup (s.unitDesc k) = false ∧ csvBad (s.unitDesc k) csv = false ∧ badGroup rows = none ∧ (∃ r ∈ rows, laidLhs r ≠ laidRhs csv.entries (descEmin (s.unitDesc k)) r)) ∧
    (∃ (s : State) (p : Nat) (k : Nat) (g : Nat) (e : Nat) (m : List Int) (acc : List Int) (a : GroupAt), s.unitOpen p k ∧ envelope (s.unitDesc k) e m = []) ∧
    (∃ (s : State) (p : Nat) (k : Nat) (g : Nat) (e : Nat) (m : List Int) (acc : List Int) (a : GroupAt) (o : Nat) (i : Nat), s.unitOpen p k ∧ envelope (s.unitDesc k) e m = [(o, i)]) ∧
    (∃ (s : State) (p : Nat) (k : Nat) (taus : List Nat) (n : Nat) (tally : Nat), s.unitOpen p k ∧ descKind (s.unitDesc k) = 2 ∧ s.gateFailed (s.ticket k).ctx (s.ticket k).layer = false ∧ taus.length = n ∧ tallyOf taus = tally ∧ n ≤ descRows (s.unitDesc k)) ∧
    (∃ (s : State) (p : Nat) (k : Nat) (taus : List Nat) (n : Nat) (tally : Nat), s.unitOpen p k ∧ descKind (s.unitDesc k) = 2 ∧ s.gateFailed (s.ticket k).ctx (s.ticket k).layer = false ∧ (taus.length ≠ n ∨ tallyOf taus ≠ tally ∨ descRows (s.unitDesc k) < n)) ∧
    (∃ (s : State) (p : Nat) (n : Nat) (c : Nat) (k : Nat) (j : Nat) (m : Nat) (l : List Nat) (a : Int) (b : Int), s.carries p n c ∧ Option.map (fun e => e.joins.getD j []) (s.planLc c n) = some l ∧ l[tget 0 (s.lc n).joins j]? = some m ∧ fits128 (a + b) = true ∧ k < 221184 ∧ m < 13824) :=
  ⟨⟨unitUp descR tickUp, 0, 0, 3, 4, 5, -6, by decide +kernel⟩,
    ⟨unitUp descR tickUp, 0, 0, 3, 4, 2 ^ 127 - 1, 1, by decide +kernel⟩,
    ⟨unitUp descL tickUp, 0, 0, [⟨[8], [3], [(1, 127)]⟩], ⟨1, 5, [5]⟩, by decide +kernel⟩,
    ⟨unitUp descL tickUp, 0, 0, [⟨[9], [3], [(1, 127)]⟩], ⟨1, 5, [5]⟩, by decide +kernel⟩,
    ⟨unitUp descR tickUp, 0, 0, 7, 0, [0, 0], [0, 0], default, by decide +kernel⟩,
    ⟨unitUp descR tickUp, 0, 0, 7, 255, [], [], default, 12, 0, by decide +kernel⟩,
    ⟨unitUp descT tickUp, 0, 0, [1, 2], 2, 5, by decide +kernel⟩,
    ⟨unitUp descT tickUp, 0, 0, [1, 2], 2, 6, by decide +kernel⟩,
    ⟨{ withCtx (fun x => { x with plan := some { planUp with lcs := [{ planFor 0 [] with joins := [[1, 2]] }] } }) with fresh := 0 }, 0, 0, 1, 0, 0, 1, [1, 2], 5, 6, by decide +kernel⟩⟩

/-- States and operands that meet the hypotheses of each clause of ComparisonsComplete. -/
theorem test_hyps_ComparisonsComplete :
    (∃ (s : State) (h : Hdr) (p : Nat) (r : PairReport), s.unitOpen p r.ticket ∧ r.lc < 13824 ∧ r.partner < 13824 ∧ r.lc ≠ r.partner ∧ r.ticket < 221184 ∧ r.ctx < 4096 ∧ r.layer < 65536 ∧ r.oper < 65536 ∧ s.lcDie r.lc = s.lcDie r.partner ∧ s.readyPair = none ∧ s.readyGroup = none ∧ s.quiet ∧ (s.ticket r.ticket).agreed = [] ∧ unitNeeds (s.unitDesc r.ticket) (s.ticket r.ticket).spec &&& (s.ticket r.ticket).checks ≠ unitNeeds (s.unitDesc r.ticket) (s.ticket r.ticket).spec ∧ List.find? (fun w => samePair w.r r) s.sh.pairs = none) ∧
    (∃ (s : State) (h : Hdr) (p : Nat) (r : PairReport) (w : PairWait) (q : Nat), s.unitOpen p r.ticket ∧ r.lc < 13824 ∧ r.partner < 13824 ∧ r.lc ≠ r.partner ∧ r.ticket < 221184 ∧ r.ctx < 4096 ∧ r.layer < 65536 ∧ r.oper < 65536 ∧ s.lcDie r.lc = s.lcDie r.partner ∧ s.readyPair = none ∧ s.readyGroup = none ∧ s.quiet ∧ (s.ticket r.ticket).agreed = [] ∧ unitNeeds (s.unitDesc r.ticket) (s.ticket r.ticket).spec &&& (s.ticket r.ticket).checks ≠ unitNeeds (s.unitDesc r.ticket) (s.ticket r.ticket).spec ∧ List.find? (fun w => samePair w.r r) s.sh.pairs = some w ∧ w.r.da ≠ r.da ∧ s.unitOpen q w.r.ticket ∧ s.poolReady w.r.ticket (if w.r.gate = true then 16 else 8) = true) ∧
    (∃ (s : State) (h : Hdr) (p : Nat) (r : LaidReport), s.unitOpen p r.ticket ∧ r.lc < 13824 ∧ r.anchor < 13824 ∧ r.ticket < 221184 ∧ r.ctx < 4096 ∧ r.layer < 65536 ∧ r.oper < 65536 ∧ (∀ m ∈ s.groupLcs r.ctx r.anchor r.layer r.oper, s.lcDie m = s.lcDie r.anchor) ∧ s.sh.groups = [] ∧ s.readyPair = none ∧ s.quiet ∧ (s.ticket r.ticket).agreed = [] ∧ 2 ≤ descGrpN (s.unitDesc r.ticket) ∧ unitNeeds (s.unitDesc r.ticket) (s.ticket r.ticket).spec &&& ((s.ticket r.ticket).checks ||| 2) ≠ unitNeeds (s.unitDesc r.ticket) (s.ticket r.ticket).spec) ∧
    (∃ (s : State) (h : Hdr) (p : Nat) (k : Nat), s.carrier (s.ticket k).lc = some p ∧ k < 262144 ∧ (s.die (coreDie p)).inReset = false ∧ (s.die (coreDie p)).epoch ≤ h.epoch ∧ s.unseen (coreDie p) h 66 = true ∧ (s.core p).parked = false ∧ s.brkHeld p = false ∧ (s.ticket k).state = TState.await ∧ (s.ticket k).codes = 0 ∧ s.quiet) ∧
    (∃ (s : State) (h : Hdr) (p : Nat) (k : Nat), s.carrier (s.ticket k).lc = some p ∧ k < 262144 ∧ (s.die (coreDie p)).inReset = false ∧ (s.die (coreDie p)).epoch ≤ h.epoch ∧ s.unseen (coreDie p) h 66 = true ∧ (s.core p).parked = false ∧ s.brkHeld p = false ∧ (s.ticket k).state = TState.await ∧ (s.ticket k).codes = 0 ∧ s.quiet ∧ s.lcOf p ≠ none) ∧
    (∃ (s : State) (p : Nat) (n : Nat) (c : Nat) (x : SpadAccess) (i : Nat) (w : Slot), s.carries p n c ∧ x.ecc = 0 ∧ (s.core p).parked = false ∧ x.kind = AccKind.localWrite ∧ x.unit = none ∧ (s.lc n).watch = [] ∧ touched x (s.lc n).slots = [(i, w)] ∧ w.state = 0) ∧
    (∃ (s : State) (p : Nat) (n : Nat) (c : Nat) (m : Nat), s.carries p n c ∧ s.replaysOn p = none ∧ m < 13824 ∧ s.brkHeld p = false ∧ (s.lc n).gate = [] ∧ (∀ k ∈ lcTickets n, s.gated k = false)) ∧
    (∃ (s : State) (p : Nat) (n : Nat) (c : Nat) (m : Nat) (k : Nat) (words : List Nat), s.carries p n c ∧ s.replaysOn p = none ∧ m < 13824 ∧ n < 13824 ∧ s.brkHeld p = false ∧ (s.lc n).gate = [] ∧ k ∈ lcTickets n ∧ s.gated k = true ∧ (s.ticket k).skip = 0 ∧ s.sizingStray c n k (Dest.lc m) = false) :=
  ⟨⟨unitUp descD { tickUp with level := 2 }, hIn, 0, ⟨1, 0, 1, 1, 2, 0, 0, false, 7, 8⟩, by decide +kernel⟩,
    ⟨(unitUp descD { tickUp with level := 2 }).modSh (fun h => { h with tickets := [(0, { tickUp with level := 2 }), (16, { tickUp with level := 2, lc := 1 })], pairs := [⟨0, ⟨1, 1, 0, 1, 2, 0, 16, false, 6, 8⟩⟩] }), hIn, 0, ⟨1, 0, 1, 1, 2, 0, 0, false, 7, 8⟩, ⟨0, ⟨1, 1, 0, 1, 2, 0, 16, false, 6, 8⟩⟩, 1, by decide +kernel⟩,
    ⟨unitUp descG { tickUp with level := 1 }, hIn, 0, ⟨1, 1, 2, 0, 0, 0, 0, [5], [5]⟩, by decide +kernel⟩,
    ⟨unitUp descD { tickUp with level := 2, state := .await }, hOut, 0, 0, by decide +kernel⟩,
    ⟨unitUp descD { tickUp with level := 2, state := .await }, hOut, 0, 0, by decide +kernel⟩,
    ⟨up.modLc 0 (fun l => { l with slots := [(3, some ⟨0, 64, 0, [], false, 1⟩)] }), 0, 0, 1, ⟨16, 8, .localWrite, 1, 0, false, none, none⟩, 3, ⟨0, 64, 0, [], false, 1⟩, by decide +kernel⟩,
    ⟨up, 0, 0, 1, 1, by decide +kernel⟩,
    ⟨unitUp descD { tickUp with level := 2 }, 0, 0, 1, 1, 0, [5], by decide +kernel⟩⟩

/-- States and operands that meet the hypotheses of each clause of PoolCommandsComplete. -/
theorem test_hyps_PoolCommandsComplete :
    (∃ (s : State) (h : Hdr) (d : Nat) (b : Nat) (v : Hub), isDie d = true ∧ isDie h.src = true ∧ s.acting = some v ∧ s.newAt v h 145 = true ∧ s.sh.poolWait = [] ∧ List.find? (fun b => (tget none s.sh.pool b).isNone) (List.range 160) = some b) ∧
    (∃ (s : State) (h : Hdr) (d : Nat) (b : Nat), isDie d = true ∧ isDie h.src = true ∧ (s.die d).inReset = false ∧ (s.die d).epoch ≤ h.epoch ∧ s.unseen d h 145 = true ∧ (∀ e ∈ s.sh.tickets, e.2.cross = false) ∧ s.readyPair = none ∧ s.readyGroup = none ∧ s.quiet) ∧
    (∃ (s : State) (d : Nat) (b : Nat) (v : Hub), isCompute d = true ∧ (s.dieBlocks d).getLast? = some b ∧ 1 < (s.dieBlocks d).length ∧ (∀ k ∈ poolIds b, (s.ticket k).state = TState.free) ∧ s.sh.poolWait = [] ∧ s.acting = some v) ∧
    (∃ (s : State) (rq : Req) (k : Nat), s.admits (Instr.ticketRead rq k) = true ∧ s.inRange rq (s.ticket k).ctx = true) :=
  ⟨⟨up, hIn, 96, 0, .a, by decide +kernel⟩,
    ⟨up, hOut, 0, 5, by decide +kernel⟩,
    ⟨withSh (fun h => { h with pool := [(4, some 0), (6, some 0)] }), 0, 6, .a, by decide +kernel⟩,
    ⟨unitUp descR tickUp, rqT, 0, by decide +kernel⟩⟩

/-- States and operands that meet the hypotheses of each clause of ReplacementEventsComplete. -/
theorem test_hyps_ReplacementEventsComplete :
    (∃ (s : State) (v : Hub) (n : Nat) (r : Replace) (p : Nat), s.acting = some v ∧ n < 13824 ∧ s.replaceOf n = some r ∧ r.started = false ∧ r.kind = 2 ∧ r.exhausted = false ∧ s.freeSpare (s.homeDie n) (s.homeCluster n) = some p ∧ s.clear r.old p = true) ∧
    (∃ (s : State) (v : Hub) (n : Nat) (r : Replace) (p : Nat) (b : Bool), s.acting = some v ∧ n < 13824 ∧ s.replaceOf n = some r ∧ r.started = false ∧ r.kind = 2 ∧ s.spareFor n = some (p, b) ∧ s.clear r.old p = true) ∧
    (∃ (s : State) (v : Hub) (n : Nat) (q : Nat) (u : Nat × Nat), s.acting = some v ∧ n < 13824 ∧ validCore q = true ∧ tget none s.sh.unplaced n = some u ∧ s.replaceOf n = none ∧ s.partOf (coreDie q) = s.partOf (s.homeDie n) ∧ s.freeSpare (coreDie q) (coreCluster q) = some q) ∧
    (∃ (s : State) (x : Xfer), x.dstLc < 13824 ∧ (s.lc x.dstLc).xferHold = true) ∧
    (∃ (s : State) (x : Xfer) (p : Nat), x.dstLc < 13824 ∧ (s.lc x.dstLc).xferHold = false ∧ s.carrier x.dstLc = some p ∧ s.accepts p x = true ∧ (s.core p).parked = false ∧ (s.die (coreDie p)).beater.stall = false ∧ (s.core p).stallNow ∉ s.xferReasons p x) ∧
    (∃ (s : State) (x : Xfer) (p : Nat), x.dstLc < 13824 ∧ (s.lc x.dstLc).xferHold = false ∧ s.carrier x.dstLc = some p ∧ s.accepts p x = true ∧ (s.core p).parked = false ∧ (s.die (coreDie p)).beater.stall = false ∧ (s.core p).stallNow ∈ s.xferReasons p x) ∧
    (∃ (s : State) (x : Xfer) (p : Nat), x.dstLc < 13824 ∧ (s.lc x.dstLc).xferHold = false ∧ s.carrier x.dstLc = some p ∧ x.kind = XferKind.plain ∧ s.accepts p x = false ∧ (s.core p).parked = false ∧ (s.die (coreDie p)).inReset = false ∧ s.calm (coreSource p 30) = true ∧ s.calm (ctxSource (x.tag % 4096) 2) = true) :=
  ⟨⟨withSh (fun h => { h with replaces := [{ (default : Replace) with kind := 2 }] }), .a, 0, { (default : Replace) with kind := 2 }, 2, by decide +kernel⟩,
    ⟨withSh (fun h => { h with replaces := [{ (default : Replace) with kind := 2 }] }), .a, 0, { (default : Replace) with kind := 2 }, 2, false, by decide +kernel⟩,
    ⟨withSh (fun h => { h with unplaced := [(4, some (5, 7))] }), .a, 4, 2, (5, 7), by decide +kernel⟩,
    ⟨up.modLc 0 (fun l => { l with xferHold := true }), ⟨0, 1, .plain, .package⟩, by decide +kernel⟩,
    ⟨up, ⟨0, 1, .plain, .package⟩, 0, by decide +kernel⟩,
    ⟨up.modCore 0 (fun c => { c with stallNow := 8, awaited := some 1 }), ⟨0, 1, .plain, .package⟩, 0, by decide +kernel⟩,
    ⟨up, ⟨0, 2, .plain, .package⟩, 0, by decide +kernel⟩⟩

/-- States and operands that meet the hypotheses of each clause of FenceEventsComplete. -/
theorem test_hyps_FenceEventsComplete :
    (∃ (s : State) (h : Hdr) (d : Nat) (p : Nat) (w : Nat), isCompute d = true ∧ (s.die d).inReset = false ∧ (s.die d).epoch ≤ h.epoch ∧ s.unseen d h 12 = true ∧ s.noPkg 73 ∧ validCore p = true ∧ coreDie p = d ∧ w < 2 ^ 32 ∧ bits w 14 14 < 13824) ∧
    (∃ (s : State) (h : Hdr) (d : Nat) (i : Nat) (w : Nat), isCompute d = true ∧ (s.die d).inReset = false ∧ (s.die d).epoch ≤ h.epoch ∧ s.unseen d h 12 = true ∧ s.noPkg 73 ∧ i < 144 ∧ w < 2 ^ 32 ∧ bits w 17 14 < 13824 ∧ (bit w 31 = true → validCore (bits w 0 16) = true)) ∧
    (∃ (s : State) (h : Hdr) (d : Nat) (p : Nat), isCompute d = true ∧ (s.die d).inReset = false ∧ (s.die d).epoch ≤ h.epoch ∧ s.unseen d h 12 = true ∧ validCore p = true ∧ coreDie p = d ∧ s.resetting 0 p = false) ∧
    (∃ (s : State) (d : Nat), isCompute d = true ∧ (s.die d).fences ≠ []) ∧
    (∃ (s : State) (d : Nat), isCompute d = true ∧ (s.die d).fences ≠ []) ∧
    (∃ (s : State) (h : Hdr) (d : Nat) (tag : Nat), isDie d = true ∧ (s.die d).inReset = false ∧ (s.die d).epoch ≤ h.epoch ∧ s.unseen d h 13 = true) ∧
    (∃ (s : State) (v : Hub) (c : Nat) (x : Teardown) (k : Nat) (b : Bool), s.acting = some v ∧ c < 4096 ∧ (s.ctx c).teardown = some x ∧ x.step < 6 ∧ (∀ (n : Nat), (s.lc n).gate = [])) ∧
    (∃ (s : State) (c : Nat) (x : Teardown), c < 4096 ∧ (s.ctx c).teardown = some x ∧ 6 ≤ x.step ∧ (s.ctx c).snap = none) :=
  ⟨⟨up, hOut, 0, 12, 2 ^ 30, by decide +kernel⟩,
    ⟨up, hOut, 0, 143, 5, by decide +kernel⟩,
    ⟨up, hOut, 0, 12, by decide +kernel⟩,
    ⟨withDie 0 (fun k => { k with fences := [16] }), 0, by decide +kernel⟩,
    ⟨withDie 0 (fun k => { k with fences := [16] }), 0, by decide +kernel⟩,
    ⟨up, hOut, 0, 1, by decide +kernel⟩,
    ⟨withCtx (fun x => { x with state := 3, teardown := some ⟨1, 0, 5, 0⟩ }), .a, 1, ⟨1, 0, 5, 0⟩, 4, true, by decide +kernel, by decide +kernel, by decide +kernel, by decide +kernel, fun n => gate_none _ (by decide +kernel) n⟩,
    ⟨withCtx (fun x => { x with state := 3, teardown := some ⟨1, 0, 6, 0⟩ }), 1, ⟨1, 0, 6, 0⟩, by decide +kernel⟩⟩

/-- States and operands that meet the hypotheses of each clause of ResetEventsComplete. -/
theorem test_hyps_ResetEventsComplete :
    (∃ (s : State) (p : Nat) (r : Nat × Nat × Nat × Nat × Bool), s.runningReset 0 p = some r) ∧
    (∃ (s : State) (k : Nat) (r : Nat × Nat × Nat × Nat × Bool), s.runningReset 1 k = some r) ∧
    (∃ (s : State) (v : Hub) (p : Nat) (r : Nat × Nat × Nat × Nat × Bool), s.acting = some v ∧ s.runningReset 0 p = some r ∧ s.resetting 1 (coreDie p * 16 + coreCluster p) = false ∧ s.obeys (coreDie p) = true ∧ s.noPkg 73 ∧ s.noPkg 232 ∧ (∀ (n : Nat), s.lcOf p = some n → (s.lc n).heldXfers = [])) ∧
    (∃ (s : State) (d : Nat) (r : Nat × Nat × Nat × Nat × Bool), isDie d = true ∧ s.runningReset 2 d = some r ∧ s.targetCore d = none) ∧
    (∃ (s : State) (v : Hub) (c : Nat) (x : Teardown) (p : Nat), s.acting = some v ∧ s.activeHub = some v ∧ c < 4096 ∧ validCore p = true ∧ (s.ctx c).teardown = some x ∧ x.step < 6 ∧ s.coreCtx p = some c ∧ s.resetting 0 p = false ∧ (s.coreRung (s.partOf (coreDie p))).count < (s.ladder (s.partOf (coreDie p))).1) ∧
    (∃ (s : State), s.pkg.powerPending = true ∧ (s.leaked (pkgSource 7)).count < 5) :=
  ⟨⟨{ up.modSh (fun h => { h with resets := [(0, 12, 0, 0, false)] }) with cores := [(12, { resetting := true })] }, 12, (0, 12, 0, 0, false), by decide +kernel⟩,
    ⟨up.modSh (fun h => { h with resets := [(1, 1, 0, 0, false)] }), 1, (1, 1, 0, 0, false), by decide +kernel⟩,
    ⟨{ up.modSh (fun h => { h with resets := [(0, 12, 0, 0, false)] }) with cores := [(12, { resetting := true })] }, .a, 12, (0, 12, 0, 0, false), by decide +kernel⟩,
    ⟨{ up.modSh (fun h => { h with resets := [(2, 0, 0, 0, false)] }) with cores := [] }, 0, (2, 0, 0, 0, false), by decide +kernel⟩,
    ⟨withCtx (fun x => { x with state := 3, teardown := some ⟨1, 0, 4, 0⟩ }), .a, 1, ⟨1, 0, 4, 0⟩, 0, by decide +kernel⟩,
    ⟨up.modPkg (fun g => { g with powerPending := true, powerSource := 9 }), by decide +kernel⟩⟩

/-- States and operands that meet the hypotheses of each clause of LadderCommandsComplete. -/
theorem test_hyps_LadderCommandsComplete :
    (∃ (s : State) (rq : Req) (d : Nat) (seg : Nat), s.admits (Instr.deckleRead rq d seg) = true ∧ seg ≤ 2 ∧ (s.die d).inReset = false ∧ s.obeys d = true ∧ s.noPkg 73) ∧
    (∃ (s : State) (rq : Req) (p : Nat), s.admits (Instr.coreReturn rq p) = true ∧ s.inTriage p = false ∧ (s.core p).escaped = some true ∧ physState (s.phys p) = 2 ∧ s.obeys (coreDie p) = true) ∧
    (∃ (s : State) (rq : Req) (p : Nat), s.admits (Instr.reset rq 0 p) = true ∧ s.inTriage p = false ∧ s.resetting 0 p = false ∧ (s.coreRung (s.partOf (coreDie p))).count < (s.ladder (s.partOf (coreDie p))).1) ∧
    (∃ (s : State) (rq : Req) (part : Nat) (n : Nat) (w : Nat), s.admits (Instr.ladderCfg rq part n w) = true ∧ 1 ≤ n ∧ n ≤ 4095 ∧ 1 ≤ w ∧ w ≤ 3600000000) ∧
    (∃ (s : State) (rq : Req) (part : Nat), s.admits (Instr.partRelease rq part) = true ∧ part ∈ s.pkg.partHeld) ∧
    (∃ (s : State) (rq : Req), s.admits (Instr.oosEnter rq) = true) ∧
    (∃ (s : State) (rq : Req), s.admits (Instr.serviceResume rq) = true ∧ s.pkg.oos = true) :=
  ⟨⟨up, rqO, 0, 2, by decide +kernel⟩,
    ⟨{ withDie 0 (fun k => { k with phys := [(12, 2 ^ 30)] }) with cores := [(12, { escaped := some true })] }, rqO, 12, by decide +kernel⟩,
    ⟨up, rqO, 12, by decide +kernel⟩,
    ⟨up, rqO, 31, 1, 3600000000, by decide +kernel⟩,
    ⟨up.modPkg (fun g => { g with partHeld := [0] }), rqO, 0, by decide +kernel⟩,
    ⟨up, rqO, by decide +kernel⟩,
    ⟨up.modPkg (fun g => { g with oos := true }), rqO, by decide +kernel⟩⟩

/-- States and operands that meet the hypotheses of each clause of SnapshotsComplete. -/
theorem test_hyps_SnapshotsComplete :
    (∃ (s : State) (rq : Req) (d : Nat) (off : Nat) (len : Nat), s.admits (Instr.reamAreaSet rq d off len) = true ∧ len ≤ s.pkg.spad - off) ∧
    (∃ (s : State) (rq : Req) (id : Nat) (iter : Nat) (pt : Nat) (package : Bool) (delta : Nat) (deadline : Nat) (m : ReamMap), s.admits (Instr.snapBegin rq id iter pt package delta deadline m) = true ∧ s.pkg.ready = true ∧ ((s.ctx rq.ctx).state = 1 ∨ (s.ctx rq.ctx).state = 2) ∧ (s.ctx rq.ctx).snap = none ∧ s.snapRefusal rq.ctx iter pt package m = none ∧ deadline ≤ 60000) ∧
    (∃ (s : State) (n : Nat) (c : Nat) (p : Nat) (x : Snap), n < 13824 ∧ s.lcCtx n = some c ∧ s.carrier n = some p ∧ (s.ctx c).snap = some x ∧ x.step = 2 ∧ n ∉ x.held ∧ (s.ctx c).state ≠ 3) ∧
    (∃ (s : State) (v : Hub) (c : Nat) (x : Snap), s.acting = some v ∧ c < 4096 ∧ (s.ctx c).snap = some x ∧ x.step = 2 ∧ (∀ n ∈ s.ctxLcs c, n ∈ x.held ∧ s.openTickets n = [] ∧ (s.lc n).points = [])) ∧
    (∃ (s : State) (v : Hub) (c : Nat) (x : Snap), s.acting = some v ∧ c < 4096 ∧ (s.ctx c).snap = some x ∧ x.step = 2 ∧ (∀ n ∈ s.ctxLcs c, n ∈ x.held ∧ s.openTickets n = [] ∧ (s.lc n).points = [])) ∧
    (∃ (s : State) (v : Hub) (c : Nat) (i : Nat) (k : Nat) (w : List Nat) (set : List TensorPart) (x : Snap) (m : Manifest) (r : Ream) (y : Shard) (l : List Nat), s.acting = some v ∧ c < 4096 ∧ (s.ctx c).snap = some x ∧ x.step = 5 ∧ x.man = some m ∧ (i, k) ∉ x.acked ∧ (i, k) ∉ x.lost ∧ x.reams[i]? = some r ∧ List.find? (fun y => y.index == k) r.shards = some y ∧ holderWords x i r k w = some l ∧ (List.filter (fun e => e.1 == i) x.lost).length < 3 ∧ x.acked.length + 1 + x.lost.length < List.foldl (fun x1 x2 => x1 + x2) 0 (List.map (fun r => r.shards.length) x.reams)) ∧
    (∃ (s : State) (v : Hub) (c : Nat) (i : Nat) (k : Nat) (w : List Nat) (set : List TensorPart) (x : Snap) (m : Manifest) (r : Ream) (y : Shard) (l : List Nat), s.acting = some v ∧ c < 4096 ∧ (s.ctx c).snap = some x ∧ x.step = 5 ∧ x.man = some m ∧ (i, k) ∉ x.acked ∧ (i, k) ∉ x.lost ∧ x.reams[i]? = some r ∧ List.find? (fun y => y.index == k) r.shards = some y ∧ holderWords x i r k w = some l ∧ (List.filter (fun e => e.1 == i) x.lost).length < 3 ∧ x.acked.length + 1 + x.lost.length = List.foldl (fun x1 x2 => x1 + x2) 0 (List.map (fun r => r.shards.length) x.reams) ∧ (s.ctx c).reclaimAt = none) ∧
    (∃ (s : State) (v : Hub) (c : Nat) (i : Nat) (k : Nat) (w : List Nat) (set : List TensorPart) (x : Snap) (m : Manifest) (r : Ream) (y : Shard) (l : List Nat), s.acting = some v ∧ c < 4096 ∧ (s.ctx c).snap = some x ∧ x.step = 5 ∧ x.man = some m ∧ (i, k) ∉ x.acked ∧ (i, k) ∉ x.lost ∧ x.reams[i]? = some r ∧ List.find? (fun y => y.index == k) r.shards = some y ∧ holderWords x i r k w = some l ∧ (List.filter (fun e => e.1 == i) x.lost).length < 3) ∧
    (∃ (s : State) (v : Hub) (c : Nat) (x : Snap) (r : Run), s.acting = some v ∧ c < 4096 ∧ (s.ctx c).snap = some x ∧ x.deadline ≠ 0 ∧ List.filter (fun x => x.opcode == 1793 && x.ctx == c) s.sh.runs = [r]) :=
  ⟨⟨up, rqO, 0, 4096, 8192, by decide +kernel⟩,
    ⟨up, rqT, 4, 2, 0, false, 0, 100, ⟨[], true⟩, by decide +kernel⟩,
    ⟨withCtx (fun x => { x with snap := some { snapUp with held := [] } }), 0, 1, 0, { snapUp with held := [] }, by decide +kernel⟩,
    ⟨withCtx (fun x => { x with snap := some snapUp }), .a, 1, snapUp, by decide +kernel⟩,
    ⟨withCtx (fun x => { x with snap := some snapUp }), .a, 1, snapUp, by decide +kernel⟩,
    ⟨withCtx (fun x => { x with snap := some snapAcks }), .a, 1, 0, 0, [1, 2, 3, 4, 5, 6, 7, 8], [], snapAcks, manUp, reamUp, { holder := 0, die := 0, index := 0, offset := 0, length := 64, digest := 0, here := true }, [1, 2, 3, 4, 5, 6, 7, 8], by decide +kernel⟩,
    ⟨withCtx (fun x => { x with snap := some { snapAcks with acked := [(0, 0)], data := [((0, 0), [1, 2, 3, 4, 5, 6, 7, 8])] } }), .a, 1, 0, 1, [], [], { snapAcks with acked := [(0, 0)], data := [((0, 0), [1, 2, 3, 4, 5, 6, 7, 8])] }, manUp, reamUp, { holder := 0, die := 1, index := 1, offset := 0, length := 64, digest := 0, here := true }, (codeShards [[1, 2, 3, 4, 5, 6, 7, 8]]).1, by decide +kernel⟩,
    ⟨withCtx (fun x => { x with snap := some snapAcks }), .a, 1, 0, 0, [1, 2, 3, 4, 5, 6, 7, 8], [], snapAcks, manUp, reamUp, { holder := 0, die := 0, index := 0, offset := 0, length := 64, digest := 0, here := true }, [1, 2, 3, 4, 5, 6, 7, 8], by decide +kernel⟩,
    ⟨(withCtx (fun x => { x with snap := some snapUp })).modSh (fun h => { h with runs := [runOf 0x0701 1] }), .a, 1, snapUp, runOf 0x0701 1, by decide +kernel⟩⟩

/-- States and operands that meet the hypotheses of each clause of SnapshotKeepingCompletes. -/
theorem test_hyps_SnapshotKeepingCompletes :
    (∃ (s : State) (rq : Req) (id : Nat), s.admits (Instr.snapRelease rq id) = true ∧ (∀ (r : Manifest × GroupTable × Nat), (s.ctx rq.ctx).restoring = some r → r.1.id ≠ id)) ∧
    (∃ (s : State) (rq : Req) (package : Bool) (base : Nat) (m : ReamMap), s.admits (Instr.snapDefault rq package base m) = true ∧ ((s.ctx rq.ctx).state = 1 ∨ (s.ctx rq.ctx).state = 2) ∧ s.mapOk package m = true) ∧
    (∃ (s : State) (h : Hdr) (c : Nat) (m : Manifest) (sb : Hub), c < 4096 ∧ s.standbyHub = some sb ∧ (s.die (hubDie sb)).inReset = false ∧ (s.die (hubDie sb)).epoch ≤ h.epoch ∧ s.unseen (hubDie sb) h 194 = true ∧ m.valid = true ∧ (∀ k ∈ (s.ctx c).manifests, k.id ≠ m.id)) ∧
    (∃ (s : State) (v : Hub) (c : Nat) (x : Ctx) (p : Plan), s.acting = some v ∧ s.sh.ctxs = [(c, x)] ∧ (x.state = 1 ∨ x.state = 2) ∧ x.plan = some p ∧ p.training = true) ∧
    (∃ (s : State) (p : Nat) (c : Nat) (v : Hub), validCore p = true ∧ s.acting = some v ∧ s.coreCtx p = some c ∧ (s.core p).stallNow = 8 ∧ s.vatA.staging.length < 1024) :=
  ⟨⟨withCtx (fun x => { x with manifests := [manUp, { manUp with id := 5 }] }), rqT, 4, by decide +kernel⟩,
    ⟨up, rqT, false, 5, ⟨[], true⟩, by decide +kernel⟩,
    ⟨up, hOut, 1, manUp, .b, by decide +kernel⟩,
    ⟨up, .a, 1, up.ctx 1, planUp, by decide +kernel⟩,
    ⟨{ up with cores := [(0, { stallNow := 8, awaited := some 9, stallSince := 5 })] }, 0, 1, .a, by decide +kernel⟩⟩

/-- States and operands that meet the hypotheses of each clause of RestoreAndReclaimComplete. -/
theorem test_hyps_RestoreAndReclaimComplete :
    (∃ (s : State) (rq : Req) (g : GroupTable), s.admits (Instr.groupSet rq g) = true ∧ (s.ctx rq.ctx).state = 1 ∧ (∀ (o : GroupTable), (s.ctx rq.ctx).group = some o → o.epoch < g.epoch) ∧ 1 ≤ g.ranks ∧ g.ranks ≤ 256 ∧ g.rank < g.ranks ∧ g.addrs.length ≤ g.ranks) ∧
    (∃ (s : State) (rq : Req) (id : Nat) (delta : Nat) (m : Manifest) (crc : Nat) (g : GroupTable), s.admits (Instr.restore rq id delta m crc g) = true ∧ s.pkg.ready = true ∧ (s.ctx rq.ctx).restoring = none ∧ s.restoreCheck rq.ctx id delta m crc = none) ∧
    (∃ (s : State) (v : Hub) (c : Nat) (remote : List ((Nat × Nat) × Option (List Nat))) (poisoned : List (Nat × Nat)) (set : List TensorPart) (m : Manifest) (g : GroupTable) (at0 : Nat) (n : Nat) (k : Nat) (r : Run), s.acting = some v ∧ c < 4096 ∧ (s.ctx c).restoring = some (m, g, at0) ∧ (∀ e ∈ m.reams.zipIdx, (List.filter (fun y => (s.shardLeft e.2 remote poisoned y).isNone) e.1.shards).length ≤ 2) ∧ foldState (s.ctx c).s0 (s.ctx c).s1 (0, 0, 0) set = (m.d0, m.d1, m.count) ∧ m.steps = [(n, k)] ∧ n ∈ s.ctxLcs c ∧ List.filter (fun x => x.opcode == 1795 && x.ctx == c) s.sh.runs = [r]) ∧
    (∃ (s : State) (rq : Req) (parts : Nat) (d : Nat) (c : Nat), s.admits (Instr.reclaim rq parts d) = true ∧ s.pkg.ready = true ∧ 10 ≤ d ∧ d ≤ 60 ∧ s.pkg.reclaim = [] ∧ s.reclaimed parts = [c]) ∧
    (∃ (s : State) (v : Hub) (c : Nat) (x : Bool × Nat × ReamMap), s.acting = some v ∧ c < 4096 ∧ (s.ctx c).reclaimAt ≠ none ∧ (s.ctx c).autoSnap = 1 ∧ (s.ctx c).snap = none ∧ ((s.ctx c).state = 1 ∨ (s.ctx c).state = 2) ∧ (s.ctx c).plan ≠ none ∧ (s.ctx c).defaultMap = some x ∧ s.mapOutside x.2.2 = true ∧ (∀ (p : Plan), (s.ctx c).plan = some p → s.snapRefusal c ((s.ctx c).nextPoint p).1 ((s.ctx c).nextPoint p).2 x.1 x.2.2 = none)) ∧
    (∃ (s : State) (v : Hub) (r : Nat × Nat) (c : Nat), s.acting = some v ∧ s.pkg.reclaim = [r] ∧ s.reclaimed r.1 = [c] ∧ (s.ctx c).reclaimAt ≠ none) :=
  ⟨⟨withCtx (fun x => { x with state := 1 }), rqO, groupUp, by decide +kernel⟩,
    ⟨withCtx (fun x => { x with state := 1 }), rqT, 4, 0, { manUp with steps := [(0, 90), (1, 91)] }, manifestCrc { manUp with steps := [(0, 90), (1, 91)] }, groupUp, by decide +kernel⟩,
    ⟨(withCtx fun x => { x with state := 1, restoring := some ({ manUp with d0 := 0, d1 := 0, count := 0 }, groupUp, 0) }).modSh (fun h => { h with runs := [runOf 0x0703 1] }), .a, 1, [], [], [], { manUp with d0 := 0, d1 := 0, count := 0 }, groupUp, 0, 0, 90, runOf 0x0703 1, by decide +kernel⟩,
    ⟨up, rqO, 1, 10, 1, by decide +kernel⟩,
    ⟨reclUp, .a, 1, (false, 0, ⟨[], true⟩), by decide +kernel⟩,
    ⟨(withCtx fun x => { x with reclaimAt := some 5 }).modPkg (fun g => { g with reclaim := [(1, 5)] }), .a, (1, 5), 1, by decide +kernel⟩⟩

/-- States and operands that meet the hypotheses of each clause of SlicesComplete. -/
theorem test_hyps_SlicesComplete :
    (∃ (s : State) (p : Nat) (n : Nat) (v : Hub) (a : Nat) (l : Nat), validCore p = true ∧ s.acting = some v ∧ s.lcOf p = some n ∧ (s.die (coreDie p)).beater.target = some (coreIndex p) ∧ s.beaterOk (coreDie p) = true ∧ (s.die (coreDie p)).beater.lease = none ∧ (s.die (coreDie p)).beater.request = none ∧ s.furnished (coreDie p) (s.die (coreDie p)).beater.kind = true ∧ a ≤ (s.lc n).lstep + 16384 ∧ (s.lc n).lstep < a + l) ∧
    (∃ (s : State) (d : Nat) (w : Nat × Nat), isCompute d = true ∧ (s.die d).beater.window = some w ∧ (s.die d).beater.lease = none) ∧
    (∃ (s : State) (p : Nat), validCore p = true ∧ s.mayShift (coreDie p) p = true ∧ s.freeToScreen p = true) ∧
    (∃ (s : State) (p : Nat) (n : Nat) (reason : Nat) (aw : Option Nat), validCore p = true ∧ s.lcOf p = some n ∧ s.stopped p = false ∧ reason ∈ handshakeReasons ∧ (∀ (m : Nat), aw = some m → m < 13824) ∧ (s.core p).relaxed = false) ∧
    (∃ (s : State) (p : Nat) (n : Nat) (reason : Nat) (aw : Option Nat), validCore p = true ∧ s.lcOf p = some n ∧ s.stopped p = false ∧ reason ∈ handshakeReasons ∧ (∀ (m : Nat), aw = some m → m < 13824) ∧ (s.core p).relaxed = true ∧ s.mayShift (coreDie p) p = true) ∧
    (∃ (s : State) (d : Nat) (p : Nat) (m : Nat), isCompute d = true ∧ m < 2 ^ 64 ∧ s.targetCore d = some p ∧ (s.die d).beater.shifting = true ∧ s.screenOk d = true ∧ s.leaseLasts d = true ∧ (s.die d).stopLatch = false ∧ (s.core p).frozen = false ∧ (s.core p).resetting = false ∧ (s.die d).beater.stall = false ∧ (s.core p).deferred = [] ∧ (s.die d).beater.confirm = 0) ∧
    (∃ (s : State) (v : Hub) (d : Nat) (p : Nat), isCompute d = true ∧ s.acting = some v ∧ s.targetCore d = some p ∧ (s.die d).beater.shifting = true ∧ (s.core p).deferred = [] ∧ (s.core p).resetting = false ∧ (s.die d).beater.confirm = 0 ∧ s.abandoned d p = false ∧ (s.die d).beater.misr = s.expected d ∧ (s.die d).beater.slice + 1 < (s.runRange d).2) ∧
    (∃ (s : State) (v : Hub) (d : Nat) (p : Nat), isCompute d = true ∧ s.acting = some v ∧ s.targetCore d = some p ∧ (s.die d).beater.shifting = true ∧ (s.core p).deferred = [] ∧ (s.core p).resetting = false ∧ (s.die d).beater.confirm = 0 ∧ s.abandoned d p = false ∧ (s.die d).beater.misr ≠ s.expected d ∧ (s.die d).beater.kind < 2 ∧ s.lcOf p = none ∧ s.calm (coreSource p 24) = true ∧ s.filling p = false ∧ s.obeys d = true) :=
  ⟨⟨withDie 0 (fun _ => { dieScr with beater := { target := some 0 } }), 0, 0, .a, 200, 50, by decide +kernel⟩,
    ⟨withScr (fun b => { b with lease := none, window := some (5, 6), request := some (0, 9) }), 0, (5, 6), by decide +kernel⟩,
    ⟨withScr id, 2, by decide +kernel⟩,
    ⟨up, 0, 0, 2, some 1, by decide +kernel⟩,
    ⟨(withDie 0 (fun _ => { dieScr with beater := { dieScr.beater with target := some 0 } })).modCore 0 (fun c => { c with relaxed := true }), 0, 0, 2, some 1, by decide +kernel⟩,
    ⟨withScr (fun b => { b with shifting := true }), 0, 2, 9, by decide +kernel⟩,
    ⟨withScr (fun b => { b with shifting := true }), .a, 0, 2, by decide +kernel⟩,
    ⟨withScr (fun b => { b with shifting := true, misr := 7 }), .a, 0, 2, by decide +kernel⟩⟩

/-- States and operands that meet the hypotheses of each clause of LeasesComplete. -/
theorem test_hyps_LeasesComplete :
    (∃ (s : State) (h : Hdr) (v : Hub) (kind : Nat), isCompute h.src = true ∧ kind ≤ 1 ∧ s.acting = some v ∧ s.newAt v h 135 = true) ∧
    (∃ (s : State) (h : Hdr) (v : Hub), isCompute h.src = true ∧ s.acting = some v ∧ s.newAt v h 135 = true ∧ s.sh.startupQ = [] ∧ s.sh.leaseWait = [] ∧ s.mayGrant h.src 2 = true) ∧
    (∃ (s : State) (h : Hdr) (d : Nat) (kind : Nat) (e : Nat), isCompute d = true ∧ kind ≤ 2 ∧ (s.die d).inReset = false ∧ (s.die d).epoch ≤ h.epoch ∧ s.unseen d h 136 = true ∧ e ≠ 0 ∧ (s.die d).beater.request ≠ none) ∧
    (∃ (s : State) (h : Hdr) (d : Nat) (kind : Nat), isCompute d = true ∧ kind ≤ 2 ∧ (s.die d).inReset = false ∧ (s.die d).epoch ≤ h.epoch ∧ s.unseen d h 136 = true) ∧
    (∃ (s : State) (h : Hdr) (v : Hub), isCompute h.src = true ∧ s.acting = some v ∧ s.newAt v h 137 = true ∧ s.sh.startupQ = [] ∧ s.sh.leaseWait = []) ∧
    (∃ (s : State) (d : Nat), isCompute d = true ∧ s.sh.startupQ = [] ∧ s.sh.leaseWait = [] ∧ (∀ (p : Nat), s.targetCore d = some p → (s.core p).deferred = [])) ∧
    (∃ (s : State) (d : Nat) (v : Hub) (r : Nat), isCompute d = true ∧ s.acting = some v ∧ (s.die d).beater.request = some (1, r)) :=
  ⟨⟨up, hIn, .a, 0, by decide +kernel⟩,
    ⟨up, hIn, .a, by decide +kernel⟩,
    ⟨withScr (fun b => { b with lease := none, request := some (1, 5) }), hOut, 0, 1, 2000000, by decide +kernel⟩,
    ⟨withScr (fun b => { b with lease := none, request := some (1, 5) }), hOut, 0, 1, by decide +kernel⟩,
    ⟨withSh (fun h => { h with leases := [(0, 1, 5), (1, 1, 5)] }), hIn, .a, by decide +kernel⟩,
    ⟨withSh (fun h => { h with leases := [(0, 1, 5), (1, 1, 5)] }), 0, by decide +kernel⟩,
    ⟨withScr (fun b => { b with lease := none, request := some (1, 5) }), 0, .a, 5, by decide +kernel⟩⟩

/-- States and operands that meet the hypotheses of each clause of ScreenAgesComplete. -/
theorem test_hyps_ScreenAgesComplete :
    (∃ (s : State) (p : Nat) (v : Hub), validCore p = true ∧ s.acting = some v ∧ (s.core p).lateShown = false ∧ s.vatA.staging.length < 1024) ∧
    (∃ (s : State) (v : Hub) (p : Nat), validCore p = true ∧ s.acting = some v ∧ (s.core p).overShown = false ∧ bit s.pkg.voidReasons 1 = false ∧ s.noPkg 209) ∧
    (∃ (s : State) (v : Hub) (x : Pack), s.acting = some v ∧ s.activePack 2 = some x ∧ bit s.pkg.voidReasons 3 = false ∧ s.noPkg 209) ∧
    (∃ (s : State) (p : Nat), validCore p = true ∧ s.brkHeld p = true) ∧
    (∃ (s : State) (rq : Req) (p : Nat), s.admits (Instr.screenRun rq p 1) = true ∧ s.inTriage p = false ∧ (s.die (coreDie p)).inReset = false ∧ (s.die (coreDie p)).beater.unusable = false ∧ s.furnished (coreDie p) 1 = true ∧ s.enabled (coreDie p) = true ∧ physState (s.phys p) < 3 ∧ s.obeys (coreDie p) = true) ∧
    (∃ (s : State) (rq : Req), s.admits (Instr.screenStatus rq) = true) :=
  ⟨⟨up, 0, .a, by decide +kernel⟩,
    ⟨up, .a, 0, by decide +kernel⟩,
    ⟨up.modPkg (fun g => { g with flashMem := putCells [] (halfAt 2 0) 0x400000 (packCells 2 5 2) }), .a, { serial := 5, keyId := 3, hours := 0, slices := 2, bytes := 2304 }, by decide +kernel⟩,
    ⟨up.modCore 0 (fun c => { c with holds := [(2, 5)] }), 0, by decide +kernel⟩,
    ⟨withScr id, rqO, 5, by decide +kernel⟩,
    ⟨up, rqO, by decide +kernel⟩⟩

/-- States and operands that meet the hypotheses of each clause of BreakpointCommandsComplete. -/
theorem test_hyps_BreakpointCommandsComplete :
    (∃ (s : State) (rq : Req) (i : Nat) (n : Nat) (base : Nat) (len : Nat) (kinds : Nat) (tm : Nat) (action : Nat), s.admits (Instr.watchSet rq i n base len kinds tm action) = true ∧ rq.priv ≠ Priv.tenant ∧ s.lcTriage n = false ∧ (∀ (p : Nat), s.carrier n = some p → (s.core p).parked = false) ∧ len % 64 = 0 ∧ 64 ≤ len ∧ base + len ≤ s.pkg.spad) ∧
    (∃ (s : State) (rq : Req) (n : Nat) (i : Nat) (w : Watch), s.admits (Instr.watchClear rq n i) = true ∧ rq.priv ≠ Priv.tenant ∧ s.lcTriage n = false ∧ (∀ (p : Nat), s.carrier n = some p → (s.core p).parked = false) ∧ tget none (s.lc n).watch i = some w) ∧
    (∃ (s : State) (rq : Req) (n : Nat) (k : Nat), s.admits (Instr.brkSet rq 1 0 n k) = true ∧ ((s.ctx rq.ctx).state = 1 ∨ (s.ctx rq.ctx).state = 2) ∧ (s.ctx rq.ctx).brks.length < 16) ∧
    (∃ (s : State) (rq : Req) (n : Nat), s.admits (Instr.brkClear rq n) = true) ∧
    (∃ (s : State) (rq : Req) (run : Nat) (b : BrkHold), s.admits (Instr.brkResume rq run) = true ∧ (s.ctx rq.ctx).brkHold = some b ∧ b.after = false ∧ b.inForce = false) ∧
    (∃ (s : State) (rq : Req) (run : Nat) (b : BrkHold), s.admits (Instr.brkResume rq run) = true ∧ (s.ctx rq.ctx).brkHold = some b ∧ b.after = false ∧ b.inForce = true ∧ (∀ p ∈ s.scopeCores rq.ctx b.scope, (s.core p).deferred = [])) ∧
    (∃ (s : State) (d : Nat) (c : Nat) (a : Nat) (b : Brk), isDie d = true ∧ List.filter (fun x => x.2 == a) (s.die d).comparators = [(c, a)] ∧ List.filter (fun b => b.kind == 0 && b.arg == a) (s.ctx c).brks = [b] ∧ (s.ctx c).brkHold = none ∧ s.dbg.gstop = none) ∧
    (∃ (s : State) (c : Nat) (b : BrkHold) (v : Hub), c < 4096 ∧ s.acting = some v ∧ s.vatA.staging.length < 1024 ∧ (s.ctx c).brkHold = some b ∧ b.inForce = false ∧ b.after = false ∧ b.resume = none) :=
  ⟨⟨up, rqO, 7, 0, 64, 128, 63, 1, 15, by decide +kernel⟩,
    ⟨up.modLc 0 (fun l => { l with watch := [(7, some ⟨64, 64, 1, false, 1, 1, 9⟩)] }), rqO, 0, 7, ⟨64, 64, 1, false, 1, 1, 9⟩, by decide +kernel⟩,
    ⟨withCtx (fun x => { x with brks := [brkUp] }), rqT, 0, 500, by decide +kernel⟩,
    ⟨withCtx (fun x => { x with brks := [brkUp] }), rqT, 255, by decide +kernel⟩,
    ⟨withCtx (fun x => { x with brkHold := some (brkHeldUp false) }), rqT, 7, brkHeldUp false, by decide +kernel⟩,
    ⟨withCtx (fun x => { x with brkHold := some (brkHeldUp true) }), rqT, 7, brkHeldUp true, by decide +kernel⟩,
    ⟨(withDie 0 (fun k => { k with comparators := [(1, 64)] })).modCtx 1 (fun x => { x with brks := [brkUp] }), 0, 1, 64, brkUp, by decide +kernel⟩,
    ⟨withCtx (fun x => { x with brkHold := some (brkHeldUp false) }), 1, brkHeldUp false, .a, by decide +kernel⟩⟩

/-- States and operands that meet the hypotheses of each clause of GlobalStopCompletes. -/
theorem test_hyps_GlobalStopCompletes :
    (∃ (s : State) (rq : Req), s.admits (Instr.gstop rq) = true ∧ s.dbg.gstop = none) ∧
    (∃ (s : State) (hub : Hub), (s.pkg.lifecycle = 1 ∨ s.pkg.lifecycle = 3 ∨ s.pkg.lifecycle = 2 ∧ s.pkg.vendorDebug = true) ∧ s.dbg.gstop = none) ∧
    (∃ (s : State) (d : Nat), isDie d = true ∧ s.dbg.gstop ≠ none ∧ (s.die d).stopLatch = false) ∧
    (∃ (s : State) (h : Hdr) (v : Hub) (e : StopEntry) (w : List Nat) (i : Nat × Nat) (k : Nat), s.acting = some v ∧ s.newAt v h 196 = true ∧ s.dbg.gstop = some i ∧ w.length = 8 ∧ k < 256 ∧ readStop w = e ∧ validCore e.pcore = true ∧ coreDie e.pcore = h.src) ∧
    (∃ (s : State) (h : Hdr) (v : Hub) (w : List Nat) (i : Nat × Nat), s.acting = some v ∧ s.newAt v h 196 = true ∧ s.dbg.gstop = some i ∧ w.length = 4) ∧
    (∃ (s : State) (rq : Req) (x : Nat × Nat), s.admits (Instr.gstopRelease rq 1) = true ∧ s.dbg.gstop = some x ∧ s.dbg.stopHeld = false ∧ s.dbg.unreadable = false ∧ s.dbg.releaseAt = none) ∧
    (∃ (s : State) (h : Hdr) (d : Nat) (k : Nat), isDie d = true ∧ (s.die d).inReset = false ∧ (s.die d).epoch ≤ h.epoch ∧ s.unseen d h 147 = true ∧ s.dbg.gstop ≠ none) ∧
    (∃ (s : State), s.dbg.gstop ≠ none ∧ s.dbg.releaseAt ≠ none) :=
  ⟨⟨up, rqO, by decide +kernel⟩,
    ⟨up.modPkg (fun g => { g with vendorDebug := true }), .b, by decide +kernel⟩,
    ⟨withDbg (fun g => { g with gstop := some (0, 5) }), 99, by decide +kernel⟩,
    ⟨withDbg (fun g => { g with gstop := some (0, 5) }), hIn, .a, readStop [2, 1, 0, 0, 0, 0, 0, 0], [2, 1, 0, 0, 0, 0, 0, 0], (0, 5), 0, by decide +kernel⟩,
    ⟨withDbg (fun g => { g with gstop := some (0, 5) }), hIn, .a, [1, 2, 3, 4], (0, 5), by decide +kernel⟩,
    ⟨withDbg (fun g => { g with gstop := some (0, 5) }), rqO, (0, 5), by decide +kernel⟩,
    ⟨withDbg (fun g => { g with gstop := some (0, 5) }), hOut, 99, 1000, by decide +kernel⟩,
    ⟨withDbg (fun g => { g with gstop := some (0, 5), releaseAt := some 1000 }), by decide +kernel⟩⟩

/-- States and operands that meet the hypotheses of each clause of DebugReadsComplete. -/
theorem test_hyps_DebugReadsComplete :
    (∃ (s : State) (rq : Req) (i : Nat) (x : Nat × Nat), s.admits (Instr.stopRead rq i 1) = true ∧ s.dbg.gstop = some x) ∧
    (∃ (s : State) (rq : Req) (ring : Nat) (first : Nat) (n : Nat), s.admits (Instr.ringRead rq 1 ring first n 0) = true ∧ rq.priv ≠ Priv.tenant ∧ 1 ≤ n ∧ n ≤ 28) ∧
    (∃ (s : State) (rq : Req) (p : Nat), s.admits (Instr.counterRead rq p 1 0) = true) ∧
    (∃ (s : State) (rq : Req) (d : Nat) (first : Nat) (n : Nat), s.admits (Instr.profRead rq d first n) = true ∧ rq.priv ≠ Priv.tenant ∧ 1 ≤ n ∧ n ≤ 5) ∧
    (∃ (s : State) (rq : Req) (d : Nat), s.admits (Instr.profClear rq d) = true ∧ rq.priv ≠ Priv.tenant ∧ isCompute d = true) ∧
    (∃ (s : State) (rq : Req) (off : Nat) (x : Nat × Bool), s.admits (Instr.dumpRead rq off 1) = true ∧ s.dbg.dumpHeld = some x) :=
  ⟨⟨(withDbg (fun g => { g with gstop := some (0, 5) })).modPkg (fun g => { g with vendorDebug := true }), rqV, 14975, (0, 5), by decide +kernel⟩,
    ⟨withDie 0 (fun k => { k with ring := [⟨1, 1, 2, 3, 4, 5⟩, ⟨1, 1, 2, 3, 4, 6⟩] }), rqO, 0, 1, 28, by decide +kernel⟩,
    ⟨up, rqO, 0, by decide +kernel⟩,
    ⟨withDie 0 (fun k => { k with prof := [⟨1, 1, 2, 3, 4, 5, 6, [1, 2, 3, 4, 5, 6, 7, 8, 9, 10]⟩] }), rqO, 0, 0, 5, by decide +kernel⟩,
    ⟨withDie 0 (fun k => { k with prof := [⟨1, 1, 2, 3, 4, 5, 6, [1, 2, 3, 4, 5, 6, 7, 8, 9, 10]⟩] }), rqO, 0, by decide +kernel⟩,
    ⟨withDbg (fun g => { g with dumpHeld := some (5, true), dumpDir := [(1, 0, 2, 0, 16384)], dumpNext := 16384, dumpBytes := [(3, 9)] }), rqO, 16, (5, true), by decide +kernel⟩⟩

/-- States and operands that meet the hypotheses of each clause of DumpsComplete. -/
theorem test_hyps_DumpsComplete :
    (∃ (s : State) (rq : Req) (lock : Nat) (u : DumpUnit), s.admits (Instr.dump rq lock [u]) = true ∧ s.dumping = false ∧ (∀ (x : Nat × Bool), s.dbg.dumpHeld = some x → x.2 = false) ∧ s.unitStill u = true ∧ s.unitResets u = false ∧ imageSize u + 16 ≤ 8388608) ∧
    (∃ (s : State) (u : DumpUnit) (image : List Byte), s.dbg.dumpTodo = [u] ∧ s.dbg.dumpAuto = false ∧ s.running 3080 0 = true) ∧
    (∃ (s : State) (u : DumpUnit), s.dbg.dumpTodo = [u] ∧ s.dbg.dumpAuto = false ∧ s.running 3080 0 = true ∧ s.dbg.gstop ≠ none) ∧
    (∃ (s : State) (h : Hdr) (v : Hub) (u : DumpUnit) (l : List DumpUnit) (off : Nat) (bytes : List Byte), s.acting = some v ∧ s.newAt v h 195 = true ∧ s.dbg.dumpTodo = u :: l ∧ s.dumping = true ∧ off + bytes.length ≤ imageSize u) :=
  ⟨⟨(withDbg (fun g => { g with gstop := some (0, 5) })).modDie 0 (fun k => { k with stopLatch := true }), rqO, 1, unitOne, by decide +kernel⟩,
    ⟨(withDbg (fun g => { g with dumpTodo := [unitOne] })).modSh (fun h => { h with runs := [runOf 0x0C08 0] }), unitOne, [1, 0, 3], by decide +kernel⟩,
    ⟨(withDbg (fun g => { g with dumpTodo := [unitOne], gstop := some (0, 5) })).modSh (fun h => { h with runs := [runOf 0x0C08 0] }), unitOne, by decide +kernel⟩,
    ⟨(withDbg (fun g => { g with dumpTodo := [unitOne] })).modSh (fun h => { h with runs := [runOf 0x0C08 0] }), hIn, .a, unitOne, [], 5, [1, 0, 3], by decide +kernel⟩⟩

/-- States and operands that meet the hypotheses of each clause of RecorderCommandsComplete. -/
theorem test_hyps_RecorderCommandsComplete :
    (∃ (s : State) (hub : Hub) (r : Rec) (l : List Rec), (s.vat hub).writing = r :: l) ∧
    (∃ (s : State) (rq : Req) (i : Nat), s.admits (Instr.recRead rq 0 i 1) = true) ∧
    (∃ (s : State) (rq : Req), s.admits (Instr.recClear rq 0) = true ∧ s.vatA.mramWin = true ∧ s.vatB.mramWin = true) ∧
    (∃ (s : State) (v : Hub), s.acting = some v ∧ (s.vatA.mramWin = true ∨ s.vatB.mramWin = true)) :=
  ⟨⟨{ up with vatA := { up.vatA with writing := [rec1] } }, .a, rec1, [], by decide +kernel⟩,
    ⟨{ up with vatA := { up.vatA with roll := [(4, rec1)] } }, rqO, 4, by decide +kernel⟩,
    ⟨{ up with vatA := { up.vatA with mramWin := true, roll := [(4, rec1)] }, vatB := { up.vatB with mramWin := true } }, rqO, by decide +kernel⟩,
    ⟨{ up.modPkg (fun g => { g with hours := 9 }) with vatB := { up.vatB with mramWin := true } }, .a, by decide +kernel⟩⟩

/-- States and operands that meet the hypotheses of each clause of HeartbeatsComplete. -/
theorem test_hyps_HeartbeatsComplete :
    (∃ (s : State) (h : Hub), s.activeHub = some h) ∧
    (∃ (s : State) (h : Hdr) (d : Nat), isDie d = true ∧ (s.die d).inReset = false ∧ (s.die d).epoch ≤ h.epoch ∧ s.unseen d h 1 = true) ∧
    (∃ (s : State) (h : Hub) (sb : Hub), s.activeHub = some h ∧ s.standbyHub = some sb) ∧
    (∃ (s : State) (h : Hdr) (v : Hub) (r : Health), isDie h.src = true ∧ s.acting = some v ∧ s.newAt v h 2 = true) ∧
    (∃ (s : State) (sb : Hub), s.standbyHub = some sb ∧ s.sh.switching = false ∧ s.vatA.staging.length < 1024) ∧
    (∃ (s : State) (sb : Hub), s.standbyHub = some sb ∧ (s.vat sb).role = Role.syncing) :=
  ⟨⟨up, .a, by decide +kernel⟩,
    ⟨up, { hOut with epoch := 6 }, 97, by decide +kernel⟩,
    ⟨up, .a, .b, by decide +kernel⟩,
    ⟨up, { hIn with src := 97 }, .a, ⟨1, 0, 5, 6, 7⟩, by decide +kernel⟩,
    ⟨up, .b, by decide +kernel⟩,
    ⟨{ up with vatB := { up.vatB with role := .syncing } }, .b, by decide +kernel⟩⟩

/-- States and operands that meet the hypotheses of each clause of SwitchTriggersComplete. -/
theorem test_hyps_SwitchTriggersComplete :
    (∃ (s : State) (h : Hub), s.sh.gap = none ∧ s.canPromote h = true ∧ (s.vat (otherHub h)).role = Role.active) ∧
    (∃ (s : State) (h : Hub), s.activeHub = some h ∧ s.sh.gap = none) ∧
    (∃ (s : State) (h : Hub) (trigger : Nat) (src : Nat), s.activeHub = some h ∧ (trigger = 2 ∨ trigger = 3 ∨ trigger = 5) ∧ dieHub (sourceDie src) = some h ∧ s.sh.gap = none ∧ s.calm src = true ∧ (s.die (hubDie h)).inReset = false ∧ s.canPromote (otherHub h) = true) ∧
    (∃ (s : State) (h : Hdr) (g : Gap) (n : Nat), s.sh.gap = some g ∧ g.step = 1 ∧ s.unseen (hubDie g.newActive) h 3 = true) ∧
    (∃ (s : State) (h : Hdr) (g : Gap), s.sh.gap = some g ∧ g.step = 1 ∧ g.gated = false) ∧
    (∃ (s : State) (g : Gap), s.sh.gap = some g ∧ g.step = 1 ∧ g.gated = false) ∧
    (∃ (s : State) (n : Nat), s.sh.noStandby = some n ∧ s.pkg.oos = false ∧ s.pkg.powerPending = false ∧ (s.leaked (pkgSource 7)).count < (s.cfg 215).n) :=
  ⟨⟨up, .b, by decide +kernel⟩,
    ⟨up, .a, by decide +kernel⟩,
    ⟨up, .a, 2, hubSource .a 2, by decide +kernel⟩,
    ⟨withGap id, { hIn with src := 96 }, gapUp, 4, by decide +kernel⟩,
    ⟨withGap id, hIn, gapUp, by decide +kernel⟩,
    ⟨withGap id, gapUp, by decide +kernel⟩,
    ⟨{ withSh (fun h => { h with noStandby := some 5 }) with vatA := { up.vatA with role := .offline } }, 5, by decide +kernel⟩⟩

/-- States and operands that meet the hypotheses of each clause of DeposeAndAnnounceComplete. -/
theorem test_hyps_DeposeAndAnnounceComplete :
    (∃ (s : State) (h : Hdr) (d : Nat), isDie d = true ∧ (s.die d).inReset = false ∧ (s.die d).epoch < h.epoch ∧ s.unseen d h 4 = true) ∧
    (∃ (s : State) (h : Hdr) (d : Nat) (n : Nat), isDie d = true ∧ (s.die d).inReset = false ∧ (s.die d).epoch < h.epoch ∧ (s.die d).live = some n ∧ (s.die d).liveEpoch = (s.die d).epoch ∧ s.dieReel d ≤ n + 10000 ∧ s.unseen d h 4 = true) ∧
    (∃ (s : State) (h : Hdr) (v : Hub) (e : Nat), (s.vat v).role = Role.active ∧ (s.vat v).epoch < e) ∧
    (∃ (s : State) (h : Hdr) (d : Nat) (m : Nat × List Nat), isDie d = true ∧ isDie h.src = true ∧ (s.die d).inReset = false ∧ (s.die d).epoch ≤ h.epoch ∧ s.unseen d h 5 = true ∧ (s.die d).held = [m]) ∧
    (∃ (s : State) (h : Hdr) (g : Gap), isDie h.src = true ∧ s.sh.gap = some g ∧ g.step = 4 ∧ (¬(g.acks.all fun d => (insertNat h.src g.returned).contains d) = true)) ∧
    (∃ (s : State) (h : Hdr) (g : Gap), isDie h.src = true ∧ s.sh.gap = some g ∧ g.step = 4 ∧ (g.acks.all fun d => (insertNat h.src g.returned).contains d) = true ∧ (s.vat (otherHub g.newActive)).role ≠ Role.active ∧ s.sh.runs = [] ∧ g.held = [] ∧ (∀ (d : Nat), (s.die d).held = []) ∧ s.sh.heldRecs = [] ∧ s.noPkg 214 ∧ (s.vat (otherHub g.newActive)).outQ = [] ∧ (s.vat (otherHub g.newActive)).inQ = [] ∧ s.sh.dists = [] ∧ s.dbg.gstop = none ∧ (∀ e ∈ s.cores, e.2.hung = false) ∧ s.sh.mgmtLost.1 = 0 ∧ (∀ e ∈ s.sh.ctxs, e.2.pgroups = [])) ∧
    (∃ (s : State) (h : Hdr) (p : Nat), isDie h.src = true ∧ validCore p = true ∧ (s.cstate p = 2 ∨ s.cstate p = 5) ∧ (s.die (coreDie p)).inReset = false ∧ (s.die (coreDie p)).epoch ≤ h.epoch ∧ s.unseen (coreDie p) h 128 = true ∧ (s.die (coreDie p)).repliedTo h = none) ∧
    (∃ (s : State) (h : Hdr) (v : Hub) (f : Fwd) (w : Word), isDie h.src = true ∧ s.acting = some v ∧ s.newAt v h 129 = true ∧ isCompute h.src = false ∧ s.sh.fwds = [f] ∧ f.die = h.src ∧ f.write = false) :=
  ⟨⟨up, { hOut with epoch := 6 }, 96, by decide +kernel⟩,
    ⟨withDie 0 (fun k => { k with live := some 995000, liveEpoch := 5 }), { hOut with epoch := 6 }, 0, 995000, by decide +kernel⟩,
    ⟨up, hIn, .a, 6, by decide +kernel⟩,
    ⟨withDie 0 (fun k => { k with held := [(0x08, [1, 2])] }), { hOut with src := 97 }, 0, (0x08, [1, 2]), by decide +kernel⟩,
    ⟨withGap (fun g => { g with step := 4 }), hIn, { gapUp with step := 4 }, by decide +kernel⟩,
    ⟨{ withGap (fun g => { g with step := 4, returned := [1] }) with vatA := { up.vatA with role := .offline } }, hIn, { gapUp with step := 4, returned := [1] }, by decide +kernel, by decide +kernel, by decide +kernel, by decide +kernel, by decide +kernel, by decide +kernel, by decide +kernel, fun d => held_none _ (by decide +kernel) d, by decide +kernel, by decide +kernel, by decide +kernel, by decide +kernel, by decide +kernel, by decide +kernel, by decide +kernel, by decide +kernel, by decide +kernel⟩,
    ⟨up, hOut, 2, by decide +kernel⟩,
    ⟨withSh (fun h => { h with fwds := [⟨7, 97, false, 0⟩] }), { hIn with src := 97 }, .a, ⟨7, 97, false, 0⟩, 9#32, by decide +kernel⟩⟩

/-- States and operands that meet the hypotheses of each clause of MirrorAndAcksComplete. -/
theorem test_hyps_MirrorAndAcksComplete :
    (∃ (s : State) (h : Hdr) (sb : Hub) (n : Nat), s.standbyHub = some sb ∧ (s.die (hubDie sb)).inReset = false ∧ (s.die (hubDie sb)).epoch ≤ h.epoch ∧ s.unseen (hubDie sb) h 143 = true ∧ s.sh.runs = []) ∧
    (∃ (s : State) (sb : Hub) (item : Nat), s.standbyHub = some sb ∧ item < 7) ∧
    (∃ (s : State) (sb : Hub) (item : Nat), s.standbyHub = some sb ∧ item < 7 ∧ s.noPkg 164 ∧ s.noPkg 165 ∧ s.noPkg 169) ∧
    (∃ (s : State) (h : Hdr) (d : Nat) (w : Pend) (lo : Nat), isDie d = true ∧ isDie h.src = true ∧ s.felt.waiting = [w] ∧ w.t.src = d ∧ w.t.mode = 0 ∧ w.t.dst = h.src ∧ w.t.type ≠ 4 ∧ w.t.type ≠ 141 ∧ w.t.seq < 65536 ∧ s.sh.ctxs = []) ∧
    (∃ (s : State) (d : Nat) (w : Pend), isDie d = true ∧ s.felt.waiting = [w] ∧ w.t.src = d ∧ w.resends < resendLimit w.t.type) :=
  ⟨⟨up, hOut, .b, 9, by decide +kernel⟩,
    ⟨up, .b, 3, by decide +kernel⟩,
    ⟨{ up with vatB := { up.vatB with selfFailHours := some 0 } }, .b, 6, by decide +kernel⟩,
    ⟨{ up.modFelt (fun f => { f with waiting := [pendUp] }) with sh := {} }, { hOut with src := 96 }, 0, pendUp, 5, by decide +kernel⟩,
    ⟨up.modFelt (fun f => { f with waiting := [pendUp] }), 0, pendUp, by decide +kernel⟩⟩

/-- States and operands that meet the hypotheses of each clause of VatCommandsComplete. -/
theorem test_hyps_VatCommandsComplete :
    (∃ (s : State) (rq : Req) (h : Hub), s.admits (Instr.vatSwitch rq) = true ∧ s.activeHub = some h ∧ s.canPromote (otherHub h) = true ∧ s.sh.gap = none) ∧
    (∃ (s : State) (rq : Req) (h : Hub), s.admits (Instr.vatStandbyRetry rq) = true ∧ s.activeHub = some h ∧ (s.vat (otherHub h)).heldOffline = true ∧ s.lastEpoch < 4294967295) ∧
    (∃ (s : State) (rq : Req) (l : List Byte), s.admits (Instr.fwBegin rq l) = true ∧ s.pkg.flashWin = true) ∧
    (∃ (s : State) (rq : Req) (off : Nat) (l : List Byte) (h : FwHeader), s.admits (Instr.fwWrite rq off l) = true ∧ s.pkg.fwWriting = some h ∧ s.pkg.flashWin = true) ∧
    (∃ (s : State) (rq : Req) (h : FwHeader), s.admits (Instr.fwCommit rq) = true ∧ s.pkg.fwWriting = some h ∧ s.pkg.fwQueue = []) :=
  ⟨⟨up, rqO, .a, by decide +kernel⟩,
    ⟨{ up with vatB := { up.vatB with heldOffline := true, role := .offline } }, rqO, .a, by decide +kernel⟩,
    ⟨up.modPkg (fun g => { g with flashWin := true }), rqO, List.replicate 256 0, by decide +kernel⟩,
    ⟨up.modPkg (fun g => { g with flashWin := true, fwWriting := some fwH }), rqO, 7, [9, 8], fwH, by decide +kernel⟩,
    ⟨up.modPkg (fun g => { g with fwWriting := some fwH }), rqO, fwH, by decide +kernel⟩⟩

/-- States and operands that meet the hypotheses of each clause of BringupStartsComplete. -/
theorem test_hyps_BringupStartsComplete :
    (∃ (s : State), s.pkg.boot = Boot.held) ∧
    (∃ (s : State), s.pkg.boot ≠ Boot.held) ∧
    (∃ (s : State) (hub : Hub) (a : Bool) (b : Bool) (n : Nat), s.pkg.boot = Boot.step 2 ∧ (s.vat hub).bist = none) ∧
    (∃ (s : State) (d : Nat) (c : Bool) (n : Nat), isDie d = true ∧ (s.die d).bist = none ∧ (s.die d).inReset = false) ∧
    (∃ (s : State), s.vatB.bist = some true ∧ s.vatB.image = none ∧ s.vatB.loadStart = none) ∧
    (∃ (s : State) (hub : Hub) (n : Nat) (l : List Nat) (h : FwHeader), (s.vat hub).loadStart = some n ∧ l = bytesAt s.pkg.flashMem 0 256 ∧ h = fwHeader l ∧ s.pkg.boot = Boot.step 2) ∧
    (∃ (s : State) (hub : Hub) (n : Nat) (l : List Nat) (h : FwHeader) (v : Hub), (s.vat hub).loadStart = some n ∧ l = bytesAt s.pkg.flashMem 0 256 ∧ h = fwHeader l ∧ s.pkg.boot = Boot.ready ∧ s.activeHub = some v ∧ v ≠ hub ∧ (s.vat hub).heldOffline = false) :=
  ⟨⟨State.reset, by decide +kernel⟩,
    ⟨{ up with vatA := { up.vatA with mramWin := true } }, by decide +kernel⟩,
    ⟨{ State.reset with pkg := { boot := .step 2 } }, .a, true, true, 5, by decide +kernel⟩,
    ⟨{ State.reset with pkg := { boot := .step 2 } }, 99, false, 5, by decide +kernel⟩,
    ⟨{ State.reset with vatB := { bist := some true } }, by decide +kernel⟩,
    ⟨{ State.reset with pkg := { boot := .step 2, vendorKeys := [9] }, vatA := { bist := some true, loadStart := some 0 } }, .a, 0, bytesAt [] 0 256, fwHeader (bytesAt [] 0 256), by decide +kernel⟩,
    ⟨{ up with vatA := { up.vatA with fwSerial := 1 }, vatB := { bist := some true, loadStart := some 5 } }, .b, 5, bytesAt [] 0 256, fwHeader (bytesAt [] 0 256), .a, by decide +kernel⟩⟩

/-- States and operands that meet the hypotheses of each clause of BringupEndsComplete. -/
theorem test_hyps_BringupEndsComplete :
    (∃ (s : State), s.pkg.boot = Boot.step 4 ∧ s.noPkg 209 ∧ s.felt.broken = [] ∧ (∀ d < 100, s.copyDiffers d = false) ∧ (s.pkg.lifecycle = 1 ∨ s.pkg.lifecycle = 3) ∧ s.pkg.oos = false) ∧
    (∃ (s : State), s.pkg.boot = Boot.step 4 ∧ s.noPkg 209 ∧ s.felt.broken = [] ∧ (∀ d < 100, s.copyDiffers d = false) ∧ s.pkg.lifecycle = 0) ∧
    (∃ (s : State), s.pkg.boot = Boot.step 4 ∧ s.noPkg 209 ∧ s.felt.broken = [] ∧ s.pkg.alignRepeated = false ∧ (∃ d < 100, s.copyDiffers d = true)) ∧
    (∃ (s : State), s.pkg.boot = Boot.step 6) ∧
    (∃ (s : State) (h : Hub), s.pkg.boot = Boot.step 6 ∧ s.activeHub = some h ∧ s.testsEnded = true) ∧
    (∃ (s : State) (d : Nat) (part : Nat), isCompute d = true ∧ part < 32) :=
  ⟨⟨up.modPkg (fun g => { g with boot := .step 4, lifecycle := 1 }), by decide +kernel⟩,
    ⟨up.modPkg (fun g => { g with boot := .step 4, lifecycle := 0 }), by decide +kernel⟩,
    ⟨{ up.modPkg (fun g => { g with boot := .step 4 }) with dies := [(0, dieUp), (1, { dieOne with reelAdj := 70 })] }, by decide +kernel⟩,
    ⟨up.modPkg (fun g => { g with boot := .step 6 }), by decide +kernel⟩,
    ⟨{ up.modPkg (fun g => { g with boot := .step 6 }) with dies := [(0, { dieUp with phys := [], home := [] })] }, .a, by decide +kernel⟩,
    ⟨up, 95, 31, by decide +kernel⟩⟩

/-- States and operands that meet the hypotheses of each clause of LinkEventsComplete. -/
theorem test_hyps_LinkEventsComplete :
    (∃ (s : State) (d : Nat) (port : Nat) (flits : List Nat) (f : FrameIn), isDie d = true ∧ port < 4 ∧ (∀ x ∈ flits, x < 2 ^ 40) ∧ s.pkg.boot ≠ Boot.held ∧ readFrame flits = some f ∧ (s.port (portKey d port)).queue = [] ∧ (s.port (portKey d port)).ctl = [] ∧ f.mode = 0 ∧ f.dst = d) ∧
    (∃ (s : State) (d : Nat) (port : Nat) (flits : List Nat) (f : FrameIn) (o : Nat), isDie d = true ∧ port < 4 ∧ (∀ x ∈ flits, x < 2 ^ 40) ∧ s.pkg.boot ≠ Boot.held ∧ readFrame flits = some f ∧ (s.port (portKey d port)).queue = [] ∧ (s.port (portKey d port)).ctl = [] ∧ o = portKey d (port / 2 * 2 + (port + 1) % 2) ∧ f.mode = 0 ∧ f.dst ≠ d ∧ 2 ≤ f.ttl ∧ (s.port o).down = false ∧ (s.port o).queue = [] ∧ (s.port o).ctl = [] ∧ flits.length ≤ (s.port o).credit f.cls) ∧
    (∃ (s : State) (d : Nat) (port : Nat) (flits : List Nat), isDie d = true ∧ port < 4 ∧ (∀ x ∈ flits, x < 2 ^ 40) ∧ s.pkg.boot ≠ Boot.held ∧ readFrame flits = none ∧ s.calm (dieSource d (10 + port / 2)) = true ∧ (s.die d).inReset = false ∧ (s.port (portKey d port)).errors = []) ∧
    (∃ (s : State) (d : Nat) (port : Nat) (a : Nat) (b : Nat) (c : Nat), isDie d = true ∧ port < 4 ∧ s.calm (dieSource d (10 + port / 2)) = true ∧ (s.port (portKey d port)).errors = [a, b, c] ∧ s.reel ≤ c + 100000 ∧ (s.port (portKey d port)).down = false) ∧
    (∃ (s : State) (d : Nat) (port : Nat) (n : Nat) (a : Nat) (b : Nat) (c : Nat) (e : Nat), isDie d = true ∧ port < 4 ∧ (s.port (portKey d port)).credits = (a, b, c, e) ∧ (s.port (portKey d port)).queue = []) ∧
    (∃ (s : State) (d : Nat) (port : Nat) (v : Nat), isDie d = true ∧ port < 4 ∧ ((s.port (portKey d port)).down = true ∨ (s.port (portKey d port)).queue = [])) ∧
    (∃ (s : State) (d : Nat) (port : Nat) (v : Nat), isDie d = true ∧ port < 4 ∧ ((s.port (portKey d port)).down = true ∨ (s.port (portKey d port)).queue = [])) ∧
    (∃ (s : State) (d : Nat) (port : Nat), isDie d = true ∧ port < 4 ∧ (s.port (portKey d port)).down = true) ∧
    (∃ (s : State) (d : Nat) (port : Nat) (v : Nat) (c : Nat), isDie d = true ∧ port < 4 ∧ port % 2 = 0 ∧ (s.port (portKey d port)).down = true ∧ (s.port (portKey d port)).probe = some v ∧ (s.port (portKey d port)).cleanSince = some c ∧ 1000000 ≤ s.reel - c ∧ tget none s.felt.joins (linkOf d port) = none) ∧
    (∃ (s : State) (d : Nat) (port : Nat), isDie d = true ∧ port < 4 ∧ (s.port (portKey d port)).down = false) ∧
    (∃ (s : State) (d : Nat) (port : Nat), isDie d = true ∧ port < 4 ∧ (s.port (portKey d port)).down = false) ∧
    (∃ (s : State) (d : Nat) (port : Nat), isDie d = true ∧ port < 4 ∧ (s.port (portKey d port)).down = false ∧ s.calm (dieSource d 12) = true ∧ (s.die d).inReset = false) ∧
    (∃ (s : State) (d : Nat) (port : Nat), isDie d = true ∧ port < 4 ∧ (s.port (portKey d port)).down = false) ∧
    (∃ (s : State) (d : Nat) (port : Nat) (n : Nat) (e : Nat), isDie d = true ∧ port < 4 ∧ (s.port (portKey d port)).down = false ∧ s.pkg.ready = false ∧ (n ≠ 4096 ∨ e ≠ 0) ∧ s.calm (dieSource d (10 + port / 2)) = true ∧ (s.die d).inReset = false) ∧
    (∃ (s : State) (d : Nat) (port : Nat) (flits : List Nat), isDie d = true ∧ port < 4 ∧ (∀ x ∈ flits, x < 2 ^ 40) ∧ s.pkg.boot = Boot.held) :=
  ⟨⟨up, 0, 1, flitsUp 0, frameUp 0, by decide +kernel⟩,
    ⟨up, 0, 1, flitsUp 1, frameUp 1, 0, by decide +kernel⟩,
    ⟨up, 0, 1, [5], by decide +kernel⟩,
    ⟨up.modFelt (fun f => { f with ports := [(1, { errors := [999000, 998000, 990000] })] }), 0, 1, 999000, 998000, 990000, by decide +kernel⟩,
    ⟨up.modFelt (fun f => { f with ports := [(3, { credits := (1, 2, 3, 4) })] }), 0, 3, 2 ^ 18 * 60, 1, 2, 3, 4, by decide +kernel⟩,
    ⟨up, 99, 3, 77, by decide +kernel⟩,
    ⟨up, 99, 3, 77, by decide +kernel⟩,
    ⟨up.modFelt (fun f => { f with ports := [(3, { down := true })] }), 0, 3, by decide +kernel⟩,
    ⟨up.modFelt (fun f => { f with ports := [(2, { down := true, probe := some 9, cleanSince := some 0 })] }), 0, 2, 9, 0, by decide +kernel⟩,
    ⟨up, 0, 3, by decide +kernel⟩,
    ⟨up, 0, 3, by decide +kernel⟩,
    ⟨up, 0, 3, by decide +kernel⟩,
    ⟨up, 0, 3, by decide +kernel⟩,
    ⟨up.modPkg (fun g => { g with ready := false }), 0, 3, 4096, 1, by decide +kernel⟩,
    ⟨State.reset, 0, 1, [5], by decide +kernel⟩⟩

/-- States and operands that meet the hypotheses of each clause of RingEventsComplete. -/
theorem test_hyps_RingEventsComplete :
    (∃ (s : State) (h : Hdr) (d : Nat) (ring : Nat) (link : Nat), isDie d = true ∧ ring < 2 ∧ link < 100 ∧ s.unseen d h 17 = true) ∧
    (∃ (s : State) (h : Hdr) (d : Nat) (ring : Nat) (link : Nat) (n : Nat), isDie d = true ∧ ring < 2 ∧ link < 100 ∧ s.unseen d h 18 = true ∧ ring * 128 + link ∈ s.felt.broken) ∧
    (∃ (s : State) (d : Nat) (ring : Nat) (l : Nat) (n : Nat), isDie d = true ∧ ring < 2 ∧ s.felt.joins = [(l, some n)] ∧ l / 128 = ring) ∧
    (∃ (s : State) (d : Nat), isDie d = true ∧ s.pkg.ready = true) ∧
    (∃ (s : State) (d : Nat), isDie d = true ∧ s.pkg.ready = false) ∧
    (∃ (s : State) (d : Nat), isDie d = true ∧ s.pkg.ready = false) ∧
    (∃ (s : State) (d : Nat) (v : Hub), isDie d = true ∧ s.pkg.ready = true ∧ s.acting = some v ∧ s.pkg.oos = false ∧ s.pkg.powerPending = false ∧ (s.leaked (pkgSource 7)).count < (s.cfg 215).n) ∧
    (∃ (s : State) (d : Nat) (src : Nat) (cls : Nat), isDie d = true ∧ isDie src = true) ∧
    (∃ (s : State) (h : Hdr) (d : Nat) (tag : Nat) (gen : Option Nat), isDie d = true ∧ (s.die d).inReset = false ∧ (s.die d).epoch ≤ h.epoch ∧ s.unseen d h 16 = true) ∧
    (∃ (s : State) (d : Nat) (src : Nat) (seq : Nat) (tag : Nat) (gen : Option Nat), isDie d = true ∧ (s.die d).barriers = [(src, seq, tag, gen)]) :=
  ⟨⟨up, hIn, 99, 1, 99, by decide +kernel⟩,
    ⟨up.modFelt (fun f => { f with broken := [227] }), hIn, 99, 1, 99, 9, by decide +kernel⟩,
    ⟨up.modFelt (fun f => { f with broken := [200, 227], joins := [(227, some 5)] }), 99, 1, 227, 5, by decide +kernel⟩,
    ⟨up, 0, by decide +kernel⟩,
    ⟨up.modPkg (fun g => { g with ready := false }), 0, by decide +kernel⟩,
    ⟨up.modPkg (fun g => { g with ready := false }), 0, by decide +kernel⟩,
    ⟨up, 0, .a, by decide +kernel⟩,
    ⟨up, 0, 5, 1, by decide +kernel⟩,
    ⟨up, hOut, 0, 4097, some 5, by decide +kernel⟩,
    ⟨withDie 0 (fun k => { k with barriers := [(96, 3, 4097, none)] }), 0, 96, 3, 4097, none, by decide +kernel⟩⟩

/-- States and operands that meet the hypotheses of each clause of BridgeAndQualificationComplete. -/
theorem test_hyps_BridgeAndQualificationComplete :
    (∃ (s : State) (h : Hdr) (v : Hub) (m : List Nat), s.acting = some v ∧ s.newAt v h 146 = true ∧ (s.vat v).linkUp = true) ∧
    (∃ (s : State) (h : Hdr) (v : Hub) (m : List Nat), s.acting = some v ∧ s.newAt v h 146 = true ∧ (s.vat v).linkUp = false ∧ (s.vat v).outQ.length < 64) ∧
    (∃ (s : State) (h : Hdr) (v : Hub) (m : List Nat), s.acting = some v ∧ s.newAt v h 146 = true ∧ (s.vat v).linkUp = false ∧ 64 ≤ (s.vat v).outQ.length) ∧
    (∃ (s : State) (hub : Hub) (i : Bool) (m : List Nat), (s.vat hub).inQ.length < 64) ∧
    (∃ (s : State) (hub : Hub) (m : List Nat) (q : List (List Nat)), (s.vat hub).inQ = m :: q) ∧
    (∃ (s : State) (rq : Req), s.admits (Instr.linkQual rq) = true ∧ s.running 2304 0 = false ∧ s.pkg.qualifying = false) ∧
    (∃ (s : State) (l : List LaneCount) (r : Run), List.filter (fun x => x.opcode == 2304 && x.ctx == 0) s.sh.runs = [r] ∧ (List.map (fun x => x.lane) l).Nodup) ∧
    (∃ (s : State) (rq : Req) (first : Nat) (n : Nat), s.admits (Instr.linkQualRead rq first n) = true ∧ 1 ≤ n ∧ n ≤ 15) ∧
    (∃ (s : State) (rq : Req), s.admits (Instr.feltStatus rq) = true) ∧
    (∃ (s : State) (c : LaneCount) (e : Nat), (c.lane / 512 % 128 = 98 ∨ c.lane / 512 % 128 = 99) ∧ e = engineSource (c.lane / 512 % 128) (c.lane / 32 % 16) 0 ∧ c.bits * 24 < c.errors * 100000 ∧ s.calm e = true ∧ (s.die (c.lane / 512 % 128)).inReset = false) :=
  ⟨⟨up, hOut, .a, [1, 2], by decide +kernel⟩,
    ⟨{ up with vatA := { up.vatA with linkUp := false } }, hOut, .a, [1, 2], by decide +kernel⟩,
    ⟨{ up with vatA := { up.vatA with linkUp := false, outQ := List.replicate 64 [] } }, hOut, .a, [1, 2], by decide +kernel⟩,
    ⟨up, .b, true, [1, 2], by decide +kernel⟩,
    ⟨{ up with vatB := { up.vatB with inQ := [[1, 2], [3]] } }, .b, [1, 2], [[3]], by decide +kernel⟩,
    ⟨up, rqO, by decide +kernel⟩,
    ⟨withSh (fun h => { h with runs := [runOf 0x0900 0] }), [⟨512, 1000, 1, 5, 6, 0⟩, ⟨513, 1000, 0, 5, 6, 0⟩], runOf 0x0900 0, by decide +kernel⟩,
    ⟨withSh (fun h => { h with lanes := [(3, some ⟨3, 1000, 1, 5, 6, 0⟩), (7, some ⟨7, 1000, 1, 5, 6, 0⟩)] }), rqO, 4, 15, by decide +kernel⟩,
    ⟨up, rqO, by decide +kernel⟩,
    ⟨up, ⟨98 * 512 + 33, 1000, 1, 5, 6, 0⟩, engineSource 98 1 0, by decide +kernel⟩⟩

/-- States and operands that meet the hypotheses of each clause of AlignmentCompletes. -/
theorem test_hyps_AlignmentCompletes :
    (∃ (s : State) (h : Hdr) (d : Nat) (v : Nat), isDie d = true ∧ s.unseen d h 130 = true) ∧
    (∃ (s : State) (d : Nat) (n : Nat) (port : Nat) (a : Nat) (b : Nat) (c : Nat), isDie d = true ∧ isDie n = true ∧ port < 4 ∧ hopValid a b c = true) ∧
    (∃ (s : State) (d : Nat) (n : Nat) (port : Nat) (a : Nat) (b : Nat) (c : Nat), isDie d = true ∧ isDie n = true ∧ port < 4 ∧ hopValid a b c = false ∧ (s.port (portKey d port)).tries < 7) ∧
    (∃ (s : State) (d : Nat) (n : Nat) (port : Nat) (a : Nat) (b : Nat) (c : Nat), isDie d = true ∧ isDie n = true ∧ port < 4 ∧ hopValid a b c = false ∧ (s.port (portKey d port)).tries = 7) ∧
    (∃ (s : State) (h : Hdr) (d : Nat) (v : Nat) (half : Nat) (e : Nat), isDie d = true ∧ isDie h.src = true ∧ s.unseen d h 132 = true) ∧
    (∃ (s : State) (d : Nat), isDie d = true) ∧
    (∃ (s : State) (h : Hdr) (d : Nat) (n : Nat) (e : Nat), isDie d = true ∧ s.unseen d h 134 = true ∧ (s.die d).reelEdge = some e ∧ (s.die d).reelFree = none) ∧
    (∃ (s : State) (h : Hdr) (d : Nat) (n : Nat) (e : Nat), isDie d = true ∧ s.unseen d h 134 = true ∧ (s.die d).reelEdge = some e ∧ (s.die d).reelFree = none ∧ s.calm (dieSource d 1) = true ∧ (s.die d).inReset = false ∧ e ≠ n) ∧
    (∃ (s : State) (d : Nat) (n : Nat), isDie d = true ∧ (s.die d).reelHeld = some n) ∧
    (∃ (s : State) (d : Nat), isDie d = true ∧ s.calm (dieSource d 2) = true ∧ (s.die d).inReset = false) ∧
    (∃ (s : State) (d : Nat), isDie d = true ∧ (s.die d).reelOn = true ∧ s.dieReel d ≤ s.reel) ∧
    (∃ (s : State), bit (s.cfg 208).each 1 = false ∧ bit (s.cfg 208).thresh 1 = false) :=
  ⟨⟨up, hIn, 98, 12, by decide +kernel⟩,
    ⟨up, 0, 1, 3, 900, 902, 904, by decide +kernel⟩,
    ⟨up.modFelt (fun f => { f with ports := [(1, { tries := 6 })] }), 0, 1, 1, 900, 902, 905, by decide +kernel⟩,
    ⟨up.modFelt (fun f => { f with ports := [(1, { tries := 7 })] }), 0, 1, 1, 900, 902, 905, by decide +kernel⟩,
    ⟨withDie 1 (fun k => { k with unaligned := true }), hIn, 1, 1000, 50, 7, by decide +kernel⟩,
    ⟨up, 0, by decide +kernel⟩,
    ⟨withDie 0 (fun k => { k with reelEdge := some 999990 }), hIn, 0, 999990, 999990, by decide +kernel⟩,
    ⟨withDie 0 (fun k => { k with reelEdge := some 999990 }), hIn, 0, 1000010, 999990, by decide +kernel⟩,
    ⟨withDie 0 (fun k => { k with reelHeld := some 5, unaligned := true }), 0, 5, by decide +kernel⟩,
    ⟨up, 0, by decide +kernel⟩,
    ⟨up, 0, by decide +kernel⟩,
    ⟨up, by decide +kernel⟩⟩

/-- States and operands that meet the hypotheses of each clause of LaunchAndRelaxComplete. -/
theorem test_hyps_LaunchAndRelaxComplete :
    (∃ (s : State) (rq : Req) (n : Nat), s.admits (Instr.launchAt rq n) = true ∧ s.pkg.ready = true ∧ (s.ctx rq.ctx).plan ≠ none ∧ (s.ctx rq.ctx).state ≠ 3 ∧ (s.ctx rq.ctx).restoring = none ∧ (s.ctx rq.ctx).launch = none ∧ n ≤ s.now + 60000000000) ∧
    (∃ (s : State) (h : Hdr) (d : Nat) (c : Nat) (n : Nat), isDie d = true ∧ c < 4096 ∧ (s.die d).inReset = false ∧ (s.die d).epoch ≤ h.epoch ∧ s.unseen d h 7 = true ∧ d ∈ s.ctxDies c ∧ s.tagOf c ∉ (s.die d).revoked ∧ s.dieReel d < n) ∧
    (∃ (s : State) (d : Nat) (c : Nat) (k : Nat), isDie d = true ∧ c < 4096 ∧ tget none (s.die d).arms c = some k) ∧
    (∃ (s : State) (region : Nat) (i : Machine.Interval), tget none s.sh.intervals region = some i) ∧
    (∃ (s : State) (rq : Req) (part : Nat) (e : Nat), s.admits (Instr.relaxSet rq part e) = true ∧ e ≤ 1) ∧
    (∃ (s : State) (rq : Req) (part : Nat), s.admits (Instr.relaxRead rq part 1) = true) :=
  ⟨⟨withCtx (fun x => { x with state := 1 }), rqT, 60001000000, by decide +kernel⟩,
    ⟨up, hOut, 0, 1, 1000001, by decide +kernel⟩,
    ⟨(withDie 0 (fun k => { k with arms := [(1, some 5)] })).modCtx 1 (fun x => { x with state := 1 }), 0, 1, 5, by decide +kernel⟩,
    ⟨withSh (fun h => { h with intervals := [(3, some ⟨1, 5, 6, 0, 0, 0, 0, [(4, 5)], 1, false⟩)] }), 3, ⟨1, 5, 6, 0, 0, 0, 0, [(4, 5)], 1, false⟩, by decide +kernel⟩,
    ⟨up, rqO, 31, 1, by decide +kernel⟩,
    ⟨up.modPkg (fun g => { g with relaxSum := [(31, 9)] }), rqO, 31, by decide +kernel⟩⟩

/-- States and operands that meet the hypotheses of each clause of CalenderSamplesComplete. -/
theorem test_hyps_CalenderSamplesComplete :
    (∃ (s : State) (d : Nat) (n : Nat) (raw : Nat), isDie d = true ∧ n < sensorCount d ∧ (s.die d).inReset = false ∧ s.isBeyond d n (s.reading d n raw) = false) ∧
    (∃ (s : State) (d : Nat) (n : Nat) (raw : Nat), isDie d = true ∧ n < sensorCount d ∧ (s.die d).inReset = false ∧ s.isBeyond d n (s.reading d n raw) = true ∧ isCompute d = true ∧ (s.sensor d n).beyond = false ∧ bit s.pkg.voidReasons 4 = true) ∧
    (∃ (s : State) (d : Nat) (m : Nat) (raw : Nat) (v : Nat) (nominal : Nat), isDie d = true ∧ m < 4 ∧ (s.die d).inReset = false ∧ v = (if (s.die d).cal.fcalOk = true then Config.voltReading (raw % 65536) (tget 0 s.pkg.vgain (d * 4 + m)) else raw) % 65536 ∧ (if v < nominal then nominal - v else v - nominal) * 1000 ≤ nominal * s.pkg.vmonTol) ∧
    (∃ (s : State) (d : Nat) (m : Nat) (raw : Nat) (v : Nat) (nominal : Nat), isDie d = true ∧ m < 4 ∧ (s.die d).inReset = false ∧ v = (if (s.die d).cal.fcalOk = true then Config.voltReading (raw % 65536) (tget 0 s.pkg.vgain (d * 4 + m)) else raw) % 65536 ∧ nominal * s.pkg.vmonTol < (if v < nominal then nominal - v else v - nominal) * 1000 ∧ isCompute d = true) ∧
    (∃ (s : State) (d : Nat) (m : Nat) (raw : Nat) (v : Nat), isDie d = true ∧ m < paceCount d ∧ (s.die d).inReset = false ∧ v = (if (s.die d).cal.fcalOk = true then Config.paceReading (raw % 65536) (tget 0 s.pkg.pscale (d * 4 + m)) else raw) % 65536 ∧ s.pkg.paceMin ≤ v) ∧
    (∃ (s : State) (d : Nat) (m : Nat) (raw : Nat) (v : Nat), isDie d = true ∧ m < paceCount d ∧ (s.die d).inReset = false ∧ v = (if (s.die d).cal.fcalOk = true then Config.paceReading (raw % 65536) (tget 0 s.pkg.pscale (d * 4 + m)) else raw) % 65536 ∧ v < s.pkg.paceMin) ∧
    (∃ (s : State) (d : Nat) (n : Nat) (a : Int) (b : Int), isDie d = true ∧ n < sensorCount d ∧ (s.die d).inReset = false ∧ (a - b).natAbs ≤ 24 ∧ (s.sensor d n).failed = true ∧ (s.die d).cal.fcalOk = true ∧ (s.sensor d n).passes = 99) ∧
    (∃ (s : State) (d : Nat) (n : Nat) (a : Int) (b : Int), isDie d = true ∧ n < sensorCount d ∧ (s.die d).inReset = false ∧ 24 < (a - b).natAbs ∧ (s.sensor d n).subst = false ∧ bit s.pkg.voidReasons 4 = true) ∧
    (∃ (s : State) (d : Nat) (item : Nat) (i : Nat) (m : Int) (l : Int) (sig : Bool), isDie d = true ∧ item ≤ 5 ∧ (s.die d).inReset = false ∧ s.dbg.gstop = none ∧ (item = 5 → s.intrusive = true) ∧ s.bistPasses d item i m l sig = true) ∧
    (∃ (s : State) (d : Nat) (item : Nat) (i : Nat) (m : Int) (l : Int) (sig : Bool), isDie d = true ∧ item ≤ 5 ∧ (s.die d).inReset = false ∧ s.dbg.gstop = none ∧ (item = 5 → s.intrusive = true) ∧ s.bistPasses d item i m l sig = false ∧ s.calm (bistSource d item i) = true) :=
  ⟨⟨up, 0, 15, 400, by decide +kernel⟩,
    ⟨up.modPkg (fun g => { g with voidReasons := 16, offset := [(15, 900)] }), 0, 15, 4000, by decide +kernel⟩,
    ⟨withDie 0 (fun k => { k with cal := { fcalOk := false } }), 0, 3, 780, 780, 750, by decide +kernel⟩,
    ⟨withDie 0 (fun k => { k with cal := { fcalOk := false } }), 0, 3, 790, 790, 750, by decide +kernel⟩,
    ⟨withDie 0 (fun k => { k with cal := { fcalOk := false } }), 0, 3, 900, 900, by decide +kernel⟩,
    ⟨withDie 0 (fun k => { k with cal := { fcalOk := false } }), 0, 3, 849, 849, by decide +kernel⟩,
    ⟨withDie 0 (fun k => { k with cal := { fcalOk := true, temps := [(15, { failed := true, subst := true, passes := 99 })] } }), 0, 15, 400, 424, by decide +kernel⟩,
    ⟨up.modPkg (fun g => { g with voidReasons := 16 }), 0, 15, 400, 425, by decide +kernel⟩,
    ⟨up, 0, 3, 0, 1000, 1005, true, by decide +kernel⟩,
    ⟨up, 98, 3, 0, 1000, 1006, true, by decide +kernel⟩⟩

/-- States and operands that meet the hypotheses of each clause of CalenderCommandsComplete. -/
theorem test_hyps_CalenderCommandsComplete :
    (∃ (s : State) (rq : Req) (scope : Nat) (v : Int), v ≠ 0 ∧ s.admits (Instr.calSet rq 0 scope v) = true ∧ -64 ≤ v ∧ v ≤ 64) ∧
    (∃ (s : State) (rq : Req) (scope : Nat) (v : Int), v ≠ 0 ∧ s.admits (Instr.calSet rq 1 scope v) = true ∧ (calRange 1 scope).1 ≤ v ∧ v ≤ (calRange 1 scope).2.1) ∧
    (∃ (s : State) (rq : Req) (scope : Nat) (v : Int), v ≠ 0 ∧ s.admits (Instr.calSet rq 2 scope v) = true ∧ -10 ≤ v ∧ v ≤ 20) ∧
    (∃ (s : State) (rq : Req) (scope : Nat) (v : Int), v ≠ 0 ∧ s.admits (Instr.calSet rq 3 scope v) = true ∧ 5 ≤ v ∧ v ≤ 30) ∧
    (∃ (s : State) (rq : Req) (scope : Nat) (v : Int), v ≠ 0 ∧ s.admits (Instr.calSet rq 4 scope v) = true ∧ 20 ≤ v ∧ v ≤ 60) ∧
    (∃ (s : State) (rq : Req) (scope : Nat) (v : Int), v ≠ 0 ∧ s.admits (Instr.calSet rq 5 scope v) = true ∧ 850 ≤ v ∧ v ≤ 1000) ∧
    (∃ (s : State) (rq : Req) (d : Nat) (n : Nat), s.admits (Instr.sensorSubst rq d n) = true ∧ (s.sensor d n).failed = true) ∧
    (∃ (s : State) (rq : Req) (lane : Nat) (b : Nat), s.admits (Instr.analogLoopback rq lane b 0) = true ∧ s.laneUsed lane = false ∧ (s.die (lane / 512)).inReset = false ∧ s.obeys (lane / 512) = true) ∧
    (∃ (s : State) (rq : Req) (d : Nat), s.admits (Instr.sensorRead rq d) = true ∧ (s.die d).inReset = false ∧ s.obeys d = true) :=
  ⟨⟨up, rqO, 1591, -64, by decide +kernel⟩,
    ⟨up, rqO, 2, 85, by decide +kernel⟩,
    ⟨up, rqO, 1, 20, by decide +kernel⟩,
    ⟨up, rqO, 0, 30, by decide +kernel⟩,
    ⟨up, rqO, 0, 20, by decide +kernel⟩,
    ⟨up, rqO, 0, 1000, by decide +kernel⟩,
    ⟨withDie 0 (fun k => { k with cal := { temps := [(14, { sampled := true, temp := 400 }), (15, { failed := true })] } }), rqO, 0, 15, by decide +kernel⟩,
    ⟨withSh (fun h => { h with ctxs := [] }), rqO, 98 * 512, 1000, by decide +kernel⟩,
    ⟨up, rqO, 0, by decide +kernel⟩⟩

/-- States and operands that meet the hypotheses of each clause of MisalignedAccessHasNoEffect. -/
theorem test_hyps_MisalignedAccessHasNoEffect :
    ∃ (s : State) (a : Access) (v : Word), placeOf a.addr ≠ Place.outside ∧ (a.size ≠ 4 ∨ a.addr % 4 ≠ 0) :=
  ⟨up, ⟨0xE0000002, 4, .operator, none⟩, 3#32, by decide +kernel⟩

/-- States and operands that meet the hypotheses of each clause of ReelCountersLatch. -/
theorem test_hyps_ReelCountersLatch :
    (∃ (s : State) (h : Hub) (pr : Priv) (tag : Option Nat), s.served = true) ∧
    (∃ (s : State) (d : Nat) (pr : Priv) (tag : Option Nat), s.served = true ∧ isDie d = true ∧ (s.die d).inReset = false) :=
  ⟨⟨up, .a, .none, none, by decide +kernel⟩,
    ⟨up, 99, .none, none, by decide +kernel⟩⟩

/-- States and operands that meet the hypotheses of each clause of LockingWriteStoresFirst. -/
theorem test_hyps_LockingWriteStoresFirst :
    (∃ (s : State) (p : Nat) (pr : Priv) (tag : Option Nat) (v : Word), s.served = true ∧ validCore p = true ∧ (s.die (coreDie p)).inReset = false ∧ s.cstate p < 4 ∧ s.tapMeets p Priv.operator pr tag = true ∧ (s.core p).lock = false ∧ bit (BitVec.toNat v) 31 = true ∧ bit (s.cfg 209).each 1 = false ∧ bit (s.cfg 209).thresh 1 = false) ∧
    (∃ (s : State) (p : Nat) (pr : Priv) (tag : Option Nat) (v : Word), s.served = true ∧ validCore p = true ∧ (s.die (coreDie p)).inReset = false ∧ s.cstate p < 4 ∧ s.tapMeets p Priv.operator pr tag = true ∧ (s.core p).lock = true) ∧
    (∃ (s : State) (h : Hub) (pr : Priv) (tag : Option Nat) (v : Word), (s.vat h).role = Role.active ∧ privMeets pr Priv.operator = true ∧ bit s.sh.msiCtl 31 = false ∧ bit (BitVec.toNat v) 31 = true) ∧
    (∃ (s : State) (h : Hub) (pr : Priv) (tag : Option Nat) (v : Word) (off : Nat), (s.vat h).role = Role.active ∧ privMeets pr Priv.operator = true ∧ bit s.sh.msiCtl 31 = true ∧ off ∈ [144, 148, 152, 156, 160, 164]) :=
  ⟨⟨up, 0, .operator, none, 0x80000000#32, by decide +kernel⟩,
    ⟨up.modCore 0 (fun c => { c with lock := true }), 0, .operator, none, 0x80000000#32, by decide +kernel⟩,
    ⟨up, .a, .operator, none, 0x80000003#32, by decide +kernel⟩,
    ⟨withSh (fun h => { h with msiCtl := 2 ^ 31 + 5 }), .a, .operator, none, 3#32, 0xA4, by decide +kernel⟩⟩

/-- The partial transaction timeout's clause of RingEventsComplete, at the last two dies. -/
theorem test_hyps_RingEventsComplete_partialTxn : ∃ d src : Nat, isDie d = true ∧ isDie src = true := ⟨99, 0, by decide⟩
/-- Whether a command's outcome is a next state. -/
def nexts (o : Host.Outcome State Fault Refusal) : Bool := match o with | .next _ => true | _ => false
theorem of_nexts (o : Host.Outcome State Fault Refusal) (h : nexts o = true) : ∃ t, o = .next t := by
  cases o with
  | next t => exact ⟨t, rfl⟩
  | _ => simp [nexts] at h
/-- A state with canonical stores from which a step gives a next state. -/
theorem test_hyps_StepKeepsStoresCanonical : ∃ s t, s.canonical = true ∧ step s = .next t := by
  obtain ⟨t, h⟩ := of_nexts (step up) (by decide +kernel)
  exact ⟨up, t, by decide +kernel, h⟩
/-- States that hold a command at a port, and none, under an empty queue. -/
theorem test_hyps_StepTakesTheFrontCommand :
    (∃ (s : State) (c : Instr) (t : State), s.pending = [] ∧ s.released = some (c, t)) ∧ (∃ s : State, s.pending = [] ∧ s.released = none) := by
  refine ⟨?_, up, by decide +kernel, by decide +kernel⟩
  have h : (withSh fun h => { h with portHeld := [.ident rqN] }).released.isSome = true := by decide +kernel
  obtain ⟨⟨c, t⟩, h⟩ := Option.isSome_iff_exists.1 h
  exact ⟨_, c, t, by decide +kernel, h⟩
/-- A command that none of the exceptions of CommandsKeepQueueOutputsAndFactoryData names gives a next state. -/
theorem test_hyps_CommandsKeepQueueOutputsAndFactoryData :
    ∃ (i : Instr) (s t : State), exec i s = .next t ∧ (∀ rq n, i ≠ .lifecycleSet rq n) ∧ (∀ rq a b c d e f, i ≠ .keyEnroll rq a b c d e f) ∧
      (∀ rq a b, i ≠ .keyRevoke rq a b) := by
  obtain ⟨t, h⟩ := of_nexts (exec (.ident rqN) up) (by decide +kernel)
  exact ⟨.ident rqN, up, t, h, by simp, by simp, by simp⟩
/-- The least identifier that MissingPartsAreFaults speaks of, in each clause. -/
theorem test_hyps_MissingPartsAreFaults :
    (∃ d : Nat, 100 ≤ d) ∧ (∃ p, validCore p = false) ∧ (∃ n : Nat, 13824 ≤ n) ∧ (∃ c : Nat, 4096 ≤ c) ∧ (∃ c : Nat, 12 ≤ c) ∧ (∃ p : Nat, 4 ≤ p) ∧
      (∃ r : Nat, 2 ≤ r) ∧ (∃ d n, sensorCount d ≤ n) ∧ ∃ p : Nat, 32 ≤ p :=
  ⟨⟨100, by decide⟩, ⟨96 * 256, by decide⟩, ⟨13824, by decide⟩, ⟨4096, by decide⟩, ⟨12, by decide⟩, ⟨4, by decide⟩, ⟨2, by decide⟩,
    ⟨0, sensorCount 0, by decide⟩, ⟨32, by decide⟩⟩
/-- A packet that is taken, and is a read that spares the taps, the package and the dies; and one that is not a read. -/
theorem test_hyps_CommandFrames :
    (∃ (i : Instr) (s t : State), (i.packet = true → s.admits i = true ∧ s.signs i = true) ∧ exec i s = .next t ∧ i.reads = true ∧ i.sparesTaps = true ∧
      i.sparesPackage = true ∧ i.sparesDies = true) ∧
    (∃ (i : Instr) (s t : State), i.packet = false ∧ exec i s = .next t ∧ i.reads = false ∧ i.sparesTaps = true ∧ i.sparesPackage = true ∧
      i.sparesDies = true) := by
  obtain ⟨t, h⟩ := of_nexts (exec (.ident rqN) up) (by decide +kernel)
  obtain ⟨u, k⟩ := of_nexts (exec (.idle 0 0) up) (by decide +kernel)
  exact ⟨⟨.ident rqN, up, t, fun _ => ⟨by decide +kernel, by decide +kernel⟩, h, rfl, rfl, rfl, rfl⟩, ⟨.idle 0 0, up, u, rfl, k, rfl, rfl, rfl, rfl⟩⟩

/-! Ill-formed commands: each check of `Instr.wf` refuses a term that breaks it alone. -/

/-- An access that fits, and ones that do not; headers that do not fit. -/
def accOk : Access := ⟨0, 4, .none, none⟩
def accBad : Access := ⟨2 ^ 40, 4, .none, none⟩
def hBad : Hdr := { hIn with src := 128 }
def rqBad : Req := { rqN with tag := 65536 }
/-- A value of each type of operand that has a check of its own, which the check refuses. -/
def badLoadFields : LoadFields := ⟨256, 0, 0, 0, 0, 0, 0⟩
def badDigestRec : DigestRec := { (default : DigestRec) with d0 := 2 ^ 61 }
def badRefRec : RefRec := { (default : RefRec) with lc := some 16384 }
def badGroupTable : GroupTable := { (default : GroupTable) with epoch := 2 ^ 32 }
def badManifest : Manifest := { (default : Manifest) with steps := [(16384, 0)] }
def badLaneCount : LaneCount := ⟨65536, 0, 0, 0, 0, 0⟩
def badDumpUnit : DumpUnit := ⟨0, 65536, 0, 0⟩
def badGroupAt : GroupAt := ⟨0, 2 ^ 40, 0⟩
def badPairReport : PairReport := { (default : PairReport) with partner := 16384 }
def badLaidReport : LaidReport := { (default : LaidReport) with anchor := 16384 }
def badSpadAccess : SpadAccess := ⟨0, 8, .localWrite, 0, 0, false, none, some 262144⟩
def badDest : Dest := .lc 16384
def badXfer : Xfer := ⟨16384, 0, .plain, .package⟩
def badUnitRef : UnitRef := ⟨262144, none⟩
def badCountBatch : CountBatch := { (default : CountBatch) with count := 256 }
def badReaction : Reaction := { (default : Reaction) with source := 2 ^ 20 }
def badWalkStep : WalkStep := ⟨[16384], 0⟩
def badFenceOrder : FenceOrder := .phys 0 65536
def badHealth : Health := { (default : Health) with role := 256 }
def badAgentOp : AgentOp := .unpark 65536
/-- Each field of a path, a packet header, a frame header and an access is checked. -/
theorem test_wf_headers :
    (Path.aperture 64).ok = false ∧ (Path.mgmt .a 256).ok = false ∧ (Path.i3c .a 256).ok = false ∧ { rqN with path := .aperture 64 }.ok = false ∧
    { rqN with tag := 65536 }.ok = false ∧ { rqN with ctx := 65536 }.ok = false ∧ { rqN with session := 65536 }.ok = false ∧
    { rqN with token := 2 ^ 48 }.ok = false ∧ { rqN with crc := 2 ^ 32 }.ok = false ∧ { hIn with src := 128 }.ok = false ∧
    { hIn with seq := 65536 }.ok = false ∧ { hIn with ring := 2 }.ok = false ∧ { hIn with epoch := 2 ^ 32 }.ok = false ∧ accBad.ok = false ∧
    { rqN with sigR := 2 ^ 384 }.ok = false ∧ { rqN with sigS := 2 ^ 384 }.ok = false ∧ rqN.ok = true ∧ hIn.ok = true ∧ accOk.ok = true := by decide
theorem test_wf_commands_1 :
    (([.registerWrite accBad 0,
      .registerLoRead accBad,
      .mtpWmOperRead accBad,
      .mtpStallLoRead accBad,
      .vatCplDataRead accBad,
      .vatCplDataWrite accBad 0,
      .vatClearReplAgree accBad 0,
      .vatClearPrivDeny accBad 0,
      .vatClearAptDrop accBad 0,
      .seqCmpEnWrite accBad 0,
      .mtpWinCmdOpen accBad 0,
      .mtpWinCmdClose accBad 0,
      .aperturePacketWrite accBad 0,
      .ident rqBad,
      .authOpen rqN 0 (2 ^ 32),
      .authOpen rqBad 0 0,
      .authProve rqN (65536),
      .authProve rqBad 0,
      .authProveWindowExpiry (65536),
      .authClose rqBad] : List Instr).all fun i => !i.wf) = true := by decide
theorem test_wf_commands_2 :
    (([.sessionExpiry (65536),
      .vatHealth rqBad,
      .ctxLoad rqN badLoadFields default,
      .ctxLoad rqBad default default,
      .launchAt rqBad 0,
      .ctxKill rqBad,
      .ctxStatus rqBad,
      .relaxSet rqN (256) 0,
      .relaxSet rqBad 0 0,
      .relaxRead rqN (256) 0,
      .relaxRead rqBad 0 0,
      .faultRead rqBad 0 0,
      .faultCfg rqBad 0 0 0 0 0 0,
      .faultZero rqBad 0 0,
      .faultClear rqN (2 ^ 20),
      .faultClear rqBad 0,
      .faultPending rqBad,
      .deckleRead rqN (128) 0,
      .deckleRead rqBad 0 0,
      .coreReturn rqN (65536)] : List Instr).all fun i => !i.wf) = true := by decide
theorem test_wf_commands_3 :
    (([.coreReturn rqBad 0,
      .reset rqN 0 (65536),
      .reset rqBad 0 0,
      .ladderCfg rqN (256) 0 0,
      .ladderCfg rqBad 0 0 0,
      .partRelease rqN (256),
      .partRelease rqBad 0,
      .oosEnter rqBad,
      .serviceResume rqBad,
      .wmKeySet rqBad 0 0,
      .wmRead rqBad 0 0,
      .wmVerify rqBad,
      .wmVerifyReadDone (65536) [],
      .wmVerifyReadDone 0 [badDigestRec],
      .wmLocate rqN [badRefRec] false,
      .wmLocate rqBad [] false,
      .replicaCfg rqN (65536) 0 0 0,
      .replicaCfg rqBad 0 0 0 0,
      .replicaExpel rqN (65536) 0,
      .replicaExpel rqBad 0 0] : List Instr).all fun i => !i.wf) = true := by decide
theorem test_wf_commands_4 :
    (([.replicaMembers rqBad 0 0,
      .ticketRead rqN (262144),
      .ticketRead rqBad 0,
      .screenRun rqN (65536) 0,
      .screenRun rqN 0 (256),
      .screenRun rqBad 0 0,
      .screenStatus rqBad,
      .tortyWrite rqBad 0 [],
      .tortyCommit rqN (256) 0 0 0,
      .tortyCommit rqBad 0 0 0 0,
      .reamAreaSet rqN (128) 0 0,
      .reamAreaSet rqBad 0 0 0,
      .snapBegin rqN (2 ^ 32) 0 0 false 0 0 default,
      .snapBegin rqBad 0 0 0 false 0 0 default,
      .snapRelease rqN (2 ^ 32),
      .snapRelease rqBad 0,
      .restore rqN (2 ^ 32) 0 default 0 default,
      .restore rqN 0 0 default (2 ^ 32) default,
      .restore rqN 0 0 badManifest 0 default,
      .restore rqN 0 0 default 0 badGroupTable] : List Instr).all fun i => !i.wf) = true := by decide
theorem test_wf_commands_5 :
    (([.restore rqBad 0 0 default 0 default,
      .groupSet rqN badGroupTable,
      .groupSet rqBad default,
      .reclaim rqBad 0 0,
      .snapDefault rqBad false 0 default,
      .vatSwitch rqBad,
      .vatStandbyRetry rqBad,
      .fwBegin rqBad [],
      .fwWrite rqBad 0 [],
      .fwCommit rqBad,
      .linkQual rqBad,
      .linkQualDone [badLaneCount],
      .linkQualRead rqBad 0 0,
      .feltStatus rqBad,
      .calSet rqBad 0 0 0,
      .sensorSubst rqN (128) 0,
      .sensorSubst rqBad 0 0,
      .analogLoopback rqBad 0 0 0,
      .sensorRead rqN (128),
      .sensorRead rqBad 0] : List Instr).all fun i => !i.wf) = true := by decide
theorem test_wf_commands_6 :
    (([.lifecycleSet rqBad 0,
      .keyEnroll rqN 0 (2 ^ 32) 0 0 0 0,
      .keyEnroll rqBad 0 0 0 0 0 0,
      .keyRevoke rqN 0 (2 ^ 32),
      .keyRevoke rqBad 0 0,
      .licenceInstall rqBad [],
      .licenceRead rqBad,
      .watchSet rqN 0 (16384) 0 0 0 0 0,
      .watchSet rqBad 0 0 0 0 0 0 0,
      .watchClear rqN (16384) 0,
      .watchClear rqBad 0 0,
      .brkSet rqN (256) 0 0 0,
      .brkSet rqBad 0 0 0 0,
      .brkClear rqN (65536),
      .brkClear rqBad 0,
      .brkResume rqBad 0,
      .gstop rqBad,
      .gstopRelease rqBad 0,
      .stopRead rqBad 0 0,
      .dump rqN 0 [badDumpUnit]] : List Instr).all fun i => !i.wf) = true := by decide
theorem test_wf_commands_7 :
    (([.dump rqBad 0 [],
      .dumpRead rqBad 0 0,
      .ringRead rqBad 0 0 0 0 0,
      .counterRead rqN (65536) 0 0,
      .counterRead rqBad 0 0 0,
      .profRead rqN (128) 0 0,
      .profRead rqBad 0 0 0,
      .profClear rqN (128),
      .profClear rqBad 0,
      .recRead rqBad 0 0 0,
      .recClear rqBad 0,
      .badopCommandPacket (.mgmt .a 8) (65536) 0 0 false,
      .badopCommandPacket (.mgmt .a 8) 0 (65536) 0 false,
      .badopCommandPacket (.mgmt .a 8) 0 0 (2 ^ 32) false,
      .badopCommandPacket (.mgmt .a 256) 0 0 0 false,
      .setEndpointId .a false (256) 0,
      .setEndpointId .a false 0 (256),
      .releaseUnitOpen (65536) 0 false false,
      .issueStep (65536) default [] [] false,
      .accumulatorAdd (65536) 0 0 0 0 0 none] : List Instr).all fun i => !i.wf) = true := by decide
theorem test_wf_commands_8 :
    (([.accumulatorAdd 0 (262144) 0 0 0 0 none,
      .laidCheckResolve (65536) 0 [] default,
      .laidCheckResolve 0 (262144) [] default,
      .roundedGroupCheck (65536) 0 0 0 [] [] default false,
      .roundedGroupCheck 0 (262144) 0 0 [] [] default false,
      .roundedGroupCheck 0 0 0 0 [] [] badGroupAt false,
      .dispatchTallyCheck (65536) 0 [] 0 0,
      .dispatchTallyCheck 0 (262144) [] 0 0,
      .pairDigest hIn badPairReport,
      .pairDigest hBad default,
      .laidRes hIn badLaidReport,
      .laidRes hBad default,
      .scratchpadAccess (65536) default,
      .scratchpadAccess 0 badSpadAccess,
      .joinPartialArrival (65536) 0 0 0 0 0 false,
      .joinPartialArrival 0 (262144) 0 0 0 0 false,
      .joinPartialArrival 0 0 0 (16384) 0 0 false,
      .releaseGateTransfer (65536) none default [] [] false,
      .releaseGateTransfer 0 none default [(2 ^ 64)] [] false,
      .releaseGateTransfer 0 (some badUnitRef) default [] [] false] : List Instr).all fun i => !i.wf) = true := by decide
theorem test_wf_commands_9 :
    (([.releaseGateTransfer 0 none badDest [] [] false,
      .checkerRail (65536),
      .dataTransferArrival badXfer,
      .meshAccessAtFence (128) false,
      .d2dCodewordError (128) 0 false,
      .routerBufferEcc (128) none false,
      .routerBufferEcc 0 (some 16) false,
      .clusterBufferEcc (128) 0 false,
      .clusterBufferEcc 0 (16) false,
      .uncorrCw (128) 0 0,
      .agentInternal (128),
      .ticketState (65536),
      .counterParity (65536) false,
      .verdict hIn (262144) false,
      .verdict hBad 0 false,
      .faultReport hIn [(2 ^ 32)],
      .faultReport hBad [],
      .triageStageADone (65536) default [],
      .stageANotCompleted (65536),
      .tapSelftestDone (65536) 0] : List Instr).all fun i => !i.wf) = true := by decide
theorem test_wf_commands_10 :
    (([.spareFillDone (16384) [] [],
      .triageStageBDone (65536) default [],
      .replacementReplayDone (16384),
      .replacementStart (16384),
      .plannedReplaceSpareTimeout (16384),
      .latePlacement (16384) 0,
      .latePlacement 0 (65536),
      .poolLoan hIn (128) none,
      .poolLoan hBad 0 none,
      .poolBlockReturn (128),
      .sizingWindowLeaseRequest (65536) 0 0,
      .sizingWindowForfeit (128),
      .sliceStart (128) 0,
      .sliceStart 0 (65536),
      .shiftSegmentDone (128) 0,
      .sliceEnd (128) false,
      .leaseReq hBad 0,
      .leaseGrant hIn (128) 0 0,
      .leaseGrant hBad 0 0 0,
      .leaseReturn hBad] : List Instr).all fun i => !i.wf) = true := by decide
theorem test_wf_commands_11 :
    (([.leaseExpiry (128),
      .leaseRetryTick (128),
      .relaxedStallScan (65536) 0 none,
      .screenLate (65536),
      .screenOverdue (65536),
      .distOpen hIn (128) 0 0 0 [],
      .distOpen hBad 0 0 0 0 [],
      .stagingCopyDone (128),
      .chunk (128) 0 0 [] 0,
      .chunk 0 0 0 [] (2 ^ 32),
      .distPoll hIn (128) 0,
      .distPoll hBad 0 0,
      .bitmap hIn 0 [(2 ^ 32)],
      .bitmap hBad 0 [],
      .payloadHashDone (128),
      .distAgentAnswer hBad 0 0,
      .distArm hIn (128) 0 0,
      .distArm hBad 0 0 0,
      .distDisarm hIn (128) 0,
      .distDisarm hBad 0 0] : List Instr).all fun i => !i.wf) = true := by decide
theorem test_wf_commands_12 :
    (([.distActivation (128),
      .ucodeBankSwitch (128),
      .firstStageForward (128),
      .countFwd hIn [badCountBatch],
      .countFwd hBad [],
      .react hIn (128) default,
      .react hIn 0 badReaction,
      .react hBad 0 default,
      .nmi hIn (128) 0,
      .nmi hIn 0 (2 ^ 20),
      .nmi hBad 0 0,
      .notifySourceSecondEnd (2 ^ 20),
      .notifyRelay hBad 0,
      .hangWatchdogExpiry (65536),
      .hangWalk hIn badWalkStep,
      .hangWalk hBad default,
      .hangFreezeTimeout (65536),
      .tagRevoke hIn (128) 0,
      .tagRevoke hIn 0 (65536),
      .tagRevoke hBad 0 0] : List Instr).all fun i => !i.wf) = true := by decide
theorem test_wf_commands_13 :
    (([.teardownDrainEnd (65536) 0 false,
      .scrubDone (65536),
      .teardownOverrun (65536) [],
      .teardownOverrun 0 [65536],
      .fenceCmd hIn (128) default,
      .fenceCmd hIn 0 badFenceOrder,
      .fenceCmd hBad 0 default,
      .freeze hIn (128) [] 0,
      .freeze hIn 0 [65536] 0,
      .freeze hBad 0 [] 0,
      .genSet hIn (128) 0 0,
      .genSet hIn 0 (65536) 0,
      .genSet hBad 0 0 0,
      .agentResetDone (128),
      .xpkgWait (65536),
      .snapPointReached (16384),
      .snapBarrierComplete (65536) false,
      .snapHolderAck (65536) 0 0 [] false false [],
      .snapHolderAck 0 0 0 [(2 ^ 64)] false false [],
      .snapDeadlineExpiry (65536)] : List Instr).all fun i => !i.wf) = true := by decide
theorem test_wf_commands_14 :
    (([.manifest hIn (65536) default,
      .manifest hIn 0 badManifest,
      .manifest hBad 0 default,
      .restoreGatherDone (65536) [] [] [],
      .reclaimAutoSnapTimeout (65536),
      .wmDie hIn (65536) 0 0 default,
      .wmDie hIn 0 (65536) 0 default,
      .wmDie hIn 0 0 (65536) default,
      .wmDie hIn 0 0 0 badDigestRec,
      .wmDie hBad 0 0 0 default,
      .replPart hIn (65536) 0 default,
      .replPart hIn 0 0 badDigestRec,
      .replPart hBad 0 0 default,
      .replicaSlotRead (65536) [] false,
      .replicaSlotRead 0 [badDigestRec] false,
      .replicaRereadDone (65536) [],
      .replicaRereadExchange (65536) 0 0 default default [] false,
      .replicaRereadExchange 0 (65536) 0 default default [] false,
      .replicaRereadExchange 0 0 (2 ^ 32) default default [] false,
      .replicaRereadExchange 0 0 0 badDigestRec default [] false] : List Instr).all fun i => !i.wf) = true := by decide
theorem test_wf_commands_15 :
    (([.replicaRereadExchange 0 0 0 default badDigestRec [] false,
      .live hIn (128),
      .live hBad 0,
      .stbyLive hIn badHealth,
      .stbyLive hBad default,
      .bridged hIn [(2 ^ 32)],
      .bridged hBad [],
      .agentReply hBad 0 0 false,
      .stopTable hIn [(2 ^ 32)],
      .stopTable hBad [],
      .feltDump hBad 0 [],
      .activeVatFault 0 (2 ^ 20),
      .vatFailed hBad 0,
      .gateConfirm hBad,
      .depose hIn (128) false,
      .depose hBad 0 false,
      .announce hIn (128),
      .announce hBad 0,
      .announceReturn hBad,
      .epochStale hIn .a (2 ^ 32)] : List Instr).all fun i => !i.wf) = true := by decide
theorem test_wf_commands_16 :
    (([.epochStale hBad .a 0,
      .mirror hIn (2 ^ 32),
      .mirror hBad 0,
      .transitFrame (128) 0 [],
      .transitFrame 0 0 [(2 ^ 40)],
      .feltSpacerTimeout (128) 0,
      .feltAck hIn (128) 0 0 0,
      .feltAck hBad 0 0 0 0,
      .credit (128) 0 0,
      .idle (128) 0,
      .probe (128) 0 0,
      .echo (128) 0 0,
      .probePeriod (128) 0,
      .linkDown (128) 0,
      .creditTimeout (128) 0,
      .linkSilenceTimeout (128) 0,
      .partialTxnTimeout (128) 0 0,
      .partialTxnTimeout 0 (128) 0,
      .txnResendTimeout (128) 0 0,
      .txnResendTimeout 0 0 (65536)] : List Instr).all fun i => !i.wf) = true := by decide
theorem test_wf_commands_17 :
    (([.ringBreak hIn (128) 0 0,
      .ringBreak hBad 0 0 0,
      .ringJoin hIn (128) 0 0 0,
      .ringJoin hBad 0 0 0 0,
      .ringJoinActivation (128) 0,
      .stationIsolation (128),
      .stationIsolated (128),
      .stopRise (128),
      .barrier hIn (128) 0 none,
      .barrier hIn 0 (65536) none,
      .barrier hIn 0 0 (some 256),
      .barrier hBad 0 0 none,
      .barrierDrained (128) 0,
      .barrierDrained 0 (65536),
      .agentCmd hIn (128) default,
      .agentCmd hIn 0 badAgentOp,
      .agentCmd hBad 0 default,
      .laneBerWindowEnd badLaneCount false,
      .feltLinkQualDone (128) 0 0 0,
      .alignProbe hIn (128) 0] : List Instr).all fun i => !i.wf) = true := by decide
theorem test_wf_commands_18 :
    (([.alignProbe hBad 0 0,
      .alignEcho (128) 0 0 0 0 0,
      .alignEcho 0 (128) 0 0 0 0,
      .alignSet hIn (128) 0 0 0,
      .alignSet hBad 0 0 0 0,
      .reelCompareTick (128),
      .reelCmp hIn (128) 0,
      .reelCmp hBad 0 0,
      .reelCorrectionResume (128),
      .reelLockLoss (128),
      .reelLockReturn (128),
      .launchArm hIn (128) 0 0,
      .launchArm hIn 0 (65536) 0,
      .launchArm hBad 0 0 0,
      .launchRelease (128) 0,
      .launchRelease 0 (65536),
      .tempSample (128) 0 0,
      .vmonSample (128) 0 0 0,
      .paceSample (128) 0 0,
      .sensorRefCheck (128) 0 0 0] : List Instr).all fun i => !i.wf) = true := by decide
theorem test_wf_commands_19 :
    (([.analogBistSlice (128) 0 0 0 0 false,
      .brkAddrTrap (128) 0,
      .brkDrainEnd (65536),
      .brkHoldScreen (65536),
      .gstopRel hIn (128) 0,
      .gstopRel hBad 0 0,
      .agentSelfBistDone (128) false false 0,
      .inboundBridgedMessage .a false [(2 ^ 32)],
      .partitionAssignment (128) 0,
      .partitionAssignment 0 (256)] : List Instr).all fun i => !i.wf) = true := by decide

/-! The manual's worked examples. -/

/-- 00: die 37, cluster 5, core 12 has physical core ID 0x255C, core index 77, first source 306,800 and its tap block at 0xE025AD00. -/
theorem test_core_identifiers :
    coreIndex 0x255C = 77 ∧ coreSource 0x255C 0 = 306800 ∧ tapAddr 0x255C 0 = 0xE025AD00 ∧ placeOf 0xE025AD00 = .couchWin 37 0xAD00 := by decide
/-- 03: the Laid check of one row by hand, EMIN -1, and the seal of its column sums. -/
theorem test_laid_by_hand :
    let r : LaidRow := { (default : LaidRow) with x := [(3, 127), (-5, 127), (7, 127), (2, 127)], acc := [-30, -68], seed := [] }
    let csv := [1, 18, 7, 0x0FFFFFFFFFFFFFFA]
    laidLhs r = 0x1FFFFFFFFFFFFF9D ∧ laidRhs csv (-1) r = 0x1FFFFFFFFFFFFF9D ∧ csvSeal csv = 0x24 := by decide +kernel
/-- 03: word 7 = 0x7A869850. A B8 group of exponent 130 passes; one of 150 is outside ENV_EMIN to ENV_EMAX. -/
theorem test_envelope_example :
    envelope [0, 2 * 2 ^ 18, 0, 0, 0, 0, 0, 0x7A869850] 130 [127, -127, 5] = [] ∧
    (envelope [0, 2 * 2 ^ 18, 0, 0, 0, 0, 0, 0x7A869850] 150 [1]).head?.map (·.1) = some 13 := by decide +kernel
/-- 04: tensor 2 of four B8 elements, under test seed lanes 5 and 7. -/
theorem test_digest_example :
    tensorKey 5 2 = 15 ∧ tensorKey 7 2 = 21 ∧ blockedValue 2 127 0xFB = 163835 ∧
    digestOf 15 21 [(163587, 0), (163835, 1), (163591, 2), (163586, 3)] = (0x210DEE493, 0x7C718F13F) := by decide +kernel
/-- 04: an output held as -98 with EMIN -1 has the value of -49 with EMIN 0. -/
theorem test_digest_two_compilations : accValue (-98) (-1) = accValue (-49) 0 ∧ accValue (-49) 0 = p61 - 49 := by decide +kernel
/-- 09: two data shards rebuilt, n = 4. -/
theorem test_ream_rebuilt :
    shardP [0x3A, 0x7C, 0xC5, 0x10] = 0x93 ∧ shardQ [0x3A, 0x7C, 0xC5, 0x10] = 0x71 ∧
    rebuild [some 0x3A, none, none, some 0x10] (some 0x93) (some 0x71) = some [0x3A, 0x7C, 0xC5, 0x10] := by decide +kernel
/-- 11: one fault report on the wire: its header and payload words and its first two flits. -/
theorem test_report_on_the_wire :
    let w := reportWords 69140 4321 0x255C 0x2A1 0x120 7 306806 0x48C27395000 2150400000
    let t : Txn := { (default : Txn) with src := 37, type := 0x08, mode := 0, dst := 96, seq := 0x1A7, words := w }
    w = [0x438510E1, 0x255C02A1, 0x01200007, 0x4AE76000, 0x27395000, 0x48C, 0x802C8000, 0] ∧ up.copies t 0 = [(0, 11)] ∧
    headWord0 t 8 = 0x08302540 ∧ headWord1 0x1A7 11 0 0 true = 0x01A71604 ∧ headWord1 0x1A7 11 1 0 true = 0x01A71704 ∧
    flitNum 0 true false 0x08302540 = 0x2A08302540 ∧ flitNum 0 false false 0x01A71604 = 0x0F01A71604 := by decide +kernel
/-- 12: sensor 5 of die 37, raw 0x3A20, GAIN 0x2B00, OFFSET -2,000 and USER_OFFSET +12 give 511 eighths. -/
theorem test_sensor_reading :
    let k := 37 * 16 + 5
    ({ up with pkg := { up.pkg with gain := [(k, 0x2B00)], offset := [(k, -2000)], userOffset := [(k, 12)] } } : State).reading 37 5 0x3A20 = 511 := by
  decide +kernel
/-- 14: the stall record's first 28 bytes, and R458's check value over "123456789". -/
theorem test_stall_record :
    let r : Rec := { rec1 with code := 0x310, severity := 0, unaligned := false, staged := false, single := false, source := 0x4BD40, pcycle := 17, hours := 0xBB8800
                               reel := 0x48C27395000, p1 := 750, p2 := 0x120, p3 := 9 }
    numBytes 28 (recBody r) = [0x10, 0x03, 0x00, 0x40, 0xBD, 0x04, 0x11, 0, 0, 0, 0x88, 0xBB, 0, 0, 0x50, 0x39, 0x27, 0x8C, 0x04,
      0xEE, 0x02, 0, 0x20, 0x01, 0, 9, 0, 0] ∧ crc32c [49, 50, 51, 52, 53, 54, 55, 56, 57] = 0xE3069283 := by decide +kernel
/-- 06: chunk 530 is bit 18 of word 16 of a missing-chunk bitmap. -/
theorem test_bitmap_example : missingChunks (List.replicate 16 0 ++ [2 ^ 18]) 600 = [530] := by decide +kernel

end Sys2Proof.Tests
end

section
/-! SUPPORT. What sending over Felt, recording and counting leave unchanged: the taps and the class configuration; and the statements about register
accesses (R13, R17). -/

namespace Sys2Proof.Machine

/-! ## Sending over Felt -/

/-- `t` is `s` but for the Felt and the outputs. -/
def OnlyFelt (s t : State) : Prop := ∃ n o, t = { s with felt := n, out := o }

namespace OnlyFelt
variable {s t : State}

theorem refl (s : State) : OnlyFelt s s := ⟨s.felt, s.out, rfl⟩
theorem sh (h : OnlyFelt s t) : t.sh = s.sh := by obtain ⟨n, o, rfl⟩ := h; rfl
theorem cores (h : OnlyFelt s t) : t.cores = s.cores := by obtain ⟨n, o, rfl⟩ := h; rfl
theorem modFelt (f : Felt → Felt) (h : OnlyFelt s t) : OnlyFelt s (t.modFelt f) := by obtain ⟨n, o, rfl⟩ := h; exact ⟨_, _, rfl⟩
theorem modPort (k : Nat) (f : Port → Port) (h : OnlyFelt s t) : OnlyFelt s (t.modPort k f) := h.modFelt _
theorem emit (x : Out) (h : OnlyFelt s t) : OnlyFelt s (t.emit x) := by obtain ⟨n, o, rfl⟩ := h; exact ⟨_, _, rfl⟩

theorem servePort (n k : Nat) (h : OnlyFelt s t) : OnlyFelt s (State.servePort n t k) := by
  induction n generalizing t with
  | zero => exact h
  | succ n ih =>
    unfold State.servePort
    dsimp only
    split
    · exact h
    · exact ih ((h.modPort _ _).emit _)
    · split
      · exact ih ((h.modPort _ _).emit _)
      · apply ih
        split
        · exact h.modPort _ _
        · split
          · exact (h.modPort _ _).emit _
          · exact ((h.modPort _ _).emit _).modPort _ _
theorem serve (k : Nat) (h : OnlyFelt s t) : OnlyFelt s (t.serve k) := (h.servePort _ _).servePort _ _
theorem control (k code data : Nat) (h : OnlyFelt s t) : OnlyFelt s (t.control k code data) := (h.modPort _ _).serve _
theorem discardFrames (d : Nat) (l : List FeltFrame) (h : OnlyFelt s t) : OnlyFelt s (t.discardFrames d l) :=
  each_holds (OnlyFelt s) _ _ _ (fun _ _ hb => hb.control _ _ _) h
theorem enqueue (k : Nat) (l : List FeltFrame) (h : OnlyFelt s t) : OnlyFelt s (t.enqueue k l) := by
  unfold State.enqueue
  split
  · exact h.discardFrames _ _
  · exact (h.modPort _ _).serve _
theorem inject (x : Txn) (h : OnlyFelt s t) : OnlyFelt s (t.inject x) :=
  each_holds (OnlyFelt s) _ _ _ (fun _ _ hb => each_holds (OnlyFelt s) _ _ _ (fun _ _ hc => hc.enqueue _ _) hb) h
theorem feltSend (src ty mode dst : Nat) (words : List Nat) (ring : Option Nat) (h : OnlyFelt s t) :
    OnlyFelt s (t.feltSend src ty mode dst words ring) := ((h.modFelt _).inject _).emit _

end OnlyFelt

section
variable (s : State)

@[simp] theorem feltSend_sh (src ty mode dst : Nat) (words : List Nat) (ring : Option Nat) : (s.feltSend src ty mode dst words ring).sh = s.sh :=
  ((OnlyFelt.refl s).feltSend ..).sh
@[simp] theorem feltSend_cores (src ty mode dst : Nat) (words : List Nat) (ring : Option Nat) :
    (s.feltSend src ty mode dst words ring).cores = s.cores := ((OnlyFelt.refl s).feltSend ..).cores
@[simp] theorem vatSend_sh (ty mode dst : Nat) (words : List Nat) : (s.vatSend ty mode dst words).sh = s.sh := feltSend_sh ..
@[simp] theorem vatSend_cores (ty mode dst : Nat) (words : List Nat) : (s.vatSend ty mode dst words).cores = s.cores := feltSend_cores ..

/-- A mirrored change touches the mirror's sequence number alone among the Vat's stores. -/
theorem mirror_sh : ∃ n, s.mirror.sh = { s.sh with mirrorSeq := n } := by
  unfold State.mirror
  split
  · exact ⟨s.sh.mirrorSeq, rfl⟩
  · dsimp only
    split
    · exact ⟨_, rfl⟩
    · exact ⟨_, feltSend_sh ..⟩
@[simp] theorem mirror_msiCtl : s.mirror.sh.msiCtl = s.sh.msiCtl := by obtain ⟨n, h⟩ := mirror_sh s; rw [h]
@[simp] theorem mirror_classCfg : s.mirror.sh.classCfg = s.sh.classCfg := by obtain ⟨n, h⟩ := mirror_sh s; rw [h]
@[simp] theorem mirror_cores : s.mirror.cores = s.cores := by
  unfold State.mirror
  split
  · rfl
  · dsimp only
    split <;> simp
@[simp] theorem mramWrite_sh : s.mramWrite.sh = s.sh := by simp [State.mramWrite]
@[simp] theorem mramWrite_cores : s.mramWrite.cores = s.cores := by simp [State.mramWrite]

/-! ## Records, notifications and counts keep the taps and the class configuration -/

theorem ite_cores (c : Prop) [Decidable c] (s t : State) : (if c then s else t).cores = if c then s.cores else t.cores := apply_ite ..
theorem ite_classCfg (c : Prop) [Decidable c] (s t : State) :
    (if c then s else t).sh.classCfg = if c then s.sh.classCfg else t.sh.classCfg := apply_ite (fun u : State => u.sh.classCfg) ..

@[simp] theorem postInt_keepsTaps (src : Nat) : (s.postInt src).cores = s.cores ∧ (s.postInt src).sh.classCfg = s.sh.classCfg := by
  unfold State.postInt
  split <;> simp
@[simp] theorem bump_keepsTaps (src m reel : Nat) :
    (s.bump src m reel).1.cores = s.cores ∧ (s.bump src m reel).1.sh.classCfg = s.sh.classCfg := by
  unfold State.bump
  split <;> simp
@[simp] theorem sendMgmt_keepsTaps (n : Note) : (s.sendMgmt n).cores = s.cores ∧ (s.sendMgmt n).sh.classCfg = s.sh.classCfg := by
  unfold State.sendMgmt
  dsimp only
  split
  · simp
  · split
    · simp
    · split <;> simp
@[simp] theorem sendNote_keepsTaps (r : Rec) (held : Nat) :
    (s.sendNote r held).cores = s.cores ∧ (s.sendNote r held).sh.classCfg = s.sh.classCfg := by
  simp [State.sendNote, State.sendI3c]
@[simp] theorem notify_keepsTaps (r : Rec) : (s.notify r).cores = s.cores ∧ (s.notify r).sh.classCfg = s.sh.classCfg := by
  unfold State.notify
  split
  · split <;> simp
  · simp
@[simp] theorem written_keepsTaps (r : Rec) : (s.written r).cores = s.cores ∧ (s.written r).sh.classCfg = s.sh.classCfg := by
  unfold State.written
  split <;> simp
@[simp] theorem dropRec_keepsTaps (h : Hub) (r : Rec) : (s.dropRec h r).cores = s.cores ∧ (s.dropRec h r).sh.classCfg = s.sh.classCfg := by
  simp [State.dropRec, ite_cores, ite_classCfg]
@[simp] theorem stage_keepsTaps (h : Hub) (r : Rec) : (s.stage h r).cores = s.cores ∧ (s.stage h r).sh.classCfg = s.sh.classCfg := by
  unfold State.stage
  dsimp only
  split
  · simp
  · split
    · simp
    · split <;> simp
@[simp] theorem hubEnter_keepsTaps (h : Hub) (r : Rec) : (s.hubEnter h r).cores = s.cores ∧ (s.hubEnter h r).sh.classCfg = s.sh.classCfg := by
  unfold State.hubEnter
  dsimp only
  split <;> simp
@[simp] theorem enterRec_keepsTaps (r : Rec) : (s.enterRec r).cores = s.cores ∧ (s.enterRec r).sh.classCfg = s.sh.classCfg := by
  unfold State.enterRec
  dsimp only
  split <;> simp
@[simp] theorem recordAt_keepsTaps (code severity source reel : Nat) (u : Bool) (p1 p2 p3 : Nat) :
    (s.recordAt code severity source reel u p1 p2 p3).cores = s.cores ∧
      (s.recordAt code severity source reel u p1 p2 p3).sh.classCfg = s.sh.classCfg := by
  unfold State.recordAt
  dsimp only
  split <;> simp
@[simp] theorem record_keepsTaps (code severity source p1 p2 p3 : Nat) :
    (s.record code severity source p1 p2 p3).cores = s.cores ∧ (s.record code severity source p1 p2 p3).sh.classCfg = s.sh.classCfg :=
  recordAt_keepsTaps ..
@[simp] theorem setPin_keepsTaps (src : Nat) : (s.setPin src).cores = s.cores ∧ (s.setPin src).sh.classCfg = s.sh.classCfg := by
  unfold State.setPin
  split <;> simp
@[simp] theorem firstStage_keepsTaps (d src : Nat) (l : List Detail) :
    (s.firstStage d src l).cores = s.cores ∧ (s.firstStage d src l).sh.classCfg = s.sh.classCfg := by
  unfold State.firstStage
  split <;> simp
@[simp] theorem countLater_keepsTaps (d src key : Nat) :
    (s.countLater d src key).cores = s.cores ∧ (s.countLater d src key).sh.classCfg = s.sh.classCfg := by
  simp [State.countLater, ite_cores, ite_classCfg]
@[simp] theorem sendNmi_keepsTaps (d src : Nat) : (s.sendNmi d src).cores = s.cores ∧ (s.sendNmi d src).sh.classCfg = s.sh.classCfg := by
  unfold State.sendNmi
  exact ⟨each_keeps State.cores _ _ _ (by simp), each_keeps (fun t : State => t.sh.classCfg) _ _ _ (by simp)⟩
@[simp] theorem faultRecs_keepsTaps (src key reel : Nat) (x : Option Nat) (l : List Detail) :
    (s.faultRecs src key reel x l).cores = s.cores ∧ (s.faultRecs src key reel x l).sh.classCfg = s.sh.classCfg := by
  unfold State.faultRecs
  dsimp only
  split
  · simp
  · exact ⟨each_keeps State.cores _ _ _ (by simp), each_keeps (fun t : State => t.sh.classCfg) _ _ _ (by simp)⟩

theorem cfg_of_classCfg {s t : State} (h : t.sh.classCfg = s.sh.classCfg) (key : Nat) : t.cfg key = s.cfg key := by simp [State.cfg, h]
theorem core_of_cores {s t : State} (h : t.cores = s.cores) (p : Nat) : t.core p = s.core p := by simp [State.core, h]

/-! ## Counting an event of a package source (Table 7.5) -/

theorem classOf_pkgSource (n : Nat) (hn : n < 11) : classOf (pkgSource n) = some (208 + n) := by
  have hd : sourceDie (pkgSource n) = 100 := by unfold sourceDie pkgSource; omega
  have hi : pkgSource n % 8192 = n := by unfold pkgSource; omega
  simp [classOf, hd, hi, hn]
theorem sourceCore_pkgSource (n : Nat) (hn : n < 8192) : sourceCore (pkgSource n) = none := by
  have hd : sourceDie (pkgSource n) = 100 := by unfold sourceDie pkgSource; omega
  simp [sourceCore, hd]
theorem sourceCtx_pkgSource (n : Nat) (hn : n < 8192) : sourceCtx (pkgSource n) = none := by
  have hd : sourceDie (pkgSource n) = 100 := by unfold sourceDie pkgSource; omega
  simp [sourceCtx, hd]

/-- The package is no unit that BLK resets (R236). -/
theorem takeBlk_pkgSource (n : Nat) (hn : n < 11) : s.takeBlk (pkgSource n) = s := by
  unfold State.takeBlk
  rw [classOf_pkgSource n hn, sourceCtx_pkgSource n (by omega)]
  dsimp only
  rw [if_neg (by omega), if_neg (by omega), if_neg (by simp; omega), if_neg (by simp; omega), if_neg (by simp; omega), if_neg (by simp; omega)]
theorem agentReact_pkgSource_keepsTaps (d n m : Nat) (hn : n < 11) :
    (s.agentReact d (pkgSource n) m).cores = s.cores ∧ (s.agentReact d (pkgSource n) m).sh.classCfg = s.sh.classCfg := by
  simp [State.agentReact, takeBlk_pkgSource _ n hn, ite_cores, ite_classCfg]
/-- A source outside the cores has no threshold action (Table 7.2). -/
theorem applyOne_keepsTaps (src key reel : Nat) (l : List Detail) (hc : sourceCore src = none) :
    (s.applyOne src key reel l).cores = s.cores ∧ (s.applyOne src key reel l).sh.classCfg = s.sh.classCfg := by
  have hact : ∀ t : State, t.threshAction src key = t := by intro t; simp [State.threshAction, hc]
  unfold State.applyOne
  dsimp only
  split
  · simp [ite_cores, ite_classCfg]
  · simp [hact, ite_cores, ite_classCfg]
/-- A batch of a package source that asks for no package reset. -/
theorem applyCount_pkgSource_keepsTaps (n reel : Nat) (l : List Detail) (hn : n < 11) (he : bit (s.cfg (208 + n)).each 1 = false)
    (ht : bit (s.cfg (208 + n)).thresh 1 = false) :
    (s.applyCount (pkgSource n) reel l).cores = s.cores ∧ (s.applyCount (pkgSource n) reel l).sh.classCfg = s.sh.classCfg := by
  have hone := applyOne_keepsTaps s (pkgSource n) (208 + n) reel l (sourceCore_pkgSource n (by omega))
  have hcfg := cfg_of_classCfg hone.2 (208 + n)
  simpa [State.applyCount, classOf_pkgSource n hn, sourceCtx_pkgSource n (by omega), State.applyBase, State.pkgAfter, hcfg, he, ht] using hone
/-- An event of a package source that asks for no package reset. -/
theorem vatCount_pkgSource_cores (n : Nat) (x : Detail) (hn : n < 11) (he : bit (s.cfg (208 + n)).each 1 = false)
    (ht : bit (s.cfg (208 + n)).thresh 1 = false) : (s.vatCount (pkgSource n) x).cores = s.cores := by
  simp only [State.vatCount, classOf_pkgSource n hn]
  generalize hu : s.agentReact _ (pkgSource n) _ = u
  obtain ⟨hcores, hclass⟩ : u.cores = s.cores ∧ u.sh.classCfg = s.sh.classCfg := hu ▸ agentReact_pkgSource_keepsTaps s _ n _ hn
  have hcfg := cfg_of_classCfg hclass (208 + n)
  have hcount := (applyCount_pkgSource_keepsTaps u n u.now [x] hn (hcfg ▸ he) (hcfg ▸ ht)).1
  split
  · simp [hcores]
  · rw [hcount, hcores]

/-! ## A write of MTP_CTRL (R17, R18) -/

/-- BOUND_VOID changes no tap, unless its class asks for a package reset. -/
theorem setVoid_cores (b : Nat) (he : bit (s.cfg 209).each 1 = false) (ht : bit (s.cfg 209).thresh 1 = false) : (s.setVoid b).cores = s.cores := by
  unfold State.setVoid
  split
  · rfl
  · dsimp only
    rw [vatCount_pkgSource_cores _ 1 _ (by omega)]
    · simp
    · rwa [cfg_of_classCfg (s := s) (by simp)]
    · rwa [cfg_of_classCfg (s := s) (by simp)]
theorem mtpWriteIn_of_cstate_lt (p off : Nat) (v : Word) (pr : Priv) (tag : Option Nat) (h : s.cstate p < 4) :
    s.mtpWriteIn p off v pr tag = s.mtpWrite p off v.toNat pr tag := by
  unfold State.mtpWriteIn
  split
  · omega
  · omega
  · omega
  · rfl
theorem writeCtrl_of_locked (p v : Nat) (pr : Priv) (h : (s.core p).lock = true) : s.writeCtrl p v pr = s := by simp [State.writeCtrl, h]
/-- Both fields are stored at once: SEQ_CMP_EN, and the lock that closes it. -/
theorem writeCtrl_core (p v : Nat) (pr : Priv) (h : (s.core p).lock = false) (he : bit (s.cfg 209).each 1 = false)
    (ht : bit (s.cfg 209).thresh 1 = false) : (s.writeCtrl p v pr).core p = { s.core p with lock := bit v 31, seqCmp := bit v 0 } := by
  have hset : (s.modCore p fun c => { c with lock := bit v 31, seqCmp := bit v 0 }).core p = { s.core p with lock := bit v 31, seqCmp := bit v 0 } := by
    simp
  rw [← hset]
  apply core_of_cores
  simp only [State.writeCtrl, h, Bool.false_eq_true, if_false]
  split
  · rfl
  · split
    · split <;> simp
    · rw [setVoid_cores]
      · simp
      · rwa [cfg_of_classCfg (s := s) (by simp)]
      · rwa [cfg_of_classCfg (s := s) (by simp)]

/-- A write of MTP_CTRL reaches the register of a core whose state neither defers nor drops it. -/
theorem accessWrite_mtpCtrl (p : Nat) (pr : Priv) (tag : Option Nat) (v : Word) (hs : s.served = true) (hp : validCore p = true)
    (hr : (s.die (coreDie p)).inReset = false) (hc : s.cstate p < 4) (ht : s.tapMeets p .operator pr tag = true) :
    s.accessWrite ⟨tapAddr p 0x04, 4, pr, tag⟩ v = (s.writeCtrl p v.toNat pr).emit .writeDone := by
  rw [accessWrite_tap s p 0x04 pr tag v hp (by decide) (by decide) hs hr ht, mtpWriteIn_of_cstate_lt s p 0x04 v pr tag hc]
  rfl

/-! ## A write of the MSI registers (R17, R18) -/

theorem writeMsi_of_locked (f : Shared → Shared) (h : bit s.sh.msiCtl 31 = true) : s.writeMsi f = s := by simp [State.writeMsi, h]
theorem vatWriteReg_msiCtl (h : Hub) (v : Nat) (hl : bit s.sh.msiCtl 31 = false) : (s.vatWriteReg h 0x090 v).sh.msiCtl = v &&& 0x80000007 := by
  simp [State.vatWriteReg, State.writeMsi, hl]
/-- The registers that VAT_MSI_CTRL's lock covers (Table 0.5). -/
def msiOffsets : List Nat := [0x090, 0x094, 0x098, 0x09C, 0x0A0, 0x0A4]
theorem vatWriteReg_msi_of_locked (h : Hub) (off v : Nat) (ho : off ∈ msiOffsets) (hl : bit s.sh.msiCtl 31 = true) : s.vatWriteReg h off v = s := by
  simp only [msiOffsets, List.mem_cons, List.not_mem_nil, or_false] at ho
  obtain rfl | rfl | rfl | rfl | rfl | rfl := ho <;> exact writeMsi_of_locked s _ hl
/-- A write of an MSI register reaches the register when the Vat is active. -/
theorem accessWrite_msi (h : Hub) (off : Nat) (pr : Priv) (tag : Option Nat) (v : Word) (ho : off ∈ msiOffsets) (hr : (s.vat h).role = .active)
    (hp : privMeets pr .operator = true) : s.accessWrite ⟨vatAddr h off, 4, pr, tag⟩ v = (s.vatWriteReg h off v.toNat).emit .writeDone := by
  obtain ⟨hlt, halign, hne, hpriv⟩ : off < 0x80000 ∧ off % 4 = 0 ∧ off ≠ 0x0AC ∧ vatWritePriv off = .operator :=
    (by decide : ∀ k ∈ msiOffsets, k < 0x80000 ∧ k % 4 = 0 ∧ k ≠ 0x0AC ∧ vatWritePriv k = .operator) off ho
  rw [accessWrite_vat s h off pr tag v (by omega) halign (served_active s h hr)]
  simp [State.vatWrite, hpriv, hp, hne, hr, show ¬ 0x80000 ≤ off by omega]

/-! ## An access that is not a naturally aligned 32-bit one (R13) -/

theorem accessRead_of_misaligned (a : Access) (hp : placeOf a.addr ≠ .outside) (ha : a.size ≠ 4 ∨ a.addr % 4 ≠ 0) : s.accessRead a = s.fail := by
  have hbad : (a.size ≠ 4 || a.addr % 4 ≠ 0 || !s.served) = true := by simp [ha]
  unfold State.accessRead
  split
  · contradiction
  · exact if_pos hbad
theorem accessWrite_of_misaligned (a : Access) (v : Word) (hp : placeOf a.addr ≠ .outside) (ha : a.size ≠ 4 ∨ a.addr % 4 ≠ 0) :
    s.accessWrite a v = s.fail := by
  have hbad : (a.size ≠ 4 || a.addr % 4 ≠ 0 || !s.served) = true := by simp [ha]
  unfold State.accessWrite
  split
  · contradiction
  · exact if_pos hbad

end

theorem gives_registerWrite {s : State} {a : Access} {v : Word} {P : State → Prop} (h : P (s.accessWrite a v)) : Gives (.registerWrite a v) s P :=
  ⟨_, rfl, h⟩
theorem bit_and (v m b : Nat) : bit (v &&& m) b = (bit v b && bit m b) := by
  simp only [bit, ← Nat.testBit_eq_decide_div_mod_eq, beq_eq_decide, Nat.testBit_and]
/-- What VAT_MSI_CTRL keeps of a word: its enables and LOCK. -/
theorem msiCtl_word_mod (v : Nat) : (v &&& 0x80000007) % 8 = v % 8 := by
  calc (v &&& 0x80000007) % 8 = v % 2 ^ 3 &&& (2 ^ 3 - 1) := Nat.and_mod_two_pow (n := 3)
    _ = v % 8 := (Nat.and_two_pow_sub_one_eq_mod ..).trans (Nat.mod_mod v 8)

/-- Settles O58: a write of MTP_CTRL or VAT_MSI_CTRL stores all its fields in one update while LOCK is 0, and nothing while LOCK is 1; what MTP_CTRL's
    write sets off, records and a count of BOUND_VOID, reaches no tap. -/
theorem lockingWriteStoresFirst : Obligations.LockingWriteStoresFirst := by
  unfold Obligations.LockingWriteStoresFirst
  constructor
  · intro s p pr tag v hs hp hr hc ht
    have hw := accessWrite_mtpCtrl s p pr tag v hs hp hr hc ht
    constructor
    · intro hl hv he hth
      apply gives_registerWrite
      rw [hw, emit_core, writeCtrl_core s p v.toNat pr hl he hth]
      exact ⟨rfl, hv⟩
    · intro hl
      apply gives_registerWrite
      rw [hw, emit_core, writeCtrl_of_locked s p v.toNat pr hl]
      exact ⟨rfl, hl⟩
  · intro s h pr tag v hr hp
    constructor
    · intro hl hv
      apply gives_registerWrite
      rw [accessWrite_msi s h 0x090 pr tag v (by decide) hr hp, emit_sh, vatWriteReg_msiCtl s h _ hl, msiCtl_word_mod, bit_and, hv]
      exact ⟨rfl, by decide⟩
    · intro hl off ho
      apply gives_registerWrite
      rw [accessWrite_msi s h off pr tag v ho hr hp, emit_sh, vatWriteReg_msi_of_locked s h off v.toNat ho hl]
      exact ⟨rfl, rfl, rfl, rfl, rfl⟩

/-- Settles O56: each of these commands is one access by address, and the check of size and alignment comes before the window is looked at. -/
theorem misalignedAccessHasNoEffect : Obligations.MisalignedAccessHasNoEffect := by
  unfold Obligations.MisalignedAccessHasNoEffect
  intro s a v hp ha
  have hread : Host.Outcome.next (s.accessRead a) = (.next (s.emit .errorResponse) : Host.Outcome State Fault Refusal) :=
    congrArg _ (accessRead_of_misaligned s a hp ha)
  have hwrite (w : Word) : Host.Outcome.next (s.accessWrite a w) = (.next (s.emit .errorResponse) : Host.Outcome State Fault Refusal) :=
    congrArg _ (accessWrite_of_misaligned s a w hp ha)
  exact ⟨hwrite v, hread, hread, hread, hread, hwrite v, hwrite _, hwrite _, hwrite _, hwrite v, hwrite v, hwrite v, hwrite v⟩

end Sys2Proof.Machine
end

section
/-! SUPPORT. What a read of the reel counters' registers comes down to, and the statement about their latching (R60, R74). -/

namespace Sys2Proof.Machine

section
variable (s : State)

theorem privMeets_none (pr : Priv) : privMeets pr .none = true := by cases pr <;> rfl

/-! ## A Vat's copy -/

/-- A read of VAT_REEL_LO answers the low half of the hub die's copy and latches the high half of the same count. -/
theorem accessRead_vatReelLo (h : Hub) (pr : Priv) (tag : Option Nat) (hs : s.served = true) :
    s.accessRead ⟨vatAddr h 0x030, 4, pr, tag⟩ = (s.emit (.readValue (BitVec.ofNat 32 (s.dieReel (hubDie h) % 2 ^ 32)))).modVat h
      fun v => { v with reelHi := bits (s.dieReel (hubDie h)) 32 32 } := by
  rw [accessRead_vat s h 0x030 pr tag (by decide) (by decide) hs]
  simp [State.vatRead, vatReadPriv, privMeets_none, State.vatReg]
/-- A read of VAT_REEL_HI answers the latch. -/
theorem accessRead_vatReelHi (h : Hub) (pr : Priv) (tag : Option Nat) (hs : s.served = true) :
    s.accessRead ⟨vatAddr h 0x034, 4, pr, tag⟩ = s.emit (.readValue (BitVec.ofNat 32 (s.vat h).reelHi)) := by
  rw [accessRead_vat s h 0x034 pr tag (by decide) (by decide) hs]
  simp [State.vatRead, vatReadPriv, privMeets_none, State.vatReg]

/-! ## A die's own copy -/

theorem placeOf_couch (d off : Nat) (hd : isDie d = true) (ho : off < 0x10000) : placeOf (0xE0000000 + (0x10000 * d + off)) = .couchWin d off := by
  have hlt : d < 100 := of_decide_eq_true hd
  have hdie : (0xE0000000 + (0x10000 * d + off) - 0xE0000000) / 0x10000 = d := by omega
  have hoff : (0xE0000000 + (0x10000 * d + off) - 0xE0000000) % 0x10000 = off := by omega
  unfold placeOf
  simp only [Bool.and_eq_true, decide_eq_true_eq]
  rw [if_neg (by omega), if_neg (by omega), if_neg (by omega), if_pos (by omega), hdie, hoff]
/-- A read of a die's window that answers a value, in terms of the window's own read. -/
theorem accessRead_couch {t : State} (d off v : Nat) (pr : Priv) (tag : Option Nat) (hd : isDie d = true) (ho : off < 0x10000) (ha : off % 4 = 0)
    (hs : s.served = true) (hv : s.couchRead d off pr tag = (some v, t)) :
    s.accessRead ⟨0xE0000000 + (0x10000 * d + off), 4, pr, tag⟩ = t.emit (.readValue (BitVec.ofNat 32 v)) := by
  have halign : (0xE0000000 + (0x10000 * d + off)) % 4 = 0 := by omega
  unfold State.accessRead
  simp [placeOf_couch d off hd ho, halign, hs, hv]
theorem couchRead_reelLo (d : Nat) (pr : Priv) (tag : Option Nat) (hr : (s.die d).inReset = false) :
    s.couchRead d 0x10 pr tag =
      (some (s.dieReel d % 2 ^ 32), s.modDie d fun k => { k with hi := tset 0 k.hi 0x14 (bits (s.dieReel d) 32 32) }) := by
  simp [State.couchRead, hr, tapAt, cplPriv, privMeets_none, State.cplReg, cplListed]
theorem couchRead_reelHi (d : Nat) (pr : Priv) (tag : Option Nat) (hr : (s.die d).inReset = false) :
    s.couchRead d 0x14 pr tag = (some (tget 0 (s.die d).hi 0x14), s) := by
  simp [State.couchRead, hr, tapAt, cplPriv, privMeets_none, State.cplReg, cplListed]

end

/-! ## The latching -/

theorem gives_registerLoRead {s : State} {a : Access} {P : State → Prop} (h : P (s.accessRead a)) : Gives (.registerLoRead a) s P := ⟨_, rfl, h⟩

/-- Settles O57: a LO read stores the high half of the count that it answers, and a HI read that is served answers what is stored, so the state that it
    meets need only agree with the LO read's on the store. -/
theorem reelCountersLatch : Obligations.ReelCountersLatch := by
  unfold Obligations.ReelCountersLatch
  constructor
  · intro s h pr tag hs
    apply gives_registerLoRead
    rw [accessRead_vatReelLo s h pr tag hs]
    constructor
    · exact emits_head _ _ _ (by simp)
    · intro u hu hlatch
      have hhi : (u.vat h).reelHi = bits (s.dieReel (hubDie h)) 32 32 := by simpa using hlatch
      apply gives_registerLoRead
      rw [accessRead_vatReelHi u h pr tag hu, hhi]
      exact emits_head _ _ _ rfl
  · intro s d pr tag hs hd hr
    apply gives_registerLoRead
    rw [accessRead_couch s d 0x10 _ pr tag hd (by decide) (by decide) hs (couchRead_reelLo s d pr tag hr)]
    constructor
    · exact emits_head _ _ _ rfl
    · intro u hu hur hlatch
      have hhi : tget 0 (u.die d).hi 0x14 = bits (s.dieReel d) 32 32 := by simpa using hlatch
      apply gives_registerLoRead
      rw [accessRead_couch u d 0x14 _ pr tag hd (by decide) (by decide) hu (couchRead_reelHi u d pr tag hur), hhi]
      exact emits_head _ _ _ rfl

end Sys2Proof.Machine
end

section
/-! SUPPORT. Every command keeps what `Keeps` says, and with it the statements about the whole machine (00, 13 Table 13.4, 15). -/

namespace Sys2Proof.Machine

section
variable {kp : Bool} {s0 s : State}

/-! ## Every command keeps the queue, the outputs, the stores' form and the factory data -/

/-- The commands that change the life-cycle state, the returns or the enrolled keys (R428, R433). -/
def setsKeys : Instr → Bool
  | .lifecycleSet .. | .keyEnroll .. | .keyRevoke .. => true
  | _ => false

theorem exec_keeps_of_setsKeys (i : Instr) (hi : setsKeys i = true) (h : Keeps false s0 s) : Nexts false s0 (exec i s) := by
  cases i with
  | lifecycleSet rq n => exact execLifecycleSet_keeps rq n h
  | keyEnroll rq cls id base count x y => exact execKeyEnroll_keeps rq cls id base count x y h
  | keyRevoke rq cls id => exact execKeyRevoke_keeps rq cls id h
  | _ => simp [setsKeys] at hi

theorem exec_keeps (i : Instr) (hi : setsKeys i = false) (hk : Keeps kp s0 s) : Nexts kp s0 (exec i s) := by
  cases i with
  | lifecycleSet | keyEnroll | keyRevoke => simp [setsKeys] at hi
  | registerWrite a v => exact execRegisterWrite_keeps a v hk
  | registerLoRead a => exact execRegisterLoRead_keeps a hk
  | mtpWmOperRead a => exact execMtpWmOperRead_keeps a hk
  | mtpStallLoRead a => exact execMtpStallLoRead_keeps a hk
  | vatCplDataRead a => exact execVatCplDataRead_keeps a hk
  | vatCplDataWrite a v => exact execVatCplDataWrite_keeps a v hk
  | vatCplForwardTimeout id => exact execVatCplForwardTimeout_keeps id hk
  | vatClearReplAgree a v => exact execVatClearReplAgree_keeps a v hk
  | vatClearPrivDeny a v => exact execVatClearPrivDeny_keeps a v hk
  | vatClearAptDrop a v => exact execVatClearAptDrop_keeps a v hk
  | seqCmpEnWrite a v => exact execSeqCmpEnWrite_keeps a v hk
  | mtpWinCmdOpen a v => exact execMtpWinCmdOpen_keeps a v hk
  | mtpWinCmdClose a v => exact execMtpWinCmdClose_keeps a v hk
  | aperturePacketWrite a v => exact execAperturePacketWrite_keeps a v hk
  | ident rq => exact execIdent_keeps rq hk
  | authOpen rq priv keyId => exact execAuthOpen_keeps rq priv keyId hk
  | authProve rq session => exact execAuthProve_keeps rq session hk
  | authProveWindowExpiry session => exact execAuthProveWindowExpiry_keeps session hk
  | authClose rq => exact execAuthClose_keeps rq hk
  | sessionExpiry session => exact execSessionExpiry_keeps session hk
  | vatHealth rq => exact execVatHealth_keeps rq hk
  | ctxLoad rq f pr => exact execCtxLoad_keeps rq f pr hk
  | launchAt rq count => exact execLaunchAt_keeps rq count hk
  | ctxKill rq => exact execCtxKill_keeps rq hk
  | ctxStatus rq => exact execCtxStatus_keeps rq hk
  | relaxSet rq part enable => exact execRelaxSet_keeps rq part enable hk
  | relaxRead rq part clear => exact execRelaxRead_keeps rq part clear hk
  | faultRead rq first count => exact execFaultRead_keeps rq first count hk
  | faultCfg rq template each thresh n w record => exact execFaultCfg_keeps rq template each thresh n w record hk
  | faultZero rq first count => exact execFaultZero_keeps rq first count hk
  | faultClear rq source => exact execFaultClear_keeps rq source hk
  | faultPending rq => exact execFaultPending_keeps rq hk
  | deckleRead rq die segment => exact execDeckleRead_keeps rq die segment hk
  | coreReturn rq pcore => exact execCoreReturn_keeps rq pcore hk
  | reset rq domain target => exact execReset_keeps rq domain target hk
  | ladderCfg rq part n w => exact execLadderCfg_keeps rq part n w hk
  | partRelease rq part => exact execPartRelease_keeps rq part hk
  | oosEnter rq => exact execOosEnter_keeps rq hk
  | serviceResume rq => exact execServiceResume_keeps rq hk
  | wmKeySet rq s0 s1 => exact execWmKeySet_keeps rq s0 s1 hk
  | wmRead rq first count => exact execWmRead_keeps rq first count hk
  | wmVerify rq => exact execWmVerify_keeps rq hk
  | wmVerifyReadDone ctx recs => exact execWmVerifyReadDone_keeps ctx recs hk
  | wmLocate rq refs samePlan => exact execWmLocate_keeps rq refs samePlan hk
  | replicaCfg rq group r index k => exact execReplicaCfg_keeps rq group r index k hk
  | replicaExpel rq group iter => exact execReplicaExpel_keeps rq group iter hk
  | replicaMembers rq r index => exact execReplicaMembers_keeps rq r index hk
  | ticketRead rq ticket => exact execTicketRead_keeps rq ticket hk
  | screenRun rq pcore kind => exact execScreenRun_keeps rq pcore kind hk
  | screenStatus rq => exact execScreenStatus_keeps rq hk
  | tortyWrite rq chunk bytes => exact execTortyWrite_keeps rq chunk bytes hk
  | tortyCommit rq kind len activation dieMask => exact execTortyCommit_keeps rq kind len activation dieMask hk
  | tortyFlashWriteDone kind => exact execTortyFlashWriteDone_keeps kind hk
  | reamAreaSet rq die off len => exact execReamAreaSet_keeps rq die off len hk
  | snapBegin rq snap iter point package delta deadline m => exact execSnapBegin_keeps rq snap iter point package delta deadline m hk
  | snapRelease rq snap => exact execSnapRelease_keeps rq snap hk
  | restore rq snap delta man crc g => exact execRestore_keeps rq snap delta man crc g hk
  | groupSet rq g => exact execGroupSet_keeps rq g hk
  | reclaim rq parts deadline => exact execReclaim_keeps rq parts deadline hk
  | snapDefault rq package base m => exact execSnapDefault_keeps rq package base m hk
  | vatSwitch rq => exact execVatSwitch_keeps rq hk
  | vatStandbyRetry rq => exact execVatStandbyRetry_keeps rq hk
  | fwBegin rq header => exact execFwBegin_keeps rq header hk
  | fwWrite rq off bytes => exact execFwWrite_keeps rq off bytes hk
  | fwCommit rq => exact execFwCommit_keeps rq hk
  | linkQual rq => exact execLinkQual_keeps rq hk
  | linkQualDone lanes => exact execLinkQualDone_keeps lanes hk
  | linkQualRead rq first count => exact execLinkQualRead_keeps rq first count hk
  | feltStatus rq => exact execFeltStatus_keeps rq hk
  | calSet rq field scope value => exact execCalSet_keeps rq field scope value hk
  | sensorSubst rq die sensor => exact execSensorSubst_keeps rq die sensor hk
  | analogLoopback rq lane bits errors => exact execAnalogLoopback_keeps rq lane bits errors hk
  | sensorRead rq die => exact execSensorRead_keeps rq die hk
  | licenceInstall rq raw => exact execLicenceInstall_keeps rq raw hk
  | licenceRead rq => exact execLicenceRead_keeps rq hk
  | watchSet rq index lc base len kinds tagMatch action => exact execWatchSet_keeps rq index lc base len kinds tagMatch action hk
  | watchClear rq lc index => exact execWatchClear_keeps rq lc index hk
  | brkSet rq kind scope arg arg2 => exact execBrkSet_keeps rq kind scope arg arg2 hk
  | brkClear rq number => exact execBrkClear_keeps rq number hk
  | brkResume rq run => exact execBrkResume_keeps rq run hk
  | gstop rq => exact execGstop_keeps rq hk
  | gstopRelease rq resume => exact execGstopRelease_keeps rq resume hk
  | stopRead rq first count => exact execStopRead_keeps rq first count hk
  | dump rq lock units => exact execDump_keeps rq lock units hk
  | dumpRead rq off unlock => exact execDumpRead_keeps rq off unlock hk
  | ringRead rq ring target first count clear => exact execRingRead_keeps rq ring target first count clear hk
  | counterRead rq pcore count clear => exact execCounterRead_keeps rq pcore count clear hk
  | profRead rq die first count => exact execProfRead_keeps rq die first count hk
  | profClear rq die => exact execProfClear_keeps rq die hk
  | recRead rq area first count => exact execRecRead_keeps rq area first count hk
  | recClear rq scope => exact execRecClear_keeps rq scope hk
  | badopCommandPacket path opcode tag crc lenOk => exact execBadopCommandPacket_keeps path opcode tag crc lenOk hk
  | setEndpointId hub i3c eid setter => exact execSetEndpointId_keeps hub i3c eid setter hk
  | getEndpointId hub i3c => exact execGetEndpointId_keeps hub i3c hk
  | getMctpVersionSupport hub i3c msgType => exact execGetMctpVersionSupport_keeps hub i3c msgType hk
  | getMessageTypeSupport hub i3c => exact execGetMessageTypeSupport_keeps hub i3c hk
  | getVendorDefinedMessageSupport hub i3c => exact execGetVendorDefinedMessageSupport_keeps hub i3c hk
  | getTid hub => exact execGetTid_keeps hub hk
  | getPldmVersion hub pldmType => exact execGetPldmVersion_keeps hub pldmType hk
  | getPldmTypes hub => exact execGetPldmTypes_keeps hub hk
  | getPldmCommands hub pldmType => exact execGetPldmCommands_keeps hub pldmType hk
  | getPdrRepositoryInfo hub => exact execGetPdrRepositoryInfo_keeps hub hk
  | getPdr hub record => exact execGetPdr_keeps hub record hk
  | getSensorReading hub sensor => exact execGetSensorReading_keeps hub sensor hk
  | getStateSensorReadings hub sensor => exact execGetStateSensorReadings_keeps hub sensor hk
  | entdaa hub addr => exact execEntdaa_keeps hub addr hk
  | bridgeInboundAdmit hub => exact execBridgeInboundAdmit_keeps hub hk
  | releaseUnitOpen core descIdx spec last => exact execReleaseUnitOpen_keeps core descIdx spec last hk
  | issueStep core kind seqA seqB pressPoint => exact execIssueStep_keeps core kind seqA seqB pressPoint hk
  | accumulatorAdd core ticket row col acc addend scale => exact execAccumulatorAdd_keeps core ticket row col acc addend scale hk
  | laidCheckResolve core ticket rows csv => exact execLaidCheckResolve_keeps core ticket rows csv hk
  | roundedGroupCheck core ticket group expo mants accs place last => exact execRoundedGroupCheck_keeps core ticket group expo mants accs place last hk
  | dispatchTallyCheck core ticket taus n tally => exact execDispatchTallyCheck_keeps core ticket taus n tally hk
  | pairDigest h r => exact execPairDigest_keeps h r hk
  | laidRes h r => exact execLaidRes_keeps h r hk
  | scratchpadAccess core x => exact execScratchpadAccess_keeps core x hk
  | joinPartialArrival core ticket join fromLc acc value poisoned => exact execJoinPartialArrival_keeps core ticket join fromLc acc value poisoned hk
  | releaseGateTransfer core ticket dst words decision last => exact execReleaseGateTransfer_keeps core ticket dst words decision last hk
  | checkerRail core => exact execCheckerRail_keeps core hk
  | dataTransferArrival x => exact execDataTransferArrival_keeps x hk
  | meshAccessAtFence die reply => exact execMeshAccessAtFence_keeps die reply hk
  | d2dCodewordError die link corrected => exact execD2dCodewordError_keeps die link corrected hk
  | routerBufferEcc die cluster corrected => exact execRouterBufferEcc_keeps die cluster corrected hk
  | clusterBufferEcc die cluster corrected => exact execClusterBufferEcc_keeps die cluster corrected hk
  | uncorrCw die engine lane => exact execUncorrCw_keeps die engine lane hk
  | agentInternal die => exact execAgentInternal_keeps die hk
  | ticketState core => exact execTicketState_keeps core hk
  | counterParity core screen => exact execCounterParity_keeps core screen hk
  | verdict h ticket pass => exact execVerdict_keeps h ticket pass hk
  | faultReport h words => exact execFaultReport_keeps h words hk
  | triageStageADone core r digest => exact execTriageStageADone_keeps core r digest hk
  | stageANotCompleted core => exact execStageANotCompleted_keeps core hk
  | tapSelftestDone core cases => exact execTapSelftestDone_keeps core cases hk
  | spareFillDone lc sent received => exact execSpareFillDone_keeps lc sent received hk
  | triageStageBDone core r digest => exact execTriageStageBDone_keeps core r digest hk
  | replacementReplayDone lc => exact execReplacementReplayDone_keeps lc hk
  | replacementStart lc => exact execReplacementStart_keeps lc hk
  | plannedReplaceSpareTimeout lc => exact execPlannedReplaceSpareTimeout_keeps lc hk
  | latePlacement lc spare => exact execLatePlacement_keeps lc spare hk
  | poolLoan h die block => exact execPoolLoan_keeps h die block hk
  | poolBlockReturn die => exact execPoolBlockReturn_keeps die hk
  | sizingWindowLeaseRequest core start len => exact execSizingWindowLeaseRequest_keeps core start len hk
  | sizingWindowForfeit die => exact execSizingWindowForfeit_keeps die hk
  | sliceStart die core => exact execSliceStart_keeps die core hk
  | shiftSegmentDone die misr => exact execShiftSegmentDone_keeps die misr hk
  | sliceEnd die retained => exact execSliceEnd_keeps die retained hk
  | leaseReq h kind => exact execLeaseReq_keeps h kind hk
  | leaseGrant h die kind expiry => exact execLeaseGrant_keeps h die kind expiry hk
  | leaseReturn h => exact execLeaseReturn_keeps h hk
  | leaseExpiry die => exact execLeaseExpiry_keeps die hk
  | leaseRetryTick die => exact execLeaseRetryTick_keeps die hk
  | leaseBlackoutEnd => exact execLeaseBlackoutEnd_keeps hk
  | relaxedStallScan core reason awaited => exact execRelaxedStallScan_keeps core reason awaited hk
  | screenLate core => exact execScreenLate_keeps core hk
  | screenOverdue core => exact execScreenOverdue_keeps core hk
  | fleetStale => exact execFleetStale_keeps hk
  | distOpen h die dist kind chunks hdr => exact execDistOpen_keeps h die dist kind chunks hdr hk
  | stagingCopyDone die => exact execStagingCopyDone_keeps die hk
  | chunkPaceTick kind => exact execChunkPaceTick_keeps kind hk
  | chunk die dist number bytes crc => exact execChunk_keeps die dist number bytes crc hk
  | distPoll h die dist => exact execDistPoll_keeps h die dist hk
  | bitmap h dist words => exact execBitmap_keeps h dist words hk
  | payloadHashDone die => exact execPayloadHashDone_keeps die hk
  | distAgentAnswer h dist answer => exact execDistAgentAnswer_keeps h dist answer hk
  | distArm h die dist count => exact execDistArm_keeps h die dist count hk
  | distAckDeadline kind => exact execDistAckDeadline_keeps kind hk
  | distDisarm h die dist => exact execDistDisarm_keeps h die dist hk
  | distActivation die => exact execDistActivation_keeps die hk
  | ucodeBankSwitch die => exact execUcodeBankSwitch_keeps die hk
  | firstStageForward die => exact execFirstStageForward_keeps die hk
  | countFwd h batches => exact execCountFwd_keeps h batches hk
  | react h die r => exact execReact_keeps h die r hk
  | nmi h die source => exact execNmi_keeps h die source hk
  | intPostTick => exact execIntPostTick_keeps hk
  | msiAcceptTimeout => exact execMsiAcceptTimeout_keeps hk
  | notifySourceSecondEnd source => exact execNotifySourceSecondEnd_keeps source hk
  | mgmtLinkUp hub => exact execMgmtLinkUp_keeps hub hk
  | mgmtLinkDown hub => exact execMgmtLinkDown_keeps hub hk
  | i3cNotifyRead => exact execI3cNotifyRead_keeps hk
  | notifyRelay h number => exact execNotifyRelay_keeps h number hk
  | hangWatchdogExpiry core => exact execHangWatchdogExpiry_keeps core hk
  | hangWalk h w => exact execHangWalk_keeps h w hk
  | hangFreezeTimeout core => exact execHangFreezeTimeout_keeps core hk
  | tagRevoke h die tag => exact execTagRevoke_keeps h die tag hk
  | teardownDrainEnd ctx discarded barrier => exact execTeardownDrainEnd_keeps ctx discarded barrier hk
  | scrubDone ctx => exact execScrubDone_keeps ctx hk
  | teardownOverrun ctx cores => exact execTeardownOverrun_keeps ctx cores hk
  | fenceCmd h die o => exact execFenceCmd_keeps h die o hk
  | freeze h die cores reason => exact execFreeze_keeps h die cores reason hk
  | genSet h die group gen => exact execGenSet_keeps h die group gen hk
  | domainResetDone domain target => exact execDomainResetDone_keeps domain target hk
  | resetOverrun domain target => exact execResetOverrun_keeps domain target hk
  | agentResetDone die => exact execAgentResetDone_keeps die hk
  | powerCycleReqRepeat => exact execPowerCycleReqRepeat_keeps hk
  | riskRecompute => exact execRiskRecompute_keeps hk
  | xpkgWait core => exact execXpkgWait_keeps core hk
  | snapPointReached lc => exact execSnapPointReached_keeps lc hk
  | snapBarrierComplete ctx poisoned => exact execSnapBarrierComplete_keeps ctx poisoned hk
  | snapHolderAck ctx ream shard words poisoned failed set => exact execSnapHolderAck_keeps ctx ream shard words poisoned failed set hk
  | snapDeadlineExpiry ctx => exact execSnapDeadlineExpiry_keeps ctx hk
  | manifest h ctx man => exact execManifest_keeps h ctx man hk
  | restoreGatherDone ctx remote poisoned set => exact execRestoreGatherDone_keeps ctx remote poisoned set hk
  | reclaimAutoSnapTimeout ctx => exact execReclaimAutoSnapTimeout_keeps ctx hk
  | reclaimDeadline => exact execReclaimDeadline_keeps hk
  | wmDie h ctx layer oper r => exact execWmDie_keeps h ctx layer oper r hk
  | replPart h ctx iter r => exact execReplPart_keeps h ctx iter r hk
  | replicaSlotRead ctx recs conflict => exact execReplicaSlotRead_keeps ctx recs conflict hk
  | replicaRereadDone ctx shards => exact execReplicaRereadDone_keeps ctx shards hk
  | replicaRereadExchange ctx group iter other otherInPass tensors otherFailing => exact execReplicaRereadExchange_keeps ctx group iter other otherInPass tensors otherFailing hk
  | livePeriod => exact execLivePeriod_keeps hk
  | live h die => exact execLive_keeps h die hk
  | stbyLivePeriod => exact execStbyLivePeriod_keeps hk
  | stbyLive h r => exact execStbyLive_keeps h r hk
  | bridged h payload => exact execBridged_keeps h payload hk
  | agentReply h id value error => exact execAgentReply_keeps h id value error hk
  | stopTable h words => exact execStopTable_keeps h words hk
  | feltDump h off bytes => exact execFeltDump_keeps h off bytes hk
  | liveTimeout => exact execLiveTimeout_keeps hk
  | fwWatchdogExpiry => exact execFwWatchdogExpiry_keeps hk
  | activeVatFault trigger source => exact execActiveVatFault_keeps trigger source hk
  | vatFailed h trigger => exact execVatFailed_keeps h trigger hk
  | noStandbyReset => exact execNoStandbyReset_keeps hk
  | gateConfirm h => exact execGateConfirm_keeps h hk
  | deposeGateTimeout => exact execDeposeGateTimeout_keeps hk
  | depose h die gated => exact execDepose_keeps h die gated hk
  | announce h die => exact execAnnounce_keeps h die hk
  | announceReturn h => exact execAnnounceReturn_keeps h hk
  | epochStale h hub epoch => exact execEpochStale_keeps h hub epoch hk
  | stbyLiveTimeout => exact execStbyLiveTimeout_keeps hk
  | mirror h seq => exact execMirror_keeps h seq hk
  | mirrorSynced => exact execMirrorSynced_keeps hk
  | standbySelftestItemDone item pass => exact execStandbySelftestItemDone_keeps item pass hk
  | vatBLoadStart => exact execVatBLoadStart_keeps hk
  | fwLoadDone hub readErrors => exact execFwLoadDone_keeps hub readErrors hk
  | transitFrame die port flits => exact execTransitFrame_keeps die port flits hk
  | feltSpacerTimeout die port => exact execFeltSpacerTimeout_keeps die port hk
  | feltAck h die txn status reelLo => exact execFeltAck_keeps h die txn status reelLo hk
  | credit die port data => exact execCredit_keeps die port data hk
  | idle die port => exact execIdle_keeps die port hk
  | probe die port value => exact execProbe_keeps die port value hk
  | echo die port value => exact execEcho_keeps die port value hk
  | probePeriod die port => exact execProbePeriod_keeps die port hk
  | linkDown die port => exact execLinkDown_keeps die port hk
  | creditTimeout die port => exact execCreditTimeout_keeps die port hk
  | linkSilenceTimeout die port => exact execLinkSilenceTimeout_keeps die port hk
  | partialTxnTimeout die src cls => exact execPartialTxnTimeout_keeps die src cls hk
  | txnResendTimeout die cls seq => exact execTxnResendTimeout_keeps die cls seq hk
  | ringBreak h die ring link => exact execRingBreak_keeps h die ring link hk
  | ringJoin h die ring link count => exact execRingJoin_keeps h die ring link count hk
  | ringJoinActivation die ring => exact execRingJoinActivation_keeps die ring hk
  | stationIsolation die => exact execStationIsolation_keeps die hk
  | stationIsolated die => exact execStationIsolated_keeps die hk
  | stopRise die => exact execStopRise_keeps die hk
  | barrier h die tag gen => exact execBarrier_keeps h die tag gen hk
  | barrierDrained die seq => exact execBarrierDrained_keeps die seq hk
  | agentCmd h die op => exact execAgentCmd_keeps h die op hk
  | laneBerWindowEnd c optical => exact execLaneBerWindowEnd_keeps c optical hk
  | feltLinkQualDone die port echoed errors => exact execFeltLinkQualDone_keeps die port echoed errors hk
  | alignProbe h die value => exact execAlignProbe_keeps h die value hk
  | alignEcho die neighbour port rt1 rt2 rt3 => exact execAlignEcho_keeps die neighbour port rt1 rt2 rt3 hk
  | alignSet h die t halfRt edgeIn => exact execAlignSet_keeps h die t halfRt edgeIn hk
  | alignDone => exact execAlignDone_keeps hk
  | reelCompareTick die => exact execReelCompareTick_keeps die hk
  | reelCmp h die count => exact execReelCmp_keeps h die count hk
  | reelCorrectionResume die => exact execReelCorrectionResume_keeps die hk
  | reelLockLoss die => exact execReelLockLoss_keeps die hk
  | reelLockReturn die => exact execReelLockReturn_keeps die hk
  | refLoss => exact execRefLoss_keeps hk
  | launchArm h die ctx count => exact execLaunchArm_keeps h die ctx count hk
  | launchRelease die ctx => exact execLaunchRelease_keeps die ctx hk
  | stallIntervalSaturate region => exact execStallIntervalSaturate_keeps region hk
  | tempSample die sensor raw => exact execTempSample_keeps die sensor raw hk
  | vmonSample die monitor raw nominal => exact execVmonSample_keeps die monitor raw nominal hk
  | paceSample die monitor raw => exact execPaceSample_keeps die monitor raw hk
  | sensorRefCheck die sensor value ref => exact execSensorRefCheck_keeps die sensor value ref hk
  | analogBistSlice die item index measured second signal => exact execAnalogBistSlice_keeps die item index measured second signal hk
  | brkAddrTrap die addr => exact execBrkAddrTrap_keeps die addr hk
  | brkDrainEnd ctx => exact execBrkDrainEnd_keeps ctx hk
  | brkHoldScreen core => exact execBrkHoldScreen_keeps core hk
  | gstopJtag hub => exact execGstopJtag_keeps hub hk
  | gstopRel h die count => exact execGstopRel_keeps h die count hk
  | gstopReleaseActivation => exact execGstopReleaseActivation_keeps hk
  | dumpUnitDone markerOk image => exact execDumpUnitDone_keeps markerOk image hk
  | dumpUnitTimeout => exact execDumpUnitTimeout_keeps hk
  | recordWriteDone hub ok retryOk => exact execRecordWriteDone_keeps hub ok retryOk hk
  | hoursPersistTick => exact execHoursPersistTick_keeps hk
  | sysRstNRelease => exact execSysRstNRelease_keeps hk
  | sysRstNAssert => exact execSysRstNAssert_keeps hk
  | powerLoss => exact execPowerLoss_keeps hk
  | vatSelfBistDone hub logicOk memoryOk test => exact execVatSelfBistDone_keeps hub logicOk memoryOk test hk
  | agentSelfBistDone die ok calOk test => exact execAgentSelfBistDone_keeps die ok calOk test hk
  | startupScreenTimeout => exact execStartupScreenTimeout_keeps hk
  | deckleMapBuild => exact execDeckleMapBuild_keeps hk
  | inboundBridgedMessage hub i3c payload => exact execInboundBridgedMessage_keeps hub i3c payload hk
  | messageInterruptAccepted => exact execMessageInterruptAccepted_keeps hk
  | partitionAssignment die part => exact execPartitionAssignment_keeps die part hk
  | unsupportedPldmCommand hub pldmType command => exact execUnsupportedPldmCommand_keeps hub pldmType command hk

/-- What every command keeps. -/
theorem exec_keepsStores (i : Instr) (h : Keeps false s0 s) : Nexts false s0 (exec i s) := by
  cases hi : setsKeys i with
  | true => exact exec_keeps_of_setsKeys i hi h
  | false => exact exec_keeps i hi h

end

/-! ## Steps and canonical stores -/

theorem canonical_iff (s : State) : s.canonical = true ↔ twf {} s.dies = true ∧ twf {} s.cores = true ∧ twf {} s.lcs = true := by
  simp only [State.canonical, Bool.and_eq_true, and_assoc]
theorem canonical_of_keeps {kp : Bool} {s t : State} (h : Keeps kp s t) (hs : s.canonical = true) : t.canonical = true := by
  obtain ⟨hd, hc, hl⟩ := (canonical_iff s).mp hs
  exact (canonical_iff t).mpr ⟨h.dies hd, h.cores hc, h.lcs hl⟩
/-- What waited and is handled is taken out of the Vat's mirrored part: the per-part stores are those of the state. -/
theorem released_canonical {s t : State} {c : Instr} (h : s.released = some (c, t)) (hs : s.canonical = true) : t.canonical = true := by
  unfold State.released at h
  split at h
  · contradiction
  · split at h
    · cases h; exact hs
    · cases h; exact hs
    · split at h
      · contradiction
      · obtain ⟨e, -, he⟩ := List.exists_of_findSome?_eq_some h
        split at he
        · cases he; exact hs
        · contradiction

/-- Settles O52: each command's meaning keeps the stores canonical, whichever command the step takes; what it takes the command from is no per-part store. -/
theorem stepKeepsStoresCanonical : Obligations.StepKeepsStoresCanonical := by
  intro s t hs hstep
  unfold step at hstep
  split at hstep
  · split at hstep
    · next c u hrel => exact canonical_of_keeps ((exec_keepsStores c (Keeps.refl _ u)).keeps t hstep) (released_canonical hrel hs)
    · cases hstep
      exact canonical_of_keeps (idle_keeps (Keeps.refl false s)) hs
  · next c rest _ => exact canonical_of_keeps ((exec_keepsStores c (Keeps.refl _ { s with pending := rest })).keeps t hstep) hs

/-- Settles O55: what `Keeps` says of every command, its data of the package taken apart. -/
theorem commandsKeepQueueOutputsAndFactoryData : Obligations.CommandsKeepQueueOutputsAndFactoryData := by
  intro i s t hexec
  have h := (exec_keepsStores i (Keeps.refl false s)).keeps t hexec
  have hf := h.factory
  simp only [factory, Prod.mk.injEq] at hf
  obtain ⟨huid, hvendor, hbad, -, hplace, hgain, hoff, -, -, -, -, hspad, -⟩ := hf
  refine ⟨h.pending, h.out, h.fresh, huid, hvendor, hbad, hplace, hgain, hoff, hspad, ?_⟩
  intro hlife henroll hrevoke
  have hi : setsKeys i = false := by
    cases i with
    | lifecycleSet rq n => exact absurd rfl (hlife rq n)
    | keyEnroll rq a b c d e f => exact absurd rfl (henroll rq a b c d e f)
    | keyRevoke rq a b => exact absurd rfl (hrevoke rq a b)
    | _ => rfl
  have hk := ((exec_keeps (kp := true) i hi (Keeps.refl true s)).keeps t hexec).factory
  simp only [factory, if_true, Prod.mk.injEq] at hk
  obtain ⟨-, -, -, -, -, -, -, -, -, -, -, -, hlc, hret, hkeys⟩ := hk
  exact ⟨hlc, hret, hkeys⟩

/-! ## The reset state, the step, and parts that do not exist -/

/-- Settles O53: each part of the reset state is its default. -/
theorem resetState : Obligations.ResetState := by
  have hpart (d : Nat) : State.reset.partOf d = 0 := rfl
  exact ⟨rfl, rfl, rfl, rfl, rfl, rfl, rfl, rfl, rfl, rfl, rfl, rfl, hpart⟩

/-- Settles O54: the branches of `step`, and no word spells a command. -/
theorem stepTakesTheFrontCommand : Obligations.StepTakesTheFrontCommand := by
  refine ⟨fun c l s => rfl, ?_, ?_, fun s n w => rfl⟩
  · intro s c t hp hr
    simp [step, hp, hr]
  · intro s hp hr
    simp [step, hp, hr]

end Sys2Proof.Machine
end

section
/-! SUPPORT. Operations that later proofs share: the guard on identifiers, packets that are taken and answered, and what bookkeeping leaves unchanged. -/

namespace Sys2Proof.Machine

/-! ## The guard on identifiers (R6) -/

theorem guardId_of_false {b : Bool} {t : State} (h : b = false) : guardId b t = .fault .invalidIdentifier := by simp [guardId, h]
theorem guardId_of_true {b : Bool} {t : State} (h : b = true) : guardId b t = .next t := by simp [guardId, h]

/-- Settles O59: every one of these commands is guarded by the range of the identifier that it names. -/
theorem missingPartsAreFaults : Obligations.MissingPartsAreFaults := by
  intro s
  refine ⟨fun h d hd => guardId_of_false ?_, fun p hp => guardId_of_false hp, fun n hn => guardId_of_false ?_,
    fun d c hc => guardId_of_false ?_, fun d c e hc => guardId_of_false ?_, fun d port hp => guardId_of_false ?_,
    fun d ring hr => guardId_of_false ?_, fun d n raw hn => guardId_of_false ?_, fun d part hp => guardId_of_false ?_⟩
  · exact decide_eq_false (by omega)
  · exact decide_eq_false (by omega)
  all_goals rw [Bool.and_eq_false_iff]; exact .inr (decide_eq_false (by omega))

end Sys2Proof.Machine
end

section
/-! SUPPORT. Packets that are taken (R408-R427): what `State.command` comes down to, and what the requester finds of a reply. -/

namespace Sys2Proof.Machine

section
variable (s : State) (rq : Req)

/-! ## What every packet that is taken leaves in its session and among the retained replies -/

/-- The state in which a packet's own effect runs: a retained reply of its tag is gone, and its session's last command is this one (R416, R425). -/
def State.entered (signed : Bool) : State :=
  (s.modSh fun h => { h with retained := h.retained.filter fun x => x.path != rq.path || x.tag != rq.tag }).touch rq signed

/-- A state but for its sessions and retained replies. -/
def State.taken (a : Table (Option Session)) (b : List Retained) : State := { s with sh := { s.sh with sessions := a, retained := b } }
/-- A packet's entry changes the sessions and the retained replies alone. -/
theorem entered_eq (signed : Bool) : ∃ a b, s.entered rq signed = s.taken a b := by
  unfold State.entered State.touch
  split
  · exact ⟨_, _, rfl⟩
  · exact ⟨_, _, rfl⟩
  · exact ⟨_, _, rfl⟩

theorem takes_iff (op : OpInfo) (ctxs : List Nat) (ok : Bool) : s.takes rq op ctxs ok = true ↔
    s.acting.isSome = true ∧ (pathHub rq.path = none ∨ s.sh.gap = none) ∧
    (pathHub rq.path = none ∨ pathHub rq.path = s.acting ∨ op.code = 0x0005) ∧ s.duplicate rq op.code = none ∧
    s.checkPacket rq op ctxs ok = none ∧ s.atLimit rq = false ∧
    (rq.priv ≠ .tenant ∨ op.code = 0x0100 ∨ op.code = 0x0102 ∨ ∀ c ∈ ctxs, (s.ctx c).state ≠ 3) := by
  simp only [State.takes, Bool.and_eq_true, Bool.or_eq_true, beq_iff_eq, Option.isNone_iff_eq_none, Bool.not_eq_true', bne_iff_ne, ne_eq,
    List.all_eq_true, and_assoc, or_assoc]

theorem of_ite_neg {α : Type} {c : Prop} [Decidable c] {P : α → Prop} {a b : α} (hc : ¬ c) (h : P b) : P (if c then a else b) := by rwa [if_neg hc]
/-- A taken packet passes its port and the duplicates: what is left are the checks of Table 13.3 and the limits. -/
theorem command_cases {i : Instr} {op : OpInfo} {ctxs : List Nat} {ok : Bool} {f : State → State} {P : State → Prop} (hact : s.acting.isSome = true)
    (hgap : pathHub rq.path = none ∨ s.sh.gap = none) (hport : pathHub rq.path = none ∨ pathHub rq.path = s.acting ∨ op.code = 0x0005)
    (hdup : s.duplicate rq op.code = none) (hlim : s.atLimit rq = false)
    (htear : rq.priv ≠ .tenant ∨ op.code = 0x0100 ∨ op.code = 0x0102 ∨ ∀ c ∈ ctxs, (s.ctx c).state ≠ 3)
    (hfail : ∀ st r (t : State), s.checkPacket rq op ctxs ok = some (st, r) → P (t.finish rq op.code st [] (if st = stDenied then [(32, r)] else [])))
    (hrun : s.checkPacket rq op ctxs ok = none → P (f (s.entered rq op.signed))) : P (s.command i rq op ctxs ok f) := by
  obtain ⟨v, hv⟩ := Option.isSome_iff_exists.mp hact
  have hheld : (s.sh.gap.isSome && pathHub rq.path != none) = false := by
    obtain h | h := hgap <;> simp [h]
  have hsame (b : Bool) : (s.entered rq b).atLimit rq = s.atLimit rq ∧ ∀ c, (s.entered rq b).ctx c = s.ctx c := by
    obtain ⟨_, _, h⟩ := entered_eq s rq b
    rw [h]; exact ⟨rfl, fun _ => rfl⟩
  have hcheck (g : Shared → List Retained) : (s.modSh fun h => { h with retained := g h }).checkPacket rq op ctxs ok = s.checkPacket rq op ctxs ok := rfl
  have hlimit (g : Shared → List Retained) : (s.modSh fun h => { h with retained := g h }).atLimit rq = s.atLimit rq := rfl
  unfold State.command
  simp only [hheld, Bool.false_eq_true, if_false]
  split
  · next h => rw [hv] at h; contradiction
  · next w hw =>
    obtain rfl : w = v := Option.some.inj (hw.symm.trans hv)
    refine of_ite_neg ?_ ?_
    · rw [hv] at hport
      simp only [Bool.and_eq_true, bne_iff_ne, ne_eq, not_and]
      intro hne hcode
      obtain h | h | h := hport
      · simp [h] at hne
      · simp [h] at hne
      · exact hcode h
    · split
      · next h => rw [hdup] at h; contradiction
      · split
        · next st r h => exact hfail st r _ h
        · next h =>
          have hrun := hrun h
          simp only [hlimit, hlim, Bool.not_false, Bool.and_true]
          change P (if (s.entered rq op.signed).atLimit rq = true then _ else if (_ && ctxs.any (fun c => ((s.entered rq op.signed).ctx c).state == 3)) = true
            then _ else f (s.entered rq op.signed))
          simp only [(hsame _).1, (hsame _).2, hlim, Bool.false_eq_true, if_false]
          rw [if_neg]
          · exact hrun
          · simp only [Bool.and_eq_true, decide_eq_true_eq, bne_iff_ne, ne_eq, List.any_eq_true, beq_iff_eq]
            rintro ⟨⟨⟨hp, h100⟩, h102⟩, c, hc, hs⟩
            obtain h | h | h | h := htear
            · exact h hp
            · exact h100 h
            · exact h102 h
            · exact h c hc hs

variable {s rq}

/-- A packet that is taken and needs no signature runs its own effect. -/
theorem command_of_takes {i : Instr} {op : OpInfo} {ctxs : List Nat} {ok : Bool} {f : State → State} (h : s.takes rq op ctxs ok = true)
    (hsigned : op.signed = false) : s.command i rq op ctxs ok f = f (s.entered rq false) := by
  obtain ⟨hact, hgap, hport, hdup, hcheck, hlim, htear⟩ := (takes_iff s rq op ctxs ok).mp h
  refine command_cases s rq (P := fun t => t = _) hact hgap hport hdup hlim htear (fun st r t hf => ?_) fun _ => ?_
  · rw [hcheck] at hf; contradiction
  · rw [hsigned]

/-! ## Signatures (R425) -/

theorem of_ite_some_eq_none {α : Type} {c : Prop} [Decidable c] {x : α} {a : Option α} (h : (if c then some x else a) = none) : ¬ c ∧ a = none := by
  split at h
  · contradiction
  · exact ⟨‹_›, h⟩
/-- Of the checks of Table 13.3, the signature is one: without it a packet fails the same checks, or at step 3 for the signature. -/
theorem checkPacket_signed (op : OpInfo) (ps : List (Nat × Nat)) (ctxs : List Nat) (ok : Bool) (h : s.checkPacket rq op ctxs ok = none) : s.checkPacket rq { op with signed := true, params := ps } ctxs ok =
      if s.signedOk rq { op with signed := true, params := ps } then none else some (stDenied, 3) := by
  unfold State.checkPacket at h ⊢
  obtain ⟨hlen, h⟩ := of_ite_some_eq_none h
  obtain ⟨hnone, h⟩ := of_ite_some_eq_none h
  obtain ⟨hsession, h⟩ := of_ite_some_eq_none h
  obtain ⟨hpath, h⟩ := of_ite_some_eq_none h
  obtain ⟨-, h⟩ := of_ite_some_eq_none h
  refine (if_neg hlen).trans <| (if_neg hnone).trans <| (if_neg hsession).trans <| (if_neg hpath).trans ?_
  cases hs : s.signedOk rq { op with signed := true, params := ps } with
  | true => exact (if_neg (by simp)).trans h
  | false => exact if_pos rfl

/-- A packet that is taken and needs a signature runs its own effect when the signature verifies; else it is answered with ST_DENIED and reason 3. -/
theorem command_of_takes_signed {i : Instr} {op : OpInfo} {ps : List (Nat × Nat)} {ctxs : List Nat} {ok : Bool} {f : State → State} {P : State → Prop}
    (h : s.takes rq op ctxs ok = true)
    (hrun : s.signedOk rq { op with signed := true, params := ps } = true → P (f (s.entered rq true)))
    (hdeny : s.signedOk rq { op with signed := true, params := ps } = false → ∀ t : State, P (t.finish rq op.code stDenied [] [(32, 3)])) :
    P (s.command i rq { op with signed := true, params := ps } ctxs ok f) := by
  obtain ⟨hact, hgap, hport, hdup, hcheck, hlim, htear⟩ := (takes_iff s rq op ctxs ok).mp h
  have hsig := checkPacket_signed op ps ctxs ok hcheck
  refine command_cases s rq hact hgap hport hdup hlim htear (fun st r t hf => ?_) fun hn => ?_
  · cases hok : s.signedOk rq { op with signed := true, params := ps } with
    | true => simp [hsig, hok] at hf
    | false =>
      obtain ⟨rfl, rfl⟩ : stDenied = st ∧ 3 = r := by simpa [hsig, hok] using hf
      exact hdeny hok t
  · cases hok : s.signedOk rq { op with signed := true, params := ps } with
    | true => exact hrun hok
    | false => simp [hsig, hok] at hn

/-! ## Replies (R406, R414, R416) -/

/-- The requester finds a reply that has just been given. -/
theorem replyAt_deliver (t : State) (path : Path) (tag crc : Nat) (r : Reply) : (t.deliver path tag crc r).replyAt path tag crc = some r := by
  cases path with
  | aperture k => simp [State.replyAt, State.deliver]
  | mgmt hub eid => simp [State.replyAt, State.deliver, retain]
  | i3c hub eid => simp [State.replyAt, State.deliver, retain]
/-- A command that completes is answered; success with a clamp reads ST_CLAMPED (R420). -/
theorem answers_finish (t : State) (op st : Nat) (cl : List Clamp) (data : List (Nat × Nat)) :
    (t.finish rq op st cl data).answers rq op (if st = 0 ∧ cl ≠ [] then 2 else st) data := by
  refine ⟨_, replyAt_deliver .., rfl, rfl, ?_, rfl⟩
  simp [State.mkReply]
theorem answers_finish_nil (t : State) (op st : Nat) (data : List (Nat × Nat)) : (t.finish rq op st [] data).answers rq op st data := by
  simpa using answers_finish (rq := rq) t op st [] data
theorem answers_finish_of {t : State} {op st : Nat} {data data' : List (Nat × Nat)} (h : data' = data) :
    (t.finish rq op st [] data').answers rq op st data := h ▸ answers_finish_nil t op st data'
theorem answers_refuse (t : State) (op st r : Nat) : (t.refuse rq op st r).answers rq op st [(32, r)] := answers_finish_nil t op st _
/-- A reply changes the outputs, the slots and the retained replies alone. -/
theorem deliver_eq (t : State) (path : Path) (tag crc : Nat) (r : Reply) :
    ∃ o a b, t.deliver path tag crc r = { t with out := o, sh := { t.sh with slots := a, retained := b } } := by
  cases path <;> exact ⟨_, _, _, rfl⟩
theorem finish_eq (t : State) (op st : Nat) (cl : List Clamp) (data : List (Nat × Nat)) :
    ∃ o a b, t.finish rq op st cl data = { t with out := o, sh := { t.sh with slots := a, retained := b } } := deliver_eq ..
/-- A command that starts to run is among the running ones. -/
theorem runs_beginRun (t : State) (op ctx arg : Nat) (cl : List Clamp) : (t.beginRun rq op ctx arg cl).runs rq op ctx := by
  refine ⟨{ path := rq.path, tag := rq.tag, crc := rq.crc, opcode := op, ctx := ctx, start := t.reel, clamps := cl, arg := arg }, ?_, rfl, rfl, rfl, rfl, rfl⟩
  unfold State.beginRun
  split <;> simp
/-- The start of a run changes the running commands and the slots alone. -/
theorem beginRun_eq (t : State) (op ctx arg : Nat) (cl : List Clamp) :
    ∃ a b, t.beginRun rq op ctx arg cl = { t with sh := { t.sh with runs := a, slots := b } } := by
  unfold State.beginRun
  split <;> exact ⟨_, _, rfl⟩

/-! ## What a statement about a packet comes down to -/

/-- A packet's command completes when its own effect does, in the state that the packet enters. -/
theorem gives_of_entered {i j : Instr} {op : OpInfo} {ctxs : List Nat} {ok : Bool} {f : State → State} {P : State → Prop}
    (h : s.takes rq op ctxs ok = true) (hexec : exec i s = .next (s.command j rq op ctxs ok f)) (hsigned : op.signed = false)
    (hP : P (f (s.entered rq false))) : Gives i s P := ⟨_, hexec, by rwa [command_of_takes h hsigned]⟩
/-- As `gives_of_entered`, for an effect that does not look at the sessions. -/
theorem gives_of_takes {i j : Instr} {op : OpInfo} {ctxs : List Nat} {ok : Bool} {f : State → State} {P : State → Prop}
    (h : s.takes rq op ctxs ok = true) (hexec : exec i s = .next (s.command j rq op ctxs ok f)) (hsigned : op.signed = false)
    (hP : ∀ a b, P (f (s.taken a b))) : Gives i s P := by
  refine gives_of_entered h hexec hsigned ?_
  obtain ⟨a, b, he⟩ := entered_eq s rq false
  rw [he]
  exact hP a b
/-- A signed packet's command completes when its own effect does, or with the refusal of its signature. -/
theorem gives_of_takes_signed {i j : Instr} {op : OpInfo} {ps : List (Nat × Nat)} {ctxs : List Nat} {ok : Bool} {f : State → State} {P : State → Prop}
    (h : s.takes rq op ctxs ok = true) (hexec : exec i s = .next (s.command j rq { op with signed := true, params := ps } ctxs ok f))
    (hsigns : s.signs i = s.signedOk rq { op with signed := true, params := ps }) (hP : ∀ a b, P (f (s.taken a b))) :
    Gives i s fun t => if s.signs i then P t else s.deniesSignature t rq op.code := by
  refine ⟨_, hexec, ?_⟩
  refine command_of_takes_signed (P := fun t => if s.signs i then P t else s.deniesSignature t rq op.code) h (fun hok => ?_) fun hno t => ?_
  · obtain ⟨a, b, he⟩ := entered_eq s rq true
    rw [if_pos (hsigns.trans hok), he]
    exact hP a b
  · rw [if_neg (by simp [hsigns, hno])]
    exact fun _ _ _ => answers_finish_nil ..

/-! ## A packet's entry leaves all else -/

variable (a : Table (Option Session)) (b : List Retained)
@[simp] theorem taken_pkg : (s.taken a b).pkg = s.pkg := rfl
@[simp] theorem taken_dbg : (s.taken a b).dbg = s.dbg := rfl
@[simp] theorem taken_vatA : (s.taken a b).vatA = s.vatA := rfl
@[simp] theorem taken_vatB : (s.taken a b).vatB = s.vatB := rfl
@[simp] theorem taken_dies : (s.taken a b).dies = s.dies := rfl
@[simp] theorem taken_cores : (s.taken a b).cores = s.cores := rfl
@[simp] theorem taken_lcs : (s.taken a b).lcs = s.lcs := rfl
@[simp] theorem taken_reel : (s.taken a b).reel = s.reel := rfl
@[simp] theorem taken_out : (s.taken a b).out = s.out := rfl
@[simp] theorem taken_fresh : (s.taken a b).fresh = s.fresh := rfl
@[simp] theorem taken_felt : (s.taken a b).felt = s.felt := rfl
@[simp] theorem taken_acting : (s.taken a b).acting = s.acting := rfl
@[simp] theorem taken_activeHub : (s.taken a b).activeHub = s.activeHub := rfl
@[simp] theorem taken_now : (s.taken a b).now = s.now := rfl
@[simp] theorem taken_epoch : (s.taken a b).epoch = s.epoch := rfl
@[simp] theorem taken_actDie : (s.taken a b).actDie = s.actDie := rfl
@[simp] theorem taken_die (d : Nat) : (s.taken a b).die d = s.die d := rfl
@[simp] theorem taken_core (p : Nat) : (s.taken a b).core p = s.core p := rfl
@[simp] theorem taken_lc (n : Nat) : (s.taken a b).lc n = s.lc n := rfl
@[simp] theorem taken_ctx (c : Nat) : (s.taken a b).ctx c = s.ctx c := rfl
@[simp] theorem taken_ticket (k : Nat) : (s.taken a b).ticket k = s.ticket k := rfl
@[simp] theorem taken_counter (k : Nat) : (s.taken a b).counter k = s.counter k := rfl
@[simp] theorem taken_cfg (k : Nat) : (s.taken a b).cfg k = s.cfg k := rfl
@[simp] theorem taken_lcOf (p : Nat) : (s.taken a b).lcOf p = s.lcOf p := rfl
@[simp] theorem taken_carrier (n : Nat) : (s.taken a b).carrier n = s.carrier n := rfl
@[simp] theorem taken_dieReel (d : Nat) : (s.taken a b).dieReel d = s.dieReel d := rfl
@[simp] theorem taken_tagOf (c : Nat) : (s.taken a b).tagOf c = s.tagOf c := rfl
@[simp] theorem taken_lcCtx (n : Nat) : (s.taken a b).lcCtx n = s.lcCtx n := rfl
@[simp] theorem taken_home (n : Nat) : (s.taken a b).home n = s.home n := rfl
@[simp] theorem taken_phys (p : Nat) : (s.taken a b).phys p = s.phys p := rfl
@[simp] theorem taken_dist (k : Nat) : (s.taken a b).dist k = s.dist k := rfl
@[simp] theorem taken_flashKind (k : Nat) : (s.taken a b).flashKind k = s.flashKind k := rfl
@[simp] theorem taken_vat (h : Hub) : (s.taken a b).vat h = s.vat h := by cases h <;> rfl
@[simp] theorem taken_sh : (s.taken a b).sh = { s.sh with sessions := a, retained := b } := rfl

end
end Sys2Proof.Machine
end

section
/-! SUPPORT. What leaves the machine, and what its bookkeeping (Felt's sending, the mirror, records, notifications, counters) leaves unchanged. -/

namespace Sys2Proof.Machine

/-! ## Outputs -/

theorem Emits.of_keeps {kp : Bool} {s t u : State} {o : Out} (h : Emits s t o) (hk : Keeps kp t u) : Emits s u o := by
  obtain ⟨l, hl, ho⟩ := h
  obtain ⟨m, hm⟩ := hk.out
  exact ⟨m ++ l, by rw [hm, hl, List.append_assoc], List.mem_append_right m ho⟩
theorem Emits.after_keeps {kp : Bool} {s t u : State} {o : Out} (hk : Keeps kp s t) (h : Emits t u o) : Emits s u o := by
  obtain ⟨l, hl, ho⟩ := h
  obtain ⟨m, hm⟩ := hk.out
  exact ⟨l ++ m, by rw [hl, hm, List.append_assoc], List.mem_append_left m ho⟩
theorem emits_emit (s : State) (o : Out) : Emits s (s.emit o) o := emits_head _ _ _ rfl
/-- The transaction that a sender sends next (R363). -/
def State.nextTxn (s : State) (src ty mode dst : Nat) (words : List Nat) (ring : Option Nat := none) : Txn :=
  { src := src, type := ty, mode := mode, dst := dst, seq := tget 0 s.felt.seq (src * 4 + typeClass ty), words := words, ring := ring }
theorem emits_feltSend (s : State) (src ty mode dst : Nat) (words : List Nat) (ring : Option Nat := none) :
    Emits s (s.feltSend src ty mode dst words ring) (.felt (s.nextTxn src ty mode dst words ring)) :=
  .after_keeps (inject_keeps _ (modFelt_keeps _ (Keeps.refl false s))) (emits_emit _ _)
theorem emits_ack (s : State) (die dst ty seq status : Nat) : Emits s (s.ack die dst ty seq status) (.ack die dst ty seq status 0) :=
  .after_keeps (inject_keeps _ (Keeps.refl false s)) (emits_emit _ _)

/-! ## Bookkeeping -/

/-- A Vat without its record queues and its counts of what waits for MRAM. -/
def Vat.sansBooks (v : Vat) : Vat := { v with lost := 0, lostFirst := 0, staging := [], writing := [], mramHeld := 0 }
/-- The Vats' mirrored part without the counters, the pending interrupts, and the queues and numbers of records, notifications and the mirror. -/
def Shared.sansBooks (h : Shared) : Shared :=
  { h with counters := [], pendingList := [], intNew := false, reactDue := [], recSeq := 0, heldRecs := [], noteNext := 0, mgmtQ := [], i3cQ := [],
           mgmtLost := (0, 0), i3cLost := (0, 0), pacing := [], mirrorSeq := 0, riskThresh := [] }
/-- A state without what bookkeeping changes: two states that agree here agree on everything else. -/
def State.sansBooks (s : State) : State :=
  { s with out := [], felt := {}, vatA := s.vatA.sansBooks, vatB := s.vatB.sansBooks, sh := s.sh.sansBooks }

section
variable (s : State)

theorem OnlyFelt.sansBooks {s t : State} (h : OnlyFelt s t) : t.sansBooks = s.sansBooks := by obtain ⟨n, o, rfl⟩ := h; rfl
theorem sansBooks_ite (c : Prop) [Decidable c] (t : State) (hs : s.sansBooks = t.sansBooks) : (if c then s else t).sansBooks = t.sansBooks := by
  split
  · exact hs
  · rfl

@[simp] theorem emit_sansBooks (o : Out) : (s.emit o).sansBooks = s.sansBooks := rfl
@[simp] theorem modFelt_sansBooks (f : Felt → Felt) : (s.modFelt f).sansBooks = s.sansBooks := rfl
@[simp] theorem modPort_sansBooks (k : Nat) (f : Port → Port) : (s.modPort k f).sansBooks = s.sansBooks := rfl
@[simp] theorem inject_sansBooks (t : Txn) : (s.inject t).sansBooks = s.sansBooks := ((OnlyFelt.refl s).inject t).sansBooks
@[simp] theorem enqueue_sansBooks (k : Nat) (l : List FeltFrame) : (s.enqueue k l).sansBooks = s.sansBooks := ((OnlyFelt.refl s).enqueue k l).sansBooks
@[simp] theorem control_sansBooks (k code data : Nat) : (s.control k code data).sansBooks = s.sansBooks :=
  ((OnlyFelt.refl s).control k code data).sansBooks
@[simp] theorem feltSend_sansBooks (src ty mode dst : Nat) (words : List Nat) (ring : Option Nat) :
    (s.feltSend src ty mode dst words ring).sansBooks = s.sansBooks := ((OnlyFelt.refl s).feltSend ..).sansBooks
@[simp] theorem vatSend_sansBooks (ty mode dst : Nat) (words : List Nat) : (s.vatSend ty mode dst words).sansBooks = s.sansBooks :=
  feltSend_sansBooks ..
@[simp] theorem ackWith_sansBooks (die dst ty seq status : Nat) (x : Option Nat) : (s.ackWith die dst ty seq status x).sansBooks = s.sansBooks := by
  simp [State.ackWith]
@[simp] theorem ack_sansBooks (die dst ty seq status : Nat) : (s.ack die dst ty seq status).sansBooks = s.sansBooks := ackWith_sansBooks ..
@[simp] theorem noteSeen_sansBooks (rcv src ty seq : Nat) : (s.noteSeen rcv src ty seq).sansBooks = s.sansBooks := rfl
@[simp] theorem hear_sansBooks (d : Nat) : (s.hear d).sansBooks = s.sansBooks := rfl
@[simp] theorem mirror_sansBooks : s.mirror.sansBooks = s.sansBooks := by
  unfold State.mirror
  split
  · rfl
  · dsimp only
    split
    · rfl
    · exact feltSend_sansBooks ..
@[simp] theorem mramWrite_sansBooks : s.mramWrite.sansBooks = s.sansBooks := by
  have h (v : Vat) : (if v.mramWin then v else { v with mramHeld := v.mramHeld + 1 }).sansBooks = v.sansBooks := by split <;> rfl
  exact congrArg₂ (fun a b => { s.sansBooks with vatA := a, vatB := b }) (h s.vatA) (h s.vatB)
@[simp] theorem postInt_sansBooks (src : Nat) : (s.postInt src).sansBooks = s.sansBooks := by
  unfold State.postInt
  split <;> rfl
@[simp] theorem bump_sansBooks (src m reel : Nat) : (s.bump src m reel).1.sansBooks = s.sansBooks := by
  unfold State.bump
  split
  · rfl
  · exact mirror_sansBooks _
@[simp] theorem sendI3c_sansBooks (n : Note) : (s.sendI3c n).sansBooks = s.sansBooks := rfl
@[simp] theorem sendMgmt_sansBooks (n : Note) : (s.sendMgmt n).sansBooks = s.sansBooks := by
  unfold State.sendMgmt
  dsimp only
  split
  · rfl
  · split
    · rfl
    · split
      · exact feltSend_sansBooks ..
      · rfl
@[simp] theorem sendNote_sansBooks (r : Rec) (held : Nat) : (s.sendNote r held).sansBooks = s.sansBooks := by
  simp only [State.sendNote, sendI3c_sansBooks, sendMgmt_sansBooks]; rfl
@[simp] theorem notify_sansBooks (r : Rec) : (s.notify r).sansBooks = s.sansBooks := by
  unfold State.notify
  split
  · split
    · rfl
    · exact sendNote_sansBooks ..
  · exact sendNote_sansBooks ..
@[simp] theorem written_sansBooks (r : Rec) : (s.written r).sansBooks = s.sansBooks := by
  unfold State.written
  split <;> simp
/-- A Vat's record queues are bookkeeping. -/
theorem modVat_sansBooks_of (h : Hub) (f : Vat → Vat) (hf : ∀ v, (f v).sansBooks = v.sansBooks) : (s.modVat h f).sansBooks = s.sansBooks := by
  cases h
  · exact congrArg (fun a => { s.sansBooks with vatA := a }) (hf s.vatA)
  · exact congrArg (fun a => { s.sansBooks with vatB := a }) (hf s.vatB)
@[simp] theorem dropRec_sansBooks (h : Hub) (r : Rec) : (s.dropRec h r).sansBooks = s.sansBooks := by
  have hv : (s.modVat h fun v => { v with lost := v.lost + 1, lostFirst := if v.lost = 0 then r.seq else v.lostFirst }).sansBooks = s.sansBooks :=
    modVat_sansBooks_of s h _ fun _ => rfl
  have hdue (t : State) (l : List (Nat × Nat)) : (t.modSh fun h => { h with reactDue := h.reactDue ++ l }).sansBooks = t.sansBooks := rfl
  simp [State.dropRec, apply_ite State.sansBooks, hdue, hv]
@[simp] theorem stage_sansBooks (h : Hub) (r : Rec) : (s.stage h r).sansBooks = s.sansBooks := by
  have hv (l : List Rec) : (s.modVat h fun v => { v with staging := l }).sansBooks = s.sansBooks := modVat_sansBooks_of s h _ fun _ => rfl
  unfold State.stage
  dsimp only
  split
  · exact hv _
  · split
    · simp
    · split <;> simp [hv]
@[simp] theorem hubEnter_sansBooks (h : Hub) (r : Rec) : (s.hubEnter h r).sansBooks = s.sansBooks := by
  unfold State.hubEnter
  dsimp only
  split
  · exact modVat_sansBooks_of s h _ fun _ => rfl
  · simp
@[simp] theorem enterRec_sansBooks (r : Rec) : (s.enterRec r).sansBooks = s.sansBooks := by
  have h (n : Nat) : (s.modSh fun h => { h with recSeq := (h.recSeq + 1) % n }).sansBooks = s.sansBooks := rfl
  unfold State.enterRec
  dsimp only
  split <;> simp [h]
@[simp] theorem recordAt_sansBooks (code severity source reel : Nat) (u : Bool) (p1 p2 p3 : Nat) :
    (s.recordAt code severity source reel u p1 p2 p3).sansBooks = s.sansBooks := by
  unfold State.recordAt
  dsimp only
  split
  · rfl
  · exact enterRec_sansBooks ..
@[simp] theorem record_sansBooks (code severity source p1 p2 p3 : Nat) :
    (s.record code severity source p1 p2 p3).sansBooks = s.sansBooks := recordAt_sansBooks ..
theorem each_sansBooks {α : Type} (l : List α) (f : State → α → State) (hf : ∀ t a, (f t a).sansBooks = t.sansBooks) :
    (each l f s).sansBooks = s.sansBooks := each_keeps State.sansBooks l f s hf
@[simp] theorem faultRecs_sansBooks (src key reel : Nat) (x : Option Nat) (l : List Detail) :
    (s.faultRecs src key reel x l).sansBooks = s.sansBooks := by
  unfold State.faultRecs
  dsimp only
  split
  · rfl
  · exact each_sansBooks s _ _ fun _ _ => recordAt_sansBooks ..

/-! ## What two states that agree but for bookkeeping agree on -/

variable {s} {t : State}
theorem pkg_of_sansBooks (h : t.sansBooks = s.sansBooks) : t.pkg = s.pkg := show t.sansBooks.pkg = s.sansBooks.pkg from congrArg _ h
theorem dbg_of_sansBooks (h : t.sansBooks = s.sansBooks) : t.dbg = s.dbg := show t.sansBooks.dbg = s.sansBooks.dbg from congrArg _ h
theorem dies_of_sansBooks (h : t.sansBooks = s.sansBooks) : t.dies = s.dies := show t.sansBooks.dies = s.sansBooks.dies from congrArg _ h
theorem cores_of_sansBooks (h : t.sansBooks = s.sansBooks) : t.cores = s.cores := show t.sansBooks.cores = s.sansBooks.cores from congrArg _ h
theorem lcs_of_sansBooks (h : t.sansBooks = s.sansBooks) : t.lcs = s.lcs := show t.sansBooks.lcs = s.sansBooks.lcs from congrArg _ h
theorem reel_of_sansBooks (h : t.sansBooks = s.sansBooks) : t.reel = s.reel := show t.sansBooks.reel = s.sansBooks.reel from congrArg _ h
theorem fresh_of_sansBooks (h : t.sansBooks = s.sansBooks) : t.fresh = s.fresh := show t.sansBooks.fresh = s.sansBooks.fresh from congrArg _ h
theorem pending_of_sansBooks (h : t.sansBooks = s.sansBooks) : t.pending = s.pending :=
  show t.sansBooks.pending = s.sansBooks.pending from congrArg _ h
theorem die_of_sansBooks (h : t.sansBooks = s.sansBooks) (d : Nat) : t.die d = s.die d :=
  show t.sansBooks.die d = s.sansBooks.die d from congrArg (State.die · d) h
theorem core_of_sansBooks (h : t.sansBooks = s.sansBooks) (p : Nat) : t.core p = s.core p :=
  show t.sansBooks.core p = s.sansBooks.core p from congrArg (State.core · p) h
theorem lc_of_sansBooks (h : t.sansBooks = s.sansBooks) (n : Nat) : t.lc n = s.lc n :=
  show t.sansBooks.lc n = s.sansBooks.lc n from congrArg (State.lc · n) h
theorem ctx_of_sansBooks (h : t.sansBooks = s.sansBooks) (c : Nat) : t.ctx c = s.ctx c :=
  show t.sansBooks.ctx c = s.sansBooks.ctx c from congrArg (State.ctx · c) h
theorem ticket_of_sansBooks (h : t.sansBooks = s.sansBooks) (k : Nat) : t.ticket k = s.ticket k :=
  show t.sansBooks.ticket k = s.sansBooks.ticket k from congrArg (State.ticket · k) h
theorem session_of_sansBooks (h : t.sansBooks = s.sansBooks) (n : Nat) : t.session n = s.session n :=
  show t.sansBooks.session n = s.sansBooks.session n from congrArg (State.session · n) h
theorem cfg_of_sansBooks (h : t.sansBooks = s.sansBooks) (k : Nat) : t.cfg k = s.cfg k :=
  show t.sansBooks.cfg k = s.sansBooks.cfg k from congrArg (State.cfg · k) h
theorem dist_of_sansBooks (h : t.sansBooks = s.sansBooks) (k : Nat) : t.dist k = s.dist k :=
  show t.sansBooks.dist k = s.sansBooks.dist k from congrArg (State.dist · k) h
theorem flashKind_of_sansBooks (h : t.sansBooks = s.sansBooks) (k : Nat) : t.flashKind k = s.flashKind k :=
  show t.sansBooks.flashKind k = s.sansBooks.flashKind k from congrArg (State.flashKind · k) h
theorem acting_of_sansBooks (h : t.sansBooks = s.sansBooks) : t.acting = s.acting := show t.sansBooks.acting = s.sansBooks.acting from congrArg _ h
theorem vat_of_sansBooks (h : t.sansBooks = s.sansBooks) (v : Hub) : (t.vat v).sansBooks = (s.vat v).sansBooks := by
  cases v
  · exact congrArg State.vatA h
  · exact congrArg State.vatB h
theorem sh_of_sansBooks (h : t.sansBooks = s.sansBooks) : t.sh.sansBooks = s.sh.sansBooks := congrArg State.sh h

end

end Sys2Proof.Machine
end

section
/-! SUPPORT. The register commands and the control writes (R15-R18, R60, R407, R490, R491, R498-R500). -/

namespace Sys2Proof.Machine

section
variable {s : State}

/-! ## Reads of a tap -/

/-- What CSTATE depends on is more than the latches of a tap. -/
theorem cstate_of_latch (p : Nat) (f : Core → Core) (hr : (f (s.core p)).resetting = (s.core p).resetting) (hk : (f (s.core p)).parked = (s.core p).parked)
    (hz : (f (s.core p)).frozen = (s.core p).frozen) (hh : (f (s.core p)).holds = (s.core p).holds)
    (hs : (f (s.core p)).stallNow = (s.core p).stallNow) : (s.modCore p f).cstate p = s.cstate p := by
  have hc : (s.modCore p f).core p = f (s.core p) := by simp
  have ho : (s.modCore p f).holdsOn p = s.holdsOn p := by
    simp only [State.holdsOn, hc, hh]; rfl
  simp only [State.cstate, hc, hr, hk, hz, hs, ho]
  rfl
theorem mtpReg_of_cstate_lt (p off : Nat) (h : s.cstate p < 6) : s.mtpReg p off = s.mtpVal p off := by
  unfold State.mtpReg
  dsimp only
  split
  · omega
  · omega
  · rfl
/-- A read of MTP_WM_OPER latches the watermark set and answers its layer and operator (R498). -/
theorem mtpRead_wmOper (p : Nat) (h : s.cstate p < 6) :
    s.mtpRead p 0x44 = ((s.wmSet p).layer * 2 ^ 16 + (s.wmSet p).oper, s.modCore p fun c => { c with wmLatch := s.wmSet p }) := by
  have hc : (s.modCore p fun c => { c with wmLatch := s.wmSet p }).cstate p < 6 := by rwa [cstate_of_latch p _ rfl rfl rfl rfl rfl]
  have hl : ((s.modCore p fun c => { c with wmLatch := s.wmSet p }).core p).wmLatch = s.wmSet p := by simp
  unfold State.mtpRead
  rw [if_pos (by simp [h])]
  dsimp only
  rw [mtpReg_of_cstate_lt p 0x44 hc]
  change (((s.modCore p fun c => { c with wmLatch := s.wmSet p }).core p).wmLatch.layer * 2 ^ 16 + _, _) = _
  rw [hl]
/-- A read of MTP_STALL_LO answers the low half of the selected reason's time and latches the high half (R499). -/
theorem mtpRead_stallLo (p : Nat) (h : s.cstate p < 6) :
    s.mtpRead p 0x80 = (s.stallTime p (s.core p).stallSel % 2 ^ 32,
      s.modCore p fun c => { c with hi := tset 0 c.hi 0x84 (bits (s.stallTime p (s.core p).stallSel) 32 32) }) := by
  unfold State.mtpRead
  rw [if_neg (by simp)]
  change (s.mtpReg p 0x80, _) = _
  rw [mtpReg_of_cstate_lt p 0x80 h]
  rfl

/-! ## Accesses forwarded through VAT_CPL_DATA (R491) -/

theorem served_of_activeHub {h : Hub} (hh : s.activeHub = some h) : s.served = true := by
  have ha : s.aliasHub = some h := by
    unfold State.aliasHub State.acting
    rw [hh]
    cases s.sh.switching <;> rfl
  simp [State.served, ha]
/-- A forwarded access is AGENT_CMD to the selected die, and waits for its answer. -/
theorem forward_effect (h : Hub) (v : Option Word) (pr : Priv) (hh : s.activeHub = some h) (hd : (s.vat h).cplDie < 100)
    (hr : (s.die (s.vat h).cplDie).inReset = false) :
    (∃ f ∈ (s.forward h v pr).sh.fwds, f.die = (s.vat h).cplDie ∧ f.write = v.isSome ∧ f.start = s.reel) ∧
      ∃ x, Emits s (s.forward h v pr) (.felt x) ∧ x.type = 0x80 ∧ x.dst = (s.vat h).cplDie ∧
        x.words = [(s.vat h).epoch, b2n v.isSome, (s.vat h).cplOff * 4, (match v with | some w => w.toNat | none => 0), privRank pr] := by
  unfold State.forward
  dsimp only
  rw [if_neg (by simp [hh, hr]; omega)]
  constructor
  · rw [feltSend_sh]
    exact ⟨_, List.mem_append_right _ (List.mem_singleton_self _), rfl, rfl, rfl⟩
  · refine ⟨_, .after_keeps (modSh_keeps _ (Keeps.refl false s)) (emits_feltSend ..), rfl, rfl, ?_⟩
    cases v <;> rfl

/-! ## The register commands -/

theorem accessWrite_msiFault (h : Hub) (pr : Priv) (tag : Option Nat) (v : Word) (hr : (s.vat h).role = .active) (hp : privMeets pr .operator = true)
    (hl : bit s.sh.msiCtl 31 = false) :
    s.accessWrite ⟨vatAddr h 0x09C, 4, pr, tag⟩ v = ((s.modSh fun x => { x with msiFault := v.toNat }).mirror).emit .writeDone := by
  rw [accessWrite_msi s h 0x09C pr tag v (by decide) hr hp]
  simp [State.vatWriteReg, State.writeMsi, hl]
theorem accessRead_cplData (h : Hub) (pr : Priv) (tag : Option Nat) (hh : s.activeHub = some h) (hp : privMeets pr .operator = true) :
    s.accessRead ⟨vatAddr h 0x0AC, 4, pr, tag⟩ = s.forward h none pr := by
  rw [accessRead_vat s h 0x0AC pr tag (by decide) (by decide) (served_of_activeHub hh)]
  simp [State.vatRead, vatReadPriv, hp]
theorem accessWrite_cplData (h : Hub) (pr : Priv) (tag : Option Nat) (v : Word) (hh : s.activeHub = some h) (hp : privMeets pr .operator = true) :
    s.accessWrite ⟨vatAddr h 0x0AC, 4, pr, tag⟩ v = s.forward h (some v) pr := by
  rw [accessWrite_vat s h 0x0AC pr tag v (by decide) (by decide) (served_of_activeHub hh)]
  simp [State.vatWrite, vatWritePriv, vatReadPriv, hp]

end

/-- Settles O1: each command is one access by address, and an access to one of these registers comes down to its store, its latch or its forwarding. -/
theorem registerCommandsComplete : Obligations.RegisterCommandsComplete := by
  refine ⟨?_, ?_, ?_, ?_, ?_, ?_, ?_⟩
  · intro s h pr tag v hr hp hl
    apply gives_registerWrite
    rw [accessWrite_msiFault h pr tag v hr hp hl]
    constructor
    · obtain ⟨n, hn⟩ := mirror_sh (s.modSh fun x => { x with msiFault := v.toNat })
      rw [emit_sh, hn]; rfl
    · exact .after_keeps (mirror_keeps (modSh_keeps _ (Keeps.refl false s))) (emits_emit _ _)
  · intro s h pr tag hr
    apply gives_registerLoRead
    rw [accessRead_vatReelLo s h pr tag (served_active s h hr)]
    exact ⟨by simp, emits_head _ _ _ (by simp)⟩
  · intro s p pr tag hs hp hr hc ht
    refine ⟨_, rfl, ?_⟩
    rw [accessRead_tap s p 0x44 pr tag hp (by decide) (by decide) hs hr ht, mtpRead_wmOper p hc]
    exact ⟨by simp, emits_head _ _ _ rfl⟩
  · intro s p pr tag hs hp hr hc ht
    refine ⟨_, rfl, ?_⟩
    rw [accessRead_tap s p 0x80 pr tag hp (by decide) (by decide) hs hr ht, mtpRead_stallLo p hc]
    exact ⟨by simp, emits_head _ _ _ rfl⟩
  · intro s h pr tag hh hp hd hr
    refine ⟨_, rfl, ?_⟩
    rw [accessRead_cplData h pr tag hh hp]
    exact forward_effect h none pr hh hd hr
  · intro s h pr tag v hh hp hd hr
    refine ⟨_, rfl, ?_⟩
    rw [accessWrite_cplData h pr tag v hh hp]
    exact forward_effect h (some v) pr hh hd hr
  · intro s id hf
    have hany : (s.sh.fwds.any fun f => f.id == id) = true := by simpa using hf
    refine ⟨_, if_pos hany, ?_, emits_head _ _ _ rfl⟩
    intro f hf
    simpa using (List.mem_filter.mp hf).2

/-- A package whose Vat A is in ROM minimal mode while a switch-over's flag is set: Vat A acts, and no Vat serves the windows. -/
def romSwitching : State := { State.reset with vatA := { role := .romMinimal }, sh := { switching := true } }

/-- Refutes O2: in ROM minimal mode with the flag `switching` set, Vat A acts and the windows are not served, so a word written to the aperture is not
    stored. -/
theorem not_controlWritesComplete : ¬ Obligations.ControlWritesComplete := by
  rintro ⟨-, -, -, -, h⟩
  have hstart : ∀ k : ApSlot, k.packet = tset 0 (tget {} romSwitching.sh.slots 0).packet 0 0 → startWord k ≠ 0 * 4 := by
    intro k hk
    simp [startWord, apLength, lengthOk, hk, romSwitching, tset, tdel]
  obtain ⟨t, ht, hstate, -⟩ := h romSwitching .a 0 0 .none none 0 (by decide) (by decide) (by decide) (by decide) hstart
  cases ht
  exact absurd hstate (by decide)

end Sys2Proof.Machine
end

section
/-! SUPPORT. Sessions, keys and contexts: their commands (R274, R421-R433, Tables 13.4, 13.6 and 13.7). -/

namespace Sys2Proof.Machine

section
variable {s : State} {rq : Req}

/-! ## Sessions -/

/-- The entries of a table that hold something. -/
def listed {α : Type} (t : Table (Option α)) : Nat := (t.filter fun e => e.2.isSome).length
theorem listed_tins {α : Type} (n : Nat) (v : α) (t : Table (Option α)) : listed (tins n (some v) t) = listed t + 1 := by
  induction t with
  | nil => rfl
  | cons e t ih =>
    unfold tins
    split
    · simp [listed]
    · cases h : e.2.isSome <;> simpa [listed, h] using ih
theorem listed_tdel_le {α : Type} (n : Nat) (t : Table (Option α)) : listed (tdel t n) ≤ listed t :=
  (List.Sublist.filter _ List.filter_sublist).length_le
theorem listed_tdel_lt {α : Type} (n : Nat) (x : α) (t : Table (Option α)) (h : tget none t n = some x) : listed (tdel t n) < listed t := by
  induction t with
  | nil => simp at h
  | cons e t ih =>
    obtain ⟨k, w⟩ := e
    by_cases hk : n = k
    · subst hk
      obtain rfl : w = some x := by simpa [tget] using h
      have hle := listed_tdel_le n t
      have hd : tdel ((n, some x) :: t) n = tdel t n := by simp [tdel]
      have hc : listed ((n, some x) :: t) = listed t + 1 := by simp [listed]
      rw [hd, hc]
      exact Nat.lt_succ_of_le hle
    · have ht : tget none t n = some x := by simpa [tget, hk] using h
      have hd : tdel ((k, w) :: t) n = (k, w) :: tdel t n := by simp [tdel, Ne.symm hk]
      have hc (r : Table (Option α)) : listed ((k, w) :: r) = listed r + (if w.isSome then 1 else 0) := by
        cases hw : w.isSome <;> simp [listed, hw]
      rw [hd, hc, hc]
      exact Nat.add_lt_add_right (ih ht) _
/-- A packet's entry opens no session. -/
theorem openSessions_entered_le (signed : Bool) : (s.entered rq signed).openSessions ≤ s.openSessions := by
  have hle (x y : Session) (n : Nat) (h : s.session n = some x) : listed (tset none s.sh.sessions n (some y)) ≤ listed s.sh.sessions := by
    have := listed_tdel_lt n x s.sh.sessions h
    unfold tset
    rw [if_neg (by simp), listed_tins]
    omega
  unfold State.entered State.touch
  split
  · exact le_refl _
  · exact le_refl _
  · exact hle _ _ _ (by assumption)
/-- A packet under no session leaves the sessions as they are. -/
theorem session_entered (signed : Bool) (hp : rq.priv = .none) (n : Nat) : (s.entered rq signed).session n = s.session n := by
  simp only [State.entered, State.touch, hp]; rfl
theorem session_of_sh {t : State} {n : Nat} (h : t.sh.sessions = s.sh.sessions) : t.session n = s.session n := by simp [State.session, h]
theorem session_putSession (n : Nat) (x : Option Session) : (s.putSession n x).session n = x := by
  obtain ⟨m, h⟩ := mirror_sh (s.modSh fun h => { h with sessions := tset none h.sessions n x })
  simp [State.putSession, State.session, h]
theorem session_finish (t : State) (op st n : Nat) (cl : List Clamp) (data : List (Nat × Nat)) : (t.finish rq op st cl data).session n = t.session n := by
  obtain ⟨o, a, b, h⟩ := finish_eq (rq := rq) t op st cl data
  rw [h]; rfl

end

/-- Settles O3: each packet that is taken runs its own effect, and its reply is the last thing it changes. -/
theorem sessionCommandsComplete : Obligations.SessionCommandsComplete := by
  refine ⟨?_, ?_, ?_, ?_, ?_, ?_, ?_⟩
  · intro s rq v h hv
    refine gives_of_takes h rfl rfl fun a b => ?_
    dsimp only
    rw [taken_acting, hv]
    refine answers_finish_of ?_
    simp only [taken_pkg, taken_vat]
    cases s.pkg.licence <;> rfl
  · intro s rq priv keyId h hpath hlife hopen
    refine gives_of_entered h rfl rfl ?_
    have hle : (s.entered rq false).openSessions < 32 := lt_of_le_of_lt (openSessions_entered_le false) hopen
    obtain ⟨a, b, he⟩ := entered_eq s rq false
    rw [he] at hle ⊢
    dsimp only
    rw [if_neg (by simpa using hpath), if_neg (by simp [hlife]), if_neg (by omega)]
    exact ⟨_, _, answers_finish_nil .., by rw [session_finish, session_putSession]; rfl⟩
  · intro s rq n x h hp hx ht hopened hpath
    refine gives_of_entered h rfl rfl ?_
    have hx' := (session_entered (s := s) false hp n).trans hx
    obtain ⟨a, b, he⟩ := entered_eq s rq false
    rw [he] at hx' ⊢
    simp only [hx']
    have hwindow : ¬ (x.token.isSome || decide (10000000000 < (s.taken a b).reel - x.opened)) = true := by
      have : ¬ 10000000000 < s.reel - x.opened := by omega
      simp [ht, this]
    have hsame : ¬ (!samePath x.path rq.path) = true := by simp [hpath]
    cases hv : s.verifies x.priv x.keyId (s.proofBytes n x) rq.sigR rq.sigS with
    | true =>
      have hv' : (s.taken a b).verifies x.priv x.keyId ((s.taken a b).proofBytes n x) rq.sigR rq.sigS = true := hv
      rw [if_pos rfl, if_neg hwindow, if_neg hsame, if_neg (by simp [hv'])]
      exact ⟨_, Nat.mod_lt _ (by decide), answers_finish_nil .., by rw [session_finish, session_putSession]; rfl⟩
    | false =>
      have hv' : (s.taken a b).verifies x.priv x.keyId ((s.taken a b).proofBytes n x) rq.sigR rq.sigS = false := hv
      rw [if_neg Bool.false_ne_true, if_neg hwindow, if_neg hsame, if_pos (by simp [hv'])]
      exact fun _ _ _ => answers_refuse ..
  · intro s n x hx ht
    refine ⟨s.putSession n none, ?_, session_putSession n none⟩
    simp [execAuthProveWindowExpiry, hx, ht]
  · intro s rq h
    refine gives_of_takes h rfl rfl fun a b => ?_
    exact ⟨by rw [session_finish, session_putSession], answers_finish_nil ..⟩
  · intro s n x hx
    refine ⟨s.putSession n none, ?_, session_putSession n none⟩
    simp [execSessionExpiry, hx]
  · intro s rq h
    refine gives_of_takes h rfl rfl fun a b => ?_
    exact ⟨_, answers_finish_nil .., rfl⟩

end Sys2Proof.Machine
end

section
/-! SUPPORT. Keys, licences, the life-cycle state and contexts: their commands (R274, R424-R433, Tables 13.4 and 13.7). -/

namespace Sys2Proof.Machine

section
variable {s : State} {rq : Req}

/-! ## What replies and records leave of the package -/

theorem pkg_finish (t : State) (op st : Nat) (cl : List Clamp) (data : List (Nat × Nat)) : (t.finish rq op st cl data).pkg = t.pkg := by
  obtain ⟨o, a, b, h⟩ := finish_eq (rq := rq) t op st cl data
  rw [h]
theorem pkg_record (t : State) (code severity source p1 p2 p3 : Nat) : (t.record code severity source p1 p2 p3).pkg = t.pkg :=
  pkg_of_sansBooks (record_sansBooks ..)
theorem sessions_finish (t : State) (op st : Nat) (cl : List Clamp) (data : List (Nat × Nat)) :
    (t.finish rq op st cl data).sh.sessions = t.sh.sessions := by
  obtain ⟨o, a, b, h⟩ := finish_eq (rq := rq) t op st cl data
  rw [h]
/-- A package reset that is not counted starts bring-up with the life-cycle state that the package has (R428, R470). -/
theorem packageReset_uncounted (t : State) (source : Nat) : (t.packageReset source false).pkg.lifecycle = t.pkg.lifecycle ∧
    (t.packageReset source false).pkg.boot = .step 2 ∧ (t.packageReset source false).pkg.ready = false := by
  unfold State.packageReset
  rw [if_neg (by simp)]
  unfold State.bringUp State.keepDurable
  dsimp only
  split <;> exact ⟨rfl, rfl, rfl⟩
theorem keysOf_without (cls id : Nat) : ((s.pkg.keys.filter fun k => !(k.cls == cls && k.id == id)).filter fun k => k.cls == cls).length ≤
    (s.keysOf cls).length := (List.filter_sublist.filter _).length_le
/-- The words of LICENCE_READ: the licence in force and the one that awaits a reset, 0 for none (R421). -/
theorem licenceData (num : Licence → Nat) (x y : Option Licence) :
    [(2048, match x with | some l => num l | none => 0), (2048, match y with | some l => num l | none => 0)] =
      [(2048, (x.map num).getD 0), (2048, (y.map num).getD 0)] := by
  cases x <;> cases y <;> rfl

end

/-- Settles O4: what a signed packet does follows from what it does once its signature verifies; the rest are replies. -/
theorem keyCommandsComplete : Obligations.KeyCommandsComplete := by
  refine ⟨?_, ?_, ?_, ?_, ?_⟩
  · intro s rq n h hpriv hok hdist hsnap hfw
    refine gives_of_takes_signed h rfl rfl fun a b => ?_
    dsimp only
    have hbusy : ¬ ((s.taken a b).distRuns || (s.taken a b).snapshotRuns || (s.taken a b).pkg.fwWriting.isSome) = true := by
      have h1 : (s.taken a b).distRuns = false := hdist
      have h2 : (s.taken a b).snapshotRuns = false := hsnap
      simp [h1, h2, hfw]
    rw [if_neg (by simp [hpriv]), if_neg (by simp [hok]), if_neg hbusy]
    obtain ⟨hl, hb, hr⟩ := packageReset_uncounted _ _
    exact ⟨by rw [hl, pkg_finish, pkg_record]; rfl, hb, hr⟩
  · intro s rq cls id base count x y h hroom
    refine gives_of_takes_signed h rfl rfl fun a b => ?_
    dsimp only
    have hle := keysOf_without (s := s) cls id
    rw [if_neg (by simp only [taken_pkg]; omega), pkg_finish]
    rfl
  · intro s rq cls id k h hk hcls hid
    refine gives_of_takes_signed h rfl rfl fun a b => ?_
    dsimp only
    have hany : (s.pkg.keys.any fun k => k.cls == cls && k.id == id) = true := List.any_eq_true.mpr ⟨k, hk, by simp [hcls, hid]⟩
    rw [if_neg (by simp [hany])]
    refine ⟨answers_finish_nil .., ?_, ?_⟩
    · intro k hk
      rw [pkg_finish, pkg_of_sansBooks (mirror_sansBooks _)] at hk
      have := (List.mem_filter.mp hk).2
      simpa [Classical.or_iff_not_imp_left] using this
    · intro e he z hz hpriv hid
      rw [sessions_finish] at he
      obtain ⟨n, hn⟩ := mirror_sh _
      rw [hn] at he
      have := (List.mem_filter.mp he).2
      simp [hz, hpriv, hid] at this
  · intro s rq raw l h hl
    refine gives_of_takes h rfl rfl fun a b => ?_
    subst hl
    dsimp only
    generalize licenceOf (raw.map (·.toNat)) = l
    have hfault : (s.taken a b).licenceFault l = s.licenceFault l := rfl
    have hnew : (s.taken a b).licenceNewer l = s.licenceNewer l := rfl
    rw [hfault, hnew]
    have hrefused (Q : Prop) (r : Nat) (t : State) : (some r = none → Q) ∧
        ∀ r', some r = some r' → (t.refuse rq 0x0B03 stDenied r).answers rq 0x0B03 stDenied [(32, r')] :=
      ⟨nofun, fun r' hr => Option.some.inj hr ▸ answers_refuse ..⟩
    cases s.licenceFault l with
    | some r => exact hrefused _ r _
    | none =>
      cases s.licenceNewer l with
      | false => exact hrefused _ 7 _
      | true =>
        refine ⟨fun _ => ⟨?_, ?_, answers_finish_nil ..⟩, nofun⟩
        · exact congrArg Pkg.licenceNext (pkg_finish ..)
        · exact (congrArg Pkg.licence (pkg_finish (rq := rq) ((s.taken a b).modPkg fun g => { g with licenceNext := some l }) 0x0B03 stOk [] []) :)
  · intro s rq h
    refine gives_of_takes h rfl rfl fun a b => ?_
    rw [← licenceData]
    exact answers_finish_nil ..

/-! ## Contexts (R41, R273, R274, R432) -/

/-- What a step of a fold sets for its own element, and no step takes back, holds of every element after the fold. -/
theorem each_establishes {α β : Type} (p : α → β → Prop) (f : β → α → β) (hset : ∀ b a, p a (f b a)) (hkeep : ∀ b a x, p a b → p a (f b x)) :
    ∀ (l : List α) (b : β), ∀ a ∈ l, p a (each l f b)
  | x :: l, b, a, ha => by
    obtain rfl | ha := List.mem_cons.mp ha
    · exact each_holds (p a) l f _ (fun b x => hkeep b a x) (hset b a)
    · exact each_establishes p f hset hkeep l _ a ha
theorem clampOr_fst (field width lo hi dflt v : Nat) : (clampOr field width lo hi dflt v).1 = if v = 0 then dflt else min hi (max lo v) := by
  unfold clampOr
  split <;> rfl
theorem clampTo_one (field width v : Nat) : (clampTo field width 0 1 v).1 = min 1 v := congrArg (min 1) (Nat.zero_max v)

section
variable {s : State} {rq : Req}

/-- Of the Vats' mirrored part, states that agree but for bookkeeping agree on all that is not bookkeeping. -/
theorem shared_of_sansBooks {α : Type} {t u : State} (g : Shared → α) (hg : ∀ h, g h.sansBooks = g h) (h : t.sansBooks = u.sansBooks) :
    g t.sh = g u.sh := by rw [← hg t.sh, ← hg u.sh, sh_of_sansBooks h]
theorem ctx_finish (t : State) (op st : Nat) (cl : List Clamp) (data : List (Nat × Nat)) (c : Nat) : (t.finish rq op st cl data).ctx c = t.ctx c := by
  obtain ⟨o, a, b, h⟩ := finish_eq (rq := rq) t op st cl data
  rw [h]; rfl
theorem lc_finish (t : State) (op st : Nat) (cl : List Clamp) (data : List (Nat × Nat)) (n : Nat) : (t.finish rq op st cl data).lc n = t.lc n := by
  obtain ⟨o, a, b, h⟩ := finish_eq (rq := rq) t op st cl data
  rw [h]; rfl
theorem ctx_mirror (t : State) (c : Nat) : t.mirror.ctx c = t.ctx c := ctx_of_sansBooks (mirror_sansBooks t) c
theorem lc_mirror (t : State) (n : Nat) : t.mirror.lc n = t.lc n := lc_of_sansBooks (mirror_sansBooks t) n
theorem ctx_each {α : Type} (l : List α) (f : State → α → State) (c : Nat) (h : ∀ t x, (f t x).ctx c = t.ctx c) (t : State) :
    (each l f t).ctx c = t.ctx c := each_keeps (·.ctx c) l f t h
theorem ctx_modSh (t : State) (f : Shared → Shared) (c : Nat) (h : (f t.sh).ctxs = t.sh.ctxs) : (t.modSh f).ctx c = t.ctx c := by
  change tget {} (f t.sh).ctxs c = tget {} t.sh.ctxs c
  rw [h]
theorem ctx_ite {p : Prop} [Decidable p] {t u : State} (c : Nat) (h : t.ctx c = u.ctx c) : (if p then t else u).ctx c = u.ctx c := by
  split
  · exact h
  · rfl
theorem loadLc_ctx (t : State) (tag : Nat) (e : PlanLc) (c : Nat) : (t.loadLc tag e).ctx c = t.ctx c := rfl
/-- A logical core that takes its part of a plan starts at step 0 with the context's tag. -/
theorem loadLc_same (t : State) (tag : Nat) (e : PlanLc) : ((t.loadLc tag e).lc e.lc).lstep = 0 ∧ ((t.loadLc tag e).lc e.lc).tag = some tag := by
  simp [State.loadLc]
theorem loadLc_other (t : State) (tag n : Nat) (e : PlanLc) (h : n ≠ e.lc) : (t.loadLc tag e).lc n = t.lc n := by
  simp [State.loadLc, h]
/-- The start of a teardown of a context that is loaded. -/
theorem startTeardown_loaded (t : State) (c trigger : Nat) (h : (t.ctx c).state = 1 ∨ (t.ctx c).state = 2) :
    ((t.startTeardown c trigger).ctx c).state = 3 ∧ ((t.startTeardown c trigger).ctx c).teardown.map (·.trigger) = some trigger ∧
      (t.startTeardown c trigger).sh.runs = t.sh.runs := by
  have hsent (u : State) (l : List Nat) (m : State → Nat → State) (hm : ∀ u p, (m u p).sansBooks = u.sansBooks) :
      (each l m u).ctx c = u.ctx c ∧ (each l m u).sh.runs = u.sh.runs := by
    have hu := each_sansBooks u l m hm
    exact ⟨ctx_of_sansBooks hu c, shared_of_sansBooks Shared.runs (fun _ => rfl) hu⟩
  unfold State.startTeardown
  dsimp only
  rw [if_pos (by simpa using h)]
  obtain ⟨hc, hr⟩ := hsent _ _ _ fun _ _ => vatSend_sansBooks ..
  rw [hc, hr]
  have hmir (u : State) (f : Pkg → Pkg) : (u.mirror.modPkg f).ctx c = u.ctx c ∧ (u.mirror.modPkg f).sh.runs = u.sh.runs :=
    ⟨ctx_mirror u c, shared_of_sansBooks (t := u.mirror) Shared.runs (fun _ => rfl) (mirror_sansBooks u)⟩
  obtain ⟨hc, hr⟩ := hmir _ _
  rw [hc, hr, modCtx_ctx, if_pos rfl]
  exact ⟨rfl, rfl, rfl⟩

end

/-- Settles O5: the fields follow the clamps, and a fold over the plan's logical cores loads each of them. -/
theorem contextCommandsComplete : Obligations.ContextCommandsComplete := by
  refine ⟨?_, ?_, ?_, ?_, ?_⟩
  · intro s rq f pr h hnone
    refine gives_of_takes h rfl rfl fun a b => ?_
    have hnone' : (s.taken a b).loadRefusal rq.ctx f pr = none := hnone
    dsimp only
    rw [hnone']
    simp only [ctx_finish, lc_finish, ctx_mirror, lc_mirror, State.tagOf]
    rw [ctx_each _ _ _ fun t e => ?_, ctx_each _ _ _ fun t d => ?_]
    · rw [modPkg_ctx, ctx_modSh]
      case h => rfl
      simp only [taken_ctx, modCtx_ctx, if_true, clampOr_fst, clampTo_one]
      refine ⟨trivial, trivial, trivial, trivial, trivial, trivial, trivial, trivial, ?_⟩
      refine each_establishes (fun (e : PlanLc) (u : State) => (u.lc e.lc).lstep = 0 ∧ (u.lc e.lc).tag = some _) _ (fun u e => ?_) (fun u e x hu => ?_) _ _
      · cases (u.loadLc _ e).carrier e.lc <;> exact loadLc_same ..
      · suffices hload : ((u.loadLc (((s.ctx rq.ctx).incarnation + 1) % 16 * 4096 + rq.ctx) x).lc e.lc).lstep = 0 ∧
            ((u.loadLc (((s.ctx rq.ctx).incarnation + 1) % 16 * 4096 + rq.ctx) x).lc e.lc).tag =
              some (((s.ctx rq.ctx).incarnation + 1) % 16 * 4096 + rq.ctx) by
          cases (u.loadLc _ x).carrier x.lc <;> exact hload
        by_cases he : e.lc = x.lc
        · rw [he]
          exact loadLc_same ..
        · rwa [loadLc_other _ _ _ _ he]
    · exact ctx_ite _ rfl
    · cases (t.loadLc _ e).carrier e.lc <;> rfl
  · intro s rq h h0
    refine gives_of_takes h rfl rfl fun a b => ?_
    dsimp only
    rw [if_pos (by exact h0)]
    exact answers_finish_nil ..
  · intro s rq x h h3 hx hlt
    refine gives_of_takes h rfl rfl fun a b => ?_
    dsimp only
    rw [if_neg (by simp [h3]), if_pos (by exact h3), if_neg (by simp [hx, hlt])]
    exact runs_beginRun ..
  · intro s rq h h12
    refine gives_of_takes h rfl rfl fun a b => ?_
    dsimp only
    rw [if_neg (by simp; omega), if_neg (by simp; omega)]
    obtain ⟨r, q, hb⟩ := beginRun_eq (rq := rq) (s.taken a b) 0x0102 rq.ctx 0 []
    have h12' : (((s.taken a b).beginRun rq 0x0102 rq.ctx 0 []).ctx rq.ctx).state = 1 ∨ (((s.taken a b).beginRun rq 0x0102 rq.ctx 0 []).ctx rq.ctx).state = 2 := by
      rw [hb]; exact h12
    obtain ⟨hstate, htrig, hruns⟩ := startTeardown_loaded _ rq.ctx (if rq.priv = .tenant then 1 else 2) h12'
    obtain ⟨e, he, hrest⟩ := runs_beginRun (rq := rq) (s.taken a b) 0x0102 rq.ctx 0 []
    exact ⟨hstate, ⟨e, hruns ▸ he, hrest⟩, htrig⟩
  · intro s rq h
    exact gives_of_takes h rfl rfl fun a b => answers_finish_nil ..

end Sys2Proof.Machine
end

section
/-! SUPPORT. Counts: what a count leaves unchanged, an event that its agent or the Vat only counts (R25, R230-R235), and a message's arrival (R363). -/

namespace Sys2Proof.Machine

/-! ## Records leave every counter but STAGE_OVERFLOW's (R463) -/

section
variable (s : State) (k : Nat)

theorem counter_of_counters {t : State} (h : t.sh.counters = s.sh.counters) : t.counter k = s.counter k := by simp [State.counter, h]
@[simp] theorem mirror_counter : s.mirror.counter k = s.counter k := by
  obtain ⟨n, h⟩ := mirror_sh s
  exact counter_of_counters _ _ (by rw [h])
@[simp] theorem feltSend_counter (src ty mode dst : Nat) (words : List Nat) (ring : Option Nat) :
    (s.feltSend src ty mode dst words ring).counter k = s.counter k := counter_of_counters _ _ (by rw [feltSend_sh])
@[simp] theorem vatSend_counter (ty mode dst : Nat) (words : List Nat) : (s.vatSend ty mode dst words).counter k = s.counter k := feltSend_counter ..
@[simp] theorem mramWrite_counter : s.mramWrite.counter k = s.counter k := counter_of_counters _ _ (by rw [mramWrite_sh])
@[simp] theorem postInt_counter (src : Nat) : (s.postInt src).counter k = s.counter k := by unfold State.postInt; split <;> rfl
@[simp] theorem sendMgmt_counter (n : Note) : (s.sendMgmt n).counter k = s.counter k := by
  unfold State.sendMgmt
  dsimp only
  split
  · rfl
  · split
    · rfl
    · split
      · exact feltSend_counter ..
      · rfl
@[simp] theorem sendNote_counter (r : Rec) (held : Nat) : (s.sendNote r held).counter k = s.counter k := by
  unfold State.sendNote
  exact sendMgmt_counter ..
@[simp] theorem notify_counter (r : Rec) : (s.notify r).counter k = s.counter k := by
  unfold State.notify
  split
  · split
    · rfl
    · exact sendNote_counter ..
  · exact sendNote_counter ..
@[simp] theorem written_counter (r : Rec) : (s.written r).counter k = s.counter k := by
  unfold State.written
  split <;> simp
/-- An increment changes its own source's counter alone. -/
theorem bump_counter_other (src m reel : Nat) (h : k ≠ src) : (s.bump src m reel).1.counter k = s.counter k := by
  unfold State.bump
  split
  · rfl
  · refine (mirror_counter ..).trans ?_
    simp [State.counter, h]
theorem counter_ite (c : Prop) [Decidable c] (t : State) : (if c then s else t).counter k = if c then s.counter k else t.counter k := by split <;> rfl

end

section
variable (s : State) {k : Nat} (hk : k ≠ pkgSource 9)
include hk

theorem dropRec_counter (h : Hub) (r : Rec) : (s.dropRec h r).counter k = s.counter k := by
  have hdue (t : State) (l : List (Nat × Nat)) : (t.modSh fun h => { h with reactDue := h.reactDue ++ l }).counter k = t.counter k := rfl
  simp [State.dropRec, counter_ite, hdue, bump_counter_other _ _ _ _ _ hk]
theorem stage_counter (h : Hub) (r : Rec) : (s.stage h r).counter k = s.counter k := by
  unfold State.stage
  dsimp only
  split
  · exact modVat_counter ..
  · split
    · exact dropRec_counter s hk ..
    · split <;> simp [dropRec_counter _ hk]
theorem hubEnter_counter (h : Hub) (r : Rec) : (s.hubEnter h r).counter k = s.counter k := by
  unfold State.hubEnter
  dsimp only
  split
  · exact modVat_counter ..
  · exact stage_counter s hk ..
theorem enterRec_counter (r : Rec) : (s.enterRec r).counter k = s.counter k := by
  unfold State.enterRec
  dsimp only
  split <;> simp only [written_counter, hubEnter_counter _ hk, mirror_counter] <;> rfl
theorem recordAt_counter (code severity source reel : Nat) (u : Bool) (p1 p2 p3 : Nat) :
    (s.recordAt code severity source reel u p1 p2 p3).counter k = s.counter k := by
  unfold State.recordAt
  dsimp only
  split
  · rfl
  · exact enterRec_counter s hk _
theorem record_counter (code severity source p1 p2 p3 : Nat) : (s.record code severity source p1 p2 p3).counter k = s.counter k :=
  recordAt_counter s hk ..

end

/-! ## What a bookkeeping step leaves of how sources are counted -/

section
variable {s t : State} (h : t.sansBooks = s.sansBooks)
include h

theorem now_of_sansBooks : t.now = s.now := show t.sansBooks.now = s.sansBooks.now from congrArg _ h
theorem dieReel_of_sansBooks (d : Nat) : t.dieReel d = s.dieReel d := show t.sansBooks.dieReel d = s.sansBooks.dieReel d from congrArg (State.dieReel · d) h

end

/-! ## Reactions that are not taken (R235-R237) -/

/-- The bits of NMI, BLK, PKG and PIN are clear. -/
theorem bits_of_mod16 {m : Nat} (h : m % 16 = 0) : bit m 0 = false ∧ bit m 1 = false ∧ bit m 2 = false ∧ bit m 3 = false := by
  simp only [bit, beq_eq_false_iff_ne]
  omega
theorem eachTaken_of_mod16 (g : ClassCfg) (c : Bool) (h : g.each % 16 = 0) : g.eachTaken c = g.each := by
  obtain ⟨-, -, h2, -⟩ := bits_of_mod16 h
  simp [ClassCfg.eachTaken, h2]
theorem threshTaken_of_mod16 (g : ClassCfg) (h : g.thresh % 16 = 0) : g.threshTaken = g.thresh := by
  obtain ⟨-, -, h2, -⟩ := bits_of_mod16 h
  simp [ClassCfg.threshTaken, h2]

section
variable {s : State}

theorem agentReact_of_mod16 (d src : Nat) {m : Nat} (h : m % 16 = 0) : s.agentReact d src m = s := by
  obtain ⟨h0, -, h2, h3⟩ := bits_of_mod16 h
  simp [State.agentReact, h0, h2, h3]
theorem reactionsOf_of_mod16 (d src key : Nat) (h : (s.cfg key).each % 16 = 0) : s.reactionsOf d src key = (s.cfg key).each :=
  eachTaken_of_mod16 _ _ h

/-! ## An event that its agent only counts (R25) -/

theorem calm_iff (src : Nat) : s.calm src = true ↔ ∃ key, classOf src = some key ∧ (s.cfg key).each % 16 = 0 := by
  unfold State.calm
  cases classOf src <;> simp
/-- An event whose class takes no reaction is counted at the first stage; a Beater slice on its core stops. -/
theorem agentCount_calm {src : Nat} (h : s.calm src = true) (d : Nat) (x : Detail) :
    s.agentCount d src x = (s.stopSlice src).firstStage d src [x] := by
  obtain ⟨key, hkey, heach⟩ := (calm_iff src).mp h
  have hm := reactionsOf_of_mod16 (s := s) d src key heach
  obtain ⟨-, -, h2, -⟩ := bits_of_mod16 heach
  simp only [State.agentCount, hkey, hm, h2, Bool.and_false, Bool.false_eq_true, if_false]
  exact agentReact_of_mod16 d src heach
theorem stopSlice_cases {P : State → Prop} (src : Nat) (h0 : P s)
    (h1 : ∀ d, P (s.modDie d fun k => { k with beater := { k.beater with stopping := true, faulted := true } })) : P (s.stopSlice src) := by
  unfold State.stopSlice
  split
  · exact h0
  · dsimp only
    split
    · exact h1 _
    · exact h0
theorem firstStage_of_inReset (d src : Nat) (l : List Detail) (h : (s.die d).inReset = false) : (s.firstStage d src l).firstCount d src =
    min 255 (s.firstCount d src + l.length) := by
  simp [State.firstStage, h, State.firstCount]
/-- Such an event adds one to its source's count at the first stage. -/
theorem firstCount_agentCount {src : Nat} (h : s.calm src = true) (d : Nat) (x : Detail) (hr : (s.die d).inReset = false) :
    (s.agentCount d src x).firstCount d src = min 255 (s.firstCount d src + 1) := by
  rw [agentCount_calm h]
  refine stopSlice_cases (P := fun u => (u.firstStage d src [x]).firstCount d src = _) src (firstStage_of_inReset d src [x] hr) fun e => ?_
  rw [firstStage_of_inReset]
  · simp only [State.firstCount, modDie_die]
    split
    · rename_i he; rw [he]; rfl
    · rfl
  · rw [modDie_die]
    split
    · rename_i he; rw [← he]; exact hr
    · exact hr
/-- Such an event changes the dies alone. -/
theorem agentCount_dies {src : Nat} (h : s.calm src = true) (d : Nat) (x : Detail) : ∃ l, s.agentCount d src x = { s with dies := l } := by
  rw [agentCount_calm h]
  have hfirst (u : State) (hu : ∃ l, u = { s with dies := l }) : ∃ l, u.firstStage d src [x] = { s with dies := l } := by
    obtain ⟨l, rfl⟩ := hu
    unfold State.firstStage
    split
    · exact ⟨_, rfl⟩
    · exact ⟨_, rfl⟩
  exact hfirst _ (stopSlice_cases (P := fun u => ∃ l, u = { s with dies := l }) src ⟨_, rfl⟩ fun d => ⟨_, rfl⟩)

end

section
variable {s : State}

/-- What leaves after such an event leaves the machine since it. -/
theorem emits_after_count {src : Nat} (h : s.calm src = true) (d : Nat) (x : Detail) (o : Out) : Emits s ((s.agentCount d src x).emit o) o := by
  obtain ⟨l, hl⟩ := agentCount_dies h d x
  rw [hl]
  exact ⟨[o], rfl, by simp⟩

end

/-! ## An event that the Vat only counts (R233-R235, R249) -/

section
variable {s : State}

theorem sourceCore_of_class {src key : Nat} (h : classOf src = some key) (hk : 64 ≤ key) : sourceCore src = none := by
  unfold sourceCore
  split
  · rename_i hc
    simp only [classOf] at h
    rw [if_pos hc] at h
    split at h
    · cases h; omega
    · contradiction
  · rfl
theorem steady_iff (src : Nat) : s.steady src = true ↔ ∃ key, classOf src = some key ∧ (s.cfg key).each % 16 = 0 ∧
    ((s.bump src 1 s.now).2 = none ∨ ((s.cfg key).thresh % 16 = 0 ∧ 64 ≤ key ∧ key ≠ 235)) := by
  unfold State.steady
  cases classOf src <;> simp [and_assoc]
theorem calm_of_steady {src : Nat} (h : s.steady src = true) : s.calm src = true := by
  obtain ⟨key, hkey, heach, -⟩ := (steady_iff src).mp h
  exact (calm_iff src).mpr ⟨key, hkey, heach⟩
theorem faultRecs_counter (src key reel k : Nat) (x : Option Nat) (l : List Detail) (h : k ≠ pkgSource 9 ∨ key = 217) :
    (s.faultRecs src key reel x l).counter k = s.counter k := by
  unfold State.faultRecs
  dsimp only
  split
  · rfl
  · rename_i hkey
    obtain h | rfl := h
    · exact each_keeps (·.counter k) _ _ _ fun u e => recordAt_counter u h ..
    · simp at hkey
/-- What a count does depends on its counter, the classes' configuration and the operating hours alone. -/
theorem bump_congr {t : State} {src : Nat} (hc : t.counter src = s.counter src) (hg : t.sh.classCfg = s.sh.classCfg) (hp : t.pkg = s.pkg) (m reel : Nat) :
    (t.bump src m reel).2 = (s.bump src m reel).2 ∧ (t.bump src m reel).1.counter src = (s.bump src m reel).1.counter src := by
  have hcfg (key : Nat) := cfg_of_classCfg hg key
  have hset (u : State) (c : Counter) : (u.modSh fun h => { h with counters := tset {} h.counters src c }).mirror.counter src = c := by
    rw [mirror_counter]; simp [State.counter]
  unfold State.bump
  split
  · exact ⟨rfl, hc⟩
  · simp only [hcfg, hc, State.leakTime, hp, hset, and_self]
theorem steady_congr {t : State} {src : Nat} (hc : t.counter src = s.counter src) (hg : t.sh.classCfg = s.sh.classCfg) (hp : t.pkg = s.pkg)
    (hn : t.now = s.now) : t.steady src = s.steady src := by
  simp only [State.steady, cfg_of_classCfg hg, hn, (bump_congr hc hg hp 1 s.now).1]
/-- A count that takes no reaction is bookkeeping, and its counter takes the increment. -/
theorem applyOne_steady {src key : Nat} (x : Detail) (hkey : classOf src = some key)
    (h : (s.bump src 1 s.now).2 = none ∨ ((s.cfg key).thresh % 16 = 0 ∧ 64 ≤ key ∧ key ≠ 235)) :
    (s.applyOne src key s.now [x]).sansBooks = s.sansBooks ∧
      (s.applyOne src key s.now [x]).counter src = (s.bump src 1 s.now).1.counter src := by
  have h9 : src ≠ pkgSource 9 ∨ key = 217 := by
    by_cases he : src = pkgSource 9
    · rw [he, classOf_pkgSource 9 (by omega)] at hkey
      exact Or.inr (Option.some.inj hkey).symm
    · exact Or.inl he
  unfold State.applyOne
  simp only [List.length_singleton]
  cases hb : (s.bump src 1 s.now).2 with
  | none =>
    dsimp only
    refine ⟨?_, ?_⟩
    · simp [apply_ite State.sansBooks]
    · simp [counter_ite, faultRecs_counter _ _ _ _ _ _ h9]
  | some i =>
    obtain ⟨ht, h64, -⟩ := h.resolve_left (by simp [hb])
    obtain ⟨h0, -, h2, h3⟩ := bits_of_mod16 ht
    have hact (u : State) : u.threshAction src key = u := by simp [State.threshAction, sourceCore_of_class hkey h64]
    simp only [hact, threshTaken_of_mod16 _ ht, h0, h2, h3, Bool.or_self, Bool.false_eq_true, if_false]
    have hrisk (u : State) (l : List (Nat × Nat)) : (u.modSh fun h => { h with riskThresh := h.riskThresh ++ l }).sansBooks = u.sansBooks := rfl
    have hrisk' (u : State) (l : List (Nat × Nat)) : (u.modSh fun h => { h with riskThresh := h.riskThresh ++ l }).counter src = u.counter src := rfl
    refine ⟨by simp [apply_ite State.sansBooks, hrisk], ?_⟩
    obtain h9' | rfl := h9
    · simp [counter_ite, hrisk', recordAt_counter _ h9', faultRecs_counter _ _ _ _ _ _ (.inl h9')]
    · simp [counter_ite, faultRecs_counter _ _ _ _ _ _ (.inr rfl)]
theorem startTeardown_leaves (c trigger k : Nat) :
    (s.startTeardown c trigger).counter k = s.counter k ∧ (s.startTeardown c trigger).sh.classCfg = s.sh.classCfg := by
  have hsent (u : State) (l : List Nat) (m : State → List Nat) : (each l (fun s p => s.vatSend 0x0D 2 p (m s)) u).counter k = u.counter k ∧
      (each l (fun s p => s.vatSend 0x0D 2 p (m s)) u).sh.classCfg = u.sh.classCfg :=
    ⟨each_keeps (State.counter · k) _ _ _ fun _ _ => vatSend_counter ..,
      each_keeps (fun u : State => u.sh.classCfg) _ _ _ fun u _ => congrArg Shared.classCfg (vatSend_sh u ..)⟩
  unfold State.startTeardown
  dsimp only
  split
  · obtain ⟨hc, hg⟩ := hsent _ _ (fun t => [t.tagOf c])
    rw [hc, hg]
    exact ⟨mirror_counter .., mirror_classCfg _⟩
  · exact ⟨rfl, rfl⟩
/-- A batch of one event of a source that the Vat only counts. -/
theorem applyCount_steady {src : Nat} (h : s.steady src = true) (x : Detail) :
    (classOf src ≠ some 232 → (s.applyCount src s.now [x]).sansBooks = s.sansBooks) ∧
      (s.applyCount src s.now [x]).counter src = (s.bump src 1 s.now).1.counter src := by
  obtain ⟨key, hkey, heach, hcross⟩ := (steady_iff src).mp h
  obtain ⟨hbooks, hcount⟩ := applyOne_steady x hkey hcross
  obtain ⟨-, he1, -, -⟩ := bits_of_mod16 heach
  have hpkg (u : State) (hu : u.sh.classCfg = s.sh.classCfg) : u.pkgAfter src key (s.bump src 1 s.now).2.isSome = u := by
    have hthresh : (bit (s.cfg key).thresh 1 && (s.bump src 1 s.now).2.isSome) = false := by
      obtain hn | ⟨ht, -, -⟩ := hcross
      · simp [hn]
      · simp [(bits_of_mod16 ht).2.1]
    simp [State.pkgAfter, cfg_of_classCfg hu, he1, hthresh]
  have hclass := shared_of_sansBooks Shared.classCfg (fun _ => rfl) hbooks
  have hcarry : (s.applyCount src s.now [x]) = s.applyBase src key s.now [x] := by
    simp only [State.applyCount, hkey, List.length_singleton]
    split
    · rename_i i c hb hc
      obtain hn | ⟨-, -, h235⟩ := hcross
      · rw [hn] at hb; contradiction
      · simp [State.carryFault, h235]
    · rfl
  rw [hcarry]
  simp only [State.applyBase, List.length_singleton]
  cases hctx : sourceCtx src with
  | none =>
    dsimp only
    rw [hpkg _ hclass]
    exact ⟨fun _ => hbooks, hcount⟩
  | some c =>
    dsimp only
    by_cases h232 : key = 232
    · subst h232
      obtain ⟨hc, hg⟩ := startTeardown_leaves (s := s.applyOne src 232 s.now [x]) c 0 src
      rw [if_pos (by simp), State.ctxFault, hpkg _ (hg.trans hclass)]
      exact ⟨fun hne => absurd hkey hne, hc.trans hcount⟩
    · rw [if_neg (by simp [h232]), hpkg _ hclass]
      exact ⟨fun _ => hbooks, hcount⟩
/-- An event that the acting Vat detects and only counts. -/
theorem vatCount_steady {src : Nat} (h : s.steady src = true) (ha : s.acting.isSome = true) (x : Detail) :
    s.vatCount src x = s.applyCount src s.now [x] := by
  obtain ⟨key, hkey, heach, -⟩ := (steady_iff src).mp h
  simp only [State.vatCount, hkey, reactionsOf_of_mod16 _ _ _ heach, agentReact_of_mod16 _ _ heach]
  rw [if_neg (by simpa [Option.isSome_iff_ne_none] using ha)]
theorem vatCount_steady_books {src : Nat} (h : s.steady src = true) (ha : s.acting.isSome = true) (x : Detail) (h232 : classOf src ≠ some 232) :
    (s.vatCount src x).sansBooks = s.sansBooks ∧ (s.vatCount src x).counter src = (s.bump src 1 s.now).1.counter src := by
  rw [vatCount_steady h ha]
  exact ⟨(applyCount_steady h x).1 h232, (applyCount_steady h x).2⟩
/-- As `vatCount_steady_books`, for an event that is recorded whatever its class's RECORD says (R45). -/
theorem vatCountRecorded_steady {src : Nat} (h : s.steady src = true) (ha : s.acting.isSome = true) (x : Detail) (h232 : classOf src ≠ some 232)
    (h9 : src ≠ pkgSource 9) :
    (s.vatCountRecorded src x).sansBooks = s.sansBooks ∧ (s.vatCountRecorded src x).counter src = (s.bump src 1 s.now).1.counter src := by
  obtain ⟨key, hkey, -⟩ := (steady_iff src).mp h
  have hcount (t : State) (hb : t.sansBooks = s.sansBooks) (hc : t.counter src = s.counter src) :
      (t.vatCount src x).sansBooks = s.sansBooks ∧ (t.vatCount src x).counter src = (s.bump src 1 s.now).1.counter src := by
    have hg := shared_of_sansBooks Shared.classCfg (fun _ => rfl) hb
    have ht : t.steady src = true := (steady_congr hc hg (pkg_of_sansBooks hb) (now_of_sansBooks hb)).trans h
    obtain ⟨h1, h2⟩ := vatCount_steady_books ht (by rw [acting_of_sansBooks hb]; exact ha) x h232
    refine ⟨h1.trans hb, h2.trans ?_⟩
    rw [now_of_sansBooks hb]
    exact (bump_congr hc hg (pkg_of_sansBooks hb) 1 s.now).2
  simp only [State.vatCountRecorded, hkey]
  split
  · exact hcount s rfl rfl
  · exact hcount _ (record_sansBooks ..) (record_counter s h9 ..)
/-- The class of a source of a hub (R229). -/
theorem classOf_hubSource (v : Hub) (k : Nat) (hk : k < 14) : classOf (hubSource v k) = some (160 + k) := by
  have hd : sourceDie (hubSource v k) = hubDie v := by cases v <;> simp only [sourceDie, hubSource, dieSource, hubDie] <;> omega
  have hi : hubSource v k % 8192 = 7520 + k := by cases v <;> simp only [hubSource, dieSource, hubDie] <;> omega
  cases v <;> simp [classOf, hd, hi, hubDie] <;> omega
theorem hubSource_ne_pkgSource (v : Hub) (k n : Nat) (hk : k < 14) (hn : n < 11) : hubSource v k ≠ pkgSource n := by
  intro h
  have := (classOf_hubSource v k hk).symm.trans (h ▸ classOf_pkgSource n hn)
  simp only [Option.some.injEq] at this
  omega

end

/-! ## The arrival of a message (R319, R363) -/

/-- A state but for the network's own state. -/
def State.withFelt (s : State) (n : Felt) : State := { s with felt := n }

section
variable (s : State) (n : Felt)

@[simp] theorem withFelt_felt : (s.withFelt n).felt = n := rfl
@[simp] theorem withFelt_pkg : (s.withFelt n).pkg = s.pkg := rfl
@[simp] theorem withFelt_dbg : (s.withFelt n).dbg = s.dbg := rfl
@[simp] theorem withFelt_vatA : (s.withFelt n).vatA = s.vatA := rfl
@[simp] theorem withFelt_vatB : (s.withFelt n).vatB = s.vatB := rfl
@[simp] theorem withFelt_sh : (s.withFelt n).sh = s.sh := rfl
@[simp] theorem withFelt_dies : (s.withFelt n).dies = s.dies := rfl
@[simp] theorem withFelt_cores : (s.withFelt n).cores = s.cores := rfl
@[simp] theorem withFelt_lcs : (s.withFelt n).lcs = s.lcs := rfl
@[simp] theorem withFelt_reel : (s.withFelt n).reel = s.reel := rfl
@[simp] theorem withFelt_pending : (s.withFelt n).pending = s.pending := rfl
@[simp] theorem withFelt_out : (s.withFelt n).out = s.out := rfl
@[simp] theorem withFelt_fresh : (s.withFelt n).fresh = s.fresh := rfl
@[simp] theorem withFelt_acting : (s.withFelt n).acting = s.acting := rfl
@[simp] theorem withFelt_activeHub : (s.withFelt n).activeHub = s.activeHub := rfl
@[simp] theorem withFelt_now : (s.withFelt n).now = s.now := rfl
@[simp] theorem withFelt_epoch : (s.withFelt n).epoch = s.epoch := rfl
@[simp] theorem withFelt_actDie : (s.withFelt n).actDie = s.actDie := rfl
@[simp] theorem withFelt_die (k : Nat) : (s.withFelt n).die k = s.die k := rfl
@[simp] theorem withFelt_core (k : Nat) : (s.withFelt n).core k = s.core k := rfl
@[simp] theorem withFelt_lc (k : Nat) : (s.withFelt n).lc k = s.lc k := rfl
@[simp] theorem withFelt_ctx (k : Nat) : (s.withFelt n).ctx k = s.ctx k := rfl
@[simp] theorem withFelt_ticket (k : Nat) : (s.withFelt n).ticket k = s.ticket k := rfl
@[simp] theorem withFelt_counter (k : Nat) : (s.withFelt n).counter k = s.counter k := rfl
@[simp] theorem withFelt_cfg (k : Nat) : (s.withFelt n).cfg k = s.cfg k := rfl
@[simp] theorem withFelt_lcOf (k : Nat) : (s.withFelt n).lcOf k = s.lcOf k := rfl
@[simp] theorem withFelt_carrier (k : Nat) : (s.withFelt n).carrier k = s.carrier k := rfl
@[simp] theorem withFelt_dieReel (k : Nat) : (s.withFelt n).dieReel k = s.dieReel k := rfl
@[simp] theorem withFelt_tagOf (k : Nat) : (s.withFelt n).tagOf k = s.tagOf k := rfl
@[simp] theorem withFelt_lcCtx (k : Nat) : (s.withFelt n).lcCtx k = s.lcCtx k := rfl
@[simp] theorem withFelt_home (k : Nat) : (s.withFelt n).home k = s.home k := rfl
@[simp] theorem withFelt_phys (k : Nat) : (s.withFelt n).phys k = s.phys k := rfl
@[simp] theorem withFelt_dist (k : Nat) : (s.withFelt n).dist k = s.dist k := rfl
@[simp] theorem withFelt_flashKind (k : Nat) : (s.withFelt n).flashKind k = s.flashKind k := rfl
@[simp] theorem withFelt_session (k : Nat) : (s.withFelt n).session k = s.session k := rfl
@[simp] theorem withFelt_vat (k : Hub) : (s.withFelt n).vat k = s.vat k := by cases k <;> rfl
@[simp] theorem withFelt_sansBooks : (s.withFelt n).sansBooks = s.sansBooks := rfl

end

section
variable {s : State} {i j : Instr} {v : Hub} {h : Hdr} {ty : Nat} {f : State → State} {P : State → Prop}

theorem recv_unseen {rcv : Nat} (hu : s.unseen rcv h ty = true) : ∃ n, s.recv rcv h ty f =
    if ackedType ty then (f (s.withFelt n)).ack rcv h.src ty h.seq 0 else f (s.withFelt n) := by
  refine ⟨(s.noteSeen rcv h.src ty h.seq).felt, ?_⟩
  unfold State.recv
  rw [if_neg (by simpa [State.unseen] using hu)]
  rfl
/-- What an agent's message does when it arrives at the acting Vat for the first time. -/
theorem gives_recvVat (hexec : exec i s = .next (s.recvVat j h ty f)) (ha : s.acting = some v) (hn : s.newAt v h ty = true)
    (hP : ∀ n, P (if ackedType ty then (f (s.withFelt n)).ack (hubDie v) h.src ty h.seq 0 else f (s.withFelt n))) : Gives i s P := by
  simp only [State.newAt, Bool.and_eq_true, bne_iff_ne] at hn
  obtain ⟨hgap, hu⟩ := hn
  have hu' : (s.hear h.src).unseen (hubDie v) h ty = true := hu
  obtain ⟨n, hrecv⟩ := recv_unseen (f := f) hu'
  refine ⟨_, hexec, ?_⟩
  have hgap' : ((s.sh.gap.map (·.step)) == some 4) = false := by simpa using hgap
  simp only [State.recvVat, hgap', ha]
  rw [hrecv]
  exact hP n
/-- What the acting Vat's command does when it arrives at an agent for the first time: CPL_EPOCH is its epoch. -/
theorem gives_recvCmd {d : Nat} (hexec : exec i s = .next (s.recvCmd d h ty f)) (hr : (s.die d).inReset = false) (he : (s.die d).epoch ≤ h.epoch)
    (hu : s.unseen d h ty = true)
    (hP : ∀ n, P (if ackedType ty then (f ((s.modDie d fun k => { k with epoch := h.epoch }).withFelt n)).ack d h.src ty h.seq 0
      else f ((s.modDie d fun k => { k with epoch := h.epoch }).withFelt n))) : Gives i s P := by
  have hu' : (s.modDie d fun k => { k with epoch := h.epoch }).unseen d h ty = true := hu
  obtain ⟨n, hrecv⟩ := recv_unseen (f := f) hu'
  refine ⟨_, hexec, ?_⟩
  simp only [State.recvCmd, hr, Bool.false_eq_true, if_false, Nat.not_lt.mpr he]
  rw [hrecv]
  exact hP n
theorem gives_recvVat_acked (hack : ackedType ty = true) (hexec : exec i s = .next (s.recvVat j h ty f))
    (ha : s.acting = some v) (hn : s.newAt v h ty = true)
    (hP : ∀ n, P ((f (s.withFelt n)).ack (hubDie v) h.src ty h.seq 0)) : Gives i s P :=
  gives_recvVat hexec ha hn fun n => by rw [if_pos hack]; exact hP n
theorem gives_recvVat_unacked (hack : ackedType ty = false) (hexec : exec i s = .next (s.recvVat j h ty f))
    (ha : s.acting = some v) (hn : s.newAt v h ty = true)
    (hP : ∀ n, P (f (s.withFelt n))) : Gives i s P :=
  gives_recvVat hexec ha hn fun n => by rw [if_neg (by simp [hack])]; exact hP n
theorem gives_recvCmd_unacked {d : Nat} (hack : ackedType ty = false) (hexec : exec i s = .next (s.recvCmd d h ty f))
    (hr : (s.die d).inReset = false) (he : (s.die d).epoch ≤ h.epoch) (hu : s.unseen d h ty = true) (hP : ∀ n, P (f ((s.modDie d fun k => { k with epoch := h.epoch }).withFelt n))) : Gives i s P :=
  gives_recvCmd hexec hr he hu fun n => by rw [if_neg (by simp [hack])]; exact hP n
theorem gives_recvCmd_acked {d : Nat} (hack : ackedType ty = true) (hexec : exec i s = .next (s.recvCmd d h ty f))
    (hr : (s.die d).inReset = false) (he : (s.die d).epoch ≤ h.epoch) (hu : s.unseen d h ty = true) (hP : ∀ n, P ((f ((s.modDie d fun k => { k with epoch := h.epoch }).withFelt n)).ack d h.src ty h.seq 0)) : Gives i s P :=
  gives_recvCmd hexec hr he hu fun n => by rw [if_pos hack]; exact hP n
theorem recv_unseen_acked {rcv : Nat} (hack : ackedType ty = true) (hu : s.unseen rcv h ty = true) :
    ∃ n, s.recv rcv h ty f = (f (s.withFelt n)).ack rcv h.src ty h.seq 0 := by
  obtain ⟨n, hn⟩ := recv_unseen (f := f) hu
  exact ⟨n, by rw [hn, if_pos hack]⟩
theorem withFelt_keeps {kp : Bool} {s0 : State} (n : Felt) (h : Keeps kp s0 s) : Keeps kp s0 (s.withFelt n) := { h with }
theorem emits_ack_of {kp : Bool} {t : State} (hk : Keeps kp s t) (die dst ty seq status : Nat) :
    Emits s (t.ack die dst ty seq status) (.ack die dst ty seq status 0) := .after_keeps hk (emits_ack ..)
/-- An answer leaves all but the network's own state and what has left. -/
theorem ack_eq (s : State) (die dst ty seq status : Nat) : ∃ n o, s.ack die dst ty seq status = { s with felt := n, out := o } :=
  (((OnlyFelt.refl s).inject _).emit _)

end
end Sys2Proof.Machine
end

section
/-! SUPPORT. Fault collection: the commands on counters, their delivery to the Vat, and the sources of a die (07). -/

namespace Sys2Proof.Machine

section
variable {s : State} {rq : Req}

theorem counter_finish (t : State) (op st : Nat) (cl : List Clamp) (data : List (Nat × Nat)) (k : Nat) :
    (t.finish rq op st cl data).counter k = t.counter k := by
  obtain ⟨o, a, b, h⟩ := finish_eq (rq := rq) t op st cl data
  rw [h]; rfl
/-- A reply leaves everything of the Vats' mirrored part but its slots and retained replies. -/
theorem shared_finish {α : Type} (g : Shared → α) (hg : ∀ h a b, g { h with slots := a, retained := b } = g h) (t : State) (op st : Nat)
    (cl : List Clamp) (data : List (Nat × Nat)) : g (t.finish rq op st cl data).sh = g t.sh := by
  obtain ⟨o, a, b, h⟩ := finish_eq (rq := rq) t op st cl data
  rw [h]
  exact hg ..
theorem cfg_of_sh {t u : State} (h : t.sh.classCfg = u.sh.classCfg) (k : Nat) : t.cfg k = u.cfg k := cfg_of_classCfg h k
theorem sourcesDeny_of_not_tenant (h : rq.priv ≠ .tenant) (first n : Nat) : s.sourcesDeny rq first n = none := by
  simp [State.sourcesDeny, State.sourceDeny, h]
theorem clampTo_of_le {lo hi v : Nat} (hlo : lo ≤ v) (hhi : v ≤ hi) (field width : Nat) : clampTo field width lo hi v = (v, []) := by
  simp [clampTo, max_eq_right hlo, min_eq_right hhi]
theorem clampOr_of_le {lo hi v : Nat} (h0 : v ≠ 0) (hlo : lo ≤ v) (hhi : v ≤ hi) (field width dflt : Nat) : clampOr field width lo hi dflt v = (v, []) := by
  rw [clampOr, if_neg h0, clampTo_of_le hlo hhi]
/-- DIE_REGION has no class: it never increments (R238). -/
theorem classOf_dieRegion {src : Nat} (h : (decide (sourceDie src < 100) && decide (src % 8192 = 7488)) = true) : classOf src = none := by
  simp only [Bool.and_eq_true, decide_eq_true_eq] at h
  simp [classOf, h.1, h.2]
/-- A key that no entry has reads as the default. -/
theorem tget_filter_of_not {α : Type} (d : α) (p : Nat × α → Bool) (k : Nat) (h : ∀ v, p (k, v) = false) : ∀ t : Table α, tget d (t.filter p) k = d
  | [] => rfl
  | (n, v) :: t => by
    have ih := tget_filter_of_not d p k h t
    rw [List.filter_cons]
    split
    · rename_i hp
      have hn : k ≠ n := fun e => by rw [← e, h] at hp; contradiction
      simp [tget, hn, ih]
    · exact ih

end

/-- Settles O6. -/
theorem faultCommandsComplete : Obligations.FaultCommandsComplete := by
  refine ⟨?_, ?_, ?_, ?_, ?_⟩
  · intro s rq first h hpriv
    refine gives_of_takes h rfl rfl fun a b => ?_
    dsimp only
    rw [clampTo_of_le (by omega) (by omega), sourcesDeny_of_not_tenant hpriv]
    dsimp only
    have hcount (u : State) : (u.modSh fun h => { h with counters := tset {} h.counters first (s.leaked first) }).counter first = s.leaked first := by
      simp [State.counter]
    refine ⟨answers_finish_of ?_, (counter_finish ..).trans (hcount _)⟩
    refine congrArg (fun c : Counter => [(32, first), (16, c.count), (8, c.cross), (8, b2n c.armed + 2 * b2n (s.sh.pins.contains first)), (32, c.total)]) (hcount (s.taken a b))
  · intro s rq src e h n w r key ha hkey hblk h216 he hh hn hn' hw hw' hr
    refine gives_of_takes ha rfl rfl fun a b => ?_
    have hcls : cfgClassOf src = some key := by
      unfold cfgClassOf
      split
      · rename_i hreg
        rw [classOf_dieRegion hreg] at hkey
        contradiction
      · exact hkey
    dsimp only
    rw [hcls]
    have hallow : allowedReactions key = 31 := by simp [allowedReactions, hblk]
    have h31 (x : Nat) (hx : x < 32) : x &&& 31 = x := by
      rw [show 31 = 2 ^ 5 - 1 from rfl, Nat.and_two_pow_sub_one_eq_mod]
      omega
    dsimp only
    rw [clampOr_of_le (by omega) (by omega) hn', clampOr_of_le (by omega) (by omega) hw', clampTo_of_le (by omega) hr, hallow, h31 _ he, h31 _ hh, if_neg h216,
      Nat.or_zero]
    dsimp only
    rw [cfg_of_sh (shared_finish Shared.classCfg (fun _ _ _ => rfl) ..)]
    rw [cfg_of_sansBooks ((record_sansBooks ..).trans ((mramWrite_sansBooks _).trans (mirror_sansBooks _)))]
    simp only [State.cfg, modSh_sh, tget_tset, if_true]
    split
    · rename_i hd
      exact hd.symm
    · rfl
  · intro s rq first count h hpriv hlo hhi
    refine gives_of_takes h rfl rfl fun a b => ?_
    dsimp only
    rw [clampTo_of_le hlo hhi, sourcesDeny_of_not_tenant hpriv]
    dsimp only
    refine ⟨answers_finish_nil .., fun k hk hk' h9 => ?_⟩
    rw [counter_finish, record_counter _ h9, mirror_counter]
    exact tget_filter_of_not _ _ _ (fun v => by simp; omega) _
  · intro s rq src h hmem hcond
    refine gives_of_takes h rfl rfl fun a b => ?_
    dsimp only
    have hcond' : (s.taken a b).pinCondition src = false := hcond
    rw [if_neg (by simpa using hmem), hcond', if_neg (by simp)]
    have hpins := shared_of_sansBooks (t := (((s.taken a b).modSh fun h => { h with pins := h.pins.filter (· != src) }).mirror.mramWrite.record 0x0703 0 src
      (privCode rq.priv) 0 0)) (u := (s.taken a b).modSh fun h => { h with pins := h.pins.filter (· != src) }) Shared.pins (fun _ => rfl) (by simp)
    rw [shared_finish Shared.pins (fun _ _ _ => rfl), hpins]
    refine ⟨by simp, fun k hk hne => by simp [hk, hne], answers_finish_nil ..⟩
  · intro s rq h
    refine gives_of_takes h rfl rfl fun a b => ?_
    have hlist (t : State) : t.mirror.sh.pendingList = t.sh.pendingList := by
      obtain ⟨n, hn⟩ := mirror_sh t
      rw [hn]
    dsimp only
    rw [shared_finish Shared.pendingList (fun _ _ _ => rfl), hlist]
    refine ⟨rfl, answers_finish_of ?_⟩
    simp

section
variable {s : State}

theorem mem_insertNat (n : Nat) : ∀ l : List Nat, n ∈ insertNat n l
  | [] => by simp [insertNat]
  | k :: l => by
    have ih := mem_insertNat n l
    unfold insertNat
    split
    · simp
    · split <;> simp [*]
theorem toVat_acting {v : Hub} (h : s.acting = some v) (d ty : Nat) (words : List Nat) : s.toVat d ty words = s.feltSend d ty 0 (hubDie v) words := by
  simp [State.toVat, h]
theorem counter_ack (t : State) (die dst ty seq status k : Nat) : (t.ack die dst ty seq status).counter k = t.counter k := by
  obtain ⟨n, o, h⟩ := ack_eq t die dst ty seq status
  rw [h]; rfl
/-- PIN sets its source's latch (R242). -/
theorem setPin_pins (src : Nat) : src ∈ (s.setPin src).sh.pins := by
  unfold State.setPin
  split
  · rename_i h
    simpa using h
  · rw [shared_of_sansBooks (u := s.modSh fun h => { h with pins := insertNat src h.pins }) Shared.pins (fun _ => rfl) ((record_sansBooks ..).trans (mramWrite_sansBooks _))]
    exact mem_insertNat src s.sh.pins

end

/-- Settles O7. -/
theorem faultDeliveryCompletes : Obligations.FaultDeliveryCompletes := by
  refine ⟨?_, ?_, ?_, ?_, ?_, ?_, ?_⟩
  · intro s d v hd hr ha hne
    refine ⟨_, guardId_of_true hd, ?_⟩
    have hemp : (s.die d).first.isEmpty = false := by simpa using hne
    simp only [State.forwardFirst, hr, ha, hemp, Option.isNone_some, Bool.or_self, Bool.false_eq_true, if_false]
    rw [toVat_acting (v := v) (by exact ha)]
    exact ⟨by rw [die_of_sansBooks (feltSend_sansBooks ..)]; simp, _, emits_feltSend (s.modDie d _) .., rfl, rfl, rfl⟩
  · intro s h v src r hd ha hn hlt hst hr
    refine gives_recvVat_acked (by rfl) (guardId_of_true (by simp [hd, hlt])) ha hn fun n => ?_
    have hst' : (s.withFelt n).steady src = true := (steady_congr (s := s) (t := s.withFelt n) rfl rfl rfl rfl).trans hst
    have hcount := (applyCount_steady hst' default).2
    subst hr
    refine ⟨?_, emits_ack_of (each_keepsS (kp := false) _ _ (fun t b => applyBatch_keeps _ _) (withFelt_keeps n (Keeps.refl _ _))) ..⟩
    have hbatch : (s.withFelt n).applyBatch h.src { source := src, count := 1, sat := false, reel := s.now, details := [default] } =
        (s.withFelt n).applyCount src (s.withFelt n).now [default] := by
      simp [State.applyBatch]
    rw [counter_ack, show ∀ b, each [b] (fun s b => s.applyBatch h.src b) (s.withFelt n) = (s.withFelt n).applyBatch h.src b from fun _ => rfl, hbatch,
      hcount]
    exact congrArg Counter.total (bump_congr (s := s) (t := s.withFelt n) rfl rfl rfl 1 s.now).2
  · intro s h d src hd hr he hu hlt
    refine gives_recvCmd_acked (by rfl) (guardId_of_true (by simp [hd, hlt])) hr he hu fun n => ?_
    obtain ⟨m, o, hack⟩ := ack_eq (((s.modDie d fun k => { k with epoch := h.epoch }).withFelt n).setPin src) d h.src 0x0A h.seq 0
    refine ⟨?_, emits_ack_of (agentReact_keeps (kp := false) _ _ _ (withFelt_keeps n (modDie_keeps _ _ (Keeps.refl _ _)))) ..⟩
    have hpin (u : State) : u.agentReact d src (8 * b2n false + 4 * b2n false + b2n true) = u.setPin src := by
      simp [State.agentReact, b2n, bit]
    dsimp only
    rw [hpin, hack]
    exact setPin_pins src
  · intro s h d src hd hr hu
    refine ⟨_, guardId_of_true hd, ?_⟩
    rw [if_neg (by simp [hr])]
    obtain ⟨n, hrecv⟩ := recv_unseen_acked (by rfl) (f := fun s => s.emit (.trap d src)) hu
    rw [hrecv]
    exact ⟨.of_keeps (emits_emit (s.withFelt n) _) (ack_keeps (kp := false) _ _ _ _ _ (Keeps.refl _ _)), emits_ack_of (emit_keeps _ (withFelt_keeps (kp := false) n (Keeps.refl _ _))) ..⟩
  · intro s v hnew ha hdue
    have hdue' : (match s.sh.intAt with | some t => decide (t + 10000 ≤ s.reel) | none => true) = true := by
      cases hi : s.sh.intAt with
      | none => rfl
      | some r => exact decide_eq_true (hdue r hi)
    refine ⟨(s.modSh fun h => { h with intNew := false, intAt := some s.reel }).msi 0, ?_, ?_⟩
    · rw [exec_intPostTick]
      unfold execIntPostTick
      dsimp only
      rw [if_pos (by simp only [hnew, ha, Option.isSome_some, Bool.and_self]; exact hdue')]
    · unfold State.msi
      split
      · exact ⟨rfl, rfl, fun _ => emits_emit (s.modSh _) _⟩
      · rename_i hb
        exact ⟨rfl, rfl, fun hb' => absurd hb' hb⟩
  · intro s v w l ha hw hst
    refine ⟨((s.modSh fun h => { h with msiWait := l }).vatCountRecorded (hubSource v 10) default), ?_, ?_⟩
    · have hhub : s.postingHub = v := by simp [State.postingHub, ha]
      simp only [exec_msiAcceptTimeout, execMsiAcceptTimeout, hw, hhub]
    · have hst' : (s.modSh fun h => { h with msiWait := l }).steady (hubSource v 10) = true :=
        (steady_congr (s := s) (t := s.modSh fun h => { h with msiWait := l }) rfl rfl rfl rfl).trans hst
      obtain ⟨hbooks, hcount⟩ := vatCountRecorded_steady hst' (by change s.acting.isSome = true; rw [ha]; rfl) default
        (by rw [classOf_hubSource v 10 (by omega)]; simp) (hubSource_ne_pkgSource v 10 9 (by omega) (by omega))
      refine ⟨shared_of_sansBooks Shared.msiWait (fun _ => rfl) hbooks, ?_⟩
      rw [hcount]
      exact congrArg Counter.total (bump_congr (s := s) (t := s.modSh fun h => { h with msiWait := l }) rfl rfl rfl 1 s.now).2
  · intro s w l hw
    refine ⟨_, by simp only [exec_messageInterruptAccepted, execMessageInterruptAccepted, hw]; rfl, ?_⟩
    obtain ⟨n, hn⟩ := mirror_sh ((s.modSh fun h => { h with msiWait := l }).modSh fun h => { h with readyPosted := true })
    split
    · rename_i h2
      rw [hn]
      simp [h2]
    · rename_i h2
      simp [h2]

/-- Settles O8: an event whose class takes no reaction is counted at its agent's first stage alone. -/
theorem dieErrorsAreCounted : Obligations.DieErrorsAreCounted := by
  refine ⟨?_, ?_, ?_, ?_, ?_, ?_⟩
  · intro s d link hd hr hcalm
    exact ⟨_, guardId_of_true hd, firstCount_agentCount hcalm d _ hr, emits_after_count hcalm ..⟩
  · intro s d hd hr hcalm
    exact ⟨_, guardId_of_true (by simpa using hd), firstCount_agentCount hcalm d _ hr, emits_after_count hcalm ..⟩
  · intro s d c hd hc hr hcalm
    exact ⟨_, guardId_of_true (by simp [hd, hc]), firstCount_agentCount hcalm d _ hr, emits_after_count hcalm ..⟩
  · intro s d e l hd he hl hr hcalm
    refine ⟨_, guardId_of_true (by simp [hd, he]), firstCount_agentCount hcalm d _ hr, ?_⟩
    rw [Nat.mod_eq_of_lt hl]
    exact emits_after_count hcalm ..
  · intro s d hd hr hcalm
    refine ⟨_, guardId_of_true hd, ?_⟩
    rw [if_neg (by simp [hr])]
    exact firstCount_agentCount hcalm d _ hr
  · intro s p hp hr hcalm
    have hcalm' : (s.modCore p fun c => { c with screenValid := false }).calm (coreSource p 33) = true := hcalm
    refine ⟨_, guardId_of_true hp, ?_, firstCount_agentCount hcalm' _ _ hr⟩
    obtain ⟨l, hl⟩ := agentCount_dies hcalm' (coreDie p) (s.coreDetail p)
    simp only [if_true]
    rw [hl]
    exact congrArg Core.screenValid ((modCore_core s p (fun c => { c with screenValid := false }) p).trans (if_pos rfl))

end Sys2Proof.Machine
end

section
/-! SUPPORT. Torty packages: submission and distribution at the Vat, reception at the agents (R206-R224). -/

namespace Sys2Proof.Machine

/-! ## Masks of dies -/

theorem bit_eq_testBit (v b : Nat) : bit v b = v.testBit b := by
  simp only [bit, Nat.testBit_eq_decide_div_mod_eq, beq_eq_decide]
theorem maskSum (f : Nat → Bool) : ∀ n, ((List.range n).map fun d => b2n (f d) * 2 ^ d).foldl (· + ·) 0 < 2 ^ n ∧
    ∀ e, bit (((List.range n).map fun d => b2n (f d) * 2 ^ d).foldl (· + ·) 0) e = (decide (e < n) && f e)
  | 0 => by simp [bit]
  | n + 1 => by
    obtain ⟨hlt, hbit⟩ := maskSum f n
    simp only [bit_eq_testBit] at hbit ⊢
    simp only [List.range_succ, List.map_append, List.map_cons, List.map_nil, List.foldl_append, List.foldl_cons, List.foldl_nil]
    generalize ((List.range n).map fun d => b2n (f d) * 2 ^ d).foldl (· + ·) 0 = v at *
    have hb : b2n (f n) ≤ 1 := by cases f n <;> simp [b2n]
    refine ⟨?_, fun e => ?_⟩
    · have := Nat.mul_le_mul_right (2 ^ n) hb
      rw [Nat.pow_succ]
      omega
    · rw [Nat.add_comm, Nat.mul_comm, Nat.testBit_two_pow_mul_add _ hlt]
      split
      · rename_i he
        rw [hbit e]
        simp [he, Nat.lt_succ_of_lt he]
      · rename_i he
        by_cases hn : e = n
        · subst hn
          cases f e <;> simp [b2n]
        · have hpos : e - n ≠ 0 := by omega
          have hno : ¬ e < n + 1 := by omega
          have h1 := Nat.testBit_lt_two_pow (Nat.one_lt_two_pow hpos)
          cases f n <;> simp [b2n, hno, h1]

section
variable {s : State} {rq : Req}

/-! ## Running commands that end (R408-R410) -/

/-- The end of a running command changes the running commands, its reply's places, the done bits and the interrupts alone. -/
theorem endRun_eq (t : State) (x : Run) (status : Nat) (data : List (Nat × Nat)) : ∃ o a b c d, t.endRun x status data =
    { t with out := o, sh := { t.sh with runs := t.sh.runs.erase x, slots := a, retained := b, aptDone := c, msiWait := d } } := by
  obtain ⟨o, a, b, h⟩ := deliver_eq (t.modSh fun h => { h with runs := h.runs.erase x }) x.path x.tag x.crc
    ((t.modSh fun h => { h with runs := h.runs.erase x }).mkReply x.opcode x.tag status x.clamps data)
  have hmsi (u : State) (v : Nat) : ∃ o l, u.msi v = { u with out := o, sh := { u.sh with msiWait := l } } := by
    unfold State.msi
    split
    · exact ⟨_, _, rfl⟩
    · exact ⟨_, _, rfl⟩
  unfold State.endRun
  dsimp only
  rw [h]
  split
  · split
    · obtain ⟨o, l, hm⟩ := hmsi _ 1
      rw [hm]
      exact ⟨_, _, _, _, _, rfl⟩
    · exact ⟨_, _, _, _, _, rfl⟩
  · exact ⟨_, _, _, _, _, rfl⟩
/-- The end of running commands leaves everything of the Vats' mirrored part but their own places. -/
theorem shared_endRuns {α : Type} (g : Shared → α) (hg : ∀ h a b c d e, g { h with runs := a, slots := b, retained := c, aptDone := d, msiWait := e } = g h) (t : State) (p : Run → Bool) (status : Nat) (data : List (Nat × Nat)) :
    g (t.endRuns p status data).sh = g t.sh := by
  refine each_keeps (fun u : State => g u.sh) _ _ _ fun u x => ?_
  obtain ⟨o, a, b, c, d, h⟩ := endRun_eq u x status data
  rw [h]
  exact hg ..
theorem dies_endRuns (t : State) (p : Run → Bool) (status : Nat) (data : List (Nat × Nat)) : (t.endRuns p status data).dies = t.dies := by
  refine each_keeps State.dies _ _ _ fun u x => ?_
  obtain ⟨o, a, b, c, d, h⟩ := endRun_eq u x status data
  rw [h]
theorem dies_record (t : State) (code severity source p1 p2 p3 : Nat) : (t.record code severity source p1 p2 p3).dies = t.dies :=
  dies_of_sansBooks (record_sansBooks ..)
theorem dies_clearVoid (t : State) (b : Nat) : (t.clearVoid b).dies = t.dies := by
  unfold State.clearVoid
  dsimp only
  split
  · split
    · exact dies_record ..
    · rfl
  · rfl
theorem dies_finishDist (t : State) (x : Dist) : (t.finishDist x).dies = t.dies := by
  unfold State.finishDist
  dsimp only
  have hite (c : Prop) [Decidable c] (u v : State) : (if c then u else v).dies = if c then u.dies else v.dies := apply_ite ..
  simp [hite, dies_clearVoid, State.endCommit, dies_endRuns, dies_record, State.modFlash, State.distDone]
theorem dies_activated (t : State) (kind d count : Nat) : (t.activated kind d count).dies = t.dies := by
  unfold State.activated
  split
  · rfl
  · split
    · rfl
    · dsimp only
      split
      · exact dies_finishDist ..
      · rfl

/-! ## The start of a distribution (R217-R218) -/

/-- The sends of a Vat leave all but the network's own state and what has left. -/
theorem each_vatSend_only {α : Type} (l : List α) (ty mode : Nat) (dst : α → Nat) (m : State → α → List Nat) (t : State) :
    OnlyFelt t (each l (fun s a => s.vatSend ty mode (dst a) (m s a)) t) :=
  each_holds (OnlyFelt t) l _ t (fun _ _ h => h.feltSend ..) (OnlyFelt.refl t)
theorem sendOpen_only (t : State) (x : Dist) : OnlyFelt (t.modDist x.kind fun y => { y with step := 1 }) (t.sendOpen x) := each_vatSend_only (dst := id) ..
theorem openDist_spec (t : State) (kind : Nat) (data : List Host.Cell) (asked : Option Nat) (targets : List Nat) :
    (t.openDist kind data asked targets).sh.runs = t.sh.runs ∧ (t.openDist kind data asked targets).pkg = t.pkg ∧
      ∃ x, (t.openDist kind data asked targets).dist kind = some x ∧ x.data = data ∧ x.targets = targets := by
  unfold State.openDist
  dsimp only
  split
  · exact ⟨rfl, rfl, _, by simp [State.dist]; rfl, rfl, rfl⟩
  · obtain ⟨n, o, h⟩ := sendOpen_only (State.modSh _ _) _
    rw [h]
    exact ⟨rfl, rfl, _, by simp [State.dist, State.modDist]; rfl, rfl, rfl⟩

theorem dist_modDist {t : State} {kind : Nat} {x : Dist} (h : t.dist kind = some x) (f : Dist → Dist) : (t.modDist kind f).dist kind = some (f x) := by
  have h' : tget none t.sh.dists kind = some x := h
  simp [State.dist, State.modDist, h']
theorem sendChunk_only (t : State) (x : Dist) (n : Nat) (target : Option Nat) : OnlyFelt t (t.sendChunk x n target) :=
  ((OnlyFelt.refl t).feltSend ..).emit _
theorem OnlyFelt.dist {t u : State} (h : OnlyFelt t u) (kind : Nat) : u.dist kind = t.dist kind := by obtain ⟨n, o, rfl⟩ := h; rfl
/-- Every member of a fold's list has its own transaction sent. -/
theorem emits_each {α : Type} {l : List α} {f : State → α → State} {a : α} {Q : Txn → Prop} (I : State → Prop) (hI : I s)
    (hstep : ∀ t x, I t → I (f t x)) (hk : ∀ u t x, Keeps false u t → Keeps false u (f t x)) (ha : a ∈ l)
    (ho : ∀ t, I t → ∃ w, Emits t (f t a) (.felt w) ∧ Q w) : ∃ w, Emits s (each l f s) (.felt w) ∧ Q w := by
  induction l generalizing s with
  | nil => contradiction
  | cons x l ih =>
    have hrest (t : State) : Keeps false t (each l f t) := each_keepsS _ _ (fun u y => hk t u y) (Keeps.refl false t)
    obtain rfl | ha := List.mem_cons.mp ha
    · obtain ⟨w, hw, hq⟩ := ho s hI
      exact ⟨w, hw.of_keeps (hrest _), hq⟩
    · obtain ⟨w, hw, hq⟩ := ih (hstep s x hI) ha
      exact ⟨w, .after_keeps (hk s s x (Keeps.refl false s)) hw, hq⟩
/-- An arm of a distribution: its first count stays, and nobody has acknowledged (R221). -/
theorem armDist_dist {t : State} {kind : Nat} {x : Dist} (h : t.dist kind = some x) (dies : List Nat) (count : Nat) :
    ∃ y, (t.armDist kind dies count).dist kind = some y ∧ y.firstArm = some (x.firstArm.getD count) ∧ y.acked = [] := by
  unfold State.armDist
  rw [h]
  dsimp only
  exact ⟨_, ((each_vatSend_only dies 0x8D 0 id (fun _ _ => [x.id, count]) _).dist kind).trans (dist_modDist h _), rfl, rfl⟩
/-- A diagnostic package's commit runs on, and its distribution starts at once (R217). -/
theorem commit_runs (t : State) (cl : List Clamp) (data : List Host.Cell) (asked : Option Nat) {targets l : List Nat} (h : targets = l) :
    ((t.beginRun rq 0x0603 0 4 cl).openDist 4 data asked targets).runs rq 0x0603 0 ∧
      ∃ x, ((t.beginRun rq 0x0603 0 4 cl).openDist 4 data asked targets).dist 4 = some x ∧ x.data = data ∧ x.targets = l := by
  obtain ⟨hruns, -, hx⟩ := openDist_spec (t.beginRun rq 0x0603 0 4 cl) 4 data asked targets
  obtain ⟨e, he, hrest⟩ := runs_beginRun (rq := rq) t 0x0603 0 4 cl
  exact ⟨⟨e, hruns ▸ he, hrest⟩, h ▸ hx⟩
/-- The dies that a mask names count where they are enabled. -/
theorem distTargets_mask {mask m : Nat} (hm : ∀ e, bit m e = (decide (e < 96) && (bit mask e && s.enabled e))) :
    s.distTargets 4 m = s.distTargets 4 mask := by
  refine List.filter_congr fun d hd => ?_
  have hlt : d < 96 := by simpa using hd
  simp [hm d, hlt, Bool.and_assoc]

end

/-- Settles O9. -/
theorem packageSubmissionCompletes : Obligations.PackageSubmissionCompletes := by
  refine ⟨?_, ?_, ?_, ?_, ?_, ?_, ?_, ?_⟩
  · intro s rq n bytes h
    refine gives_of_takes h rfl rfl fun a b => ?_
    refine ⟨fun i hi => ?_, answers_finish_nil ..⟩
    rw [shared_finish Shared.torty (fun _ _ _ => rfl)]
    exact tget_tput ..
  · intro s rq kind len act mask h hdist hw hk
    refine gives_of_takes h rfl rfl fun a b => ?_
    have hbusy : ¬ (((s.taken a b).dist kind).isSome || ((s.taken a b).flashKind kind).writing.isSome) = true := by simp [hdist, hw]
    have hcheck : (s.taken a b).tortyCheck kind len = s.tortyCheck kind len := rfl
    dsimp only
    rw [if_neg hbusy, hcheck]
    cases hc : s.tortyCheck kind len with
    | some r => exact ⟨nofun, fun r' hr => Option.some.inj hr ▸ answers_refuse ..⟩
    | none =>
      refine ⟨fun _ => ?_, nofun⟩
      dsimp only
      rw [if_neg (by simp [hk]), if_neg hk]
      exact ⟨runs_beginRun .., by simp [State.flashKind, State.modFlash]⟩
  · intro s rq len act mask d h hdist hw hd hbit hen
    refine gives_of_takes h rfl rfl fun a b => ?_
    have hbusy : ¬ (((s.taken a b).dist 4).isSome || ((s.taken a b).flashKind 4).writing.isSome) = true := by simp [hdist, hw]
    have hcheck : (s.taken a b).tortyCheck 4 len = s.tortyCheck 4 len := rfl
    dsimp only
    rw [if_neg hbusy, hcheck]
    cases hc : s.tortyCheck 4 len with
    | some r => exact ⟨nofun, fun r' hr => Option.some.inj hr ▸ answers_refuse ..⟩
    | none =>
      refine ⟨fun _ => ?_, nofun⟩
      dsimp only
      obtain ⟨-, hmask⟩ := maskSum (fun d => bit mask d && s.enabled d) 96
      have hen' (e : Nat) : (s.taken a b).enabled e = s.enabled e := rfl
      simp only [if_true, hen']
      generalize ((List.range 96).map fun d => b2n (bit mask d && s.enabled d) * 2 ^ d).foldl (· + ·) 0 = m at *
      have hm : m ≠ 0 := by
        rintro rfl
        have := hmask d
        simp [bit, hd, hen] at this hbit
        omega
      rw [if_neg (by simp [hm])]
      refine commit_runs _ _ _ _ ?_
      obtain ⟨c, e, hb⟩ := beginRun_eq (rq := rq) (s.taken a b) 0x0603 0 4 _
      rw [hb]
      exact distTargets_mask hmask
  · intro s kind l v hw hwin ha
    refine ⟨_, rfl, ?_⟩
    dsimp only
    rw [hw]
    dsimp only
    rw [if_neg (by simp [hwin, ha])]
    obtain ⟨-, hpkg, hx⟩ := openDist_spec (((s.modFlash kind fun f => { f with writing := none, asked := none }).modPkg fun g =>
      { g with flashMem := putCells g.flashMem (halfAt kind (1 - s.activeHalf kind)) 0x400000 l })) kind l (s.flashKind kind).asked (s.distTargets kind 0)
    refine ⟨?_, ?_, hx⟩
    · rw [State.flashKind, hpkg]
      simp [State.modFlash]
    · rw [hpkg]
      rfl
  · intro s kind x hx hstep hlt
    refine ⟨_, rfl, ?_⟩
    dsimp only
    rw [hx]
    dsimp only
    rw [if_pos hstep, if_neg (by omega)]
    refine ⟨?_, _, .of_keeps (.of_keeps (emits_feltSend ..) (emit_keeps (kp := false) _ (Keeps.refl _ _))) (modSh_keeps (kp := false) _ (Keeps.refl _ _)),
      rfl, rfl, rfl⟩
    exact dist_modDist (((sendChunk_only ..).dist kind).trans hx) _
  · intro s h v id words kind x hd ha hn hfind hx hstep hpoll htgt hlen
    refine gives_recvVat_acked (by rfl) (guardId_of_true hd) ha hn fun n => ?_
    obtain ⟨m, o, hack⟩ := ack_eq _ (hubDie v) h.src 0xC1 h.seq 0
    rw [hack]
    dsimp only [withFelt_sh]
    rw [hfind]
    dsimp only
    rw [if_neg (by simp [hstep, hpoll, htgt]), if_pos hlen]
    exact dist_modDist (t := s) hx _
  · intro s h v id kind x hd ha hn hfind hx hstep htgt
    refine gives_recvVat_unacked (by rfl) (guardId_of_true hd) ha hn fun n => ?_
    dsimp only [withFelt_sh]
    rw [hfind]
    dsimp only
    rw [if_neg (by simp [htgt])]
    refine ⟨_, dist_modDist (t := s) hx _, ?_⟩
    by_cases hall : (insertNat h.src x.ready).length = x.targets.length
    · simp [hall, hstep]
    · simp [hall, hstep]
  · intro s kind x d hx hstep htgt hack hact
    refine ⟨_, rfl, ?_⟩
    dsimp only
    rw [hx]
    dsimp only
    rw [if_neg (by simp only [hstep, Bool.or_eq_true, decide_eq_true_eq, List.all_eq_true, not_or, not_forall]; exact ⟨by simp, d, htgt, by simp [hack, hact]⟩)]
    have hsent := each_vatSend_only x.targets 0x8E 0 id (fun _ _ => [x.id]) s
    obtain ⟨w, hw, hwt, hwd, hww⟩ := emits_each (s := s) (f := fun s d => s.vatSend 0x8E 0 d [x.id])
      (Q := fun w => w.type = 0x8E ∧ w.dst = d ∧ w.words = [s.epoch, x.id]) (OnlyFelt s) (OnlyFelt.refl s) (fun _ _ h => h.feltSend ..)
      (fun u t _ hu => vatSend_keeps _ _ _ _ hu) htgt fun t ht => ⟨_, emits_feltSend .., rfl, rfl, by obtain ⟨n, o, rfl⟩ := ht; rfl⟩
    obtain ⟨y, hy, hfirst, hacked⟩ := armDist_dist ((hsent.dist kind).trans hx) (x.targets.filter fun d => !x.activated.contains d) (s.now + 5000000)
    exact ⟨y, hy, hfirst, hacked, w, hw.of_keeps (armDist_keeps _ _ _ (Keeps.refl false _)), hwt, hwd, hww⟩

end Sys2Proof.Machine
end

section
/-! SUPPORT. Torty packages at the agents: what each step leaves in the staging of a die (R208, R209, R219-R222). -/

namespace Sys2Proof.Machine

section
variable {s : State}

/-! ## The furnish side of a die -/

theorem modFurnish_furnish (t : State) (d : Nat) (f : Furnish → Furnish) : ((t.modFurnish d f).die d).furnish = f (t.die d).furnish := by
  simp [State.modFurnish]
theorem furnish_toVat (t : State) (d ty e : Nat) (words : List Nat) : ((t.toVat d ty words).die e).furnish = (t.die e).furnish := by
  unfold State.toVat
  split
  · rw [modDie_die]
    split
    · rename_i he; rw [he]
    · rfl
  · rw [die_of_sansBooks (feltSend_sansBooks ..)]
theorem furnish_agentCount {src : Nat} (h : s.calm src = true) (d : Nat) (x : Detail) (e : Nat) :
    ((s.agentCount d src x).die e).furnish = (s.die e).furnish := by
  have hmod (t : State) (k : Nat) (f : Die → Die) (hf : ∀ y, (f y).furnish = y.furnish) : ((t.modDie k f).die e).furnish = (t.die e).furnish := by
    rw [modDie_die]
    split
    · rename_i he; rw [he, hf]
    · rfl
  have hfirst (t : State) : ((t.firstStage d src [x]).die e).furnish = (t.die e).furnish := by
    unfold State.firstStage
    split
    · rfl
    · exact hmod _ _ _ fun _ => rfl
  rw [agentCount_calm h, hfirst]
  exact stopSlice_cases (P := fun t => (t.die e).furnish = (s.die e).furnish) src rfl fun k => hmod _ _ _ fun _ => rfl
theorem die_ack (t : State) (die dst ty seq status d : Nat) : (t.ack die dst ty seq status).die d = t.die d := by
  obtain ⟨n, o, h⟩ := ack_eq t die dst ty seq status
  rw [h]; rfl
theorem setBank_staging (f : Furnish) (b : Nat) (m : List Host.Cell) : (f.setBank b m).staging = f.staging := by unfold Furnish.setBank; split <;> rfl
theorem setRegion_staging (f : Furnish) (b kind : Nat) (m : List Host.Cell) : (f.setRegion b kind m).staging = f.staging := setBank_staging ..
theorem setStage_staging (f : Furnish) (kind b : Nat) (m : List Host.Cell) : (f.setStage kind b m).staging = f.staging := by
  unfold Furnish.setStage
  split
  · unfold Furnish.setUcode; split <;> rfl
  · exact setBank_staging ..
theorem stage_setStage (f : Furnish) (kind b : Nat) (m : List Host.Cell) : (f.setStage kind b m).stage kind b = m := by
  unfold Furnish.setStage Furnish.stage Furnish.setUcode Furnish.setBank Furnish.ucodeOf Furnish.bankOf
  by_cases hk : kind = 3 <;> by_cases hb : b = 0 <;> simp [hk, hb]
theorem stage_of_staging (f : Furnish) (kind b : Nat) (l : Table (Option Staging)) : { f with staging := l }.stage kind b = f.stage kind b := rfl
theorem modStaging_staging (t : State) (d kind : Nat) (f : Staging → Staging) :
    ((t.modStaging d kind f).die d).furnish.staging = tset none (t.die d).furnish.staging kind ((tget none (t.die d).furnish.staging kind).map f) := by
  rw [State.modStaging, modFurnish_furnish]
theorem staged_staging (t : State) (d kind : Nat) : ((t.staged d kind).die d).furnish.staging = (t.die d).furnish.staging := by
  unfold State.staged
  split
  · split
    · rw [State.distAnswer, furnish_toVat]
      split
      · rw [modFurnish_furnish]
      · rfl
    · rfl
  · rfl
theorem die_of_dies {t u : State} (h : t.dies = u.dies) (d : Nat) : t.die d = u.die d := by simp [State.die, h]
theorem tget_map (g : Option Staging → Option Staging) (hg : g none = none) (k : Nat) :
    ∀ t : Table (Option Staging), tget none (t.map fun e => (e.1, g e.2)) k = g (tget none t k)
  | [] => hg.symm
  | (n, v) :: t => by
    have ih := tget_map g hg k t
    simp only [List.map_cons, tget, ih]
    split <;> rfl
theorem tset_singleton_none {α : Type} [DecidableEq α] (k : Nat) (x : Option α) : tset none [(k, x)] k none = [] := by simp [tset, tdel]
/-- A package that has opened in the staging of an agent. -/
theorem openStage_staging (f : Furnish) (dist kind chunks : Nat) (hdr : List Byte) : ∃ x, tget none (f.openStage dist kind chunks hdr).staging kind = some x ∧
    x.dist = dist ∧ x.total = chunks ∧ x.header = hdr ∧ x.chunks = [] ∧ x.hashed = false ∧ x.arm = none :=
  ⟨_, by simp [Furnish.openStage]; rfl, rfl, rfl, rfl, rfl, rfl, rfl⟩

end

/-- Settles O10. -/
theorem packageReceptionCompletes : Obligations.PackageReceptionCompletes := by
  refine ⟨?_, ?_, ?_, ?_, ?_, ?_, ?_, ?_⟩
  · intro s h d id kind chunks hdr hd h1 h4 hr he hu
    refine gives_recvCmd_acked (by rfl) (guardId_of_true (by simp [hd, h1, h4])) hr he hu fun n => ?_
    have hbusy : ((s.modDie d fun k => { k with epoch := h.epoch }).withFelt n).stagingBusy d kind = s.stagingBusy d kind := by
      simp [State.stagingBusy, State.stagingUsed]
    rw [hbusy]
    simp only [die_ack]
    cases s.stagingBusy d kind with
    | true =>
      simp only [if_true, State.distAnswer, furnish_toVat]
      simp
    | false =>
      simp only [Bool.false_eq_true, if_false, State.distAnswer, furnish_toVat, modFurnish_furnish]
      exact openStage_staging ..
  · intro s d x hd hx hx2
    refine ⟨_, guardId_of_true hd, ?_⟩
    simp only [each, List.foldl_cons, List.foldl_nil, hx]
    by_cases hc : x.copied = true
    · have hself : { x with copied := true } = x := by rw [← hc]
      simp only [hc, if_true, hx2, hx, hself]
    · have hcopied : (((((s.modFurnish d fun f => if (tget none f.staging (otherKind 1)).isSome = true then f
          else f.setRegion x.bank (otherKind 1) (f.region f.bank (otherKind 1))).modStaging d 1 fun x => { x with copied := true }).staged d 1).die d).furnish.staging) =
          tset none (s.die d).furnish.staging 1 (some { x with copied := true }) := by
        rw [staged_staging, modStaging_staging, modFurnish_furnish]
        simp [hx, hx2, otherKind, setRegion_staging]
      rw [if_neg hc]
      simp [hcopied, hx2]
  · intro s d id n bytes crc kind x hd hr hfind hx hfit
    refine ⟨_, guardId_of_true hd, ?_⟩
    rw [if_neg (by simp [hr]), hfind]
    dsimp only
    rw [if_pos hfit]
    simp only [State.modStaging, modFurnish_furnish, setStage_staging, hx, stage_of_staging, stage_setStage]
    exact ⟨by simp, fun i hi => tget_tput ..⟩
  · intro s h v d id kind x hd hr he hu ha hfind
    refine gives_recvCmd_acked (by rfl) (guardId_of_true hd) hr he hu fun n => ?_
    simp only [withFelt_die, modDie_die, if_true]
    rw [hfind]
    dsimp only
    rw [toVat_acting (v := v) (by exact ha)]
    refine ⟨_, .of_keeps (emits_feltSend ((s.modDie d fun k => { k with epoch := h.epoch }).withFelt n) ..) (ack_keeps (kp := false) _ _ _ _ _ (Keeps.refl _ _)),
      rfl, rfl, rfl, ?_⟩
    simp [State.nextTxn]
  · intro s d kind x m hd hr hcalm hfind hx hm
    refine ⟨_, guardId_of_true hd, ?_⟩
    rw [hfind]
    dsimp only
    rw [← hm]
    split
    · rw [staged_staging, modStaging_staging, hx]
      simp
    · rw [State.distAnswer, furnish_toVat, furnish_agentCount (by exact hcalm), modStaging_staging, hx]
      simp
  · intro s h d id n kind x hd hr he hx hid
    refine ⟨fun hu => ?_, fun hu => ?_⟩
    · refine gives_recvCmd_acked (by rfl) (guardId_of_true hd) hr he hu fun m => ?_
      rw [die_ack, modFurnish_furnish, tget_map (fun o => o.map fun y => if y.dist = id then { y with arm := some n } else y) rfl]
      simp [hx, hid]
    · refine gives_recvCmd_acked (by rfl) (guardId_of_true hd) hr he hu fun m => ?_
      rw [die_ack, modFurnish_furnish, tget_map (fun o => o.map fun y => if y.dist = id then { y with arm := none } else y) rfl]
      simp [hx, hid]
  · intro s d kind x n hd hst harm hle
    refine ⟨fun hk => ⟨_, guardId_of_true hd, ?_⟩, fun hk => ⟨_, guardId_of_true hd, ?_⟩⟩
    · rw [hst]
      simp only [each, List.foldl_cons, List.foldl_nil, harm]
      rw [if_pos (by simp only [Bool.and_eq_true, decide_eq_true_eq]; omega)]
      unfold State.activate
      rw [if_neg (by omega), die_of_dies (dies_activated ..)]
      have hempty : tset none (s.die d).furnish.staging kind none = [] := by rw [hst, tset_singleton_none]
      split
      · rw [modFurnish_furnish, modFurnish_furnish, hempty]
      · rw [modFurnish_furnish, modFurnish_furnish, modFurnish_furnish, hempty]
        rfl
    · rw [hst]
      simp only [each, List.foldl_cons, List.foldl_nil, harm]
      rw [if_pos (by simp only [Bool.and_eq_true, decide_eq_true_eq]; omega)]
      unfold State.activate
      rw [if_pos hk, modFurnish_furnish, modFurnish_furnish, hst, tset_singleton_none]
  · intro s d n hd hp hs hc hj
    refine ⟨_, guardId_of_true hd, ?_⟩
    rw [hp]
    dsimp only
    rw [if_neg (by simp [hs, hc, hj])]
    rw [die_of_dies (dies_activated ..)]
    simp [State.dieRing, State.modFurnish]

end Sys2Proof.Machine
end

section
/-! SUPPORT. The notification paths and the management endpoints (R49, R250, R374-R378, R419). -/

namespace Sys2Proof.Machine

section
variable {s : State}

theorem emits_each_emit {α : Type} (l : List α) (g : α → Out) (a : α) (ha : a ∈ l) : Emits s (each l (fun s x => s.emit (g x)) s) (g a) := by
  induction l generalizing s with
  | nil => contradiction
  | cons x l ih =>
    have hrest (t : State) : Keeps false t (each l (fun s x => s.emit (g x)) t) := each_keepsS _ _ (fun u y => emit_keeps _) (Keeps.refl false t)
    obtain rfl | ha := List.mem_cons.mp ha
    · exact (emits_emit s _).of_keeps (hrest _)
    · exact .after_keeps (emit_keeps (kp := false) _ (Keeps.refl false s)) (ih ha)
theorem each_emit_only {α : Type} (l : List α) (g : State → α → Out) (t : State) : OnlyFelt t (each l (fun s x => s.emit (g s x)) t) :=
  each_holds (OnlyFelt t) l _ t (fun _ _ h => h.emit _) (OnlyFelt.refl t)
theorem OnlyFelt.vat {t u : State} (h : OnlyFelt t u) (k : Hub) : u.vat k = t.vat k := by obtain ⟨n, o, rfl⟩ := h; cases k <;> rfl
theorem OnlyFelt.acting {t u : State} (h : OnlyFelt t u) : u.acting = t.acting := by obtain ⟨n, o, rfl⟩ := h; rfl
theorem OnlyFelt.trans {t u w : State} (h : OnlyFelt t u) (h' : OnlyFelt u w) : OnlyFelt t w := by
  obtain ⟨n, o, rfl⟩ := h
  obtain ⟨n', o', rfl⟩ := h'
  exact ⟨n', o', rfl⟩
theorem modVat_vat_same (t : State) (h : Hub) (f : Vat → Vat) : (t.modVat h f).vat h = f (t.vat h) := by cases h <;> rfl
theorem resumePath_none (t : State) (path : Nat) (h : (if path = 0 then t.sh.mgmtLost else t.sh.i3cLost).1 = 0) : t.resumePath path = t := if_pos h
theorem acting_congr {t u : State} (ha : t.vatA.role = u.vatA.role) (hb : t.vatB.role = u.vatB.role) (hs : t.sh.switching = u.sh.switching) :
    t.acting = u.acting := by
  unfold State.acting State.activeHub
  rw [ha, hb, hs]
theorem acting_modVat (t : State) (h : Hub) (f : Vat → Vat) (hf : (f (t.vat h)).role = (t.vat h).role) : (t.modVat h f).acting = t.acting := by
  cases h
  · exact acting_congr hf rfl rfl
  · exact acting_congr rfl hf rfl
theorem now_modVat (t : State) (h : Hub) (f : Vat → Vat) (hf : (f (t.vat h)).role = (t.vat h).role) : (t.modVat h f).now = t.now := by
  have hact := acting_modVat t h f hf
  have hreel (d : Nat) : (t.modVat h f).dieReel d = t.dieReel d := by cases h <;> rfl
  simp only [State.now, State.actDie, hact, hreel]
/-- Sending on the management path changes its queue and its count of drops alone. -/
theorem sendMgmt_sh (t : State) (n : Note) : ∃ q l, (t.sendMgmt n).sh = { t.sh with mgmtQ := q, mgmtLost := l } := by
  unfold State.sendMgmt
  dsimp only
  split
  · exact ⟨_, _, rfl⟩
  · split
    · exact ⟨_, _, rfl⟩
    · split
      · exact ⟨_, _, feltSend_sh ..⟩
      · exact ⟨_, _, rfl⟩
/-- A notification takes the next number, goes to the tray controller's queue, and leaves by the acting Vat's own port while it has a link (R250). -/
theorem sendNote_spec (t : State) (r : Rec) (held : Nat) : (t.sendNote r held).sh.pacing = t.sh.pacing ∧
    (t.sendNote r held).sh.noteNext = (t.sh.noteNext + 1) % 2 ^ 32 ∧
    { number := t.sh.noteNext, held := sat 16 held, entry := r } ∈ (t.sendNote r held).sh.i3cQ ∧
    ∀ v, t.acting = some v → (t.vat v).linkUp = true → Emits t (t.sendNote r held) (.notify (hubNum v) t.sh.noteNext (sat 16 held) r) := by
  obtain ⟨q, l, hsh⟩ := sendMgmt_sh (t.modSh fun h => { h with noteNext := (h.noteNext + 1) % 2 ^ 32 })
    { number := t.sh.noteNext, held := sat 16 held, entry := r }
  refine ⟨?_, ?_, ?_, fun v ha hl => ?_⟩
  · exact (congrArg Shared.pacing hsh :)
  · exact (congrArg Shared.noteNext hsh :)
  · simp [State.sendNote, State.sendI3c]
  · have hact : (t.modSh fun h => { h with noteNext := (h.noteNext + 1) % 2 ^ 32 }).acting = some v := ha
    simp only [State.sendNote, State.sendI3c, State.sendMgmt, hact, modSh_vat, hl, if_true]
    exact emits_emit (t.modSh _) _
/-- A queue that leaves by a port, or by relay, leaves the Vats as they are. -/
theorem vat_flushMgmt (t : State) (k : Hub) : t.flushMgmt.vat k = t.vat k := by
  unfold State.flushMgmt
  split
  · rfl
  · dsimp only
    split
    · rw [(each_emit_only ..).vat, modSh_vat]
    · split
      · rw [(each_holds (OnlyFelt t) _ _ t (fun _ _ h => h.feltSend ..) (OnlyFelt.refl t)).vat]
      · rfl
theorem flushMgmt_lost (t : State) : t.flushMgmt.sh.mgmtLost = t.sh.mgmtLost := by
  unfold State.flushMgmt
  split
  · rfl
  · dsimp only
    split
    · rw [(each_emit_only ..).sh]; rfl
    · split
      · rw [(each_holds (OnlyFelt t) _ _ t (fun _ _ h => h.feltSend ..) (OnlyFelt.refl t)).sh]
      · rfl

end

/-- Settles O11. -/
theorem notificationPathsComplete : Obligations.NotificationPathsComplete := by
  refine ⟨?_, ?_, ?_, ?_, ?_⟩
  · intro s hub hlost
    refine ⟨_, rfl, ?_⟩
    set u := each (s.vat hub).outQ (fun s m => s.emit (.vendor 4 m)) (s.modVat hub fun v => { v with linkUp := true, outQ := [] }) with hu
    have honly : OnlyFelt (s.modVat hub fun v => { v with linkUp := true, outQ := [] }) u := each_emit_only ..
    have hlost' : u.flushMgmt.sh.mgmtLost.1 = 0 := by rw [flushMgmt_lost, honly.sh, modVat_sh]; exact hlost
    have hvat : u.vat hub = { s.vat hub with linkUp := true, outQ := [] } := (honly.vat hub).trans (modVat_vat_same ..)
    have hkeep : Keeps false s u := each_keepsS _ _ (fun t m => emit_keeps _) (modVat_keeps _ _ (Keeps.refl _ _))
    dsimp only
    rw [resumePath_none _ 0 (by simpa using hlost'), vat_flushMgmt, hvat]
    refine ⟨rfl, rfl, fun m hm => ?_, fun ha => ?_⟩
    · exact (Emits.after_keeps (modVat_keeps (kp := false) hub _ (Keeps.refl _ s)) (emits_each_emit (s.vat hub).outQ (fun m => .vendor 4 m) m hm)).of_keeps
        (flushMgmt_keeps (kp := false) (Keeps.refl _ _))
    · have hact : u.acting = some hub := by rw [honly.acting, acting_modVat _ _ _ rfl, ha]
      have hq : u.sh.mgmtQ = s.sh.mgmtQ := by rw [honly.sh, modVat_sh]
      have hflush : u.flushMgmt = each s.sh.mgmtQ (fun s n => s.emit (.notify (hubNum hub) n.number n.held n.entry)) (u.modSh fun h => { h with mgmtQ := [] }) := by
        simp [State.flushMgmt, hact, hvat, hq]
      rw [hflush]
      refine ⟨by rw [(each_emit_only ..).sh]; rfl, fun n hn => ?_⟩
      exact .after_keeps (modSh_keeps _ hkeep) (emits_each_emit s.sh.mgmtQ (fun n => .notify (hubNum hub) n.number n.held n.entry) n hn)
  · intro s hub v ha hst
    refine ⟨_, rfl, ?_⟩
    have hact := acting_modVat s hub (fun v => { v with linkUp := false }) rfl
    have hst' : (s.modVat hub fun v => { v with linkUp := false }).steady (hubSource hub 11) = true :=
      (steady_congr (s := s) (modVat_counter ..) (by rw [modVat_sh]) (modVat_pkg ..) (now_modVat s hub _ rfl)).trans hst
    obtain ⟨hbooks, hcount⟩ := vatCount_steady_books hst' (by rw [hact, ha]; rfl) default (by rw [classOf_hubSource hub 11 (by omega)]; simp)
    refine ⟨?_, ?_⟩
    · have hv := vat_of_sansBooks hbooks hub
      rw [modVat_vat_same] at hv
      exact congrArg Vat.linkUp hv
    · rw [hcount, now_modVat s hub _ rfl]
      exact congrArg Counter.total (bump_congr (s := s) (modVat_counter ..) (by rw [modVat_sh]) (modVat_pkg ..) 1 s.now).2
  · intro s src p r hp hr
    refine ⟨_, by simp only [exec_notifySourceSecondEnd, execNotifySourceSecondEnd, hp, hr]; rfl, ?_⟩
    obtain ⟨hpace, hnext, hq, hout⟩ := sendNote_spec (s.modSh fun h =>
      { h with pacing := tset none h.pacing src (some { since := s.reel, held := 0, latest := none }) }) r p.held
    exact ⟨by rw [hpace]; simp, hnext, hq, fun v ha hl => hout v ha (by rw [modSh_vat]; exact hl)⟩
  · intro s v n q ha haddr hq hlost
    refine ⟨_, by simp only [exec_i3cNotifyRead, execI3cNotifyRead, ha, Option.isNone_iff_eq_none, haddr, if_false, hq]; rfl, ?_⟩
    rw [resumePath_none _ 1 (by simpa using hlost)]
    exact ⟨rfl, .after_keeps (modSh_keeps (kp := false) _ (Keeps.refl _ _)) (emits_emit ..)⟩
  · intro s h v k n ha hr he hu hlink hfind
    refine gives_recvCmd_acked (by rfl) (by simp only [exec_notifyRelay, execNotifyRelay, ha]; rfl) hr he hu fun m => ?_
    rw [if_pos (by simpa using hlink)]
    dsimp only [withFelt_sh, modDie_sh]
    rw [hfind]
    dsimp only
    refine ⟨.of_keeps ?_ (ack_keeps (kp := false) _ _ _ _ _ (Keeps.refl _ _)), ?_⟩
    · exact ⟨[_], rfl, List.mem_singleton.mpr rfl⟩
    obtain ⟨x, o, hack⟩ := ack_eq (((((s.modDie (hubDie (otherHub v)) fun k => { k with epoch := h.epoch }).withFelt m).modSh fun x =>
      { x with mgmtQ := x.mgmtQ.filter fun m => m.number != k }).emit (.notify (hubNum (otherHub v)) n.number n.held n.entry))) (hubDie (otherHub v)) h.src 0x90 h.seq 0
    rw [hack]
    rfl

/-- Settles O12. -/
theorem mctpControlCompletes : Obligations.MctpControlCompletes := by
  refine ⟨?_, ?_, ?_, ?_⟩
  · intro s hub i3c eid setter hp he hs
    refine ⟨_, rfl, ?_⟩
    dsimp only
    rw [if_pos hp, State.mctpReply, if_pos (by simpa using hp)]
    rw [Nat.mod_eq_of_lt he, Nat.mod_eq_of_lt hs]
    refine ⟨.after_keeps (modVat_keeps (kp := false) hub _ (Keeps.refl _ s)) (emits_emit ..), ?_⟩
    have hvat (f : Vat → Vat) (o : Out) : ((s.modVat hub f).emit o).vat hub = f (s.vat hub) := by cases hub <;> rfl
    rw [hvat]
    cases i3c <;> exact ⟨rfl, rfl⟩
  · intro s hub i3c eid hp he
    refine ⟨_, rfl, ?_⟩
    simp [State.mctpReply, hp, State.eidOf, he]
  · intro s hub i3c ty hp
    exact ⟨⟨_, rfl, if_pos hp⟩, ⟨_, rfl, if_pos hp⟩, ⟨_, rfl, if_pos hp⟩⟩
  · intro s hub addr hlt hlost
    refine ⟨_, rfl, ?_⟩
    simp only [modVat_vat_same, Nat.mod_eq_of_lt hlt]

/-- Settles O13. -/
theorem pldmCompletes : Obligations.PldmCompletes := by
  refine ⟨?_, ?_⟩
  · intro s hub hp hb
    have hreply (type command code : Nat) (data : List Nat) : s.pldmReply hub type command code data = s.emit (.pldm hub type command code data) := by
      refine if_pos ?_
      simpa [hp, Option.isSome_iff_ne_none] using hb
    refine ⟨?_, fun ty => ?_, ?_, fun ty => ?_, ?_, fun n => ?_, fun n => ?_, fun n => ?_, fun ty k => ?_⟩ <;> exact congrArg Host.Outcome.next (hreply ..)
  · intro s path op tag crc lenOk v ha hgap hop hdup
    have hport : (s.sh.gap.isSome && pathHub path != none) = false := by
      obtain h | h := hgap <;> simp [h]
    refine ⟨_, by simp only [exec_badopCommandPacket, execBadopCommandPacket, hport, Bool.false_eq_true, if_false, ha]; rfl, ?_⟩
    dsimp only
    rw [if_neg (by rw [hop]; simp), hdup]
    cases hpath : pathHub path with
    | none =>
      simp only [Bool.false_eq_true, if_false, true_or, if_true]
      exact answers_finish_nil ..
    | some k =>
      by_cases hk : k = v
      · subst hk
        simp
        exact answers_finish_nil ..
      · simp [hk]
        exact answers_finish_nil ..

end Sys2Proof.Machine
end

section
/-! SUPPORT. Hang detection: the walk along a chain of logical cores (R268-R272). -/

namespace Sys2Proof.Machine

section
variable {s : State}

theorem whenActing_acting {v : Hub} (h : s.acting = some v) (i : Instr) (f : State → State) : s.whenActing i f = f s := by simp [State.whenActing, h]

theorem core_ack (t : State) (die dst ty seq status p : Nat) : (t.ack die dst ty seq status).core p = t.core p := by
  obtain ⟨n, o, h⟩ := ack_eq t die dst ty seq status
  rw [h]; rfl
/-- A walk at a core that waits goes on at the logical core it awaits (R269). -/
theorem walk_awaited {k d c n m p : Nat} {chain : List Nat} (hlast : chain.getLast? = some n) (hn : s.carrier n = some p) (hd : coreDie p = d)
    (hheld : s.heldStill p = false) (hpark : (s.core p).parked = false) (hstall : (s.core p).stallNow ∈ [1, 2, 5, 6, 9])
    (haw : (s.core p).awaited = some m) (hm : m ∉ chain) : State.walk (k + 1) d c chain s = State.walk k d c (chain ++ [m]) s := by
  simp only [State.walk, hlast, hn, hd, hheld, hpark, haw, ne_eq, not_true_eq_false, if_false, Bool.false_and, Bool.or_self, Bool.false_eq_true]
  simp only [List.mem_cons, List.not_mem_nil, or_false] at hstall
  obtain h | h | h | h | h := hstall <;> rw [h] <;> simp [hm]
/-- A walk whose last logical core is carried on another die goes there (R269). -/
theorem walk_leaves {k d c n q : Nat} {chain : List Nat} (hlast : chain.getLast? = some n) (hn : s.carrier n = some q) (hd : coreDie q ≠ d) :
    State.walk (k + 1) d c chain s = s.feltSend d 0x8A 0 (coreDie q) (c :: chain) := by
  simp only [State.walk, hlast, hn, ne_eq, hd, not_false_eq_true, if_true]
/-- A walk ends at a core that issues. -/
theorem walk_issuing {k d c n p : Nat} {chain : List Nat} (hlast : chain.getLast? = some n) (hn : s.carrier n = some p) (hd : coreDie p = d)
    (hheld : s.heldStill p = false) (hpark : (s.core p).parked = false) (hstall : (s.core p).stallNow = 0) (hi : s.issuesNone p c = false)
    (hlen : chain.length ≠ 1) : State.walk (k + 1) d c chain s = s.endWalk chain := by
  simp [State.walk, hlast, hn, hd, hheld, hpark, hstall, hi, hlen]
/-- After a walk no core of its chain is in a hang check. -/
theorem endWalk_hangCheck (chain : List Nat) (t : State) (k q : Nat) (hk : k ∈ chain) (hq : t.carrier k = some q) :
    ((t.endWalk chain).core q).hangCheck = false := by
  induction chain generalizing t with
  | nil => contradiction
  | cons x l ih =>
    have hfold : (t.endWalk (x :: l)) = (match t.carrier x with | some p => t.modCore p fun c => { c with hangCheck := false } | none => t).endWalk l := rfl
    have hcar (u : State) (o : Option Nat) (f : Core → Core) : (match o with | some p => u.modCore p f | none => u).carrier k = u.carrier k := by
      cases o <;> rfl
    by_cases hmem : k ∈ l
    · rw [hfold]
      exact ih _ hmem ((hcar ..).trans hq)
    · obtain rfl : k = x := (List.mem_cons.mp hk).resolve_right hmem
      rw [hfold, hq]
      refine each_holds (fun u : State => (u.core q).hangCheck = false) _ _ _ (fun u y hu => ?_) (by simp)
      split
      · rw [modCore_core]
        split
        · rfl
        · exact hu
      · exact hu

end

/-- Settles O14. -/
theorem hangDetectionCompletes : Obligations.HangDetectionCompletes := by
  refine ⟨?_, ?_, ?_⟩
  · intro s v p q n m c ha hp hpark hlc hctx hst hiss hpause hstall haw hmn hn hm hdie
    refine ⟨_, guardId_of_true hp, ?_⟩
    have hheld : s.heldStill p = false := by
      simp only [State.hangPaused, Bool.or_eq_false_iff] at hpause
      exact hpause.1.1
    set u := s.modCore p fun k => { k with hangCheck := true } with hu
    have hcore : u.core p = { s.core p with hangCheck := true } := (modCore_core ..).trans (if_pos rfl)
    have hheld' : u.heldStill p = false := by
      have hholds : u.holdsOn p = s.holdsOn p := by simp only [State.holdsOn, hcore]; rfl
      simpa only [State.heldStill, hcore, hholds] using hheld
    have hwalk : State.walk 13825 (coreDie p) c [n] u = u.feltSend (coreDie p) 0x8A 0 (coreDie q) [c, n, m] := by
      rw [walk_awaited (s := u) (k := 13824) (n := n) (chain := [n]) rfl hn rfl hheld' (by rw [hcore]; exact hpark) (by rw [hcore]; exact hstall) (by rw [hcore]; exact haw)
        (by simpa using hmn)]
      exact walk_leaves (s := u) (k := 13823) (n := m) (chain := [n, m]) rfl hm hdie
    rw [whenActing_acting ha, hlc]
    dsimp only
    rw [hctx]
    dsimp only
    rw [if_neg (by simp [hst, hiss, hpause]), hwalk]
    refine ⟨?_, _, emits_feltSend u .., rfl, rfl, rfl, rfl⟩
    rw [core_of_sansBooks (feltSend_sansBooks ..), hcore]
  · intro s h v c n m p ha hn hm hc hp hu hstop hstall hiss
    refine ⟨_, guardId_of_true (by simp [hn, hm, hc]), ?_⟩
    have hdie : s.lcDie n = coreDie p := by simp [State.lcDie, hp]
    simp only [State.stopped, Bool.or_eq_false_iff] at hstop
    obtain ⟨⟨⟨hfr, hpark⟩, hres⟩, hholds⟩ := hstop
    rw [whenActing_acting ha]
    change _ ∧ _
    simp only [List.getLast?_cons_cons, List.getLast?_singleton, hdie]
    obtain ⟨x, hrecv⟩ := recv_unseen_acked (by rfl) (f := fun s => State.walk 13825 (coreDie p) c [m, n] s) hu
    have hheld : (s.withFelt x).heldStill p = false := by simp only [State.heldStill, withFelt_core, hfr, hres]; exact hholds
    rw [hrecv, walk_issuing (s := s.withFelt x) (k := 13824) (chain := [m, n]) (n := n) (p := p) rfl hp rfl hheld hpark hstall hiss (by simp)]
    refine ⟨emits_ack_of (endWalk_keeps (kp := false) _ (withFelt_keeps x (Keeps.refl _ _))) .., fun k hk q hq => ?_⟩
    rw [core_ack]
    exact endWalk_hangCheck [m, n] (s.withFelt x) k q hk hq
  · intro s p hp hh hf
    refine ⟨_, guardId_of_true hp, ?_⟩
    rw [if_pos (by simp [hh, hf])]
    simp [State.raiseFence, State.dieRing, mem_insertNat]

end Sys2Proof.Machine
end

section
/-! SUPPORT. Watermarks: what a packet's entry leaves to a range, the runs that end, and the records that are gathered (R137-R147). -/

namespace Sys2Proof.Machine

section
variable {s : State} {rq : Req}

/-- A packet's entry leaves the contexts in its requester's range. -/
theorem inRange_entered (signed : Bool) (c : Nat) : (s.entered rq signed).inRange rq c = s.inRange rq c := by
  unfold State.inRange
  cases hp : rq.priv with
  | tenant =>
    have hold : (s.modSh fun h => { h with retained := h.retained.filter fun x => x.path != rq.path || x.tag != rq.tag }).session rq.session =
      s.session rq.session := rfl
    have hpkg : (s.entered rq signed).pkg = s.pkg := by
      obtain ⟨a, b, he⟩ := entered_eq s rq signed
      rw [he]; rfl
    cases hx : s.session rq.session with
    | none =>
      have hnew : (s.entered rq signed).session rq.session = none := by
        rw [hx] at hold
        simp only [State.entered, State.touch, hp, hold]
      simp only [hnew]
    | some x =>
      have hnew : (s.entered rq signed).session rq.session = some { x with last := s.reel, signed := x.signed + b2n signed } := by
        rw [hx] at hold
        simp only [State.entered, State.touch, hp, hold]
        simp [State.session, State.modSh]
      simp only [hnew, hpkg]
  | _ => rfl

/-- A run that ends has its reply where its requester looks for it. -/
theorem ended_endRun (t : State) (x : Run) (status : Nat) (data : List (Nat × Nat)) : t.ended (t.endRun x status data) x status data := by
  refine ⟨?_, _, (?_ : State.replyAt _ _ _ _ = some ((t.modSh fun h => { h with runs := h.runs.erase x }).mkReply x.opcode x.tag status x.clamps data)),
    rfl, rfl, ?_, rfl⟩
  · obtain ⟨o, a, b, c, d, h⟩ := endRun_eq t x status data
    rw [h]
  · have hd := replyAt_deliver (t.modSh fun h => { h with runs := h.runs.erase x }) x.path x.tag x.crc
      ((t.modSh fun h => { h with runs := h.runs.erase x }).mkReply x.opcode x.tag status x.clamps data)
    have hmsi (u : State) (path : Path) (tag crc : Nat) : (u.msi 1).replyAt path tag crc = u.replyAt path tag crc := by
      unfold State.msi
      split <;> rfl
    unfold State.endRun
    dsimp only
    split
    · split
      · exact (hmsi ..).trans hd
      · exact hd
    · exact hd
  · simp [State.mkReply]
/-- The only run of an opcode and context ends. -/
theorem ended_endOp (t : State) {op c : Nat} {x : Run} (h : (t.sh.runs.filter fun x => x.opcode == op && x.ctx == c) = [x]) (status : Nat)
    (data : List (Nat × Nat)) : t.ended (t.endOp op c status data) x status data := by
  rw [State.endOp, State.endRuns, h]
  exact ended_endRun ..

/-- A core has a Beater run of a kind in its die's queue. -/
def State.beatQueued (s : State) (p kind : Nat) : Prop := ∃ b ∈ (s.die (coreDie p)).beater.queue, b.core = coreIndex p ∧ b.kind = kind
theorem queueBeat_queued (p kind why : Nat) : (s.queueBeat p kind why).beatQueued p kind := by
  unfold State.beatQueued State.queueBeat
  rw [modDie_die, if_pos rfl]
  dsimp only
  split
  · next h =>
    obtain ⟨b, hb, hmine⟩ := List.any_eq_true.mp h
    refine ⟨_, List.mem_map_of_mem hb, ?_⟩
    simp only [Bool.and_eq_true, beq_iff_eq] at hmine
    split <;> exact hmine
  · exact ⟨_, List.mem_append_right _ (List.mem_singleton.mpr rfl), rfl, rfl⟩
theorem queueBeat_keeps_queued {p kind : Nat} (h : s.beatQueued p kind) (q k why : Nat) : (s.queueBeat q k why).beatQueued p kind := by
  obtain ⟨b, hb, hcore, hkind⟩ := h
  unfold State.beatQueued State.queueBeat
  rw [modDie_die]
  split
  · next hd =>
    rw [hd] at hb
    dsimp only
    split
    · refine ⟨_, List.mem_map_of_mem hb, ?_⟩
      split <;> exact ⟨hcore, hkind⟩
    · exact ⟨b, List.mem_append_left _ hb, hcore, hkind⟩
  · exact ⟨b, hb, hcore, hkind⟩
theorem beatQueued_of_dies {t : State} {p kind : Nat} (h : t.dies = s.dies) (hs : s.beatQueued p kind) : t.beatQueued p kind := by
  rwa [State.beatQueued, die_of_dies h]
theorem dies_markRecord (code severity source p1 : Nat) : (s.markRecord code severity source p1).dies = s.dies := dies_record ..
/-- Location queues a targeted run at every core it finds. -/
theorem runLocate_queued (c : Nat) (refs : List RefRec) (same : Bool) {x : Nat × Nat} (hx : x ∈ (s.locate c refs same).2.2.2.2)
    (hv : validCore x.2 = true) : (s.runLocate c refs same).beatQueued x.2 1 := by
  refine beatQueued_of_dies (dies_markRecord ..) ?_
  exact each_establishes (fun (x : Nat × Nat) (u : State) => u.beatQueued x.2 1) _ (fun u y => queueBeat_queued ..)
    (fun u y z hu => queueBeat_keeps_queued hu ..) _ _ _ (List.mem_filter.mpr ⟨hx, hv⟩)

/-- Without the part of one logical core an operator's record is not whole. -/
theorem opWhole_unsent {c layer oper pass : Nat}
    (h : ∃ n ∈ s.opLcs c layer oper, ∀ e ∈ (s.ctx c).opSent, e.lc = n → e.exec ≠ execKey pass (operKey layer oper)) : s.opWhole c layer oper pass = false := by
  obtain ⟨n, hn, hsent⟩ := h
  unfold State.opWhole
  split
  · rfl
  · refine List.all_eq_false.mpr ⟨n, hn, ?_⟩
    simp only [Bool.not_eq_true, List.any_eq_false, Bool.and_eq_true, beq_iff_eq]
    exact fun e he ⟨⟨hlc, hexec⟩, _⟩ => hsent e he hlc hexec
/-- A package record of an operator's pass in the place of the one being combined. -/
def State.putMark (s : State) (c layer oper pass : Nat) (got : List (Nat × DigestRec)) : State :=
  s.modCtx c fun x => { x with opMarks := (x.opMarks.filter fun y => y.key != operKey layer oper || y.pass != pass) ++
    [{ key := operKey layer oper, pass := pass, got := got }] }
theorem opMark_putMark (c layer oper pass : Nat) (got : List (Nat × DigestRec)) :
    (s.putMark c layer oper pass got).opMark c layer oper pass = some { key := operKey layer oper, pass := pass, got := got } := by
  rw [State.opMark, State.putMark, modCtx_ctx, if_pos rfl, List.find?_append, List.find?_eq_none.mpr]
  · simp
  · intro x hx hk
    simp only [List.mem_filter, Bool.or_eq_true, bne_iff_ne, Bool.and_eq_true, beq_iff_eq] at hx hk
    exact hx.2.elim (· hk.1) (· hk.2)
theorem opWhole_putMark {c layer oper pass : Nat} (got : List (Nat × DigestRec))
    (h : ∃ n ∈ s.opLcs c layer oper, ∀ e ∈ (s.ctx c).opSent, e.lc = n → e.exec ≠ execKey pass (operKey layer oper)) :
    (s.putMark c layer oper pass got).opWhole c layer oper pass = false := by
  refine opWhole_unsent ?_
  have hctx : (s.putMark c layer oper pass got).ctx c = _ := (modCtx_ctx ..).trans (if_pos rfl)
  have hlcs : (s.putMark c layer oper pass got).opLcs c layer oper = s.opLcs c layer oper := by simp only [State.opLcs, hctx]
  rw [hlcs, hctx]
  exact h

end

/-- Settles O15. -/
theorem watermarkCommandsComplete : Obligations.WatermarkCommandsComplete := by
  refine ⟨?_, ?_, ?_, ?_, ?_, ?_⟩
  · intro s rq k0 k1 h hst ha ha' hb hb'
    refine gives_of_takes h rfl rfl fun a b => ?_
    dsimp only
    rw [if_neg (by exact Nat.not_le.mpr hst), clampTo_of_le ha ha', clampTo_of_le hb hb']
    refine ⟨?_, ?_, answers_finish_nil ..⟩
    · rw [ctx_finish, ctx_mirror, modCtx_ctx, if_pos rfl]
    · rw [ctx_finish, ctx_mirror, modCtx_ctx, if_pos rfl]
  · intro s rq first e l h hlog
    refine gives_of_entered h rfl rfl (answers_finish_of ?_)
    have hwm : (s.entered rq false).sh.wmLog = s.sh.wmLog := by
      obtain ⟨a, b, he⟩ := entered_eq s rq false
      rw [he]; rfl
    simp only [inRange_entered, hwm, hlog]
    rfl
  · intro s rq h hplan hst hstill hver
    refine gives_of_takes h rfl rfl fun a b => ?_
    have hplan' : ((s.taken a b).ctx rq.ctx).plan.isNone = false := by
      rw [taken_ctx]
      exact Option.isNone_eq_false_iff.mpr (Option.isSome_iff_ne_none.mpr hplan)
    have hstill' : (s.taken a b).ctxStill rq.ctx = true := hstill
    rw [hplan', hstill', if_neg (by simp [hst]), if_neg (by simpa using hver)]
    refine ⟨?_, runs_beginRun ..⟩
    obtain ⟨c, d, hb⟩ := beginRun_eq (rq := rq) ((s.taken a b).modSh fun h => { h with verifying := insertNat rq.ctx h.verifying }) 0x0402 rq.ctx 0 []
    rw [hb]
    exact mem_insertNat ..
  · intro s c p recs x hc hver hplan hmis hrun
    refine ⟨_, guardId_of_true (by simp [hc]), ?_⟩
    have hbad : ((constExpected p).filter fun e => recs.any (mismatch e)) = [] := by
      simpa [List.filter_eq_nil_iff] using hmis
    rw [if_neg (by simpa using hver)]
    dsimp only
    rw [show ((s.modSh fun h => { h with verifying := h.verifying.filter (· != c) }).ctx c).plan = some p from hplan]
    dsimp only
    rw [hbad]
    dsimp only [List.length_nil, Nat.sub_zero]
    refine ⟨?_, ended_endOp (s.modSh fun h => { h with verifying := h.verifying.filter (· != c) }) hrun ..⟩
    rw [State.endOp, shared_endRuns Shared.verifying (fun _ _ _ _ _ _ => rfl)]
    simp
  · intro s rq refs same h
    refine gives_of_takes h rfl rfl fun a b => ⟨_, answers_finish_nil .., rfl, fun x hx hv => ?_⟩
    obtain ⟨o, c, d, hf⟩ := finish_eq (rq := rq) ((s.taken a b).runLocate rq.ctx refs same) 0x0403 stOk []
      ([(8, (s.locate rq.ctx refs same).1), (16, (s.locate rq.ctx refs same).2.1), (32, (s.locate rq.ctx refs same).2.2.1),
        (16, (s.locate rq.ctx refs same).2.2.2.1), (16, (s.locate rq.ctx refs same).2.2.2.2.length - 64)] ++
        ((s.locate rq.ctx refs same).2.2.2.2.take 64).flatMap fun x => [(16, x.1), (16, x.2)])
    exact beatQueued_of_dies (congrArg State.dies hf) (runLocate_queued (s := s.taken a b) rq.ctx refs same hx hv)
  · intro s h c layer oper r v hc hl ho hd ha hn hplan hst hlog hmark hsent
    refine gives_recvVat_acked (by rfl) (guardId_of_true (by simp [hc, hl, ho, hd])) ha hn fun n => ?_
    have hmark' : (s.withFelt n).opMark c layer oper r.pass = none := hmark
    dsimp only
    rw [if_neg (by simp [hst, Option.isNone_iff_eq_none, hplan, Nat.not_lt.mpr hlog]), hmark']
    dsimp only [Option.getD_none, List.nil_append]
    have hwhole := opWhole_putMark (s := s.withFelt n) [(h.src, r)] hsent
    have hput := opMark_putMark (s := s.withFelt n) c layer oper r.pass [(h.src, r)]
    rw [if_neg (by simp)]
    simp only [List.length_singleton, Nat.not_ofNat_le_one, if_false]
    rw [if_neg (by rw [Bool.and_eq_true]; exact fun hw => Bool.false_ne_true (hwhole.symm.trans hw.1))]
    refine ⟨?_, emits_ack_of (modCtx_keeps (kp := false) _ _ (withFelt_keeps n (Keeps.refl _ _))) ..⟩
    obtain ⟨m, o, hack⟩ := ack_eq ((s.withFelt n).putMark c layer oper r.pass [(h.src, r)]) (hubDie v) h.src 0x43 h.seq 0
    exact (congrArg (State.opMark · c layer oper r.pass) hack).trans hput

end Sys2Proof.Machine
end

section
/-! SUPPORT. What holds, event rings, first-stage counts and reactions leave unchanged: everything but taps, dies, the stall intervals, the PIN latches
and the books. -/

namespace Sys2Proof.Machine

/-- The Vats' mirrored part without the books, the stall intervals and the PIN latches. -/
def Shared.sansHolds (h : Shared) : Shared := { h.sansBooks with pins := [], intervals := [] }
/-- A state without the books, the taps, the dies, the stall intervals and the PIN latches. -/
def State.sansHolds (s : State) : State := { s.sansBooks with sh := s.sh.sansHolds, cores := [], dies := [] }

section
variable (s : State)

theorem sansHolds_of_sansBooks {s t : State} (h : t.sansBooks = s.sansBooks) : t.sansHolds = s.sansHolds :=
  congrArg (fun u : State => { u with sh := { u.sh with pins := [], intervals := [] }, cores := [], dies := [] }) h
@[simp] theorem emit_sansHolds (o : Out) : (s.emit o).sansHolds = s.sansHolds := rfl
@[simp] theorem modFelt_sansHolds (f : Felt → Felt) : (s.modFelt f).sansHolds = s.sansHolds := rfl
@[simp] theorem withFelt_sansHolds (n : Felt) : (s.withFelt n).sansHolds = s.sansHolds := rfl
@[simp] theorem feltSend_sansHolds (src ty mode dst : Nat) (words : List Nat) (ring : Option Nat) :
    (s.feltSend src ty mode dst words ring).sansHolds = s.sansHolds := sansHolds_of_sansBooks (feltSend_sansBooks ..)
@[simp] theorem vatSend_sansHolds (ty mode dst : Nat) (words : List Nat) : (s.vatSend ty mode dst words).sansHolds = s.sansHolds := feltSend_sansHolds ..
@[simp] theorem ack_sansHolds (die dst ty seq status : Nat) : (s.ack die dst ty seq status).sansHolds = s.sansHolds := sansHolds_of_sansBooks (ack_sansBooks ..)
@[simp] theorem mirror_sansHolds : s.mirror.sansHolds = s.sansHolds := sansHolds_of_sansBooks (mirror_sansBooks s)
@[simp] theorem mramWrite_sansHolds : s.mramWrite.sansHolds = s.sansHolds := sansHolds_of_sansBooks (mramWrite_sansBooks s)
@[simp] theorem postInt_sansHolds (src : Nat) : (s.postInt src).sansHolds = s.sansHolds := sansHolds_of_sansBooks (postInt_sansBooks ..)
@[simp] theorem bump_sansHolds (src m reel : Nat) : (s.bump src m reel).1.sansHolds = s.sansHolds := sansHolds_of_sansBooks (bump_sansBooks ..)
@[simp] theorem recordAt_sansHolds (code severity source reel : Nat) (u : Bool) (p1 p2 p3 : Nat) :
    (s.recordAt code severity source reel u p1 p2 p3).sansHolds = s.sansHolds := sansHolds_of_sansBooks (recordAt_sansBooks ..)
@[simp] theorem record_sansHolds (code severity source p1 p2 p3 : Nat) : (s.record code severity source p1 p2 p3).sansHolds = s.sansHolds :=
  recordAt_sansHolds ..
@[simp] theorem faultRecs_sansHolds (src key reel : Nat) (x : Option Nat) (l : List Detail) :
    (s.faultRecs src key reel x l).sansHolds = s.sansHolds := sansHolds_of_sansBooks (faultRecs_sansBooks ..)
@[simp] theorem modCore_sansHolds (p : Nat) (f : Core → Core) : (s.modCore p f).sansHolds = s.sansHolds := rfl
@[simp] theorem modDie_sansHolds (d : Nat) (f : Die → Die) : (s.modDie d f).sansHolds = s.sansHolds := rfl
theorem sansHolds_ite (c : Prop) [Decidable c] (s t : State) : (if c then s else t).sansHolds = if c then s.sansHolds else t.sansHolds := apply_ite ..
theorem each_sansHolds {α : Type} (l : List α) (f : State → α → State) (hf : ∀ t a, (f t a).sansHolds = t.sansHolds) :
    (each l f s).sansHolds = s.sansHolds := each_keeps State.sansHolds l f s hf

@[simp] theorem tapRing_sansHolds (p kind detail : Nat) : (s.tapRing p kind detail).sansHolds = s.sansHolds := by
  unfold State.tapRing
  split <;> rfl
@[simp] theorem dieRing_sansHolds (d kind detail : Nat) : (s.dieRing d kind detail).sansHolds = s.sansHolds := rfl
@[simp] theorem ringHold_sansHolds (p key : Nat) (b : Bool) : (s.ringHold p key b).sansHolds = s.sansHolds := by
  simp [State.ringHold, sansHolds_ite]
@[simp] theorem holdRegion_sansHolds (region key kind : Nat) : (s.holdRegion region key kind).sansHolds = s.sansHolds := by
  unfold State.holdRegion
  split
  · rfl
  · split <;> rfl
@[simp] theorem unholdRegion_sansHolds (region key : Nat) : (s.unholdRegion region key).sansHolds = s.sansHolds := by
  have hset (x : Option Interval) : (s.modSh fun h => { h with intervals := tset none h.intervals region x }).sansHolds = s.sansHolds := rfl
  unfold State.unholdRegion
  split
  · rfl
  · simp [State.writeInterval, sansHolds_ite, hset]
@[simp] theorem holdCore_sansHolds (p key : Nat) : (s.holdCore p key).sansHolds = s.sansHolds := by
  simp [State.holdCore, sansHolds_ite]
@[simp] theorem chargeHold_sansHolds (p b : Nat) : (s.chargeHold p b).sansHolds = s.sansHolds := rfl
@[simp] theorem unholdCore_sansHolds (p key : Nat) : (s.unholdCore p key).sansHolds = s.sansHolds := by
  unfold State.unholdCore
  split
  · rfl
  · simp
@[simp] theorem holdDie_sansHolds (d key kind : Nat) : (s.holdDie d key kind).sansHolds = s.sansHolds := by
  have h : (each (dieCores d) (fun s p => s.ringHold p key true) s).sansHolds = s.sansHolds := each_sansHolds s _ _ (by simp)
  simp [State.holdDie, sansHolds_ite, h]
@[simp] theorem raiseFence_sansHolds (d f : Nat) : (s.raiseFence d f).sansHolds = s.sansHolds := rfl
@[simp] theorem lowerFence_sansHolds (d f : Nat) : (s.lowerFence d f).sansHolds = s.sansHolds := rfl
@[simp] theorem setPin_sansHolds (src : Nat) : (s.setPin src).sansHolds = s.sansHolds := by
  have h : (s.modSh fun h => { h with pins := insertNat src h.pins }).sansHolds = s.sansHolds := rfl
  simp [State.setPin, sansHolds_ite, h]
@[simp] theorem stopSlice_sansHolds (src : Nat) : (s.stopSlice src).sansHolds = s.sansHolds := by
  refine stopSlice_cases (P := fun t => t.sansHolds = s.sansHolds) src rfl fun d => rfl
@[simp] theorem firstStage_sansHolds (d src : Nat) (l : List Detail) : (s.firstStage d src l).sansHolds = s.sansHolds := by
  unfold State.firstStage
  split <;> rfl
@[simp] theorem countLater_sansHolds (d src key : Nat) : (s.countLater d src key).sansHolds = s.sansHolds := by
  have hdue (t : State) (l : List (Nat × Nat)) : (t.modSh fun h => { h with reactDue := h.reactDue ++ l }).sansHolds = t.sansHolds := rfl
  simp [State.countLater, sansHolds_ite, hdue]
@[simp] theorem sendNmi_sansHolds (d src : Nat) : (s.sendNmi d src).sansHolds = s.sansHolds := each_sansHolds s _ _ (by simp)
@[simp] theorem tellReactions_sansHolds (src m : Nat) : (s.tellReactions src m).sansHolds = s.sansHolds := by
  simp [State.tellReactions, sansHolds_ite]
@[simp] theorem countLadder_sansHolds (k p2 p3 : Nat) : (s.countLadder k p2 p3).sansHolds = s.sansHolds := by
  simp [State.countLadder, sansHolds_ite]
@[simp] theorem countPkgReset_sansHolds (source : Nat) : (s.countPkgReset source).sansHolds = s.sansHolds := countLadder_sansHolds ..
@[simp] theorem escalate_sansHolds (source a b c d : Nat) : (s.escalate source a b c d).sansHolds = s.sansHolds := record_sansHolds ..
@[simp] theorem freeReplica_sansHolds (c : Nat) : (s.freeReplica c).sansHolds = s.sansHolds := each_sansHolds s _ _ (by simp)

end

/-! ## What agrees but for holds agrees on the rest -/

section
variable {s t : State}

theorem lcs_of_sansHolds (h : t.sansHolds = s.sansHolds) : t.lcs = s.lcs := show t.sansHolds.lcs = s.sansHolds.lcs from congrArg _ h
theorem pkg_of_sansHolds (h : t.sansHolds = s.sansHolds) : t.pkg = s.pkg := show t.sansHolds.pkg = s.sansHolds.pkg from congrArg _ h
theorem sh_of_sansHolds (h : t.sansHolds = s.sansHolds) : t.sh.sansHolds = s.sh.sansHolds := congrArg State.sh h
theorem shared_of_sansHolds {α : Type} (g : Shared → α) (hg : ∀ h, g h.sansHolds = g h) (h : t.sansHolds = s.sansHolds) :
    g t.sh = g s.sh := by rw [← hg t.sh, ← hg s.sh, sh_of_sansHolds h]
theorem ctx_of_sansHolds (h : t.sansHolds = s.sansHolds) (c : Nat) : t.ctx c = s.ctx c :=
  show t.sansHolds.ctx c = s.sansHolds.ctx c from congrArg (State.ctx · c) h
theorem lc_of_sansHolds (h : t.sansHolds = s.sansHolds) (n : Nat) : t.lc n = s.lc n :=
  show t.sansHolds.lc n = s.sansHolds.lc n from congrArg (State.lc · n) h
theorem ticket_of_sansHolds (h : t.sansHolds = s.sansHolds) (k : Nat) : t.ticket k = s.ticket k :=
  show t.sansHolds.ticket k = s.sansHolds.ticket k from congrArg (State.ticket · k) h
theorem acting_of_sansHolds (h : t.sansHolds = s.sansHolds) : t.acting = s.acting :=
  show t.sansHolds.acting = s.sansHolds.acting from congrArg _ h

end

/-! ## Counting an event of a package source (Table 7.5) -/

section
variable (s : State)

theorem agentReact_pkgSource_sansHolds (d n m : Nat) (hn : n < 11) : (s.agentReact d (pkgSource n) m).sansHolds = s.sansHolds := by
  simp [State.agentReact, takeBlk_pkgSource _ n hn, sansHolds_ite]
theorem agentCount_pkgSource_sansHolds (d n : Nat) (x : Detail) (hn : n < 11) : (s.agentCount d (pkgSource n) x).sansHolds = s.sansHolds := by
  unfold State.agentCount
  rw [classOf_pkgSource n hn]
  dsimp only
  rw [if_neg (by simp; omega), agentReact_pkgSource_sansHolds _ _ _ _ hn]
  simp
theorem applyOne_sansHolds (src key reel : Nat) (l : List Detail) (hc : sourceCore src = none) : (s.applyOne src key reel l).sansHolds = s.sansHolds := by
  have hact (t : State) : t.threshAction src key = t := by simp [State.threshAction, hc]
  have hrisk (t : State) (l : List (Nat × Nat)) : (t.modSh fun h => { h with riskThresh := h.riskThresh ++ l }).sansHolds = t.sansHolds := rfl
  unfold State.applyOne
  dsimp only
  split
  · simp [sansHolds_ite]
  · simp [hact, sansHolds_ite, hrisk]

theorem applyCount_pkgSource {n : Nat} (reel : Nat) (l : List Detail) (hn : n < 11) : s.applyCount (pkgSource n) reel l =
    (s.applyOne (pkgSource n) (208 + n) reel l).pkgAfter (pkgSource n) (208 + n) (s.bump (pkgSource n) l.length reel).2.isSome := by
  have hctx := sourceCtx_pkgSource n (by omega)
  simp only [State.applyCount, classOf_pkgSource n hn, State.applyBase, hctx]
  split
  · next h => exact absurd h nofun
  · rfl

/-- No context has another plan in `t` than in `s`: each has the one it had, or none. -/
def NoNewPlan (s t : State) : Prop := ∀ c, (t.ctx c).plan = (s.ctx c).plan ∨ (t.ctx c).plan = none

namespace NoNewPlan
variable {s t u : State}

theorem refl (s : State) : NoNewPlan s s := fun _ => .inl rfl
theorem of_ctx (h : NoNewPlan s t) (hu : ∀ c, (u.ctx c).plan = (t.ctx c).plan) : NoNewPlan s u := fun c => hu c ▸ h c
theorem of_sansHolds (h : NoNewPlan s t) (hu : u.sansHolds = t.sansHolds) : NoNewPlan s u := h.of_ctx fun c => congrArg Ctx.plan (ctx_of_sansHolds hu c)
theorem ite (c : Prop) [Decidable c] (h : NoNewPlan s t) (h' : NoNewPlan s u) : NoNewPlan s (if c then t else u) := by split <;> assumption
theorem modPkg (f : Pkg → Pkg) (h : NoNewPlan s t) : NoNewPlan s (t.modPkg f) := h
theorem each {α : Type} (l : List α) (f : State → α → State) (hf : ∀ t a, NoNewPlan s t → NoNewPlan s (f t a)) (h : NoNewPlan s t) :
    NoNewPlan s (Machine.each l f t) := each_holds (NoNewPlan s) l f t hf h

theorem startTeardown (c trigger : Nat) (h : NoNewPlan s t) : NoNewPlan s (t.startTeardown c trigger) := by
  unfold State.startTeardown
  dsimp only
  split
  · refine each _ _ (fun u a hu => hu.of_sansHolds (vatSend_sansHolds ..)) (modPkg _ (of_sansHolds (of_ctx h fun k => ?_) (mirror_sansHolds _)))
    rw [modCtx_ctx]
    split
    · next hk => rw [hk]
    · rfl
  · exact h
theorem teardownAll (trigger : Nat) (h : NoNewPlan s t) : NoNewPlan s (t.teardownAll trigger) := each _ _ (fun _ c hu => hu.startTeardown c trigger) h
theorem enterOos (reason : Nat) (h : NoNewPlan s t) : NoNewPlan s (t.enterOos reason) := by
  unfold State.enterOos
  refine ite _ h (teardownAll 5 (of_sansHolds (modPkg (fun g => { g with oos := true, powerPending := false }) h) ?_))
  simp
theorem bringUp (s t : State) : NoNewPlan s t.bringUp := by
  have hctx (t : State) (c : Nat) : t.keepDurable.ctx c = t.ctx c := by
    unfold State.keepDurable
    split <;> rfl
  exact fun c => .inr (congrArg Ctx.plan (hctx _ c))
theorem requestPowerCycle (source : Nat) (h : NoNewPlan s t) : NoNewPlan s (t.requestPowerCycle source) := by
  unfold State.requestPowerCycle State.sendPowerReq
  have hheld : NoNewPlan s (Machine.each (List.range 96) (fun s d => s.holdDie d powerKey 3) (t.teardownAll 5)) :=
    each _ _ (fun _ d hu => hu.of_sansHolds (holdDie_sansHolds ..)) (h.teardownAll 5)
  have hcount := ((hheld.modPkg fun g => { g with powerPending := true, powerSource := source, powerReqs := 0 }).of_sansHolds
    (countPkgReset_sansHolds _ source))
  exact ite _ (hcount.enterOos 0) (modPkg _ (hcount.of_sansHolds (by simp)))
theorem packageReset (source : Nat) (counted : Bool) (h : NoNewPlan s t) : NoNewPlan s (t.packageReset source counted) := by
  unfold State.packageReset
  have hescalate := h.of_sansHolds (escalate_sansHolds t source 3 4 1 (t.leaked (pkgSource 7)).count)
  have hcount := hescalate.of_sansHolds (countPkgReset_sansHolds _ source)
  exact ite _ (ite _ (ite _ (hcount.enterOos 0) hcount) (ite _ (hescalate.requestPowerCycle source) (bringUp s _))) (bringUp s _)
theorem vatCount_pkgSource {n : Nat} (x : Detail) (hn : n < 11) (h : NoNewPlan s t) : NoNewPlan s (t.vatCount (pkgSource n) x) := by
  unfold State.vatCount
  rw [classOf_pkgSource n hn]
  have hreact (m : Nat) := h.of_sansHolds (agentReact_pkgSource_sansHolds t (t.agentOf (pkgSource n)) n m hn)
  dsimp only
  specialize hreact (t.reactionsOf (t.agentOf (pkgSource n)) (pkgSource n) (208 + n))
  generalize t.agentReact _ (pkgSource n) _ = u at hreact ⊢
  refine ite _ (hreact.of_sansHolds (firstStage_sansHolds ..)) ?_
  rw [applyCount_pkgSource _ _ _ hn]
  have hone := hreact.of_sansHolds (applyOne_sansHolds u (pkgSource n) (208 + n) u.now [x] (sourceCore_pkgSource n (by omega)))
  exact ite _ (hone.packageReset _ _) hone

end NoNewPlan

end

end Sys2Proof.Machine
end

section
/-! SUPPORT. Replica comparison: what it leaves of a configuration, the record that it forms, and its verdict (R148-R155). -/

namespace Sys2Proof.Machine

/-! ## Tables by key -/

theorem mem_tins {α : Type} (n : Nat) (v : α) (e : Nat × α) : ∀ t : Table α, e ∈ tins n v t ↔ e = (n, v) ∨ e ∈ t
  | [] => by simp [tins]
  | (k, w) :: t => by
    unfold tins
    split
    · simp
    · rw [List.mem_cons, mem_tins n v e t, List.mem_cons]
      tauto
/-- A table has the keys that it had, and the one that is set. -/
theorem key_mem_tset {α : Type} [DecidableEq α] {d v : α} {t : Table α} {n k : Nat} (hv : v ≠ d) (h : k = n ∨ ∃ e ∈ t, e.1 = k) :
    ∃ e ∈ tset d t n v, e.1 = k := by
  unfold tset
  rw [if_neg hv]
  by_cases hk : k = n
  · exact ⟨(n, v), (mem_tins ..).mpr (.inl rfl), hk.symm⟩
  · obtain ⟨e, he, rfl⟩ := h.resolve_left hk
    exact ⟨e, (mem_tins ..).mpr (.inr (List.mem_filter.mpr ⟨he, by simpa using hk⟩)), rfl⟩

section
variable {s : State} {c : Nat}

/-! ## Beginning and ending a comparison -/

/-- The settings of a replica: its group, its size, its index and its interval (R148). -/
def Replica.settings (o : Replica) : Nat × Nat × Nat × Nat := (o.group, o.r, o.index, o.k)
theorem modReplica_ctx (f : Replica → Replica) : ((s.modReplica c f).ctx c).replica = (s.ctx c).replica.map f := by
  rw [State.modReplica, modCtx_ctx, if_pos rfl]
theorem checkTotal_of_le (die : Option Nat) {total : Nat} {r : DigestRec} (h : r.count ≤ total) (d : Detail) : s.checkTotal die total r d = s :=
  if_neg (Nat.not_lt.mpr h)
theorem toVat_sansHolds (die ty : Nat) (words : List Nat) : (s.toVat die ty words).sansHolds = s.sansHolds := by
  unfold State.toVat
  split
  · rfl
  · exact feltSend_sansHolds ..
theorem sendPart_sansHolds (iter index d : Nat) : (s.sendPart c iter index d).sansHolds = s.sansHolds := by
  have h (r : DigestRec) (x : Detail) : (s.checkTotal (some d) (s.replicaTotal c) r x).sansHolds = s.sansHolds := by
    unfold State.checkTotal
    split
    · exact agentCount_pkgSource_sansHolds _ _ _ _ (by omega)
    · rfl
  exact (toVat_sansHolds ..).trans (h ..)
/-- The record that a package forms of the partials of every die. -/
theorem formReplica_whole {o : Replica} {i : Nat} (ho : (s.ctx c).replica = some o) (hp : o.pending = some i) (hin : o.inPass = none)
    (hall : ∀ d ∈ o.dies, ∃ e ∈ o.parts, e.1 = d) (hle : (replicaRec (s.replicaTotal c) o.index i (o.parts.map (·.2))).count ≤ s.replicaTotal c) :
    s.formReplica c = ((s.modReplica c fun x => { x with inPass := some (replicaRec (s.replicaTotal c) o.index i (o.parts.map (·.2))) }).mirror).emit
      (.digestSlot c (replicaRec (s.replicaTotal c) o.index i (o.parts.map (·.2)))) := by
  unfold State.formReplica
  rw [ho]
  dsimp only
  rw [hp]
  dsimp only
  rw [if_neg, checkTotal_of_le none hle]
  simpa [hin] using hall
/-- Without partials nothing is formed, or a record of nothing. -/
theorem formReplica_of_no_parts {o : Replica} (ho : (s.ctx c).replica = some o) (hp : o.parts = []) : s.formReplica c = s ∨
    ∃ r, s.formReplica c = ((s.modReplica c fun x => { x with inPass := some r }).mirror).emit (.digestSlot c r) := by
  by_cases hform : (∃ i, o.pending = some i) ∧ o.inPass = none ∧ o.dies = []
  · obtain ⟨⟨i, hi⟩, hin, hd⟩ := hform
    exact .inr ⟨_, formReplica_whole ho hi hin (by simp [hd]) (by rw [hp]; exact Nat.zero_le _)⟩
  · refine .inl ?_
    unfold State.formReplica
    rw [ho]
    dsimp only
    cases hi : o.pending with
    | none => rfl
    | some i =>
      refine if_pos ?_
      by_contra hno
      simp only [hp, List.any_nil, Bool.or_eq_true, Bool.not_eq_true', not_or, Bool.not_eq_true, Bool.not_eq_false, List.all_eq_true, Option.isSome_eq_false_iff,
        Option.isNone_iff_eq_none] at hno
      exact hform ⟨⟨i, hi⟩, hno.1, List.eq_nil_iff_forall_not_mem.mpr fun d hd => Bool.false_ne_true (hno.2 d hd)⟩
/-- A comparison without partials leaves the settings. -/
theorem formReplica_settings {o : Replica} (ho : (s.ctx c).replica = some o) (hp : o.parts = []) :
    ((s.formReplica c).ctx c).replica.map Replica.settings = some o.settings := by
  obtain h | ⟨r, h⟩ := formReplica_of_no_parts ho hp
  · rw [h, ho]
    rfl
  · rw [h, emit_ctx, ctx_mirror, modReplica_ctx, ho]
    rfl
theorem beginCompare_settings (iter : Nat) {o : Replica} (ho : (s.ctx c).replica = some o) :
    ((s.beginCompare c iter).ctx c).replica.map Replica.settings = some o.settings := by
  unfold State.beginCompare
  dsimp only
  refine formReplica_settings (o := { o with
    pending := some iter, dies := (List.range 96).filter fun d => !(s.replParts c d).isEmpty, parts := [], inPass := none, reread := none, slot := none,
    aborted := false, shards := [], located := false, runs := [], runFailed := false, otherFailing := none, exchange := none }) ?_ rfl
  rw [ctx_of_sansHolds (each_sansHolds _ _ _ fun t d => sendPart_sansHolds ..), modReplica_ctx, ho]
  rfl
theorem armRerun_settings {o : Replica} (ho : (s.ctx c).replica = some o) :
    ((s.armRerun c).ctx c).replica.map Replica.settings = some o.settings := by
  unfold State.armRerun
  rw [ho]
  split
  · next i x _ h =>
    obtain rfl : o = x := Option.some.inj h
    split
    · rw [ho]; rfl
    · exact beginCompare_settings i ho
  · rw [ho]; rfl
theorem dropRepl_sansHolds : (s.dropRepl c).sansHolds = s.sansHolds := each_sansHolds s _ _ fun _ _ => rfl
/-- At its end no comparison is pending. -/
theorem endCompare_pending {o : Replica} (ho : (s.ctx c).replica = some o) : ((s.endCompare c).ctx c).replica.map (·.pending) = some none := by
  have hctx : ((s.endCompare c).ctx c).replica = (s.ctx c).replica.map fun o =>
      match o.next with
      | some n => { o with pending := none, parts := [], slot := none, group := n.1, r := n.2.1, index := n.2.2.1, k := n.2.2.2, next := none }
      | none => { o with pending := none, parts := [], slot := none } := by
    unfold State.endCompare
    rw [ctx_mirror, ctx_of_sansHolds dropRepl_sansHolds, modCtx_ctx, if_pos rfl]
    exact modReplica_ctx ..
  rw [hctx, ho]
  cases hn : o.next <;> simp [hn]
theorem endCompare_shared {α : Type} (g : Shared → α) (hg : ∀ h, g h.sansHolds = g h)
    (hc : ∀ h l, g { h with ctxs := l } = g h) : g (s.endCompare c).sh = g s.sh := by
  unfold State.endCompare
  rw [shared_of_sansHolds g hg (mirror_sansHolds _), shared_of_sansHolds g hg dropRepl_sansHolds]
  exact (hc ..).trans (hc ..)
theorem signalBarrier_pending {o : Replica} (ho : (s.ctx c).replica = some o) : ((s.signalBarrier c).ctx c).replica.map (·.pending) = some none := by
  refine endCompare_pending (o := { o with aborted := false }) ?_
  rw [ctx_of_sansHolds (freeReplica_sansHolds ..), modReplica_ctx, emit_ctx, ho]
  rfl
theorem signalBarrier_replAgree : (s.signalBarrier c).sh.replAgree = s.sh.replAgree := by
  unfold State.signalBarrier
  rw [endCompare_shared Shared.replAgree (fun _ => rfl) fun _ _ => rfl, shared_of_sansHolds Shared.replAgree (fun _ => rfl) (freeReplica_sansHolds ..)]
  rfl

theorem emits_signalBarrier : Emits s (s.signalBarrier c) (.barrier c 0) :=
  (emits_emit s _).of_keeps (endCompare_keeps (kp := false) _ (freeReplica_keeps _ (modReplica_keeps _ _ (Keeps.refl _ _))))
theorem emits_abortBarrier : Emits s (s.abortBarrier c) (.barrier c 1) := (emits_emit s _).of_keeps (modReplica_keeps (kp := false) _ _ (Keeps.refl _ _))

/-- A barrier is signalled, with the verdict AGREE counted and sent. -/
theorem agreed (n i : Nat) (l : List (Nat × Nat)) (x : Replica) (r : DigestRec) {o : Replica} (ho : (s.ctx c).replica = some o) {t : State}
    (ht : t = ((s.modSh fun h => { h with replAgree := n, replMarks := l }).signalBarrier c).sendReplicaVerdict x i 0 0 r) :
    t.sh.replAgree = n ∧ Emits s t (.barrier c 0) ∧ (t.ctx c).replica.map (·.pending) = some none := by
  subst ht
  have hemits := Emits.after_keeps (modSh_keeps (kp := false) (fun h => { h with replAgree := n, replMarks := l }) (Keeps.refl _ s))
    (emits_signalBarrier (s := s.modSh fun h => { h with replAgree := n, replMarks := l }) (c := c))
  have hagree := signalBarrier_replAgree (s := s.modSh fun h => { h with replAgree := n, replMarks := l }) (c := c)
  have hpending := signalBarrier_pending (s := s.modSh fun h => { h with replAgree := n, replMarks := l }) (c := c) ho
  generalize (s.modSh fun h => { h with replAgree := n, replMarks := l }).signalBarrier c = u at *
  exact ⟨hagree, hemits.of_keeps (sendReplicaVerdict_keeps (kp := false) _ _ _ _ _ (Keeps.refl _ _)), hpending⟩
theorem emits_disagreed (o : Replica) (i v map : Nat) (r : DigestRec) : Emits s ((s.abortBarrier c).disagreed c o i v map r) (.barrier c 1) :=
  emits_abortBarrier.of_keeps (disagreed_keeps (kp := false) _ _ _ _ _ _ (Keeps.refl _ _))

theorem emits_digestPath (o : Replica) (i : Nat) (own : DigestRec) : Emits s (s.digestPath c o i own) (.barrier c 0) := by
  refine .after_keeps (kp := false) (disagreed_keeps _ _ _ _ _ _ ?_) emits_signalBarrier
  exact each_keepsS _ _ (fun _ _ h => vatSend_keeps _ _ _ _ (queueBeat_keeps _ _ _ h)) (Keeps.refl _ s)

/-! ## The verdict (Table 4.6) -/

theorem combineAll_count (total total' tensor pass : Nat) (l : List DigestRec) : (combineAll total tensor pass l).count = (combineAll total' tensor pass l).count := by
  have h (a b : DigestRec) (hab : a.count = b.count) : (l.foldl (combineRec total) a).count = (l.foldl (combineRec total') b).count := by
    induction l generalizing a b with
    | nil => exact hab
    | cons x l ih => exact ih _ _ (by simp [combineRec, hab])
  exact h _ _ rfl
/-- Every replica's record has at most `total` elements. -/
def countsWithin (total : Nat) (l : List (Option DigestRec)) : Prop := ∀ y, some y ∈ l → y.count ≤ total
/-- A record's element count does not hang on the total that it is combined for. -/
theorem countsWithin_replicaRecs {m total total' r iter : Nat} {recs : List DigestRec} (h : countsWithin m (replicaRecs total r iter recs)) :
    countsWithin m (replicaRecs total' r iter recs) := by
  intro y hy
  obtain ⟨i, hi, hy⟩ := List.mem_map.mp hy
  have hrec := h (replicaRec total i iter (recs.filter fun x => x.tensor == 0xFFFE0000 + i && x.pass == iter)) (List.mem_map.mpr ⟨i, hi, ?_⟩)
  · dsimp only at hy
    split at hy
    · contradiction
    · rw [← Option.some.inj hy]
      exact (combineAll_count ..).trans_le hrec
  · dsimp only at hy ⊢
    split at hy
    · contradiction
    · next hne => exact if_neg hne
/-- A verdict AGREE is given of records within the total alone. -/
theorem countsWithin_of_agree {total r iter own : Nat} {recs : List DigestRec} {conflict : Bool}
    (h : (replicaVerdict total r iter own recs conflict).1 = 0) : countsWithin total (replicaRecs total r iter recs) := by
  intro y hy
  by_contra hlt
  unfold replicaVerdict at h
  dsimp only at h
  rw [if_pos] at h
  · contradiction
  · exact Bool.or_eq_true_iff.mpr (.inr (List.any_eq_true.mpr ⟨_, hy, decide_eq_true (Nat.not_le.mp hlt)⟩))
theorem checkSlots_of_within {l : List (Option DigestRec)} (h : countsWithin (s.replicaTotal c) l) : s.checkSlots c l = s := by
  induction l with
  | nil => rfl
  | cons x l ih =>
    have hl := ih fun y hy => h y (List.mem_cons_of_mem _ hy)
    cases x with
    | none => exact hl
    | some r => exact (congrArg (State.checkSlots · c l) (checkTotal_of_le _ (h r (List.mem_cons_self ..)) _)).trans hl
theorem checkSlots_noNewPlan (l : List (Option DigestRec)) : NoNewPlan s (s.checkSlots c l) := by
  refine .each _ _ (fun t x ht => ?_) (.refl s)
  cases x with
  | none => exact ht
  | some r => exact .ite _ (ht.vatCount_pkgSource _ (by omega)) ht
theorem replicaTotal_of_noNewPlan {t : State} (h : NoNewPlan s t) (c : Nat) : t.replicaTotal c = s.replicaTotal c ∨ t.replicaTotal c = 0 := by
  unfold State.replicaTotal
  obtain h | h := h c
  · exact .inl (by rw [h])
  · exact .inr (by rw [h])
/-- The counts of WM_RECORD that a comparison's records set off turn no verdict into AGREE. -/
theorem verdict_checkSlots {r iter own : Nat} {recs : List DigestRec} {conflict : Bool}
    (h : (replicaVerdict (s.replicaTotal c) r iter own recs conflict).1 ≠ 0) :
    (replicaVerdict ((s.checkSlots c (replicaRecs (s.replicaTotal c) r iter recs)).replicaTotal c) r iter own recs conflict).1 ≠ 0 := by
  intro hagree
  obtain htotal | htotal := replicaTotal_of_noNewPlan (s := s) (checkSlots_noNewPlan (replicaRecs (s.replicaTotal c) r iter recs)) c
  · exact h (by rwa [htotal] at hagree)
  · have hzero := countsWithin_of_agree hagree
    rw [htotal] at hzero
    rw [checkSlots_of_within fun y hy => (countsWithin_replicaRecs hzero y hy).trans (Nat.zero_le _)] at hagree
    exact h hagree

end

/-- Settles O16. -/
theorem replicaCommandsComplete : Obligations.ReplicaCommandsComplete := by
  refine ⟨?_, ?_, ?_, ?_, ?_, ?_, ?_⟩
  · intro s rq group r i k h hst hr hr' hi hk hk' hpend
    refine gives_of_takes h rfl rfl fun a b => ?_
    dsimp only
    rw [if_neg (by rw [taken_ctx]; rcases hst with hst | hst <;> simp [hst]), clampTo_of_le hr hr',
      clampTo_of_le (Nat.zero_le _) (by omega), clampOr_of_le (by omega) hk hk']
    refine ⟨answers_finish_nil .., ?_⟩
    rw [ctx_finish, ctx_mirror]
    obtain ⟨o, ho, hset⟩ : ∃ o : Replica, (match (s.ctx rq.ctx).replica with
        | some o => if o.pending.isSome then some { o with next := some (group, r, i, k) } else some { o with group := group, r := r, index := i, k := k }
        | none => some { group := group, r := r, index := i, k := k }) = some o ∧ o.settings = (group, r, i, k) := by
      cases ho : (s.ctx rq.ctx).replica with
      | none => exact ⟨_, rfl, rfl⟩
      | some o => exact ⟨_, if_neg (by simp [hpend o ho]), rfl⟩
    refine (armRerun_settings (o := o) ?_).trans (congrArg some hset)
    rw [modCtx_ctx, if_pos rfl]
    exact ho
  · intro s rq o iter h ho hst
    refine gives_of_takes h rfl rfl fun a b => ?_
    rw [taken_ctx, ho]
    dsimp only
    rw [if_pos rfl]
    refine ⟨?_, answers_finish_nil ..⟩
    rw [ctx_finish]
    have hkeep : (((s.taken a b).keepLost rq.ctx).ctx rq.ctx).state = (s.ctx rq.ctx).state := by
      unfold State.keepLost
      split
      · rfl
      · rw [modCtx_ctx, if_pos rfl]
        rfl
    exact (startTeardown_loaded _ _ _ (by rw [hkeep]; exact hst)).1
  · intro s rq o r i h ho hr hr' hi
    refine gives_of_takes h rfl rfl fun a b => ?_
    dsimp only
    rw [if_neg (by rw [taken_ctx, ho]; simp), clampTo_of_le hr hr',
      clampTo_of_le (Nat.zero_le _) (by omega)]
    refine ⟨?_, answers_finish_nil ..⟩
    rw [ctx_finish, ctx_mirror, modReplica_ctx, taken_ctx, ho]
    rfl
  · intro s h c iter r v o m hc hd ha hn ho hp hr hst hall hm hle hin
    refine gives_recvVat_acked (by rfl) (guardId_of_true (by simp [hc, hd])) ha hn fun n => ?_
    rw [withFelt_ctx, ho]
    dsimp only
    rw [if_neg hst, if_pos (by simp [hp, hin])]
    have ho' : (((s.withFelt n).modReplica c fun o => { o with parts := tset default o.parts h.src r }).ctx c).replica =
        some { o with parts := tset default o.parts h.src r } := by
      rw [modReplica_ctx, withFelt_ctx, ho]
      rfl
    have htotal : ((s.withFelt n).modReplica c fun o => { o with parts := tset default o.parts h.src r }).replicaTotal c = s.replicaTotal c := by
      simp [State.replicaTotal, State.modReplica]
    rw [formReplica_whole ho' hp hin (fun d hd => key_mem_tset hr (hall d hd)) (by rw [htotal, ← hm]; exact hle)]
    simp only [htotal, ← hm]
    refine ⟨.of_keeps (.after_keeps (kp := false) ?_ (emits_emit ..)) (ack_keeps (kp := false) _ _ _ _ _ (Keeps.refl _ _)), ?_⟩
    · exact mirror_keeps (modReplica_keeps _ _ (modReplica_keeps _ _ (withFelt_keeps n (Keeps.refl _ _))))
    · rw [ctx_of_sansHolds (ack_sansHolds ..), emit_ctx, ctx_mirror, modReplica_ctx, ho']
      rfl
  · intro s w c recs conflict o i v ha hc ho hp hv
    subst hv
    refine ⟨_, guardId_of_true (by simp [hc]), ?_⟩
    rw [whenActing_acting ha, ho]
    dsimp only
    rw [hp]
    dsimp only
    split
    · rw [modReplica_ctx, ho, ← hp]
      rfl
    · refine ⟨fun hv => ?_, fun hv => ?_⟩
      · rw [checkSlots_of_within (countsWithin_of_agree hv), if_pos hv]
        exact agreed _ _ _ _ _ ho rfl
      · rw [if_neg (verdict_checkSlots hv)]
        have hslots := checkSlots_keeps (kp := false) c (replicaRecs (s.replicaTotal c) o.r i recs) (Keeps.refl _ s)
        generalize s.checkSlots c (replicaRecs (s.replicaTotal c) o.r i recs) = u at hslots ⊢
        generalize replicaVerdict (u.replicaTotal c) o.r i o.index recs conflict = w
        have hout := Emits.after_keeps hslots (emits_disagreed (c := c) o i w.1 w.2.1 w.2.2)
        split
        · exact hout.of_keeps (orderReread_keeps (kp := false) _ (Keeps.refl _ _))
        · refine hout.of_keeps (endCompare_keeps (kp := false) _ ?_)
          split
          · exact holdReplica_keeps _ (Keeps.refl _ _)
          · exact Keeps.refl _ _
  · intro s v c shards o i r ha hc ho hp hx hr
    refine ⟨_, guardId_of_true (by simp [hc]), ?_⟩
    rw [whenActing_acting ha, ho]
    dsimp only
    rw [hp]
    dsimp only
    rw [hx, ← hp, hr]
    refine ⟨?_, .after_keeps (modReplica_keeps (kp := false) _ _ (Keeps.refl _ _)) (emits_emit ..)⟩
    exact (modReplica_ctx _).trans (by simp [ho, hx, hp])
  · intro s v c other inPass tensors b o i own ha hc ho hp hloc hre
    refine ⟨_, guardId_of_true (by simp [hc]), ?_⟩
    rw [whenActing_acting ha, ho]
    dsimp only
    rw [if_neg (by simp [hp]), hloc, hre]
    refine ⟨fun hpass hsame hown hother => ?_, fun hsame hown hother hmark => ?_⟩
    · rw [if_neg (by simp)]
      dsimp only [State.decideTwo]
      rw [if_pos (by simp [hpass, hsame, hown, hother])]
      exact .after_keeps (modReplica_keeps (kp := false) _ _ (Keeps.refl _ s)) (emits_digestPath ..)
    · rw [if_neg (by simp)]
      dsimp only [State.decideTwo]
      rw [if_neg (by simp [hsame]), hown, hother, if_neg (by simp [b2n]), 
        if_pos (by simpa using show (o.group, i) ∉ (s.modReplica c fun o => { o with exchange := none }).sh.replMarks from hmark)]
      refine ⟨?_, ?_⟩
      · rw [endCompare_shared Shared.replMarks (fun _ => rfl) fun _ _ => rfl]
        exact List.mem_append_right _ (List.mem_singleton.mpr rfl)
      · refine endCompare_pending (o := { o with exchange := none, reread := none }) ?_
        rw [modReplica_ctx, ctx_modSh _ _ _ rfl, modReplica_ctx, ho]
        rfl

end Sys2Proof.Machine
end

section
/-! SUPPORT. Orders that hold cores and set generations on a die (Table 5.6). -/

namespace Sys2Proof.Machine

/-- What a step of a fold sets, and no step takes back, holds after the fold; both may use what every step keeps. -/
theorem each_sets {α β : Type} (I p : β → Prop) {f : β → α → β} {a : α} (hI : ∀ b x, I b → I (f b x)) (hset : ∀ b, I b → p (f b a))
    (hkeep : ∀ b x, I b → p b → p (f b x)) (l : List α) (b : β) (ha : a ∈ l) (hb : I b) : p (each l f b) := by
  induction l generalizing b with
  | nil => contradiction
  | cons x l ih =>
    obtain rfl | ha := List.mem_cons.mp ha
    · exact (each_holds (fun b => I b ∧ p b) l f _ (fun b x h => ⟨hI b x h.1, hkeep b x h.1 h.2⟩) ⟨hI b a hb, hset b hb⟩).2
    · exact ih _ ha (hI b x hb)

section
variable {s t : State}

/-- The deckle map and the placement agree. -/
def SameMap (s t : State) : Prop := t.pkg = s.pkg ∧ ∀ d, (t.die d).home = (s.die d).home ∧ (t.die d).phys = (s.die d).phys
theorem SameMap.of_dies (hp : t.pkg = s.pkg) (h : t.dies = s.dies) : SameMap s t := ⟨hp, fun d => by simp [State.die, h]⟩
theorem SameMap.trans {u : State} (h : SameMap s t) (h' : SameMap t u) : SameMap s u :=
  ⟨h'.1.trans h.1, fun d => ⟨(h'.2 d).1.trans (h.2 d).1, (h'.2 d).2.trans (h.2 d).2⟩⟩
theorem SameMap.modDie (d : Nat) (f : Die → Die) (h : ∀ k, (f k).home = k.home ∧ (f k).phys = k.phys) : SameMap s (s.modDie d f) :=
  ⟨rfl, fun e => by
    rw [modDie_die]
    split
    · next he => exact he ▸ h _
    · exact ⟨rfl, rfl⟩⟩
theorem SameMap.homeSlot (h : SameMap s t) (n : Nat) : t.homeSlot n = s.homeSlot n := by
  unfold State.homeSlot
  rw [h.1]
theorem SameMap.carrier (h : SameMap s t) (n : Nat) : t.carrier n = s.carrier n := by
  unfold State.carrier State.home State.homeDie
  rw [h.homeSlot, (h.2 _).1]
theorem SameMap.lcOf (h : SameMap s t) (p : Nat) : t.lcOf p = s.lcOf p := by
  unfold State.lcOf State.phys
  rw [(h.2 _).2]
theorem SameMap.partOf (h : SameMap s t) : t.partOf = s.partOf := funext fun d => by rw [State.partOf, h.1]; rfl
theorem SameMap.partDies (h : SameMap s t) : t.partDies = s.partDies := funext fun d => by rw [State.partDies, h.partOf]; rfl

theorem tapRing_dies (p kind detail : Nat) : (s.tapRing p kind detail).dies = s.dies := by
  unfold State.tapRing
  split <;> rfl
theorem ringHold_dies (p key : Nat) (b : Bool) : (s.ringHold p key b).dies = s.dies := by
  unfold State.ringHold
  split <;> exact tapRing_dies ..
theorem holdRegion_dies (region key kind : Nat) : (s.holdRegion region key kind).dies = s.dies := by
  unfold State.holdRegion
  split
  · rfl
  · split <;> rfl
theorem holdCore_dies (p key : Nat) : (s.holdCore p key).dies = s.dies := by
  unfold State.holdCore
  refine (holdRegion_dies ..).trans ?_
  split
  · rfl
  · exact ringHold_dies ..
theorem holdRegion_core (region key kind q : Nat) : (s.holdRegion region key kind).core q = s.core q := by
  unfold State.holdRegion
  split
  · rfl
  · split <;> rfl
theorem ringHold_holds (p key q : Nat) (b : Bool) : ((s.ringHold p key b).core q).holds = (s.core q).holds := by
  have h (kind detail : Nat) : ((s.tapRing p kind detail).core q).holds = (s.core q).holds := by
    unfold State.tapRing
    split
    · rfl
    · dsimp only
      rw [modCore_core]
      split
      · next hq => rw [hq]
      · rfl
  unfold State.ringHold
  split <;> exact h ..
theorem holdCore_holds (p key q : Nat) : ((s.holdCore p key).core q).holds =
    if q = p ∧ ((s.core p).holds.any fun x => x.1 == key) = false then (s.core q).holds ++ [(key, s.now)] else (s.core q).holds := by
  unfold State.holdCore
  rw [holdRegion_core]
  by_cases h : ((s.core p).holds.any fun x => x.1 == key) = true
  · rw [if_pos h, if_neg (by simp [h])]
  · rw [if_neg h, ringHold_holds, modCore_core]
    by_cases hq : q = p
    · rw [if_pos hq, if_pos ⟨hq, (Bool.not_eq_true _).mp h⟩, hq]
    · rw [if_neg hq, if_neg (by simp [hq])]
/-- A core that is held with a key. -/
def State.heldBy (s : State) (p key : Nat) : Prop := ∃ e ∈ (s.core p).holds, e.1 = key
theorem holdCore_heldBy (p key : Nat) : (s.holdCore p key).heldBy p key := by
  unfold State.heldBy
  rw [holdCore_holds]
  split
  · exact ⟨_, List.mem_append_right _ (List.mem_singleton.mpr rfl), rfl⟩
  · next h =>
    have hany : ((s.core p).holds.any fun x => x.1 == key) = true := (Bool.not_eq_false _).mp fun hno => h ⟨rfl, hno⟩
    obtain ⟨x, hx, hk⟩ := List.any_eq_true.mp hany
    exact ⟨x, hx, beq_iff_eq.mp hk⟩
theorem holdCore_keeps_heldBy {q k : Nat} (h : s.heldBy q k) (p key : Nat) : (s.holdCore p key).heldBy q k := by
  obtain ⟨e, he, hk⟩ := h
  refine ⟨e, ?_, hk⟩
  rw [holdCore_holds]
  split
  · exact List.mem_append_left _ he
  · exact he

/-- The key of a freeze hangs on the contexts and on where their logical cores are placed. -/
theorem freezeKey_congr (hc : t.sh.ctxs = s.sh.ctxs) (hm : SameMap s t) (p reason : Nat) : t.freezeKey p reason = s.freezeKey p reason := by
  have hcarrier : t.carrier = s.carrier := funext hm.carrier
  have hctx : t.ctx = s.ctx := funext fun c => by simp only [State.ctx, hc]
  have hscope (c scope : Nat) : t.scopeCores c scope = s.scopeCores c scope := by
    have hcores : t.ctxCores c = s.ctxCores c := by
      unfold State.ctxCores State.ctxLcs
      rw [hcarrier, hctx]
    unfold State.scopeCores State.ctxParts State.ctxDies
    rw [hcores, hm.partOf, hm.partDies]
  simp only [State.freezeKey, hc, hscope]
theorem groupCores_congr (hc : ∀ c, t.ctx c = s.ctx c) (hm : SameMap s t) (c g : Nat) : t.groupCores c g = s.groupCores c g := by
  simp only [State.groupCores, State.groupOf, hc, hm.carrier]
theorem mem_of_tget_ne {α : Type} {d : α} : ∀ {l : Table α} {k : Nat}, tget d l k ≠ d → (k, tget d l k) ∈ l
  | [], _, h => absurd rfl h
  | (k, v) :: l, n, h => by
    unfold tget at h ⊢
    split
    · next hn => rw [hn]; exact List.mem_cons_self ..
    · next hn =>
      rw [if_neg hn] at h
      exact List.mem_cons_of_mem _ (mem_of_tget_ne h)

end

/-- Settles O18. -/
theorem rollbackOrdersComplete : Obligations.RollbackOrdersComplete := by
  refine ⟨?_, ?_⟩
  · intro s h d cores r hd hcores hr he hu
    have hcores' : (isDie d && cores.all fun p => validCore p && coreDie p == d) = true := by simpa [hd] using hcores
    refine gives_recvCmd_acked (by rfl) (guardId_of_true hcores') hr he hu fun n => ⟨fun p hp k hk => ?_, ?_⟩
    · rw [core_ack]
      refine each_sets (fun u : State => u.sh.ctxs = s.sh.ctxs ∧ SameMap s u) (State.heldBy · p k) (fun u q ⟨hc, hm⟩ => ?_) (fun u ⟨hc, hm⟩ => ?_)
        (fun u q _ hheld => ?_) cores _ hp ⟨rfl, SameMap.modDie (s := s) d (fun k => { k with epoch := h.epoch }) fun _ => ⟨rfl, rfl⟩⟩
      · split
        · exact ⟨(shared_of_sansHolds Shared.ctxs (fun _ => rfl) (holdCore_sansHolds ..)).trans hc,
            hm.trans (.of_dies (pkg_of_sansHolds (holdCore_sansHolds ..)) (holdCore_dies ..))⟩
        · exact ⟨hc, hm⟩
      · rw [freezeKey_congr hc hm, hk]
        exact holdCore_heldBy ..
      · split
        · exact holdCore_keeps_heldBy hheld ..
        · exact hheld
    · refine emits_ack_of (kp := false) (each_keepsS _ _ (fun u q hu => ?_) (withFelt_keeps n (modDie_keeps _ _ (Keeps.refl _ s)))) ..
      split
      · exact holdCore_keeps _ _ hu
      · exact hu
  · intro s h d c g gen n p hd hr he hu hlt hroll hgen hn hcar hdie
    refine gives_recvCmd_acked (by rfl) (guardId_of_true hd) hr he hu fun m => ?_
    have hmem : (c, s.ctx c) ∈ s.sh.ctxs := mem_of_tget_ne fun h0 => hroll (by rw [State.pgroup, State.ctx, h0]; rfl)
    rw [lc_of_sansHolds (ack_sansHolds ..)]
    refine each_sets (fun u : State => (∀ c, u.ctx c = s.ctx c) ∧ SameMap s u) (fun u => (u.lc n).gen = gen) (a := (c, s.ctx c)) (fun u x ⟨hc, hm⟩ => ?_)
      (fun u ⟨hc, hm⟩ => ?_) (fun u x _ hu => ?_) s.sh.ctxs _ hmem ⟨fun _ => rfl, SameMap.modDie (s := s) d (fun k => { k with epoch := h.epoch }) fun _ => ⟨rfl, rfl⟩⟩
    · split
      · exact each_holds (fun u : State => (∀ c, u.ctx c = s.ctx c) ∧ SameMap s u) _ _ _ (fun u y hu => hu) ⟨hc, hm⟩
      · exact ⟨hc, hm⟩
    · rw [if_pos (by simpa [Nat.mod_eq_of_lt hlt, State.pgroup] using And.intro hroll hgen)]
      refine each_sets (fun _ => True) (fun u : State => (u.lc n).gen = gen) (a := (n, p)) (fun _ _ _ => trivial) (fun u _ => ?_) (fun u y _ hu => ?_) _ _ ?_ trivial
      · rw [modLc_lc, if_pos rfl]
        exact Nat.mod_eq_of_lt hlt
      · rw [modLc_lc]
        split
        · exact Nat.mod_eq_of_lt hlt
        · exact hu
      · rw [groupCores_congr hc hm]
        exact List.mem_filter.mpr ⟨List.mem_filterMap.mpr ⟨n, hn, by rw [hcar]; rfl⟩, by simpa using hdie⟩
    · split
      · refine each_holds (fun u : State => (u.lc n).gen = gen) _ _ _ (fun u y hu => ?_) hu
        rw [modLc_lc]
        split
        · exact Nat.mod_eq_of_lt hlt
        · exact hu
      · exact hu

end Sys2Proof.Machine
end

section
/-! SUPPORT. What holds, rings, reactions and counts leave of each tap, die and context. -/

namespace Sys2Proof.Machine

/-- A tap without its holds, its event ring, its RUN and a reaction that waits. -/
def Core.sansHolds (c : Core) : Core :=
  { c with hold := 0, holds := [], ring := [], ringNext := 0, ringFrozen := false, blkWait := none, runTo := none }
/-- A die without its event ring, its first stage, what its agent keeps for a Vat, and a stop of its slice. -/
def Die.sansHolds (d : Die) : Die :=
  { d with first := [], held := [], ring := [], beater := { d.beater with faulted := false, stopping := false } }
/-- A context without its breakpoint holds. -/
def Ctx.sansHolds (c : Ctx) : Ctx := { c with brkHold := none, runHold := none }
/-- A state without what holds, counts and reactions change, its contexts apart. -/
def State.sansStops (s : State) : State := { s.sansHolds with sh := { s.sansHolds.sh with ctxs := [] } }

/-- From `s` to `t` only books, holds, rings, first-stage counts and what reactions leave have changed. -/
structure OnlyHolds (s t : State) : Prop where
  rest : t.sansStops = s.sansStops
  ctx : ∀ c, (t.ctx c).sansHolds = (s.ctx c).sansHolds
  core : ∀ p, (t.core p).sansHolds = (s.core p).sansHolds
  die : ∀ d, (t.die d).sansHolds = (s.die d).sansHolds

theorem validCore_lt {p : Nat} (hp : validCore p = true) : coreDie p < 96 ∧ coreIndex p < 156 ∧ pcoreOf (coreDie p) (coreIndex p) = p := by
  simp only [validCore, Bool.and_eq_true, decide_eq_true_eq] at hp
  unfold coreDie coreIndex pcoreOf
  omega
theorem sourceDie_coreSource {p o : Nat} (hp : validCore p = true) (ho : o < 48) : sourceDie (coreSource p o) = coreDie p ∧
    coreSource p o % 8192 = coreIndex p * 48 + o := by
  obtain ⟨-, hi, -⟩ := validCore_lt hp
  unfold sourceDie coreSource
  omega
theorem classOf_coreSource {p o : Nat} (hp : validCore p = true) (ho : o < 34) : classOf (coreSource p o) = some o := by
  obtain ⟨hd, hi, -⟩ := validCore_lt hp
  obtain ⟨hdie, hmod⟩ := sourceDie_coreSource (o := o) hp (by omega)
  unfold classOf
  simp only [hdie, hmod]
  rw [if_pos (by simp; omega), show (coreIndex p * 48 + o) % 48 = o by omega, if_pos ho]
theorem sourceCore_coreSource {p o : Nat} (hp : validCore p = true) (ho : o < 48) : sourceCore (coreSource p o) = some p := by
  obtain ⟨hd, hi, hpc⟩ := validCore_lt hp
  obtain ⟨hdie, hmod⟩ := sourceDie_coreSource (o := o) hp ho
  unfold sourceCore
  rw [hdie, hmod, if_pos (by simp; omega), show (coreIndex p * 48 + o) / 48 = coreIndex p by omega, hpc]

namespace OnlyHolds
variable {s t u : State}

theorem refl (s : State) : OnlyHolds s s := ⟨rfl, fun _ => rfl, fun _ => rfl, fun _ => rfl⟩
theorem trans (h : OnlyHolds s t) (h' : OnlyHolds t u) : OnlyHolds s u :=
  ⟨h'.rest.trans h.rest, fun c => (h'.ctx c).trans (h.ctx c), fun p => (h'.core p).trans (h.core p), fun d => (h'.die d).trans (h.die d)⟩

/-! ### What two such states agree on -/

theorem shared {α : Type} (g : Shared → α) (hg : ∀ h, g { h.sansHolds with ctxs := [] } = g h) (h : OnlyHolds s t) : g t.sh = g s.sh := by
  rw [← hg t.sh, ← hg s.sh]
  exact congrArg (fun u : State => g u.sh) h.rest
theorem pkg (h : OnlyHolds s t) : t.pkg = s.pkg := show t.sansStops.pkg = s.sansStops.pkg from congrArg _ h.rest
theorem dbg (h : OnlyHolds s t) : t.dbg = s.dbg := show t.sansStops.dbg = s.sansStops.dbg from congrArg _ h.rest
theorem reel (h : OnlyHolds s t) : t.reel = s.reel := show t.sansStops.reel = s.sansStops.reel from congrArg _ h.rest
theorem fresh (h : OnlyHolds s t) : t.fresh = s.fresh := show t.sansStops.fresh = s.sansStops.fresh from congrArg _ h.rest
theorem lc (h : OnlyHolds s t) (n : Nat) : t.lc n = s.lc n := show t.sansStops.lc n = s.sansStops.lc n from congrArg (State.lc · n) h.rest
theorem ticket (h : OnlyHolds s t) (k : Nat) : t.ticket k = s.ticket k :=
  show t.sansStops.ticket k = s.sansStops.ticket k from congrArg (State.ticket · k) h.rest
theorem acting (h : OnlyHolds s t) : t.acting = s.acting := show t.sansStops.acting = s.sansStops.acting from congrArg _ h.rest
theorem coreField {α : Type} (g : Core → α) (hg : ∀ c, g c.sansHolds = g c) (h : OnlyHolds s t) (p : Nat) :
    g (t.core p) = g (s.core p) := by rw [← hg (t.core p), ← hg (s.core p), h.core p]
theorem dieField {α : Type} (g : Die → α) (hg : ∀ c, g c.sansHolds = g c) (h : OnlyHolds s t) (d : Nat) :
    g (t.die d) = g (s.die d) := by rw [← hg (t.die d), ← hg (s.die d), h.die d]
theorem ctxField {α : Type} (g : Ctx → α) (hg : ∀ c, g c.sansHolds = g c) (h : OnlyHolds s t) (c : Nat) :
    g (t.ctx c) = g (s.ctx c) := by rw [← hg (t.ctx c), ← hg (s.ctx c), h.ctx c]
theorem map (h : OnlyHolds s t) : SameMap s t := ⟨h.pkg, fun d => ⟨h.dieField Die.home (fun _ => rfl) d, h.dieField Die.phys (fun _ => rfl) d⟩⟩
theorem carrier (h : OnlyHolds s t) (n : Nat) : t.carrier n = s.carrier n := h.map.carrier n
theorem lcOf (h : OnlyHolds s t) (p : Nat) : t.lcOf p = s.lcOf p := h.map.lcOf p
theorem lcCtx (h : OnlyHolds s t) (n : Nat) : t.lcCtx n = s.lcCtx n := by rw [State.lcCtx, h.lc]; rfl
theorem planLc (h : OnlyHolds s t) (c n : Nat) : t.planLc c n = s.planLc c n := by
  unfold State.planLc
  rw [h.ctxField Ctx.plan (fun _ => rfl)]

/-! ### What leads from one to another -/

theorem of_books (h : OnlyHolds s t) (hu : u.sansBooks = t.sansBooks) : OnlyHolds s u :=
  h.trans ⟨congrArg (fun u : State => { u with sh := { u.sh.sansHolds with ctxs := [] }, cores := [], dies := [] }) hu,
    fun c => by rw [ctx_of_sansBooks hu], fun p => by rw [core_of_sansBooks hu], fun d => by rw [die_of_sansBooks hu]⟩
theorem modCore (p : Nat) (f : Core → Core) (hf : ∀ c, (f c).sansHolds = c.sansHolds) (h : OnlyHolds s t) : OnlyHolds s (t.modCore p f) :=
  h.trans ⟨rfl, fun _ => rfl, fun q => by
    rw [modCore_core]
    split
    · next hq => rw [hq, hf]
    · rfl, fun _ => rfl⟩
theorem modDie (d : Nat) (f : Die → Die) (hf : ∀ k, (f k).sansHolds = k.sansHolds) (h : OnlyHolds s t) : OnlyHolds s (t.modDie d f) :=
  h.trans ⟨rfl, fun _ => rfl, fun _ => rfl, fun q => by
    rw [modDie_die]
    split
    · next hq => rw [hq, hf]
    · rfl⟩
theorem modSh (f : Shared → Shared) (hf : ∀ h, (f h).sansHolds = h.sansHolds) (h : OnlyHolds s t) : OnlyHolds s (t.modSh f) :=
  h.trans ⟨congrArg (fun x : Shared => { t.sansStops with sh := { x with ctxs := [] } }) (hf t.sh),
    fun c => congrArg Ctx.sansHolds (show tget {} (f t.sh).ctxs c = tget {} t.sh.ctxs c from congrArg (fun x : Shared => tget {} x.ctxs c) (hf t.sh)),
    fun _ => rfl, fun _ => rfl⟩
theorem modCtx (c : Nat) (f : Ctx → Ctx) (hf : ∀ x, (f x).sansHolds = x.sansHolds) (h : OnlyHolds s t) : OnlyHolds s (t.modCtx c f) :=
  h.trans ⟨rfl, fun q => by
    rw [modCtx_ctx]
    split
    · next hq => rw [hq, hf]
    · rfl, fun _ => rfl, fun _ => rfl⟩
theorem ite (c : Prop) [Decidable c] (h : OnlyHolds s t) (h' : OnlyHolds s u) : OnlyHolds s (if c then t else u) := by split <;> assumption
theorem each {α : Type} (l : List α) (f : State → α → State) (hf : ∀ t a, OnlyHolds s t → OnlyHolds s (f t a)) (h : OnlyHolds s t) :
    OnlyHolds s (Machine.each l f t) := each_holds (OnlyHolds s) l f t hf h

theorem emit (o : Out) (h : OnlyHolds s t) : OnlyHolds s (t.emit o) := h.of_books rfl
theorem withFelt (n : Felt) (h : OnlyHolds s t) : OnlyHolds s (t.withFelt n) := h.of_books rfl
theorem feltSend (src ty mode dst : Nat) (words : List Nat) (ring : Option Nat) (h : OnlyHolds s t) :
    OnlyHolds s (t.feltSend src ty mode dst words ring) := h.of_books (feltSend_sansBooks ..)
theorem vatSend (ty mode dst : Nat) (words : List Nat) (h : OnlyHolds s t) : OnlyHolds s (t.vatSend ty mode dst words) := h.of_books (vatSend_sansBooks ..)
theorem toVat (die ty : Nat) (words : List Nat) (h : OnlyHolds s t) : OnlyHolds s (t.toVat die ty words) := by
  unfold State.toVat
  split
  · exact h.modDie _ _ fun _ => rfl
  · exact h.feltSend ..
theorem ack (die dst ty seq status : Nat) (h : OnlyHolds s t) : OnlyHolds s (t.ack die dst ty seq status) := h.of_books (ack_sansBooks ..)
theorem mirror (h : OnlyHolds s t) : OnlyHolds s t.mirror := h.of_books (mirror_sansBooks _)
theorem mramWrite (h : OnlyHolds s t) : OnlyHolds s t.mramWrite := h.of_books (mramWrite_sansBooks _)
theorem postInt (src : Nat) (h : OnlyHolds s t) : OnlyHolds s (t.postInt src) := h.of_books (postInt_sansBooks ..)
theorem bump (src m reel : Nat) (h : OnlyHolds s t) : OnlyHolds s (t.bump src m reel).1 := h.of_books (bump_sansBooks ..)
theorem recordAt (code severity source reel : Nat) (u : Bool) (p1 p2 p3 : Nat) (h : OnlyHolds s t) :
    OnlyHolds s (t.recordAt code severity source reel u p1 p2 p3) := h.of_books (recordAt_sansBooks ..)
theorem record (code severity source p1 p2 p3 : Nat) (h : OnlyHolds s t) : OnlyHolds s (t.record code severity source p1 p2 p3) := h.recordAt ..
theorem faultRecs (src key reel : Nat) (x : Option Nat) (l : List Detail) (h : OnlyHolds s t) : OnlyHolds s (t.faultRecs src key reel x l) :=
  h.of_books (faultRecs_sansBooks ..)

theorem tapRing (p kind detail : Nat) (h : OnlyHolds s t) : OnlyHolds s (t.tapRing p kind detail) := by
  unfold State.tapRing
  exact ite _ h (h.modCore _ _ fun _ => rfl)
theorem dieRing (d kind detail : Nat) (h : OnlyHolds s t) : OnlyHolds s (t.dieRing d kind detail) := h.modDie _ _ fun _ => rfl
theorem ringHold (p key : Nat) (b : Bool) (h : OnlyHolds s t) : OnlyHolds s (t.ringHold p key b) := by
  unfold State.ringHold
  exact ite _ (h.tapRing ..) (h.tapRing ..)
theorem holdRegion (region key kind : Nat) (h : OnlyHolds s t) : OnlyHolds s (t.holdRegion region key kind) := by
  unfold State.holdRegion
  split
  · exact h.modSh _ fun _ => rfl
  · exact ite _ h (h.modSh _ fun _ => rfl)
theorem unholdRegion (region key : Nat) (h : OnlyHolds s t) : OnlyHolds s (t.unholdRegion region key) := by
  unfold State.unholdRegion
  split
  · exact h
  · have hend := h.modSh (fun h => { h with intervals := tset none h.intervals region none }) fun _ => rfl
    exact ite _ h (ite _ (ite _ ((hend.recordAt ..).recordAt ..) hend) (h.modSh _ fun _ => rfl))
theorem holdCore (p key : Nat) (h : OnlyHolds s t) : OnlyHolds s (t.holdCore p key) :=
  holdRegion _ _ _ (ite _ h (ringHold _ _ _ (h.modCore _ _ fun _ => rfl)))
theorem chargeHold (p b : Nat) (h : OnlyHolds s t) : OnlyHolds s (t.chargeHold p b) := by
  unfold State.chargeHold
  exact h.modCore _ _ fun _ => rfl
theorem unholdCore (p key : Nat) (h : OnlyHolds s t) : OnlyHolds s (t.unholdCore p key) := by
  unfold State.unholdCore
  split
  · exact h
  · exact unholdRegion _ _ (chargeHold _ _ (ringHold _ _ _ (h.modCore _ _ fun _ => rfl)))
theorem holdDie (d key kind : Nat) (h : OnlyHolds s t) : OnlyHolds s (t.holdDie d key kind) := by
  unfold State.holdDie
  exact ite _ h (ite _ h (holdRegion _ _ _ (each _ _ (fun _ _ hu => hu.ringHold ..) h)))
theorem unholdDie (d key : Nat) (h : OnlyHolds s t) : OnlyHolds s (t.unholdDie d key) := by
  unfold State.unholdDie
  split
  · exact h
  · split
    · exact h
    · exact each _ _ (fun _ _ hu => (hu.ringHold ..).chargeHold ..) (h.unholdRegion ..)
theorem setPin (src : Nat) (h : OnlyHolds s t) : OnlyHolds s (t.setPin src) := by
  unfold State.setPin
  exact ite _ h (record _ _ _ _ _ _ (mramWrite (h.modSh _ fun _ => rfl)))
theorem stopSlice (src : Nat) (h : OnlyHolds s t) : OnlyHolds s (t.stopSlice src) :=
  stopSlice_cases (P := OnlyHolds s) src h fun _ => h.modDie _ _ fun _ => rfl
theorem firstStage (d src : Nat) (l : List Detail) (h : OnlyHolds s t) : OnlyHolds s (t.firstStage d src l) := by
  unfold State.firstStage
  exact ite _ h (h.modDie _ _ fun _ => rfl)
theorem countLater (d src key : Nat) (h : OnlyHolds s t) : OnlyHolds s (t.countLater d src key) :=
  ite _ (h.firstStage ..) ((h.firstStage ..).modSh _ fun _ => rfl)
theorem sendNmi (d src : Nat) (h : OnlyHolds s t) : OnlyHolds s (t.sendNmi d src) := each _ _ (fun _ _ hu => (hu.feltSend ..).countLater ..) h
theorem holdScope (c scope : Nat) (h : OnlyHolds s t) : OnlyHolds s (t.holdScope c scope) :=
  each _ _ (fun _ _ hu => hu.vatSend ..) (ite _ (each _ _ (fun _ _ hu => hu.holdDie ..) h) (each _ _ (fun _ _ hu => hu.holdCore ..) h))
theorem brkTrigger (d c : Nat) (b : Brk) (h : OnlyHolds s t) : OnlyHolds s (t.brkTrigger d c b) := by
  unfold State.brkTrigger
  split
  · exact h.record ..
  · have hsent (x : BrkHold) := each ((t.modCtx c fun k => { k with brkHold := some x }).ctxParts c) (fun u p => u.feltSend d 0x0B 2 p [2, u.tagOf c, b.scope]) (fun _ _ hu => hu.feltSend ..)
      (h.modCtx c (fun k => { k with brkHold := some x }) fun _ => rfl)
    exact ite _ (hsent _) ((hsent _).holdScope ..)
theorem brkTriggers (d c : Nat) (p : Brk → Bool) (h : OnlyHolds s t) : OnlyHolds s (t.brkTriggers d c p) := each _ _ (fun _ _ hu => hu.brkTrigger ..) h
/-- Of the reactions to a failed check, BLK waits for the triage of the core's unit (Table 8.13). -/
theorem agentReact_check (d m : Nat) {p o : Nat} (hp : validCore p = true) (ho : o < 16) (hn : t.lcOf p ≠ none) (h : OnlyHolds s t) :
    OnlyHolds s (t.agentReact d (coreSource p o) m) := by
  have hblk {u : State} (hu : OnlyHolds t u) : OnlyHolds t (u.takeBlk (coreSource p o)) := by
    unfold State.takeBlk
    rw [classOf_coreSource hp (by omega)]
    dsimp only
    rw [if_neg (by omega), if_pos (by omega), sourceCore_coreSource hp (by omega), if_pos]
    · exact hu.modCore _ _ fun _ => rfl
    · have hlc : (u.lcOf p).isSome = true := by rw [hu.lcOf]; exact Option.isSome_iff_ne_none.mpr hn
      simp [hlc, ho]
  have hnmi : OnlyHolds t (if bit m 3 then t.sendNmi d (coreSource p o) else t) := ite _ ((refl t).sendNmi ..) (refl t)
  have hpin := ite (bit m 0 = true) (hnmi.setPin (coreSource p o)) hnmi
  exact h.trans (ite _ (hblk hpin) hpin)
/-- A check that fails on a core with a logical core is counted; BLK waits for the triage. -/
theorem agentCount_check (d : Nat) {p o : Nat} (x : Detail) (hp : validCore p = true) (ho : o < 16) (hn : t.lcOf p ≠ none) (h : OnlyHolds s t) :
    OnlyHolds s (t.agentCount d (coreSource p o) x) := by
  unfold State.agentCount
  rw [classOf_coreSource hp (by omega)]
  dsimp only
  rw [if_neg (by simp; omega)]
  have hfirst := (h.stopSlice (coreSource p o)).firstStage d (coreSource p o) [x]
  have hlc : ((t.stopSlice (coreSource p o)).firstStage d (coreSource p o) [x]).lcOf p ≠ none := by
    rwa [(((refl t).stopSlice (coreSource p o)).firstStage d (coreSource p o) [x]).lcOf]
  generalize (t.stopSlice (coreSource p o)).firstStage d (coreSource p o) [x] = u at hfirst hlc ⊢
  exact hfirst.agentReact_check _ _ hp ho hlc

end OnlyHolds

end Sys2Proof.Machine
end

section
/-! SUPPORT. Release units that open, issue steps, and the checks that stop a core (R30, R98, R123). -/

namespace Sys2Proof.Machine

section
variable {s t : State}

theorem holdCore_onlyHolds (s : State) (p key : Nat) : OnlyHolds s (s.holdCore p key) := (OnlyHolds.refl s).holdCore ..
theorem freezeCore_frozen (s : State) (p : Nat) : ((s.freezeCore p).core p).frozen = true := by
  rw [State.freezeCore, (holdCore_onlyHolds ..).coreField Core.frozen (fun _ => rfl), modCore_core, if_pos rfl]
theorem failRegs_core (p k o : Nat) (r : FailRegs) : ((s.failRegs p k o r).core p).frozen = (s.core p).frozen ∧ ((s.failRegs p k o r).core p).pstep = (s.core p).pstep := by
  unfold State.failRegs
  rw [modCore_core, if_pos rfl]
  split <;> exact ⟨rfl, rfl⟩
/-- A core that stops for a check of no open unit is frozen; no step is counted. -/
theorem failUnit_free (p n k o : Nat) (hk : (s.ticket k).state = .free) : ((s.failUnit p n k o).core p).frozen = true ∧
    ((s.failUnit p n k o).core p).pstep = (s.core p).pstep ∧ ∀ m, (s.failUnit p n k o).lc m = s.lc m := by
  unfold State.failUnit
  dsimp only
  rw [hk, if_neg nofun]
  by_cases hf : (s.core p).frozen = true
  · rw [if_pos (by simp [hf])]
    exact ⟨hf, rfl, fun _ => rfl⟩
  · rw [if_neg (by simp [hf])]
    simp only [bne_self_eq_false, Bool.false_and, Bool.false_eq_true, if_false, hf]
    have hrep (c layer oper src : Nat) : OnlyHolds (s.freezeCore p) ((s.freezeCore p).reportFault p k n c layer oper src) := (OnlyHolds.refl _).toVat ..
    refine ⟨((hrep ..).coreField Core.frozen (fun _ => rfl) p).trans (freezeCore_frozen ..), ((hrep ..).coreField Core.pstep (fun _ => rfl) p).trans ?_, fun m => ((hrep ..).lc m).trans ?_⟩
    · rw [State.freezeCore, (holdCore_onlyHolds ..).coreField Core.pstep (fun _ => rfl), modCore_core, if_pos rfl]
    · rw [State.freezeCore, (holdCore_onlyHolds ..).lc]
      rfl
theorem noteCompare_ticket (s : State) (k o m : Nat) : (s.noteCompare k o).ticket m = s.ticket m := by
  unfold State.noteCompare
  dsimp only
  split <;> rfl
theorem reportFault_onlyHolds (s : State) (p k n c layer oper src : Nat) : OnlyHolds s (s.reportFault p k n c layer oper src) := (OnlyHolds.refl s).toVat ..
theorem freezeCore_ticket (s : State) (p k : Nat) : (s.freezeCore p).ticket k = s.ticket k := (holdCore_onlyHolds ..).ticket k
/-- A failed unit is at triage, unless its ticket is free; no other ticket changes its state. -/
theorem failUnit_state (s : State) (p n k o m : Nat) : ((s.failUnit p n k o).ticket m).state =
    if m = k ∧ (s.ticket m).state ≠ .free then .triage else (s.ticket m).state := by
  unfold State.failUnit
  dsimp only
  by_cases htri : (s.ticket k).state = .triage
  · rw [if_pos htri]
    split
    · rw [(reportFault_onlyHolds ..).ticket, noteCompare_ticket, modTicket_ticket]
      split <;> simp_all
    · rw [noteCompare_ticket]
      simp_all
  · rw [if_neg htri]
    have hfrozen (u : State) : ((if (u.core p).frozen = true then u else u.freezeCore p).ticket m) = u.ticket m := by
      split
      · rfl
      · exact freezeCore_ticket ..
    have hmarks (u : State) (l : List Nat) : (each l (fun s m => s.modLc m fun l => { l with marked := insertNat n l.marked }) u).ticket m = u.ticket m :=
      each_keeps (fun u : State => u.ticket m) l _ u fun _ _ => rfl
    by_cases hfree : (s.ticket k).state = .free
    · have hsame : (if m = k ∧ (s.ticket m).state ≠ .free then TState.triage else (s.ticket m).state) = (s.ticket m).state :=
        if_neg fun ⟨hm, hne⟩ => hne (hm ▸ hfree)
      rw [hsame]
      split
      · rfl
      · rw [(reportFault_onlyHolds ..).ticket, hfrozen]
        simp [hfree]
    · rw [if_neg (by simp [hfree]), (reportFault_onlyHolds ..).ticket, hfrozen]
      have hlive : ((s.ticket k).state != .free) = true := by simpa using hfree
      rw [hlive, if_pos rfl]
      have hmark (b : Bool) (u : State) (l : List Nat) :
          (if b = true then each l (fun s m => s.modLc m fun l => { l with marked := insertNat n l.marked }) u else u).ticket m = u.ticket m := by
        split
        · exact hmarks ..
        · rfl
      refine (congrArg Ticket.state ((hmark ..).trans (((OnlyHolds.refl _).mirror).ticket m))).trans ?_
      rw [modTicket_ticket]
      split <;> simp_all
/-- A failed check of a core without an open unit freezes the core; no step is counted (R128). -/
theorem coreFail_free {p n o : Nat} (hp : validCore p = true) (ho : o < 16) (hlc : s.lcOf p = some n) (hfree : (s.ticket (s.currentUnit n)).state = .free) :
    ((s.coreFail p o).core p).frozen = true ∧ ((s.coreFail p o).core p).pstep = (s.core p).pstep ∧ ∀ m, (s.coreFail p o).lc m = s.lc m := by
  unfold State.coreFail
  rw [hlc]
  dsimp only
  rw [if_pos hfree]
  have hcount (x : Detail) : OnlyHolds s ((s.agentCount (coreDie p) (coreSource p o) x).tapRing p 1 o) :=
    ((OnlyHolds.refl s).agentCount_check _ x hp ho (by simp [hlc])).tapRing ..
  specialize hcount { ctx := (s.lcCtx n).getD 0, p2 := ((s.lc n).oper.getD (0, 0)).1, p3 := ((s.lc n).oper.getD (0, 0)).2 }
  generalize State.tapRing _ p 1 o = u at hcount ⊢
  have hregs := failRegs_core (s := u) p (s.currentUnit n) o { row := 0, a := 0, b := 0 }
  obtain ⟨hf, hps, hl⟩ := failUnit_free (s := u.failRegs p (s.currentUnit n) o { row := 0, a := 0, b := 0 }) p n (s.currentUnit n) o
    (by rw [← hfree, ← hcount.ticket]; rfl)
  exact ⟨hf, (hps.trans hregs.2).trans (hcount.coreField Core.pstep (fun _ => rfl) p), fun m => (hl m).trans (hcount.lc m)⟩

/-! ## Steps -/

theorem setStall_core (p reason : Nat) (aw : Option Nat) : ((s.setStall p reason aw).core p).stallNow = reason ∧
    ((s.setStall p reason aw).core p).pstep = (s.core p).pstep ∧ ((s.setStall p reason aw).core p).busy = (s.core p).busy := by
  unfold State.setStall
  dsimp only
  split
  · next h => exact ⟨by simp_all, rfl, rfl⟩
  · rw [modCore_core, if_pos rfl]
    exact ⟨rfl, rfl, rfl⟩
theorem setStall_lc (p reason : Nat) (aw : Option Nat) (n : Nat) : (s.setStall p reason aw).lc n = s.lc n := by
  unfold State.setStall
  dsimp only
  split <;> rfl
theorem setStall_ticket (p reason : Nat) (aw : Option Nat) (n : Nat) : (s.setStall p reason aw).ticket n = s.ticket n := by
  unfold State.setStall
  dsimp only
  split <;> rfl
/-- A step within the limits of Table 5.3 breaches nothing. -/
theorem stepLimits_within {p c n old : Nat} (hstep : (s.lc n).lstep = old + 1) (hpress : old - (s.lc n).extra ≠ (s.lc n).lastPress + 131072)
    (htick : ∀ k ∈ lcTickets n, (s.ticket k).state = .opened → (s.ticket k).doneAt = none → old - (s.lc n).extra ≠ (s.ticket k).start + 131072) :
    s.stepLimits p c n old = s := by
  have hreach (v : Nat) (hv : old - (s.lc n).extra ≠ v + 131072) : reaches (old - (s.lc n).extra) (s.lc n).planSteps (v + 131073) = false := by
    simp only [reaches, Lc.planSteps, hstep, Bool.and_eq_false_iff, decide_eq_false_iff_not]
    omega
  have hlate : ((lcTickets n).filter fun t => (s.ticket t).state == .opened && (s.ticket t).doneAt.isNone &&
      reaches (old - (s.lc n).extra) (s.lc n).planSteps ((s.ticket t).start + 131073)) = [] := by
    rw [List.filter_eq_nil_iff]
    intro k hk hall
    simp only [Bool.and_eq_true, beq_iff_eq, Option.isNone_iff_eq_none] at hall
    obtain ⟨⟨hopen, hdone⟩, hr⟩ := hall
    exact Bool.false_ne_true ((hreach _ (htick k hk hopen hdone)).symm.trans hr)
  unfold State.stepLimits
  dsimp only
  rw [hlate]
  change (if reaches (old - (s.lc n).extra) (s.lc n).planSteps ((s.lc n).lastPress + 131073) = true then _ else s) = s
  rw [hreach _ hpress, if_neg nofun]
theorem runAgain_onlyHolds (p c n old : Nat) : OnlyHolds s (s.runAgain p c n old) := by
  unfold State.runAgain
  split
  · have hheld (q : Nat) : OnlyHolds s ((s.modCore p fun k => { k with runTo := none }).holdCore p (brkKey q)) :=
      .holdCore _ _ (.modCore _ _ (fun _ => rfl) (.refl s))
    dsimp only
    split
    · exact (hheld _).modCtx _ _ fun _ => rfl
    · exact hheld _
  · exact .refl s
theorem advanced_within {p c n old : Nat} (hstep : (s.lc n).lstep = old + 1) (hpress : old - (s.lc n).extra ≠ (s.lc n).lastPress + 131072)
    (htick : ∀ k ∈ lcTickets n, (s.ticket k).state = .opened → (s.ticket k).doneAt = none → old - (s.lc n).extra ≠ (s.ticket k).start + 131072) :
    OnlyHolds s (s.advanced p c n old) := by
  unfold State.advanced
  rw [stepLimits_within hstep hpress htick]
  exact ((OnlyHolds.refl s).brkTriggers ..).trans (runAgain_onlyHolds ..)
/-- A step has been counted, before what follows from the count. -/
def State.stepCounted (s : State) (p n : Nat) (work : Bool) : State :=
  ((s.setStall p 0 none).modCore p fun k =>
    { k with pstep := (k.pstep + 1) % 2 ^ 64, busy := satAdd 64 k.busy (b2n work), idle := satAdd 64 k.idle (b2n !work), lastIssue := s.now, krmWaits := 0,
             hangCheck := false, relaxed := tget false s.pkg.relaxed (s.partOf (coreDie p)) }).modLc n
    fun l => { l with lstep := (l.lstep + 1) % 2 ^ 64, xwaitSince := none }
theorem stepCounted_lc (p n : Nat) (work : Bool) (hl : (s.lc n).lstep + 1 < 2 ^ 64) :
    (s.stepCounted p n work).lc n = { s.lc n with lstep := (s.lc n).lstep + 1, xwaitSince := none } := by
  rw [State.stepCounted, modLc_lc, if_pos rfl, modCore_lc, setStall_lc, Nat.mod_eq_of_lt hl]
theorem stepCounted_core (p n : Nat) (work : Bool) (hp : (s.core p).pstep + 1 < 2 ^ 64) : ((s.stepCounted p n work).core p).pstep = (s.core p).pstep + 1 ∧
    ((s.stepCounted p n work).core p).busy = satAdd 64 (s.core p).busy (b2n work) ∧ ((s.stepCounted p n work).core p).stallNow = 0 := by
  obtain ⟨hstall, hps, hbusy⟩ := setStall_core (s := s) p 0 none
  rw [State.stepCounted, modLc_core, modCore_core, if_pos rfl]
  exact ⟨by rw [hps, Nat.mod_eq_of_lt hp], by rw [hbusy], hstall⟩
theorem stepCounted_ticket (p n k : Nat) (work : Bool) : (s.stepCounted p n work).ticket k = s.ticket k := setStall_ticket ..
theorem completeStep_eq (p c n : Nat) (kind : StepKind) : s.completeStep p c n kind false =
    (s.stepCounted p n (decide (kind = .scheduled))).advanced p c n (s.lc n).lstep := by
  unfold State.completeStep State.stepCounted
  dsimp only
  rw [if_neg Bool.false_ne_true, modCore_lc, setStall_lc]
/-- What a step within its limits leaves is the count and holds. -/
theorem completeStep_within {p c n : Nat} {kind : StepKind} (hl : (s.lc n).lstep + 1 < 2 ^ 64) (hpress : (s.lc n).planSteps ≠ (s.lc n).lastPress + 131072)
    (htick : ∀ k ∈ lcTickets n, (s.ticket k).state = .opened → (s.ticket k).doneAt = none → (s.lc n).planSteps ≠ (s.ticket k).start + 131072) :
    OnlyHolds (s.stepCounted p n (decide (kind = .scheduled))) (s.completeStep p c n kind false) := by
  have hlc := stepCounted_lc p n (decide (kind = .scheduled)) hl
  rw [completeStep_eq]
  refine advanced_within ?_ ?_ fun k hk hopen hdone => ?_
  · rw [hlc]
  · rw [hlc]
    exact hpress
  · rw [stepCounted_ticket] at hopen hdone ⊢
    rw [hlc]
    exact htick k hk hopen hdone

/-! ## Release units that open -/

theorem passPoints_spec (s : State) (c layer oper : Nat) : (∃ l, s.passPoints c layer oper = { s with sh := { s.sh with ctxs := l } }) ∧
    ∀ q, ((s.passPoints c layer oper).ctx q).plan = (s.ctx q).plan := by
  unfold State.passPoints
  split
  · exact ⟨⟨_, rfl⟩, fun _ => rfl⟩
  · dsimp only
    split
    · exact ⟨⟨_, rfl⟩, fun _ => rfl⟩
    · split
      · refine ⟨⟨_, rfl⟩, fun q => ?_⟩
        rw [modCtx_ctx]
        split
        · next hq => rw [hq]
        · rfl
      · exact ⟨⟨_, rfl⟩, fun _ => rfl⟩
/-- What an operator's begin leaves: the map, the plans, the tickets, the sequencers, and the logical core's counts. -/
structure OperBegun (s t : State) (n : Nat) : Prop where
  map : SameMap s t
  plan : ∀ c, (t.ctx c).plan = (s.ctx c).plan
  seqNow : ∀ q, (t.core q).seqNow = (s.core q).seqNow
  lstep : (t.lc n).lstep = (s.lc n).lstep
  rseq : (t.lc n).rseq = (s.lc n).rseq
theorem beginOper_spec (p c n layer oper : Nat) : OperBegun s ((s.beginOper p c n layer oper).passPoints c layer oper) n := by
  have hbegin : OperBegun s (s.beginOper p c n layer oper) n := by
    unfold State.beginOper
    split
    · exact ⟨⟨rfl, fun _ => ⟨rfl, rfl⟩⟩, fun _ => rfl, fun _ => rfl, rfl, rfl⟩
    · have hbrk (u : State) (b : Brk → Bool) : OnlyHolds u (u.brkTriggers (coreDie p) c b) := (OnlyHolds.refl u).brkTriggers ..
      refine ⟨(hbrk ..).map, fun q => (hbrk ..).ctxField Ctx.plan (fun _ => rfl) q, fun q => (hbrk ..).coreField Core.seqNow (fun _ => rfl) q, ?_, ?_⟩
      · rw [(hbrk ..).lc]
        simp [State.profStart]
      · rw [(hbrk ..).lc]
        simp [State.profStart]
  obtain ⟨⟨l, hl⟩, hplan⟩ := passPoints_spec (s.beginOper p c n layer oper) c layer oper
  refine ⟨?_, fun q => (hplan q).trans (hbegin.plan q), ?_, ?_, ?_⟩
  · rw [hl]; exact hbegin.map
  · rw [hl]; exact hbegin.seqNow
  · rw [hl]; exact hbegin.lstep
  · rw [hl]; exact hbegin.rseq
/-- A unit whose results stay on their die compares nothing across dies. -/
theorem crossPart_of_peers {c n : Nat} {d : List Nat} (h : ∀ m ∈ s.checkPeers c d, s.lcDie m = s.lcDie n) (part : Nat) : s.crossPart c n d part = false := by
  unfold State.checkPeers at h
  unfold State.crossPart
  split
  · by_cases hg : descGate d = true
    · simp [hg, h (descGateLc d) (by simp [hg])]
    · simp [hg]
  · split
    · next h2 => simp [h (descDupLc d) (by simp [h2])]
    · by_cases hg : descGroup d = true
      · have hanchor := h (descAnchor d) (by simp [hg])
        simp only [hg, Bool.true_and, List.any_eq_false, bne_iff_ne, ne_eq, not_not]
        exact fun m hm => (h m (by simp [hg, hm])).trans hanchor.symm
      · simp [hg]
theorem crossPart_congr {t : State} (hm : SameMap s t) (hp : ∀ c, (t.ctx c).plan = (s.ctx c).plan) (c n : Nat) (d : List Nat) (part : Nat) :
    t.crossPart c n d part = s.crossPart c n d part := by
  have hdie : t.lcDie = s.lcDie := funext fun m => by
    unfold State.lcDie State.homeDie
    rw [hm.carrier, hm.homeSlot]
  have hlcs (a l o : Nat) : t.groupLcs c a l o = s.groupLcs c a l o := by
    unfold State.groupLcs
    rw [hp]
  unfold State.crossPart
  rw [hdie, hlcs]

theorem planned_of_carries {p n c : Nat} (h : s.carries p n c) : s.planned n = some c := by
  obtain ⟨-, -, -, hctx, hplan⟩ := h
  simp [State.planned, hctx, Option.isSome_iff_ne_none, hplan]

end

/-- Settles O19. -/
theorem issueEventsComplete : Obligations.IssueEventsComplete := by
  refine ⟨?_, ?_, ?_, ?_, ?_⟩
  · intro s p n c k i spec last e d hcar hiss hstop hstall hspan hk hplan hd hok hpeers
    obtain ⟨hp, hlc, hcarr, hctx, hpl⟩ := id hcar
    refine ⟨_, guardId_of_true hp, ?_⟩
    rw [hlc]
    dsimp only
    rw [planned_of_carries hcar]
    dsimp only
    rw [if_neg (by simp [hiss, hstop, hstall]), hspan]
    simp only [Bool.false_eq_true, if_false, hk]
    have hdesc : ((s.planLc c n).bind fun e => e.descs[i]?) = some d := by rw [hplan]; exact hd
    have hbegun := beginOper_spec (s := s) p c n (descLayer d) (descOper d)
    have hlcd : s.lcDie n = coreDie p := by simp [State.lcDie, hcarr]
    have hcross (part : Nat) := (crossPart_congr hbegun.map hbegun.plan c n d part).trans (crossPart_of_peers (by rw [hlcd]; exact hpeers) part)
    unfold State.openUnit
    rw [hdesc]
    dsimp only [Option.getD_some]
    rw [if_neg (by simp [hok]), if_neg (by simp [hcross])]
    simp only [modCore_ticket, modLc_ticket, modTicket_ticket, modCore_lc, modLc_lc, modTicket_lc, modCore_core, modLc_core, modTicket_core, if_true,
      hbegun.lstep, hbegun.rseq, hbegun.seqNow, tget_tset,
      and_self]
  · intro s p n c a b hcar hiss hstop hstall hseq hl hps hpress htick
    obtain ⟨hp, hlc, hcarr, hctx, hpl⟩ := id hcar
    refine ⟨_, guardId_of_true hp, ?_⟩
    rw [if_neg nofun, hlc]
    dsimp only
    rw [planned_of_carries hcar]
    dsimp only
    rw [if_neg (by simp [hiss, hstop, hstall]), if_neg (by simpa using hseq)]
    have honly := completeStep_within (s := s.modCore p fun k => { k with seqNow := a }) (p := p) (c := c) (kind := .scheduled) hl hpress htick
    have hcore : (s.modCore p fun k => { k with seqNow := a }).core p = { s.core p with seqNow := a } := (modCore_core ..).trans (if_pos rfl)
    obtain ⟨hpstep, hbusy, hst⟩ := stepCounted_core (s := s.modCore p fun k => { k with seqNow := a }) p n true (by rw [hcore]; exact hps)
    rw [hcore] at hpstep hbusy
    refine ⟨?_, (honly.coreField Core.pstep (fun _ => rfl) p).trans hpstep, (honly.coreField Core.busy (fun _ => rfl) p).trans hbusy, (honly.coreField Core.stallNow (fun _ => rfl) p).trans hst⟩
    rw [honly.lc, stepCounted_lc (s := s.modCore p fun k => { k with seqNow := a }) p n _ hl]
    rfl
  · intro s p n c a b hcar hiss hstop hstall hseq hne hfree
    obtain ⟨hp, hlc, hcarr, hctx, hpl⟩ := id hcar
    refine ⟨_, guardId_of_true hp, ?_⟩
    rw [if_neg nofun, hlc]
    dsimp only
    rw [planned_of_carries hcar]
    dsimp only
    rw [if_neg (by simp [hiss, hstop, hstall]), if_pos (by simp [hseq, hne])]
    obtain ⟨hf, hps, hl⟩ := coreFail_free hp (o := 0) (by omega) hlc hfree
    exact ⟨by rw [hl], hps, hf⟩
  · intro s p n c hcar hfree
    obtain ⟨hp, hlc, hcarr, hctx, hpl⟩ := id hcar
    refine ⟨_, guardId_of_true hp, ?_⟩
    exact (coreFail_free hp (by omega) hlc hfree).1
  · intro s p n c hcar hcalm
    obtain ⟨hp, hlc, hcarr, hctx, hpl⟩ := id hcar
    refine ⟨_, guardId_of_true hp, fun k hk hst => ?_⟩
    unfold State.ticketState
    rw [hlc]
    dsimp only
    have hcount (x : Detail) (m : Nat) : (s.agentCount (coreDie p) (coreSource p 32) x).ticket m = s.ticket m := by
      obtain ⟨l, hl⟩ := agentCount_dies hcalm (coreDie p) x
      rw [hl]
      rfl
    refine each_sets (a := k) (fun u : State => (u.ticket k).state ≠ .free) (fun u => (u.ticket k).state = .triage) (fun u m hu => ?_) (fun u hu => ?_)
      (fun u m _ hu => ?_) _ _ ?_ ?_
    · rw [failUnit_state]
      split
      · exact nofun
      · exact hu
    · rw [failUnit_state, if_pos ⟨rfl, hu⟩]
    · rw [failUnit_state, hu, ite_self]
    · simpa [hcount, hk] using hst
    · rw [hcount]
      obtain h | h := hst <;> rw [h] <;> exact nofun

end Sys2Proof.Machine
end

section
/-! SUPPORT. A unit that fails a check, a unit whose checks are complete, and what the close of a ticket leaves of the tickets (R30, R130, R159, R160). -/

namespace Sys2Proof.Machine

/-- The failure registers of a tap (R497). -/
def Core.regs (c : Core) : Bool × Nat × Nat × Nat × Nat × Nat × Nat × Option Nat :=
  (c.failValid, c.failPrimary, c.failCodes, c.failTicket, c.failRow, c.failA, c.failB, c.failUnit)
/-- A ticket without its count of transfers that have left. -/
def Ticket.entry (k : Ticket) : Ticket := { k with sent := 0 }

/-- From `s` to `t` no ticket has changed, but for its count of transfers. -/
structure SameEntries (s t : State) : Prop where
  entry : ∀ m, (t.ticket m).entry = (s.ticket m).entry

namespace SameEntries
variable {s t u : State}

theorem refl (s : State) : SameEntries s s := ⟨fun _ => rfl⟩
theorem trans (h : SameEntries s t) (h' : SameEntries t u) : SameEntries s u := ⟨fun m => (h'.entry m).trans (h.entry m)⟩
theorem state (h : SameEntries s t) (m : Nat) : (t.ticket m).state = (s.ticket m).state := show (t.ticket m).entry.state = _ by rw [h.entry]; rfl
theorem last (h : SameEntries s t) (m : Nat) : (t.ticket m).last = (s.ticket m).last := show (t.ticket m).entry.last = _ by rw [h.entry]; rfl
theorem of_same (h : SameEntries s t) (hu : ∀ m, u.ticket m = t.ticket m) : SameEntries s u := h.trans ⟨fun m => by rw [hu]⟩
theorem of_tickets (h : SameEntries s t) (hu : u.sh.tickets = t.sh.tickets) : SameEntries s u :=
  h.of_same fun m => show tget {} u.sh.tickets m = tget {} t.sh.tickets m by rw [hu]
theorem of_sansHolds (h : SameEntries s t) (hu : u.sansHolds = t.sansHolds) : SameEntries s u := h.of_same (ticket_of_sansHolds hu)
theorem modLc (n : Nat) (f : Lc → Lc) (h : SameEntries s t) : SameEntries s (t.modLc n f) := h.of_tickets rfl
theorem modCtx (n : Nat) (f : Ctx → Ctx) (h : SameEntries s t) : SameEntries s (t.modCtx n f) := h.of_tickets rfl
theorem modDie (n : Nat) (f : Die → Die) (h : SameEntries s t) : SameEntries s (t.modDie n f) := h.of_tickets rfl
theorem modReplica (n : Nat) (f : Replica → Replica) (h : SameEntries s t) : SameEntries s (t.modReplica n f) := h.of_tickets rfl
theorem emit (o : Out) (h : SameEntries s t) : SameEntries s (t.emit o) := h.of_tickets rfl
theorem ite (c : Prop) [Decidable c] (h : SameEntries s t) (h' : SameEntries s u) : SameEntries s (if c then t else u) := by split <;> assumption
theorem each {α : Type} (l : List α) (f : State → α → State) (hf : ∀ t a, SameEntries s t → SameEntries s (f t a)) (h : SameEntries s t) :
    SameEntries s (Machine.each l f t) := each_holds (SameEntries s) l f t hf h
theorem mirror (h : SameEntries s t) : SameEntries s t.mirror := h.of_same (OnlyHolds.refl t).mirror.ticket
theorem toVat (d ty : Nat) (w : List Nat) (h : SameEntries s t) : SameEntries s (t.toVat d ty w) :=
  h.of_same ((OnlyHolds.refl t).toVat d ty w).ticket
theorem tapRing (p kind x : Nat) (h : SameEntries s t) : SameEntries s (t.tapRing p kind x) :=
  h.of_same ((OnlyHolds.refl t).tapRing p kind x).ticket
theorem setStall (p r : Nat) (a : Option Nat) (h : SameEntries s t) : SameEntries s (t.setStall p r a) :=
  h.of_same fun _ => setStall_ticket ..
/-- A count that a die's records give is only counted there. -/
theorem checkTotal_die (d total : Nat) (r : DigestRec) (x : Detail) (h : SameEntries s t) : SameEntries s (t.checkTotal (some d) total r x) :=
  ite _ (h.of_sansHolds (agentCount_pkgSource_sansHolds t d 2 x (by omega))) h

/-! ### The end of an operator's execution -/

theorem sendPart (c i j d : Nat) (h : SameEntries s t) : SameEntries s (t.sendPart c i j d) := (h.checkTotal_die ..).toVat ..
/-- A comparison that no die takes part in is formed of nothing, which counts nothing. -/
theorem beginCompare (c i : Nat) (h : SameEntries s t) : SameEntries s (t.beginCompare c i) := by
  unfold State.beginCompare
  dsimp only
  generalize hu : Machine.each _ (fun (v : State) d => v.sendPart c i _ d) _ = u
  have hsent : SameEntries s u := hu ▸ each _ _ (fun _ _ hv => hv.sendPart ..) (h.modReplica ..)
  have hrep : (u.ctx c).replica.map Replica.parts = (t.ctx c).replica.map fun _ => [] := by
    rw [← hu, ctx_of_sansHolds (each_sansHolds _ _ _ fun t d => sendPart_sansHolds ..), modReplica_ctx]
    cases (t.ctx c).replica <;> rfl
  cases ho : (u.ctx c).replica with
  | none =>
    unfold State.formReplica
    rwa [ho]
  | some o =>
    have hparts : o.parts = [] := by
      rw [ho] at hrep
      cases hr : (t.ctx c).replica <;> simp_all
    obtain hform | ⟨r, hform⟩ := formReplica_of_no_parts ho hparts <;> rw [hform]
    · exact hsent
    · exact (mirror (hsent.modReplica ..)).emit _
theorem iterate (c : Nat) (h : SameEntries s t) : SameEntries s (t.iterate c) := by
  have hdrop {u : State} (hu : SameEntries s u) : SameEntries s (u.dropRepl c) := each _ _ (fun _ _ hv => hv.modDie ..) hu
  have hnext := mirror (h.modCtx c fun x => { x with iter := ((t.ctx c).iter + 1) % 2 ^ 32, point := 0, updOps := [] })
  unfold State.iterate
  dsimp only
  split
  · exact ite _ (hnext.beginCompare ..) (hdrop hnext)
  · exact hdrop hnext
theorem opComplete (c layer oper pass : Nat) (h : SameEntries s t) : SameEntries s (t.opComplete c layer oper pass) := by
  unfold State.opComplete
  dsimp only
  split
  · exact ite _ (ite _ (iterate _ ((h.modCtx ..).modCtx ..)) ((h.modCtx ..).modCtx ..)) (h.modCtx ..)
  · exact h.modCtx ..
theorem sendWm (c d : Nat) (h : SameEntries s t) : SameEntries s (t.sendWm c d) :=
  each _ _ (fun _ _ hu => ((ite _ ((hu.modDie ..).checkTotal_die ..) (hu.modDie ..)).modCtx ..).toVat ..) h
theorem dieShard (c n layer oper : Nat) (r : DigestRec) (h : SameEntries s t) : SameEntries s (t.dieShard c n layer oper r) :=
  ite _ ((ite _ h (h.modDie ..)).modDie ..) (ite _ h (h.modDie ..))
theorem endOper (c n layer oper pass : Nat) (h : SameEntries s t) : SameEntries s (t.endOper c n layer oper pass) := by
  have hprof {u : State} (hu : SameEntries s u) : SameEntries s (match u.carrier n with | some p => u.profFlush p n layer oper 1 | none => u) := by
    split
    · exact hu.of_tickets rfl
    · exact hu
  exact ite _ (hprof (h.modLc ..)) (ite _ (opComplete _ _ _ _ (sendWm _ _ (dieShard _ _ _ _ _ (modCtx _ _ (hprof (h.modLc ..))))))
    (sendWm _ _ (dieShard _ _ _ _ _ (modCtx _ _ (hprof (h.modLc ..))))))
theorem endIfLast (k : Ticket) (h : SameEntries s t) : SameEntries s (t.endIfLast k) := ite _ (h.endOper ..) h

/-! ### The press boundary and the gate -/

theorem moveBoundary (n : Nat) (h : SameEntries s t) : SameEntries s (t.moveBoundary n) := by
  unfold State.moveBoundary
  split
  · exact h
  · exact h.modLc ..
theorem movePress (k c n : Nat) (h : SameEntries s t) : SameEntries s (State.movePress k t c n) := by
  induction k generalizing t with
  | zero => exact h
  | succ k ih =>
    unfold State.movePress
    exact ite _ (ite _ (ih (h.moveBoundary n)) h) (ite _ (ih (each _ _ (fun _ _ hu => hu.moveBoundary _) (h.modCtx ..))) h)
theorem hostReady (c n status : Nat) (h : SameEntries s t) : SameEntries s (t.hostReady c n status) := by
  unfold State.hostReady
  split
  · exact h
  · exact each _ _ (fun _ _ hu => hu.emit _) ((h.modCtx ..).modCtx ..)
theorem letGo (p c n : Nat) (x : GateXfer) (h : SameEntries s t) : SameEntries s (t.letGo p c n x) := by
  have hsent {u : State} (hu : SameEntries s u) : SameEntries s
      (match x.ticket with | some t => u.modTicket t fun k => { k with sent := if k.state = .free then k.sent else k.sent + 1 } | none => u) := by
    split
    · refine hu.trans ⟨fun m => ?_⟩
      rw [modTicket_ticket]
      split
      · next hm => rw [hm]; rfl
      · rfl
    · exact hu
  exact ite _ (hostReady _ _ _ (hsent (ite _ ((h.emit _).emit _) (h.emit _)))) (hsent (ite _ ((h.emit _).emit _) (h.emit _)))
theorem drainGate (c n : Nat) (h : SameEntries s t) : SameEntries s (t.drainGate c n) := by
  unfold State.drainGate
  split
  · exact h
  · exact ite _ h (each _ _ (fun _ _ hu => hu.letGo ..) (h.modLc ..))
theorem endTicketStall (n k : Nat) (h : SameEntries s t) : SameEntries s (t.endTicketStall n k) := by
  unfold State.endTicketStall
  split
  · exact ite _ (h.setStall ..) h
  · exact h
theorem foldPartial (k : Nat) (f : DigestRec → DigestRec) (h : SameEntries s t) : SameEntries s (t.foldPartial k f) := h.of_tickets rfl
theorem foldUnit (k : Nat) (b : Bool) (h : SameEntries s t) : SameEntries s (t.foldUnit k b) := by
  unfold State.foldUnit
  dsimp only
  split
  · exact (h.foldPartial ..).checkTotal_die ..
  · exact h.foldPartial ..

end SameEntries

section
variable {s t : State}

theorem modTicket_self (k : Nat) (f : Ticket → Ticket) : (s.modTicket k f).ticket k = f (s.ticket k) := (modTicket_ticket ..).trans (if_pos rfl)

/-- A ticket that closes as passed is free, with that outcome. -/
theorem closeTicket_passed {k last : Nat} (hk : (s.ticket k).state ≠ .free) (hl : last = 1 ∨ last = 2) :
    ((s.closeTicket k last).ticket k).state = .free ∧ ((s.closeTicket k last).ticket k).last = last := by
  unfold State.closeTicket
  rw [if_neg hk]
  dsimp only
  have hne : ¬ 4 ≤ last ∧ last ≠ 3 ∧ last ≠ 4 ∧ last ≠ 6 ∧ last ≤ 3 := by omega
  obtain ⟨h4, hn3, hn4, hn6, hle⟩ := hne
  have hpass : (decide (last = 1) || decide (last = 2)) = true := by simpa using hl
  rw [if_pos hpass, if_neg hn3, if_neg h4, if_neg hn4, if_neg hn6, if_pos hle]
  have hset := modTicket_self (s := s) k fun k =>
    { k with state := .free, last := last, primary := 0, checks := k.checks &&& 32, codes := 0, replaying := false, skip := 0, rows := none, released := false }
  generalize s.modTicket k _ = u at hset ⊢
  have hring {v : State} (hv : SameEntries u v) (x : Nat) : SameEntries u (match v.carrier (s.ticket k).lc with | some p => v.tapRing p 2 x | none => v) := by
    split
    · exact hv.tapRing ..
    · exact hv
  have hend {v : State} (hv : SameEntries u v) : SameEntries u (if (decide (last = 4) || decide (last = 5)) = true then v else v.endIfLast (s.ticket k)) :=
    .ite _ hv (hv.endIfLast _)
  have hclosed (w : State) (hw : SameEntries u w) : (w.ticket k).state = .free ∧ (w.ticket k).last = last :=
    ⟨(hw.state k).trans (congrArg Ticket.state hset), (hw.last k).trans (congrArg Ticket.last hset)⟩
  refine hclosed _ (.ite _ (.mirror ?_) ?_) <;>
    exact .drainGate _ _ (.movePress _ _ _ (.modLc _ _ (hend (.endTicketStall _ _ (.modLc _ _ (.modLc _ _ (.foldUnit _ _ (hring (.refl u) _))))))))
/-- A part of the checks of a unit without a detection that holds it completes: with every part the ticket closes as passed. -/
theorem partDone_ended {k : Nat} (m : Nat) (hk : (s.ticket k).state = .opened ∨ (s.ticket k).state = .await) (hc : (s.ticket k).codes = 0) :
    s.partEnded (s.partDone k m) k m := by
  unfold State.partDone
  rw [if_pos (by simpa using hk)]
  dsimp only
  have hfree : (s.ticket k).state ≠ .free := by obtain h | h := hk <;> rw [h] <;> exact nofun
  have hself := modTicket_self (s := s) k fun x => { x with
    checks := (s.ticket k).checks ||| m
    state := if ((s.ticket k).remote && (unitNeeds (s.unitDesc k) (s.ticket k).spec % 8 &&& ((s.ticket k).checks ||| m) ==
      unitNeeds (s.unitDesc k) (s.ticket k).spec % 8 && (descLevel (s.unitDesc k) != 2 || (s.ticket k).ends == 3))) = true then .await else x.state }
  generalize s.modTicket k _ = u at hself ⊢
  by_cases hn : unitNeeds (s.unitDesc k) (s.ticket k).spec &&& ((s.ticket k).checks ||| m) = unitNeeds (s.unitDesc k) (s.ticket k).spec
  · rw [State.partEnded, if_pos hn, if_pos (by simp [hn, hc, bit])]
    refine closeTicket_passed ?_ (by split <;> simp)
    rw [hself]
    dsimp only
    split
    · exact nofun
    · exact hfree
  · rw [State.partEnded, if_neg hn, if_neg (by simp [hn])]
    have hsame : SameEntries u (if m = 16 then u.drainGate (s.ticket k).ctx (s.ticket k).lc else u) := .ite _ (.drainGate _ _ (.refl u)) (.refl u)
    have hchecks := congrArg Ticket.checks (hsame.entry k)
    exact hchecks.trans (congrArg Ticket.checks hself)

/-! ## A unit that fails a check -/

theorem freezeCore_regs (s : State) (p : Nat) : ((s.freezeCore p).core p).frozen = true ∧ ((s.freezeCore p).core p).regs = (s.core p).regs := by
  refine ⟨freezeCore_frozen .., ?_⟩
  rw [State.freezeCore, (holdCore_onlyHolds ..).coreField Core.regs (fun _ => rfl), modCore_core, if_pos rfl]
  rfl
/-- An open unit that fails is in triage with that cause, and its core is frozen. -/
theorem failUnit_live {p n k o : Nat} (hk : (s.ticket k).state = .opened ∨ (s.ticket k).state = .await) :
    (s.failUnit p n k o).triaged p k o ∧ ((s.failUnit p n k o).core p).regs = (s.core p).regs := by
  have hne : (s.ticket k).state ≠ .triage ∧ (s.ticket k).state ≠ .free := by obtain h | h := hk <;> rw [h] <;> exact ⟨nofun, nofun⟩
  have hlive : ((s.ticket k).state != .free) = true := by simpa using hne.2
  have hself := modTicket_self (s := s) k fun k => { k with state := .triage, primary := o }
  have hmirror := (OnlyHolds.refl (s.modTicket k fun k => { k with state := .triage, primary := o })).mirror
  have hmarks (b : Bool) (u : State) (l : List Nat) :
      (if b = true then each l (fun s m => s.modLc m fun l => { l with marked := insertNat n l.marked }) u else u).ticket k = u.ticket k ∧
      (if b = true then each l (fun s m => s.modLc m fun l => { l with marked := insertNat n l.marked }) u else u).core p = u.core p := by
    split
    · exact ⟨each_keeps (fun u : State => u.ticket k) l _ u fun _ _ => rfl, each_keeps (fun u : State => u.core p) l _ u fun _ _ => rfl⟩
    · exact ⟨rfl, rfl⟩
  have hfrozen (u : State) (c layer oper src : Nat) (htri : (u.ticket k).state = .triage ∧ (u.ticket k).primary = o) (hregs : (u.core p).regs = (s.core p).regs) :
      ((if (u.core p).frozen = true then u else u.freezeCore p).reportFault p k n c layer oper src).triaged p k o ∧
      (((if (u.core p).frozen = true then u else u.freezeCore p).reportFault p k n c layer oper src).core p).regs = (s.core p).regs := by
    rw [State.triaged, (reportFault_onlyHolds ..).ticket, (reportFault_onlyHolds ..).coreField Core.frozen (fun _ => rfl), (reportFault_onlyHolds ..).coreField Core.regs (fun _ => rfl)]
    by_cases hf : (u.core p).frozen = true
    · rw [if_pos hf]
      exact ⟨⟨htri.1, htri.2, hf⟩, hregs⟩
    · rw [if_neg hf, freezeCore_ticket]
      obtain ⟨hfr, hre⟩ := freezeCore_regs u p
      exact ⟨⟨htri.1, htri.2, hfr⟩, hre.trans hregs⟩
  unfold State.failUnit
  rw [if_neg hne.1, if_neg (by simp [hne.2]), hlive]
  refine hfrozen _ _ _ _ _ ?_ ?_
  · rw [(hmarks ..).1, if_pos rfl, hmirror.ticket, hself]
    exact ⟨rfl, rfl⟩
  · rw [(hmarks ..).2, if_pos rfl, hmirror.coreField Core.regs (fun _ => rfl)]
    rfl
/-- A check of a unit fails: the unit is in triage with that cause, and the failure registers hold it unless they held one of the unit. -/
theorem checkFail_open {p k o : Nat} (r : FailRegs) (hp : validCore p = true) (hlc : s.lcOf p ≠ none) (hcarr : s.carrier (s.ticket k).lc = some p)
    (hst : (s.ticket k).state = .opened ∨ (s.ticket k).state = .await) (hcodes : (s.ticket k).codes = 0) (ho : o < 16) :
    (s.checkFail k o r).triaged p k o ∧ ((s.core p).failUnit ≠ some k → ((s.checkFail k o r).core p).failPrimary = o ∧
      ((s.checkFail k o r).core p).failRow = r.row ∧ ((s.checkFail k o r).core p).failA = r.a) := by
  have hne : (s.ticket k).state ≠ .free := by obtain h | h := hst <;> rw [h] <;> exact nofun
  unfold State.checkFail
  dsimp only
  rw [hcarr]
  dsimp only
  rw [if_neg (by simp [hne, hcodes, bit])]
  have hcount (x : Detail) : OnlyHolds s ((s.agentCount (coreDie p) (coreSource p o) x).tapRing p 1 (o + k % 16 * 64)) :=
    ((OnlyHolds.refl s).agentCount_check _ x hp ho hlc).tapRing ..
  specialize hcount { ctx := (s.ticket k).ctx, p2 := (s.ticket k).layer, p3 := (s.ticket k).oper }
  generalize State.tapRing _ p 1 _ = u at hcount ⊢
  have hstate : ((((u.failRegs p k o r).modTicket k fun k => { k with codes := k.codes ||| 2 ^ o, replayCodes := k.replayCodes ||| 2 ^ o })).ticket k).state =
      (s.ticket k).state := by
    rw [modTicket_self, ← hcount.ticket]
    rfl
  obtain ⟨htri, hregs⟩ := failUnit_live (p := p) (n := (s.ticket k).lc) (o := o) (by rwa [hstate])
  refine ⟨htri, fun hunit => ?_⟩
  rw [← hcount.coreField Core.failUnit (fun _ => rfl)] at hunit
  have hset : ((u.failRegs p k o r).core p).failPrimary = o ∧ ((u.failRegs p k o r).core p).failRow = r.row ∧ ((u.failRegs p k o r).core p).failA = r.a := by
    unfold State.failRegs
    rw [modCore_core, if_pos rfl, if_neg hunit]
    exact ⟨rfl, rfl, rfl⟩
  refine ⟨(congrArg (fun x => x.2.1) hregs).trans hset.1, (congrArg (fun x => x.2.2.2.2.1) hregs).trans hset.2.1,
    (congrArg (fun x => x.2.2.2.2.2.1) hregs).trans hset.2.2⟩
theorem checkFail_unit {p k o : Nat} (r : FailRegs) (hu : s.unitOpen p k) (ho : o < 16) : (s.checkFail k o r).triaged p k o ∧
    ((s.core p).failUnit ≠ some k → ((s.checkFail k o r).core p).failPrimary = o ∧ ((s.checkFail k o r).core p).failRow = r.row ∧
      ((s.checkFail k o r).core p).failA = r.a) := by
  obtain ⟨hp, hlc, hcarr, hkl, hst, hcodes⟩ := hu
  exact checkFail_open r hp (by simp [hlc]) (by rw [hkl, hcarr]) (.inl hst) hcodes ho
theorem partDone_unit {p k : Nat} (m : Nat) (hu : s.unitOpen p k) : s.partEnded (s.partDone k m) k m := by
  obtain ⟨-, -, -, -, hst, hcodes⟩ := hu
  exact partDone_ended m (.inl hst) hcodes
theorem partEnded_congr {u : State} {k m : Nat} (hd : t.unitDesc k = s.unitDesc k) (hs : (t.ticket k).spec = (s.ticket k).spec)
    (hc : (t.ticket k).checks = (s.ticket k).checks) (hr : (t.ticket k).released = (s.ticket k).released) (hu : t.partEnded u k m) : s.partEnded u k m := by
  unfold State.partEnded at hu ⊢
  rwa [hd, hs, hc, hr] at hu
/-- What the checks of a unit rest on in its ticket. -/
def Ticket.unit (k : Ticket) : TState × Nat × Nat × Bool × Nat × Bool × Nat × Nat × Nat :=
  (k.state, k.lc, k.codes, k.spec, k.checks, k.released, k.ctx, k.layer, k.descIdx)
/-- From `s` to `t` the map and what the checks of unit `k` rest on are the same. -/
structure SameUnit (k : Nat) (s t : State) : Prop where
  map : SameMap s t
  plan : ∀ c, (t.ctx c).plan = (s.ctx c).plan
  ticket : (t.ticket k).unit = (s.ticket k).unit

namespace SameUnit
variable {k : Nat} {u : State}

theorem trans (h : SameUnit k s t) (h' : SameUnit k t u) : SameUnit k s u :=
  ⟨h.map.trans h'.map, fun c => (h'.plan c).trans (h.plan c), h'.ticket.trans h.ticket⟩
theorem of_onlyHolds (h : OnlyHolds s t) : SameUnit k s t := ⟨h.map, h.ctxField Ctx.plan (fun _ => rfl), by rw [h.ticket]⟩
theorem modTicket (s : State) (f : Ticket → Ticket) (hf : ∀ x, (f x).unit = x.unit := by exact fun _ => rfl) : SameUnit k s (s.modTicket k f) :=
  ⟨⟨rfl, fun _ => ⟨rfl, rfl⟩⟩, fun _ => rfl, by rw [modTicket_self, hf]⟩
theorem state (h : SameUnit k s t) : (t.ticket k).state = (s.ticket k).state := congrArg (·.1) h.ticket
theorem lc (h : SameUnit k s t) : (t.ticket k).lc = (s.ticket k).lc := congrArg (·.2.1) h.ticket
theorem codes (h : SameUnit k s t) : (t.ticket k).codes = (s.ticket k).codes := congrArg (·.2.2.1) h.ticket
theorem spec (h : SameUnit k s t) : (t.ticket k).spec = (s.ticket k).spec := congrArg (·.2.2.2.1) h.ticket
theorem checks (h : SameUnit k s t) : (t.ticket k).checks = (s.ticket k).checks := congrArg (·.2.2.2.2.1) h.ticket
theorem released (h : SameUnit k s t) : (t.ticket k).released = (s.ticket k).released := congrArg (·.2.2.2.2.2.1) h.ticket
theorem desc (h : SameUnit k s t) : t.unitDesc k = s.unitDesc k := by
  have hctx : (t.ticket k).ctx = (s.ticket k).ctx := congrArg (·.2.2.2.2.2.2.1) h.ticket
  have hidx : (t.ticket k).descIdx = (s.ticket k).descIdx := congrArg (·.2.2.2.2.2.2.2.2) h.ticket
  unfold State.unitDesc State.planLc
  rw [hctx, h.lc, hidx, h.plan]
theorem unitOpen {p : Nat} (h : SameUnit k s t) (hu : s.unitOpen p k) : t.unitOpen p k := by
  obtain ⟨hp, hlc, hcarr, hkl, hst, hcodes⟩ := hu
  exact ⟨hp, (h.map.lcOf p).trans hlc, (h.map.carrier _).trans hcarr, h.lc.trans hkl, h.state.trans hst, h.codes.trans hcodes⟩
theorem partEnded {m : Nat} (h : SameUnit k s t) (hu : t.partEnded u k m) : s.partEnded u k m :=
  partEnded_congr h.desc h.spec h.checks h.released hu

end SameUnit

theorem sendReport_onlyHolds (s : State) (p kind : Nat) (b : Bool) (w : List Nat) : OnlyHolds s (s.sendReport p kind b w) :=
  .ite _ (.toVat _ _ _ (.refl s)) (.emit _ (.refl s))
/-- A part that leaves others open is noted; the unit may await its verdict. -/
theorem partDone_noted {k m : Nat} (hk : (s.ticket k).state = .opened ∨ (s.ticket k).state = .await) (hm : m ≠ 16)
    (hn : unitNeeds (s.unitDesc k) (s.ticket k).spec &&& ((s.ticket k).checks ||| m) ≠ unitNeeds (s.unitDesc k) (s.ticket k).spec) :
    ∃ b : Bool, s.partDone k m = s.modTicket k fun x => { x with checks := (s.ticket k).checks ||| m, state := if b then .await else x.state } := by
  unfold State.partDone
  rw [if_pos (by simpa using hk)]
  dsimp only
  rw [if_neg (by simp [hn]), if_neg hm]
  exact ⟨_, rfl⟩
theorem partDone_free {k m : Nat} (hk : (s.ticket k).state = .free) : s.partDone k m = s := by
  unfold State.partDone
  rw [if_neg (by simp [hk]), if_neg (by simp [hk])]
/-- The digests of a Duplex unit leave, and its last group completes its part. -/
theorem pairReport_partDone_ended {p k : Nat} (hk : (s.ticket k).state = .opened) (hc : (s.ticket k).codes = 0) :
    s.partEnded ((s.pairReport p k).partDone k 1) k 1 := by
  unfold State.pairReport
  dsimp only
  split
  · have hsent := SameUnit.of_onlyHolds (k := k) (sendReport_onlyHolds s p 1 (s.crossPart (s.ticket k).ctx (s.ticket k).lc (s.unitDesc k) 8)
      (reportHead k (s.ticket k) (descDupLc (s.unitDesc k)) ++ w64 (s.ticket k).da.1 ++ w64 (s.ticket k).dr.1))
    generalize s.sendReport p 1 _ _ = u at hsent ⊢
    refine hsent.partEnded ?_
    rw [← hsent.state] at hk
    rw [← hsent.codes] at hc
    by_cases hn : unitNeeds (u.unitDesc k) (u.ticket k).spec &&& ((u.ticket k).checks ||| 0) = unitNeeds (u.unitDesc k) (u.ticket k).spec
    · have hend := partDone_ended (s := u) 0 (.inl hk) hc
      rw [State.partEnded, if_pos hn] at hend
      rw [partDone_free hend.1, State.partEnded, if_pos]
      · exact hend
      · rw [Nat.or_zero] at hn
        rw [Nat.and_or_distrib_left, hn]
        refine Nat.eq_of_testBit_eq fun i => ?_
        rw [Nat.testBit_or, Nat.testBit_and]
        exact sup_inf_self
    · obtain ⟨b, hb⟩ := partDone_noted (s := u) (.inl hk) (by omega) hn
      have hself := modTicket_self (s := u) k fun x => { x with checks := (u.ticket k).checks ||| 0, state := if b then .await else x.state }
      have hdesc : (u.modTicket k fun x => { x with checks := (u.ticket k).checks ||| 0, state := if b then .await else x.state }).unitDesc k = u.unitDesc k := by
        unfold State.unitDesc
        rw [hself]
        rfl
      rw [hb]
      refine partEnded_congr hdesc ?_ ?_ ?_ (partDone_ended 1 ?_ ?_) <;> rw [hself]
      · exact Nat.or_zero _
      · cases b
        · exact .inl hk
        · exact .inr rfl
      · exact hc
  · exact partDone_ended 1 (.inl hk) hc
theorem foldGroup_sameUnit (s : State) (k e : Nat) (m acc : List Int) (a : GroupAt) : SameUnit k s (s.foldGroup k e m acc a) := by
  have hrefl : SameUnit k s s := .of_onlyHolds (.refl s)
  have hda : SameUnit k s (if (decide (descLevel (s.unitDesc k) = 2) && decide (descKind (s.unitDesc k) ≠ 3)) = true then
      s.modTicket k fun k => { k with da := ordFold k.da (acc.map res) } else s) := by
    split
    · exact .modTicket s _
    · exact hrefl
  unfold State.foldGroup
  dsimp only
  generalize (if (decide (descLevel (s.unitDesc k) = 2) && decide (descKind (s.unitDesc k) ≠ 3)) = true then _ else s) = u at hda ⊢
  split
  · split
    · exact hda
    · exact hda.trans (.modTicket u _)
  · exact hda
/-- The envelope's failures are check failures (Table 3.5). -/
theorem envelope_lt {d : List Nat} {e o i : Nat} {m : List Int} (h : envelope d e m = [(o, i)]) : o < 16 := by
  have hall : ∀ x ∈ envelope d e m, x.1 < 16 := by
    unfold envelope
    dsimp only
    intro x hx
    split at hx
    · simp_all
    · simp only [List.mem_append] at hx
      obtain (hx | hx) | hx := hx
      · split at hx <;> simp_all
      · split at hx
        · split at hx <;> simp_all
        · simp_all
      · split at hx <;> simp_all
  exact hall (o, i) (by simp [h])
theorem handshake_ticket (s : State) (p : Nat) (l : List Nat) (k : Nat) : (s.handshake p l).ticket k = s.ticket k := by
  unfold State.handshake
  dsimp only
  split
  · rfl
  · split <;> rw [setStall_ticket]
    rfl
theorem pairReport_of_triage {p k : Nat} (h : (s.ticket k).state = .triage) : s.pairReport p k = s := by
  unfold State.pairReport
  exact if_neg (by simp [h])
theorem unitOf_unit {p k : Nat} (hu : s.unitOpen p k) : s.unitOf p k = true := by
  obtain ⟨-, hlc, -, hkl, hst, -⟩ := hu
  simp [State.unitOf, hkl, hst, hlc]

end

/-- Settles O20. -/
theorem unitChecksComplete : Obligations.UnitChecksComplete := by
  refine ⟨?_, ?_, ?_, ?_, ?_⟩
  · intro s p k row col a b hu
    constructor
    · intro hfit
      refine ⟨_, guardId_of_true hu.1, ?_⟩
      rw [if_pos (unitOf_unit hu)]
      simp [hfit]
    · intro hfit
      refine ⟨_, guardId_of_true hu.1, ?_⟩
      rw [if_pos (unitOf_unit hu)]
      simp only [hfit, Bool.false_eq_true, if_false]
      exact checkFail_unit _ hu (by omega)
  · intro s p k rows csv hu hlaid hgroup hcsv hrows
    constructor
    · intro hall
      refine ⟨_, guardId_of_true hu.1, ?_⟩
      have hnone : (rows.zipIdx.find? fun e => laidLhs e.1 != laidRhs csv.entries (descEmin (s.unitDesc k)) e.1) = none := by
        rw [List.find?_eq_none]
        intro e he
        simp [hall e.1 (List.fst_mem_of_mem_zipIdx he)]
      rw [if_pos (by simp [unitOf_unit hu, hlaid])]
      simp only [hgroup, hcsv, Bool.and_false, Bool.false_eq_true, if_false, Bool.not_false, Bool.true_or, if_true, hrows]
      rw [hnone]
      exact partDone_unit 2 hu
    · rintro ⟨r, hr, hne⟩
      refine ⟨_, guardId_of_true hu.1, ?_⟩
      rw [if_pos (by simp [unitOf_unit hu, hlaid])]
      simp only [hgroup, hcsv, Bool.and_false, Bool.false_eq_true, if_false, Bool.not_false, Bool.true_or, if_true, hrows]
      cases hfind : rows.zipIdx.find? fun e => laidLhs e.1 != laidRhs csv.entries (descEmin (s.unitDesc k)) e.1 with
      | none =>
        obtain ⟨i, hi⟩ := List.mem_iff_getElem?.mp hr
        rw [List.find?_eq_none] at hfind
        exact absurd (by simpa using hne) (hfind (r, i) (List.mem_zipIdx_iff_getElem?.mpr hi))
      | some e => exact (checkFail_unit _ hu (by omega)).1
  · intro s p k g e m acc a hu
    constructor
    · intro hf
      refine ⟨_, guardId_of_true hu.1, ?_⟩
      rw [if_pos (unitOf_unit hu), hf]
      simp only [if_true, List.isEmpty_nil]
      have hfold := (foldGroup_sameUnit s k e m acc a).trans (.modTicket (s.foldGroup k e m acc a) fun x =>
        { x with ends := x.ends ||| 1, doneAt := some ((s.foldGroup k e m acc a).lc x.lc).lstep })
      obtain ⟨-, -, -, -, hst, hcodes⟩ := hfold.unitOpen hu
      exact hfold.partEnded (pairReport_partDone_ended hst hcodes)
    · intro o i hf
      refine ⟨_, guardId_of_true hu.1, ?_⟩
      rw [if_pos (unitOf_unit hu), hf]
      simp only [if_true, List.isEmpty_cons, Bool.false_eq_true, if_false]
      obtain ⟨⟨hst, hcause, hfrozen⟩, -⟩ :=
        checkFail_unit (o := o) { row := g, a := i * 256 + e, b := 0 } ((foldGroup_sameUnit s k e m acc a).unitOpen hu) (envelope_lt hf)
      unfold each
      rw [List.foldl_cons, List.foldl_nil]
      generalize (s.foldGroup k e m acc a).checkFail k o { row := g, a := i * 256 + e, b := 0 } = u at hst hcause hfrozen ⊢
      rw [pairReport_of_triage (by rw [modTicket_self]; exact hst), State.triaged, modTicket_self]
      exact ⟨hst, hcause, hfrozen⟩
  · intro s p k taus n tally hu hkind hgate
    constructor
    · intro hlen htally hle
      refine ⟨_, guardId_of_true hu.1, ?_⟩
      rw [if_pos (by simp [unitOf_unit hu, hkind]), if_neg (by simp [hgate])]
      unfold State.checkTally
      dsimp only
      rw [if_neg (by simp [hlen, htally, hle])]
      exact partDone_unit 4 hu
    · intro hbad
      refine ⟨_, guardId_of_true hu.1, ?_⟩
      rw [if_pos (by simp [unitOf_unit hu, hkind]), if_neg (by simp [hgate])]
      unfold State.checkTally
      dsimp only
      rw [if_pos (by simpa [or_assoc] using hbad)]
      exact (checkFail_unit _ hu (by omega)).1
  · intro s p n c k j m l a b hcar hplan hm hfit hk hm'
    obtain ⟨hp, hlc, hcarr, hctx, -⟩ := hcar
    obtain ⟨e, he, rfl⟩ := Option.map_eq_some_iff.mp hplan
    refine ⟨_, guardId_of_true (by simp [hp, hk, hm']), ?_⟩
    rw [hlc]
    dsimp only
    rw [hctx]
    dsimp only
    rw [he]
    dsimp only
    have hshake : ((if (s.core p).awaited = some m then s.handshake p [6] else s).ticket k) = s.ticket k := by
      split
      · exact handshake_ticket ..
      · rfl
    generalize (if (s.core p).awaited = some m then s.handshake p [6] else s) = u at hshake ⊢
    rw [if_neg (not_not.mpr hm), if_neg nofun, if_pos (by simp [hfit])]
    constructor
    · split <;> simp
    · intro hmine
      rw [if_pos hmine, modTicket_self]
      exact congrArg (fun x : Ticket => x.seeds ++ [b]) hshake

end Sys2Proof.Machine
end

section
/-! SUPPORT. A verdict for a unit on a core that does not exist (R30, R283). -/

namespace Sys2Proof.Machine

/-- A map that gives logical core 0 to the physical ID 193, whose row no die has: its check sources fall on a cluster's. A reset of that cluster is
    escalated at once, past partition 1, to the package. -/
def strayCarrier : State := { State.reset with
  vatA := { role := .active }, pkg := { oos := true, partition := [(0, 1)] },
  dies := [(0, { home := [(0, 2 ^ 31 + 193)], phys := [(157, 2 ^ 29)] })],
  sh := { tickets := [(0, { state := .await })],
          classCfg := [(130, some { each := 4, thresh := 0, n := 1, w := 0, record := false }),
                       (224, some { each := 2, thresh := 0, n := 1, w := 0, record := false })],
          ladderCfg := [(1, some (0, 1))] } }
/-- The state of a ticket after a command; TRIAGE when the command is not answered with a next state. -/
def ticketAfter (i : Instr) (s : State) (k : Nat) : TState := match exec i s with | .next t => (t.ticket k).state | _ => .triage
theorem ticketAfter_of_gives {i : Instr} {s : State} {k : Nat} {x : TState} (h : Gives i s fun t => (t.ticket k).state = x) : ticketAfter i s k = x := by
  obtain ⟨t, ht, hx⟩ := h
  rw [ticketAfter, ht]
  exact hx
set_option maxRecDepth 100000 in
/-- The detection asks for a reset of the package, which frees every ticket, before the unit fails. -/
theorem ticketAfter_strayCarrier : ticketAfter (.verdict { src := 98, seq := 0, ring := 0, epoch := 0 } 0 false) strayCarrier 0 = .free := by decide +kernel

/-- Refutes O21: a failing verdict for a unit whose logical core is mapped to a physical ID that no die has is counted at another source, whose BLK resets
    the package, so the unit's ticket is free and not in TRIAGE. -/
theorem not_comparisonsComplete : ¬ Obligations.ComparisonsComplete := by
  intro h
  obtain ⟨-, -, hverdict, -⟩ := h
  have htri := ticketAfter_of_gives ((hverdict strayCarrier { src := 98, seq := 0, ring := 0, epoch := 0 } 193 0 (by decide) (by decide) (by decide)
    (by decide) (by decide) (by decide) (by decide) (by decide) (by decide) ⟨by decide, by decide, by decide⟩).2 (by decide))
  exact TState.noConfusion (ticketAfter_strayCarrier.symm.trans htri)

end Sys2Proof.Machine
end

section
/-! SUPPORT. Pool blocks, and comparisons and triages that have nothing to do (R157, R158). -/

namespace Sys2Proof.Machine

section
variable {s t : State}

theorem modDie_map (s : State) (d : Nat) (f : Die → Die) (h : ∀ k, (f k).home = k.home ∧ (f k).phys = k.phys := by exact fun _ => ⟨rfl, rfl⟩) :
    SameMap s (s.modDie d f) := SameMap.modDie d f h
/-- With no triage and no re-placement there is nothing to try again. -/
theorem retryAll_of_quiet (h : s.quiet) : s.retryAll = s := by
  obtain ⟨htri, hq, hrep⟩ := h
  have ha : s.retryA = s := by rw [State.retryA, htri]; rfl
  have hstart : (s.pump s.sh.triageQ.length).startQueued = s := by
    rw [hq]
    change s.startQueued = s
    rw [State.startQueued, hrep]
    rfl
  have hgo : s.goOn = s := by
    rw [State.goOn, hstart]
    simp [htri, each]
  rw [State.retryAll, ha, htri]
  exact hgo
theorem settleAll_of_none (hp : s.readyPair = none) (hg : s.readyGroup = none) : s.settleAll = s := by
  unfold State.settleAll
  cases s.sh.pairs.length + s.sh.groups.length with
  | zero => rfl
  | succ k => rw [State.settle, hp, hg]

/-! ## What readiness of a comparison rests on -/

/-- The map, the plans and the tickets are the same. -/
structure SameReady (s t : State) : Prop where
  map : SameMap s t
  sh : t.sh = s.sh

namespace SameReady

theorem ticket (h : SameReady s t) (k : Nat) : t.ticket k = s.ticket k := show tget {} t.sh.tickets k = tget {} s.sh.tickets k by rw [h.sh]
theorem ctx (h : SameReady s t) (c : Nat) : t.ctx c = s.ctx c := show tget {} t.sh.ctxs c = tget {} s.sh.ctxs c by rw [h.sh]
theorem unitDesc (h : SameReady s t) (k : Nat) : t.unitDesc k = s.unitDesc k := by
  unfold State.unitDesc State.planLc
  rw [h.ticket, h.ctx]
theorem poolReady (h : SameReady s t) (k part : Nat) : t.poolReady k part = s.poolReady k part := by
  unfold State.poolReady State.poolOf
  dsimp only
  rw [crossPart_congr h.map fun c => congrArg Ctx.plan (h.ctx c), h.ticket, h.unitDesc, h.sh]
theorem readyPair (h : SameReady s t) : t.readyPair = s.readyPair := by
  unfold State.readyPair
  simp only [h.poolReady, h.sh]
theorem readyGroup (h : SameReady s t) : t.readyGroup = s.readyGroup := by
  unfold State.readyGroup
  simp only [h.poolReady, h.unitDesc, h.sh]

end SameReady

theorem servePool_of_no_cross (d : Nat) (h : ∀ e ∈ s.sh.tickets, e.2.cross = false) : s.servePool d = s := by
  have hnone : (s.sh.tickets.filter fun e => e.1 < 221184 && e.2.cross && (e.2.state == .opened || e.2.state == .await)) = [] := by
    rw [List.filter_eq_nil_iff]
    intro e he
    simp [h e he]
  rw [State.servePool, hnone]
  rfl
theorem epoch_of_sansBooks (h : t.sansBooks = s.sansBooks) : t.epoch = s.epoch := by
  unfold State.epoch
  rw [acting_of_sansBooks h]
  split
  · next v _ => exact show (t.vat v).sansBooks.epoch = (s.vat v).sansBooks.epoch by rw [vat_of_sansBooks h v]
  · rfl
/-- What the acting Vat sends leaves with its epoch in front (R330). -/
theorem emits_vatSend_of {kp : Bool} (hk : Keeps kp s t) (he : t.epoch = s.epoch) (ty mode dst : Nat) (words : List Nat) :
    ∃ x, Emits s (t.vatSend ty mode dst words) (.felt x) ∧ x.src = t.actDie ∧ x.type = ty ∧ x.dst = dst ∧ x.words = s.epoch :: words :=
  ⟨_, .after_keeps hk (emits_feltSend ..), rfl, rfl, rfl, congrArg (· :: words) he⟩
theorem freePoolIds_of_sh (h : t.sh = s.sh) (d : Nat) : t.freePoolIds d = s.freePoolIds d := by
  unfold State.freePoolIds State.dieBlocks State.ticket
  rw [h]

end

theorem toVat_sh (s : State) (d ty : Nat) (words : List Nat) : (s.toVat d ty words).sh = s.sh := by
  unfold State.toVat
  split
  · rfl
  · exact feltSend_sh ..
/-- An agent with fewer than 32 free pool IDs asks, unless it has asked (R157). -/
theorem askPool_spec (s : State) (d : Nat) : SameReady s (s.askPool d) ∧
    ((s.askPool d).die d).poolAsked = (decide ((s.freePoolIds d).length < 32) || (s.die d).poolAsked) := by
  unfold State.askPool
  split
  · next h =>
    simp only [Bool.and_eq_true, decide_eq_true_eq] at h
    have hasked := (OnlyHolds.refl (s.modDie d fun k => { k with poolAsked := true })).toVat d 0x91 []
    refine ⟨⟨(modDie_map s d fun k => { k with poolAsked := true }).trans hasked.map, toVat_sh ..⟩, ?_⟩
    rw [hasked.dieField Die.poolAsked (fun _ => rfl), modDie_die, if_pos rfl]
    simp [h]
  · next h =>
    refine ⟨⟨⟨rfl, fun _ => ⟨rfl, rfl⟩⟩, rfl⟩, ?_⟩
    cases hasked : (s.die d).poolAsked <;> simp_all

/-- Settles O22. -/
theorem poolCommandsComplete : Obligations.PoolCommandsComplete := by
  refine ⟨?_, ?_, ?_, ?_⟩
  · intro s h d b v hd hs ha hn hwait hfree
    refine gives_recvVat_acked (by rfl) (if_pos (by simp [hd, hs])) ha hn fun n => ?_
    have hlend : ((s.withFelt n).modSh fun x => { x with poolWait := if x.poolWait.contains h.src then x.poolWait else x.poolWait ++ [h.src] }).lendPool =
        (((s.withFelt n).modSh fun x => { x with poolWait := [], pool := tset none x.pool b (some h.src) }).mirror).vatSend 0x91 0 h.src [b] := by
      unfold State.lendPool
      simp [hwait, hfree, State.modSh]
    rw [hlend]
    have hkept := mirror_keeps (modSh_keeps (kp := false) (fun x => { x with poolWait := [], pool := tset none x.pool b (some h.src) }) (withFelt_keeps n (Keeps.refl _ s)))
    have hepoch := epoch_of_sansBooks (mirror_sansBooks ((s.withFelt n).modSh fun x => { x with poolWait := [], pool := tset none x.pool b (some h.src) }))
    have hpool : ((s.withFelt n).modSh fun x => { x with poolWait := [], pool := tset none x.pool b (some h.src) }).mirror.sh.pool =
        tset none s.sh.pool b (some h.src) := shared_of_sansBooks Shared.pool (fun _ => rfl) (mirror_sansBooks _)
    generalize ((s.withFelt n).modSh fun x => { x with poolWait := [], pool := tset none x.pool b (some h.src) }).mirror = u at hkept hepoch hpool ⊢
    obtain ⟨x, hx, -, htype, hdst, hwords⟩ := emits_vatSend_of hkept (hepoch.trans rfl) 0x91 0 h.src [b]
    refine ⟨?_, x, hx.of_keeps (ack_keeps (kp := false) _ _ _ _ _ (Keeps.refl _ _)), htype, hdst, hwords⟩
    rw [shared_of_sansBooks Shared.pool (fun _ => rfl) (ack_sansBooks ..), shared_of_sansBooks Shared.pool (fun _ => rfl) (vatSend_sansBooks ..), hpool]
    simp
  · intro s h d b hd hs hr he hu hcross hp hg hquiet
    refine gives_recvCmd_acked (by rfl) (if_pos (by simp [hd, hs])) hr he hu fun n => ?_
    have hready : SameReady s (((s.modDie d fun k => { k with epoch := h.epoch }).withFelt n).modDie d fun k => { k with poolAsked := false }) :=
      ⟨(modDie_map s d fun k => { k with epoch := h.epoch }).trans (modDie_map ((s.modDie d fun k => { k with epoch := h.epoch }).withFelt n) d fun k =>
        { k with poolAsked := false }), rfl⟩
    have hclear : ((((s.modDie d fun k => { k with epoch := h.epoch }).withFelt n).modDie d fun k => { k with poolAsked := false }).die d).poolAsked = false := by
      rw [modDie_die, if_pos rfl]
    have hkept := modDie_keeps (kp := false) d (fun k => { k with poolAsked := false }) (withFelt_keeps n (modDie_keeps d (fun k => { k with epoch := h.epoch }) (Keeps.refl _ s)))
    generalize ((s.modDie d fun k => { k with epoch := h.epoch }).withFelt n).modDie d _ = u at hready hclear hkept ⊢
    obtain ⟨hask, hasked⟩ := askPool_spec u d
    have hall : SameReady s (u.askPool d) := ⟨hready.map.trans hask.map, hask.sh.trans hready.sh⟩
    have hkeeps := askPool_keeps (kp := false) d (hkept)
    rw [servePool_of_no_cross d (by rw [hready.sh]; exact hcross), settleAll_of_none (hall.readyPair.trans hp) (hall.readyGroup.trans hg),
      retryAll_of_quiet (by rw [State.quiet, hall.sh]; exact hquiet), die_ack]
    refine ⟨?_, emits_ack_of (kp := false) ?_ ..⟩
    · rw [hasked, hclear, freePoolIds_of_sh hready.sh, Bool.or_false]
    · exact hkeeps
  · intro s d b v hd hlast hlen hall hwait ha
    refine ⟨_, guardId_of_true hd, ?_⟩
    dsimp only
    rw [hlast]
    dsimp only
    rw [if_pos (by simpa [hlen] using hall)]
    have hback : (s.modSh fun h => { h with pool := tset none h.pool b none }).mirror.acting = some v := by
      rw [acting_of_sansBooks (mirror_sansBooks _)]
      exact ha
    rw [toVat_acting hback]
    have hkept := mirror_keeps (modSh_keeps (kp := false) (fun x => { x with pool := tset none x.pool b none }) (Keeps.refl _ s))
    have hpool : (s.modSh fun h => { h with pool := tset none h.pool b none }).mirror.sh.pool = tset none s.sh.pool b none :=
      shared_of_sansBooks Shared.pool (fun _ => rfl) (mirror_sansBooks _)
    have hwaits : (s.modSh fun h => { h with pool := tset none h.pool b none }).mirror.sh.poolWait = [] :=
      (shared_of_sansBooks Shared.poolWait (fun _ => rfl) (mirror_sansBooks _)).trans hwait
    generalize (s.modSh fun h => { h with pool := tset none h.pool b none }).mirror = u at hkept hpool hwaits ⊢
    have hno : (u.feltSend d 0x91 0 (hubDie v) [b]).lendPool = u.feltSend d 0x91 0 (hubDie v) [b] := by
      unfold State.lendPool
      rw [feltSend_sh, hwaits]
    rw [hno, feltSend_sh, hpool]
    exact ⟨by simp, _, .after_keeps hkept (emits_feltSend ..), rfl, rfl, rfl, rfl⟩
  · intro s rq k h hr
    refine gives_of_entered h rfl rfl ?_
    have hk : (s.entered rq false).ticket k = s.ticket k := by
      obtain ⟨a, b, he⟩ := entered_eq s rq false
      rw [he]
      rfl
    rw [hk, if_neg (by simp [inRange_entered, hr])]
    exact answers_finish_nil ..

end Sys2Proof.Machine
end

section
/-! SUPPORT. Re-placements that start, and transfers that arrive (R259, R261, R266, R278). -/

namespace Sys2Proof.Machine

section
variable {s t : State}

theorem orderFill_spec (s : State) (n src dst : Nat) (z : Bool) : Emits s (s.orderFill n src dst z) (.fill src dst z) ∧
    ((s.orderFill n src dst z).lc n).xferHold = true ∧ (s.orderFill n src dst z).sh = s.sh :=
  ⟨.after_keeps (modLc_keeps (kp := false) n _ (Keeps.refl _ s)) (emits_emit ..), by simp [State.orderFill], rfl⟩
theorem readable_of_onlyHolds (h : OnlyHolds s t) (p : Nat) : t.readable p = s.readable p := by
  unfold State.readable State.phys
  rw [h.coreField Core.resetting (fun _ => rfl), h.dieField Die.phys (fun _ => rfl)]
/-- A re-placement that has begun on a spare at a count (R261). -/
def Replace.begun (x : Replace) (p : Nat) (b : Bool) (now step : Nat) : Replace :=
  { x with started := true, new := some p, borrowed := b, needReel := now, freezeStep := step
           freezeReel := if x.freezeReel = 0 then now else x.freezeReel }
/-- The re-placement of a late placement that fills (R266). -/
def lateReplace (n : Nat) (u : Nat × Nat) (q now : Nat) : Replace :=
  { lc := n, kind := 5, cause := 0x3F, defective := false, old := u.1, new := some q, borrowed := false, filled := false,
    started := true, since := u.2, freezeReel := now, needReel := now, lendersFailed := 0, exhausted := false }
/-- A re-placement takes its hold when it begins, but for one whose fill goes on to another spare (Table 8.3 step 1). -/
def Replace.takesHold (r : Replace) : Bool :=
  (decide (r.kind = 2) || decide (r.kind = 3) || (decide (r.kind = 4) && r.started)) && !(decide (r.freezeReel ≠ 0) && (decide (r.kind = 2) || decide (r.kind = 3)))
theorem beginReplace_eq (s : State) (r : Replace) (p : Nat) (b : Bool) : s.beginReplace r p b =
    (let u := s.modReplace r.lc fun x => x.begun p b s.now (s.lc r.lc).lstep
     let w := if r.takesHold then u.holdCore r.old 1 else u
     w.orderFill r.lc r.old p (!w.readable r.old)) := rfl
/-- A re-placement that begins is started on its spare, its fill is ordered, and transfers to its logical core are held. -/
theorem beginReplace_spec {r : Replace} (hr : r ∈ s.sh.replaces) (p : Nat) (b : Bool) :
    (∃ x ∈ (s.beginReplace r p b).sh.replaces, x.lc = r.lc ∧ x.started = true ∧ x.new = some p ∧ x.borrowed = b) ∧
      Emits s (s.beginReplace r p b) (.fill r.old p (!s.readable r.old)) ∧ ((s.beginReplace r p b).lc r.lc).xferHold = true := by
  have hset : r.begun p b s.now (s.lc r.lc).lstep ∈ (s.modReplace r.lc fun x => x.begun p b s.now (s.lc r.lc).lstep).sh.replaces :=
    List.mem_map.mpr ⟨r, hr, by simp⟩
  have hkept := modReplace_keeps (kp := false) r.lc (fun x => x.begun p b s.now (s.lc r.lc).lstep) (Keeps.refl _ s)
  have hread : (s.modReplace r.lc fun x => x.begun p b s.now (s.lc r.lc).lstep).readable r.old = s.readable r.old := rfl
  rw [beginReplace_eq]
  dsimp only
  generalize (s.modReplace r.lc fun x => x.begun p b s.now (s.lc r.lc).lstep) = u at hset hkept hread ⊢
  have hheld : OnlyHolds u (if r.takesHold then u.holdCore r.old 1 else u) := .ite _ (.holdCore _ _ (.refl u)) (.refl u)
  have hkept' : Keeps false s (if r.takesHold then u.holdCore r.old 1 else u) := by
    split
    · exact holdCore_keeps _ _ hkept
    · exact hkept
  generalize (if r.takesHold then u.holdCore r.old 1 else u) = w at hheld hkept' ⊢
  obtain ⟨hfill, hhold, hsh⟩ := orderFill_spec w r.lc r.old p (!w.readable r.old)
  rw [readable_of_onlyHolds hheld, hread] at hfill hhold hsh ⊢
  rw [hsh, hheld.shared Shared.replaces (fun _ => rfl)]
  exact ⟨⟨_, hset, rfl, rfl, rfl, rfl⟩, .after_keeps hkept' hfill, hhold⟩
theorem agentCount_calm_onlyHolds {src : Nat} (h : s.calm src = true) (d : Nat) (x : Detail) : OnlyHolds s (s.agentCount d src x) := by
  rw [agentCount_calm h]
  exact ((OnlyHolds.refl s).stopSlice src).firstStage ..
theorem firstStage_firstCount_other {d src o : Nat} (l : List Detail) (hne : o ≠ src) : (s.firstStage d src l).firstCount d o = s.firstCount d o := by
  unfold State.firstStage
  split
  · rfl
  · simp [State.firstCount, hne]
/-- Such an event adds nothing to another source's count. -/
theorem firstCount_agentCount_other {src o : Nat} (h : s.calm src = true) (d : Nat) (x : Detail) (hne : o ≠ src) :
    (s.agentCount d src x).firstCount d o = s.firstCount d o := by
  rw [agentCount_calm h, firstStage_firstCount_other _ hne]
  refine stopSlice_cases (P := fun u => u.firstCount d o = s.firstCount d o) src rfl fun e => ?_
  unfold State.firstCount
  rw [modDie_die]
  split
  · next he => rw [he]
  · rfl
theorem coreSource_ne_ctxSource (p c : Nat) : coreSource p 30 ≠ ctxSource c 2 := by
  unfold coreSource ctxSource
  omega
theorem xferReasons_ne_zero {p : Nat} {x : Xfer} {k : Nat} (h : k ∈ s.xferReasons p x) : k ≠ 0 := by
  unfold State.xferReasons at h
  split at h
  · split at h <;> simp_all
  · simp_all
  · simp_all

end

/-- Settles O23. -/
theorem replacementEventsComplete : Obligations.ReplacementEventsComplete := by
  refine ⟨?_, ?_, ?_, ?_, ?_, ?_⟩
  · intro s v n r p ha hn hr hst hkind hex hspare hclear
    obtain ⟨hlc, hmem⟩ : r.lc = n ∧ r ∈ s.sh.replaces := ⟨by simpa using List.find?_some hr, List.mem_of_find?_eq_some hr⟩
    refine ⟨_, guardId_of_true (by simp [hn]), ?_⟩
    rw [whenActing_acting ha, hr]
    simp only [hex, Bool.false_eq_true, if_false, hspare, Option.map_some]
    rw [if_pos (by simp [hst, hkind, hclear])]
    obtain ⟨⟨x, hx, hxl, hxs, hxn, -⟩, hfill, hhold⟩ := beginReplace_spec hmem p false
    exact ⟨⟨x, hx, hxl.trans hlc, hxs, hxn⟩, hfill, hlc ▸ hhold⟩
  · intro s v n r p b ha hn hr hst hkind hspare hclear
    obtain ⟨hlc, hmem⟩ : r.lc = n ∧ r ∈ s.sh.replaces := ⟨by simpa using List.find?_some hr, List.mem_of_find?_eq_some hr⟩
    refine ⟨_, guardId_of_true (by simp [hn]), ?_⟩
    rw [whenActing_acting ha, hr]
    dsimp only
    rw [if_neg (by simp [hst, hkind]), hspare]
    dsimp only
    rw [if_pos hclear]
    obtain ⟨⟨x, hx, hxl, hxs, hxn, hxb⟩, hfill, -⟩ := beginReplace_spec hmem p b
    exact ⟨⟨x, hx, hxl.trans hlc, hxs, hxn, hxb⟩, hfill⟩
  · intro s v n q u ha hn hq hu hr hpart hspare
    refine ⟨_, guardId_of_true (by simp [hn, hq]), ?_⟩
    rw [whenActing_acting ha, hu]
    dsimp only
    by_cases hbusy : s.clusterFills [n] u.1 = true ∨ s.clusterFills [n] q = true
    · rw [if_pos hbusy, if_neg (by simp [hr, hpart, hspare]), if_pos (by simpa using hbusy)]
      exact ⟨_, List.mem_append_right _ (List.mem_singleton_self _), rfl, rfl, rfl⟩
    · rw [if_neg hbusy, if_neg (by simp [hr, hpart, hspare]), if_neg (by simpa using hbusy)]
      obtain ⟨hfill, hhold, -⟩ := orderFill_spec (s.modSh fun h => { h with replaces := h.replaces ++ [lateReplace n u q s.now] }) n u.1 q (!s.readable u.1)
      refine ⟨⟨lateReplace n u q s.now, ?_, rfl, rfl, rfl⟩, .after_keeps (modSh_keeps (kp := false) _ (Keeps.refl _ s)) hfill, hhold⟩
      exact show lateReplace n u q s.now ∈ s.sh.replaces ++ [lateReplace n u q s.now] from List.mem_append_right _ (List.mem_singleton_self _)
  · intro s x hx hhold
    refine ⟨_, guardId_of_true (by simp [hx]), ?_⟩
    rw [if_pos hhold]
    simp
  · intro s x p hx hhold hcarr hacc hpark hst
    have hdel : s.deliverXfer x = s.handshake p (s.xferReasons p x) := by
      unfold State.deliverXfer
      dsimp only
      rw [hcarr]
      dsimp only
      rw [if_neg (by simp [hpark]), if_pos hacc]
    constructor
    · intro hno
      refine ⟨_, guardId_of_true (by simp [hx]), ?_⟩
      rw [if_neg (by simp [hhold]), hdel, State.handshake, if_pos (by simpa using hno)]
    · intro hin
      refine ⟨_, guardId_of_true (by simp [hx]), ?_⟩
      have hne : (s.core p).stallNow ≠ 0 := xferReasons_ne_zero hin
      rw [if_neg (by simp [hhold]), hdel, State.handshake, if_neg (by simpa using hin)]
      rw [if_neg (by simp [hst]), State.setStall]
      dsimp only
      rw [if_neg (by simp [hne]), modCore_core, if_pos rfl]
      simp [hne]
  · intro s x p hx hhold hcarr hkind hacc hpark hr hc1 hc2
    refine ⟨_, guardId_of_true (by simp [hx]), ?_⟩
    rw [if_neg (by simp [hhold])]
    unfold State.deliverXfer
    dsimp only
    rw [hcarr]
    dsimp only
    rw [if_neg (by simp [hpark]), if_neg (by simp [hacc]), hkind]
    dsimp only
    have hone (y : Detail) := firstCount_agentCount hc1 (coreDie p) y hr
    have hother (y : Detail) := firstCount_agentCount_other hc1 (coreDie p) y (coreSource_ne_ctxSource p (x.tag % 4096)).symm
    have hcalm (y : Detail) : (s.agentCount (coreDie p) (coreSource p 30) y).calm (ctxSource (x.tag % 4096) 2) = true := by
      obtain ⟨l, hl⟩ := agentCount_dies hc1 (coreDie p) y
      rw [hl]
      exact hc2
    have hin (y : Detail) : ((s.agentCount (coreDie p) (coreSource p 30) y).die (coreDie p)).inReset = false :=
      ((agentCount_calm_onlyHolds hc1 (coreDie p) y).dieField Die.inReset (fun _ => rfl) _).trans hr
    exact ⟨(firstCount_agentCount_other (hcalm _) _ _ (coreSource_ne_ctxSource _ _)).trans (hone _),
      (firstCount_agentCount (hcalm _) _ _ (hin _)).trans (by rw [hother])⟩

end Sys2Proof.Machine
end

section
/-! SUPPORT. A teardown whose plan names a logical core that does not exist (R157, Table 8.8). -/

namespace Sys2Proof.Machine

/-- A core of a plan without descriptors. -/
def bareLc (n : Nat) : PlanLc :=
  { lc := n, descs := [], slots := [], wins := [], pressGroup := 0xFFFF, ringOffset := 0, rollback := [], joins := [], maps := [], cancels := [] }
/-- A plan with logical core 13,824, one past the last, and with a Duplex unit of logical core 1 whose partner is on another die. -/
def strayPlan : Plan :=
  { lcs := [bareLc 13824, { bareLc 1 with descs := [[0, 2 ^ 31, 0, 0, 0, 0, 144 * 2 ^ 18]] }], training := false, tensors := [], updateOps := [],
    layerOps := [], streams := [], drawOps := [], samplesPerIter := 0, samplesBefore := [], expected := [], formatOk := true }
/-- Context 0 is in teardown under that plan; a unit waits for a pool ticket of die 0, and the context holds one of them. -/
def strayPool : State := { State.reset with
  vatA := { role := .active },
  sh := { tickets := [(160, { state := .opened, cross := true, lc := 1 }), (221440, { state := .opened, lc := 1 })], pool := [(0, some 0)],
          ctxs := [(0, { state := 3, plan := some strayPlan, teardown := some { trigger := 0, start := 0, step := 2, discarded := 0 } })] } }
set_option maxRecDepth 100000 in
/-- The pool ticket that returns frees the way for the unit that waits: it takes the lowest one, whose number falls on logical core 13,824. -/
theorem ticketAfter_strayPool : ticketAfter (.teardownDrainEnd 0 0 false) strayPool 221184 = .opened := by decide +kernel

/-- Refutes O24: when the plan of a context in teardown names logical core 13,824, whose ticket numbers are those of pool block 0, a pool ticket that the
    teardown returns lets a waiting unit open one of them. -/
theorem not_fenceEventsComplete : ¬ Obligations.FenceEventsComplete := by
  intro h
  obtain ⟨-, -, -, -, -, hdrain, -⟩ := h
  obtain ⟨t, ht, -, -, -, hfree⟩ := hdrain strayPool .a 0 _ 0 false (by decide) (by decide) rfl (by decide) fun _ => rfl
  have hgives : Gives (.teardownDrainEnd 0 0 false) strayPool fun t => (t.ticket 221184).state = .free :=
    ⟨t, ht, hfree 13824 (by decide) 221184 (by decide)⟩
  exact TState.noConfusion (ticketAfter_strayPool.symm.trans (ticketAfter_of_gives hgives))

end Sys2Proof.Machine
end

section
/-! SUPPORT. The ends of resets and what overruns (R279-R283, Table 8.11). -/

namespace Sys2Proof.Machine

section
variable {s t u : State}

theorem OnlyHolds.epoch (h : OnlyHolds s t) : t.epoch = s.epoch := by
  unfold State.epoch
  rw [h.acting]
  split
  · next v _ =>
    cases v with
    | a => exact show t.sansStops.vatA.epoch = s.sansStops.vatA.epoch by rw [h.rest]
    | b => exact show t.sansStops.vatB.epoch = s.sansStops.vatB.epoch by rw [h.rest]
  · rfl

/-! ### What the end of a core's reset leaves -/

/-- The resets that run and the fences are the same, and a core whose reset had ended is still out of reset. -/
structure Settles (s t : State) : Prop where
  resets : t.sh.resets = s.sh.resets
  fences : ∀ d, (t.die d).fences = (s.die d).fences
  resetting : ∀ q, (s.core q).resetting = false → (t.core q).resetting = false

namespace Settles

theorem refl (s : State) : Settles s s := ⟨rfl, fun _ => rfl, fun _ => id⟩
theorem trans (h : Settles s t) (h' : Settles t u) : Settles s u :=
  ⟨h'.resets.trans h.resets, fun d => (h'.fences d).trans (h.fences d), fun q hq => h'.resetting q (h.resetting q hq)⟩
theorem onlyHolds (h : OnlyHolds s t) : Settles s t :=
  ⟨h.shared (·.resets) (fun _ => rfl), fun d => h.dieField Die.fences (fun _ => rfl) d, fun q hq => (h.coreField Core.resetting (fun _ => rfl) q).trans hq⟩
theorem modCore (p : Nat) (f : Core → Core) (hf : ∀ c, c.resetting = false → (f c).resetting = false) (h : Settles s t) : Settles s (t.modCore p f) :=
  h.trans ⟨rfl, fun _ => rfl, fun q hq => by
    rw [modCore_core]
    split
    · next he => exact hf _ (he ▸ hq)
    · exact hq⟩
theorem modDie (d : Nat) (f : Die → Die) (hf : ∀ k, (f k).fences = k.fences) (h : Settles s t) : Settles s (t.modDie d f) :=
  h.trans ⟨rfl, fun e => by
    rw [modDie_die]
    split
    · next he => rw [hf, he]
    · rfl, fun _ => id⟩
theorem of_same (h : Settles s t) (hs : u.sh.resets = t.sh.resets) (hd : u.dies = t.dies) (hc : u.cores = t.cores) : Settles s u :=
  h.trans ⟨hs, fun d => by rw [die_of_dies hd], fun q hq => by rwa [State.core, hc]⟩
theorem ite (c : Prop) [Decidable c] (h : Settles s t) (h' : Settles s u) : Settles s (if c then t else u) := by split <;> assumption
theorem each {α : Type} (l : List α) (f : State → α → State) (hf : ∀ t a, Settles s t → Settles s (f t a)) (h : Settles s t) :
    Settles s (Machine.each l f t) := each_holds (Settles s) l f t hf h
theorem emit (o : Out) (h : Settles s t) : Settles s (t.emit o) := h.of_same rfl rfl rfl
theorem failDeferred (p : Nat) (h : Settles s t) : Settles s (t.failDeferred p) := by
  unfold State.failDeferred
  exact ite _ h (each _ _ (fun _ _ hu => hu.emit _) (modDie _ _ (fun _ => rfl) (modCore _ _ (fun _ => id) h)))
theorem queueBeat (p kind why : Nat) (h : Settles s t) : Settles s (t.queueBeat p kind why) := h.modDie _ _ fun k => by dsimp only; split <;> rfl

end Settles

/-- A core at its reset state, its reset told. -/
def State.coreCleared (s : State) (p : Nat) : State := (((s.failDeferred p).modCore p resetTap).emit (.coreReset p)).emit (.zeroed p)
/-- What follows the reset state of a core at the end of its reset. -/
def State.coreLeaves (domain : Nat) (off : Bool) (s : State) (p : Nat) : State :=
  let s := if off && s.cores.all (fun e => e.2.seqCmp) then s.modPkg fun g => { g with seqOnSince := some s.reel } else s
  let s := match s.lcOf p with | some n => s.modLc n fun l => { l with slots := [], wins := [] } | none => s
  let s := s.unholdCore p (resetKey domain)
  if (s.core p).hung then (s.modCore p fun c => { c with hangReset := true }).queueBeat p 1 0xF else s
theorem resetCoreEnd_eq (domain : Nat) (s : State) (p : Nat) :
    s.resetCoreEnd domain p = (s.coreCleared p).coreLeaves domain (!(s.core p).seqCmp) p := rfl
theorem coreLeaves_settles (domain : Nat) (off : Bool) (p : Nat) : Settles s (s.coreLeaves domain off p) := by
  have hpkg : Settles s (if off && s.cores.all (fun e => e.2.seqCmp) then s.modPkg fun g => { g with seqOnSince := some s.reel } else s) :=
    .ite _ ((Settles.refl s).of_same rfl rfl rfl) (.refl s)
  have hcut {u : State} (hu : Settles s u) : Settles s (match u.lcOf p with | some n => u.modLc n fun l => { l with slots := [], wins := [] } | none => u) := by
    split
    · exact hu.of_same rfl rfl rfl
    · exact hu
  have hend {u : State} (hu : Settles s u) : Settles s (u.unholdCore p (resetKey domain)) := hu.trans (.onlyHolds (.unholdCore _ _ (.refl _)))
  exact .ite _ (.queueBeat _ _ _ (.modCore _ _ (fun _ => id) (hend (hcut hpkg)))) (hend (hcut hpkg))
theorem coreCleared_settles (p : Nat) : Settles s (s.coreCleared p) := .emit _ (.emit _ (.modCore _ _ (fun _ _ => rfl) (.failDeferred _ (.refl s))))
theorem resetCoreEnd_settles (domain p : Nat) : Settles s (s.resetCoreEnd domain p) := (coreCleared_settles p).trans (coreLeaves_settles ..)
theorem coreCleared_resetting (p : Nat) : ((s.coreCleared p).core p).resetting = false := by
  change (((s.failDeferred p).modCore p resetTap).core p).resetting = false
  rw [modCore_core, if_pos rfl]
  rfl
theorem resetCoreEnd_resetting (domain p : Nat) : ((s.resetCoreEnd domain p).core p).resetting = false :=
  (coreLeaves_settles domain _ p).resetting p (coreCleared_resetting p)

theorem coreLeaves_keeps (domain : Nat) (off : Bool) (p : Nat) : Keeps false s (s.coreLeaves domain off p) := by
  have hpkg : Keeps false s (if off && s.cores.all (fun e => e.2.seqCmp) then s.modPkg fun g => { g with seqOnSince := some s.reel } else s) := by
    split
    · exact modPkg_keeps _ (fun _ => rfl) (.refl _ _)
    · exact .refl _ _
  have hcut {u : State} (hu : Keeps false s u) : Keeps false s (match u.lcOf p with | some n => u.modLc n fun l => { l with slots := [], wins := [] } | none => u) := by
    split
    · exact modLc_keeps _ _ hu
    · exact hu
  have hend {u : State} (hu : Keeps false s u) : Keeps false s (if (u.core p).hung then (u.modCore p fun c => { c with hangReset := true }).queueBeat p 1 0xF else u) := by
    split
    · exact queueBeat_keeps _ _ _ (modCore_keeps _ _ hu)
    · exact hu
  exact hend (unholdCore_keeps p (resetKey domain) (hcut hpkg))
theorem emits_resetCoreEnd (domain p : Nat) : Emits s (s.resetCoreEnd domain p) (.coreReset p) ∧ Emits s (s.resetCoreEnd domain p) (.zeroed p) := by
  have hk : Keeps false s ((s.failDeferred p).modCore p resetTap) := modCore_keeps _ _ (failDeferred_keeps _ (.refl _ _))
  rw [resetCoreEnd_eq]
  exact ⟨((emits_emit _ _).after_keeps hk).of_keeps (kp := false) (emit_keeps _ (.refl _ _)) |>.of_keeps (coreLeaves_keeps ..),
    ((emits_emit _ _).after_keeps (emit_keeps _ hk)).of_keeps (coreLeaves_keeps ..)⟩

/-- When every core of a domain has ended its reset, each is out of reset and told. -/
theorem each_resetCoreEnd (domain : Nat) (l : List Nat) : Settles s (each l (State.resetCoreEnd domain) s) ∧ ∀ p ∈ l,
    ((each l (State.resetCoreEnd domain) s).core p).resetting = false ∧ Emits s (each l (State.resetCoreEnd domain) s) (.coreReset p) ∧
      Emits s (each l (State.resetCoreEnd domain) s) (.zeroed p) := by
  refine ⟨.each _ _ (fun _ _ hu => hu.trans (resetCoreEnd_settles ..)) (.refl s), fun p hp => ?_⟩
  refine each_sets (Keeps false s) (fun t => (t.core p).resetting = false ∧ Emits s t (.coreReset p) ∧ Emits s t (.zeroed p))
    (fun b x hb => resetCoreEnd_keeps _ _ hb) (fun b hb => ?_) (fun b x _ h => ?_) l s hp (.refl _ _)
  · obtain ⟨hreset, hzero⟩ := emits_resetCoreEnd (s := b) domain p
    exact ⟨resetCoreEnd_resetting .., hreset.after_keeps hb, hzero.after_keeps hb⟩
  · obtain ⟨hcore, hreset, hzero⟩ := h
    have hk : Keeps false b (b.resetCoreEnd domain x) := resetCoreEnd_keeps _ _ (.refl _ _)
    exact ⟨(resetCoreEnd_settles ..).resetting p hcore, hreset.of_keeps hk, hzero.of_keeps hk⟩

theorem runningReset_congr (h : t.sh.resets = s.sh.resets) (domain k : Nat) : t.runningReset domain k = s.runningReset domain k := by
  rw [State.runningReset, h]
  rfl
theorem runningReset_dropReset (s : State) (domain k : Nat) : (s.dropReset domain k).runningReset domain k = none := by
  unfold State.runningReset State.dropReset
  rw [modSh_sh, List.find?_eq_none]
  intro r hr
  have hkeep := (List.mem_filter.mp hr).2
  simp only [Bool.or_eq_true, bne_iff_ne] at hkeep
  simp only [Bool.and_eq_true, beq_iff_eq]
  exact fun h => hkeep.elim (· h.1) (· h.2)
theorem resetDone_onlyHolds (s : State) (domain k start : Nat) (n : Nat × Nat) : OnlyHolds s (s.resetDone domain k start n) := .record _ _ _ _ _ _ (.refl s)
theorem lowerFence_resetDone_fences (s : State) (d f domain k start : Nat) (n : Nat × Nat) :
    f ∉ (((s.lowerFence d f).resetDone domain k start n).die d).fences := by
  rw [(resetDone_onlyHolds ..).dieField Die.fences (fun _ => rfl), State.lowerFence, modDie_die, if_pos rfl]
  simp

/-! ### What the return of an agent leaves -/

/-- The die's agent is in reset or out of it as before, its first stage is the same, and the same resets run. -/
structure SameAgent (d : Nat) (s t : State) : Prop where
  resets : t.sh.resets = s.sh.resets
  inReset : (t.die d).inReset = (s.die d).inReset
  first : (t.die d).first = (s.die d).first

namespace SameAgent
variable {d : Nat}

theorem refl (s : State) : SameAgent d s s := ⟨rfl, rfl, rfl⟩
theorem trans (h : SameAgent d s t) (h' : SameAgent d t u) : SameAgent d s u :=
  ⟨h'.resets.trans h.resets, h'.inReset.trans h.inReset, h'.first.trans h.first⟩
theorem of_same (h : SameAgent d s t) (hs : u.sh.resets = t.sh.resets) (hd : u.dies = t.dies) : SameAgent d s u :=
  h.trans ⟨hs, by rw [die_of_dies hd], by rw [die_of_dies hd]⟩
theorem of_books (h : SameAgent d s t) (hu : u.sansBooks = t.sansBooks) : SameAgent d s u :=
  h.of_same (shared_of_sansBooks (·.resets) (fun _ => rfl) hu) (dies_of_sansBooks hu)
theorem modDie (e : Nat) (f : Die → Die) (hf : ∀ k, (f k).inReset = k.inReset ∧ (f k).first = k.first) (h : SameAgent d s t) :
    SameAgent d s (t.modDie e f) := by
  have hdie : ((t.modDie e f).die d).inReset = (t.die d).inReset ∧ ((t.modDie e f).die d).first = (t.die d).first := by
    rw [modDie_die]
    split
    · next he => exact he ▸ hf _
    · exact ⟨rfl, rfl⟩
  exact h.trans ⟨rfl, hdie.1, hdie.2⟩
theorem modDist (kind : Nat) (f : Dist → Dist) (h : SameAgent d s t) : SameAgent d s (t.modDist kind f) := h.of_same rfl rfl
theorem ite (c : Prop) [Decidable c] (h : SameAgent d s t) (h' : SameAgent d s u) : SameAgent d s (if c then t else u) := by split <;> assumption
theorem each {α : Type} (l : List α) (f : State → α → State) (hf : ∀ t a, SameAgent d s t → SameAgent d s (f t a)) (h : SameAgent d s t) :
    SameAgent d s (Machine.each l f t) := each_holds (SameAgent d s) l f t hf h
theorem record (code severity source p1 p2 p3 : Nat) (h : SameAgent d s t) : SameAgent d s (t.record code severity source p1 p2 p3) :=
  h.of_books (record_sansBooks ..)
theorem chargeHold (p b : Nat) (h : SameAgent d s t) : SameAgent d s (t.chargeHold p b) := h.of_same rfl rfl
theorem ringHold (p key : Nat) (b : Bool) (h : SameAgent d s t) : SameAgent d s (t.ringHold p key b) :=
  h.of_same (((OnlyHolds.refl t).ringHold ..).shared (·.resets) (fun _ => rfl)) (ringHold_dies ..)
theorem unholdRegion (region key : Nat) (h : SameAgent d s t) : SameAgent d s (t.unholdRegion region key) := by
  unfold State.unholdRegion
  split
  · exact h
  · have hend : SameAgent d s (t.modSh fun h => { h with intervals := tset none h.intervals region none }) := h.of_same rfl rfl
    exact ite _ h (ite _ (ite _ ((hend.of_books (recordAt_sansBooks ..)).of_books (recordAt_sansBooks ..)) hend) (h.of_same rfl rfl))
theorem unholdDie (e key : Nat) (h : SameAgent d s t) : SameAgent d s (t.unholdDie e key) := by
  unfold State.unholdDie
  split
  · exact h
  · split
    · exact h
    · exact each _ _ (fun _ _ hu => (hu.ringHold ..).chargeHold ..) (h.unholdRegion ..)
theorem sendAgain (x : Txn) (h : SameAgent d s t) : SameAgent d s (t.sendAgain x) := by
  unfold State.sendAgain
  split <;> exact h.of_books (feltSend_sansBooks ..)
theorem reloadBanks (e : Nat) (h : SameAgent d s t) : SameAgent d s (t.reloadBanks e) := by
  have hload : SameAgent d s (Machine.each [1, 2, 3] (fun s k => if (s.reloadBytes k e).isEmpty then s else s.emit (.reload e k (s.reloadBytes k e))) t) :=
    each _ _ (fun b x hb => by
      split
      · exact hb
      · exact hb.of_same rfl rfl) h
  refine each _ _ (fun b k hb => ?_) (modDie e _ (fun _ => ⟨rfl, rfl⟩) hload)
  split
  · exact hb
  · split
    · exact hb
    · refine modDist _ _ ?_
      split
      · exact each _ _ (fun _ _ hu => hu.of_books (vatSend_sansBooks ..)) hb
      · exact hb
theorem serveAgent (e : Nat) (h : SameAgent d s t) : SameAgent d s (t.serveAgent e) :=
  reloadBanks e (each _ _ (fun _ _ hu => hu.sendAgain _) (modDie e _ (fun _ => ⟨rfl, rfl⟩) h))
theorem whenActing (i : Instr) (f : State → State) (hf : SameAgent d s (f t)) (h : SameAgent d s t) : SameAgent d s (t.whenActing i f) := by
  unfold State.whenActing
  split
  · exact h.of_same rfl rfl
  · exact hf

end SameAgent

/-! ### What a core's way out of service leaves -/

/-- The same resets run, in the same partitions under the same classes' reactions; a core that was DEFECTIVE, one that kept nothing, and a logical core
    that held no transfers are so still. -/
structure Down (s t : State) : Prop where
  resets : t.sh.resets = s.sh.resets
  partition : t.pkg.partition = s.pkg.partition
  classCfg : t.sh.classCfg = s.sh.classCfg
  defective : ∀ p, physState (s.phys p) = 3 → physState (t.phys p) = 3
  deferred : ∀ p, (s.core p).deferred = [] → (t.core p).deferred = []
  xfers : ∀ n, (s.lc n).heldXfers = [] → (t.lc n).heldXfers = []

namespace Down

theorem refl (s : State) : Down s s := ⟨rfl, rfl, rfl, fun _ => id, fun _ => id, fun _ => id⟩
theorem trans (h : Down s t) (h' : Down t u) : Down s u :=
  ⟨h'.resets.trans h.resets, h'.partition.trans h.partition, h'.classCfg.trans h.classCfg, fun p hp => h'.defective p (h.defective p hp),
    fun p hp => h'.deferred p (h.deferred p hp), fun n hn => h'.xfers n (h.xfers n hn)⟩
theorem onlyHolds (h : Down s t) (hu : OnlyHolds t u) : Down s u :=
  h.trans ⟨hu.shared (·.resets) (fun _ => rfl), congrArg Pkg.partition hu.pkg, hu.shared (·.classCfg) (fun _ => rfl), fun p hp => by rwa [State.phys, (hu.map.2 _).2],
    fun p hp => (hu.coreField Core.deferred (fun _ => rfl) p).trans hp, fun n hn => by rwa [hu.lc]⟩
theorem of_same (h : Down s t) (hr : u.sh.resets = t.sh.resets) (hc : u.sh.classCfg = t.sh.classCfg) (hp : u.pkg.partition = t.pkg.partition)
    (hd : u.dies = t.dies) (hcore : u.cores = t.cores) (hlc : u.lcs = t.lcs) : Down s u :=
  h.trans ⟨hr, hp, hc, fun p hp => by rwa [State.phys, die_of_dies hd], fun p hp => by rwa [State.core, hcore], fun n hn => by rwa [State.lc, hlc]⟩
theorem modSh (f : Shared → Shared) (hf : ∀ h, (f h).resets = h.resets ∧ (f h).classCfg = h.classCfg) (h : Down s t) : Down s (t.modSh f) :=
  h.of_same (hf _).1 (hf _).2 rfl rfl rfl rfl
theorem modCtx (c : Nat) (f : Ctx → Ctx) (h : Down s t) : Down s (t.modCtx c f) := h.of_same rfl rfl rfl rfl rfl rfl
theorem modPkg (f : Pkg → Pkg) (hf : ∀ g, (f g).partition = g.partition) (h : Down s t) : Down s (t.modPkg f) := h.of_same rfl rfl (hf _) rfl rfl rfl
theorem modCore (p : Nat) (f : Core → Core) (hf : ∀ c, c.deferred = [] → (f c).deferred = []) (h : Down s t) : Down s (t.modCore p f) :=
  h.trans ⟨rfl, rfl, rfl, fun _ => id, fun q hq => by
    rw [modCore_core]
    split
    · next he => exact hf _ (he ▸ hq)
    · exact hq, fun _ => id⟩
theorem modLc (n : Nat) (f : Lc → Lc) (hf : ∀ l, l.heldXfers = [] → (f l).heldXfers = []) (h : Down s t) : Down s (t.modLc n f) :=
  h.trans ⟨rfl, rfl, rfl, fun _ => id, fun _ => id, fun m hm => by
    rw [modLc_lc]
    split
    · next he => exact hf _ (he ▸ hm)
    · exact hm⟩
theorem modDie (d : Nat) (f : Die → Die) (hf : ∀ k, (f k).phys = k.phys) (h : Down s t) : Down s (t.modDie d f) :=
  h.trans ⟨rfl, rfl, rfl, fun p hp => by
    rw [State.phys, modDie_die]
    split
    · next he => rwa [hf, ← he]
    · exact hp, fun _ => id, fun _ => id⟩
theorem ite (c : Prop) [Decidable c] (h : Down s t) (h' : Down s u) : Down s (if c then t else u) := by split <;> assumption
theorem each {α : Type} (l : List α) (f : State → α → State) (hf : ∀ t a, Down s t → Down s (f t a)) (h : Down s t) :
    Down s (Machine.each l f t) := each_holds (Down s) l f t hf h
theorem emit (o : Out) (h : Down s t) : Down s (t.emit o) := h.onlyHolds (.emit _ (.refl _))
theorem vatSend (ty mode dst : Nat) (words : List Nat) (h : Down s t) : Down s (t.vatSend ty mode dst words) := h.onlyHolds (.vatSend _ _ _ _ (.refl _))

theorem startTeardown (c trigger : Nat) (h : Down s t) : Down s (t.startTeardown c trigger) := by
  unfold State.startTeardown
  exact ite _ (each _ _ (fun _ _ hu => hu.vatSend ..) (modPkg _ (fun _ => rfl) (onlyHolds (modCtx _ _ h) (.mirror (.refl _))))) h
theorem queueReset (domain k source : Nat) (h : Down s t) : Down s (t.queueReset domain k source) := by
  refine modSh _ (fun _ => ⟨rfl, rfl⟩) (h.onlyHolds ?_)
  exact .ite _ (.each _ _ (fun _ _ hu => hu.holdDie ..) (.refl _)) (.each _ _ (fun _ _ hu => hu.holdCore ..) (.refl _))
theorem setStall (p reason : Nat) (aw : Option Nat) (h : Down s t) : Down s (t.setStall p reason aw) := by
  unfold State.setStall
  exact ite _ h (h.modCore _ _ fun _ => id)
theorem handshake (p : Nat) (l : List Nat) (h : Down s t) : Down s (t.handshake p l) := by
  unfold State.handshake
  have hstop := h.modDie (coreDie p) (fun k => { k with beater := { k.beater with stopping := true } }) fun _ => rfl
  exact ite _ h (ite _ (hstop.setStall ..) (h.setStall ..))
theorem unpark (p : Nat) (hp : (t.core p).deferred = []) (h : Down s t) : Down s (t.unpark p) := by
  have hring := OnlyHolds.tapRing p 8 (t.die (coreDie p)).beater.slice (OnlyHolds.refl (t.modCore p fun c => { c with parked := false }))
  have hnone : (((t.modCore p fun c => { c with parked := false }).tapRing p 8 (t.die (coreDie p)).beater.slice).core p).deferred = [] := by
    rw [hring.coreField Core.deferred (fun _ => rfl), modCore_core, if_pos rfl]
    exact hp
  refine ite _ h ?_
  unfold State.applyKept
  rw [hnone]
  exact modCore _ (fun c => { c with deferred := [] }) (fun _ _ => rfl) ((h.modCore p (fun c => { c with parked := false }) fun _ => id).onlyHolds hring)
theorem freePark (p : Nat) (hp : (t.core p).deferred = []) (h : Down s t) : Down s (t.freePark p) := ite _ h (h.unpark p hp)
theorem releaseXfers (n : Nat) (hn : (t.lc n).heldXfers = []) (h : Down s t) : Down s (t.releaseXfers n) := by
  unfold State.releaseXfers
  rw [hn]
  have hfree := h.modLc n (fun l => { l with xferHold := false, heldXfers := [] }) fun _ _ => rfl
  exact each _ _ (fun _ _ hu => hu.handshake ..) hfree

end Down

/-! ### Counts of the deckle map and of contexts -/

/-- No tap is the source of a class of the package's own tables. -/
theorem sourceCore_of_classOf {src key : Nat} (h : classOf src = some key) (hk : 64 ≤ key) : sourceCore src = none := by
  unfold classOf at h
  unfold sourceCore
  refine if_neg fun hc => ?_
  rw [if_pos hc] at h
  split at h
  · have := Option.some.inj h
    omega
  · contradiction
theorem classOf_deckle {d key : Nat} (h : classOf (dieSource d 9) = some key) : key = 73 ∨ 104 ≤ d ∧ key = 233 := by
  have hd : sourceDie (dieSource d 9) = d := by unfold sourceDie dieSource; omega
  have hi : dieSource d 9 % 8192 = 7497 := by unfold dieSource; omega
  unfold classOf at h
  rw [hd, hi] at h
  by_cases h100 : d < 100
  · simp [h100] at h
    exact .inl h.symm
  · by_cases h104 : 104 ≤ d
    · simp only [show ¬ d < 96 by omega, h100, show d ≠ 96 by omega, show d ≠ 97 by omega, show d ≠ 98 by omega, show d ≠ 99 by omega,
        show d ≠ 100 by omega, show d ≠ 101 by omega, h104] at h
      simp at h
      exact .inr ⟨h104, h.2.symm⟩
    · simp [h100, h104, show ¬ d < 96 by omega, show d ≠ 96 by omega, show d ≠ 97 by omega, show d ≠ 98 by omega, show d ≠ 99 by omega] at h
theorem classOf_ctxFault {c key : Nat} (h : classOf (ctxSource c 0) = some key) : key = 232 := by
  have hd : sourceDie (ctxSource c 0) = 104 + c / 1024 := by unfold sourceDie ctxSource; omega
  have hi : ctxSource c 0 % 8192 % 8 = 0 := by unfold ctxSource; omega
  unfold classOf at h
  rw [hd] at h
  have hne {k : Nat} (hk : k < 104) : 104 + c / 1024 ≠ k := by omega
  simp [hne, hi, show ¬ 104 + c / 1024 < 96 by omega, show ¬ 104 + c / 1024 < 100 by omega] at h
  exact h.2.symm

namespace Down
variable {src key : Nat}

theorem takeBlk (hc : classOf src = some key) (hk : key = 73 ∨ 232 ≤ key) (h : Down s t) : Down s (t.takeBlk src) := by
  unfold State.takeBlk
  rw [hc]
  dsimp only
  rw [if_neg (by omega), if_neg (by omega), if_neg (by simp; omega), if_neg (by simp; omega), if_neg (by simp; omega), if_neg (by simp; omega)]
  split
  · exact ite _ (h.queueReset ..) (h.startTeardown ..)
  · exact h
theorem agentReact (d m : Nat) (hc : classOf src = some key) (hk : key = 73 ∨ 232 ≤ key) (h : Down s t) : Down s (t.agentReact d src m) := by
  have hnmi : OnlyHolds t (if bit m 3 then t.sendNmi d src else t) := .ite _ (.sendNmi _ _ (.refl t)) (.refl t)
  have hpin := h.onlyHolds (.ite (bit m 0 = true) (hnmi.setPin src) hnmi)
  exact ite _ (hpin.takeBlk hc hk) hpin
theorem agentCount (d : Nat) (x : Detail) (hk : ∀ key, classOf src = some key → key = 73 ∨ 232 ≤ key) (h : Down s t) : Down s (t.agentCount d src x) := by
  unfold State.agentCount
  split
  · exact h
  · next key hc =>
    dsimp only
    rw [if_neg (by have := hk key hc; simp; omega)]
    exact agentReact _ _ hc (hk key hc) (h.onlyHolds (.firstStage _ _ _ (.stopSlice _ (.refl _))))
theorem applyOne (key reel : Nat) (l : List Detail) (hc : sourceCore src = none) (h : Down s t) : Down s (t.applyOne src key reel l) := by
  have hact (u : State) : u.threshAction src key = u := by simp [State.threshAction, hc]
  have hpost (c : Prop) [Decidable c] {u : State} (hu : Down s u) : Down s (if c then u.postInt src else u) := ite _ (hu.onlyHolds (.postInt _ (.refl _))) hu
  have hrec := hpost ((bit (t.cfg key).each 4 && !l.isEmpty) = true) (h.onlyHolds (.faultRecs src key reel (t.bump src l.length reel).2 l (.bump src l.length reel (.refl t))))
  unfold State.applyOne
  dsimp only
  split
  · exact hrec
  · rw [hact]
    have hthresh (sev p1 p2 p3 : Nat) (u : Bool) := ite (key = 217) hrec (hrec.onlyHolds (.recordAt 0x0701 sev src reel u p1 p2 p3 (.refl _)))
    refine ite _ (vatSend _ _ _ _ (hpost _ (ite _ (modSh _ (fun _ => ⟨rfl, rfl⟩) (hthresh ..)) (hthresh ..))))
      (hpost _ (ite _ (modSh _ (fun _ => ⟨rfl, rfl⟩) (hthresh ..)) (hthresh ..)))
theorem vatCount (x : Detail) (hc : ∀ key, classOf src = some key → (key = 73 ∨ key = 232) ∧ s.noPkg key) (h : Down s t) : Down s (t.vatCount src x) := by
  unfold State.vatCount
  split
  · exact h
  · next key hkey =>
    obtain ⟨hk, hn⟩ := hc key hkey
    have hr := h.agentReact (t.agentOf src) (t.reactionsOf (t.agentOf src) src key) hkey (by omega)
    have hcore := sourceCore_of_classOf hkey (by omega)
    have hone {l : List Detail} {r : Nat} {u : State} (hu : Down s u) : Down s (u.applyBase src key r l) := by
      have hctx : Down s (match sourceCtx src with
          | some c => if key = 232 && !l.isEmpty then (u.applyOne src key r l).ctxFault c else u.applyOne src key r l
          | none => u.applyOne src key r l) := by
        split
        · exact ite _ (startTeardown _ _ (hu.applyOne key r l hcore)) (hu.applyOne key r l hcore)
        · exact hu.applyOne key r l hcore
      have hquiet (w : State) (b : Bool) (hw : Down s w) : w.pkgAfter src key b = w := by
        have hcfg : w.cfg key = s.cfg key := cfg_of_sh hw.classCfg key
        simp only [State.pkgAfter, hcfg, hn.1, hn.2, Bool.false_and, Bool.or_self, Bool.false_eq_true, if_false]
      unfold State.applyBase
      dsimp only
      exact (hquiet _ _ hctx).symm ▸ hctx
    have hcarry (u : State) : u.carryFault src key = false := by
      rcases hk with rfl | rfl <;> rfl
    dsimp only
    refine ite _ (hr.onlyHolds (.firstStage _ _ _ (.refl _))) ?_
    unfold State.applyCount
    rw [hkey]
    dsimp only
    split
    · rw [hcarry]
      exact hone hr
    · exact hone hr

end Down

/-! ### A core becomes DEFECTIVE -/

theorem physState_defective {cause : Nat} (h : cause < 64) : physState (physWord 3 false 0 cause) = 3 := by
  unfold physState physWord bits b2n
  simp
  omega
theorem causeOf_lt (src : Nat) : causeOf src < 64 := by
  unfold causeOf
  split <;> omega
theorem Down.setPhys_defective (p : Nat) {cause : Nat} (hc : cause < 64) (h : Down s t) : Down s (t.setPhys p (physWord 3 false 0 cause)) ∧
    physState ((t.setPhys p (physWord 3 false 0 cause)).phys p) = 3 := by
  unfold State.setPhys
  split
  · next he => exact ⟨h, he ▸ physState_defective hc⟩
  · have hp (q : Nat) : (t.modSlice (coreDie p) (DeckleSlice.setPhys (coreIndex p) (physWord 3 false 0 cause))).phys q =
        if coreDie q = coreDie p ∧ coreIndex q = coreIndex p then physWord 3 false 0 cause else t.phys q := by
      unfold State.modSlice State.phys
      rw [modSh_die, modDie_die]
      by_cases hd : coreDie q = coreDie p
      · rw [if_pos hd]
        change tget 0 (tset 0 (t.die (coreDie p)).phys (coreIndex p) _) (coreIndex q) = _
        rw [tget_tset, hd]
        simp
      · simp [hd]
    refine ⟨h.trans ⟨rfl, rfl, rfl, fun q hq => ?_, fun _ => id, fun _ => id⟩, ?_⟩
    · rw [hp]
      split
      · exact physState_defective hc
      · exact hq
    · rw [hp, if_pos ⟨rfl, rfl⟩]
      exact physState_defective hc
/-- An order as it leaves the acting Vat. -/
def State.orderSent (s : State) (d ty : Nat) (words : List Nat) : State :=
  let k := s.actDie * 4 + typeClass ty
  let x : Txn := { src := s.actDie, type := ty, mode := 0, dst := d, seq := tget 0 s.felt.seq k, words := s.epoch :: words }
  ((s.modFelt fun n => { n with seq := tset 0 n.seq k ((x.seq + 1) % 65536) }).inject x).emit (.felt x)
theorem orderNow_of_obeys {d : Nat} (ty : Nat) (words : List Nat) (ho : s.obeys d = true) : s.orderNow d ty words =
    (((s.orderSent d ty words).modDie d fun k => { k with epoch := (s.orderSent d ty words).epoch }).noteSeen d s.actDie ty
      (tget 0 s.felt.seq (s.actDie * 4 + typeClass ty))).ack d s.actDie ty (tget 0 s.felt.seq (s.actDie * 4 + typeClass ty)) 0 := by
  unfold State.orderNow
  dsimp only
  rw [if_pos ho]
  rfl
/-- An order that its die obeys changes the agent's epoch and what it has seen only. -/
theorem Down.orderNow {d : Nat} (ty : Nat) (words : List Nat) (ho : t.obeys d = true) (h : Down s t) : Down s (t.orderNow d ty words) := by
  have hsent : Down s (t.orderSent d ty words) := h.onlyHolds (.of_books (.refl t) (by simp [State.orderSent]))
  rw [orderNow_of_obeys ty words ho]
  generalize t.orderSent d ty words = u at hsent ⊢
  have hnew := hsent.modDie d (fun k => { k with epoch := u.epoch }) fun _ => rfl
  exact hnew.onlyHolds (.ack _ _ _ _ _ (.of_books (.refl _) (noteSeen_sansBooks ..)))
/-- A fencing order that its die obeys makes the core DEFECTIVE. -/
theorem Down.fenceCore (p : Nat) {cause : Nat} (hc : cause < 64) (ho : t.obeys (coreDie p) = true) (h : Down s t) : Down s (t.fenceCore p 3 cause) ∧
    physState ((t.fenceCore p 3 cause).phys p) = 3 := by
  unfold State.fenceCore
  split
  · next he => exact ⟨h, he⟩
  · rw [if_neg (show ¬ 3 = 0 by decide)]
    dsimp only
    obtain ⟨hdown, hmark⟩ := (h.orderNow 0x0C [p, 3, cause] ho).setPhys_defective p hc
    generalize (t.orderNow (coreDie p) 0x0C [p, 3, cause]).setPhys p (physWord 3 false 0 cause) = u at hdown hmark ⊢
    have hrec : OnlyHolds u (u.record 0x0802 3 (coreSource p 0) (3 * 2 ^ 20 + p) cause 0) := .record _ _ _ _ _ _ (.refl u)
    exact ⟨hdown.onlyHolds hrec, (Down.onlyHolds (.refl _) hrec).defective p hmark⟩
theorem obeys_of_onlyHolds (h : OnlyHolds s t) (d : Nat) : t.obeys d = s.obeys d := by
  unfold State.obeys
  rw [h.epoch, h.dieField Die.epoch (fun _ => rfl)]
theorem unplace_spec (s : State) (n : Nat) : Down s (s.unplace n) ∧ ∀ d, (s.unplace n).obeys d = s.obeys d := by
  unfold State.unplace State.setHome
  split
  · exact ⟨.refl s, fun _ => rfl⟩
  · have hdie (d : Nat) : ((s.modSlice (s.homeDie n) (DeckleSlice.setHome (s.homeSlot n % 144) (homeWord false n 0))).die d).phys = (s.die d).phys ∧
        ((s.modSlice (s.homeDie n) (DeckleSlice.setHome (s.homeSlot n % 144) (homeWord false n 0))).die d).epoch = (s.die d).epoch := by
      unfold State.modSlice
      rw [modSh_die, modDie_die]
      split
      · next he => exact he ▸ ⟨rfl, rfl⟩
      · exact ⟨rfl, rfl⟩
    refine ⟨⟨rfl, rfl, rfl, fun p hp => ?_, fun _ => id, fun _ => id⟩, fun d => ?_⟩
    · rwa [State.phys, (hdie _).1]
    · rw [State.obeys, (hdie d).2]
      rfl
theorem Down.checkHome (d : Nat) (hn : s.noPkg 73) (h : Down s t) : Down s (t.checkHome d) := by
  refine ite _ h (agentCount _ _ (fun key hk => ?_) ?_)
  · have := classOf_deckle hk
    omega
  · unfold State.checkDeckle
    split
    · next hc =>
      refine vatCount _ (fun key hk => ?_) (modSh _ (fun _ => ⟨rfl, rfl⟩) h)
      obtain rfl | ⟨hd, -⟩ := classOf_deckle hk
      · exact ⟨.inl rfl, hn⟩
      · simp only [isCompute, Bool.and_eq_true, decide_eq_true_eq] at hc
        omega
    · exact h
theorem Down.faultCtx (c layer oper : Nat) (hn : s.noPkg 232) (h : Down s t) : Down s (t.faultCtx c layer oper) :=
  ite _ (h.vatCount _ fun key hk => by
    obtain rfl := classOf_ctxFault hk
    exact ⟨.inr rfl, hn⟩) h
/-- The order that makes a core DEFECTIVE, once its logical core is unplaced and its holds are down. -/
def State.leavesCore (s : State) (n p cause : Nat) : State :=
  ((((s.modCore p fun k => { k with lastLstep := (s.lc n).lstep, restart := [], deferred := [], runTo := none }).unplace n).thawCore p).unholdCore p 1).fenceCore
    p 3 cause
/-- The takedown of a carrier, before its deckle copies are compared: the logical core is listed as unplaced. -/
def State.takenOut (s : State) (n p cause : Nat) : State :=
  (((s.leavesCore n p cause).freePark p).releaseXfers n).modSh fun h =>
    { h with unplaced := tset none h.unplaced n (some (p, (((s.leavesCore n p cause).freePark p).releaseXfers n).now))
             replaces := h.replaces.filter fun r => r.lc != n }
theorem takeDown_eq (s : State) (n p cause : Nat) : s.takeDown n p 3 cause =
    each ((s.takenOut n p cause).lcUsers n) (fun u c => u.faultCtx c (((s.takenOut n p cause).lc n).oper.getD (0, 0)).1
      (((s.takenOut n p cause).lc n).oper.getD (0, 0)).2) ((s.takenOut n p cause).mirror.checkHome ((s.takenOut n p cause).homeDie n)) := rfl
theorem Down.leavesCore (n : Nat) {p cause : Nat} (hc : cause < 64) (ho : t.obeys (coreDie p) = true) (h : Down s t) :
    Down s (t.leavesCore n p cause) ∧ physState ((t.leavesCore n p cause).phys p) = 3 ∧ ((t.leavesCore n p cause).core p).deferred = [] := by
  unfold State.leavesCore
  have hcut := h.modCore p (fun k => { k with lastLstep := (t.lc n).lstep, restart := [], deferred := [], runTo := none }) fun _ _ => rfl
  have hnone : ((t.modCore p fun k => { k with lastLstep := (t.lc n).lstep, restart := [], deferred := [], runTo := none }).core p).deferred = [] := by
    rw [modCore_core, if_pos rfl]
  have hcobey : (t.modCore p fun k => { k with lastLstep := (t.lc n).lstep, restart := [], deferred := [], runTo := none }).obeys (coreDie p) = true := ho
  generalize (t.modCore p fun k => { k with lastLstep := (t.lc n).lstep, restart := [], deferred := [], runTo := none }) = a at hcut hnone hcobey ⊢
  obtain ⟨hplace, hpobey⟩ := unplace_spec a n
  have hends (u : State) : OnlyHolds (u.modCore p fun c => { c with frozen := false }) ((u.thawCore p).unholdCore p 1) :=
    .unholdCore _ _ (.unholdCore _ _ (.refl _))
  have hthawed := (hplace.modCore p (fun c => { c with frozen := false }) fun _ => id).onlyHolds (hends _)
  obtain ⟨hfence, hmark⟩ := hthawed.fenceCore p hc ((obeys_of_onlyHolds (hends _) _).trans ((hpobey _).trans hcobey))
  exact ⟨hcut.trans hfence, hmark, hfence.deferred p hnone⟩
/-- A carrier leaves service: its core is DEFECTIVE, and no reset has begun or ended by it. -/
theorem Down.takeDown {n p cause : Nat} (hc : cause < 64) (ho : t.obeys (coreDie p) = true) (h73 : s.noPkg 73) (h232 : s.noPkg 232)
    (hx : (s.lc n).heldXfers = []) (h : Down s t) : Down s (t.takeDown n p 3 cause) ∧ physState ((t.takeDown n p 3 cause).phys p) = 3 := by
  obtain ⟨hleft, hmark, hnone⟩ := h.leavesCore n hc ho
  have hout : Down s (t.takenOut n p cause) ∧ Down (t.leavesCore n p cause) (t.takenOut n p cause) := by
    unfold State.takenOut
    generalize t.leavesCore n p cause = b at hleft hnone ⊢
    have hrel (u : State) (hu : Down u b) (hux : (u.lc n).heldXfers = []) : Down u ((b.freePark p).releaseXfers n) :=
      (hu.freePark p hnone).releaseXfers n ((hu.freePark p hnone).xfers n hux)
    exact ⟨modSh _ (fun _ => ⟨rfl, rfl⟩) (hrel s hleft hx), modSh _ (fun _ => ⟨rfl, rfl⟩) (hrel b (.refl b) (hleft.xfers n hx))⟩
  obtain ⟨hout, hsince⟩ := hout
  rw [takeDown_eq]
  generalize t.takenOut n p cause = w at hout hsince ⊢
  have hrest {u : State} (hu : Down u w) (h73 : u.noPkg 73) (h232 : u.noPkg 232) : Down u (Machine.each (w.lcUsers n) (fun u c => u.faultCtx c ((w.lc n).oper.getD (0, 0)).1
      ((w.lc n).oper.getD (0, 0)).2) (w.mirror.checkHome (w.homeDie n))) :=
    each _ _ (fun _ _ hv => hv.faultCtx _ _ _ h232) (checkHome _ h73 (hu.onlyHolds (.mirror (.refl _))))
  have hcfg (key : Nat) (hn : s.noPkg key) : (t.leavesCore n p cause).noPkg key := by
    rwa [State.noPkg, cfg_of_sh hleft.classCfg]
  exact ⟨hrest hout h73 h232, (hrest hsince (hcfg _ h73) (hcfg _ h232)).defective p hmark⟩

/-! ### A reset begins -/

theorem Down.loseScratchpad (p : Nat) (h : Down s t) : Down s (t.loseScratchpad p) := by
  have hfill : Down s (Machine.each (t.fillsFrom p) (fun s q => s.emit (.fill p q true)) t) := each _ _ (fun _ _ hu => hu.emit _) h
  unfold State.loseScratchpad
  dsimp only
  split
  · exact ite _ hfill (startTeardown _ _ (hfill.onlyHolds (.firstStage _ _ _ (.refl _))))
  · exact hfill
theorem Down.resetCoreBegin (domain p : Nat) (h : Down s t) : Down s (t.resetCoreBegin domain p) := by
  have htd : Down s (match (t.loseScratchpad p).coreCtx p with
      | some c => (t.loseScratchpad p).startTeardown c 5
      | none => t.loseScratchpad p) := by
    split
    · exact (h.loseScratchpad p).startTeardown ..
    · exact h.loseScratchpad p
  exact (htd.modCore p (fun c => { c with resetting := true }) fun _ => id).onlyHolds (.holdCore _ _ (.refl _))
theorem resetCoreBegin_resetting (domain : Nat) (s : State) (p : Nat) : ((s.resetCoreBegin domain p).core p).resetting = true := by
  unfold State.resetCoreBegin
  rw [(OnlyHolds.holdCore _ _ (.refl _)).coreField Core.resetting (fun _ => rfl), modCore_core, if_pos rfl]
theorem Down.raiseFence (d f : Nat) (h : Down s t) : Down s (t.raiseFence d f) :=
  (h.modDie d (fun k => { k with fences := insertNat f k.fences, fenceCount := if k.fences.isEmpty then (0, 0) else k.fenceCount }) fun _ => rfl).onlyHolds
    (.dieRing _ _ _ (.refl _))
/-- A reset is listed as one that runs. -/
def State.listReset (s : State) (domain k source : Nat) : State :=
  s.modSh fun h => { h with resets := h.resets ++ [(domain, k, s.now, source, source == 0)] }
theorem runningReset_listReset (s : State) (domain k source : Nat) : (s.listReset domain k source).runningReset domain k ≠ none := by
  simp [State.runningReset, State.listReset, List.find?_append]
theorem runningReset_listReset_other (s : State) {domain k e j : Nat} (source : Nat) (h : domain ≠ e) :
    (s.listReset domain k source).runningReset e j = s.runningReset e j := by
  simp [State.runningReset, State.listReset, List.find?_append, h]
/-- The reset of a cluster that is in none makes it run; every other fact of a core's way out of service stays. -/
theorem beginReset_cluster (k source : Nat) (h : s.resetting 1 k = false) : Down (s.listReset 1 k source) (s.beginReset 1 k source) := by
  unfold State.beginReset
  rw [h]
  exact Down.each _ _ (fun _ _ hu => hu.resetCoreBegin ..) (Down.raiseFence _ _ (.refl (s.listReset 1 k source)))
/-- The reset of a core that is in none makes it run. -/
theorem beginReset_core (p source : Nat) (h : s.resetting 0 p = false) :
    ((s.beginReset 0 p source).core p).resetting = true ∧ (s.beginReset 0 p source).runningReset 0 p ≠ none := by
  unfold State.beginReset
  rw [h]
  have hdown : Down (s.listReset 0 p source) (((s.listReset 0 p source).raiseFence (coreDie p) (16 + coreIndex p)).resetCoreBegin 0 p) :=
    .resetCoreBegin _ _ (.raiseFence _ _ (.refl _))
  exact ⟨resetCoreBegin_resetting .., fun hnone => runningReset_listReset s 0 p source ((runningReset_congr hdown.resets ..).symm.trans hnone)⟩
theorem resetting_congr (hr : t.sh.resets = s.sh.resets) (hp : t.pkg.partition = s.pkg.partition) (domain k : Nat) :
    t.resetting domain k = s.resetting domain k := by
  unfold State.resetting State.partOf
  rw [hr, hp]
/-- A request at the core rung, below the rung's count, resets the core. -/
theorem requestCore_core (p source : Nat) (h : s.resetting 0 p = false) (hn : (s.coreRung (s.partOf (coreDie p))).count < (s.ladder (s.partOf (coreDie p))).1) :
    ((s.requestCore 0 p source).core p).resetting = true ∧ (s.requestCore 0 p source).runningReset 0 p ≠ none := by
  unfold State.requestCore
  simp only [h, Bool.false_eq_true, if_false, if_true, Nat.not_le.mpr hn]
  exact beginReset_core p source ((resetting_congr rfl rfl 0 p).trans h)

theorem lowered_resetting (s : State) (d f domain k start : Nat) (n : Nat × Nat) (p : Nat) :
    (((s.lowerFence d f).resetDone domain k start n).core p).resetting = (s.core p).resetting := (resetDone_onlyHolds ..).coreField Core.resetting (fun _ => rfl) p
theorem lowered_resets (s : State) (d f domain k start : Nat) (n : Nat × Nat) : ((s.lowerFence d f).resetDone domain k start n).sh.resets = s.sh.resets :=
  ((resetDone_onlyHolds (s.lowerFence d f) domain k start n).shared Shared.resets (fun _ => rfl) :)
theorem lowered_keeps (d f domain k start : Nat) (n : Nat × Nat) (h : Keeps false s t) : Keeps false s ((t.lowerFence d f).resetDone domain k start n) :=
  resetDone_keeps _ _ _ _ (lowerFence_keeps _ _ h)
/-- A core's reset ends: the core is out of reset, its fence is down, and its reset and the zeroing are told. -/
theorem coreReset_ends (s : State) (p start : Nat) (n : Nat × Nat) :
    let t := ((each [p] (State.resetCoreEnd 0) (s.dropReset 0 p)).mirror.lowerFence (coreDie p) (16 + coreIndex p)).resetDone 0 p start n
    (t.core p).resetting = false ∧ t.runningReset 0 p = none ∧ 16 + coreIndex p ∉ (t.die (coreDie p)).fences ∧ Emits s t (.coreReset p) ∧
      Emits s t (.zeroed p) := by
  obtain ⟨hset, hall⟩ := each_resetCoreEnd 0 [p] (s := s.dropReset 0 p)
  obtain ⟨hcore, hreset, hzero⟩ := hall p (List.mem_singleton_self p)
  generalize each [p] (State.resetCoreEnd 0) (s.dropReset 0 p) = u at hset hcore hreset hzero ⊢
  have hdrop : Keeps false s (s.dropReset 0 p) := dropReset_keeps _ _ (.refl _ _)
  have hk := lowered_keeps (coreDie p) (16 + coreIndex p) 0 p start n (mirror_keeps (.refl _ u))
  exact ⟨(lowered_resetting ..).trans ((Settles.onlyHolds (.mirror (.refl u))).resetting p hcore),
    (runningReset_congr ((lowered_resets ..).trans (hset.trans (.onlyHolds (.mirror (.refl u)))).resets) 0 p).trans (runningReset_dropReset s 0 p),
    lowerFence_resetDone_fences _ _ _ _ _ _ _, (hreset.after_keeps hdrop).of_keeps hk, (hzero.after_keeps hdrop).of_keeps hk⟩
/-- A cluster's reset ends likewise, with every core of it. -/
theorem clusterReset_ends (s : State) (k start : Nat) (n : Nat × Nat) :
    let t := (((each (clusterCores (k / 16) (k % 16)) (State.resetCoreEnd 1) (s.dropReset 1 k)).mirror.emit (.clusterZeroed (k / 16) (k % 16))).lowerFence
      (k / 16) (k % 16)).resetDone 1 k start n
    t.runningReset 1 k = none ∧ k % 16 ∉ (t.die (k / 16)).fences ∧ Emits s t (.clusterZeroed (k / 16) (k % 16)) ∧
      ∀ p ∈ clusterCores (k / 16) (k % 16), (t.core p).resetting = false ∧ Emits s t (.coreReset p) := by
  obtain ⟨hset, hall⟩ := each_resetCoreEnd 1 (clusterCores (k / 16) (k % 16)) (s := s.dropReset 1 k)
  have hdrop : Keeps false s (s.dropReset 1 k) := dropReset_keeps _ _ (.refl _ _)
  have heach : Keeps false s (each (clusterCores (k / 16) (k % 16)) (State.resetCoreEnd 1) (s.dropReset 1 k)) :=
    each_keepsS _ _ (fun _ _ h => resetCoreEnd_keeps _ _ h) hdrop
  generalize each (clusterCores (k / 16) (k % 16)) (State.resetCoreEnd 1) (s.dropReset 1 k) = u at hset hall heach ⊢
  have hlow := lowered_keeps (k / 16) (k % 16) 1 k start n (.refl _ (u.mirror.emit (.clusterZeroed (k / 16) (k % 16))))
  have hk := lowered_keeps (k / 16) (k % 16) 1 k start n (emit_keeps (.clusterZeroed (k / 16) (k % 16)) (mirror_keeps (.refl _ u)))
  have hmir : Settles u (u.mirror.emit (.clusterZeroed (k / 16) (k % 16))) := .emit _ (.onlyHolds (.mirror (.refl u)))
  refine ⟨(runningReset_congr ((lowered_resets ..).trans (hset.trans hmir).resets) 1 k).trans (runningReset_dropReset s 1 k), lowerFence_resetDone_fences _ _ _ _ _ _ _,
    ((emits_emit _ _).after_keeps (mirror_keeps heach)).of_keeps hlow, fun p hp => ?_⟩
  obtain ⟨hcore, hreset, -⟩ := hall p hp
  exact ⟨(lowered_resetting ..).trans (hmir.resetting p hcore), (hreset.after_keeps hdrop).of_keeps hk⟩
/-- An overrun of a core's reset makes the core DEFECTIVE, and no reset begins or ends by it. -/
theorem overrun_defective {p cause : Nat} (hc : cause < 64) (ho : s.obeys (coreDie p) = true) (h73 : s.noPkg 73) (h232 : s.noPkg 232)
    (hx : ∀ n, s.lcOf p = some n → (s.lc n).heldXfers = []) :
    Down s (match s.lcOf p with | some n => s.takeDown n p 3 cause | none => s.fenceCore p 3 cause) ∧
      physState ((match s.lcOf p with | some n => s.takeDown n p 3 cause | none => s.fenceCore p 3 cause).phys p) = 3 := by
  split
  · next n hn => exact (Down.refl s).takeDown hc ho h73 h232 (hx n hn)
  · exact (Down.refl s).fenceCore p hc ho

end

/-- What follows an overrun: the mark, the MRAM write, and the reset of the core's cluster. -/
theorem coreOverrun_ends {s t : State} {p k : Nat} (hb : Down s t ∧ physState (t.phys p) = 3) (hcl : s.resetting 1 k = false) (hr : s.runningReset 0 p = none)
    (c : Prop) [Decidable c] (m : Pkg → Table (Option Nat)) (source : Nat) :
    let u := (if c then t else t.modPkg fun g => { g with marks := m g }).mramWrite.beginReset 1 k source
    physState (u.phys p) = 3 ∧ u.runningReset 0 p = none ∧ u.runningReset 1 k ≠ none := by
  obtain ⟨hdown, hmark⟩ := hb
  have hkept {v : State} (hv : Down v t) : Down v (if c then t else t.modPkg fun g => { g with marks := m g }).mramWrite :=
    have hm : Down v (t.modPkg fun g => { g with marks := m g }) := hv.modPkg _ fun _ => rfl
    (Down.ite c hv hm).onlyHolds (.mramWrite (.refl _))
  have hown := (hkept (.refl t)).defective p hmark
  have hsince := hkept hdown
  generalize (if c then t else t.modPkg fun g => { g with marks := m g }).mramWrite = w at hsince hown ⊢
  have hnew := beginReset_cluster k source ((resetting_congr hsince.resets hsince.partition 1 k).trans hcl)
  refine ⟨hnew.defective p hown, ?_, fun hnone => runningReset_listReset w 1 k source ((runningReset_congr hnew.resets 1 k).symm.trans hnone)⟩
  rw [runningReset_congr hnew.resets, runningReset_listReset_other _ _ (by decide), runningReset_congr hsince.resets]
  exact hr
/-- The reset that overran is off the list and its fence down; the map, the orders its die obeys and every other reset are as before. -/
theorem overrun_starts (s : State) (p k : Nat) (hcl : s.resetting 1 k = false) :
    SameMap s ((s.dropReset 0 p).lowerFence (coreDie p) (16 + coreIndex p)) ∧
      (∀ d, ((s.dropReset 0 p).lowerFence (coreDie p) (16 + coreIndex p)).obeys d = s.obeys d) ∧
      ((s.dropReset 0 p).lowerFence (coreDie p) (16 + coreIndex p)).resetting 1 k = false := by
  refine ⟨SameMap.modDie (s := s.dropReset 0 p) _ _ fun _ => ⟨rfl, rfl⟩, fun d => ?_, ?_⟩
  · unfold State.obeys State.lowerFence
    rw [modDie_die]
    split
    · next he => rw [he]; rfl
    · rfl
  · unfold State.resetting at hcl ⊢
    rw [List.any_eq_false] at hcl ⊢
    exact fun r hr => hcl r (List.mem_filter.mp hr).1
/-- What follows an agent's reset leaves it out of reset with an empty first stage. -/
theorem agentReturn_same (s : State) (d start : Nat) :
    let a := ((s.modDie d fun k => { resetAgent d k with repeats := k.repeats }).dropReset 2 d).modSh fun h =>
      { h with nearDies := h.nearDies.filter (· != d) }
    SameAgent d a (((((((a.correctReel d a.reel).dropAgentHolds d).unholdDie d (resetKey 2)).dieRing d 0x24 d).resetDone 2 d start (0, 0)).mirror).whenActing
      (.agentResetDone d) fun s => s.serveAgent d) := by
  intro a
  have hreel : SameAgent d a (a.correctReel d a.reel) := by
    unfold State.correctReel
    exact (SameAgent.refl a).modDie _ _ fun _ => ⟨rfl, rfl⟩
  have hheld := (((hreel.unholdDie d 3).unholdDie d 4).unholdDie d isolateKey).unholdDie d (resetKey 2)
  have hring : SameAgent d a ((((a.correctReel d a.reel).dropAgentHolds d).unholdDie d (resetKey 2)).dieRing d 0x24 d) := hheld.modDie _ _ fun _ => ⟨rfl, rfl⟩
  have hback : SameAgent d a (((((a.correctReel d a.reel).dropAgentHolds d).unholdDie d (resetKey 2)).dieRing d 0x24 d).resetDone 2 d start (0, 0)).mirror :=
    (hring.record ..).of_books (mirror_sansBooks _)
  exact .whenActing _ _ (.serveAgent d hback) hback
/-- Settles O25: each end of a reset clears what it names; an overrun core becomes DEFECTIVE and its cluster is reset; a teardown that overruns resets the
    core below the rung's count; and the power-cycle request goes out again. -/
theorem resetEventsComplete : Obligations.ResetEventsComplete := by
  refine ⟨fun s p r hr => ?_, fun s k r hr => ?_, fun s v p r ha hr hcl ho h73 h232 hx => ?_, fun s d r hd hr ht => ?_, fun s v c x p ha hh hc hp hx hstep hcc hr hn => ?_,
    fun s hp hn => ?_⟩
  · refine ⟨_, guardId_of_true rfl, ?_⟩
    rw [hr]
    exact coreReset_ends ..
  · refine ⟨_, guardId_of_true rfl, ?_⟩
    rw [hr]
    exact clusterReset_ends ..
  · refine ⟨_, guardId_of_true rfl, ?_⟩
    rw [whenActing_acting ha, hr]
    obtain ⟨hmap, hobey, hreset⟩ := overrun_starts s p (coreDie p * 16 + coreCluster p) hcl
    have hcause : (if r.2.2.2.2 then 0x3F else causeOf r.2.2.2.1) < 64 := by
      have := causeOf_lt r.2.2.2.1
      split <;> omega
    exact coreOverrun_ends (overrun_defective hcause ((hobey _).trans ho) h73 h232 fun n hn => hx n ((hmap.lcOf p).symm.trans hn)) hreset
      (runningReset_dropReset s 0 p) ..
  · refine ⟨_, guardId_of_true hd, ?_⟩
    rw [hr]
    dsimp only
    rw [ht, Option.filter_none]
    obtain ⟨hreset, hin, hfirst⟩ := agentReturn_same s d r.2.2.1
    rw [hin, hfirst]
    exact ⟨by simp [State.dropReset, resetAgent], fun _ => by simp [State.dropReset, resetAgent], (runningReset_congr hreset 2 d).trans (runningReset_dropReset _ 2 d)⟩
  · refine ⟨_, guardId_of_true (by simp [hc, hp]), ?_⟩
    rw [whenActing_acting ha, hx]
    dsimp only
    rw [if_pos hstep, List.filter_cons_of_pos (by simp [hcc])]
    have hb : (s.escalate (ctxSource c 0) 0 1 0 (s.leaked (ctxSource c 0)).count).sansBooks = s.sansBooks := record_sansBooks ..
    refine requestCore_core p _ ((resetting_congr (shared_of_sansBooks (·.resets) (fun _ => rfl) hb) (congrArg Pkg.partition (pkg_of_sansBooks hb)) 0 p).trans hr) ?_
    rwa [State.coreRung, State.ladder, State.partOf, shared_of_sansBooks (·.ladderCfg) (fun _ => rfl) hb, shared_of_sansBooks (·.coreRung) (fun _ => rfl) hb, pkg_of_sansBooks hb, now_of_sansBooks hb]
  · refine ⟨_, rfl, ?_⟩
    rw [if_pos hp, State.sendPowerReq]
    dsimp only
    rw [if_neg (Nat.not_le.mpr hn)]
    rw [pkg_record]
    refine ⟨((emits_emit _ _).after_keeps (record_keeps _ _ _ _ _ _ (.refl false _))).of_keeps (modPkg_keeps _ (fun _ => rfl) (.refl false _)), ?_⟩
    exact congrArg (·.powerReqs + 1) (pkg_record ..)

end Sys2Proof.Machine
end

section
/-! SUPPORT. The commands on the deckle map, the ladder and service (R181, R279, R283, R286, R287). -/

namespace Sys2Proof.Machine

section
variable {s t u : State} {rq : Req}

/-- A packet that no ROM answers is taken only while a Vat is ACTIVE: orders are carried out (Table 13.3). -/
theorem orders_of_takes {op : OpInfo} {ctxs : List Nat} {ok : Bool} (h : s.takes rq op ctxs ok = true) (hr : op.rom = false) (hb : op.kind ≠ .base) :
    s.orders = true := by
  obtain ⟨hact, -, -, -, hcheck, -⟩ := (takes_iff s rq op ctxs ok).mp h
  unfold State.checkPacket at hcheck
  dsimp only at hcheck
  obtain ⟨-, hcheck⟩ := of_ite_some_eq_none hcheck
  obtain ⟨-, hcheck⟩ := of_ite_some_eq_none hcheck
  obtain ⟨-, hcheck⟩ := of_ite_some_eq_none hcheck
  obtain ⟨-, hcheck⟩ := of_ite_some_eq_none hcheck
  obtain ⟨-, hcheck⟩ := of_ite_some_eq_none hcheck
  obtain ⟨-, hcheck⟩ := of_ite_some_eq_none hcheck
  obtain ⟨-, hcheck⟩ := of_ite_some_eq_none hcheck
  obtain ⟨-, hcheck⟩ := of_ite_some_eq_none hcheck
  obtain ⟨-, hcheck⟩ := of_ite_some_eq_none hcheck
  obtain ⟨-, hcheck⟩ := of_ite_some_eq_none hcheck
  obtain ⟨-, hcheck⟩ := of_ite_some_eq_none hcheck
  obtain ⟨hrom, -⟩ := of_ite_some_eq_none hcheck
  unfold State.orders
  cases hh : s.activeHub with
  | some v => rw [hact]; rfl
  | none => simp [hh, hr, hb] at hrom

/-- A reset that is asked for at the core rung, below the rung's count, is carried out by a Vat that gives orders (R279). -/
theorem requestReset_core (p source : Nat) (ho : s.orders = true) (hr : s.resetting 0 p = false)
    (hn : (s.coreRung (s.partOf (coreDie p))).count < (s.ladder (s.partOf (coreDie p))).1) :
    ((s.requestReset 0 p source).core p).resetting = true ∧ (s.requestReset 0 p source).runningReset 0 p ≠ none := by
  unfold State.requestReset
  rw [if_neg (by simp [ho])]
  exact requestCore_core p source hr hn

/-! ### The deckle map -/

theorem sliceWords_of_slice (h : t.slice d = s.slice d) (seg : Nat) : t.sliceWords d seg = s.sliceWords d seg := by
  unfold State.sliceWords
  dsimp only
  rw [show (t.die d).phys = (s.die d).phys from congrArg DeckleSlice.phys h, show (t.die d).home = (s.die d).home from congrArg DeckleSlice.home h,
    show (t.die d).deckleGen = (s.die d).deckleGen from congrArg DeckleSlice.gen h]
theorem slice_of_die (h : t.die d = s.die d) : t.slice d = s.slice d := by
  unfold State.slice
  rw [h]
theorem orderNow_slice {d : Nat} (ty : Nat) (words : List Nat) (ho : s.obeys d = true) : (s.orderNow d ty words).slice d = s.slice d := by
  have hsent : (s.orderSent d ty words).die d = s.die d := die_of_sansBooks (by simp [State.orderSent]) d
  rw [orderNow_of_obeys ty words ho, slice_of_die ((die_ack ..).trans (die_of_sansBooks (noteSeen_sansBooks ..) d))]
  unfold State.slice
  rw [modDie_die, if_pos rfl, hsent]
theorem orderNow_cores {d : Nat} (ty : Nat) (words : List Nat) (ho : s.obeys d = true) : (s.orderNow d ty words).cores = s.cores := by
  have hsent : (s.orderSent d ty words).cores = s.cores := cores_of_sansBooks (by simp [State.orderSent])
  rw [orderNow_of_obeys ty words ho, cores_of_sansBooks (ack_sansBooks ..), cores_of_sansBooks (noteSeen_sansBooks ..)]
  exact hsent
/-- A fencing order that its die obeys makes the core a spare (R181). -/
theorem fenceCore_spare {p : Nat} (ho : s.obeys (coreDie p) = true) (hs : physState (s.phys p) ≠ 0) : physState ((s.fenceCore p 0 0).phys p) = 0 ∧
    (s.fenceCore p 0 0).cores = s.cores := by
  unfold State.fenceCore
  rw [if_neg hs, if_pos ho, if_pos rfl]
  have hc := orderNow_cores 0x0C [p, 0, 0] ho
  generalize s.orderNow (coreDie p) 0x0C [p, 0, 0] = u at hc ⊢
  have hset : physState ((u.setPhys p (physWord 0 false 0 0)).phys p) = 0 ∧ (u.setPhys p (physWord 0 false 0 0)).cores = u.cores := by
    unfold State.setPhys
    split
    · next he => exact ⟨he ▸ rfl, rfl⟩
    · refine ⟨?_, rfl⟩
      unfold State.modSlice State.phys
      rw [modSh_die, modDie_die, if_pos rfl]
      change physState (tget 0 (tset 0 (u.die (coreDie p)).phys (coreIndex p) (physWord 0 false 0 0)) (coreIndex p)) = 0
      rw [tget_tset, if_pos rfl]
      rfl
  rw [State.phys, die_of_dies (dies_record ..), cores_of_sansBooks (record_sansBooks ..)]
  exact ⟨hset.1, hset.2.trans hc⟩
theorem core_finish (t : State) (op st : Nat) (cl : List Clamp) (data : List (Nat × Nat)) (p : Nat) : (t.finish rq op st cl data).core p = t.core p := by
  obtain ⟨o, a, b, h⟩ := finish_eq (rq := rq) t op st cl data
  rw [h]; rfl
theorem phys_finish (t : State) (op st : Nat) (cl : List Clamp) (data : List (Nat × Nat)) (p : Nat) : (t.finish rq op st cl data).phys p = t.phys p := by
  obtain ⟨o, a, b, h⟩ := finish_eq (rq := rq) t op st cl data
  rw [h]; rfl

/-! ### Out of service (R286, R287) -/

theorem startTeardown_oos (s : State) (c trigger : Nat) : (s.startTeardown c trigger).pkg.oos = s.pkg.oos := by
  unfold State.startTeardown
  dsimp only
  split
  · rw [each_keeps (fun t : State => t.pkg.oos) _ _ _ fun _ _ => congrArg Pkg.oos (pkg_of_sansBooks (vatSend_sansBooks ..))]
    have hmirror := congrArg Pkg.oos (pkg_of_sansBooks (mirror_sansBooks (s.modCtx c fun x =>
      { x with state := 3, teardown := some { trigger := trigger, start := s.now, step := 1, discarded := 0 } })))
    exact hmirror
  · rfl
theorem enterOos_oos (s : State) (reason : Nat) : (s.enterOos reason).pkg.oos = true := by
  unfold State.enterOos
  split
  · next h => exact h
  · rw [State.teardownAll, each_keeps (fun t : State => t.pkg.oos) _ _ _ fun _ _ => startTeardown_oos ..]
    rw [pkg_of_sansHolds (setPin_sansHolds ..), pkg_of_sansHolds (countLadder_sansHolds ..), pkg_record]
    rfl
/-- A filter leaves what it keeps to be read as before. -/
theorem tget_filter_of_kept {α : Type} (d : α) (p : Nat × α → Bool) (k : Nat) (h : ∀ v, p (k, v) = true) : ∀ t : Table α, tget d (t.filter p) k = tget d t k
  | [] => rfl
  | (n, v) :: t => by
    have ih := tget_filter_of_kept d p k h t
    rw [List.filter_cons]
    split
    · simp only [tget, ih]
    · rename_i hp
      have hn : k ≠ n := fun e => hp (by rw [← e, h])
      simp [tget, hn, ih]
/-- The records that a return to service writes leave the package and the package rung's counter. -/
theorem resumed_keeps (c : Prop) [Decidable c] (x : Nat) :
    let t := ((if c then u.record 0x0703 0 (pkgSource 8) x 0 0 else u).mramWrite.record 0x0809 0 (pkgSource 8) x 0 0).finish rq 0x0306 stOk [] []
    t.pkg = u.pkg ∧ t.counter (pkgSource 7) = u.counter (pkgSource 7) := by
  have hne : pkgSource 7 ≠ pkgSource 9 := by decide
  refine ⟨?_, ?_⟩
  · rw [pkg_finish, pkg_record, pkg_of_sansBooks (mramWrite_sansBooks _)]
    split
    · exact pkg_record ..
    · rfl
  · rw [counter_finish, record_counter _ hne, mramWrite_counter]
    split
    · exact record_counter _ hne ..
    · rfl
/-- An uncounted package reset starts bring-up, in or out of service as before, and the counters of the package rung stay. -/
theorem packageReset_keeps_service (t : State) (source : Nat) : (t.packageReset source false).pkg.oos = t.pkg.oos ∧
    (t.packageReset source false).counter (pkgSource 7) = t.counter (pkgSource 7) := by
  have hcounter : tget {} (keepSh t.sh).counters (pkgSource 7) = t.counter (pkgSource 7) := tget_filter_of_kept _ _ _ (fun _ => by simp) _
  unfold State.packageReset
  rw [if_neg (by simp)]
  unfold State.bringUp State.keepDurable
  dsimp only
  split <;> exact ⟨rfl, hcounter⟩

end

/-- Settles O26. -/
theorem ladderCommandsComplete : Obligations.LadderCommandsComplete := by
  refine ⟨fun s rq d seg h hseg hr ho hn => ?_, fun s rq p h ht he hp ho => ?_, fun s rq p h ht hr hn => ?_, fun s rq part n w h hn0 hn hw0 hw => ?_,
    fun s rq part h hp => ?_, fun s rq h => ?_, fun s rq h ho => ?_⟩
  · refine gives_of_takes h rfl rfl fun a b => ?_
    dsimp only
    rw [if_neg (by simp [hr]), clampTo_of_le (Nat.zero_le _) hseg]
    unfold State.askAgent
    dsimp only
    rw [if_pos (show (s.taken a b).obeys d = true from ho)]
    refine answers_finish_of (congrArg _ (sliceWords_of_slice ?_ seg))
    exact (slice_of_die (die_of_sansBooks (feltSend_sansBooks ..) d)).trans (orderNow_slice _ _ ho)
  · refine gives_of_takes h rfl rfl fun a b => ?_
    have hno : (s.taken a b).inTriage p = false := ht
    have hready : ((s.taken a b).core p).escaped = some true ∧ physState ((s.taken a b).phys p) = 2 := ⟨he, hp⟩
    rw [if_neg (by simp [hno]), if_pos (by simpa [-taken_core, -taken_phys] using hready)]
    obtain ⟨hspare, hcores⟩ := fenceCore_spare (s := (s.taken a b).modCore p fun c => { c with escaped := none }) (p := p) ho
      (fun h0 => by have := hp.symm.trans h0; contradiction)
    refine ⟨?_, (congrArg physState (phys_finish ..)).trans hspare, answers_finish_nil ..⟩
    rw [core_finish, State.core, hcores]
    exact congrArg Core.escaped ((modCore_core ..).trans (if_pos rfl))
  · have hord := orders_of_takes h rfl (by decide)
    refine gives_of_takes h rfl rfl fun a b => ?_
    have hno : (s.taken a b).inTriage p = false := ht
    rw [if_neg (by simp [hno])]
    obtain ⟨o, x, y, hf⟩ := finish_eq (rq := rq) (s.taken a b) 0x0302 stOk [] []
    rw [hf]
    exact requestReset_core p 0 hord hr hn
  · refine gives_of_takes h rfl rfl fun a b => ?_
    dsimp only
    rw [clampOr_of_le (by omega) hn0 hn, clampOr_of_le (by omega) hw0 hw]
    refine ⟨?_, answers_finish_nil ..⟩
    rw [State.ladder, shared_finish (·.ladderCfg) (fun _ _ _ => rfl), shared_of_sansBooks (·.ladderCfg) (fun _ => rfl) (mirror_sansBooks _), shared_of_sansBooks (·.ladderCfg) (fun _ => rfl) (mramWrite_sansBooks _)]
    change Option.getD (tget none (tset none _ part _) part) _ = _
    rw [tget_tset, if_pos rfl]
    split
    · next hd =>
      simp only [Bool.and_eq_true, decide_eq_true_eq] at hd
      rw [hd.1, hd.2]
      rfl
    · rfl
  · refine gives_of_takes h rfl rfl fun a b => ?_
    rw [if_pos (by simpa using hp)]
    refine ⟨?_, answers_finish_nil ..⟩
    rw [pkg_finish, pkg_of_sansBooks (mirror_sansBooks _), each_keeps State.pkg _ _ _ fun t d => ?_]
    · simp
    · rw [(OnlyHolds.unholdDie _ _ (.refl _)).pkg]
      split
      · rfl
      · rw [each_keeps State.pkg _ _ _ fun v c => ?_]
        split <;> rfl
  · refine gives_of_takes h rfl rfl fun a b => ?_
    exact ⟨(congrArg Pkg.oos (pkg_finish ..)).trans (enterOos_oos ..), answers_finish_nil ..⟩
  · refine gives_of_takes_signed h rfl rfl fun a b => ?_
    dsimp only
    rw [if_pos (show (s.taken a b).pkg.oos = true from ho)]
    obtain ⟨hpkg, hcount⟩ := resumed_keeps (rq := rq) (u := ((s.taken a b).modPkg fun g => { g with oos := false }).modSh fun h =>
      { h with counters := tset {} h.counters (pkgSource 7) { (tget {} h.counters (pkgSource 7)) with count := 0 }
               pins := h.pins.filter (· != pkgSource 8) }) ((s.taken a b).sh.pins.contains (pkgSource 8) = true) (privCode rq.priv)
    obtain ⟨hoos, hcounter⟩ := packageReset_keeps_service (State.finish _ rq 0x0306 stOk [] []) 0
    obtain ⟨-, hboot, -⟩ := packageReset_uncounted (State.finish _ rq 0x0306 stOk [] []) 0
    rw [hcounter, hoos, hcount, hpkg]
    have hzero : tget {} (tset {} s.sh.counters (pkgSource 7) { (tget {} s.sh.counters (pkgSource 7)) with count := 0 }) (pkgSource 7) =
      { s.counter (pkgSource 7) with count := 0 } := by rw [tget_tset, if_pos rfl]; rfl
    exact ⟨rfl, hboot, (congrArg Counter.count hzero :), (congrArg Counter.total hzero :)⟩

end Sys2Proof.Machine
end

section
/-! SUPPORT. What lasts through a count at the Vat and a package reset. -/

namespace Sys2Proof.Machine

theorem sourceCore_ctxSource (c k : Nat) : sourceCore (ctxSource c k) = none := by
  unfold sourceCore sourceDie ctxSource
  exact if_neg (by simp; omega)
/-- What holds, counts, teardowns and requests at the package rung leave true, and bring-up starts with. -/
structure Lasting (p : State → Prop) : Prop where
  books : ∀ {s t}, t.sansHolds = s.sansHolds → p s → p t
  modPkg : ∀ {s} f, p s → p (s.modPkg f)
  due : ∀ {s} l, p s → p (s.modSh fun h => { h with resetDue := h.resetDue ++ l })
  teardown : ∀ {s} c trigger, p s → p (s.startTeardown c trigger)
  bringUp : ∀ s : State, p s.bringUp

namespace Lasting
variable {p : State → Prop} {s : State}

theorem ite {t : State} (c : Prop) [Decidable c] (hs : p s) (ht : p t) : p (if c then s else t) := by split <;> assumption
variable (hp : Lasting p)
include hp

theorem teardownAll (trigger : Nat) (h : p s) : p (s.teardownAll trigger) := each_holds p _ _ _ (fun _ c hu => hp.teardown c trigger hu) h
theorem enterOos (reason : Nat) (h : p s) : p (s.enterOos reason) := by
  unfold State.enterOos
  exact ite _ h (hp.teardownAll 5 (hp.books (by simp) (hp.modPkg (fun g => { g with oos := true, powerPending := false }) h)))
theorem requestPowerCycle (source : Nat) (h : p s) : p (s.requestPowerCycle source) := by
  unfold State.requestPowerCycle State.sendPowerReq
  have hheld : p (each (List.range 96) (fun s d => s.holdDie d powerKey 3) (s.teardownAll 5)) :=
    each_holds p _ _ _ (fun _ d hu => hp.books (holdDie_sansHolds ..) hu) (hp.teardownAll 5 h)
  have hcount := hp.books (countPkgReset_sansHolds _ source) (hp.modPkg (fun g => { g with powerPending := true, powerSource := source, powerReqs := 0 }) hheld)
  exact ite _ (hp.enterOos 0 hcount) (hp.modPkg _ (hp.books (by simp) hcount))
theorem packageReset (source : Nat) (counted : Bool) (h : p s) : p (s.packageReset source counted) := by
  unfold State.packageReset
  have hescalate := hp.books (escalate_sansHolds s source 3 4 1 (s.leaked (pkgSource 7)).count) h
  have hcount := hp.books (countPkgReset_sansHolds _ source) hescalate
  exact ite _ (ite _ (ite _ (hp.enterOos 0 hcount) hcount) (ite _ (hp.requestPowerCycle source hescalate) (hp.bringUp _))) (hp.bringUp _)
theorem queueReset_ctx (c source : Nat) (h : p s) : p (s.queueReset 5 c source) := hp.due _ h

variable {src key : Nat}

theorem takeBlk (hk : ∀ key, classOf src = some key → 232 ≤ key) (h : p s) : p (s.takeBlk src) := by
  unfold State.takeBlk
  split
  · exact h
  · next key hc =>
    have hkey := hk key hc
    rw [if_neg (by omega), if_neg (by omega), if_neg (by simp; omega), if_neg (by simp; omega), if_neg (by simp; omega), if_neg (by simp; omega)]
    split
    · exact ite _ (hp.queueReset_ctx _ _ h) (hp.teardown _ _ h)
    · exact h
theorem agentReact (d m : Nat) (hk : ∀ key, classOf src = some key → 232 ≤ key) (h : p s) : p (s.agentReact d src m) := by
  have hnmi : p (if bit m 3 then s.sendNmi d src else s) := ite _ (hp.books (sendNmi_sansHolds ..) h) h
  have hpin : p (if bit m 0 then (if bit m 3 then s.sendNmi d src else s).setPin src else if bit m 3 then s.sendNmi d src else s) :=
    ite _ (hp.books (setPin_sansHolds ..) hnmi) hnmi
  exact ite _ (hp.takeBlk hk hpin) hpin
theorem applyBase (reel : Nat) (l : List Detail) (hc : sourceCore src = none) (h : p s) : p (s.applyBase src key reel l) := by
  have hone := hp.books (applyOne_sansHolds s src key reel l hc) h
  have hctx : p (match sourceCtx src with
      | some c => if key = 232 && !l.isEmpty then (s.applyOne src key reel l).ctxFault c else s.applyOne src key reel l
      | none => s.applyOne src key reel l) := by
    split
    · exact ite _ (hp.teardown _ _ hone) hone
    · exact hone
  exact ite _ (hp.packageReset _ _ hctx) hctx
/-- A count of a context's source at the Vat, whatever its class takes. -/
theorem vatCount (x : Detail) (hk : ∀ key, classOf src = some key → 232 ≤ key) (h : p s) : p (s.vatCount src x) := by
  unfold State.vatCount
  split
  · exact h
  · next key hkey =>
    have hkey' := hk key hkey
    have hcore := sourceCore_of_classOf hkey (by omega)
    dsimp only
    refine ite _ (hp.books (firstStage_sansHolds ..) (hp.agentReact _ _ hk h)) ?_
    have hreact := hp.agentReact (s.agentOf src) (s.reactionsOf (s.agentOf src) src key) hk h
    unfold State.applyCount
    rw [hkey]
    dsimp only
    split
    · next c _ _ =>
      refine ite _ ?_ (hp.applyBase _ _ hcore hreact)
      exact hp.applyBase _ _ (sourceCore_ctxSource c 0) (hp.agentReact _ _ (fun k hc => (classOf_ctxFault hc).ge) (hp.applyBase _ _ hcore hreact))
    · exact hp.applyBase _ _ hcore hreact

end Lasting

section
variable {s t : State} {rq : Req}

/-! ### Contexts and logical cores through the ends of commands and holds -/

theorem lcs_endRuns (t : State) (p : Run → Bool) (status : Nat) (data : List (Nat × Nat)) : (t.endRuns p status data).lcs = t.lcs := by
  refine each_keeps State.lcs _ _ _ fun u x => ?_
  obtain ⟨o, a, b, c, d, h⟩ := endRun_eq u x status data
  rw [h]
theorem lc_of_lcs (h : t.lcs = s.lcs) (n : Nat) : t.lc n = s.lc n := show tget {} t.lcs n = tget {} s.lcs n by rw [h]
theorem ctx_of_ctxs (h : t.sh.ctxs = s.sh.ctxs) (c : Nat) : t.ctx c = s.ctx c := show tget {} t.sh.ctxs c = tget {} s.sh.ctxs c by rw [h]
theorem ctx_endOp (t : State) (op k status : Nat) (data : List (Nat × Nat)) (c : Nat) : (t.endOp op k status data).ctx c = t.ctx c :=
  ctx_of_ctxs (shared_endRuns (·.ctxs) (fun _ _ _ _ _ _ => rfl) ..) c
theorem lc_endOp (t : State) (op k status : Nat) (data : List (Nat × Nat)) (n : Nat) : (t.endOp op k status data).lc n = t.lc n :=
  lc_of_lcs (lcs_endRuns ..) n
theorem startTeardown_lc (s : State) (c trigger n : Nat) : (s.startTeardown c trigger).lc n = s.lc n := by
  unfold State.startTeardown
  dsimp only
  split
  · rw [each_keeps (fun t : State => t.lc n) _ _ _ fun _ _ => lc_of_sansBooks (vatSend_sansBooks ..) n]
    exact lc_mirror (s.modCtx c fun x => { x with state := 3, teardown := some { trigger := trigger, start := s.now, step := 1, discarded := 0 } }) n
  · rfl
theorem startTeardown_ctx (s : State) (c trigger k : Nat) : (s.startTeardown c trigger).ctx k = s.ctx k ∨
    (s.startTeardown c trigger).ctx k = { s.ctx k with state := 3, teardown := some { trigger := trigger, start := s.now, step := 1, discarded := 0 } } := by
  unfold State.startTeardown
  dsimp only
  split
  · rw [each_keeps (fun t : State => t.ctx k) _ _ _ fun _ _ => ctx_of_sansBooks (vatSend_sansBooks ..) k]
    change State.ctx (State.mirror _) k = _ ∨ State.ctx (State.mirror _) k = _
    rw [ctx_mirror, modCtx_ctx]
    split
    · next hk => exact hk ▸ .inr rfl
    · exact .inl rfl
  · exact .inl rfl
theorem bringUp_ctx (s : State) (c : Nat) : s.bringUp.ctx c = {} := by
  unfold State.bringUp State.keepDurable
  dsimp only
  split <;> rfl
theorem bringUp_lc (s : State) (n : Nat) : s.bringUp.lc n = {} := by
  unfold State.bringUp State.keepDurable
  dsimp only
  split <;> rfl

/-! ### Snapshots that end (R302, Table 9.5) -/

/-- A context's snapshot has ended, and none of the logical cores named is held for it. -/
def SnapOver (c : Nat) (l : List Nat) (t : State) : Prop := (t.ctx c).snap = none ∧ ∀ n ∈ l, (t.lc n).snapHeld = false
theorem SnapOver.lasting (c : Nat) (l : List Nat) : Lasting (SnapOver c l) where
  books h hs := ⟨(congrArg Ctx.snap (ctx_of_sansHolds h c)).trans hs.1, fun n hn => (congrArg Lc.snapHeld (lc_of_sansHolds h n)).trans (hs.2 n hn)⟩
  modPkg _ hs := hs
  due _ hs := hs
  teardown {s} k trigger hs := by
    refine ⟨?_, fun n hn => (congrArg Lc.snapHeld (startTeardown_lc ..)).trans (hs.2 n hn)⟩
    obtain h | h := startTeardown_ctx s k trigger c <;> rw [h] <;> exact hs.1
  bringUp s := ⟨congrArg Ctx.snap (bringUp_ctx s c), fun n _ => congrArg Lc.snapHeld (bringUp_lc s n)⟩
/-- The hold of one logical core for a snapshot ends. -/
def State.dropSnapHold (s : State) (n : Nat) : State :=
  let s := s.modLc n fun l => { l with snapHeld := false }
  match s.carrier n with | some p => s.unholdCore p 6 | none => s
theorem endSnapHold_eq (s : State) (c : Nat) : s.endSnapHold c = each (s.ctxLcs c) State.dropSnapHold s := rfl
theorem dropSnapHold_sansHolds (s : State) (n : Nat) : (s.dropSnapHold n).sansHolds = (s.modLc n fun l => { l with snapHeld := false }).sansHolds := by
  unfold State.dropSnapHold
  dsimp only
  split
  · exact unholdCore_sansHolds ..
  · rfl
theorem endSnapHold_ctx (s : State) (c k : Nat) : (s.endSnapHold c).ctx k = s.ctx k :=
  each_keeps (fun t : State => t.ctx k) (s.ctxLcs c) State.dropSnapHold s fun t n => ctx_of_sansHolds (dropSnapHold_sansHolds t n) k
theorem endSnapHold_shared {α : Type} (g : Shared → α) (hg : ∀ h, g h.sansHolds = g h) (s : State) (c : Nat) :
    g (s.endSnapHold c).sh = g s.sh :=
  each_keeps (fun t : State => g t.sh) (s.ctxLcs c) State.dropSnapHold s fun t n => (shared_of_sansHolds g hg (dropSnapHold_sansHolds t n) :)
theorem endSnapHold_held (s : State) (c : Nat) : ∀ n ∈ s.ctxLcs c, ((s.endSnapHold c).lc n).snapHeld = false := by
  refine each_establishes (fun n (t : State) => (t.lc n).snapHeld = false) State.dropSnapHold (fun t n => ?_) (fun t n m h => ?_) _ _
  · rw [lc_of_sansHolds (dropSnapHold_sansHolds t n), modLc_lc, if_pos rfl]
  · rw [lc_of_sansHolds (dropSnapHold_sansHolds t m), modLc_lc]
    split
    · rfl
    · exact h
/-- A snapshot that fails is over, and its running command ends with the reason (R302). -/
theorem failSnap_over {c : Nat} {x : Snap} (reason : Nat) (hx : (s.ctx c).snap = some x) : SnapOver c (s.ctxLcs c) (s.failSnap c reason) ∧
    ∀ r, (s.sh.runs.filter fun x => x.opcode == 0x0701 && x.ctx == c) = [r] → s.ended (s.failSnap c reason) r stNotReady [(32, reason)] := by
  unfold State.failSnap
  rw [hx]
  dsimp only
  have hlcs : (s.modCtx c fun y => { y with snap := none }).ctxLcs c = s.ctxLcs c := by
    unfold State.ctxLcs
    rw [modCtx_ctx, if_pos rfl]
  have hnone : ((s.modCtx c fun y => { y with snap := none }).ctx c).snap = none := by rw [modCtx_ctx, if_pos rfl]
  have hruns : (s.modCtx c fun y => { y with snap := none }).sh.runs = s.sh.runs := rfl
  have hheld := endSnapHold_held (s.modCtx c fun y => { y with snap := none }) c
  have hctx := endSnapHold_ctx (s.modCtx c fun y => { y with snap := none }) c c
  have hkept := (endSnapHold_shared (·.runs) (fun _ => rfl) (s.modCtx c fun y => { y with snap := none }) c).trans hruns
  rw [hlcs] at hheld
  rw [← hctx] at hnone
  generalize (s.modCtx c fun y => { y with snap := none }).endSnapHold c = u at hheld hnone hkept ⊢
  have hb : (u.snapFail c x.id reason).mirror.sansBooks = u.sansBooks := (mirror_sansBooks _).trans (record_sansBooks ..)
  refine ⟨⟨?_, fun n hn => ?_⟩, fun r hr => ?_⟩
  · rw [ctx_endOp, ctx_of_sansBooks hb]
    exact hnone
  · rw [lc_endOp, lc_of_sansBooks hb]
    exact hheld n hn
  · have hrun : (u.snapFail c x.id reason).mirror.sh.runs = s.sh.runs := (shared_of_sansBooks (·.runs) (fun _ => rfl) hb).trans hkept
    obtain ⟨herase, hreply⟩ := ended_endOp (u.snapFail c x.id reason).mirror (hrun.symm ▸ hr) stNotReady [(32, reason)]
    exact ⟨herase.trans (congrArg (List.erase · r) hrun), hreply⟩
/-- A poisoned word of the snapshot set ends the snapshot, whatever the classes of its context's faults take. -/
theorem snapPoisoned_over {c : Nat} {x : Snap} (hc : c < 4096) (hx : (s.ctx c).snap = some x) : SnapOver c (s.ctxLcs c) (s.snapPoisoned c) := by
  have hl := SnapOver.lasting c (s.ctxLcs c)
  have hcount := hl.vatCount (src := ctxSource c 3) { ctx := c, p2 := 0, p3 := 0 } (fun key hk => ?_) (failSnap_over 9 hx).1
  · exact Lasting.ite _ (hl.vatCount _ (fun key hk => (classOf_ctxFault hk).ge) hcount) hcount
  · have hd : sourceDie (ctxSource c 3) = 104 + c / 1024 := by unfold sourceDie ctxSource; omega
    have hi : ctxSource c 3 % 8192 % 8 = 3 := by unfold ctxSource; omega
    unfold classOf at hk
    rw [hd] at hk
    have hne {k : Nat} (hk : k < 104) : 104 + c / 1024 ≠ k := by omega
    simp [hne, hi, show ¬ 104 + c / 1024 < 96 by omega, show ¬ 104 + c / 1024 < 100 by omega] at hk
    omega

theorem armSnap_snap (s : State) (c id iter pt : Nat) (package : Bool) (delta deadline : Nat) (m : ReamMap) :
    ((s.armSnap c id iter pt package delta deadline m).ctx c).snap =
      some { id := id, iter := iter, point := pt, package := package, delta := delta, deadline := deadline, step := 2
             held := [], barrierReel := 0, reams := m.reams, acked := [], lost := [], man := none, data := [], state := (0, 0, 0) } := by
  unfold State.armSnap
  rw [ctx_mirror, modCtx_ctx, if_pos rfl]
theorem setStall_holds (s : State) (p reason : Nat) (aw : Option Nat) (q : Nat) : ((s.setStall p reason aw).core q).holds = (s.core q).holds := by
  unfold State.setStall
  dsimp only
  split
  · rfl
  · rw [modCore_core]
    split
    · next h => rw [h]
    · rfl
theorem setStall_ctx (s : State) (p reason : Nat) (aw : Option Nat) (c : Nat) : (s.setStall p reason aw).ctx c = s.ctx c := by
  unfold State.setStall
  dsimp only
  split <;> rfl
/-- A core that is held has the hold in its list. -/
theorem holdCore_mem (s : State) (p key : Nat) : ∃ e ∈ ((s.holdCore p key).core p).holds, e.1 = key := by
  rw [holdCore_holds]
  split
  · exact ⟨_, List.mem_append_right _ (List.mem_singleton_self _), rfl⟩
  · next h =>
    obtain ⟨e, he, hk⟩ := List.any_eq_true.mp ((Bool.not_eq_false _).mp fun hno => h ⟨rfl, hno⟩)
    exact ⟨e, he, by simpa using hk⟩

/-! ### Ream areas and shards (R300, R303) -/

theorem writeShard_areaWords (y : Shard) (l : List Nat) (hy : y.here = true) (hl : l.length = y.length / 8) :
    (s.writeShard y l).areaWords y.die y.offset y.length = l := by
  have htake : (l ++ List.replicate (y.length / 8) 0).take (y.length / 8) = l := by rw [List.take_append_of_le_length hl.ge, ← hl, List.take_length]
  unfold State.writeShard State.areaWords
  rw [if_pos hy, htake]
  refine List.ext_getElem (by simp [hl]) fun i h1 h2 => ?_
  rw [List.getElem_map, List.getElem_range]
  exact tget_tput 0 l s.pkg.reamWords (shardAt y) i h2
theorem writeShard_ctx (s : State) (y : Shard) (l : List Nat) (c : Nat) : (s.writeShard y l).ctx c = s.ctx c := by
  unfold State.writeShard
  split <;> rfl
theorem closeAreaWins_pkg (s : State) (d : Nat) : (s.closeAreaWins d).pkg = s.pkg := by
  refine each_keeps State.pkg _ _ _ fun t n => ?_
  split <;> rfl
/-- A digest that a shard takes leaves how many shards a map has. -/
theorem setDigest_shards (reams : List Ream) (i k d : Nat) :
    ((setDigest reams i k d).map fun r => r.shards.length) = reams.map fun r => r.shards.length := by
  unfold setDigest
  rw [List.map_map]
  refine List.ext_getElem (by simp) fun j h1 h2 => ?_
  simp only [List.getElem_map, List.getElem_zipIdx, Function.comp_apply]
  split <;> simp

/-! ### The last acknowledgement of a snapshot (Table 9.5 steps 6 and 7) -/

/-- The manifest of a snapshot as it is completed. -/
def Snap.completed (x : Snap) (m : Manifest) : Manifest :=
  { m with valid := true, reams := x.reams, d0 := x.state.1, d1 := x.state.2.1, count := x.state.2.2 }
/-- The holds of a snapshot end, and its context keeps the manifest with the one before it. -/
def State.keepManifest (s : State) (c : Nat) (z : Manifest) : State :=
  let s := s.endSnapHold c
  s.modCtx c fun y => { y with snap := none, manifests := (z :: y.manifests).take 2, snapAt := ((z.id, s.now) :: y.snapAt).take 2, riskShown := y.riskShown }
/-- SNAP_DONE is written, and the manifest leaves for the host. -/
def State.sendManifest (s : State) (c : Nat) (x : Snap) (z : Manifest) : State :=
  (s.record 0x0901 0 (ctxSource c 0) (z.id % 2 ^ 24) (z.iter % 2 ^ 24) (sat 24 ((s.now - x.barrierReel) / 1000000))).emit (.snapDone z)
/-- The manifest goes to the other hub. -/
def State.copyManifest (s : State) (z : Manifest) : State :=
  match s.mirror.standbyHub with | some sb => s.mirror.vatSend 0xC2 0 (hubDie sb) (manifestWords z) | none => s.mirror
theorem snapDone_eq (s : State) (c : Nat) {x : Snap} {m : Manifest} (hm : x.man = some m) : s.snapDone c x =
    if (((((s.keepManifest c (x.completed m)).sendManifest c x (x.completed m)).copyManifest (x.completed m)).endOp 0x0701 c stOk []).ctx c).reclaimAt.isSome
    then ((((s.keepManifest c (x.completed m)).sendManifest c x (x.completed m)).copyManifest (x.completed m)).endOp 0x0701 c stOk []).startTeardown c 3
    else (((s.keepManifest c (x.completed m)).sendManifest c x (x.completed m)).copyManifest (x.completed m)).endOp 0x0701 c stOk [] := by
  unfold State.snapDone
  rw [hm]
  rfl
theorem sendManifest_books (s : State) (c : Nat) (x : Snap) (z : Manifest) : (s.sendManifest c x z).sansBooks = s.sansBooks := record_sansBooks ..
theorem copyManifest_books (s : State) (z : Manifest) : (s.copyManifest z).sansBooks = s.sansBooks := by
  unfold State.copyManifest
  split
  · exact (vatSend_sansBooks ..).trans (mirror_sansBooks s)
  · exact mirror_sansBooks s
theorem copyManifest_keeps (s : State) (z : Manifest) : Keeps false s (s.copyManifest z) := by
  unfold State.copyManifest
  split
  · exact vatSend_keeps _ _ _ _ (mirror_keeps (.refl _ _))
  · exact mirror_keeps (.refl _ _)
theorem keepManifest_keeps (s : State) (c : Nat) (z : Manifest) : Keeps false s (s.keepManifest c z) := by
  unfold State.keepManifest
  exact modCtx_keeps _ _ (endSnapHold_keeps _ (.refl _ _))
/-- A snapshot that every holder has acknowledged is over: its manifest is the newest valid one, and SNAP_DONE leaves. -/
theorem snapDone_spec {c : Nat} {x : Snap} {m : Manifest} (hm : x.man = some m) (hr : (s.ctx c).reclaimAt = none) :
    ((s.snapDone c x).ctx c).snap = none ∧
      ((s.snapDone c x).ctx c).manifests.head? = some (x.completed m) ∧ Emits s (s.snapDone c x) (.snapDone (x.completed m)) := by
  rw [snapDone_eq s c hm]
  generalize x.completed m = z
  have hkept : (s.keepManifest c z).ctx c =
      { s.ctx c with snap := none, manifests := (z :: (s.ctx c).manifests).take 2, snapAt := ((z.id, (s.endSnapHold c).now) :: (s.ctx c).snapAt).take 2 } := by
    unfold State.keepManifest
    rw [modCtx_ctx, if_pos rfl, endSnapHold_ctx]
  have hbooks := (copyManifest_books ((s.keepManifest c z).sendManifest c x z) z).trans (sendManifest_books ..)
  have hctx : ((((s.keepManifest c z).sendManifest c x z).copyManifest z).endOp 0x0701 c stOk []).ctx c = (s.keepManifest c z).ctx c :=
    (ctx_endOp ..).trans (ctx_of_sansBooks hbooks c)
  have hemit : Emits s ((((s.keepManifest c z).sendManifest c x z).copyManifest z).endOp 0x0701 c stOk []) (.snapDone z) := by
    have hbefore : Keeps false s ((s.keepManifest c z).record 0x0901 0 (ctxSource c 0) (z.id % 2 ^ 24) (z.iter % 2 ^ 24)
        (sat 24 (((s.keepManifest c z).now - x.barrierReel) / 1000000))) :=
      record_keeps _ _ _ _ _ _ (keepManifest_keeps ..)
    exact (((emits_emit _ _).after_keeps hbefore).of_keeps (copyManifest_keeps _ _)).of_keeps (endOp_keeps _ _ _ _ (.refl false _))
  rw [if_neg (by rw [hctx, hkept]; simp [hr]), hctx, hkept]
  exact ⟨rfl, rfl, hemit⟩

/-- A snapshot whose holder has acknowledged a shard: the shard's digest is taken, and a data shard's words and elements are folded. -/
def Snap.ackShard (x : Snap) (i k : Nat) (r : Ream) (l : List Nat) (st : Nat × Nat × Nat) : Snap :=
  { x with acked := x.acked ++ [(i, k)], reams := setDigest x.reams i k (shardDigest l)
           data := if k < r.n then x.data ++ [((i, k), l)] else x.data, state := if k < r.n then st else x.state }
/-- A shard is stored, and the snapshot fails, is done or goes on. -/
def State.ackTaken (s : State) (c i : Nat) (y : Shard) (l : List Nat) (x : Snap) : State :=
  let s := (s.writeShard y l).modCtx c fun k => { k with snap := some x }
  if 3 ≤ (x.lost.filter fun e => e.1 == i).length then s.failSnap c 2
  else if x.acked.length + x.lost.length = (x.reams.map fun r => r.shards.length).foldl (· + ·) 0 then s.snapDone c x
  else s
/-- An acknowledgement that the snapshot waits for stores the shard, and ends the snapshot when it is the last. -/
theorem exec_holderAck {v : Hub} {c i k : Nat} {w : List Nat} {set : List TensorPart} {x : Snap} {r : Ream} {y : Shard} {l : List Nat} (ha : s.acting = some v)
    (hc : c < 4096) (hx : (s.ctx c).snap = some x) (hstep : x.step = 5) (hack : (i, k) ∉ x.acked) (hlost : (i, k) ∉ x.lost) (hr : x.reams[i]? = some r)
    (hy : r.shards.find? (fun y => y.index == k) = some y) (hl : holderWords x i r k w = some l) (hfew : (x.lost.filter fun e => e.1 == i).length < 3) :
    exec (.snapHolderAck c i k w false false set) s = .next
      (if x.acked.length + 1 + x.lost.length = (x.reams.map fun r => r.shards.length).foldl (· + ·) 0 then
        ((s.writeShard y l).modCtx c fun q => { q with snap := some (x.ackShard i k r l (foldState (s.ctx c).s0 (s.ctx c).s1 x.state set)) }).snapDone c
          (x.ackShard i k r l (foldState (s.ctx c).s0 (s.ctx c).s1 x.state set))
      else (s.writeShard y l).modCtx c fun q => { q with snap := some (x.ackShard i k r l (foldState (s.ctx c).s0 (s.ctx c).s1 x.state set)) }) := by
  refine (guardId_of_true (by simpa using hc)).trans ?_
  rw [whenActing_acting ha, hx]
  dsimp only
  rw [hr]
  dsimp only
  rw [hy, hl]
  dsimp only
  rw [if_neg (by simp [hstep, hack, hlost]), if_neg (by decide)]
  have hsnap : { (if k < r.n then { x with data := x.data ++ [((i, k), l)], state := foldState (s.ctx c).s0 (s.ctx c).s1 x.state set } else x) with
      reams := setDigest (if k < r.n then { x with data := x.data ++ [((i, k), l)], state := foldState (s.ctx c).s0 (s.ctx c).s1 x.state set } else x).reams i k
        (shardDigest l)
      acked := (if k < r.n then { x with data := x.data ++ [((i, k), l)], state := foldState (s.ctx c).s0 (s.ctx c).s1 x.state set } else x).acked ++ [(i, k)] } =
      x.ackShard i k r l (foldState (s.ctx c).s0 (s.ctx c).s1 x.state set) := by
    unfold Snap.ackShard
    split <;> rfl
  refine (congrArg (fun z => Host.Outcome.next (s.ackTaken c i y l z)) hsnap).trans ?_
  have hlen : (x.ackShard i k r l (foldState (s.ctx c).s0 (s.ctx c).s1 x.state set)).acked.length = x.acked.length + 1 := by
    rw [Snap.ackShard, List.length_append]
    rfl
  have htotal : (x.ackShard i k r l (foldState (s.ctx c).s0 (s.ctx c).s1 x.state set)).reams.map (fun r => r.shards.length) =
      x.reams.map fun r => r.shards.length := setDigest_shards ..
  unfold State.ackTaken
  dsimp only
  rw [if_neg (show ¬ 3 ≤ ((x.ackShard i k r l (foldState (s.ctx c).s0 (s.ctx c).s1 x.state set)).lost.filter fun e => e.1 == i).length from
    Nat.not_le.mpr hfew), htotal, hlen]
  rfl
end

/-- Settles O27. -/
theorem snapshotsComplete : Obligations.SnapshotsComplete := by
  refine ⟨fun s rq d off len h hlen => ?_, fun s rq id iter pt package delta deadline m h hready hstate hsnap hok hdl => ?_,
    fun s n c p x hn hc hp hx hstep hheld hst => ?_, fun s v c x ha hc hx hstep hall => ?_,
    fun s v c i k w set x m r y l ha hc hx hstep hm hack hlost hr hy hl hfew => ?_, fun s v c x r ha hc hx hdl hrun => ?_⟩
  · refine gives_of_takes h rfl rfl fun a b => ?_
    dsimp only
    rw [clampTo_of_le (hi := (s.taken a b).pkg.spad - off) (Nat.zero_le _) hlen]
    refine ⟨?_, answers_finish_nil ..⟩
    rw [pkg_finish, pkg_of_sansBooks (mirror_sansBooks _), closeAreaWins_pkg]
    simp
  · refine gives_of_takes h rfl rfl fun a b => ?_
    have href : (s.taken a b).snapRefusal rq.ctx iter pt package m = none := hok
    have hst : ¬ (!(s.taken a b).pkg.ready || (((s.taken a b).ctx rq.ctx).state ≠ 1 && ((s.taken a b).ctx rq.ctx).state ≠ 2)) = true := by
      obtain h1 | h1 := hstate <;> simp [hready, h1]
    have hno : ¬ ((s.taken a b).ctx rq.ctx).snap.isSome = true := by simp [hsnap]
    dsimp only
    rw [if_neg hst, if_neg hno, href]
    dsimp only
    refine ⟨runs_beginRun .., ?_⟩
    have hclamp : (if deadline = 0 then (0, []) else clampTo 5 32 1 60000 deadline) = (deadline, []) := by
      split
      · next h0 => rw [h0]
      · exact clampTo_of_le (by omega) hdl ..
    rw [hclamp]
    obtain ⟨x, y, hrun⟩ := beginRun_eq (rq := rq) ((s.taken a b).armSnap rq.ctx id iter pt package delta deadline m) 0x0701 rq.ctx 0 []
    rw [hrun]
    exact armSnap_snap ..
  · refine ⟨_, guardId_of_true (by simpa using hn), ?_⟩
    rw [hc, hp]
    dsimp only
    rw [hx]
    dsimp only
    rw [if_pos (by simp [hstep, hheld, hst])]
    refine ⟨?_, ?_, ?_⟩
    · rw [setStall_lc, lc_of_sansHolds (holdCore_sansHolds ..), modLc_lc, if_pos rfl]
    · rw [setStall_holds]
      exact holdCore_mem ..
    · rw [setStall_ctx, ctx_of_sansHolds (holdCore_sansHolds ..)]
      rw [modLc_ctx, modCtx_ctx, if_pos rfl]
  · have hready : ¬ (x.step ≠ 2 || !((s.ctxLcs c).all fun n => x.held.contains n && (s.openTickets n).isEmpty && (s.lc n).points.isEmpty)) = true := by
      have hall' : ((s.ctxLcs c).all fun n => x.held.contains n && (s.openTickets n).isEmpty && (s.lc n).points.isEmpty) = true :=
        List.all_eq_true.mpr fun n hn => by
          obtain ⟨hheld, hopen, hpts⟩ := hall n hn
          simp [hheld, hopen, hpts]
      rw [hall']
      simp [hstep]
    constructor
    · refine ⟨_, guardId_of_true (by simpa using hc), ?_⟩
      rw [whenActing_acting ha, hx]
      dsimp only
      rw [if_neg hready, if_neg (by decide), ctx_mirror, modCtx_ctx, if_pos rfl]
    · refine ⟨_, guardId_of_true (by simpa using hc), ?_⟩
      rw [whenActing_acting ha, hx]
      dsimp only
      rw [if_neg hready, if_pos rfl]
      exact snapPoisoned_over hc hx
  · refine ⟨fun hlt => ⟨_, exec_holderAck ha hc hx hstep hack hlost hr hy hl hfew, ?_⟩, fun heq hrec => ⟨_, exec_holderAck ha hc hx hstep hack hlost hr hy hl hfew, ?_⟩, ?_⟩
    · rw [if_neg (show ¬ x.acked.length + 1 + x.lost.length = (x.reams.map fun r => r.shards.length).foldl (· + ·) 0 by omega)]
      exact ⟨writeShard_areaWords y l, congrArg Ctx.snap ((modCtx_ctx ..).trans (if_pos rfl))⟩
    · rw [if_pos heq]
      have hmod := modCtx_ctx (s.writeShard y l) c
        (fun q => { q with snap := some (x.ackShard i k r l (foldState (s.ctx c).s0 (s.ctx c).s1 x.state set)) }) c
      rw [if_pos rfl] at hmod
      have hkeep : Keeps false s ((s.writeShard y l).modCtx c
          fun q => { q with snap := some (x.ackShard i k r l (foldState (s.ctx c).s0 (s.ctx c).s1 x.state set)) }) :=
        modCtx_keeps _ _ (writeShard_keeps _ _ (.refl _ _))
      obtain ⟨hsnap, hman, hemit⟩ := snapDone_spec (x := x.ackShard i k r l (foldState (s.ctx c).s0 (s.ctx c).s1 x.state set)) (c := c) (m := m)
        (s := (s.writeShard y l).modCtx c fun q => { q with snap := some (x.ackShard i k r l (foldState (s.ctx c).s0 (s.ctx c).s1 x.state set)) })
        hm (by rw [hmod, writeShard_ctx]; exact hrec)
      exact ⟨hsnap, _, hman, rfl, rfl, rfl, rfl, hemit.after_keeps hkeep⟩
    · refine ⟨_, guardId_of_true (by simpa using hc), ?_⟩
      rw [whenActing_acting ha, hx]
      dsimp only
      rw [hr]
      dsimp only
      rw [hy, hl]
      dsimp only
      rw [if_neg (by simp [hstep, hack, hlost]), if_pos rfl]
      exact (snapPoisoned_over hc hx).1
  · refine ⟨_, guardId_of_true (by simpa using hc), ?_⟩
    rw [whenActing_acting ha, if_pos (by simp [hx, hdl])]
    obtain ⟨⟨hsnap, hheld⟩, hend⟩ := failSnap_over 10 hx
    exact ⟨hsnap, hend r hrun, hheld⟩

end Sys2Proof.Machine
end

section
/-! SUPPORT. A record that hub A takes (R460, R463). -/

namespace Sys2Proof.Machine

section
variable (s : State)

/-- The number of the next record, and hub A's Vat. -/
def State.recorder : Nat × Vat := (s.sh.recSeq, s.vatA)
theorem recorder_of_same {t : State} (hs : t.sh.recSeq = s.sh.recSeq) (ha : t.vatA = s.vatA) : t.recorder = s.recorder := by rw [State.recorder, hs, ha]; rfl
theorem recorder_ite (c : Prop) [Decidable c] (t : State) : (if c then s else t).recorder = if c then s.recorder else t.recorder := apply_ite ..
theorem OnlyFelt.recorder {s t : State} (h : OnlyFelt s t) : t.recorder = s.recorder := by obtain ⟨n, o, rfl⟩ := h; rfl
@[simp] theorem mirror_recorder : s.mirror.recorder = s.recorder := by
  unfold State.mirror
  split
  · rfl
  · dsimp only
    split
    · rfl
    · exact ((OnlyFelt.refl _).feltSend ..).recorder
@[simp] theorem postInt_recorder (src : Nat) : (s.postInt src).recorder = s.recorder := by unfold State.postInt; split <;> rfl
@[simp] theorem sendMgmt_recorder (n : Note) : (s.sendMgmt n).recorder = s.recorder := by
  unfold State.sendMgmt
  dsimp only
  split
  · rfl
  · split
    · rfl
    · split
      · exact ((OnlyFelt.refl _).feltSend ..).recorder
      · rfl
@[simp] theorem sendNote_recorder (r : Rec) (held : Nat) : (s.sendNote r held).recorder = s.recorder := sendMgmt_recorder ..
@[simp] theorem notify_recorder (r : Rec) : (s.notify r).recorder = s.recorder := by
  unfold State.notify
  split
  · split
    · rfl
    · exact sendNote_recorder ..
  · exact sendNote_recorder ..
@[simp] theorem written_recorder (r : Rec) : (s.written r).recorder = s.recorder := by
  unfold State.written
  split
  · exact notify_recorder ..
  · rfl
@[simp] theorem bump_recorder (src m reel : Nat) : (s.bump src m reel).1.recorder = s.recorder := by
  unfold State.bump
  split
  · rfl
  · exact mirror_recorder ..
theorem dropRec_b_recorder (r : Rec) : (s.dropRec .b r).recorder = s.recorder := by
  have hdue (t : State) (l : List (Nat × Nat)) : (t.modSh fun h => { h with reactDue := h.reactDue ++ l }).recorder = t.recorder := rfl
  have hvat (f : Vat → Vat) : (s.modVat .b f).recorder = s.recorder := rfl
  simp [State.dropRec, recorder_ite, hdue, hvat]
theorem hubEnter_b_recorder (r : Rec) : (s.hubEnter .b r).recorder = s.recorder := by
  have hvat (f : Vat → Vat) : (s.modVat .b f).recorder = s.recorder := rfl
  unfold State.hubEnter State.stage
  dsimp only
  split
  · rfl
  · split
    · rfl
    · split
      · exact dropRec_b_recorder ..
      · split
        · exact (dropRec_b_recorder ..).trans (hvat _)
        · exact dropRec_b_recorder ..

end

section
variable {s : State}

/-- Hub A takes a record into its MRAM queue or its buffer, when the buffer has room. -/
theorem hubEnter_a_takes (r : Rec) (h : s.vatA.staging.length < 1024) : (s.hubEnter .a r).sh.recSeq = s.sh.recSeq ∧
    (r ∈ (s.hubEnter .a r).vatA.writing ∨ { r with staged := true } ∈ (s.hubEnter .a r).vatA.staging) := by
  unfold State.hubEnter State.stage
  dsimp only
  split
  · exact ⟨rfl, .inl (List.mem_append_right _ (List.mem_singleton_self r))⟩
  · rw [if_pos (show (s.vat .a).staging.length < 1024 from h)]
    exact ⟨rfl, .inr (List.mem_append_right _ (List.mem_singleton_self _))⟩
/-- A record takes the next number and is held by hub A (R460). -/
theorem recorded_recordAt {v : Hub} (ha : s.acting = some v) (h : s.vatA.staging.length < 1024) (code severity source reel : Nat) (u : Bool) (p1 p2 p3 : Nat) :
    s.recorded (s.recordAt code severity source reel u p1 p2 p3) code source p1 p2 p3 := by
  unfold State.recordAt
  rw [ha]
  generalize hr : ({ seq := 0, code := code, severity := severity, unaligned := u, staged := false, single := false, source := source,
                     pcycle := s.pkg.pcycle, hours := s.pkg.hours, reel := reel % 2 ^ 48, p1 := p1 % 2 ^ 24, p2 := p2 % 2 ^ 24, p3 := p3 % 2 ^ 24 } : Rec) = r
  unfold State.enterRec
  dsimp only
  have hmirror : (s.modSh fun h => { h with recSeq := (h.recSeq + 1) % 2 ^ 32 }).mirror.recorder = ((s.sh.recSeq + 1) % 2 ^ 32, s.vatA) := mirror_recorder _
  generalize (s.modSh fun h => { h with recSeq := (h.recSeq + 1) % 2 ^ 32 }).mirror = t at hmirror ⊢
  have hseq : t.sh.recSeq = (s.sh.recSeq + 1) % 2 ^ 32 := congrArg Prod.fst hmirror
  have hvat : t.vatA = s.vatA := congrArg Prod.snd hmirror
  obtain ⟨hkept, htaken⟩ := hubEnter_a_takes (s := t) { r with seq := s.sh.recSeq } (by rw [hvat]; exact h)
  have hfinal (c : Prop) [Decidable c] : (if c then ((t.hubEnter .a { r with seq := s.sh.recSeq }).hubEnter .b { r with seq := s.sh.recSeq }).written
        { { r with seq := s.sh.recSeq } with staged := true }
      else (t.hubEnter .a { r with seq := s.sh.recSeq }).hubEnter .b { r with seq := s.sh.recSeq }).recorder =
      (t.hubEnter .a { r with seq := s.sh.recSeq }).recorder := by
    rw [recorder_ite, written_recorder, hubEnter_b_recorder, ite_self]
  refine ⟨(congrArg Prod.fst (hfinal _)).trans (hkept.trans hseq), ?_⟩
  have hv (c : Prop) [Decidable c] : (if c then ((t.hubEnter .a { r with seq := s.sh.recSeq }).hubEnter .b { r with seq := s.sh.recSeq }).written
        { { r with seq := s.sh.recSeq } with staged := true }
      else (t.hubEnter .a { r with seq := s.sh.recSeq }).hubEnter .b { r with seq := s.sh.recSeq }).vatA =
      (t.hubEnter .a { r with seq := s.sh.recSeq }).vatA := congrArg Prod.snd (hfinal c)
  rw [hv]
  subst hr
  obtain hw | hs := htaken
  · exact ⟨_, List.mem_append_right _ hw, rfl, rfl, rfl, rfl, rfl, rfl⟩
  · exact ⟨_, List.mem_append_left _ hs, rfl, rfl, rfl, rfl, rfl, rfl⟩

end

section
variable {s : State}

/-! ### Risk (R292-R295) -/

/-- The inputs of a context's risk do not change when old crossings are dropped. -/
theorem riskInputs_fresh (s : State) (c : Nat) :
    (s.modSh fun h => { h with riskThresh := h.riskThresh.filter fun e => decide (s.now ≤ e.1 + 600000000000) }).riskInputs c = s.riskInputs c := by
  have hthresh : (s.modSh fun h => { h with riskThresh := h.riskThresh.filter fun e => decide (s.now ≤ e.1 + 600000000000) }).riskThreshs c =
      s.riskThreshs c := by
    unfold State.riskThreshs
    rw [modSh_sh, List.filter_filter]
    refine congrArg List.length (List.filter_congr fun e _ => ?_)
    change (decide (s.now ≤ e.1 + 600000000000) && _ && decide (s.now ≤ e.1 + 600000000000)) = (decide (s.now ≤ e.1 + 600000000000) && _)
    cases decide (s.now ≤ e.1 + 600000000000) <;> simp
    rfl
  unfold State.riskInputs
  rw [hthresh]
  rfl
theorem autoSnap_risk (s : State) (c k : Nat) : ((s.autoSnap c).ctx k).risk = (s.ctx k).risk := by
  have hid (f : Ctx → Nat) : ((s.modCtx c fun x => { x with autoId := f x }).ctx k).risk = (s.ctx k).risk := by
    rw [modCtx_ctx]
    split
    · next h => rw [h]
    · rfl
  unfold State.autoSnap
  split
  · split
    · rfl
    · dsimp only
      split
      · rw [State.snapFail, ctx_of_sansBooks (record_sansBooks ..)]
        exact hid _
      · unfold State.armSnap
        rw [ctx_mirror, modCtx_ctx]
        split
        · next h => exact h ▸ hid _
        · exact hid _
  · rfl
/-- The risk of a training context that runs is the sum of its inputs (Table 9.2). -/
theorem riskOne_risk {c : Nat} (hst : (s.ctx c).state = 1 ∨ (s.ctx c).state = 2) (ht : (s.ctx c).plan.any (·.training) = true) :
    ((s.riskOne c).ctx c).risk = sat 16 ((s.riskInputs c).foldl (· + ·) 0) := by
  have hset (u : State) (f : Ctx → Bool) : ((u.modCtx c fun x => { x with riskShown := f x }).ctx c).risk = (u.ctx c).risk := by rw [modCtx_ctx, if_pos rfl]
  have hrisk (f : Ctx → Bool) : ((s.modCtx c fun x => { x with risk := sat 16 ((s.riskInputs c).foldl (· + ·) 0), riskShown := f x }).ctx c).risk =
      sat 16 ((s.riskInputs c).foldl (· + ·) 0) := by rw [modCtx_ctx, if_pos rfl]
  unfold State.riskOne
  dsimp only
  rw [if_neg (by obtain h | h := hst <;> simp [h, ht])]
  have hrec (u : State) (x : Nat) (l : List Nat) (hu : (u.ctx c).risk = sat 16 ((s.riskInputs c).foldl (· + ·) 0)) :
      (((u.modCtx c fun x => { x with riskShown := true }).record 0x0900 2 (ctxSource c 0) c x
        ((l.zipIdx.map fun e => if e.1 = 0 then 0 else 2 ^ e.2).foldl (· + ·) 0)).ctx c).risk = sat 16 ((s.riskInputs c).foldl (· + ·) 0) := by
    rw [ctx_of_sansBooks (record_sansBooks ..), hset]
    exact hu
  exact Lasting.ite (p := fun t => (t.ctx c).risk = _) _ (hrisk _) (Lasting.ite (p := fun t => (t.ctx c).risk = _) _
    ((autoSnap_risk ..).trans (hrec _ _ _ (hrisk _))) (hrec _ _ _ (hrisk _)))

end

/-- Settles O28. -/
theorem snapshotKeepingCompletes : Obligations.SnapshotKeepingCompletes := by
  refine ⟨fun s rq id h hres => ?_, fun s rq package base m h hst hok => ?_, fun s h c m sb hc hsb hr he hu hv hnew => ?_,
    fun s v c x p ha hctxs hst hp ht => ?_, fun s p c v hp ha hc hstall hlen => ?_⟩
  · refine gives_of_takes h rfl rfl fun a b => ?_
    have hno : ¬ ((s.taken a b).ctx rq.ctx).restoring.any (fun r => r.1.id == id) = true := by
      cases hx : (s.ctx rq.ctx).restoring with
      | none => simp [hx]
      | some r => simp [hx, hres r hx]
    dsimp only
    rw [if_neg hno]
    refine ⟨?_, answers_finish_nil ..⟩
    rw [ctx_finish, ctx_mirror, modCtx_ctx, if_pos rfl]
    rfl
  · refine gives_of_takes h rfl rfl fun a b => ?_
    have hrun : ¬ (((s.taken a b).ctx rq.ctx).state ≠ 1 && ((s.taken a b).ctx rq.ctx).state ≠ 2) = true := by
      obtain h1 | h1 := hst <;> simp [h1]
    have hmap : (s.taken a b).mapOk package m = true := hok
    dsimp only
    rw [if_neg hrun, if_neg (by simp [hmap])]
    refine ⟨?_, answers_finish_nil ..⟩
    rw [ctx_finish, ctx_mirror, modCtx_ctx, if_pos rfl]
  · have hexec : exec (.manifest h c m) s = .next (s.recvCmd (hubDie sb) h 0xC2 fun s =>
        if !m.valid || (s.ctx c).manifests.any (fun k => k.id == m.id) then s
        else s.modCtx c fun x => { x with manifests := (m :: x.manifests).take 2, snapAt := ((m.id, s.now) :: x.snapAt).take 2 }) := by
      refine (guardId_of_true (by simpa using hc)).trans ?_
      rw [hsb]
    refine gives_recvCmd_acked (by rfl) hexec hr he hu fun n => ?_
    have hfree : ¬ (!m.valid || (((s.modDie (hubDie sb) fun k => { k with epoch := h.epoch }).withFelt n).ctx c).manifests.any (fun k => k.id == m.id)) = true := by
      have hany : (s.ctx c).manifests.any (fun k => k.id == m.id) = false := List.any_eq_false.mpr fun k hk => by simpa using hnew k hk
      simp [hv, hany]
    rw [if_neg hfree]
    refine ⟨?_, emits_ack_of (modCtx_keeps (kp := false) _ _ (withFelt_keeps _ (modDie_keeps _ _ (.refl _ _)))) ..⟩
    rw [ctx_of_sansBooks (ack_sansBooks ..), modCtx_ctx, if_pos rfl]
    rfl
  · refine ⟨_, rfl, ?_⟩
    have hctx : s.ctx c = x := by
      change tget {} s.sh.ctxs c = x
      rw [hctxs]
      simp [tget]
    have hact : s.acting.isSome = true := by rw [ha]; rfl
    rw [if_pos (show (s.modSh fun h => { h with riskThresh := h.riskThresh.filter fun e => decide (s.now ≤ e.1 + 600000000000) }).acting.isSome = true
      from hact)]
    change (State.ctx (each (s.sh.ctxs.map (·.1)) State.riskOne _) c).risk = _
    rw [hctxs]
    refine (riskOne_risk (c := c) ?_ ?_).trans (by rw [riskInputs_fresh])
    · exact hctx.symm ▸ hst
    · change (s.ctx c).plan.any _ = true
      rw [hctx, hp]
      exact ht
  · refine ⟨_, guardId_of_true hp, ?_⟩
    rw [hc]
    dsimp only
    rw [if_pos hstall]
    exact recorded_recordAt ha hlen ..

end Sys2Proof.Machine
end

section
/-! SUPPORT. A reclamation of a context that is listed twice (R312). -/

namespace Sys2Proof.Machine

/-- A training plan of logical core 0 alone. -/
def bareTraining : Plan :=
  { lcs := [bareLc 0], training := true, tensors := [], updateOps := [], layerOps := [], streams := [], drawOps := [], samplesPerIter := 0
    samplesBefore := [], expected := [], formatOk := true }
/-- Context 1 is listed twice: first as unused, which is how it reads, then as launched; an Operator's session is open. -/
def listedTwice : State := { State.reset with
  pkg := { boot := .ready, ready := true }, vatA := { role := .active }, dies := [(0, { phys := [(0, 2 ^ 29)], home := [(0, 2 ^ 31)] })],
  sh := { ctxs := [(1, { state := 0, plan := some bareTraining }), (1, { state := 2, plan := some bareTraining })],
          sessions := [(1, some { priv := .operator, keyId := 3, path := .mgmt .a 8, token := some 77 })] } }
/-- A packet of the Operator's session. -/
def operatorReq : Req :=
  { path := .mgmt .a 8, tag := 21, priv := .operator, ctx := 1, session := 1, token := 77, lenOk := true, crc := 5, reservedZero := true, sigR := 1, sigS := 2 }
/-- The reclamations that run after a command; none when the command is not answered with a next state. -/
def reclaimsAfter (i : Instr) (s : State) : List (Nat × Nat) := match exec i s with | .next t => t.pkg.reclaim | _ => []
theorem reclaimsAfter_of_gives {i : Instr} {s : State} {x : Nat × Nat} (h : Gives i s fun t => x ∈ t.pkg.reclaim) : x ∈ reclaimsAfter i s := by
  obtain ⟨t, ht, hx⟩ := h
  rw [reclaimsAfter, ht]
  exact hx
set_option maxRecDepth 100000 in
/-- The reclamation is written into the first entry, replaces both, and finds no context that still runs: it ends at once. -/
theorem reclaimsAfter_listedTwice : reclaimsAfter (.reclaim operatorReq 1 10) listedTwice = [] := by decide +kernel

/-- Refutes O29: when a context is listed twice, as unused and as launched, RECLAIM of its partition leaves no reclamation. -/
theorem not_restoreAndReclaimComplete : ¬ Obligations.RestoreAndReclaimComplete := by
  intro h
  obtain ⟨-, -, -, hreclaim, -⟩ := h
  obtain ⟨t, ht, -, -, hlisted⟩ := hreclaim listedTwice operatorReq 1 10 1 (by decide +kernel) rfl (by decide) (by decide) rfl (by decide +kernel)
  have hmem := reclaimsAfter_of_gives ⟨t, ht, hlisted⟩
  rw [reclaimsAfter_listedTwice] at hmem
  exact List.not_mem_nil hmem

end Sys2Proof.Machine
end

section
/-! SUPPORT. A Beater whose target lies past its die's last core (R201). -/

namespace Sys2Proof.Machine

/-- Die 0's Beater targets index 208, one past its last core, which is core 0 of die 1; die 1's Beater is in a start-up run. -/
def strayTarget : State := { State.reset with
  vatA := { role := .active }, dies := [(0, { beater := { target := some 208, shifting := true, misr := 1 } }), (1, { beater := { kind := 2 } })] }
/-- The state in which the map shows a core after a command; none when the command is not answered with a next state. -/
def physStateAfter (i : Instr) (s : State) (p : Nat) : Option Nat := match exec i s with | .next t => some (physState (t.phys p)) | _ => none
theorem physStateAfter_of_gives {i : Instr} {s : State} {p k : Nat} (h : Gives i s fun t => physState (t.phys p) = k) : physStateAfter i s p = some k := by
  obtain ⟨t, ht, hk⟩ := h
  rw [physStateAfter, ht, ← hk]
set_option maxRecDepth 100000 in
/-- The run kind that decides on the fence is read at the core's own die, where it is a start-up run's: the core is not fenced. -/
theorem physStateAfter_strayTarget : physStateAfter (.sliceEnd 0 true) strayTarget 256 = some 0 := by decide +kernel

/-- Refutes O30: a failed slice of a targeted index past the die's last core is judged by the run of the next die, and leaves the core unfenced. -/
theorem not_slicesComplete : ¬ Obligations.SlicesComplete := by
  intro h
  obtain ⟨-, -, -, -, -, hend⟩ := h
  obtain ⟨-, hfail⟩ := hend strayTarget .a 0 256 rfl rfl rfl rfl rfl rfl rfl rfl
  obtain ⟨t, ht, -, -, -, hfence⟩ := hfail (by decide +kernel) (by decide) (by decide +kernel) (by decide +kernel) rfl rfl
  have hstate := physStateAfter_of_gives ⟨t, ht, hfence (by decide +kernel)⟩
  rw [physStateAfter_strayTarget] at hstate
  cases hstate

end Sys2Proof.Machine
end

section
/-! SUPPORT. A sizing window that ends past a limit of Table 5.3, on a core whose contract breach resets the package (R56, R230, R283). -/

namespace Sys2Proof.Machine

/-- Core 0 carries logical core 0 of context 0, and its Beater shifts in a sizing window longer than a press interval; die 5 has a lease. A contract
    breach resets its core, which is escalated at once, past partition 1, to the package. -/
def longWindow : State := { State.reset with
  vatA := { role := .active }, pkg := { oos := true, partition := [(0, 1)] }, lcs := [(0, { tag := some 0 })],
  dies := [(0, { phys := [(0, 2 ^ 29)], beater := { target := some 0, shifting := true, window := some (0, 200000) } })],
  sh := { leases := [(5, 0, 100)]
          classCfg := [(19, some { each := 4, thresh := 0, n := 1, w := 0, record := false }),
                       (224, some { each := 2, thresh := 0, n := 1, w := 0, record := false })],
          ladderCfg := [(1, some (0, 1))] } }
/-- The leases outstanding after a command; none when the command is not answered with a next state. -/
def leasesAfter (i : Instr) (s : State) : List (Nat × Nat × Nat) := match exec i s with | .next t => t.sh.leases | _ => []
theorem leasesAfter_of_gives {i : Instr} {s : State} {l : List (Nat × Nat × Nat)} (h : Gives i s fun t => t.sh.leases = l) : leasesAfter i s = l := by
  obtain ⟨t, ht, hl⟩ := h
  rw [leasesAfter, ht, ← hl]
set_option maxRecDepth 100000 in
/-- The window passes in whole when the lease expires, and the breach that follows resets the package, which ends every lease. -/
theorem leasesAfter_longWindow : leasesAfter (.leaseExpiry 0) longWindow = [] := by decide +kernel

/-- Refutes O31: the expiry of a lease can reset the package, by the contract breach at the end of a long sizing window, and then another die's lease
    ends with it. -/
theorem not_leasesComplete : ¬ Obligations.LeasesComplete := by
  intro h
  obtain ⟨-, -, -, -, -, hexpiry, -⟩ := h
  obtain ⟨t, ht, -, hleases⟩ := hexpiry longWindow 0 rfl rfl rfl fun _ _ => rfl
  have hkept := leasesAfter_of_gives ⟨t, ht, hleases⟩
  rw [leasesAfter_longWindow] at hkept
  cases hkept

end Sys2Proof.Machine
end

section
/-! SUPPORT. The bound-void flag, and what a request for a lease leaves (R195, R254). -/

namespace Sys2Proof.Machine

/-! ## Counting an event of a package source at the Vat (Table 7.5) -/

section
variable {s t : State}

theorem applyOne_sansBooks (src key reel : Nat) (l : List Detail) (hc : sourceCore src = none) : (s.applyOne src key reel l).sansBooks = s.sansBooks := by
  have hact (u : State) : u.threshAction src key = u := by simp [State.threshAction, hc]
  have hrisk (u : State) (l : List (Nat × Nat)) : (u.modSh fun h => { h with riskThresh := h.riskThresh ++ l }).sansBooks = u.sansBooks := rfl
  unfold State.applyOne
  dsimp only
  split
  · simp [apply_ite State.sansBooks]
  · simp [hact, apply_ite State.sansBooks, hrisk]
/-- An event of a class that does not reset the package leaves a running package to run. -/
theorem pkgAfter_of_noPkg {src key : Nat} (crossed : Bool) (h : s.noPkg key) : s.pkgAfter src key crossed = s := by
  obtain ⟨heach, hthresh⟩ := h
  simp [State.pkgAfter, heach, hthresh]
/-- The reactions of a package source: no unit is its own, so BLK does nothing. -/
theorem OnlyHolds.agentReact_pkgSource (d m : Nat) {n : Nat} (hn : n < 11) (h : OnlyHolds s t) : OnlyHolds s (t.agentReact d (pkgSource n) m) := by
  unfold State.agentReact
  dsimp only
  rw [takeBlk_pkgSource _ n hn, ite_self]
  have hnmi : OnlyHolds s (if bit m 3 then t.sendNmi d (pkgSource n) else t) := ite _ (h.sendNmi ..) h
  exact ite _ (hnmi.setPin _) hnmi
/-- An event of a package source that does not reset the package. -/
theorem OnlyHolds.vatCount_pkgSource {n : Nat} (x : Detail) (hn : n < 11) (hp : s.noPkg (208 + n)) (h : OnlyHolds s t) :
    OnlyHolds s (t.vatCount (pkgSource n) x) := by
  have hcfg {u : State} (hu : OnlyHolds s u) : u.noPkg (208 + n) := by
    unfold State.noPkg State.cfg
    rw [hu.shared Shared.classCfg (fun _ => rfl)]
    exact hp
  unfold State.vatCount
  rw [classOf_pkgSource n hn]
  dsimp only
  have hreact := h.agentReact_pkgSource (t.agentOf (pkgSource n)) (t.reactionsOf (t.agentOf (pkgSource n)) (pkgSource n) (208 + n)) hn
  generalize t.agentReact (t.agentOf (pkgSource n)) (pkgSource n) (t.reactionsOf (t.agentOf (pkgSource n)) (pkgSource n) (208 + n)) = u at hreact ⊢
  refine ite _ (hreact.firstStage ..) ?_
  rw [applyCount_pkgSource _ _ _ hn]
  have hone := hreact.of_books (applyOne_sansBooks (pkgSource n) (208 + n) u.now [x] (sourceCore_pkgSource n (by omega)))
  rw [pkgAfter_of_noPkg _ (hcfg hone)]
  exact hone
/-- A reason of the bound-void flag is set, with VOID_BEGIN and its count (R254). -/
theorem setVoid_sets {b : Nat} (hb : bit s.pkg.voidReasons b = false) (hp : s.noPkg 209) : (s.setVoid b).pkg.voidReasons = s.pkg.voidReasons + 2 ^ b ∧
    OnlyHolds (s.modPkg fun g => { g with voidReasons := s.pkg.voidReasons + 2 ^ b, voidSince := if g.voidReasons = 0 then g.opTime else g.voidSince
                                          voidCleared := if g.voidReasons = 0 then 0 else g.voidCleared }) (s.setVoid b) := by
  have hset := (OnlyHolds.refl (s.modPkg fun g =>
    { g with voidReasons := s.pkg.voidReasons + 2 ^ b, voidSince := if g.voidReasons = 0 then g.opTime else g.voidSince
             voidCleared := if g.voidReasons = 0 then 0 else g.voidCleared })).record 0x0704 2 (pkgSource 1) (2 ^ b) (s.pkg.voidReasons + 2 ^ b) 0
  have hcount := OnlyHolds.vatCount_pkgSource (n := 1) default (by omega) (show State.noPkg (s.modPkg _) 209 from hp) hset
  unfold State.setVoid
  rw [if_neg (by simp [hb])]
  exact ⟨congrArg Pkg.voidReasons hcount.pkg, hcount⟩

end

/-! ## Requests for a lease (R195) -/

section
variable {s : State}

theorem toVat_beater (d ty : Nat) (w : List Nat) (k : Nat) : ((s.toVat d ty w).die k).beater = (s.die k).beater := by
  unfold State.toVat
  split
  · rw [modDie_die]
    split
    · next h => rw [h]
    · rfl
  · exact congrArg Die.beater (die_of_sansBooks (feltSend_sansBooks ..) k)
theorem toVat_cores (d ty : Nat) (w : List Nat) : (s.toVat d ty w).cores = s.cores := by
  unfold State.toVat
  split
  · rfl
  · exact cores_of_sansBooks (feltSend_sansBooks ..)
theorem adopt_cores (d : Nat) : (s.adopt d).cores = s.cores := by
  unfold State.adopt
  split
  · rfl
  · dsimp only
    split <;> rfl
theorem askLease_cores (d : Nat) : (s.askLease d).cores = s.cores := by
  unfold State.askLease
  split
  · rfl
  · dsimp only
    split
    · split
      · exact (toVat_cores ..).trans (adopt_cores d)
      · exact adopt_cores d
    · exact adopt_cores d
/-- A request for a lease changes the Beater by the request alone, after it has taken its next target. -/
theorem askLease_beater (d : Nat) : ((s.askLease d).die d).beater = (s.die d).beater ∨
    ∃ r, ((s.askLease d).die d).beater = { ((s.adopt d).die d).beater with request := r } := by
  unfold State.askLease
  split
  · exact .inl rfl
  · dsimp only
    split
    · split
      · refine .inr ⟨some (1, (s.adopt d).now), ?_⟩
        rw [toVat_beater, State.modBeater, modDie_die, if_pos rfl]
      · exact .inr ⟨_, rfl⟩
    · exact .inr ⟨_, rfl⟩
/-- A run that waits in the queue stays there until it begins. -/
theorem adopt_queued {p kind : Nat} (h : s.beatQueued p kind) : (s.adopt (coreDie p)).beatQueued p kind ∨
    (((s.adopt (coreDie p)).die (coreDie p)).beater.target = some (coreIndex p) ∧ ((s.adopt (coreDie p)).die (coreDie p)).beater.kind = kind) := by
  unfold State.adopt
  split
  · exact .inl h
  · dsimp only
    have hfurnish : ((s.modFurnish (coreDie p) Furnish.settle).die (coreDie p)).beater = (s.die (coreDie p)).beater := by
      rw [State.modFurnish, modDie_die, if_pos rfl]
    generalize s.modFurnish (coreDie p) Furnish.settle = u at hfurnish ⊢
    have hu : u.beatQueued p kind := by rwa [State.beatQueued, hfurnish]
    split
    · next x hx =>
      obtain ⟨b, hb, hcore, hkind⟩ := hu
      unfold State.beatQueued State.beginBeat
      dsimp only
      rw [State.modBeater, modDie_die, if_pos rfl]
      by_cases ht : x.1 = coreIndex p ∧ x.2.1 = kind
      · exact .inr ⟨congrArg some ht.1, ht.2⟩
      · refine .inl ⟨b, List.mem_filter.mpr ⟨hb, ?_⟩, hcore, hkind⟩
        rw [hcore, hkind]
        simp only [Bool.or_eq_true, bne_iff_ne, ne_eq]
        exact Decidable.not_and_iff_not_or_not.mp fun he => ht ⟨he.1.symm, he.2.symm⟩
    · exact .inl hu
theorem askLease_queued {p kind : Nat} (h : s.beatQueued p kind) : (s.askLease (coreDie p)).beatQueued p kind ∨
    (((s.askLease (coreDie p)).die (coreDie p)).beater.target = some (coreIndex p) ∧ ((s.askLease (coreDie p)).die (coreDie p)).beater.kind = kind) := by
  unfold State.beatQueued
  obtain hb | ⟨r, hb⟩ := askLease_beater (s := s) (coreDie p)
  · rw [hb]; exact .inl h
  · rw [hb]; exact adopt_queued h
/-- An order that its die obeys changes the agent's epoch alone. -/
theorem orderNow_beater {d : Nat} (ty : Nat) (words : List Nat) (ho : s.obeys d = true) : ((s.orderNow d ty words).die d).beater = (s.die d).beater := by
  have hsent : (s.orderSent d ty words).die d = s.die d := die_of_sansBooks (by simp [State.orderSent]) d
  rw [orderNow_of_obeys ty words ho, (die_ack ..).trans (die_of_sansBooks (noteSeen_sansBooks ..) d), modDie_die, if_pos rfl, hsent]

end

/-- Settles O32. -/
theorem screenAgesComplete : Obligations.ScreenAgesComplete := by
  refine ⟨fun s p v hp ha hl hs => ?_, fun s v p hp ha ho hb hn => ?_, fun s v x ha hx hb hn => ?_, fun s p hp hb => ?_,
    fun s rq p h ht hr hu hf he hps ho => ?_, fun s rq h => ?_⟩
  · refine ⟨_, guardId_of_true hp, ?_⟩
    rw [if_neg (by simp [hl])]
    refine ⟨?_, recorded_recordAt (s := s.modCore p fun c => { c with lateShown := true }) ha hs ..⟩
    rw [State.core, cores_of_sansBooks (record_sansBooks ..)]
    exact congrArg Core.lateShown ((modCore_core ..).trans (if_pos rfl))
  · refine ⟨_, guardId_of_true hp, ?_⟩
    rw [whenActing_acting ha, if_neg (by simp [ho])]
    have hrec := (OnlyHolds.refl (s.modCore p fun c => { c with overShown := true })).record 0x0603 2 (coreSource p 0) p (sat 24 (s.screenAge p / 1000000000)) 0
    have hpkg := hrec.pkg
    have hcfg : (((s.modCore p fun c => { c with overShown := true }).record 0x0603 2 (coreSource p 0) p (sat 24 (s.screenAge p / 1000000000)) 0)).noPkg 209 := by
      unfold State.noPkg State.cfg
      rw [hrec.shared Shared.classCfg (fun _ => rfl)]
      exact hn
    obtain ⟨hvoid, hheld⟩ := setVoid_sets (b := 1) (by rw [hpkg]; exact hb) hcfg
    refine ⟨?_, hvoid.trans (by rw [hpkg]; rfl)⟩
    rw [hheld.coreField Core.overShown (fun _ => rfl)]
    refine (hrec.coreField Core.overShown (fun _ => rfl) p).trans ?_
    exact congrArg Core.overShown ((modCore_core ..).trans (if_pos rfl))
  · refine ⟨_, rfl, ?_⟩
    rw [whenActing_acting ha, hx]
    dsimp only
    rw [if_neg (by simp [hb])]
    have hrec := (OnlyHolds.refl s).record 0x0608 2 s.hubRegion 0 x.serial (sat 24 (s.fleetAge / 4096))
    have hpkg := hrec.pkg
    obtain ⟨hvoid, -⟩ := setVoid_sets (s := s.record 0x0608 2 s.hubRegion 0 x.serial (sat 24 (s.fleetAge / 4096))) (b := 3) (by rw [hpkg]; exact hb) (by
      unfold State.noPkg State.cfg
      rw [hrec.shared Shared.classCfg (fun _ => rfl)]
      exact hn)
    exact hvoid.trans (congrArg (·.voidReasons + 8) hpkg)
  · refine ⟨_, guardId_of_true hp, ?_⟩
    rw [if_pos hb]
    dsimp only
    rw [State.core, askLease_cores]
    exact congrArg Core.openScreen ((modCore_core ..).trans (if_pos rfl))
  · refine gives_of_takes h rfl rfl fun a b => ?_
    dsimp only
    rw [if_neg (by simp), if_neg (by simp), if_neg (by simp [show (s.taken a b).inTriage p = false from ht]),
      if_neg (by simp [hr, hu, show (s.taken a b).furnished (coreDie p) 1 = true from hf, show (s.taken a b).enabled (coreDie p) = true from he,
        Nat.not_le.mpr hps])]
    have hsent (f : State → State) : (s.taken a b).askAgent rq (coreDie p) 0x0600 [p, 1] f =
        f (((s.taken a b).orderNow (coreDie p) 0x80 [0x0600, p, 1]).feltSend (coreDie p) 0x81 0
          (s.taken a b).actDie [0x0600]) := by
      unfold State.askAgent
      dsimp only
      rw [if_pos (show (s.taken a b).obeys (coreDie p) = true from ho)]
    have hbeat : ((((s.taken a b).orderNow (coreDie p) 0x80 [0x0600, p, 1]).feltSend (coreDie p) 0x81 0
        (s.taken a b).actDie [0x0600]).die (coreDie p)).beater = (s.die (coreDie p)).beater := by
      rw [die_of_sansBooks (feltSend_sansBooks ..), orderNow_beater (s := s.taken a b) _ _ ho]
      rfl
    rw [hsent, hsent]
    generalize ((s.taken a b).orderNow (coreDie p) 0x80 [0x0600, p, 1]).feltSend (coreDie p) 0x81 0
      (s.taken a b).actDie [0x0600] = u at hbeat ⊢
    have hdie (w : State) : (w.finish rq 0x0600 stOk [] []).die (coreDie p) = w.die (coreDie p) := by
      obtain ⟨o, x, y, hw⟩ := finish_eq (rq := rq) w 0x0600 stOk [] []
      rw [hw]; rfl
    split
    · next hq =>
      refine ⟨answers_finish_nil .., .inl ?_⟩
      obtain ⟨x, hx, hcore⟩ := List.any_eq_true.mp hq
      rw [hdie, hbeat]
      exact ⟨x, hx, beq_iff_eq.mp hcore, .inr hx⟩
    · refine ⟨answers_finish_nil .., ?_⟩
      rw [hdie]
      obtain ⟨x, hx, hcore, hkind⟩ | hnow := askLease_queued (queueBeat_queued (s := u) p 1 0xF)
      · exact .inl ⟨x, hx, hcore, .inl hkind⟩
      · exact .inr hnow
  · exact gives_of_takes h rfl rfl fun a b => answers_finish_of (by simp only [List.flatMap_cons, List.flatMap_nil, List.append_nil, List.append_assoc]; rfl)

end Sys2Proof.Machine
end

section
/-! SUPPORT. Breakpoint holds that begin and end (R439-R441). -/

namespace Sys2Proof.Machine

section
variable {s t u : State} {c scope : Nat}

/-- The cores that a breakpoint's scope covers hang on the context's plan and on the map. -/
theorem scopeCores_congr (hp : (t.ctx c).plan = (s.ctx c).plan) (hm : SameMap s t) : t.scopeCores c scope = s.scopeCores c scope := by
  have hcores : t.ctxCores c = s.ctxCores c := by
    unfold State.ctxCores State.ctxLcs
    rw [hp, funext hm.carrier]
  unfold State.scopeCores State.ctxParts State.ctxDies
  rw [hcores, hm.partOf, hm.partDies]

/-- What the end of a breakpoint hold leaves (R441): no hold, the map and the plan as before, and nothing kept at a core of the scope. -/
structure HoldOver (c scope : Nat) (s t : State) : Prop where
  map : SameMap s t
  plan : (t.ctx c).plan = (s.ctx c).plan
  gone : (t.ctx c).brkHold = none
  kept : ∀ p ∈ s.scopeCores c scope, (t.core p).deferred = []

namespace HoldOver

theorem scopeCores (h : HoldOver c scope s t) : t.scopeCores c scope = s.scopeCores c scope := scopeCores_congr h.plan h.map
theorem of_holds (h : HoldOver c scope s t) (hu : OnlyHolds t u) (hc : u.sansHolds = t.sansHolds) : HoldOver c scope s u where
  map := h.map.trans hu.map
  plan := (congrArg Ctx.plan (ctx_of_sansHolds hc c)).trans h.plan
  gone := (congrArg Ctx.brkHold (ctx_of_sansHolds hc c)).trans h.gone
  kept p hp := (hu.coreField Core.deferred (fun _ => rfl) p).trans (h.kept p hp)
theorem of_books (h : HoldOver c scope s t) (hu : u.sansBooks = t.sansBooks) : HoldOver c scope s u :=
  h.of_holds (.of_books (.refl t) hu) (sansHolds_of_sansBooks hu)
theorem modCore (p : Nat) (f : Core → Core) (hf : ∀ k, k.deferred = [] → (f k).deferred = []) (h : HoldOver c scope s t) : HoldOver c scope s (t.modCore p f) where
  map := h.map
  plan := h.plan
  gone := h.gone
  kept q hq := by
    rw [modCore_core]
    split
    · next he => exact hf _ (he ▸ h.kept q hq)
    · exact h.kept q hq
theorem modCtx (k : Nat) (f : Ctx → Ctx) (hf : ∀ x, (f x).plan = x.plan ∧ (f x).brkHold = x.brkHold) (h : HoldOver c scope s t) :
    HoldOver c scope s (t.modCtx k f) where
  map := h.map
  plan := by
    rw [modCtx_ctx]
    split
    · next he => rw [(hf _).1, ← he]; exact h.plan
    · exact h.plan
  gone := by
    rw [modCtx_ctx]
    split
    · next he => rw [(hf _).2, ← he]; exact h.gone
    · exact h.gone
  kept := h.kept
theorem modLc (n : Nat) (f : Lc → Lc) (h : HoldOver c scope s t) : HoldOver c scope s (t.modLc n f) := ⟨h.map, h.plan, h.gone, h.kept⟩
theorem modTicket (k : Nat) (f : Ticket → Ticket) (h : HoldOver c scope s t) : HoldOver c scope s (t.modTicket k f) := ⟨h.map, h.plan, h.gone, h.kept⟩
theorem emit (o : Out) (h : HoldOver c scope s t) : HoldOver c scope s (t.emit o) := ⟨h.map, h.plan, h.gone, h.kept⟩
theorem ite (b : Prop) [Decidable b] (h : HoldOver c scope s t) (h' : HoldOver c scope s u) : HoldOver c scope s (if b then t else u) := by split <;> assumption
theorem each {α : Type} (l : List α) (f : State → α → State) (hf : ∀ t, ∀ a ∈ l, HoldOver c scope s t → HoldOver c scope s (f t a)) (h : HoldOver c scope s t) :
    HoldOver c scope s (Machine.each l f t) := List.foldlRecOn l f h fun u hu a ha => hf u a ha hu

theorem unholdCore (p key : Nat) (h : HoldOver c scope s t) : HoldOver c scope s (t.unholdCore p key) :=
  h.of_holds ((OnlyHolds.refl t).unholdCore ..) (unholdCore_sansHolds ..)
theorem unholdDie (d key : Nat) (h : HoldOver c scope s t) : HoldOver c scope s (t.unholdDie d key) := by
  refine h.of_holds ((OnlyHolds.refl t).unholdDie ..) ?_
  unfold State.unholdDie
  split
  · rfl
  · split
    · rfl
    · exact (each_sansHolds _ _ _ fun u p => by simp).trans (unholdRegion_sansHolds ..)
theorem freeCore (k p : Nat) (h : HoldOver c scope s t) : HoldOver c scope s (t.freeCore k p) := by
  have hfree := (h.modCore p (fun x => { x with runTo := none }) fun _ hk => hk).unholdCore p (brkKey k)
  exact ite _ hfree (hfree.modCore _ _ fun _ hk => hk)
theorem freeScope (k x : Nat) (h : HoldOver c scope s t) : HoldOver c scope s (t.freeScope k x) := by
  unfold State.freeScope
  exact each _ _ (fun _ p _ hu => hu.freeCore k p) (ite _ (each _ _ (fun _ d _ hu => hu.unholdDie d _) h) h)
theorem hostReady (k n status : Nat) (h : HoldOver c scope s t) : HoldOver c scope s (t.hostReady k n status) := by
  unfold State.hostReady State.postHosts
  split
  · exact h
  · next x _ =>
    exact each _ _ (fun _ _ _ hu => hu.emit _)
      ((h.modCtx k (fun y => { y with hosts := y.hosts.set ((t.ctx k).hosts.findIdx fun z => z == x) (n, some status) }) fun _ => ⟨rfl, rfl⟩).modCtx k _ fun _ => ⟨rfl, rfl⟩)
theorem letGo (p k n : Nat) (x : GateXfer) (h : HoldOver c scope s t) : HoldOver c scope s (t.letGo p k n x) := by
  have hsent {u : State} (hu : HoldOver c scope s u) : HoldOver c scope s
      (match x.ticket with | some t => u.modTicket t fun k => { k with sent := if k.state = .free then k.sent else k.sent + 1 } | none => u) := by
    split
    · exact hu.modTicket ..
    · exact hu
  have hemit : HoldOver c scope s (if x.poisoned then (t.emit (.gate p x.ticket true)).emit (.poisonWord p) else t.emit (.gate p x.ticket true)) :=
    ite _ ((h.emit _).emit _) (h.emit _)
  exact ite _ ((hsent hemit).hostReady ..) (hsent hemit)
theorem drainGate (k n : Nat) (h : HoldOver c scope s t) : HoldOver c scope s (t.drainGate k n) := by
  unfold State.drainGate
  split
  · exact h
  · exact ite _ h (each _ _ (fun _ x _ hu => hu.letGo _ _ _ x) (h.modLc ..))
/-- At a core of the scope nothing is kept, so nothing takes effect there. -/
theorem applyKept {p : Nat} (hp : p ∈ s.scopeCores c scope) (h : HoldOver c scope s t) : HoldOver c scope s (t.applyKept p) := by
  unfold State.applyKept
  rw [h.kept p hp]
  exact h.modCore p (fun k => { k with deferred := [] }) fun _ _ => rfl

end HoldOver

/-- A breakpoint hold ends at BRK_RESUME. -/
theorem doResume_over (run : Nat) (b : BrkHold) (hk : ∀ p ∈ s.scopeCores c b.scope, (s.core p).deferred = []) : HoldOver c b.scope s (s.doResume c run b) := by
  have hclear : HoldOver c b.scope s (s.modCtx c fun x => { x with brkHold := none, runHold := if run = 0 then none else some b }) :=
    ⟨.of_dies rfl rfl, by rw [modCtx_ctx, if_pos rfl], by rw [modCtx_ctx, if_pos rfl], hk⟩
  have hfree := hclear.freeScope c b.scope
  unfold State.doResume
  extract_lets s₁ s₂
  have hs : s₁.scopeCores c b.scope = s.scopeCores c b.scope := hfree.scopeCores
  subst s₂
  rw [hs]
  refine HoldOver.of_books (HoldOver.of_books (.each _ _ (fun t p hp ht => ?_) hfree) (record_sansBooks ..)) (mirror_sansBooks _)
  split
  · exact ht
  · next n _ =>
    have hrun := HoldOver.ite (run = 0) ht (ht.modCore p (fun k => { k with runTo := some (((t.lc n).lstep + run) % 2 ^ 64) }) fun _ hd => hd)
    have happ := hrun.applyKept hp
    dsimp only
    split
    · exact happ.drainGate ..
    · exact happ

/-- A breakpoint that a context's cores hit while no hold of it runs begins one (R440). -/
theorem brkTrigger_holds (d : Nat) (b : Brk) (hn : (s.ctx c).brkHold = none) (hg : s.dbg.gstop = none) : ((s.brkTrigger d c b).ctx c).brkHold =
    some { kind := b.kind, scope := b.scope, number := b.number, start := s.now, inForce := false, resume := none, after := false } := by
  have hscope (t : State) (k : Nat) : (t.holdScope c k).sansHolds = t.sansHolds := by
    unfold State.holdScope
    dsimp only
    rw [each_sansHolds _ _ _ fun u p => vatSend_sansHolds ..]
    split
    · exact each_sansHolds _ _ _ fun u p => holdDie_sansHolds ..
    · exact each_sansHolds _ _ _ fun u p => holdCore_sansHolds ..
  unfold State.brkTrigger
  rw [hn]
  dsimp only
  rw [if_neg (by simp [hg]), ctx_of_sansHolds (hscope ..), ctx_of_sansHolds (each_sansHolds _ _ _ fun u p => feltSend_sansHolds ..), modCtx_ctx, if_pos rfl]
  simp [hg]

theorem recorded_record {v : Hub} (ha : s.acting = some v) (h : s.vatA.staging.length < 1024) (code severity source p1 p2 p3 : Nat) :
    s.recorded (s.record code severity source p1 p2 p3) code source p1 p2 p3 := recorded_recordAt ha h ..
/-- What is recorded shows in hub A's recorder alone. -/
theorem recorded_of_recorder {code source p1 p2 p3 : Nat} (h : u.recorder = t.recorder) (hr : s.recorded t code source p1 p2 p3) :
    s.recorded u code source p1 p2 p3 := by
  have hseq : u.sh.recSeq = t.sh.recSeq := congrArg Prod.fst h
  have hvat : u.vatA = t.vatA := congrArg Prod.snd h
  unfold State.recorded
  rw [hseq, hvat]
  exact hr
/-- A watchpoint of a logical core whose core is not parked changes at once. -/
theorem putWatch_lc {n : Nat} (i : Nat) (w : Option Watch) (hp : ∀ p, s.carrier n = some p → (s.core p).parked = false) :
    tget none ((s.putWatch n i w).lc n).watch i = w := by
  have hput : s.putWatch n i w = s.modLc n fun l => { l with watch := tset none l.watch i w } := by
    unfold State.putWatch
    split
    · next p hc => rw [if_neg (by simp [hp p hc])]
    · rfl
  rw [hput, modLc_lc, if_pos rfl, tget_tset, if_pos rfl]
theorem clearBrks_brks (p : Brk → Bool) : ((s.clearBrks c p).ctx c).brks = (s.ctx c).brks.filter fun b => !p b := by
  unfold State.clearBrks
  dsimp only
  refine Eq.trans (each_keeps (fun t : State => (t.ctx c).brks) _ _ _ fun t d => ?_) ?_
  · split <;> rfl
  · rw [modCtx_ctx, if_pos rfl]

end

/-- Settles O33. -/
theorem breakpointCommandsComplete : Obligations.BreakpointCommandsComplete := by
  refine ⟨fun s rq i n base len kinds tm action h hp ht hk hl64 hl hb => ?_, fun s rq n i w h hp ht hk hw => ?_, fun s rq n k h hst hlen => ?_,
    fun s rq n h => ?_, fun s rq run b h hb ha => ⟨fun hf => ?_, fun hf hk => ?_⟩, fun s d c a b hd hc hb hn hg => ?_, fun s c b v hc ha hs hb hf haf hr => ?_⟩
  · refine gives_of_takes h rfl rfl fun x y => ?_
    have hno : (s.taken x y).lcTriage n = false := ht
    have hdenied : (s.taken x y).lcDenied rq n = false := by simp [State.lcDenied, hp]
    have hn : min (s.pkg.spad - base) (max 64 (len / 64 * 64)) = len := by omega
    dsimp only
    rw [if_neg (by simp [hdenied, hp]), if_neg (by simp [hp]), if_neg (by simp [hno])]
    rw [if_pos (show min ((s.taken x y).pkg.spad - base) (max 64 (len / 64 * 64)) = len from hn)]
    refine ⟨answers_finish_nil .., ?_⟩
    rw [lc_finish, putWatch_lc (s := s.taken x y) i _ hk]
    simp [hp, hn]
  · refine gives_of_takes h rfl rfl fun x y => ?_
    have hno : (s.taken x y).lcTriage n = false := ht
    have hdenied : (s.taken x y).lcDenied rq n = false := by simp [State.lcDenied, hp]
    dsimp only
    rw [if_neg (by simp [hdenied, hp]), if_neg (by simp [hno])]
    refine ⟨?_, answers_finish_of ?_⟩
    · rw [lc_finish, putWatch_lc (s := s.taken x y) i _ hk]
    · rw [show tget none ((s.taken x y).lc n).watch i = some w from hw]
  · refine gives_of_takes h rfl rfl fun x y => ?_
    have hst' : ¬ (((s.taken x y).ctx rq.ctx).state = 0 || ((s.taken x y).ctx rq.ctx).state = 3) = true := by obtain h1 | h1 := hst <;> simp [h1]
    dsimp only
    rw [if_neg (by simp), if_neg hst', if_neg (show ¬ 16 ≤ ((s.taken x y).ctx rq.ctx).brks.length from Nat.not_le.mpr hlen), if_neg (by decide)]
    refine ⟨answers_finish_nil .., ?_⟩
    rw [ctx_finish, ctx_mirror, modCtx_ctx, if_pos rfl]
    rfl
  · refine gives_of_takes h rfl rfl fun x y => ?_
    refine ⟨answers_finish_nil .., ?_⟩
    rw [ctx_finish, ctx_mirror, clearBrks_brks]
    rfl
  · refine gives_of_takes h rfl rfl fun x y => ?_
    rw [show ((s.taken x y).ctx rq.ctx).brkHold = some b from hb]
    dsimp only
    rw [if_neg (by simp [ha]), if_neg (by simp [hf])]
    refine ⟨runs_beginRun .., ?_⟩
    obtain ⟨l, m, hrun⟩ := beginRun_eq (rq := rq) ((s.taken x y).modCtx rq.ctx fun k => { k with brkHold := some { b with resume := some run } }) 0x0C04 rq.ctx 0 []
    rw [hrun]
    change (State.ctx (State.modCtx (s.taken x y) rq.ctx fun k => { k with brkHold := some { b with resume := some run } }) rq.ctx).brkHold = _
    rw [modCtx_ctx, if_pos rfl]
  · refine gives_of_takes h rfl rfl fun x y => ?_
    rw [show ((s.taken x y).ctx rq.ctx).brkHold = some b from hb]
    dsimp only
    rw [if_neg (by simp [ha]), if_pos hf]
    refine ⟨answers_finish_nil .., ?_⟩
    rw [ctx_finish]
    exact (doResume_over (s := s.taken x y) run b hk).gone
  · refine ⟨_, guardId_of_true hd, ?_⟩
    rw [hc]
    change ((s.brkTriggers d c fun b => b.kind == 0 && b.arg == a).ctx c).brkHold = _
    unfold State.brkTriggers
    rw [hb]
    exact brkTrigger_holds d b hn hg
  · refine ⟨_, guardId_of_true (by simpa using hc), ?_⟩
    rw [hb]
    dsimp only
    rw [if_neg (by simp [hf, haf])]
    split
    · have hrec := recorded_record (s := s.modCtx c fun x => { x with brkHold := some { b with inForce := true } }) ha hs
        0x0E00 0 (ctxSource c 0) (b.kind * 2 ^ 20 + b.scope * 2 ^ 16 + c) b.number (sat 24 ((s.now - b.start) / 1000))
      have hctx := ctx_of_sansBooks (record_sansBooks (s.modCtx c fun x => { x with brkHold := some { b with inForce := true } })
        0x0E00 0 (ctxSource c 0) (b.kind * 2 ^ 20 + b.scope * 2 ^ 16 + c) b.number (sat 24 ((s.now - b.start) / 1000))) c
      rw [modCtx_ctx, if_pos rfl] at hctx
      split
      · exact ⟨congrArg Ctx.brkHold ((ctx_of_sansBooks (postInt_sansBooks ..) c).trans hctx), recorded_of_recorder (postInt_recorder ..) hrec⟩
      · exact ⟨congrArg Ctx.brkHold hctx, hrec⟩
    · next x hx => exact absurd (hx.symm.trans hr) nofun

end Sys2Proof.Machine
end

section
/-! SUPPORT. The global stop: its latches, its table and its release (R442-R447). -/

namespace Sys2Proof.Machine

section
variable {s t u : State} {d : Nat}

/-- A die whose stop latch reads `b`, with the debug state of `s`. -/
structure Latched (d : Nat) (b : Bool) (s t : State) : Prop where
  dbg : t.dbg = s.dbg
  latch : (t.die d).stopLatch = b

namespace Latched
variable {b : Bool}

theorem of_holds (h : Latched d b s t) (hu : OnlyHolds t u) : Latched d b s u := ⟨hu.dbg.trans h.dbg, (hu.dieField Die.stopLatch (fun _ => rfl) d).trans h.latch⟩
theorem of_dies (h : Latched d b s t) (hd : u.dbg = t.dbg) (hs : u.dies = t.dies) : Latched d b s u :=
  ⟨hd.trans h.dbg, (congrArg Die.stopLatch (die_of_dies hs d)).trans h.latch⟩
theorem toVat (e ty : Nat) (w : List Nat) (h : Latched d b s t) : Latched d b s (t.toVat e ty w) := h.of_holds ((OnlyHolds.refl t).toVat ..)
theorem each {α : Type} (l : List α) (f : State → α → State) (hf : ∀ t a, Latched d b s t → Latched d b s (f t a)) (h : Latched d b s t) :
    Latched d b s (Machine.each l f t) := each_holds _ l f t hf h
theorem ite (p : Prop) [Decidable p] (h : Latched d b s t) (h' : Latched d b s u) : Latched d b s (if p then t else u) := by split <;> assumption
theorem sendStop (e : Nat) (h : Latched d b s t) : Latched d b s (t.sendStop e) := by
  have hcores : Latched d b s (if isCompute e then Machine.each [0, 63, 126] (fun s i =>
      s.toVat e 0xC4 ((i * 2 ^ 16 + (((dieCores e).drop i).take 63).length) :: (((dieCores e).drop i).take 63).flatMap fun p => stopWords (s.stopEntry p))) t
      else t) := ite _ (each _ _ (fun _ _ hu => hu.toVat ..) h) h
  exact toVat _ _ _ (hcores.of_dies rfl rfl)

end Latched

/-- A station latches the stop, and the wave goes on when it had not (Table 14.4). -/
theorem latchStop_latched (s : State) (d : Nat) : Latched d true s (s.latchStop d) ∧ ((s.die d).stopLatch = false → Emits s (s.latchStop d) (.stopWave d)) := by
  unfold State.latchStop
  by_cases h : (s.die d).stopLatch = true
  · rw [if_pos h]
    exact ⟨⟨rfl, h⟩, fun hn => absurd h (by simp [hn])⟩
  · rw [if_neg h]
    have hset : Latched d true s ((s.modDie d fun k =>
        { k with stopLatch := true, beater := { k.beater with stopping := k.beater.stopping || k.beater.shifting } }).emit (.stopWave d)) :=
      ⟨rfl, by rw [emit_die, modDie_die, if_pos rfl]⟩
    have hemit : Emits s ((s.modDie d fun k =>
        { k with stopLatch := true, beater := { k.beater with stopping := k.beater.stopping || k.beater.shifting } }).emit (.stopWave d)) (.stopWave d) :=
      (emits_emit _ _).after_keeps (modDie_keeps d _ (.refl false s))
    generalize (s.modDie d fun k =>
        { k with stopLatch := true, beater := { k.beater with stopping := k.beater.stopping || k.beater.shifting } }).emit (.stopWave d) = u at hset hemit
    have hhold := hset.of_holds ((OnlyHolds.refl u).holdDie d 3 3)
    have hcores := hhold.each (dieCores d) (fun s p => (s.tapRing p 0x0D (s.core p).stallNow).modCore p fun c => { c with haltReel := some (s.dieReel d) })
      fun t p ht => (ht.of_holds ((OnlyHolds.refl t).tapRing p 0x0D (t.core p).stallNow)).of_dies rfl rfl
    have hkeeps : Keeps false u (each (dieCores d)
        (fun s p => (s.tapRing p 0x0D (s.core p).stallNow).modCore p fun c => { c with haltReel := some (s.dieReel d) }) (u.holdDie d 3 3)) :=
      each_keepsS _ _ (fun t p ht => modCore_keeps _ _ (tapRing_keeps _ _ _ ht)) (holdDie_keeps _ _ _ (.refl _ _))
    refine ⟨.sendStop _ (.ite _ hcores hset), fun _ => hemit.of_keeps (sendStop_keeps (kp := false) _ ?_)⟩
    split
    · exact hkeeps
    · exact .refl _ _
theorem stopTaken_keeps {s t : State} (i : Nat) (b : Bool) (h : Keeps false s t) : Keeps false s (if b then t.stopDone i else t) := by
  split
  · exact stopDone_keeps i h
  · exact h
theorem headerBits {k : Nat} (hk : k < 256) : bits (k * 2 ^ 16 + 1) 24 8 = 0 ∧ bits (k * 2 ^ 16 + 1) 0 16 = 1 := by
  unfold bits
  omega
/-- A global stop is initiated. -/
theorem startStop_stops (initiator : Nat) (hg : s.dbg.gstop = none) : (s.startStop d initiator).dbg.gstop = some (initiator, s.now) ∧
    ((s.startStop d initiator).die d).stopLatch = true := by
  unfold State.startStop
  rw [if_neg (by simp [hg])]
  obtain ⟨⟨hdbg, hlatch⟩, -⟩ := latchStop_latched (s.modDbg fun g =>
    { g with gstop := some (initiator, s.now), stopTable := [], stopLinks := [], releaseAt := none, unreadable := false }) d
  exact ⟨congrArg Debug.gstop hdbg, hlatch⟩

/-! ### The stop table (R444) -/

theorem dbg_endRuns (t : State) (p : Run → Bool) (status : Nat) (data : List (Nat × Nat)) : (t.endRuns p status data).dbg = t.dbg := by
  refine each_keeps State.dbg _ _ _ fun u x => ?_
  obtain ⟨o, a, b, c, d, h⟩ := endRun_eq u x status data
  rw [h]
theorem stopDone_tables (i : Nat) : (s.stopDone i).dbg.stopTable = s.dbg.stopTable ∧ (s.stopDone i).dbg.stopLinks = s.dbg.stopLinks := by
  unfold State.stopDone
  dsimp only
  unfold State.endOp
  rw [dbg_endRuns, dbg_of_sansBooks (record_sansBooks ..)]
  exact ⟨rfl, rfl⟩
/-- The tables that a message of a stop's table leaves, whether or not it is the last. -/
theorem stopTables_of_taken (i : Nat) (b : Bool) : (if b then s.stopDone i else s).dbg.stopTable = s.dbg.stopTable ∧
    (if b then s.stopDone i else s).dbg.stopLinks = s.dbg.stopLinks := by
  split
  · exact stopDone_tables i
  · exact ⟨rfl, rfl⟩

theorem keeps_taken (a : Table (Option Session)) (b : List Retained) : Keeps false s (s.taken a b) :=
  modSh_keeps (fun h => { h with sessions := a, retained := b }) (.refl false s)
theorem emits_vatSend_mode (hk : Keeps false s t) (ty mode dst : Nat) (words : List Nat) :
    ∃ x, Emits s (t.vatSend ty mode dst words) (.felt x) ∧ x.type = ty ∧ x.mode = mode ∧ x.words = t.epoch :: words :=
  ⟨_, .after_keeps hk (emits_feltSend ..), rfl, rfl, rfl⟩
/-- The stop ends: the latches clear, the cores lose their halt, and a breakpoint that came under the stop takes effect (R447). -/
def State.freeStop (s : State) : State :=
  let s := each ((List.range 100).filter fun d => (s.die d).stopLatch) (fun s d => (s.modDie d fun k => { k with stopLatch := false }).unholdDie d 3) s
  let s := each ((s.cores.filter fun e => e.2.haltReel.isSome).map (·.1)) (fun s p => s.modCore p fun c => { c with haltReel := none }) s
  each ((s.sh.ctxs.filter fun e => e.2.brkHold.isSome).map (·.1)) (fun s c => s.lateBrk c) s
/-- The stop's own state ends with it. -/
def State.stopFreed (s : State) : State := s.freeStop.modDbg fun g => { g with gstop := none, releaseAt := none, stopTable := [], stopLinks := [] }
/-- After a stop no station's latch is set. -/
theorem freeStop_latch (hd : d < 100) : (s.freeStop.die d).stopLatch = false := by
  have hlate (t : State) (c : Nat) : OnlyHolds t (t.lateBrk c) := by
    unfold State.lateBrk
    split
    · exact .ite _ (.holdScope _ _ (.modCtx _ _ (fun _ => rfl) (.refl t))) (.refl t)
    · exact .refl t
  have clear (t : State) (d e : Nat) (h : (t.die d).stopLatch = false) : ((t.modDie e fun k => { k with stopLatch := false }).die d).stopLatch = false := by
    rw [modDie_die]
    split
    · rfl
    · exact h
  have hclear : ((each ((List.range 100).filter fun d => (s.die d).stopLatch)
      (fun s d => (s.modDie d fun k => { k with stopLatch := false }).unholdDie d 3) s).die d).stopLatch = false := by
    by_cases hl : (s.die d).stopLatch = true
    · refine each_establishes (fun d (t : State) => (t.die d).stopLatch = false) (fun s d => (s.modDie d fun k => { k with stopLatch := false }).unholdDie d 3)
        (fun t d => ?_) (fun t d e h => ?_) _ _ d (List.mem_filter.mpr ⟨List.mem_range.mpr hd, hl⟩)
      · rw [((OnlyHolds.refl (t.modDie d fun k => { k with stopLatch := false })).unholdDie d 3).dieField Die.stopLatch (fun _ => rfl) d, modDie_die, if_pos rfl]
      · exact (((OnlyHolds.refl _).unholdDie e 3).dieField Die.stopLatch (fun _ => rfl) d).trans (clear t d e h)
    · exact each_holds (fun t : State => (t.die d).stopLatch = false) _ _ _ (fun t e h => (((OnlyHolds.refl _).unholdDie e 3).dieField Die.stopLatch (fun _ => rfl) d).trans (clear t d e h)) ((Bool.not_eq_true _).mp hl)
  unfold State.freeStop
  dsimp only
  refine each_holds (fun t : State => (t.die d).stopLatch = false) _ _ _ (fun t c h => ((hlate t c).dieField Die.stopLatch (fun _ => rfl) d).trans h) ?_
  exact (each_keeps (fun t : State => (t.die d).stopLatch) _ (fun t p => t.modCore p fun c => { c with haltReel := none }) _ fun _ _ => rfl).trans hclear

end

/-- Settles O34. -/
theorem globalStopCompletes : Obligations.GlobalStopCompletes := by
  refine ⟨fun s rq h hg => ?_, fun s hub hl hg => ?_, fun s d hd hg hn => ?_, fun s h v e w i k ha hn hg hw hk he hv hsrc => ?_,
    fun s h v w i ha hn hg hw => ?_, fun s rq x h hg hh hu hr => ?_, fun s h d k hd hr he hu hg => ?_, fun s hg hr => ?_⟩
  · refine gives_of_takes h rfl rfl fun a b => ?_
    rw [if_neg (by simp [hg])]
    obtain ⟨hstop, hlatch⟩ := startStop_stops (s := s.taken a b) (d := (s.taken a b).actDie) 0 hg
    obtain ⟨x, y, hrun⟩ := beginRun_eq (rq := rq) ((s.taken a b).startStop (s.taken a b).actDie 0) 0x0C05 0 0 []
    refine ⟨?_, ?_, runs_beginRun ..⟩
    · rw [hrun]; exact hstop
    · rw [hrun]; exact hlatch
  · refine ⟨_, rfl, ?_⟩
    rw [if_pos (by obtain h | h | ⟨h, hv⟩ := hl <;> simp_all)]
    exact startStop_stops 2 hg
  · refine ⟨_, guardId_of_true hd, ?_⟩
    rw [if_pos (Option.isSome_iff_ne_none.mpr hg)]
    obtain ⟨⟨-, hlatch⟩, hwave⟩ := latchStop_latched s d
    exact ⟨hlatch, hwave hn⟩
  · obtain ⟨init, at'⟩ := i
    refine gives_recvVat_acked (by rfl) rfl ha hn fun n => ?_
    rw [show (s.withFelt n).dbg.gstop = some (init, at') from hg]
    simp only [List.headD_cons, List.drop_succ_cons, List.drop_zero]
    refine ⟨?_, emits_ack_of (stopTaken_keeps _ _ (modDbg_keeps _ (withFelt_keeps n (.refl false s)))) ..⟩
    rw [dbg_of_sansBooks (ack_sansBooks ..), (stopTables_of_taken ..).1, modDbg_dbg, (headerBits hk).1, (headerBits hk).2, if_pos rfl]
    simp [List.take_of_length_le hw.le, he, hv, hsrc]
  · obtain ⟨init, at'⟩ := i
    refine gives_recvVat_acked (by rfl) rfl ha hn fun n => ?_
    rw [show (s.withFelt n).dbg.gstop = some (init, at') from hg]
    simp only [List.headD_cons, List.drop_succ_cons, List.drop_zero]
    rw [dbg_of_sansBooks (ack_sansBooks ..), (stopTables_of_taken ..).2, modDbg_dbg, if_neg (by decide)]
    simp [bits, List.take_of_length_le hw.le]
  · refine gives_of_takes h rfl rfl fun a b => ?_
    rw [show (s.taken a b).dbg.gstop = some x from hg]
    dsimp only
    rw [if_neg (by decide), if_neg (by simp [hh, hu]), if_neg (by simp [hr])]
    refine ⟨?_, runs_beginRun .., ?_⟩
    · obtain ⟨y, z, hrun⟩ := beginRun_eq (rq := rq) (((s.taken a b).modDbg fun g => { g with releaseAt := some ((s.taken a b).now + 100000) }).vatSend 0x93 1 0
        [((s.taken a b).now + 100000) % 2 ^ 32, bits ((s.taken a b).now + 100000) 32 32]) 0x0C06 0 0 []
      rw [hrun]
      exact congrArg Debug.releaseAt (dbg_of_sansBooks (vatSend_sansBooks ..))
    · have hkeeps : Keeps false s ((s.taken a b).modDbg fun g => { g with releaseAt := some ((s.taken a b).now + 100000) }) := modDbg_keeps _ (keeps_taken a b)
      obtain ⟨y, hsent, htype, hmode, hwords⟩ := emits_vatSend_mode hkeeps 0x93 1 0
        [((s.taken a b).now + 100000) % 2 ^ 32, bits ((s.taken a b).now + 100000) 32 32]
      exact ⟨y, hsent.of_keeps (beginRun_keeps _ _ _ _ _ (.refl false _)), htype, hmode, hwords⟩
  · refine gives_recvCmd_acked (by rfl) (guardId_of_true hd) hr he hu fun n => ?_
    rw [if_pos (show ((s.modDie d fun k => { k with epoch := h.epoch }).withFelt n).dbg.gstop.isSome = true from Option.isSome_iff_ne_none.mpr hg)]
    exact ⟨congrArg Debug.releaseAt (dbg_of_sansBooks (ack_sansBooks ..)), emits_ack_of (modDbg_keeps _ (withFelt_keeps n (modDie_keeps d _ (.refl false s)))) ..⟩
  · obtain ⟨x, hx⟩ := Option.ne_none_iff_exists'.mp hg
    obtain ⟨k, hk⟩ := Option.ne_none_iff_exists'.mp hr
    obtain ⟨init, at'⟩ := x
    refine ⟨(s.stopFreed.record 0x0E03 0 s.stopFreed.hubRegion 1 (sat 24 ((s.stopFreed.now - at') / 1000000)) 0).endOp 0x0C06 0 stOk [], ?_, ?_⟩
    · change execGstopReleaseActivation s = _
      unfold execGstopReleaseActivation
      rw [hx, hk]
      rfl
    dsimp only
    unfold State.endOp
    rw [dbg_endRuns, dbg_of_sansBooks (record_sansBooks ..)]
    refine ⟨rfl, rfl, fun d hd => ?_⟩
    rw [die_of_dies ((dies_endRuns ..).trans (dies_record ..))]
    exact freeStop_latch hd

end Sys2Proof.Machine
end

section
/-! SUPPORT. The debug reads (R445-R456). -/

namespace Sys2Proof.Machine

section
variable {s : State} {rq : Req} {d : Nat}

/-- A core is the one that its place among all cores names. -/
theorem pcoreOf_place {p : Nat} (hp : validCore p = true) :
    (coreDie p * 156 + coreIndex p) / 156 = coreDie p ∧ (coreDie p * 156 + coreIndex p) % 156 = coreIndex p ∧ coreDie p * 156 + coreIndex p < 14976 := by
  obtain ⟨hd, hi, -⟩ := validCore_lt hp
  omega
/-- What a packet names exists when the packet is taken. -/
theorem named_of_takes {op : OpInfo} {ctxs : List Nat} {ok : Bool} (h : s.takes rq op ctxs ok = true) : ok = true := by
  obtain ⟨-, -, -, -, hcheck, -⟩ := (takes_iff s rq op ctxs ok).mp h
  unfold State.checkPacket at hcheck
  dsimp only at hcheck
  iterate 12 obtain ⟨-, hcheck⟩ := of_ite_some_eq_none hcheck
  obtain ⟨hok, -⟩ := of_ite_some_eq_none hcheck
  cases ok with
  | true => rfl
  | false => simp at hok
theorem die_finish (t : State) (op st : Nat) (cl : List Clamp) (data : List (Nat × Nat)) (d : Nat) : (t.finish rq op st cl data).die d = t.die d := by
  obtain ⟨o, a, b, hf⟩ := finish_eq (rq := rq) t op st cl data
  rw [hf]
  rfl
/-- The profile of a die is cleared, whether or not it holds an entry. -/
theorem clearProf_die (f : Die → Die) (hf : ∀ k, (f k).prof = [] ∧ (f k).profOver = none) :
    ((each ([d].filter fun d => !(s.die d).prof.isEmpty || (s.die d).profOver.isSome) (fun s d => s.modDie d f) s).die d).prof = [] ∧
      ((each ([d].filter fun d => !(s.die d).prof.isEmpty || (s.die d).profOver.isSome) (fun s d => s.modDie d f) s).die d).profOver = none := by
  rw [List.filter_singleton]
  by_cases h : (!(s.die d).prof.isEmpty || (s.die d).profOver.isSome) = true
  · rw [h]
    change ((s.modDie d f).die d).prof = [] ∧ ((s.modDie d f).die d).profOver = none
    rw [modDie_die, if_pos rfl]
    exact hf _
  · rw [(Bool.not_eq_true _).mp h]
    change (s.die d).prof = [] ∧ (s.die d).profOver = none
    simpa using h

end

/-- Settles O35. -/
theorem debugReadsComplete : Obligations.DebugReadsComplete := by
  refine ⟨fun s rq i x h hg => ?_, fun s rq ring first n h hp h1 h28 => ?_, fun s rq p h => ?_, fun s rq d first n h hp h1 h5 => ?_,
    fun s rq d h hp hd => ?_, fun s rq off x h hx => ?_⟩
  · have hi : i < 14976 := by simpa using named_of_takes h
    refine gives_of_takes h rfl rfl fun a b => ?_
    rw [if_neg (by simp [hg])]
    dsimp only
    rw [clampTo_of_le (Nat.le_refl 1) (by decide)]
    refine answers_finish_of ?_
    simp [hi]
  · refine gives_of_takes h rfl rfl fun a b => ?_
    dsimp only
    rw [if_pos rfl, if_neg hp, clampTo_of_le h1 h28]
    refine answers_finish_of (congrArg (List.flatMap · _) (funext fun e => ?_))
    unfold State.ringFields State.inRange
    cases hr : rq.priv with
    | tenant => exact absurd hr hp
    | _ => rfl
  · have hnamed := named_of_takes h
    simp only [Bool.and_eq_true] at hnamed
    obtain ⟨⟨hv, -⟩, he⟩ := hnamed
    obtain ⟨hdiv, hmod, hlt⟩ := pcoreOf_place hv
    obtain ⟨-, -, hpcore⟩ := validCore_lt hv
    refine gives_of_takes h rfl rfl fun a b => ?_
    dsimp only
    rw [clampTo_of_le (Nat.le_refl 1) (by decide), if_neg (by decide)]
    refine answers_finish_of ?_
    simp [hdiv, hmod, hlt, hpcore, show (s.taken a b).enabled (coreDie p) = true from he]
    rfl
  · refine gives_of_takes h rfl rfl fun a b => ?_
    dsimp only
    rw [clampTo_of_le h1 h5]
    simp only [hp, if_false]
    exact answers_finish_nil ..
  · have hne : d ≠ 0xFF := by rintro rfl; exact absurd hd (by decide)
    refine gives_of_takes h rfl rfl fun a b => ?_
    simp only [hp, hne, if_false, decide_false, Bool.not_false, Bool.true_or, Bool.not_true]
    obtain ⟨hprof, hover⟩ := clearProf_die (s := s.taken a b) (d := d) (fun k => { k with prof := k.prof.filter fun _ => false, profOver := none, profLost := 0 })
      fun k => ⟨by simp, rfl⟩
    rw [die_finish]
    refine ⟨hprof, hover, answers_finish_of ?_⟩
    simp
  · refine gives_of_takes h rfl rfl fun a b => ?_
    rw [show (s.taken a b).dbg.dumpHeld = some x from hx]
    dsimp only
    rw [if_pos rfl]
    obtain ⟨o, y, z, hf⟩ := finish_eq (rq := rq) ((s.taken a b).modDbg fun g => { g with dumpHeld := some (x.1, false) }) 0x0C09 stOk []
      ((List.range (min 448 (16 * s.dbg.dumpDir.length + s.dbg.dumpNext - off))).map fun i => (8, s.dumpByte (off + i)))
    exact ⟨congrArg (fun t : State => t.dbg.dumpHeld) hf, answers_finish_nil ..⟩

end Sys2Proof.Machine
end

section
/-! SUPPORT. Crash dumps (R448-R450). -/

namespace Sys2Proof.Machine

section
variable {s : State} {u : DumpUnit}

/-- The dump of one unit begins: the buffer is empty, and the command runs. -/
def State.dumpBegun (s : State) (rq : Req) (lock : Nat) (u : DumpUnit) : State :=
  (s.modDbg fun g => { g with dumpHeld := none, dumpBytes := [], dumpDir := [], dumpNext := 0, truncated := false, dumpTodo := [u] }).beginRun rq 0x0C08 0 lock []
theorem dumpBegun_spec (s : State) (rq : Req) (lock : Nat) (u : DumpUnit) : (s.dumpBegun rq lock u).dbg =
    { s.dbg with dumpHeld := none, dumpBytes := [], dumpDir := [], dumpNext := 0, truncated := false, dumpTodo := [u] } ∧ (s.dumpBegun rq lock u).cores = s.cores := by
  obtain ⟨x, y, hrun⟩ := beginRun_eq (rq := rq) (s.modDbg fun g =>
    { g with dumpHeld := none, dumpBytes := [], dumpDir := [], dumpNext := 0, truncated := false, dumpTodo := [u] }) 0x0C08 0 lock []
  unfold State.dumpBegun
  rw [hrun]
  exact ⟨rfl, rfl⟩
theorem unitResets_of_cores {t : State} (h : t.cores = s.cores) : t.unitResets u = s.unitResets u := by
  have hcore : t.core = s.core := funext fun p => show tget {} t.cores p = tget {} s.cores p by rw [h]
  unfold State.unitResets
  rw [hcore]
/-- A unit that is not in reset and whose image fits is scanned. -/
theorem goDump_one (ht : s.dbg.dumpTodo = [u]) (hs : 16 * (s.dbg.dumpDir.length + 1) + s.dbg.dumpNext + imageSize u ≤ 0x800000) (hr : s.unitResets u = false) :
    s.goDump = s.emit (.scan u.kind u.unit) := by
  have hscan : State.nextScan 1 s = s.emit (.scan u.kind u.unit) := by
    unfold State.nextScan
    rw [ht]
    dsimp only
    rw [if_neg (Nat.not_lt.mpr hs), if_neg (by simp [hr])]
  unfold State.goDump State.endDump
  rw [ht, List.length_singleton, hscan, emit_dbg, ht]
  rfl
/-- A dump by command with no unit left is held: the rest of the debug state stays. -/
theorem endDump_dbg (hn : s.dbg.dumpTodo = []) (ha : s.dbg.dumpAuto = false) (hr : s.running 0x0C08 0 = true) :
    ∃ x, s.endDump.dbg = { s.dbg with dumpHeld := some x, dumpAuto := false } := by
  have hdump : (s.dbg.dumpTodo.isEmpty && s.dumping) = true := by simp [hn, State.dumping, hr]
  unfold State.endDump
  rw [if_pos hdump]
  dsimp only
  rw [if_neg (show ¬ s.draw.2.dbg.dumpAuto = true by simp [ha])]
  unfold State.endOp
  rw [dbg_endRuns, dbg_of_sansBooks (record_sansBooks ..)]
  exact ⟨_, rfl⟩
/-- The last unit of a dump by command ends: its directory entry is the last, and the dump is held. -/
theorem unitDone_dbg (status : Nat) (image : List Byte) (ht : s.dbg.dumpTodo = [u]) (ha : s.dbg.dumpAuto = false) (hr : s.running 0x0C08 0 = true)
    (hst : status = 0 ∨ s.dbg.gstop ≠ none) : ∃ x, (s.unitDone status image).dbg =
      { s.dbg with dumpTodo := [], dumpDir := s.dbg.dumpDir ++ [(u.kind, status, u.unit, u.offset, imageSize u)], dumpNext := s.dbg.dumpNext + imageSize u
                   dumpBytes := if status = 0 then tput (0 : Byte) (s.dbg.dumpBytes.filter fun e => e.1 < s.dbg.dumpNext) s.dbg.dumpNext (image.take (imageSize u))
                     else s.dbg.dumpBytes.filter fun e => e.1 < s.dbg.dumpNext
                   unreadable := if status = 0 then s.dbg.unreadable else true, dumpHeld := some x, dumpAuto := false } := by
  have hdump : s.dumping = true := by simp [State.dumping, hr]
  unfold State.unitDone
  rw [ht]
  dsimp only
  rw [if_neg (by simp [hdump])]
  by_cases h0 : status = 0
  · rw [if_pos h0]
    simp only [if_pos h0]
    exact endDump_dbg rfl ha hr
  · rw [if_neg h0]
    simp only [if_neg h0]
    have hg : s.dbg.gstop.isSome = true := Option.isSome_iff_ne_none.mpr (hst.resolve_left h0)
    unfold State.markUnreadable
    rw [if_pos (by exact hg)]
    exact endDump_dbg rfl ha hr

end

/-- Settles O36. -/
theorem dumpsComplete : Obligations.DumpsComplete := by
  refine ⟨fun s rq lock u h hd hh hst hr hsize => ?_, fun s u image ht ha hr => ⟨_, rfl, ?_⟩, fun s u ht ha hr hg => ⟨_, rfl, ?_⟩,
    fun s h v u l off bytes ha hn ht hd hlen => ?_⟩
  · refine gives_of_takes h rfl rfl fun a b => ?_
    have hfree : ((s.taken a b).dumping || (match (s.taken a b).dbg.dumpHeld with | some x => x.2 | none => false) || !([u].all (s.taken a b).unitStill)) = false := by
      have hheld : (match s.dbg.dumpHeld with | some x => x.2 | none => false) = false := by
        cases hx : s.dbg.dumpHeld with
        | none => rfl
        | some x => exact hh x hx
      rw [show (s.taken a b).dumping = false from hd, show (match (s.taken a b).dbg.dumpHeld with | some x => x.2 | none => false) = false from hheld,
        List.all_cons, show (s.taken a b).unitStill u = true from hst]
      rfl
    refine of_ite_neg (P := fun t : State => t.dbg.dumpTodo = [u] ∧ Emits s t (.scan u.kind u.unit) ∧ t.runs rq 0x0C08 0)
      (fun hbusy => Bool.noConfusion (hfree.symm.trans hbusy)) ?_
    change ((s.taken a b).dumpBegun rq lock u).goDump.dbg.dumpTodo = [u] ∧ Emits s ((s.taken a b).dumpBegun rq lock u).goDump (.scan u.kind u.unit) ∧
      ((s.taken a b).dumpBegun rq lock u).goDump.runs rq 0x0C08 0
    obtain ⟨hdbg, hcores⟩ := dumpBegun_spec (s.taken a b) rq lock u
    rw [goDump_one (by rw [hdbg]) (by rw [hdbg]; change 16 * (0 + 1) + 0 + imageSize u ≤ 0x800000; omega) (by rw [unitResets_of_cores hcores]; exact hr)]
    exact ⟨congrArg Debug.dumpTodo hdbg, (emits_emit _ _).after_keeps (beginRun_keeps _ _ _ _ _ (modDbg_keeps _ (keeps_taken a b))), runs_beginRun ..⟩
  · obtain ⟨x, hx⟩ := unitDone_dbg 0 image ht ha hr (.inl rfl)
    change (s.unitDone 0 image).dbg.dumpDir = _ ∧ (s.unitDone 0 image).dbg.dumpTodo = _ ∧ (s.unitDone 0 image).dbg.dumpHeld ≠ none ∧
      ∀ i (h : i < image.length), i < imageSize u → tget 0 (s.unitDone 0 image).dbg.dumpBytes (s.dbg.dumpNext + i) = image[i]
    rw [hx]
    refine ⟨rfl, rfl, nofun, fun i hi hn => ?_⟩
    have htake : i < (image.take (imageSize u)).length := by rw [List.length_take]; omega
    exact (tget_tput _ _ _ _ _ htake).trans List.getElem_take
  · obtain ⟨x, hx⟩ := unitDone_dbg 1 [] ht ha hr (.inr hg)
    rw [hx]
    exact ⟨rfl, rfl⟩
  · refine gives_recvVat_acked (by rfl) rfl ha hn fun n => ?_
    rw [show (s.withFelt n).dbg.dumpTodo = u :: l from ht]
    dsimp only
    rw [if_pos (by simpa [show (s.withFelt n).dumping = true from hd] using hlen)]
    refine ⟨fun i hi => ?_, emits_ack_of (modDbg_keeps _ (withFelt_keeps n (.refl false s))) ..⟩
    rw [dbg_of_sansBooks (ack_sansBooks ..)]
    exact tget_tput _ _ _ _ _ hi

end Sys2Proof.Machine
end

section
/-! SUPPORT. The recorder's roll area (R460-R465). -/

namespace Sys2Proof.Machine

section
variable {s t : State}

theorem vatField_of_sansBooks {α : Type} (g : Vat → α) (hg : ∀ x, g x.sansBooks = g x) (h : t.sansBooks = s.sansBooks) (v : Hub) :
    g (t.vat v) = g (s.vat v) := by
  have hvat : (t.vat v).sansBooks = (s.vat v).sansBooks := by
    cases v with
    | a => exact congrArg State.vatA h
    | b => exact congrArg State.vatB h
  rw [← hg (t.vat v), ← hg (s.vat v), hvat]
theorem roll_of_sansBooks (h : t.sansBooks = s.sansBooks) (v : Hub) : (t.vat v).roll = (s.vat v).roll := vatField_of_sansBooks Vat.roll (fun _ => rfl) h v
theorem modVat_sansBooks (v : Hub) (f : Vat → Vat) (hf : ∀ x, (f x).sansBooks = x.sansBooks) : (s.modVat v f).sansBooks = s.sansBooks := by
  cases v with
  | a => exact congrArg (fun x => { s.sansBooks with vatA := x }) (hf s.vatA)
  | b => exact congrArg (fun x => { s.sansBooks with vatB := x }) (hf s.vatB)
theorem modVat_roll (h : Hub) (f : Vat → Vat) (v : Hub) (hf : ∀ x, (f x).roll = x.roll) : ((s.modVat h f).vat v).roll = (s.vat v).roll := by
  by_cases hv : v = h
  · rw [hv, modVat_vat_same, hf]
  · cases h with
    | a => cases v with
      | a => exact absurd rfl hv
      | b => rfl
    | b => cases v with
      | a => rfl
      | b => exact absurd rfl hv
theorem checkHead_roll (h v : Hub) : ((s.checkHead h).vat v).roll = (s.vat v).roll := by
  unfold State.checkHead
  split
  · exact roll_of_sansBooks (record_sansBooks ..) v
  · rfl
theorem stageLost_sansBooks (h : Hub) : (s.stageLost h).sansBooks = s.sansBooks := by
  unfold State.stageLost
  dsimp only
  split
  · rw [record_sansBooks, modVat_sansBooks]
    exact fun _ => rfl
  · rfl
theorem refill_sansBooks (h : Hub) : (s.refill h).sansBooks = s.sansBooks := by
  unfold State.refill
  dsimp only
  split
  · rw [stageLost_sansBooks, modVat_sansBooks]
    exact fun _ => rfl
  · rfl
/-- A record's copy takes its slot of the roll area, whatever else its hub then does. -/
theorem storeRec_roll (h : Hub) (r : Rec) : tget default ((s.storeRec h r).vat h).roll (r.seq % 65536) = r := by
  unfold State.storeRec
  rw [modVat_vat_same]
  exact (tget_tset ..).trans (if_pos rfl)
/-- An area is cleared on both hubs; the records that wait stay out of it. -/
theorem recClear_roll (priv : Nat) (v : Hub) : ((s.recClear 0 priv).vat v).roll = [] := by
  unfold State.recClear
  dsimp only
  rw [modVat_roll _ _ v, modVat_roll _ _ v, roll_of_sansBooks (record_sansBooks ..)]
  · cases v <;> rfl
  · exact fun _ => rfl
  · exact fun _ => rfl

end

/-- Settles O37. -/
theorem recorderCommandsComplete : Obligations.RecorderCommandsComplete := by
  refine ⟨fun s hub r l hw => ?_, fun s rq i h => ?_, fun s rq h ha hb => ?_, fun s v ha hw => ?_⟩
  · refine ⟨State.refill (if s.wasWritten hub r then ((s.modVat hub fun v => { v with writing := l }).storeRec hub r).checkHead hub
      else (((s.modVat hub fun v => { v with writing := l }).storeRec hub r).checkHead hub).written r) hub, ?_, ?_⟩
    · change execRecordWriteDone hub true true s = _
      unfold execRecordWriteDone
      rw [hw]
      rfl
    · have hroll := storeRec_roll (s := s.modVat hub fun v => { v with writing := l }) hub r
      rw [← checkHead_roll hub hub] at hroll
      dsimp only
      rw [roll_of_sansBooks (refill_sansBooks hub)]
      split
      · exact hroll
      · rw [roll_of_sansBooks (written_sansBooks ..)]
        exact hroll
  · refine gives_of_takes h rfl rfl fun a b => ?_
    dsimp only
    rw [clampTo_of_le (Nat.le_refl 1) (by decide)]
    refine answers_finish_of ?_
    change _ = match (s.taken a b).rollRec (i % 2 ^ 32) with
      | some r => [(8, 0), (24, 0), (256, recNum r)]
      | none => [(8, 1), (24, 0), (256, 0)]
    simp only [List.range_one, List.map_cons, List.map_nil, if_pos, Nat.add_zero]
    cases (s.taken a b).rollRec (i % 2 ^ 32) <;> rfl
  · refine gives_of_takes_signed h rfl rfl fun a b => ?_
    rw [if_neg (by simp), if_neg (by simp), if_pos (show (s.taken a b).bothWindows = true by simp [State.bothWindows, ha, hb])]
    obtain ⟨o, x, y, hf⟩ := finish_eq (rq := rq) ((s.taken a b).recClear 0 (privCode rq.priv)) 0x0C0F stOk [] []
    refine ⟨?_, ?_, answers_finish_nil ..⟩
    · rw [hf]; exact recClear_roll _ .a
    · rw [hf]; exact recClear_roll _ .b
  · refine ⟨_, if_neg (by simp [ha]), ?_⟩
    dsimp only
    rw [pkg_of_sansBooks (mramWrite_sansBooks _), if_pos (by simpa using hw)]
    rfl

end Sys2Proof.Machine
end

section
/-! SUPPORT. Heartbeats and the standby (R320-R328). -/

namespace Sys2Proof.Machine

section
variable {s t : State} {sb : Hub}

/-- A standby stands beside an active Vat. -/
theorem active_of_standbyHub (h : s.standbyHub = some sb) : s.activeHub = some (otherHub sb) ∧ ((s.vat sb).role = .standby ∨ (s.vat sb).role = .syncing) := by
  unfold State.standbyHub at h
  split at h
  · next v hv =>
    split at h
    · next hr =>
      cases Option.some.inj h
      exact ⟨hv.trans (by cases v <;> rfl), by simpa using hr⟩
    · exact absurd h nofun
  · exact absurd h nofun
/-- An image goes to the MRAM's durable copy, and nothing else changes. -/
theorem keepDurable_vat (s : State) (h : Hub) : s.keepDurable.vat h = s.vat h := by
  unfold State.keepDurable
  split
  · rfl
  · cases h <;> rfl
theorem keepDurable_sh (s : State) : s.keepDurable.sh = s.sh := by
  unfold State.keepDurable
  split <;> rfl
/-- A Vat that is not active leaves service (R327). -/
theorem vatDown_spec (hr : (s.vat sb).role ≠ .active) : ((s.vatDown sb).vat sb).role = .offline ∧ ((s.vatDown sb).vat sb).gated = true ∧
    ((s.vatDown sb).vat sb).loadStart = some s.reel ∧ ((s.vatDown sb).vat sb).lastFailed = (s.vat sb).lastFailed ∧
    ((s.vatDown sb).vat sb).staging = (s.vat sb).staging ∧ (s.vatDown sb).vat (otherHub sb) = s.vat (otherHub sb) ∧ (s.vatDown sb).sh = s.sh := by
  unfold State.vatDown State.dropFwds
  rw [if_neg hr, keepDurable_vat, keepDurable_vat, keepDurable_sh]
  cases sb <;> exact ⟨rfl, rfl, rfl, rfl, rfl, rfl, rfl⟩
/-- The active Vat is found by the roles alone. -/
theorem activeHub_iff (h : Hub) : s.activeHub = some h ↔ (s.vat h).role = .active ∧ (h = .b → s.vatA.role ≠ .active) := by
  unfold State.activeHub
  cases h with
  | a => by_cases ha : s.vatA.role = .active <;> by_cases hb : s.vatB.role = .active <;> simp [ha, hb, State.vat]
  | b => by_cases ha : s.vatA.role = .active <;> by_cases hb : s.vatB.role = .active <;> simp [ha, hb, State.vat]
theorem acting_of_activeHub {h : Hub} (ha : s.activeHub = some h) (hs : s.sh.switching = false) : s.acting = some h := by
  unfold State.acting
  rw [ha]
  simp [hs]

theorem endSwitchWait_of_not_switching (h : s.sh.switching = false) : s.endSwitchWait = s := by
  unfold State.endSwitchWait
  split
  · rfl
  · exact if_pos (by simp [h])

/-- A standby that has fallen silent is taken down, and its health is recorded (R328). -/
theorem standbyDown (hsb : s.standbyHub = some sb) (hs : s.sh.switching = false) (hl : s.vatA.staging.length < 1024) :
    ∃ t, exec .stbyLiveTimeout s = .next t ∧ (t.vat sb).role = .offline ∧ (t.vat sb).gated = true ∧ (t.vat sb).loadStart = some s.reel ∧
      s.recorded t 0x0A02 (pkgSource 6) (3 * 2 ^ 20 + (s.vat sb).lastFailed) s.sh.mirrorSeq 0 := by
  obtain ⟨hact, hrole⟩ := active_of_standbyHub hsb
  have hne : (s.vat sb).role ≠ .active := by obtain h | h := hrole <;> rw [h] <;> exact nofun
  obtain ⟨hoff, hgated, hload, hfailed, hstaging, hother, hsh⟩ := vatDown_spec hne
  have hpeer : ((s.vatDown sb).peerOffline sb).vat sb = (s.vatDown sb).vat sb := by cases sb <;> rfl
  have hpeersh : ((s.vatDown sb).peerOffline sb).sh = s.sh := (modVat_sh ..).trans hsh
  have hpeeract : ((s.vatDown sb).peerOffline sb).activeHub = some (otherHub sb) := by
    obtain ⟨hr, -⟩ := (activeHub_iff _).mp hact
    have hrother : (((s.vatDown sb).peerOffline sb).vat (otherHub sb)).role = .active := by
      unfold State.peerOffline
      rw [modVat_vat_same]
      exact (congrArg Vat.role hother).trans hr
    refine (activeHub_iff _).mpr ⟨hrother, fun hb ha => ?_⟩
    have hsa : sb = .a := by
      cases sb with
      | a => rfl
      | b => exact absurd hb nofun
    subst hsa
    exact absurd (ha.symm.trans ((congrArg Vat.role hpeer).trans hoff)) nofun
  have hroom : ((s.vatDown sb).peerOffline sb).vatA.staging.length < 1024 := by
    have hsame : ((s.vatDown sb).peerOffline sb).vatA.staging = s.vatA.staging := by
      cases sb with
      | a => exact (congrArg Vat.staging hpeer).trans hstaging
      | b => exact (show ((s.vatDown .b).peerOffline .b).vatA.staging = ((s.vatDown .b).vat .a).staging from rfl).trans (congrArg Vat.staging hother)
    rwa [hsame]
  have hrec := recorded_record (acting_of_activeHub hpeeract (by rw [hpeersh]; exact hs)) hroom 0x0A02 2 (pkgSource 6)
    (roleCode (((s.vatDown sb).peerOffline sb).vat sb).role * 2 ^ 20 + (((s.vatDown sb).peerOffline sb).vat sb).lastFailed)
    (((s.vatDown sb).peerOffline sb).sh.mirrorSeq % 2 ^ 24) 0
  have hbooks := record_sansBooks ((s.vatDown sb).peerOffline sb) 0x0A02 2 (pkgSource 6)
    (roleCode (((s.vatDown sb).peerOffline sb).vat sb).role * 2 ^ 20 + (((s.vatDown sb).peerOffline sb).vat sb).lastFailed)
    (((s.vatDown sb).peerOffline sb).sh.mirrorSeq % 2 ^ 24) 0
  have hexec : exec .stbyLiveTimeout s = .next (((s.vatDown sb).peerOffline sb).standbyHealth sb).endSwitchWait := by
    change execStbyLiveTimeout s = _
    unfold execStbyLiveTimeout
    rw [hsb]
  refine ⟨_, hexec, ?_⟩
  unfold State.standbyHealth
  rw [endSwitchWait_of_not_switching ((shared_of_sansBooks Shared.switching (fun _ => rfl) hbooks).trans (by rw [hpeersh]; exact hs))]
  rw [vatField_of_sansBooks Vat.role (fun _ => rfl) hbooks, vatField_of_sansBooks Vat.gated (fun _ => rfl) hbooks, vatField_of_sansBooks Vat.loadStart (fun _ => rfl) hbooks, hpeer]
  refine ⟨hoff, hgated, hload, ?_⟩
  rw [hpeer, hoff, hfailed] at hrec
  unfold State.recorded at hrec ⊢
  rw [hpeersh, Nat.mod_mod] at hrec
  rw [hoff, hfailed, hpeersh]
  exact hrec

/-! ### A heartbeat at a station (R321) -/

/-- A station notes the heartbeat, and its isolation ends. -/
def State.lived (s : State) (h : Hdr) (d : Nat) : State :=
  let s := s.modDie d fun k => { k with live := some (s.dieReel d), liveEpoch := h.epoch }
  if (s.die d).isolated then (s.modDie d fun k => { k with isolated := false }).unholdDie d isolateKey else s
/-- The Vat of a hub that is not active hears it too. -/
def State.heard (s : State) (h : Hdr) (d : Nat) : State :=
  match dieHub d with
  | some v => if ((s.lived h d).vat v).role = .active then s.lived h d else (s.lived h d).modVat v fun x => { x with heardReel := some (s.lived h d).reel, epoch := h.epoch }
  | none => s.lived h d
theorem heard_die (w : State) (h : Hdr) (d : Nat) : (w.heard h d).die d = (w.lived h d).die d := by
  unfold State.heard
  split
  · split
    · rfl
    · exact modVat_die ..
  · rfl
theorem OnlyHolds.vatRole (h : OnlyHolds s t) (v : Hub) : (t.vat v).role = (s.vat v).role := by
  cases v with
  | a => exact show t.sansStops.vatA.role = s.sansStops.vatA.role from congrArg (fun u : State => u.vatA.role) h.rest
  | b => exact show t.sansStops.vatB.role = s.sansStops.vatB.role from congrArg (fun u : State => u.vatB.role) h.rest
theorem lived_spec (w : State) (h : Hdr) (d : Nat) : (((w.lived h d).die d).live = some (w.dieReel d) ∧ ((w.lived h d).die d).liveEpoch = h.epoch ∧
    ((w.lived h d).die d).epoch = (w.die d).epoch ∧ ((w.lived h d).die d).isolated = false) ∧ ∀ v, ((w.lived h d).vat v).role = (w.vat v).role := by
  have hset := modDie_die w d (fun k => { k with live := some (w.dieReel d), liveEpoch := h.epoch }) d
  rw [if_pos rfl] at hset
  have hrole (v : Hub) : ((w.modDie d fun k => { k with live := some (w.dieReel d), liveEpoch := h.epoch }).vat v).role = (w.vat v).role := by cases v <;> rfl
  unfold State.lived
  dsimp only
  generalize (w.modDie d fun k => { k with live := some (w.dieReel d), liveEpoch := h.epoch }) = u at hset hrole ⊢
  split
  · have hone := modDie_die u d (fun k => { k with isolated := false }) d
    rw [if_pos rfl, hset] at hone
    have hheld := (OnlyHolds.refl (u.modDie d fun k => { k with isolated := false })).unholdDie d isolateKey
    refine ⟨⟨?_, ?_, ?_, ?_⟩, fun v => (hheld.vatRole v).trans ?_⟩
    · rw [hheld.dieField Die.live (fun _ => rfl), hone]
    · rw [hheld.dieField Die.liveEpoch (fun _ => rfl), hone]
    · rw [hheld.dieField Die.epoch (fun _ => rfl), hone]
    · rw [hheld.dieField Die.isolated (fun _ => rfl), hone]
    · exact Eq.trans (by cases v <;> rfl) (hrole v)
  · next hiso => exact ⟨⟨by rw [hset], by rw [hset], by rw [hset], (Bool.not_eq_true _).mp hiso⟩, hrole⟩

end

/-- Settles O38. -/
theorem heartbeatsComplete : Obligations.HeartbeatsComplete := by
  refine ⟨fun s h ha => ?_, fun s h d hd hr he hu => ?_, fun s h sb ha hsb => ?_, fun s h v r hd ha hn => ?_, fun s sb hsb hs hl => standbyDown hsb hs hl,
    fun s sb hsb hr => ?_⟩
  · refine ⟨s.feltSend (hubDie h) 0x01 1 0 [(s.vat h).epoch, s.sh.mirrorSeq], ?_, _, emits_feltSend .., rfl, rfl, rfl, rfl⟩
    change execLivePeriod s = _
    unfold execLivePeriod
    rw [ha]
  · refine gives_recvCmd_unacked (by rfl) (guardId_of_true hd) hr he hu fun n => ?_
    have hreel : ((s.modDie d fun k => { k with epoch := h.epoch }).withFelt n).dieReel d = s.dieReel d := by
      rw [withFelt_dieReel]
      unfold State.dieReel
      rw [modDie_die, if_pos rfl]
      rfl
    have hvat (v : Hub) : ((s.modDie d fun k => { k with epoch := h.epoch }).withFelt n).vat v = s.vat v := by cases v <;> rfl
    have hepoch : (((s.modDie d fun k => { k with epoch := h.epoch }).withFelt n).die d).epoch = h.epoch := by
      rw [withFelt_die, modDie_die, if_pos rfl]
    rw [← hreel]
    generalize (s.modDie d fun k => { k with epoch := h.epoch }).withFelt n = w at hvat hepoch ⊢
    obtain ⟨⟨hlive, hle, hep, hiso⟩, hrole⟩ := lived_spec w h d
    change ((w.heard h d).die d).live = _ ∧ ((w.heard h d).die d).liveEpoch = _ ∧ ((w.heard h d).die d).epoch = _ ∧ ((w.heard h d).die d).isolated = _ ∧
      ∀ v, dieHub d = some v → (s.vat v).role ≠ .active → ((w.heard h d).vat v).epoch = h.epoch
    rw [heard_die]
    refine ⟨hlive, hle, hep.trans hepoch, hiso, fun v hv hna => ?_⟩
    unfold State.heard
    rw [hv]
    dsimp only
    rw [hrole, hvat, if_neg hna, modVat_vat_same]
  · refine ⟨s.feltSend (hubDie sb) 0x02 0 (hubDie h) [roleCode (s.vat sb).role, (s.vat sb).lastFailed, (s.vat sb).cycleReel.getD 0, (s.vat sb).mirrorApplied,
      (s.vat sb).fwSerial], ?_, _, emits_feltSend .., rfl, rfl, rfl, rfl⟩
    change execStbyLivePeriod s = _
    unfold execStbyLivePeriod
    rw [hsb, ha]
  · refine gives_recvVat_unacked (by rfl) (guardId_of_true hd) ha hn fun n => ?_
    rw [show (s.withFelt n).acting = some v from ha]
    dsimp only [Option.getD_some]
    rw [modVat_vat_same]
    exact ⟨rfl, rfl⟩
  · have hexec : exec .mirrorSynced s = .next ((s.modVat sb fun v => { v with role := .standby, mirrorApplied := s.sh.mirrorSeq, syncStart := none }).record 0x0A03 0
        (pkgSource 6) (sat 24 ((s.reel - (s.vat sb).syncStart.getD s.reel) / 1000000))
        ((s.modVat sb fun v => { v with role := .standby, mirrorApplied := s.sh.mirrorSeq, syncStart := none }).sh.mirrorSeq % 2 ^ 24) 0) := by
      change execMirrorSynced s = _
      unfold execMirrorSynced
      rw [hsb]
      exact if_pos hr
    refine ⟨_, hexec, ?_⟩
    have hbooks := record_sansBooks (s.modVat sb fun v => { v with role := .standby, mirrorApplied := s.sh.mirrorSeq, syncStart := none }) 0x0A03 0
        (pkgSource 6) (sat 24 ((s.reel - (s.vat sb).syncStart.getD s.reel) / 1000000))
        ((s.modVat sb fun v => { v with role := .standby, mirrorApplied := s.sh.mirrorSeq, syncStart := none }).sh.mirrorSeq % 2 ^ 24) 0
    dsimp only
    rw [vatField_of_sansBooks Vat.role (fun _ => rfl) hbooks, vatField_of_sansBooks Vat.mirrorApplied (fun _ => rfl) hbooks, modVat_vat_same]
    exact ⟨rfl, rfl⟩

end Sys2Proof.Machine
end

section
/-! SUPPORT. The triggers of a switch-over (R322-R327). -/

namespace Sys2Proof.Machine

/-- A Vat that has left service (R15, R327, R397). -/
def Vat.down (reel : Nat) (v : Vat) : Vat :=
  { v with role := .offline, gated := true, image := none, loadStart := some reel, cplDie := 0, mramWin := false, mramOkSince := none, cplOff := 0
           privDeny := 0, fwSerial := 0, epoch := 0, peer := none, syncStart := none, mirrorApplied := 0, cycleItems := 0 }
/-- What the end of a Vat's service changes besides that Vat: what has left, the network, the accesses forwarded, and MRAM's durable copy. -/
def State.afterService (s : State) (o : List Out) (n : Felt) (f : List Fwd) (m : Option Durable) : State :=
  { s with out := o, felt := n, sh := { s.sh with fwds := f }, pkg := { s.pkg with mram := m } }

section
variable {s : State}

theorem dropFwds_eq (s : State) (h : Hub) : ∃ o n f, s.dropFwds h = { s with out := o, felt := n, sh := { s.sh with fwds := f } } := by
  unfold State.dropFwds
  split
  · obtain ⟨n, o, hout⟩ := each_emit_only s.sh.fwds (fun _ _ => Out.errorResponse) s
    rw [hout]
    exact ⟨_, _, _, rfl⟩
  · exact ⟨_, _, _, rfl⟩
theorem keepDurable_eq (s : State) : ∃ m, s.keepDurable = { s with pkg := { s.pkg with mram := m } } := by
  unfold State.keepDurable
  split
  · exact ⟨_, rfl⟩
  · exact ⟨_, rfl⟩
theorem vatDown_eq (s : State) (h : Hub) : ∃ o n f m, s.vatDown h = (s.afterService o n f m).modVat h (Vat.down s.reel) := by
  obtain ⟨o, n, f, hdrop⟩ := dropFwds_eq s h
  obtain ⟨m, hkeep⟩ := keepDurable_eq ((s.dropFwds h).modVat h (Vat.down s.reel))
  refine ⟨o, n, f, m, Eq.trans (b := ((s.dropFwds h).modVat h (Vat.down s.reel)).keepDurable) ?_ (hkeep.trans ?_)⟩
  · rw [State.vatDown, hdrop]; rfl
  · rw [hdrop]; cases h <;> rfl
/-- A failed active Vat is gated, and its standby told, or a package reset is due (R322, R323). -/
theorem failOver_spec (h : Hub) (code : Nat) : ((s.failOver h code).vat h).role = .offline ∧ ((s.failOver h code).vat h).gated = true ∧
    (s.failOver h code).dies = s.dies ∧ (s.failOver h code).sh.classCfg = s.sh.classCfg ∧
    (s.canPromote (otherHub h) = true → (s.failOver h code).sh.gap = some (s.newGap code (otherHub h) s.reel true false) ∧
      ∃ x, Emits s (s.failOver h code) (.felt x) ∧ x.type = 0x03 ∧ x.dst = hubDie (otherHub h) ∧ x.words = [code]) ∧
    (s.canPromote (otherHub h) = false → (s.failOver h code).sh.noStandby = some s.reel) := by
  obtain ⟨o, n, f, m, hdown⟩ := vatDown_eq s h
  have hkeeps (f : Shared → Shared) : Keeps false s ((s.vatDown h).modSh f) := modSh_keeps _ (vatDown_keeps h (.refl false s))
  unfold State.failOver
  by_cases hc : s.canPromote (otherHub h) = true
  · rw [if_pos hc]
    dsimp only
    refine ⟨?_, ?_, ?_, ?_, fun _ => ⟨?_, _, .after_keeps (hkeeps _) (emits_feltSend ..), rfl, rfl, rfl⟩, fun hn => absurd hc (by simp [hn])⟩
    all_goals
      obtain ⟨n', o', hfelt⟩ := (OnlyFelt.refl ((s.vatDown h).modSh fun x =>
        { x with gap := some (s.newGap code (otherHub h) s.reel true false), switching := false })).feltSend (hubDie h) 0x03 0 (hubDie (otherHub h)) [code] none
      rw [hfelt, hdown]
      cases h <;> rfl
  · rw [if_neg hc]
    refine ⟨?_, ?_, ?_, ?_, fun hy => absurd hy hc, fun _ => ?_⟩
    all_goals
      rw [hdown]
      cases h <;> rfl

/-- DEPOSE leaves for every agent, and the switch-over is at its second step (Table 10.3). -/
theorem sendDepose_spec {t : State} {k : Gap} (g : Gap) (gated : Bool) (hk : Keeps false s t) (hg : t.sh.gap = some k) :
    (t.sendDepose g gated).sh.gap = some { k with gated := gated, step := 2, deposeReel := t.dieReel (hubDie k.newActive) } ∧
      (t.sendDepose g gated).pkg.proposed = g.epoch ∧
      (∃ x, Emits s (t.sendDepose g gated) (.felt x) ∧ x.type = 0x04 ∧ x.mode = 1 ∧ x.src = hubDie g.newActive ∧ x.words = [g.epoch, b2n gated]) ∧
      ∀ v, (t.sendDepose g gated).vat v = t.vat v := by
  unfold State.sendDepose
  refine ⟨?_, ?_, ⟨_, .after_keeps (kp := false) ?_ (emits_feltSend ..), rfl, rfl, rfl, rfl⟩, fun v => ?_⟩
  · rw [feltSend_sh]
    exact congrArg (Option.map _) hg
  · rw [pkg_of_sansBooks (feltSend_sansBooks ..)]
    rfl
  · exact modPkg_keeps _ (fun _ => rfl) (modFelt_keeps _ (modSh_keeps _ hk))
  · refine (((OnlyFelt.refl _).feltSend ..).vat v).trans ?_
    cases v <;> rfl

end

/-- Settles O39. -/
theorem switchTriggersComplete : Obligations.SwitchTriggersComplete := by
  refine ⟨fun s h hg hc hr => ?_, fun s h ha hg => ?_, fun s h trigger src ha ht hs hg hcalm hr hc => ?_, fun s h g n hg hst hu => ?_, fun s h g hg hst hgate => ?_,
    fun s g hg hst hgate => ?_, fun s n hn ho hp hl => ?_⟩
  · have hstandby : (s.vat h).role = .standby := by
      unfold State.canPromote at hc
      simp only [Bool.and_eq_true, beq_iff_eq] at hc
      exact hc.1.1
    have hpick : (if (s.vat .a).role = .standby then Hub.a else Hub.b) = h := by
      cases h with
      | a => exact if_pos hstandby
      | b => exact if_neg fun ha => nomatch ha.symm.trans hr
    refine ⟨(s.modSh fun x => { x with gap := some { s.newGap 1 h ((s.vat h).heardReel.getD s.reel) false false with asked := s.reel } }).feltSend (hubDie h) 0x80 0
      (hubDie (otherHub h)) [(s.vat h).epoch, 2], ?_, ⟨{ s.newGap 1 h ((s.vat h).heardReel.getD s.reel) false false with asked := s.reel }, ?_, rfl, rfl, rfl, rfl⟩,
      _, .after_keeps (modSh_keeps (kp := false) _ (.refl _ s)) (emits_feltSend ..), rfl, rfl, rfl⟩
    · change execLiveTimeout s = _
      unfold execLiveTimeout
      rw [hpick]
      dsimp only
      rw [if_neg (by simp [hg, hc]), show ((s.vat (otherHub h)).role != .active) = false by simp [hr]]
      rfl
    · exact congrArg Shared.gap (feltSend_sh ..)
  · have hexec : exec .fwWatchdogExpiry s = .next (s.failOver h 4) := by
      change execFwWatchdogExpiry s = _
      unfold execFwWatchdogExpiry State.watchedHub
      rw [ha]
      dsimp only
      unfold State.vatTrigger
      rw [hg]
      dsimp only
      rw [if_pos ha]
    obtain ⟨hoff, hgated, -, -, hpromote, hnone⟩ := failOver_spec (s := s) h 4
    refine ⟨_, hexec, hoff, hgated, fun hc => ?_, hnone⟩
    obtain ⟨hgap, hsent⟩ := hpromote hc
    exact ⟨⟨_, hgap, rfl, rfl, rfl⟩, hsent⟩
  · have hexec : exec (.activeVatFault trigger src) s = .next ((s.failOver h trigger).agentCount (hubDie h) src default) := by
      refine (guardId_of_true (by simpa [hs, or_assoc] using ht)).trans ?_
      rw [hs]
      dsimp only
      rw [if_pos (by simp [ha])]
      unfold State.vatTrigger
      rw [hg]
      dsimp only
      rw [if_pos ha]
    obtain ⟨hoff, hgated, hdies, hcfg, hpromote, -⟩ := failOver_spec (s := s) h trigger
    obtain ⟨hgap, -⟩ := hpromote hc
    have hcalm' : (s.failOver h trigger).calm src = true := by
      obtain ⟨key, hkey, heach⟩ := (calm_iff src).mp hcalm
      exact (calm_iff src).mpr ⟨key, hkey, by rw [cfg_of_classCfg hcfg]; exact heach⟩
    refine ⟨_, hexec, ?_⟩
    dsimp only
    rw [firstCount_agentCount hcalm' _ _ (by rw [die_of_dies hdies]; exact hr)]
    obtain ⟨l, hl⟩ := agentCount_dies hcalm' (hubDie h) default
    rw [hl]
    refine ⟨?_, ?_, ⟨_, hgap, rfl, rfl⟩, ?_⟩
    · cases h <;> exact hoff
    · cases h <;> exact hgated
    · unfold State.firstCount
      rw [die_of_dies hdies]
  · obtain ⟨m, hrecv⟩ := recv_unseen_acked (by rfl) (f := fun s => if g.step = 1 then s.sendDepose g true else s) hu
    refine ⟨((s.withFelt m).sendDepose g true).ack (hubDie g.newActive) h.src 0x03 h.seq 0, ?_, ?_⟩
    · change execVatFailed h n s = _
      unfold execVatFailed
      rw [hg]
      dsimp only
      rw [hrecv, if_pos hst]
    · obtain ⟨hgap, hprop, ⟨x, hsent, htype, hmode, hsrc, hwords⟩, -⟩ := sendDepose_spec g true (withFelt_keeps m (.refl false s)) (show (s.withFelt m).sh.gap = some g from hg)
      have hkeeps : Keeps false s ((s.withFelt m).sendDepose g true) := sendDepose_keeps _ _ (withFelt_keeps m (.refl false s))
      refine ⟨⟨_, (shared_of_sansBooks Shared.gap (fun _ => rfl) (ack_sansBooks ..)).trans hgap, rfl, rfl, rfl⟩, ?_, ⟨x, hsent.of_keeps (ack_keeps _ _ _ _ _ (.refl false _)), htype, hmode, hsrc, hwords⟩,
        emits_ack_of hkeeps ..⟩
      rw [pkg_of_sansBooks (ack_sansBooks ..)]
      exact hprop
  · have hdown : ((s.vatDown (otherHub g.newActive)).modGap fun g => { g with confirmed := true }).sh.gap = some { g with confirmed := true } := by
      obtain ⟨o, n, f, m, hd⟩ := vatDown_eq s (otherHub g.newActive)
      rw [hd]
      unfold State.modGap
      rw [modSh_sh, modVat_sh]
      exact congrArg (Option.map _) hg
    have hkeeps : Keeps false s ((s.vatDown (otherHub g.newActive)).modGap fun g => { g with confirmed := true }) := modSh_keeps _ (vatDown_keeps _ (.refl false s))
    obtain ⟨hgap, -, ⟨x, hsent, htype, hmode, -, hwords⟩, hvat⟩ := sendDepose_spec g true hkeeps hdown
    refine ⟨_, ?_, ?_, ⟨_, hgap, rfl, rfl, rfl⟩, x, hsent, htype, hmode, hwords⟩
    · change execGateConfirm h s = _
      unfold execGateConfirm
      rw [hg]
      dsimp only
      rw [if_pos (by simp [hst, hgate])]
    · rw [hvat]
      obtain ⟨o, n, f, m, hd⟩ := vatDown_eq s (otherHub g.newActive)
      rw [hd]
      exact congrArg Vat.role (modVat_vat_same ..)
  · obtain ⟨hgap, -, ⟨x, hsent, htype, hmode, -, hwords⟩, -⟩ := sendDepose_spec g false (.refl false s) hg
    refine ⟨_, ?_, ⟨_, hgap, rfl, rfl⟩, x, hsent, htype, hmode, hwords⟩
    change execDeposeGateTimeout s = _
    unfold execDeposeGateTimeout
    rw [hg]
    dsimp only
    rw [if_pos (by simp [hst, hgate])]
  · have hreset (t : State) : t.bringUp.pkg.boot = .step 2 ∧ t.bringUp.sh.gap = none ∧ t.bringUp.vatA.bist = none ∧ t.bringUp.vatB.bist = none := by
      unfold State.bringUp State.keepDurable
      dsimp only
      split <;> exact ⟨rfl, rfl, rfl, rfl⟩
    refine ⟨(s.modSh fun x => { x with noStandby := none }).packageReset (pkgSource 6) true, ?_, ?_⟩
    · change execNoStandbyReset s = _
      unfold execNoStandbyReset
      rw [hn]
    · unfold State.packageReset
      rw [if_pos (by simp [ho])]
      dsimp only
      rw [if_neg (by simp [hp])]
      rw [if_neg (show ¬ ((s.modSh fun x => { x with noStandby := none }).cfg 215).n ≤ ((s.modSh fun x => { x with noStandby := none }).leaked (pkgSource 7)).count from
        Nat.not_le.mpr hl)]
      exact hreset _

end Sys2Proof.Machine
end

section
/-! SUPPORT. A switch-over whose record overflows the queue of notifications, in a package where that overflow resets it (R56, R250, R329). -/

namespace Sys2Proof.Machine

/-- Vat b waits for the last return of its switch-over. The queue of notifications holds 256, both management ports are without link, an overflow of the
    queue asks for the package rung, and a screening lease is outstanding. -/
def fullQueueGap : State := { State.reset with
  vatA := { linkUp := false }, vatB := { role := .syncing, linkUp := false }, pkg := { oos := true }
  sh := { leases := [(5, 2, 100)]
          mgmtQ := List.replicate 256 { number := 0, held := 0, entry := default }
          classCfg := [(218, some { each := 2, thresh := 0, n := 1, w := 0, record := false })]
          gap := some { trigger := 1, start := 0, step := 4, newActive := .b, epoch := 1, gated := true, confirmed := true, deposeReel := 0, asked := 0
                        acks := [], naks := [], lastAck := 0, returned := [], others := [], items := [], held := [], switchRun := false } } }
set_option maxRecDepth 100000 in
/-- The switch-over's record overflows the queue, the overflow is counted as the path resumes, and the count resets the package with its leases. -/
theorem leasesAfter_fullQueueGap : leasesAfter (.announceReturn { src := 0, seq := 0, ring := 0, epoch := 1 }) fullQueueGap = [] := by decide +kernel

/-- Refutes O40: the record of the switch-over is notified, the full queue loses a notification, and the loss is counted when the path resumes; where
    that count is configured for the package rung, the end of the gap resets the package, and the screening lease that is to be kept ends. -/
theorem not_deposeAndAnnounceComplete : ¬ Obligations.DeposeAndAnnounceComplete := by
  intro h
  obtain ⟨-, -, -, -, hreturn, -⟩ := h
  obtain ⟨t, ht, -, -, hleases, -⟩ := (hreturn fullQueueGap { src := 0, seq := 0, ring := 0, epoch := 1 } _ rfl rfl rfl).2 rfl (by decide) rfl rfl
    (fun _ => rfl) rfl ⟨rfl, rfl⟩ rfl rfl rfl rfl (fun _ he => nomatch he) rfl fun _ he => nomatch he
  have hkept := leasesAfter_of_gives ⟨t, ht, hleases⟩
  rw [leasesAfter_fullQueueGap] at hkept
  cases hkept

end Sys2Proof.Machine
end

section
/-! SUPPORT. The mirror's commands, the standby's self-test, acknowledgements and resends (R333-R338, R363). -/

namespace Sys2Proof.Machine

/-- What a failed self-test leaves of a Vat: its role, the failed item, when it failed, and whether it is held OFFLINE (R337). -/
def Vat.standing (v : Vat) : Role × Nat × Option Nat × Bool := (v.role, v.lastFailed, v.selfFailHours, v.heldOffline)

section
variable {s t : State}

theorem modVat_standing (s : State) (v h : Hub) (f : Vat → Vat) (hf : ∀ x, (f x).standing = x.standing) :
    ((s.modVat v f).vat h).standing = (s.vat h).standing := by
  by_cases hv : h = v
  · rw [hv, modVat_vat_same, hf]
  · cases h with
    | a => cases v with
      | a => exact absurd rfl hv
      | b => rfl
    | b => cases v with
      | a => rfl
      | b => exact absurd rfl hv
theorem standing_of_sansBooks (h : t.sansBooks = s.sansBooks) (v : Hub) : (t.vat v).standing = (s.vat v).standing :=
  vatField_of_sansBooks Vat.standing (fun _ => rfl) h v
theorem OnlyHolds.standing (h : OnlyHolds s t) (v : Hub) : (t.vat v).standing = (s.vat v).standing := by
  cases v with
  | a => exact show t.sansStops.vatA.standing = s.sansStops.vatA.standing from congrArg (fun u : State => u.vatA.standing) h.rest
  | b => exact show t.sansStops.vatB.standing = s.sansStops.vatB.standing from congrArg (fun u : State => u.vatB.standing) h.rest
/-- A Vat that leaves service is OFFLINE, and nothing else of its standing changes. -/
theorem standing_vatDown (s : State) (v : Hub) : ((s.vatDown v).vat v).standing = ({ s.vat v with role := .offline } : Vat).standing := by
  obtain ⟨o, n, f, m, hdown⟩ := vatDown_eq s v
  rw [hdown, modVat_vat_same]
  cases v <;> rfl
theorem vatDown_standing (v : Hub) (hv : (s.vat v).role = .offline) : ((s.vatDown v).vat v).standing = (s.vat v).standing := by
  rw [standing_vatDown]
  exact congrArg (fun r => (r, (s.vat v).lastFailed, (s.vat v).selfFailHours, (s.vat v).heldOffline)) hv.symm
theorem vatDown_classCfg (s : State) (v : Hub) : (s.vatDown v).sh.classCfg = s.sh.classCfg := by
  obtain ⟨o, n, f, m, hdown⟩ := vatDown_eq s v
  rw [hdown]
  cases v <;> rfl
/-- What the end of a wait for the mirror leaves of the Vats. -/
theorem endSwitchWait_vat {α : Type} (g : Vat → α) (hg : ∀ x, g x.sansBooks = g x) (s : State) (v : Hub) :
    g (s.endSwitchWait.vat v) = g (s.vat v) := by
  have hend (u : State) : g ((u.endOp 0x0800 0 stBusy []).vat v) = g (u.vat v) :=
    each_keeps (fun w : State => g (w.vat v)) _ _ _ fun w x => by
      obtain ⟨o, a, b, c, d, hrun⟩ := endRun_eq w x stBusy []
      rw [hrun]
      cases v <;> rfl
  have hheld (u : State) : g (u.takeHeldRecs.vat v) = g (u.vat v) :=
    (each_keeps (fun w : State => g (w.vat v)) _ _ _ fun w r => vatField_of_sansBooks g hg (enterRec_sansBooks ..) v).trans (by cases v <;> rfl)
  have hsend (u : State) : g (u.sendAllHeld.vat v) = g (u.vat v) :=
    each_keeps (fun w : State => g (w.vat v)) _ _ _ fun w d =>
      (each_keeps (fun w : State => g (w.vat v)) _ _ _ fun w m => by
        unfold State.toVat
        split
        · cases v <;> rfl
        · exact congrArg g (((OnlyFelt.refl w).feltSend ..).vat v)).trans (by cases v <;> rfl)
  unfold State.endSwitchWait
  split
  · rfl
  · split
    · rfl
    · dsimp only
      rw [hsend, hheld, hend]
      cases v <;> rfl
theorem endSwitchWait_classCfg (s : State) : s.endSwitchWait.sh.classCfg = s.sh.classCfg := by
  have hheld (u : State) : u.takeHeldRecs.sh.classCfg = u.sh.classCfg :=
    each_keeps (fun w : State => w.sh.classCfg) _ _ _ fun w r => shared_of_sansBooks Shared.classCfg (fun _ => rfl) (enterRec_sansBooks ..)
  have hsend (u : State) : u.sendAllHeld.sh.classCfg = u.sh.classCfg :=
    each_keeps (fun w : State => w.sh.classCfg) _ _ _ fun w d => each_keeps (fun w : State => w.sh.classCfg) _ _ _ fun w m => congrArg Shared.classCfg (toVat_sh ..)
  unfold State.endSwitchWait
  split
  · rfl
  · split
    · rfl
    · dsimp only
      rw [hsend, hheld]
      exact shared_endRuns Shared.classCfg (fun _ _ _ _ _ _ => rfl) ..

/-! ### What a station's ports send (R349-R352) -/

/-- From `s` to `t` only what has left and the ports of the stations have changed. -/
def OnlyPorts (s t : State) : Prop := ∃ p o, t = { s with felt := { s.felt with ports := p }, out := o }

namespace OnlyPorts

theorem refl (s : State) : OnlyPorts s s := ⟨_, _, rfl⟩
theorem trans {u : State} (h1 : OnlyPorts s t) (h2 : OnlyPorts t u) : OnlyPorts s u := by
  obtain ⟨p, o, rfl⟩ := h1
  obtain ⟨q, r, rfl⟩ := h2
  exact ⟨q, r, rfl⟩
theorem emit (o : Out) (h : OnlyPorts s t) : OnlyPorts s (t.emit o) := h.trans ⟨_, _, rfl⟩
theorem modPort (k : Nat) (f : Port → Port) (h : OnlyPorts s t) : OnlyPorts s (t.modPort k f) := h.trans ⟨_, _, rfl⟩
theorem felt {α : Type} (h : OnlyPorts s t) (g : Felt → α) (hg : ∀ n p, g { n with ports := p } = g n) :
    g t.felt = g s.felt := by
  obtain ⟨p, o, rfl⟩ := h
  exact hg ..
theorem servePort (n k : Nat) (h : OnlyPorts s t) : OnlyPorts s (State.servePort n t k) := by
  induction n generalizing t with
  | zero => exact h
  | succ n ih =>
    unfold State.servePort
    dsimp only
    split
    · exact h
    · exact ih ((h.modPort ..).emit _)
    · split
      · exact ih ((h.modPort ..).emit _)
      · refine ih ?_
        split
        · exact h.modPort ..
        · split
          · exact (h.modPort ..).emit _
          · exact ((h.modPort ..).emit _).modPort ..
theorem serve (k : Nat) (h : OnlyPorts s t) : OnlyPorts s (t.serve k) := (h.servePort ..).servePort ..
theorem control (k code data : Nat) (h : OnlyPorts s t) : OnlyPorts s (t.control k code data) := (h.modPort ..).serve k
theorem discardFrames (d : Nat) (l : List FeltFrame) (h : OnlyPorts s t) : OnlyPorts s (t.discardFrames d l) :=
  each_holds (OnlyPorts s) _ _ t (fun _ _ hu => hu.control ..) h
theorem enqueue (k : Nat) (l : List FeltFrame) (h : OnlyPorts s t) : OnlyPorts s (t.enqueue k l) := by
  unfold State.enqueue
  split
  · exact h.discardFrames ..
  · exact (h.modPort ..).serve k
theorem inject (x : Txn) (h : OnlyPorts s t) : OnlyPorts s (t.inject x) :=
  each_holds (OnlyPorts s) _ _ t (fun _ _ hu => each_holds (OnlyPorts s) _ _ _ (fun _ _ hw => hw.enqueue ..) hu) h

end OnlyPorts

/-! ### An event of a hub (Table 7.4) -/

/-- Events of a class whose threshold has no action of its own and that does not reset the package change the books alone. -/
theorem applyCount_sansBooks {src key : Nat} (reel : Nat) (l : List Detail) (hkey : classOf src = some key) (h232 : key ≠ 232) (h235 : key ≠ 235)
    (hc : sourceCore src = none) (hp : s.noPkg key) : (s.applyCount src reel l).sansBooks = s.sansBooks := by
  have hone := applyOne_sansBooks (s := s) src key reel l hc
  have hp' : (s.applyOne src key reel l).noPkg key := by
    unfold State.noPkg State.cfg
    rw [shared_of_sansBooks Shared.classCfg (fun _ => rfl) hone]
    exact hp
  have hbase : s.applyBase src key reel l = s.applyOne src key reel l := by
    unfold State.applyBase
    dsimp only
    split
    · rw [if_neg (by simp [h232]), pkgAfter_of_noPkg _ hp']
    · rw [pkgAfter_of_noPkg _ hp']
  have hcarry : s.carryFault src key = false := by simp [State.carryFault, h235]
  unfold State.applyCount
  rw [hkey]
  dsimp only
  rw [hbase]
  split
  · rw [hcarry]
    exact hone
  · exact hone
theorem takeBlk_hubSource (s : State) (v : Hub) (k : Nat) (hk : k < 14) : s.takeBlk (hubSource v k) = s.vatTrigger v 5 := by
  have hdie : dieHub (sourceDie (hubSource v k)) = some v := by
    have hd : sourceDie (hubSource v k) = hubDie v := by cases v <;> simp only [sourceDie, hubSource, dieSource, hubDie] <;> omega
    rw [hd]
    cases v <;> rfl
  unfold State.takeBlk
  rw [classOf_hubSource v k hk]
  dsimp only
  rw [if_neg (by omega), if_neg (by omega), if_neg (by simp; omega), if_neg (by simp), if_pos (by simp; omega), hdie]
/-- From `s` to `t` a Vat stands as it stood, and the fault classes are configured as they were. -/
structure Stands (v : Hub) (s t : State) : Prop where
  standing : (t.vat v).standing = (s.vat v).standing
  classCfg : t.sh.classCfg = s.sh.classCfg

theorem Stands.refl (v : Hub) (s : State) : Stands v s s := ⟨rfl, rfl⟩
theorem Stands.trans {v : Hub} {u : State} (h1 : Stands v s t) (h2 : Stands v t u) : Stands v s u :=
  ⟨h2.standing.trans h1.standing, h2.classCfg.trans h1.classCfg⟩
theorem Stands.of_holds {v : Hub} (h : OnlyHolds s t) : Stands v s t := ⟨h.standing v, h.shared Shared.classCfg (fun _ => rfl)⟩
theorem Stands.of_books {v : Hub} (h : t.sansBooks = s.sansBooks) : Stands v s t := ⟨standing_of_sansBooks h v, shared_of_sansBooks Shared.classCfg (fun _ => rfl) h⟩
theorem Stands.offline {v : Hub} (h : Stands v s t) (hv : (s.vat v).role = .offline) : (t.vat v).role = .offline :=
  (congrArg Prod.fst h.standing).trans hv
theorem Stands.noPkg {v : Hub} {key : Nat} (h : Stands v s t) (hp : s.noPkg key) : t.noPkg key := by
  unfold State.noPkg at hp ⊢
  rwa [cfg_of_classCfg h.classCfg]
/-- A trigger of a Vat that is out of service leaves it so. -/
theorem vatTrigger_stands (v : Hub) (code : Nat) (hv : (s.vat v).role = .offline) : Stands v s (s.vatTrigger v code) := by
  have hact : s.activeHub ≠ some v := fun h => nomatch hv.symm.trans ((activeHub_iff v).mp h).1
  unfold State.vatTrigger
  split
  · next g hg =>
    by_cases hn : g.newActive = v
    · rw [if_pos hn]
      have hdown : Stands v s ((s.vatDown g.newActive).modSh fun x => { x with gap := none }) := by
        refine ⟨?_, ?_⟩
        · rw [hn]
          exact (show _ = ((s.vatDown v).vat v).standing by cases v <;> rfl).trans (vatDown_standing v hv)
        · exact vatDown_classCfg ..
      unfold State.gapFails
      dsimp only
      generalize (s.vatDown g.newActive).modSh (fun x => { x with gap := none }) = u at hdown ⊢
      split
      · exact hdown.trans ⟨by cases v <;> rfl, rfl⟩
      · obtain ⟨n, o, hout⟩ := each_emit_only g.held (fun _ _ => Out.errorResponse) (u.modSh fun x => { x with noStandby := some u.reel })
        rw [hout]
        exact hdown.trans ⟨by cases v <;> rfl, rfl⟩
    · rw [if_neg hn, if_neg (by rw [hv]; exact nofun)]
      exact .refl v s
  · rw [if_neg hact, if_neg (by rw [hv]; decide)]
    exact .refl v s
theorem agentReact_hubSource_stands (d : Nat) (v : Hub) (k m : Nat) (hk : k < 14) (hv : (s.vat v).role = .offline) :
    Stands v s (s.agentReact d (hubSource v k) m) := by
  have hnmi : OnlyHolds s (if bit m 3 then s.sendNmi d (hubSource v k) else s) := .ite _ ((OnlyHolds.refl s).sendNmi ..) (.refl s)
  have hpin : OnlyHolds s (if bit m 0 then (if bit m 3 then s.sendNmi d (hubSource v k) else s).setPin (hubSource v k)
      else if bit m 3 then s.sendNmi d (hubSource v k) else s) := .ite _ (hnmi.setPin _) hnmi
  unfold State.agentReact
  dsimp only
  generalize (if bit m 0 then (if bit m 3 then s.sendNmi d (hubSource v k) else s).setPin (hubSource v k)
      else if bit m 3 then s.sendNmi d (hubSource v k) else s) = u at hpin ⊢
  have hu : Stands v s u := .of_holds hpin
  rw [takeBlk_hubSource u v k hk]
  split
  · exact hu.trans (vatTrigger_stands v 5 (hu.offline hv))
  · exact hu
/-- A Vat out of service stays as it is when an event of its hub is counted, where the class does not reset the package. -/
theorem Stands.vatCount {v : Hub} (h : Stands v s t) (k : Nat) (x : Detail) (hv : (s.vat v).role = .offline) (hp : s.noPkg (160 + k)) (hk : k < 14 := by decide) :
    Stands v s (t.vatCount (hubSource v k) x) := by
  have hclass := classOf_hubSource v k hk
  have hreact := h.trans (agentReact_hubSource_stands (t.agentOf (hubSource v k)) v k (t.reactionsOf (t.agentOf (hubSource v k)) (hubSource v k) (160 + k)) hk (h.offline hv))
  unfold State.vatCount
  rw [hclass]
  dsimp only
  generalize t.agentReact (t.agentOf (hubSource v k)) (hubSource v k) (t.reactionsOf (t.agentOf (hubSource v k)) (hubSource v k) (160 + k)) = u at hreact ⊢
  split
  · exact hreact.trans (.of_holds ((OnlyHolds.refl u).firstStage ..))
  · have hlow : hubSource v k % 8192 = 7520 + k := by cases v <;> simp only [hubSource, dieSource, hubDie] <;> omega
    have hcore : sourceCore (hubSource v k) = none := if_neg (by simp; omega)
    exact hreact.trans (.of_books (applyCount_sansBooks _ _ hclass (by omega) (by omega) hcore (hreact.noPkg hp)))

/-- What a failed self-test first leaves: the Vat is out of service, with the failed item and the time in its own state (R337). -/
theorem selfTestFailed_stands (sb : Hub) (item hours : Nat) (again : Bool) :
    ((((((s.modVat sb fun v => { v with lastFailed := 2 ^ item, cycleItems := 0, selfFailHours := some hours, heldOffline := again }).vatDown sb).peerOffline sb).endSwitchWait).vat
      sb).standing = (.offline, 2 ^ item, some hours, again)) ∧
      (((s.modVat sb fun v => { v with lastFailed := 2 ^ item, cycleItems := 0, selfFailHours := some hours, heldOffline := again }).vatDown sb).peerOffline
        sb).endSwitchWait.sh.classCfg = s.sh.classCfg := by
  refine ⟨?_, ?_⟩
  · rw [endSwitchWait_vat Vat.standing (fun _ => rfl)]
    refine (show _ = (((s.modVat sb fun v => { v with lastFailed := 2 ^ item, cycleItems := 0, selfFailHours := some hours, heldOffline := again }).vatDown
      sb).vat sb).standing by cases sb <;> rfl).trans ((standing_vatDown ..).trans ?_)
    rw [modVat_vat_same]
    rfl
  · rw [endSwitchWait_classCfg]
    exact (congrArg Shared.classCfg (modVat_sh ..)).trans ((vatDown_classCfg ..).trans (congrArg Shared.classCfg (modVat_sh ..)))
/-- A self-test item of the standby has failed (R336-R338). -/
def State.selfTestFails (s : State) (sb : Hub) (item : Nat) (again : Bool) : State :=
  let t := ((((s.modVat sb fun v => { v with lastFailed := 2 ^ item, cycleItems := 0, selfFailHours := some s.pkg.hours, heldOffline := again }).vatDown
    sb).peerOffline sb).endSwitchWait).vatCount (hubSource sb 9) { ctx := 0, p2 := item, p3 := 0 }
  (if item = 6 then t.vatCount (hubSource sb 5) default else if item = 2 then t.vatCount (hubSource sb 4) default else t).standbyHealth sb
theorem selfTestFails_standing (sb : Hub) (item : Nat) (again : Bool) (h4 : s.noPkg 164) (h5 : s.noPkg 165) (h9 : s.noPkg 169) :
    ((s.selfTestFails sb item again).vat sb).standing = (.offline, 2 ^ item, some s.pkg.hours, again) := by
  obtain ⟨hstand, hcfg⟩ := selfTestFailed_stands (s := s) sb item s.pkg.hours again
  unfold State.selfTestFails
  dsimp only
  generalize (((s.modVat sb fun v => { v with lastFailed := 2 ^ item, cycleItems := 0, selfFailHours := some s.pkg.hours, heldOffline := again }).vatDown
    sb).peerOffline sb).endSwitchWait = u at hstand hcfg ⊢
  have hoff : (u.vat sb).role = .offline := congrArg Prod.fst hstand
  have hkey {key : Nat} (h : s.noPkg key) : u.noPkg key := by
    unfold State.noPkg at h ⊢
    rwa [cfg_of_classCfg hcfg]
  have hfirst := (Stands.refl sb u).vatCount 9 { ctx := 0, p2 := item, p3 := 0 } hoff (hkey h9)
  rw [State.standbyHealth, standing_of_sansBooks (record_sansBooks ..), ← hstand]
  split
  · exact (hfirst.vatCount 5 default hoff (hkey h5)).standing
  · split
    · exact (hfirst.vatCount 4 default hoff (hkey h4)).standing
    · exact hfirst.standing
/-- A switch-over that starts takes down the active Vat, and leaves the other one's own values. -/
theorem startSwitch_vat (sb : Hub) (ha : s.activeHub = some (otherHub sb)) : s.startSwitch.vat sb = s.vat sb := by
  obtain ⟨o, n, f, m, hdown⟩ := vatDown_eq s (otherHub sb)
  unfold State.startSwitch
  rw [ha]
  dsimp only
  unfold State.sendDepose
  rw [((OnlyFelt.refl _).feltSend ..).vat, hdown]
  cases sb <;> rfl

end

/-- Settles O41. -/
theorem mirrorAndAcksComplete : Obligations.MirrorAndAcksComplete := by
  refine ⟨fun s h sb n hsb hr he hu hruns => ?_, fun s sb item hsb hi => ?_, fun s sb item hsb hi h4 h5 h9 => ?_, fun s h d w lo hd hs hw hsrc hmode hdst h4 h8d hseq hctx => ?_,
    fun s d w hd hw hsrc hres => ?_⟩
  · obtain ⟨hact, -⟩ := active_of_standbyHub hsb
    have hexec : exec (.mirror h n) s = .next (s.recvCmd (hubDie sb) h 0x8F fun s =>
        if (s.modVat sb fun v => { v with mirrorApplied := n % 2 ^ 32 }).sh.switching && (s.modVat sb fun v => { v with mirrorApplied := n % 2 ^ 32 }).caughtUp &&
          (s.modVat sb fun v => { v with mirrorApplied := n % 2 ^ 32 }).sh.gap.isNone && (s.modVat sb fun v => { v with mirrorApplied := n % 2 ^ 32 }).canPromote sb
        then (s.modVat sb fun v => { v with mirrorApplied := n % 2 ^ 32 }).startSwitch
        else (s.modVat sb fun v => { v with mirrorApplied := n % 2 ^ 32 }).endSwitchWait) := by
      change execMirror h n s = _
      unfold execMirror
      rw [hsb]
    refine gives_recvCmd_acked (by rfl) hexec hr he hu fun m => ?_
    have hkeeps : Keeps false s (((s.modDie (hubDie sb) fun k => { k with epoch := h.epoch }).withFelt m).modVat sb fun v => { v with mirrorApplied := n % 2 ^ 32 }) :=
      modVat_keeps _ _ (withFelt_keeps m (modDie_keeps _ _ (.refl _ s)))
    have happlied : ((((s.modDie (hubDie sb) fun k => { k with epoch := h.epoch }).withFelt m).modVat sb fun v =>
        { v with mirrorApplied := n % 2 ^ 32 }).vat sb).mirrorApplied = n % 2 ^ 32 := by
      rw [modVat_vat_same]
    have hactive : (((s.modDie (hubDie sb) fun k => { k with epoch := h.epoch }).withFelt m).modVat sb fun v =>
        { v with mirrorApplied := n % 2 ^ 32 }).activeHub = some (otherHub sb) := by
      rw [← hact]
      cases sb <;> rfl
    generalize ((s.modDie (hubDie sb) fun k => { k with epoch := h.epoch }).withFelt m).modVat sb (fun v => { v with mirrorApplied := n % 2 ^ 32 }) = u at *
    have hlast {t : State} (hk : Keeps false s t) (ht : (t.vat sb).mirrorApplied = n % 2 ^ 32) :
        ((t.ack (hubDie sb) h.src 0x8F h.seq 0).vat sb).mirrorApplied = n % 2 ^ 32 ∧
          Emits s (t.ack (hubDie sb) h.src 0x8F h.seq 0) (.ack (hubDie sb) h.src 0x8F h.seq 0 0) := by
      refine ⟨?_, emits_ack_of hk ..⟩
      rw [OnlyFelt.vat (ack_eq ..), ht]
    split
    · exact hlast (startSwitch_keeps hkeeps) (by rw [startSwitch_vat sb hactive, happlied])
    · exact hlast (endSwitchWait_keeps hkeeps) (by rw [endSwitchWait_vat Vat.mirrorApplied (fun _ => rfl), happlied])
  · have hexec : exec (.standbySelftestItemDone item true) s = .next
        (if (s.vat sb).cycleItems ||| 2 ^ item = 127 then s.modVat sb fun v => { v with lastFailed := 0, cycleItems := 0, cycleReel := some s.reel }
          else s.modVat sb fun v => { v with cycleItems := (s.vat sb).cycleItems ||| 2 ^ item }) := by
      refine (guardId_of_true (by simpa using hi)).trans ?_
      rw [hsb]
      rfl
    refine ⟨_, hexec, ?_⟩
    split
    · rw [modVat_vat_same]
      exact ⟨rfl, rfl, rfl, rfl⟩
    · rw [modVat_vat_same]
      exact ⟨rfl, rfl⟩
  · have hexec : ∃ again, again = (match (s.vat sb).selfFailHours with | some n => decide (s.pkg.hours < n + 24 * 4096) | none => false) ∧
        exec (.standbySelftestItemDone item false) s = .next (s.selfTestFails sb item again) := by
      refine ⟨_, rfl, (guardId_of_true (by simpa using hi)).trans ?_⟩
      rw [hsb]
      rfl
    obtain ⟨again, hagain, hexec⟩ := hexec
    have hend := selfTestFails_standing sb item again h4 h5 h9
    refine ⟨_, hexec, ?_⟩
    dsimp only
    unfold Vat.standing at hend
    simp only [Prod.mk.injEq] at hend
    obtain ⟨hrole, hlast, hhours, hheld⟩ := hend
    exact ⟨hrole, hlast, hhours, hheld.trans hagain⟩
  · have hfind (u : State) (hu : u.felt.waiting = s.felt.waiting) :
        u.felt.waiting.find? (fun x => x.t.src == d && x.t.type == (w.t.type * 65536 + w.t.seq) / 65536 && x.t.seq == (w.t.type * 65536 + w.t.seq) % 65536) = some w := by
      have hty : (w.t.type * 65536 + w.t.seq) / 65536 = w.t.type := by omega
      have hsq : (w.t.type * 65536 + w.t.seq) % 65536 = w.t.seq := by omega
      rw [hu, hw, hty, hsq]
      simp [hsrc]
    refine ⟨_, (guardId_of_true (by simp [hd, hs])).trans rfl, ?_⟩
    dsimp only
    generalize hheard : (if (s.acting.isSome && decide (d = s.actDie)) = true then s.hear h.src else s) = u
    have hu : u.felt.waiting = s.felt.waiting ∧ u.sh = s.sh := by
      rw [← hheard]
      split
      · exact ⟨rfl, rfl⟩
      · exact ⟨rfl, rfl⟩
    obtain ⟨hwait, hsh⟩ := hu
    rw [hfind u hwait]
    dsimp only
    rw [if_neg (by simp)]
    have hnote : (u.noteAck w h.src).felt.waiting = [] ∧ (u.noteAck w h.src).sh = s.sh := by
      unfold State.noteAck
      dsimp only
      rw [if_pos (by simp [State.txnTargets, hmode, hdst, mem_insertNat])]
      refine ⟨?_, hsh⟩
      change u.felt.waiting.erase w = []
      rw [hwait, hw]
      simp
    obtain ⟨hempty, hshn⟩ := hnote
    unfold State.ackEffect
    rw [if_neg h4, if_neg (by simp [h8d])]
    split
    · exact hempty
    · unfold State.rollAll
      rw [hshn, hctx]
      exact hempty
  · have hfind : s.felt.waiting.find? (fun x => x.t.src == d && typeClass x.t.type == typeClass w.t.type && x.t.seq == w.t.seq) = some w := by
      rw [hw]
      simp [hsrc]
    have hexec : exec (.txnResendTimeout d (typeClass w.t.type) w.t.seq) s = .next (((s.modFelt fun n =>
        { n with waiting := n.waiting.map fun x => if x = w then { x with resends := x.resends + 1 } else x }).inject w.t).emit (.felt w.t)) := by
      refine (guardId_of_true hd).trans ?_
      rw [hfind]
      dsimp only
      rw [if_pos hres]
    refine ⟨_, hexec, ?_, .after_keeps (inject_keeps _ (modFelt_keeps (kp := false) _ (.refl _ s))) (emits_emit ..)⟩
    refine ((((OnlyPorts.refl _).inject w.t).emit _).felt Felt.waiting (fun _ _ => rfl)).trans ?_
    change s.felt.waiting.map _ = _
    rw [hw]
    simp

end Sys2Proof.Machine
end

section
/-! SUPPORT. VAT_SWITCH, VAT_STANDBY_RETRY and the firmware writes (R329, R337, R340, R343). -/

namespace Sys2Proof.Machine

section
variable {s t : State} {rq : Req}

/-- Values stored in a row leave the keys after the row. -/
theorem tget_tput_above {α : Type} [DecidableEq α] (d : α) (l : List α) (t : Table α) (n m : Nat) (h : n + l.length ≤ m) :
    tget d (tput d t n l) m = tget d t m := by
  induction l generalizing t n with
  | nil => rfl
  | cons v l ih =>
    rw [List.length_cons] at h
    simp only [tput]
    rw [ih _ (n + 1) (by omega), tget_tset, if_neg (by omega)]
/-- A reply leaves the package's own part and the Vats. -/
theorem vat_finish (t : State) (op st : Nat) (cl : List Clamp) (data : List (Nat × Nat)) (v : Hub) : (t.finish rq op st cl data).vat v = t.vat v := by
  obtain ⟨o, a, b, h⟩ := finish_eq (rq := rq) t op st cl data
  rw [h]
  cases v <;> rfl
/-- A firmware write that Calender allows is done at once. -/
theorem flashDo_open (hw : s.pkg.flashWin = true) (op : Nat) (x : Option (Nat × List Byte)) :
    s.flashDo rq op x = (s.modPkg fun g => { g with flashMem := fwApply g.flashMem x }).finish rq op stOk [] [] := if_pos hw
/-- A switch-over that starts has its second step taken: DEPOSE has left (Table 10.3). -/
theorem startSwitch_spec {h : Hub} (ha : s.activeHub = some h) : (s.startSwitch.vat h).role = .offline ∧ s.startSwitch.sh.runs = s.sh.runs ∧
    ∃ g, s.startSwitch.sh.gap = some g ∧ g.trigger = 6 ∧ g.newActive = otherHub h ∧ g.step = 2 ∧ g.switchRun = true := by
  obtain ⟨o, n, f, m, hdown⟩ := vatDown_eq s h
  unfold State.startSwitch
  rw [ha]
  dsimp only
  generalize hg : s.newGap 6 (otherHub h) s.reel true true = g
  have hnew : g.trigger = 6 ∧ g.newActive = otherHub h ∧ g.switchRun = true := hg ▸ ⟨rfl, rfl, rfl⟩
  obtain ⟨htrigger, hactive, hrun⟩ := hnew
  unfold State.sendDepose
  rw [((OnlyFelt.refl _).feltSend ..).vat, feltSend_sh, hdown]
  refine ⟨?_, ?_, { g with gated := true, step := 2, deposeReel := _ }, rfl, htrigger, hactive, rfl, hrun⟩
  · cases h <;> rfl
  · cases h <;> rfl

end

/-- Settles O42. -/
theorem vatCommandsComplete : Obligations.VatCommandsComplete := by
  refine ⟨fun s rq h hadm ha hc hg => ?_, fun s rq h hadm ha hheld he => ?_, fun s rq l hadm hw => ?_, fun s rq off l h hadm hf hw => ?_, fun s rq h hadm hf hq => ?_⟩
  · refine gives_of_takes hadm rfl rfl fun a b => ?_
    dsimp only
    rw [taken_activeHub, ha]
    dsimp only
    have hcan : (s.taken a b).canPromote (otherHub h) = true := hc
    have hgap : (s.taken a b).sh.gap = none := hg
    rw [hcan, hgap, if_neg (by decide)]
    obtain ⟨c, d, hrun⟩ := beginRun_eq (rq := rq) (s.taken a b) 0x0800 0 0 []
    have hruns := runs_beginRun (rq := rq) (s.taken a b) 0x0800 0 0 []
    have hact : ((s.taken a b).beginRun rq 0x0800 0 0 []).activeHub = some h := by rw [hrun]; exact ha
    have hup : ((s.taken a b).beginRun rq 0x0800 0 0 []).caughtUp = s.caughtUp := by rw [hrun]; rfl
    have hno : ((s.taken a b).beginRun rq 0x0800 0 0 []).sh.gap = none := by rw [hrun]; exact hg
    generalize (s.taken a b).beginRun rq 0x0800 0 0 [] = u at *
    rw [hup]
    obtain ⟨hoff, hkept, hstep⟩ := startSwitch_spec hact
    split
    · next hcu =>
      refine ⟨?_, fun _ => ⟨hoff, hstep⟩, fun hn => absurd hcu (by simp [hn])⟩
      unfold State.runs
      rw [hkept]
      exact hruns
    · next hcu => exact ⟨hruns, fun hy => absurd hy hcu, fun _ => ⟨hno, rfl⟩⟩
  · refine gives_of_takes hadm rfl rfl fun a b => ?_
    dsimp only
    rw [taken_activeHub, ha]
    dsimp only
    rw [taken_vat, hheld, if_pos (by simpa using show (s.taken a b).lastEpoch < 0xFFFFFFFF from he), vat_finish, modVat_vat_same]
    exact ⟨rfl, rfl, answers_finish_nil ..⟩
  · refine gives_of_takes hadm rfl rfl fun a b => ?_
    dsimp only
    have hok : (s.taken a b).fwHeaderOk (l.map (·.toNat)) = s.fwHeaderOk (l.map (·.toNat)) := rfl
    rw [hok]
    by_cases hh : s.fwHeaderOk (l.map (·.toNat)) = true
    · rw [if_pos hh, if_neg (show ¬ (!s.fwHeaderOk (l.map (·.toNat))) = true by simp [hh]), flashDo_open, pkg_finish]
      · exact ⟨rfl, answers_finish_nil .., fun k hk => tget_filter_of_not _ _ _ (fun v => by simpa using hk) _⟩
      · exact hw
    · rw [if_neg hh, if_pos (show (!s.fwHeaderOk (l.map (·.toNat))) = true by simp [hh]), pkg_finish]
      exact ⟨rfl, rfl, answers_finish_nil ..⟩
  · refine gives_of_takes hadm rfl rfl fun a b => ?_
    rw [taken_pkg, hf]
    simp only []
    rw [flashDo_open, pkg_finish]
    · refine ⟨fun i hi => tget_tput _ _ _ _ _ hi, fun k hk => ?_, answers_finish_nil ..⟩
      obtain hk | hk := hk
      · exact tget_tput_below _ _ _ _ _ hk
      · exact tget_tput_above _ _ _ _ _ hk
    · exact hw
  · refine gives_of_takes hadm rfl rfl fun a b => ?_
    rw [taken_pkg, hf, hq]
    dsimp only
    have hok : (s.taken a b).fwPayloadOk h = s.fwPayloadOk h := rfl
    rw [hok]
    by_cases hp : s.fwPayloadOk h = true
    · simp only [hp, List.isEmpty_nil, Bool.not_true, Bool.false_eq_true, if_false, if_true]
      rw [pkg_finish]
      exact ⟨rfl, answers_finish_nil ..⟩
    · simp only [hp, List.isEmpty_nil, Bool.not_true, Bool.false_eq_true, if_false]
      rw [pkg_finish]
      exact ⟨hf, answers_finish_nil ..⟩

end Sys2Proof.Machine
end

section
/-! SUPPORT. Reset input, power, the self-BISTs and the firmware loads of bring-up (R317, R340, R342, R470-R476). -/

namespace Sys2Proof.Machine

/-- What a Vat's bring-up has found: its self-BIST, its image, and the image's serial. -/
def Vat.booted (v : Vat) : Option Bool × Option Bool × Nat := (v.bist, v.image, v.fwSerial)
/-- From `s` to `t` no Vat's findings of bring-up have changed. -/
def SameBoot (s t : State) : Prop := ∀ v, (t.vat v).booted = (s.vat v).booted

section
variable {s t : State}

theorem vatField_of_sansHolds {α : Type} (g : Vat → α) (hg : ∀ x, g x.sansBooks = g x) (h : t.sansHolds = s.sansHolds) (v : Hub) :
    g (t.vat v) = g (s.vat v) := by
  rw [← hg (t.vat v), ← hg (s.vat v)]
  cases v with
  | a => exact congrArg (fun u : State => g u.vatA) h
  | b => exact congrArg (fun u : State => g u.vatB) h
theorem OnlyHolds.vatField {α : Type} (g : Vat → α) (hg : ∀ x, g x.sansBooks = g x) (h : OnlyHolds s t) (v : Hub) :
    g (t.vat v) = g (s.vat v) := by
  rw [← hg (t.vat v), ← hg (s.vat v)]
  cases v with
  | a => exact congrArg (fun u : State => g u.vatA) h.rest
  | b => exact congrArg (fun u : State => g u.vatB) h.rest

namespace SameBoot

theorem refl (s : State) : SameBoot s s := fun _ => rfl
theorem of_holds (h : OnlyHolds s t) : SameBoot s t := fun v => h.vatField Vat.booted (fun _ => rfl) v
theorem onSansHolds {u : State} (hu : u.sansHolds = t.sansHolds) (h : SameBoot s t) : SameBoot s u :=
  fun v => (vatField_of_sansHolds Vat.booted (fun _ => rfl) hu v).trans (h v)
theorem onBooks {u : State} (hu : u.sansBooks = t.sansBooks) (h : SameBoot s t) : SameBoot s u :=
  fun v => (vatField_of_sansBooks Vat.booted (fun _ => rfl) hu v).trans (h v)
theorem modPkg (f : Pkg → Pkg) (h : SameBoot s t) : SameBoot s (t.modPkg f) := fun v => (by cases v <;> rfl : _ = (t.vat v).booted).trans (h v)
theorem modSh (f : Shared → Shared) (h : SameBoot s t) : SameBoot s (t.modSh f) := fun v => (by cases v <;> rfl : _ = (t.vat v).booted).trans (h v)
theorem modVat (v : Hub) (f : Vat → Vat) (hf : ∀ x, (f x).booted = x.booted) (h : SameBoot s t) : SameBoot s (t.modVat v f) := fun w => by
  refine Eq.trans ?_ (h w)
  cases v with
  | a => cases w with
    | a => exact hf _
    | b => rfl
  | b => cases w with
    | a => rfl
    | b => exact hf _
theorem each {α : Type} (l : List α) (f : State → α → State) (hf : ∀ u x, SameBoot s u → SameBoot s (f u x)) (h : SameBoot s t) :
    SameBoot s (Machine.each l f t) := each_holds (SameBoot s) l f t hf h
theorem ite {c : Prop} [Decidable c] {x y : State} (h1 : SameBoot s x) (h2 : SameBoot s y) : SameBoot s (if c then x else y) := by
  split
  · exact h1
  · exact h2
theorem startTeardown (c trigger : Nat) (h : SameBoot s t) : SameBoot s (t.startTeardown c trigger) := by
  unfold State.startTeardown
  refine ite (each _ _ (fun u p hu => hu.onBooks (vatSend_sansBooks ..)) (modPkg _ (onBooks (mirror_sansBooks _) ?_))) h
  exact modSh _ h
theorem teardownAll (trigger : Nat) (h : SameBoot s t) : SameBoot s (t.teardownAll trigger) := each _ _ (fun _ c hu => hu.startTeardown c trigger) h
theorem enterOos (reason : Nat) (h : SameBoot s t) : SameBoot s (t.enterOos reason) := by
  unfold State.enterOos
  refine ite h (teardownAll 5 (onSansHolds ?_ (modPkg (fun g => { g with oos := true, powerPending := false }) h)))
  simp
theorem requestPowerCycle (source : Nat) (h : SameBoot s t) : SameBoot s (t.requestPowerCycle source) := by
  unfold State.requestPowerCycle State.sendPowerReq
  have hheld : SameBoot s (Machine.each (List.range 96) (fun s d => s.holdDie d powerKey 3) (t.teardownAll 5)) :=
    each _ _ (fun _ d hu => hu.onSansHolds (holdDie_sansHolds ..)) (h.teardownAll 5)
  have hcount := (hheld.modPkg fun g => { g with powerPending := true, powerSource := source, powerReqs := 0 }).onSansHolds (countPkgReset_sansHolds _ source)
  exact ite (hcount.enterOos 0) (modPkg _ (hcount.onSansHolds (by simp)))
theorem takeHeldRecs (h : SameBoot s t) : SameBoot s t.takeHeldRecs :=
  each _ _ (fun _ _ hu => hu.onBooks (enterRec_sansBooks ..)) (h.modSh fun x => { x with heldRecs := [] })
theorem stopBoot (reason step : Nat) (h : SameBoot s t) : SameBoot s (t.stopBoot reason step) := by
  have hwrite (x : Vat) : (if x.mramWin then x else { x with mramHeld := x.mramHeld + 1 }).booted = x.booted := by split <;> rfl
  exact modVat _ _ hwrite (modVat _ _ hwrite (onBooks (record_sansBooks ..) (h.modPkg fun g =>
    { g with boot := .stopped, notReady := reason, powerPending := false, powerReqs := 0, warm := true })))
theorem enterSync (v : Hub) (h : SameBoot s t) : SameBoot s (t.enterSync v) := modVat v _ (fun _ => rfl) h
theorem startReel (root : Nat) (h : SameBoot s t) : SameBoot s (t.startReel root) := by
  unfold State.startReel State.alignAll State.alignHop
  refine each _ _ (fun _ _ hu => hu.onBooks (feltSend_sansBooks ..)) (each _ _ (fun _ _ hu => hu.onBooks (feltSend_sansBooks ..)) fun v => ?_)
  exact (by cases v <;> rfl : _ = (t.vat v).booted).trans (h v)
theorem epochEnd (v : Hub) (e : Nat) (h : SameBoot s t) : SameBoot s (t.epochEnd v e) := by
  refine ite (onBooks (record_sansBooks ..) (modVat _ _ (fun _ => rfl) h)) h
theorem putEpoch (e : Nat) (v : Hub) (h : SameBoot s t) : SameBoot s (t.putEpoch e v) := by
  have hput (x : Vat) : (Vat.putEpoch e v x).booted = x.booted := by
    unfold Vat.putEpoch
    split <;> rfl
  exact (h.modVat .a _ hput).modVat .b _ hput
theorem becomeActive (v : Hub) (h : SameBoot s t) : SameBoot s (t.becomeActive v) := by
  unfold State.becomeActive
  refine epochEnd _ _ (takeHeldRecs (modSh _ (startReel _ (modPkg _ (modVat _ _ ?_ (putEpoch _ _ h))))))
  exact fun _ => rfl
theorem chooseVat (h : SameBoot s t) : SameBoot s t.chooseVat := by
  have hroms : SameBoot s (((t.modVat .a fun v => { v with role := .romMinimal, gated := false }).modVat .b fun v =>
      { v with role := .romMinimal, gated := false }).takeHeldRecs.stopBoot 5 3) :=
    stopBoot 5 3 (takeHeldRecs (modVat _ _ (fun _ => rfl) (modVat _ _ (fun _ => rfl) h)))
  have hpins : SameBoot s (if t.vatA.bist = some false && t.vatB.bist = some false then (t.setPin (hubSource .a 0)).setPin (hubSource .b 0) else t) :=
    ite (h.onSansHolds ((setPin_sansHolds ..).trans (setPin_sansHolds ..))) h
  unfold State.chooseVat
  refine ite h (ite (ite (enterSync .b (h.becomeActive .a)) (h.becomeActive .a)) (ite (h.becomeActive .b) (ite (ite ?_ (hpins.modPkg _)) h)))
  dsimp only
  split
  · exact requestPowerCycle _ (hroms.onSansHolds (escalate_sansHolds ..))
  · exact hroms

end SameBoot

/-! ### A BIST block that fails (R476) -/

theorem vatDown_bist (s : State) (h v : Hub) : ((s.vatDown h).vat v).bist = (s.vat v).bist := by
  obtain ⟨o, n, f, m, hdown⟩ := vatDown_eq s h
  rw [hdown]
  cases h <;> cases v <;> rfl
theorem vatTrigger_bist (s : State) (h v : Hub) (code : Nat) : ((s.vatTrigger h code).vat v).bist = (s.vat v).bist := by
  have hsh (u : State) (f : Shared → Shared) : ((u.modSh f).vat v).bist = (u.vat v).bist := by cases v <;> rfl
  have hfelt (u : State) (src ty mode dst : Nat) (w : List Nat) : ((u.feltSend src ty mode dst w).vat v).bist = (u.vat v).bist :=
    congrArg Vat.bist (((OnlyFelt.refl u).feltSend ..).vat v)
  unfold State.vatTrigger
  split
  · split
    · unfold State.gapFails
      dsimp only
      split
      · rw [hsh, hsh, vatDown_bist]
      · exact (congrArg Vat.bist ((each_emit_only ..).vat v)).trans (by rw [hsh, hsh, vatDown_bist])
    · split
      · unfold State.modGap
        rw [hfelt, hsh, vatDown_bist]
      · rfl
  · split
    · unfold State.failOver
      split
      · dsimp only
        rw [hfelt, hsh, vatDown_bist]
      · rw [hsh, vatDown_bist]
    · split
      · exact vatDown_bist ..
      · rfl
/-- A failed block of a hub is recorded and counted; the Vats' own results of their self-BIST stay. -/
theorem bistBlock_bist (s : State) (h v : Hub) (k block ident test : Nat) (hk : k < 14) :
    ((s.bistBlock (hubSource h k) block ident test).vat v).bist = (s.vat v).bist := by
  have hrec := vatField_of_sansBooks Vat.bist (fun _ => rfl) (record_sansBooks s 0x0F02 3 (hubSource h k) (block * 2 ^ 16 + ident) test s.pkg.pcycle) v
  unfold State.bistBlock State.agentCount
  rw [classOf_hubSource h k hk]
  dsimp only
  rw [if_neg (by simp; omega), ← hrec]
  generalize s.record 0x0F02 3 (hubSource h k) (block * 2 ^ 16 + ident) test s.pkg.pcycle = u
  have hfirst := ((OnlyHolds.refl u).stopSlice (hubSource h k)).firstStage (sourceDie (hubSource h k)) (hubSource h k) [default]
  rw [← hfirst.vatField Vat.bist (fun _ => rfl) v]
  generalize (u.stopSlice (hubSource h k)).firstStage (sourceDie (hubSource h k)) (hubSource h k) [default] = w
  generalize u.reactionsOf (sourceDie (hubSource h k)) (hubSource h k) (160 + k) = m
  have hnmi : OnlyHolds w (if bit m 3 then w.sendNmi (sourceDie (hubSource h k)) (hubSource h k) else w) := .ite _ ((OnlyHolds.refl w).sendNmi ..) (.refl w)
  have hpin := OnlyHolds.ite (bit m 0 = true) (hnmi.setPin (hubSource h k)) hnmi
  unfold State.agentReact
  dsimp only
  rw [takeBlk_hubSource _ h k hk, ← hpin.vatField Vat.bist (fun _ => rfl) v]
  split
  · exact vatTrigger_bist ..
  · rfl
/-- An event of a die's own part whose BLK does nothing is counted at its agent, and nothing else changes but the reactions. -/
theorem OnlyHolds.agentCount_noBlk {src key : Nat} (d : Nat) (x : Detail) (hkey : classOf src = some key) (h70 : key ≠ 70) (h71 : key ≠ 71)
    (hblk : ∀ u : State, u.takeBlk src = u) (h : OnlyHolds s t) : OnlyHolds s (t.agentCount d src x) := by
  have hfirst := (h.stopSlice src).firstStage d src [x]
  unfold State.agentCount
  rw [hkey]
  dsimp only
  rw [if_neg (by simp [h70, h71])]
  unfold State.agentReact
  dsimp only
  rw [hblk, ite_self]
  have hnmi := OnlyHolds.ite (bit (t.reactionsOf d src key) 3 = true) (hfirst.sendNmi d src) hfirst
  exact .ite _ (hnmi.setPin src) hnmi
theorem classOf_analogBist {d : Nat} (hd : isDie d = true) : classOf (dieSource d 22) = some 86 := by
  have h1 : d < 100 := by simpa [isDie] using hd
  have h2 : sourceDie (dieSource d 22) = d := by simp only [sourceDie, dieSource]; omega
  have h3 : dieSource d 22 % 8192 = 7510 := by simp only [dieSource]; omega
  simp [classOf, h2, h3, h1]
theorem takeBlk_analogBist {d : Nat} (hd : isDie d = true) (u : State) : u.takeBlk (dieSource d 22) = u := by
  have h1 : d < 100 := by simpa [isDie] using hd
  have h2 : sourceDie (dieSource d 22) = d := by simp only [sourceDie, dieSource]; omega
  have h3 : sourceCtx (dieSource d 22) = none := by
    unfold sourceCtx
    rw [h2, if_neg (by simp; omega)]
  unfold State.takeBlk
  rw [classOf_analogBist hd, h3]
  rfl

/-! ### The choice of the active Vat (R317, R318) -/

theorem startReel_vat (s : State) (root : Nat) (v : Hub) : (s.startReel root).vat v = s.vat v := by
  unfold State.startReel State.alignAll State.alignHop
  rw [(each_holds (OnlyFelt _) _ _ _ (fun _ _ hu => hu.feltSend ..) (OnlyFelt.refl _)).vat, (each_holds (OnlyFelt _) _ _ _ (fun _ _ hu => hu.feltSend ..) (OnlyFelt.refl _)).vat]
  cases v <;> rfl
/-- A Vat that becomes active takes the next epoch (R318). -/
theorem becomeActive_spec (s : State) (v : Hub) : ((s.becomeActive v).vat v).role = .active ∧ ((s.becomeActive v).vat v).epoch = (s.lastEpoch + 1) % 2 ^ 32 := by
  have hend (u : State) (e : Nat) : ((u.epochEnd v e).vat v).role = (u.vat v).role ∧ ((u.epochEnd v e).vat v).epoch = (u.vat v).epoch := by
    unfold State.epochEnd
    split
    · rw [vatField_of_sansBooks Vat.role (fun _ => rfl) (record_sansBooks ..), vatField_of_sansBooks Vat.epoch (fun _ => rfl) (record_sansBooks ..)]
      cases v <;> exact ⟨rfl, rfl⟩
    · exact ⟨rfl, rfl⟩
  have hheld (u : State) : (u.takeHeldRecs.vat v).role = (u.vat v).role ∧ (u.takeHeldRecs.vat v).epoch = (u.vat v).epoch := by
    refine ⟨(each_keeps (fun w : State => (w.vat v).role) _ _ _ fun w r => vatField_of_sansBooks Vat.role (fun _ => rfl) (enterRec_sansBooks ..) v).trans ?_,
      (each_keeps (fun w : State => (w.vat v).epoch) _ _ _ fun w r => vatField_of_sansBooks Vat.epoch (fun _ => rfl) (enterRec_sansBooks ..) v).trans ?_⟩
    · cases v <;> rfl
    · cases v <;> rfl
  have hsh (u : State) (f : Shared → Shared) : (u.modSh f).vat v = u.vat v := by cases v <;> rfl
  unfold State.becomeActive
  dsimp only
  rw [(hend _ _).1, (hend _ _).2, (hheld _).1, (hheld _).2, hsh, startReel_vat]
  cases v <;> exact ⟨rfl, rfl⟩
/-- Vat A is active when it can be (R317). -/
theorem chooseVat_a (hb : s.pkg.boot = .step 2) (ha : s.bootOk .a = true) : s.chooseVat.vatA.role = .active ∧ s.chooseVat.vatA.epoch = (s.lastEpoch + 1) % 2 ^ 32 := by
  have hspec := becomeActive_spec s .a
  unfold State.chooseVat
  rw [if_neg (by simp [hb]), if_pos ha]
  dsimp only
  split
  · exact hspec
  · exact hspec
/-- While Vat A has neither failed nor loaded its image, the choice waits. -/
theorem chooseVat_waits (h1 : s.vatA.bist = some true) (h2 : s.vatA.image = none) : s.chooseVat = s := by
  have hok : s.bootOk .a = false := by simp [State.bootOk, State.vat, h2]
  have hout : s.bootOut .a = false := by simp [State.bootOut, State.vat, h1, h2]
  unfold State.chooseVat
  simp [hok, hout]

/-! ### Reset (R470-R473) -/

theorem bringUp_spec (s : State) : s.bringUp.pkg.boot = .step 2 ∧ s.bringUp.pkg.powered = s.pkg.powered ∧ s.bringUp.reel = 0 ∧ s.bringUp.dies = [] ∧
    s.bringUp.cores = [] ∧ s.bringUp.sh.ctxs = [] ∧ s.bringUp.pkg.hoursMram = s.pkg.hoursMram := by
  unfold State.bringUp State.keepDurable
  dsimp only
  split <;> exact ⟨rfl, rfl, rfl, rfl, rfl, rfl, rfl⟩
theorem loseRetention_hoursMram (s : State) : s.loseRetention.pkg.hoursMram = s.pkg.hoursMram := by
  unfold State.loseRetention
  split <;> rfl
theorem loseRetention_boot (s : State) : s.loseRetention.pkg.boot = s.pkg.boot := by
  unfold State.loseRetention
  split <;> rfl

/-! ### A firmware load (R340) -/

/-- What a load without read errors leaves in its Vat. -/
def State.loaded (s : State) (hub : Hub) (ok : Bool) (serial : Nat) : State :=
  s.modVat hub fun v => { v with loadStart := none, image := some ok, fwSerial := if ok then serial else v.fwSerial }
/-- The load's record, or its count (R339, R344). -/
def State.loadTold (s : State) (hub : Hub) (ok : Bool) (n : Option Nat) (h : FwHeader) : State :=
  let t := s.loaded hub ok h.serial
  if ok then t.record 0x0A04 0 (hubSource hub 13) (hubNum hub * 2 ^ 16 + sat 16 ((t.reel - n.getD t.reel) / 1000000)) (h.serial % 2 ^ 24) (h.keyId % 2 ^ 24)
  else t.vatCount (hubSource hub 13) default
/-- What follows a load: the choice of the active Vat, or the standby's part (R317, R335). -/
def State.afterLoad (s : State) (hub : Hub) (ok : Bool) (h : FwHeader) : State :=
  if s.pkg.boot = .step 2 then s.chooseVat
  else match s.activeHub with
    | none => s
    | some v =>
      if !ok || v = hub || (s.vat hub).heldOffline then s
      else if h.serial ≠ (s.vat v).fwSerial then
        (s.modVat hub fun v => { v with image := some false }).record 0x0A05 3 (hubSource hub 13) (h.serial % 2 ^ 24) ((s.vat v).fwSerial % 2 ^ 24) 0
      else s.enterSync hub
theorem fwLoadDone_eq {hub : Hub} {n : Nat} {l : List Nat} {h : FwHeader} (hload : (s.vat hub).loadStart = some n) (hb : s.pkg.boot ≠ .held)
    (hl : l = bytesAt s.pkg.flashMem 0 256) (hh : h = fwHeader l) :
    exec (.fwLoadDone hub 0) s = .next ((s.loadTold hub (s.fwHeaderOk l && s.fwPayloadOk h) (s.vat hub).loadStart h).afterLoad hub (s.fwHeaderOk l && s.fwPayloadOk h) h) := by
  subst hl hh
  exact congrArg Host.Outcome.next (if_neg (by simp [hload, hb]))

/-- An event that takes no reaction, also when no Vat acts: it changes the books, or the agent's first-stage count. -/
theorem vatCount_steady_holds {src : Nat} (h : s.steady src = true) (x : Detail) (h232 : classOf src ≠ some 232) : OnlyHolds s (s.vatCount src x) := by
  cases ha : s.acting with
  | some v => exact (OnlyHolds.refl s).of_books (vatCount_steady_books h (by simp [ha]) x h232).1
  | none =>
    obtain ⟨key, hkey, heach, -⟩ := (steady_iff src).mp h
    simp only [State.vatCount, hkey, reactionsOf_of_mod16 _ _ _ heach, agentReact_of_mod16 _ _ heach]
    rw [if_pos (by simp [ha])]
    exact (OnlyHolds.refl s).firstStage ..
theorem loaded_vat (s : State) (hub : Hub) (ok : Bool) (serial : Nat) : ((s.loaded hub ok serial).vat hub).image = some ok ∧
    ((s.loaded hub ok serial).vat hub).fwSerial = (if ok then serial else (s.vat hub).fwSerial) ∧ ((s.loaded hub ok serial).vat hub).role = (s.vat hub).role := by
  unfold State.loaded
  rw [modVat_vat_same]
  exact ⟨rfl, rfl, rfl⟩
theorem loaded_keeps_vat {α : Type} (g : Vat → α) (hg : ∀ x a b c, g { x with loadStart := a, image := b, fwSerial := c } = g x) (s : State) (hub : Hub) (ok : Bool) (serial : Nat) (v : Hub) :
    g ((s.loaded hub ok serial).vat v) = g (s.vat v) := by
  unfold State.loaded
  cases hub with
  | a => cases v with
    | a => exact hg ..
    | b => rfl
  | b => cases v with
    | a => rfl
    | b => exact hg ..
theorem loadTold_holds {hub : Hub} {ok : Bool} {n : Option Nat} {h : FwHeader} (hok : ok = true ∨ s.steady (hubSource hub 13) = true) :
    OnlyHolds (s.loaded hub ok h.serial) (s.loadTold hub ok n h) := by
  have hclass : classOf (hubSource hub 13) ≠ some 232 := by
    rw [classOf_hubSource hub 13 (by decide)]
    decide
  unfold State.loadTold
  cases ok with
  | true => exact (OnlyHolds.refl _).record ..
  | false =>
    refine vatCount_steady_holds ?_ _ hclass
    obtain hno | hsteady := hok
    · exact nomatch hno
    · rw [← hsteady]
      refine steady_congr ?_ ?_ ?_ ?_
      · cases hub <;> rfl
      · cases hub <;> rfl
      · cases hub <;> rfl
      · cases hub <;> rfl
theorem OnlyHolds.activeHub (h : OnlyHolds s t) : t.activeHub = s.activeHub := by
  have ha := h.vatRole .a
  have hb := h.vatRole .b
  unfold State.activeHub
  rw [show t.vatA.role = s.vatA.role from ha, show t.vatB.role = s.vatB.role from hb]

end

/-- Settles O43. -/
theorem bringupStartsComplete : Obligations.BringupStartsComplete := by
  refine ⟨fun s hb => ?_, fun s hb => ?_, fun s => ?_, fun s hub a b n hb hn => ?_, fun s d c n hd hn hr => ?_, fun s h1 h2 h3 => ?_, fun s hub n l h hload hl hh => ⟨fun hb => ?_, fun v hb hact hne hheld => ?_⟩⟩
  · obtain ⟨hboot, hpower, hreel, hdies, hcores, hctxs, -⟩ := bringUp_spec (s.modPkg fun g => { g with powered := true })
    exact ⟨_, congrArg Host.Outcome.next (if_pos hb), hboot, hpower, hreel, hdies, hcores, hctxs⟩
  · obtain ⟨-, -, -, -, -, hctxs, hours⟩ := bringUp_spec (s.modPkg fun g =>
      { g with hoursMram := if s.acting.isSome && (s.vatA.mramWin || s.vatB.mramWin) then g.hours else g.hoursMram })
    refine ⟨_, congrArg Host.Outcome.next (if_neg hb), rfl, hctxs, rfl, fun ha hw => hours.trans ?_⟩
    exact if_pos (by simp [Option.isSome_iff_ne_none, ha, hw])
  · obtain ⟨-, -, -, -, -, -, hours⟩ := bringUp_spec s
    exact ⟨_, rfl, loseRetention_boot .., rfl, rfl, rfl, rfl, (loseRetention_hoursMram ..).trans hours⟩
  · have hexec : exec (.vatSelfBistDone hub a b n) s = .next (State.chooseVat (if a && b then
          s.modVat hub fun v => { v with bist := some (a && b), loadStart := if (a && b) && hub == .a then some s.reel else none }
        else (s.modVat hub fun v => { v with bist := some (a && b), loadStart := if (a && b) && hub == .a then some s.reel else none }).bistBlock
          (hubSource hub (if a then 1 else 0)) 0 (hubDie hub) n)) := congrArg Host.Outcome.next (if_neg (by simp [hb, hn]))
    refine ⟨_, hexec, ?_, fun hhub ha hb' himage => ?_⟩
    · refine (congrArg Prod.fst ((SameBoot.refl _).chooseVat hub)).trans ?_
      change Vat.bist (State.vat _ hub) = _
      split
      · rw [modVat_vat_same]
      · rw [bistBlock_bist _ _ _ _ _ _ _ (by split <;> omega), modVat_vat_same]
    · subst hhub ha hb'
      refine (congrArg (fun u : State => u.vatA.loadStart) (chooseVat_waits ?_ ?_)).trans ?_
      · rfl
      · exact himage
      · rfl
  · have hexec : exec (.agentSelfBistDone d true c n) s = .next ((if c then s.modDie d fun k => { k with bist := some true, cal := { k.cal with fcalOk := c } }
        else ((s.modDie d fun k => { k with bist := some true, cal := { k.cal with fcalOk := c } }).modDie d fun k =>
          { k with cal := k.cal.allFailed (sensorCount d) }).agentCount d (dieSource d 22) default).emit (.probes d 4096)) := by
      refine (guardId_of_true hd).trans ?_
      rw [hn]
      rfl
    refine ⟨_, hexec, ?_⟩
    have hcount (u : State) : OnlyHolds u (u.agentCount d (dieSource d 22) default) :=
      (OnlyHolds.refl u).agentCount_noBlk d default (classOf_analogBist hd) (by decide) (by decide) (takeBlk_analogBist hd)
    have hset : Keeps false s (s.modDie d fun k => { k with bist := some true, cal := { k.cal with fcalOk := c } }) := modDie_keeps _ _ (.refl _ s)
    cases c with
    | true =>
      simp only [if_true]
      refine ⟨?_, ?_, .after_keeps hset (emits_emit ..), nofun⟩
      · simp
      · simp
    | false =>
      simp only [Bool.false_eq_true, if_false]
      have hfield {α : Type} (g : Die → α) (hg : ∀ k, g k.sansHolds = g k) := (hcount ((s.modDie d fun k =>
        { k with bist := some true, cal := { k.cal with fcalOk := false } }).modDie d fun k => { k with cal := k.cal.allFailed (sensorCount d) })).dieField g hg d
      refine ⟨?_, ?_, .after_keeps (agentCount_keeps _ _ _ (modDie_keeps _ _ hset)) (emits_emit ..), fun _ k hk => ?_⟩
      · refine (hfield Die.bist fun _ => rfl).trans ?_
        simp
      · refine (hfield (fun k => k.cal.fcalOk) fun _ => rfl).trans ?_
        simp [Cal.allFailed]
      · refine (hfield (fun x => (tget {} x.cal.temps k).failed) fun _ => rfl).trans ?_
        simp only [modDie_die, if_true, Cal.allFailed]
        have hput := tget_tput {} ((List.range (sensorCount d)).map fun i => { (tget {} (s.die d).cal.temps i) with failed := true }) (s.die d).cal.temps 0 k
          (by simpa using hk)
        rw [Nat.zero_add] at hput
        rw [hput]
        simp
  · exact ⟨_, congrArg Host.Outcome.next (if_pos (by simp [h1, h2, h3])), rfl⟩
  · have hexec := fwLoadDone_eq hload (by rw [hb]; exact nofun) hl hh
    refine ⟨_, hexec, ?_⟩
    dsimp only
    generalize (s.vat hub).loadStart = n
    have hboot {ok : Bool} (hok : ok = true ∨ s.steady (hubSource hub 13) = true) : (s.loadTold hub ok n h).pkg.boot = .step 2 := by
      rw [(loadTold_holds hok).pkg]
      exact (congrArg Pkg.boot (modVat_pkg ..)).trans hb
    have hchosen {ok : Bool} (hok : ok = true ∨ s.steady (hubSource hub 13) = true) :
        (((s.loadTold hub ok n h).afterLoad hub ok h).vat hub).image = some ok ∧
          (((s.loadTold hub ok n h).afterLoad hub ok h).vat hub).fwSerial = if ok then h.serial else (s.vat hub).fwSerial := by
      have hsame := (SameBoot.refl (s.loadTold hub ok n h)).chooseVat hub
      obtain ⟨himage, hserial, -⟩ := loaded_vat s hub ok h.serial
      unfold State.afterLoad
      rw [if_pos (hboot hok)]
      exact ⟨(congrArg (·.2.1) hsame).trans (((loadTold_holds hok).vatField Vat.image (fun _ => rfl) hub).trans himage),
        (congrArg (·.2.2) hsame).trans (((loadTold_holds hok).vatField Vat.fwSerial (fun _ => rfl) hub).trans hserial)⟩
    cases hok : s.fwHeaderOk l && s.fwPayloadOk h with
    | false => exact fun hs => hchosen (.inr hs)
    | true =>
      refine ⟨(hchosen (.inl rfl)).1, (hchosen (.inl rfl)).2, fun hhub ha => ?_⟩
      subst hhub
      have hholds := loadTold_holds (s := s) (hub := .a) (ok := true) (n := n) (h := h) (.inl rfl)
      have hbist : (s.loadTold .a true n h).vatA.bist = some true := (hholds.vatField Vat.bist (fun _ => rfl) .a).trans ((loaded_keeps_vat Vat.bist (fun _ _ _ _ => rfl) s .a true h.serial .a).trans ha)
      have himage : (s.loadTold .a true n h).vatA.image = some true := hholds.vatField Vat.image (fun _ => rfl) .a
      have hepoch : (s.loadTold .a true n h).lastEpoch = s.lastEpoch := by
        have hheld (v : Hub) := (hholds.vatField Vat.heldEpoch (fun _ => rfl) v).trans (loaded_keeps_vat Vat.heldEpoch (fun _ _ _ _ => rfl) s .a true h.serial v)
        exact congrArg₂ max (hheld .a) (hheld .b)
      obtain ⟨hrole, hnext⟩ := chooseVat_a (hboot (.inl rfl)) (by simp [State.bootOk, State.vat, hbist, himage])
      unfold State.afterLoad
      rw [if_pos (hboot (.inl rfl))]
      exact ⟨hrole, hepoch ▸ hnext⟩
  · have hexec := fwLoadDone_eq hload (by rw [hb]; exact nofun) hl hh
    refine ⟨_, hexec, ?_⟩
    dsimp only
    generalize (s.vat hub).loadStart = n
    have hboot {ok : Bool} (hok : ok = true ∨ s.steady (hubSource hub 13) = true) : (s.loadTold hub ok n h).pkg.boot ≠ .step 2 := by
      rw [(loadTold_holds hok).pkg]
      refine ne_of_eq_of_ne ((congrArg Pkg.boot (modVat_pkg ..)).trans hb) nofun
    have hactive {ok : Bool} (hok : ok = true ∨ s.steady (hubSource hub 13) = true) : (s.loadTold hub ok n h).activeHub = some v := by
      rw [(loadTold_holds hok).activeHub, ← hact]
      unfold State.activeHub
      rw [show (s.loaded hub ok h.serial).vatA.role = s.vatA.role from loaded_keeps_vat Vat.role (fun _ _ _ _ => rfl) s hub ok h.serial .a,
        show (s.loaded hub ok h.serial).vatB.role = s.vatB.role from loaded_keeps_vat Vat.role (fun _ _ _ _ => rfl) s hub ok h.serial .b]
    cases hok : s.fwHeaderOk l && s.fwPayloadOk h with
    | false =>
      intro hs
      have himage := ((loadTold_holds (n := n) (h := h) (ok := false) (.inr hs)).vatField Vat.image (fun _ => rfl) hub).trans (loaded_vat s hub false h.serial).1
      unfold State.afterLoad
      rw [if_neg (hboot (.inr hs)), hactive (.inr hs)]
      dsimp only
      rw [if_pos (by simp)]
      exact himage
    | true =>
      have hholds := loadTold_holds (s := s) (hub := hub) (ok := true) (n := n) (h := h) (.inl rfl)
      have hrole := (hholds.vatRole hub).trans (loaded_vat s hub true h.serial).2.2
      have hserial : ((s.loadTold hub true n h).vat v).fwSerial = (s.vat v).fwSerial := by
        refine (hholds.vatField Vat.fwSerial (fun _ => rfl) v).trans ?_
        unfold State.loaded
        cases hub with
        | a => cases v with
          | a => exact absurd rfl hne
          | b => rfl
        | b => cases v with
          | a => rfl
          | b => exact absurd rfl hne
      have hoff : ((s.loadTold hub true n h).vat hub).heldOffline = false :=
        (hholds.vatField Vat.heldOffline (fun _ => rfl) hub).trans ((loaded_keeps_vat Vat.heldOffline (fun _ _ _ _ => rfl) s hub true h.serial hub).trans hheld)
      have hreel : (s.loadTold hub true n h).reel = s.reel := hholds.reel.trans (modVat_reel ..)
      have hstep := hboot (ok := true) (.inl rfl)
      have hon := hactive (ok := true) (.inl rfl)
      generalize s.loadTold hub true n h = u at hholds hrole hserial hoff hreel hstep hon ⊢
      have hafter : u.afterLoad hub true h = if h.serial ≠ (s.vat v).fwSerial then (u.modVat hub fun v => { v with image := some false }).record 0x0A05 3
          (hubSource hub 13) (h.serial % 2 ^ 24) ((s.vat v).fwSerial % 2 ^ 24) 0 else u.enterSync hub := by
        unfold State.afterLoad
        rw [if_neg hstep, hon]
        dsimp only
        rw [if_neg (by simp [hne, hoff]), hserial]
      rw [hafter, if_pos (rfl : true = true)]
      by_cases heq : h.serial = (s.vat v).fwSerial
      · rw [if_pos heq, if_neg (not_not.mpr heq)]
        unfold State.enterSync
        rw [modVat_vat_same]
        exact ⟨rfl, congrArg some hreel⟩
      · rw [if_neg heq, if_pos heq, vatField_of_sansBooks Vat.image (fun _ => rfl) (record_sansBooks ..), vatField_of_sansBooks Vat.role (fun _ => rfl) (record_sansBooks ..), modVat_vat_same]
        exact ⟨rfl, hrole⟩

end Sys2Proof.Machine
end

section
/-! SUPPORT. The last steps of bring-up: alignment, the start-up run, the deckle map and the ready declaration (R66, R69, R477-R484). -/

namespace Sys2Proof.Machine

/-- What decides how bring-up goes on after the alignment: the life-cycle state, out of service, and the dies enabled (R484). -/
def Pkg.course (g : Pkg) : Nat × Bool × Nat := (g.lifecycle, g.oos, g.dieMask)
/-- From `s` to `t` bring-up's course and the configuration of the fault classes have not changed. -/
structure SameCourse (s t : State) : Prop where
  course : t.pkg.course = s.pkg.course
  classCfg : t.sh.classCfg = s.sh.classCfg

section
variable {s t : State}

namespace SameCourse

theorem refl (s : State) : SameCourse s s := ⟨rfl, rfl⟩
theorem lifecycle (h : SameCourse s t) : t.pkg.lifecycle = s.pkg.lifecycle := congrArg Prod.fst h.course
theorem oos (h : SameCourse s t) : t.pkg.oos = s.pkg.oos := congrArg (fun c : Nat × Bool × Nat => c.2.1) h.course
theorem dieMask (h : SameCourse s t) : t.pkg.dieMask = s.pkg.dieMask := congrArg (fun c : Nat × Bool × Nat => c.2.2) h.course
theorem trans {u : State} (h1 : SameCourse s t) (h2 : SameCourse t u) : SameCourse s u := ⟨h2.course.trans h1.course, h2.classCfg.trans h1.classCfg⟩
theorem books {u : State} (hu : u.sansBooks = t.sansBooks) (h : SameCourse s t) : SameCourse s u :=
  h.trans ⟨congrArg Pkg.course (pkg_of_sansBooks hu), shared_of_sansBooks Shared.classCfg (fun _ => rfl) hu⟩
theorem holds {u : State} (hu : OnlyHolds t u) (h : SameCourse s t) : SameCourse s u := h.trans ⟨congrArg Pkg.course hu.pkg, hu.shared Shared.classCfg (fun _ => rfl)⟩
theorem modPkg (f : Pkg → Pkg) (hf : ∀ g, (f g).course = g.course) (h : SameCourse s t) : SameCourse s (t.modPkg f) := h.trans ⟨hf _, rfl⟩
theorem modSh (f : Shared → Shared) (hf : ∀ x, (f x).classCfg = x.classCfg) (h : SameCourse s t) : SameCourse s (t.modSh f) := h.trans ⟨rfl, hf _⟩
theorem modDie (d : Nat) (f : Die → Die) (h : SameCourse s t) : SameCourse s (t.modDie d f) := h.trans ⟨rfl, rfl⟩
theorem emit (o : Out) (h : SameCourse s t) : SameCourse s (t.emit o) := h.trans ⟨rfl, rfl⟩
theorem each {α : Type} (l : List α) (f : State → α → State) (hf : ∀ u x, SameCourse s u → SameCourse s (f u x)) (h : SameCourse s t) :
    SameCourse s (Machine.each l f t) := each_holds (SameCourse s) l f t hf h
theorem ite {c : Prop} [Decidable c] {x y : State} (h1 : SameCourse s x) (h2 : SameCourse s y) : SameCourse s (if c then x else y) := by
  split
  · exact h1
  · exact h2
theorem noPkg {key : Nat} (h : SameCourse s t) (hp : s.noPkg key) : t.noPkg key := by
  unfold State.noPkg at hp ⊢
  rwa [cfg_of_classCfg h.classCfg]
theorem record (code severity source p1 p2 p3 : Nat) (h : SameCourse s t) : SameCourse s (t.record code severity source p1 p2 p3) :=
  h.books (record_sansBooks ..)
theorem setVoid (b : Nat) (hp : s.noPkg 209) (h : SameCourse s t) : SameCourse s (t.setVoid b) := by
  by_cases hb : bit t.pkg.voidReasons b = true
  · unfold State.setVoid
    rw [if_pos hb]
    exact h
  · refine holds (setVoid_sets (by simpa using hb) (h.noPkg hp)).2 ?_
    exact h.modPkg _ fun _ => rfl
theorem clearVoid (b : Nat) (h : SameCourse s t) : SameCourse s (t.clearVoid b) := by
  have hmod := h.modPkg (fun g => { g with voidReasons := t.pkg.voidReasons - 2 ^ b, voidCleared := g.voidCleared ||| 2 ^ b }) fun _ => rfl
  unfold State.clearVoid
  exact ite (ite (hmod.record ..) hmod) h
theorem revert (k : Nat) (h : SameCourse s t) : SameCourse s (t.revert k) := by
  unfold State.revert
  split
  · exact h
  · exact record _ _ _ _ _ _ (h.modPkg _ fun _ => rfl)
theorem checkFurnish (k : Nat) (hp : s.noPkg 209) (h : SameCourse s t) : SameCourse s (t.checkFurnish k) := by
  unfold State.checkFurnish
  dsimp only
  split
  · exact h.modPkg _ fun _ => rfl
  · next r hr =>
    have hbad : SameCourse s (t.modFlash k fun f => { f with bad := r }) := h.modPkg _ fun _ => rfl
    exact ite hbad (setVoid 2 hp (hbad.record ..))
theorem reloadBanks (d : Nat) (h : SameCourse s t) : SameCourse s (t.reloadBanks d) := by
  unfold State.reloadBanks
  refine each _ _ (fun u k hu => ?_) (modDie _ _ (each _ _ (fun u k hu => ite hu (hu.emit _)) h))
  split
  · exact hu
  · dsimp only
    exact ite hu (modSh _ (fun _ => rfl) (ite (each _ _ (fun _ _ hw => hw.books (vatSend_sansBooks ..)) hu) hu))
theorem loadFurnish (hp : s.noPkg 209) (h : SameCourse s t) : SameCourse s t.loadFurnish := by
  unfold State.loadFurnish
  have hcheck := (((((h.revert 1).revert 2).revert 3).checkFurnish 1 hp).checkFurnish 2 hp).checkFurnish 3 hp
  refine each _ _ (fun u k hu => ?_) (each _ _ (fun _ d hu => hu.reloadBanks d) (ite (hcheck.clearVoid 2) hcheck))
  split
  · exact ite (each _ _ (fun _ _ hw => hw.books (vatSend_sansBooks ..)) (modSh _ (fun _ => rfl) hu)) hu
  · exact hu
theorem takeLicence (h : SameCourse s t) : SameCourse s t.takeLicence := by
  unfold State.takeLicence
  split
  · exact h
  · split
    · exact h.modPkg _ fun _ => rfl
    · exact record _ _ _ _ _ _ (h.modPkg _ fun _ => rfl)

end SameCourse

/-! ### After the alignment (R477, R484) -/

/-- With every ring whole no die is cut off (R476). -/
theorem dropCutOff_of_whole (h : s.felt.broken = []) : s.dropCutOff = s := if_pos (by simp [h])
theorem stopBoot_pkg (s : State) (reason step : Nat) : (s.stopBoot reason step).pkg.boot = .stopped ∧ (s.stopBoot reason step).pkg.notReady = reason := by
  unfold State.stopBoot
  dsimp only
  rw [pkg_of_sansBooks (mramWrite_sansBooks _), pkg_of_sansBooks (record_sansBooks ..)]
  exact ⟨rfl, rfl⟩
/-- The dies that the life-cycle state enables (Table 13.4, R431). -/
theorem enableDies_pkg (s : State) : s.enableDies.pkg.lifecycle = s.pkg.lifecycle ∧ s.enableDies.pkg.oos = s.pkg.oos ∧
    ((s.pkg.lifecycle = 1 ∨ s.pkg.lifecycle = 3) → s.enableDies.pkg.dieMask = 2 ^ 96 - 1) := by
  unfold State.enableDies State.modPkg
  dsimp only
  split
  · exact ⟨rfl, rfl, fun _ => rfl⟩
  · next hno =>
    refine ⟨?_, ?_, fun h => absurd (by simpa using h) hno⟩
    · split
      · split <;> rfl
      · rfl
    · split
      · split <;> rfl
      · rfl
theorem startScreens_pkg (s : State) : s.startScreens.pkg = { s.pkg with boot := .step 6, qualifying := true } := by
  have hgrant (u : State) : u.grantWaiting.pkg = u.pkg := by
    have hlease (w : State) (d kind : Nat) : (w.grantLease d kind).pkg = w.pkg := by
      unfold State.grantLease
      exact (pkg_of_sansBooks (vatSend_sansBooks ..)).trans rfl
    unfold State.grantWaiting
    refine (each_keeps State.pkg _ _ _ fun w d => ?_).trans (each_keeps State.pkg _ _ _ fun w d => ?_)
    · split
      · exact hlease ..
      · rfl
    · split
      · exact hlease ..
      · rfl
  have hcores (l : List Nat) (u : State) : (each l (fun s p => s.modCore p fun c => { c with selftest := 1 }) u).pkg = u.pkg :=
    each_keeps State.pkg _ _ _ fun _ _ => rfl
  have hbeat (l : List Nat) (u : State) : (each l (fun s d => s.modBeater d fun b => { b with startCore := some 0 }) u).pkg = u.pkg :=
    each_keeps State.pkg _ _ _ fun _ _ => rfl
  unfold State.startScreens
  dsimp only
  rw [emit_pkg, hgrant, modSh_pkg, hcores, hbeat, modPkg_pkg]
/-- Bring-up goes on after the alignment, unless a condition of R484 stops it. -/
theorem afterAlign_eq {s0 : State} (hb : s.felt.broken = []) (hp : s.noPkg 209) (hk : Keeps false s0 s) : ∃ t : State, t.pkg.lifecycle = s.pkg.lifecycle ∧ t.pkg.oos = s.pkg.oos ∧
    ((s.pkg.lifecycle = 1 ∨ s.pkg.lifecycle = 3) → t.pkg.dieMask = 2 ^ 96 - 1) ∧
    s.afterAlign = (if t.pkg.lifecycle = 0 then t.stopBoot 1 5 else if t.pkg.lifecycle = 4 then t.stopBoot 2 5 else if t.pkg.oos then t.stopBoot 3 5
      else if t.pkg.dieMask = 0 then t.stopBoot 4 5 else t.startScreens) ∧ Keeps false s0 t := by
  have hlicence := (SameCourse.refl s).takeLicence
  obtain ⟨hl, ho, hm⟩ := enableDies_pkg s.takeLicence
  have hnext := (SameCourse.refl (s.takeLicence.enableDies.modPkg fun g => { g with boot := .step 5 })).loadFurnish
    (show State.noPkg (s.takeLicence.enableDies.modPkg _) 209 from hlicence.noPkg hp)
  refine ⟨(s.takeLicence.enableDies.modPkg fun g => { g with boot := .step 5 }).loadFurnish, ?_, ?_, fun h => ?_, ?_, ?_⟩
  · rw [hnext.lifecycle, modPkg_pkg, hl, hlicence.lifecycle]
  · rw [hnext.oos, modPkg_pkg, ho, hlicence.oos]
  · rw [hnext.dieMask, modPkg_pkg, hm (by rwa [hlicence.lifecycle])]
  · unfold State.afterAlign
    rw [dropCutOff_of_whole hb]
  · exact loadFurnish_keeps (modPkg_keeps _ (fun _ => rfl) (enableDies_keeps (takeLicence_keeps hk)))

/-- The same of the state in which the root has declared alignment complete. -/
theorem afterAligned (hw : s.felt.broken = []) (hp : s.noPkg 209) : ∃ t : State, t.pkg.lifecycle = s.pkg.lifecycle ∧ t.pkg.oos = s.pkg.oos ∧
    ((s.pkg.lifecycle = 1 ∨ s.pkg.lifecycle = 3) → t.pkg.dieMask = 2 ^ 96 - 1) ∧
    (s.feltSend s.actDie 0x85 1 0 [s.epoch]).afterAlign = (if t.pkg.lifecycle = 0 then t.stopBoot 1 5 else if t.pkg.lifecycle = 4 then t.stopBoot 2 5
      else if t.pkg.oos then t.stopBoot 3 5 else if t.pkg.dieMask = 0 then t.stopBoot 4 5 else t.startScreens) ∧ Keeps false s t := by
  have hbroken : (s.feltSend s.actDie 0x85 1 0 [s.epoch]).felt.broken = [] := (((OnlyPorts.refl _).inject _).emit _ |>.felt Felt.broken (fun _ _ => rfl)).trans hw
  have hcfg : (s.feltSend s.actDie 0x85 1 0 [s.epoch]).noPkg 209 := by
    unfold State.noPkg State.cfg
    rw [feltSend_sh]
    exact hp
  have hpkg := pkg_of_sansBooks (feltSend_sansBooks s s.actDie 0x85 1 0 [s.epoch] none)
  obtain ⟨t, hl, ho, hm, heq, hk⟩ := afterAlign_eq hbroken hcfg (feltSend_keeps _ _ _ _ _ _ (.refl false s))
  rw [hpkg] at hl ho hm
  exact ⟨t, hl, ho, hm, heq, hk⟩
theorem startScreens_emits (hk : Keeps false s t) : Emits s t.startScreens .qualify := by
  unfold State.startScreens
  dsimp only
  refine .after_keeps (kp := false) (grantWaiting_keeps (modSh_keeps _ ?_)) (emits_emit ..)
  refine each_keepsS _ _ (fun u p hu => modCore_keeps _ _ hu) (each_keepsS _ _ (fun u d hu => modDie_keeps _ _ hu) (modPkg_keeps _ (fun _ => rfl) hk))

/-! ### The alignment's end (R69) -/

/-- With every copy equal to its ring neighbours' no die is odd, and bring-up goes on. -/
theorem exec_alignDone_agreed (hb : s.pkg.boot = .step 4) (hc : ∀ d < 100, s.copyDiffers d = false) :
    exec .alignDone s = .next (s.feltSend s.actDie 0x85 1 0 [s.epoch]).afterAlign := by
  have hany : (List.range 100).any s.copyDiffers = false := by
    rw [List.any_eq_false]
    intro d hd
    simp [hc d (List.mem_range.mp hd)]
  have hodd : (List.range 100).filter s.copyOdd = [] := by
    rw [List.filter_eq_nil_iff]
    intro d hd
    have hd' := hc d (List.mem_range.mp hd)
    unfold State.copyDiffers at hd'
    unfold State.copyOdd
    cases hu : (s.die d).unaligned with
    | true => simp
    | false =>
      rw [hu] at hd'
      have hnone : (s.ringCopies d).filter (fun v => v != s.dieReel d) = [] := by
        rw [List.filter_eq_nil_iff]
        exact List.any_eq_false.mp (by simpa using hd')
      rw [hnone]
      simp
  change execAlignDone s = _
  unfold execAlignDone
  rw [if_neg (by simp [hb]), if_neg (by simp [hany]), hodd]
  rfl
theorem repeatAlign_spec (s : State) : s.repeatAlign.pkg.alignRepeated = true ∧ s.repeatAlign.pkg.boot = s.pkg.boot ∧
    ∀ d < 100, d ≠ s.actDie → (s.repeatAlign.die d).unaligned = true := by
  have hports (l : List Nat) (u : State) : OnlyFelt u (each l (fun s k => if (s.port k).tries = 0 then s else s.modPort k fun p => { p with tries := 0 }) u) :=
    each_holds (OnlyFelt u) _ _ _ (fun w k hw => by
      split
      · exact hw
      · exact hw.trans ⟨_, _, rfl⟩) (.refl u)
  have hsends (u : State) (root : Nat) : OnlyFelt u (u.alignAll root) :=
    each_holds (OnlyFelt u) _ _ _ (fun _ _ hw => hw.feltSend ..) (each_holds (OnlyFelt u) _ _ _ (fun _ _ hw => hw.feltSend ..) (.refl u))
  have hmarks (l : List Nat) (u : State) : (each l (fun s d => s.modDie d fun k => { k with unaligned := true }) u).pkg = u.pkg :=
    each_keeps State.pkg _ _ _ fun _ _ => rfl
  unfold State.repeatAlign
  dsimp only
  obtain ⟨n, o, hsent⟩ := hsends (each ((List.range 100).filter (· != s.actDie)) (fun s d => s.modDie d fun k => { k with unaligned := true })
    (each (List.range 400) (fun s k => if (s.port k).tries = 0 then s else s.modPort k fun p => { p with tries := 0 })
      (s.modPkg fun g => { g with alignRepeated := true, alignBlocked := [] }))) s.actDie
  obtain ⟨n', o', hcleared⟩ := hports (List.range 400) (s.modPkg fun g => { g with alignRepeated := true, alignBlocked := [] })
  rw [hsent]
  refine ⟨?_, ?_, fun d hd hne => ?_⟩
  · change (State.pkg (each _ _ _)).alignRepeated = true
    rw [hmarks, hcleared]
    rfl
  · change (State.pkg (each _ _ _)).boot = _
    rw [hmarks, hcleared]
    rfl
  · refine each_establishes (fun a (u : State) => (u.die a).unaligned = true) _ (fun u a => ?_) (fun u a x hu => ?_) _ _ d (by simpa using ⟨hd, hne⟩)
    · simp
    · rw [modDie_die]
      split
      · rfl
      · exact hu

/-! ### The start-up run's end, the deckle map, the declaration (R478-R483) -/

/-- A start-up run that has not finished ends: its core is left, and the lease returned at the end of its slice (R481). -/
def State.endStartup (s : State) (d : Nat) : State :=
  let s := s.modBeater d fun b => { b with startCore := none }
  if (s.die d).beater.shifting then s.modBeater d fun b => { b with stopping := true, leaseKind := 1 } else s.returnLease d
theorem endStartup_startCore (s : State) (d e : Nat) : ((s.endStartup d).die e).beater.startCore = if e = d then none else (s.die e).beater.startCore := by
  have hset : ((s.modBeater d fun b => { b with startCore := none }).die e).beater.startCore = if e = d then none else (s.die e).beater.startCore := by
    unfold State.modBeater
    rw [modDie_die]
    split
    · rfl
    · rfl
  unfold State.endStartup
  dsimp only
  rw [← hset]
  generalize s.modBeater d (fun b => { b with startCore := none }) = u
  have hbeat (f : Beater → Beater) (hf : ∀ b, (f b).startCore = b.startCore) : ((u.modBeater d f).die e).beater.startCore = (u.die e).beater.startCore := by
    unfold State.modBeater
    rw [modDie_die]
    split
    · next he => rw [he]; exact hf _
    · rfl
  split
  · exact hbeat _ fun _ => rfl
  · unfold State.returnLease
    split
    · rw [toVat_beater]
      unfold State.dieRing
      rw [modDie_die]
      split
      · next he =>
        subst he
        exact hbeat _ fun _ => rfl
      · exact hbeat _ fun _ => rfl
    · rfl
theorem buildSlice_spec (s : State) (d e : Nat) : (s.buildSlice d).pkg = s.pkg ∧ (s.buildSlice d).activeHub = s.activeHub ∧
    ((s.buildSlice d).die e).deckleGen = if e = d then 1 else (s.die e).deckleGen := by
  refine ⟨rfl, rfl, ?_⟩
  unfold State.buildSlice
  dsimp only
  rw [modSh_die, modDie_die]
  split
  · rfl
  · rfl
/-- The map that is built of dies `l`, whose cores' marks are renewed for `m`, leaves the Vats and the firmware's lowest serial (R478, R479). -/
theorem slices_spec (l m : List Nat) (s : State) :
    let t := each l (fun s d => State.buildSlice s d) (each m (fun s d => s.modPkg fun g => { g with marks := s.newMarks d }) s)
    t.pkg.fwMin = s.pkg.fwMin ∧ t.vatA = s.vatA ∧ t.vatB = s.vatB ∧ ∀ d ∈ l, (t.die d).deckleGen = 1 := by
  have hkept {α : Type} (g : State → α) (h1 : ∀ u d, g (State.buildSlice u d) = g u)
      (h2 : ∀ (u : State) d, g (u.modPkg fun k => { k with marks := u.newMarks d }) = g u) :
      g (each l (fun s d => State.buildSlice s d) (each m (fun s d => s.modPkg fun g => { g with marks := s.newMarks d }) s)) = g s :=
    (each_keeps g _ _ _ h1).trans (each_keeps g _ _ _ h2)
  refine ⟨hkept (fun w => w.pkg.fwMin) (fun _ _ => rfl) fun _ _ => rfl, hkept State.vatA (fun _ _ => rfl) fun _ _ => rfl,
    hkept State.vatB (fun _ _ => rfl) fun _ _ => rfl, fun d hd => ?_⟩
  · refine each_establishes (fun a (w : State) => (w.die a).deckleGen = 1) _ (fun w a => (buildSlice_spec w a a).2.2.trans (if_pos rfl)) (fun w a x hw => ?_) _ _ d hd
    rw [(buildSlice_spec w x a).2.2]
    split
    · rfl
    · exact hw
theorem clearVoid_pkg (s : State) (b : Nat) : ∃ v c, (s.clearVoid b).pkg = { s.pkg with voidReasons := v, voidCleared := c } := by
  unfold State.clearVoid
  dsimp only
  split
  · split
    · rw [pkg_of_sansBooks (record_sansBooks ..)]
      exact ⟨_, _, rfl⟩
    · exact ⟨_, _, rfl⟩
  · exact ⟨_, _, rfl⟩
/-- The ready declaration (R483). -/
theorem declareReady_spec {h : Hub} (ha : s.activeHub = some h) : s.declareReady.pkg.boot = .ready ∧ s.declareReady.pkg.ready = true ∧
    s.declareReady.pkg.notReady = 0 ∧ s.declareReady.pkg.fwMin = max s.pkg.fwMin (s.vat h).fwSerial ∧ s.declareReady.dies = s.dies := by
  have hclear (u : State) : ∃ v c, u.clearOverdue.pkg = { u.pkg with voidReasons := v, voidCleared := c } := by
    unfold State.clearOverdue
    split
    · exact clearVoid_pkg u 1
    · exact ⟨_, _, rfl⟩
  have hcleardies (u : State) : u.clearOverdue.dies = u.dies := by
    unfold State.clearOverdue
    split
    · exact dies_clearVoid ..
    · rfl
  have hmsi (u : State) : (u.msi 2).pkg = u.pkg ∧ (u.msi 2).dies = u.dies := by
    unfold State.msi
    split
    · exact ⟨rfl, rfl⟩
    · exact ⟨rfl, rfl⟩
  unfold State.declareReady
  rw [ha]
  dsimp only
  generalize hu : s.modPkg _ = u
  obtain ⟨v, c, hlast⟩ := hclear ((((u.msi 2).record 0x0F00 0 u.hubRegion s.degradedMap u.unplacedCount u.sinceT0).mramWrite).mirror)
  rw [hlast, hcleardies, pkg_of_sansBooks (mirror_sansBooks _), pkg_of_sansBooks (mramWrite_sansBooks _), pkg_of_sansBooks (record_sansBooks ..),
    dies_of_sansBooks (mirror_sansBooks _), dies_of_sansBooks (mramWrite_sansBooks _), dies_record, (hmsi _).1, (hmsi _).2, ← hu]
  exact ⟨rfl, rfl, rfl, rfl, rfl⟩

end

/-- Settles O44. -/
theorem bringupEndsComplete : Obligations.BringupEndsComplete := by
  refine ⟨fun s hb hp hw => ⟨fun hc hl ho => ?_, fun hc hl => ?_, fun hr hd => ?_⟩, fun s hb => ?_, fun s h hb ha ht => ?_, fun s d part hd hpart => ?_⟩
  · obtain ⟨t, hlt, hot, hmt, heq, hk⟩ := afterAligned hw hp
    refine ⟨_, exec_alignDone_agreed hb hc, ?_⟩
    have hnot0 : t.pkg.lifecycle ≠ 0 := by rw [hlt]; obtain h | h := hl <;> rw [h] <;> decide
    have hnot4 : t.pkg.lifecycle ≠ 4 := by rw [hlt]; obtain h | h := hl <;> rw [h] <;> decide
    have hmask := hmt hl
    dsimp only
    rw [heq, if_neg hnot0, if_neg hnot4, if_neg (by rw [hot, ho]; decide), if_neg (by rw [hmask]; decide), startScreens_pkg]
    exact ⟨rfl, hmask, startScreens_emits hk⟩
  · obtain ⟨t, hlt, -, -, heq, -⟩ := afterAligned hw hp
    refine ⟨_, exec_alignDone_agreed hb hc, ?_⟩
    rw [heq, if_pos (hlt.trans hl)]
    exact stopBoot_pkg ..
  · obtain ⟨d, hd, hdiff⟩ := hd
    obtain ⟨hrep, hboot, hmarks⟩ := repeatAlign_spec s
    refine ⟨_, ?_, hrep, hboot.trans hb, hmarks⟩
    have hany : (List.range 100).any s.copyDiffers = true := List.any_eq_true.mpr ⟨d, List.mem_range.mpr hd, hdiff⟩
    change execAlignDone s = _
    unfold execAlignDone
    rw [if_neg (by simp [hb]), if_pos (by simp [hr, hany])]
  · have hkeep (w : State) (a x : Nat) (hw : (w.die a).beater.startCore = none) : ((w.endStartup x).die a).beater.startCore = none := by
      rw [endStartup_startCore]
      split
      · rfl
      · exact hw
    have hends (l : List Nat) (u : State) (d : Nat) (hl : d ∈ l ∨ (u.die d).beater.startCore = none) :
        ((each l (fun s d => s.endStartup d) u).die d).beater.startCore = none := by
      obtain hl | hl := hl
      · exact each_establishes (fun a (w : State) => (w.die a).beater.startCore = none) _ (fun w a => by rw [endStartup_startCore, if_pos rfl])
          (fun w a x hw => hkeep w a x hw) _ _ d hl
      · exact each_holds (fun w : State => (w.die d).beater.startCore = none) _ _ _ (fun w x hw => hkeep w d x hw) hl
    have hexec : exec .startupScreenTimeout s = .next (
        let l := (List.range 96).filter fun d => (s.die d).beater.startCore.isSome
        let t := (each l (fun s d => s.endStartup d) s).modSh fun h => { h with startupQ := [] }
        if l.isEmpty then t else t.modPkg fun g => { g with unscreened := true }) := congrArg Host.Outcome.next (if_neg (by simp [hb]))
    refine ⟨_, hexec, ?_⟩
    dsimp only
    have hnone (d : Nat) (hd : d < 96) : ((each ((List.range 96).filter fun d => (s.die d).beater.startCore.isSome) (fun s d => s.endStartup d) s).die
        d).beater.startCore = none := by
      cases hc : (s.die d).beater.startCore with
      | none => exact hends _ _ d (.inr hc)
      | some p => exact hends _ _ d (.inl (by simp [hd, hc]))
    split
    · next hempty =>
      refine ⟨rfl, fun d hd => ⟨hnone d hd, fun hc => ?_⟩⟩
      have hmem : d ∈ (List.range 96).filter fun d => (s.die d).beater.startCore.isSome := by simp [hd, Option.isSome_iff_ne_none, hc]
      rw [List.isEmpty_iff.mp hempty] at hmem
      cases hmem
    · exact ⟨rfl, fun d hd => ⟨hnone d hd, fun _ => rfl⟩⟩
  · have hexec : exec .deckleMapBuild s = .next (State.declareReady (State.mramWrite (each (List.range 96) (fun s d => s.buildSlice d)
        (each ((List.range 96).filter fun d => s.enabled d && (s.die d).bist == some true) (fun s d => s.modPkg fun g => { g with marks := s.newMarks d }) s)))) :=
      congrArg Host.Outcome.next (if_neg (by simp [hb, ha, ht]))
    refine ⟨_, hexec, ?_⟩
    dsimp only
    obtain ⟨hmin, hva, hvb, hgen⟩ := slices_spec (List.range 96) ((List.range 96).filter fun d => s.enabled d && (s.die d).bist == some true) s
    generalize each (List.range 96) (fun s d => State.buildSlice s d) _ = u at hmin hva hvb hgen ⊢
    have hbooks := mramWrite_sansBooks u
    have hactive : u.mramWrite.activeHub = some h := by
      have ha' : u.mramWrite.vatA.role = s.vatA.role := (vatField_of_sansBooks Vat.role (fun _ => rfl) hbooks .a).trans (congrArg Vat.role hva)
      have hb' : u.mramWrite.vatB.role = s.vatB.role := (vatField_of_sansBooks Vat.role (fun _ => rfl) hbooks .b).trans (congrArg Vat.role hvb)
      rw [← ha]
      unfold State.activeHub
      rw [ha', hb']
    have hserial : (u.mramWrite.vat h).fwSerial = (s.vat h).fwSerial := by
      rw [vatField_of_sansBooks Vat.fwSerial (fun _ => rfl) hbooks]
      cases h with
      | a => exact congrArg Vat.fwSerial hva
      | b => exact congrArg Vat.fwSerial hvb
    obtain ⟨hboot, hready, hnot, hfw, hdies⟩ := declareReady_spec hactive
    refine ⟨hboot, hready, hnot, ?_, fun d hd => ?_⟩
    · rw [hfw, hserial, pkg_of_sansBooks hbooks, hmin]
    · rw [die_of_dies hdies, die_of_dies (dies_of_sansBooks hbooks)]
      exact hgen d (List.mem_range.mpr hd)
  · have hbooks := mirror_sansBooks (s.modPkg fun g => { g with partition := tset 0 g.partition d part })
    refine ⟨_, guardId_of_true (by simp [hd, hpart]), ?_⟩
    unfold State.partOf
    dsimp only
    rw [pkg_of_sansBooks hbooks]
    refine ⟨?_, fun k hk => ?_⟩
    · exact (tget_tset ..).trans (if_pos rfl)
    · exact (tget_tset ..).trans (if_neg hk)

end Sys2Proof.Machine
end

section
/-! SUPPORT. The ports of the Felt stations: what a port sends, what its service leaves, and a link that goes down (R347-R370). -/

namespace Sys2Proof.Machine

/-- What a port knows of its link, apart from what waits at it: the state, the errors, the probes and the cause of the last break. -/
def Port.link (p : Port) : Bool × List Nat × Option Nat × Option Nat × Nat × Nat × Nat :=
  (p.down, p.errors, p.probe, p.cleanSince, p.downSince, p.cause, p.tries)
/-- Every frame that waits at a port is the station's own and has a flit to send. -/
structure OwnQueue (k : Nat) (s : State) : Prop where
  own : ∀ f ∈ (s.port k).queue, f.own = true ∧ 1 ≤ f.left
/-- From `s` to `t` only what has left, and what the ports hold and may send, has changed. -/
structure SameLinks (s t : State) : Prop where
  ports : OnlyPorts s t
  link : ∀ k, (t.port k).link = (s.port k).link

section
variable {s s0 t : State} {k : Nat}

/-! ### What a port's service does in one flit (R358, R359) -/

/-- What every flit that a port sends keeps, its whole service keeps. -/
theorem servePort_holds (P : State → Prop)
    (hctl : ∀ u (g : Port → List (Nat × Nat)) o, P u → P ((u.modPort k fun p => { p with ctl := g p, sinceCtl := 0 }).emit o))
    (hsend : ∀ u f slot, P u → (u.port k).choose = some (f, slot) → P (u.modPort k fun p => p.sendFlit f slot)) (hemit : ∀ u o, P u → P (u.emit o))
    (hback : ∀ u j x, P u → P (u.modPort j fun p => { p with ctl := p.ctl ++ [x] })) (n : Nat) (h : P s) : P (State.servePort n s k) := by
  induction n generalizing s with
  | zero => exact h
  | succ n ih =>
    unfold State.servePort
    dsimp only
    split
    · exact h
    · exact ih (hctl _ _ _ h)
    · next f slot heq =>
      have hchoose : (s.port k).choose = some (f, slot) := by
        split at heq
        · cases heq
        · exact heq
      split
      · exact ih (hctl _ _ _ h)
      · refine ih ?_
        split
        · exact hsend _ _ _ h hchoose
        · split
          · exact hemit _ _ (hsend _ _ _ h hchoose)
          · exact hback _ _ _ (hemit _ _ (hsend _ _ _ h hchoose))
theorem nextFrame_mem {p : Port} {cls : Nat} {f : FeltFrame} (h : p.nextFrame cls = some f) : f ∈ p.queue := by
  have hfind {q : FeltFrame → Bool} {g : FeltFrame} (hg : (p.queue.filter fun f => f.cls == cls).find? q = some g) : g ∈ p.queue :=
    List.mem_of_mem_filter (List.mem_of_find?_eq_some hg)
  have hfits {q : FeltFrame → Bool} {g : FeltFrame} (hg : ((p.queue.filter fun f => f.cls == cls).find? q).filter p.fits = some g) : g ∈ p.queue :=
    hfind (Option.eq_some_of_filter_eq_some hg)
  unfold Port.nextFrame at h
  dsimp only at h
  split at h
  · next g hg =>
    cases h
    exact hfind hg
  · split at h
    · next a b ha hb =>
      split at h
      · cases h
        exact hfits hb
      · cases h
        exact hfits ha
    · next a ha hb =>
      cases h
      exact hfits ha
    · exact hfits h
theorem choose_mem {p : Port} {f : FeltFrame} {slot : Nat} (h : p.choose = some (f, slot)) : f ∈ p.queue := by
  unfold Port.choose at h
  split at h
  · next g hg =>
    cases h
    exact nextFrame_mem hg
  · obtain ⟨j, -, hj⟩ := List.exists_of_findSome?_eq_some h
    obtain ⟨g, hg, heq⟩ := Option.map_eq_some_iff.mp hj
    cases heq
    exact nextFrame_mem hg
theorem choose_of_empty {p : Port} (h : p.queue = []) : p.choose = none := by
  cases hc : p.choose with
  | none => rfl
  | some x =>
    have hmem := choose_mem (f := x.1) (slot := x.2) hc
    rw [h] at hmem
    cases hmem

namespace SameLinks

theorem refl (s : State) : SameLinks s s := ⟨.refl s, fun _ => rfl⟩
theorem trans {u : State} (h1 : SameLinks s t) (h2 : SameLinks t u) : SameLinks s u := ⟨h1.ports.trans h2.ports, fun k => (h2.link k).trans (h1.link k)⟩
theorem emit (o : Out) (h : SameLinks s t) : SameLinks s (t.emit o) := ⟨h.ports.emit o, h.link⟩
theorem modPort {k : Nat} {f : Port → Port} (h : SameLinks s t) (hf : ∀ p, (f p).link = p.link) : SameLinks s (t.modPort k f) :=
  ⟨h.ports.modPort k f, fun e => by
    rw [modPort_port]
    split
    · next he => rw [he, hf, h.link]
    · exact h.link e⟩
theorem servePort (n k : Nat) (h : SameLinks s t) : SameLinks s (State.servePort n t k) :=
  servePort_holds (SameLinks s) (fun _ _ o hu => SameLinks.emit o (hu.modPort fun _ => rfl)) (fun _ _ _ hu _ => hu.modPort fun _ => rfl) (fun _ o hu => hu.emit o)
    (fun _ _ _ hu => hu.modPort fun _ => rfl) n h
theorem serve (k : Nat) (h : SameLinks s t) : SameLinks s (t.serve k) := (h.servePort ..).servePort ..
theorem control (k code data : Nat) (h : SameLinks s t) : SameLinks s (t.control k code data) := SameLinks.serve k (h.modPort fun _ => rfl)
theorem discardFrames (d : Nat) (l : List FeltFrame) (h : SameLinks s t) : SameLinks s (t.discardFrames d l) :=
  each_holds (SameLinks s) _ _ t (fun _ _ hu => hu.control ..) h
theorem enqueue (k : Nat) (l : List FeltFrame) (h : SameLinks s t) : SameLinks s (t.enqueue k l) := by
  unfold State.enqueue
  split
  · exact h.discardFrames ..
  · exact SameLinks.serve k (h.modPort fun _ => rfl)
theorem inject (x : Txn) (h : SameLinks s t) : SameLinks s (t.inject x) :=
  each_holds (SameLinks s) _ _ t (fun _ _ hu => each_holds (SameLinks s) _ _ _ (fun _ _ hw => hw.enqueue ..) hu) h
theorem ack (die dst ty seq status : Nat) (h : SameLinks s t) : SameLinks s (t.ack die dst ty seq status) := (h.inject _).emit _

end SameLinks

/-- A transaction that leaves changes no link, and nothing of the network but the ports, the sequence numbers and what waits for an answer. -/
theorem feltSend_link (s : State) (src ty mode dst : Nat) (words : List Nat) (ring : Option Nat) (k : Nat) :
    ((s.feltSend src ty mode dst words ring).port k).link = (s.port k).link :=
  (((SameLinks.refl _).inject _).emit _).link k
theorem feltSend_felt {α : Type} (g : Felt → α) (hg : ∀ n a b c, g { n with ports := a, seq := b, waiting := c } = g n) (s : State)
    (src ty mode dst : Nat) (words : List Nat) (ring : Option Nat) :
    g (s.feltSend src ty mode dst words ring).felt = g s.felt :=
  ((((OnlyPorts.refl _).inject _).emit _).felt g fun n p => hg n p n.seq n.waiting).trans (hg _ _ _ _)

/-! ### Own frames keep no control flit back -/

theorem sendFlit_ownQueue {p : Port} {f : FeltFrame} {slot : Nat} (h : ∀ g ∈ p.queue, g.own = true ∧ 1 ≤ g.left) (hf : f ∈ p.queue) :
    ∀ g ∈ (p.sendFlit f slot).queue, g.own = true ∧ 1 ≤ g.left := by
  intro g hg
  unfold Port.sendFlit at hg
  dsimp only at hg
  split at hg
  · exact h g (List.mem_of_mem_erase hg)
  · next hleft =>
    obtain ⟨x, hx, rfl⟩ := List.mem_map.mp hg
    split
    · exact ⟨(h f hf).1, by dsimp only; omega⟩
    · exact h x hx
theorem OwnQueue.of_queue {j : Nat} {f : Port → Port} (h : OwnQueue k s) (hf : ∀ p, (f p).queue = p.queue) :
    OwnQueue k (s.modPort j f) := by
  refine ⟨?_⟩
  rw [modPort_port]
  split
  · next he =>
    subst he
    rw [hf]
    exact h.own
  · exact h.own
theorem OwnQueue.emit (o : Out) (h : OwnQueue k s) : OwnQueue k (s.emit o) := ⟨h.own⟩
theorem OwnQueue.servePort (n j : Nat) (h : OwnQueue k s) : OwnQueue k (State.servePort n s j) := by
  refine servePort_holds (OwnQueue k) (fun u g o hu => OwnQueue.emit o (hu.of_queue fun _ => rfl)) (fun u f slot hu hf => ⟨?_⟩) (fun u o hu => hu.emit o)
    (fun u i x hu => hu.of_queue fun _ => rfl) n h
  rw [modPort_port]
  split
  · next he =>
    subst he
    exact sendFlit_ownQueue hu.own (choose_mem hf)
  · exact hu.own
theorem OwnQueue.serve (j : Nat) (h : OwnQueue k s) : OwnQueue k (s.serve j) := (h.servePort ..).servePort ..
theorem OwnQueue.control (j code data : Nat) (h : OwnQueue k s) : OwnQueue k (s.control j code data) := OwnQueue.serve j (h.of_queue fun _ => rfl)
theorem OwnQueue.enqueue (j : Nat) (l : List FeltFrame) (hl : ∀ f ∈ l, f.own = true ∧ 1 ≤ f.left) (h : OwnQueue k s) : OwnQueue k (s.enqueue j l) := by
  unfold State.enqueue
  split
  · exact each_holds (OwnQueue k) _ _ s (fun _ _ hu => hu.control ..) h
  · refine OwnQueue.serve j ⟨?_⟩
    rw [modPort_port]
    split
    · next he =>
      subst he
      intro f hf
      exact (List.mem_append.mp hf).elim (h.own f) (hl f)
    · exact h.own
theorem txnFrames_own (x : Txn) (ttl ring : Nat) : ∀ f ∈ txnFrames x ttl ring, f.own = true ∧ 1 ≤ f.left := by
  intro f hf
  obtain ⟨w, hw, rfl⟩ := List.mem_map.mp hf
  obtain ⟨e, -, rfl⟩ := List.mem_map.mp hw
  exact ⟨rfl, by simp [frameWords]⟩
theorem OwnQueue.inject (x : Txn) (h : OwnQueue k s) : OwnQueue k (s.inject x) :=
  each_holds (OwnQueue k) _ _ s (fun _ _ hu => each_holds (OwnQueue k) _ _ _ (fun _ _ hw => hw.enqueue _ _ (txnFrames_own _ _ _)) hu) h
theorem OwnQueue.ack (die dst ty seq status : Nat) (h : OwnQueue k s) : OwnQueue k (s.ack die dst ty seq status) := (h.inject _).emit _

/-! ### What waits for the link's control is sent -/

/-- The flits of the frames that wait at a port. -/
def Port.flits (p : Port) : Nat := (p.queue.map (·.left)).sum
theorem waiting_eq (p : Port) : p.waiting = p.ctl.length + p.flits := by rw [Port.waiting, Port.flits, List.sum_eq_foldl]
theorem sendFlit_flits {p : Port} {f : FeltFrame} {slot : Nat} (h : ∀ g ∈ p.queue, g.own = true ∧ 1 ≤ g.left) (hf : f ∈ p.queue) :
    (p.sendFlit f slot).flits < p.flits := by
  have hleft := (h f hf).2
  unfold Port.sendFlit Port.flits
  dsimp only
  split
  · have hsum := List.sum_map_erase (fun g : FeltFrame => g.left) hf
    omega
  · rw [List.map_map]
    refine List.sum_lt_sum _ _ (fun g hg => ?_) ⟨f, hf, ?_⟩
    · dsimp only [Function.comp]
      split
      · next he =>
        rw [he]
        exact Nat.sub_le ..
      · exact le_refl _
    · simp only [Function.comp, if_true]
      omega
/-- A control flit that waits at a port is sent when no frame can be sent, or the frames there are the station's own. -/
theorem servePort_sends {x : Nat × Nat} (n : Nat) (hq : (s.port k).down = true ∨ OwnQueue k s) (hx : x ∈ (s.port k).ctl) (hn : (s.port k).waiting ≤ n)
    (hk : Keeps false s0 s) : Emits s0 (State.servePort n s k) (.flit (k / 4) (k % 4) x.1 x.2) := by
  induction n generalizing s with
  | zero =>
    rw [waiting_eq] at hn
    have hlen := List.length_pos_of_mem hx
    omega
  | succ n ih =>
    have hfirst (y : Nat × Nat) (l : List (Nat × Nat)) (g : Port → List (Nat × Nat)) (hc : (s.port k).ctl = y :: l) (hg : g (s.port k) = l) :
        Emits s0 (State.servePort n ((s.modPort k fun p => { p with ctl := g p, sinceCtl := 0 }).emit (.flit (k / 4) (k % 4) y.1 y.2)) k)
          (.flit (k / 4) (k % 4) x.1 x.2) := by
      rw [hc] at hx
      obtain rfl | hx := List.mem_cons.mp hx
      · exact (Emits.after_keeps (modPort_keeps _ _ hk) (emits_emit ..)).of_keeps (servePort_keeps _ _ (.refl false _))
      · have hport : (((s.modPort k fun p => { p with ctl := g p, sinceCtl := 0 }).emit (.flit (k / 4) (k % 4) y.1 y.2)).port k) =
            { s.port k with ctl := l, sinceCtl := 0 } := by
          rw [emit_port, modPort_port, if_pos rfl, hg]
        refine ih ?_ (by rw [hport]; exact hx) ?_ (emit_keeps _ (modPort_keeps _ _ hk))
        · rw [hport]
          exact hq.imp id fun h => ⟨by rw [hport]; exact h.own⟩
        · rw [hport]
          rw [waiting_eq, hc, List.length_cons] at hn
          rw [waiting_eq]
          change l.length + (s.port k).flits ≤ n
          omega
    unfold State.servePort
    dsimp only
    split
    · next hc _ =>
      rw [hc] at hx
      cases hx
    · next y1 y2 l hc _ => exact hfirst (y1, y2) l (fun _ => l) hc rfl
    · next f slot heq =>
      have hdown : (s.port k).down = false := by
        cases hd : (s.port k).down with
        | false => rfl
        | true =>
          rw [hd] at heq
          cases heq
      have hchoose : (s.port k).choose = some (f, slot) := by
        rw [hdown] at heq
        exact heq
      have hmem := choose_mem hchoose
      have hown : OwnQueue k s := hq.resolve_left (by simp [hdown])
      split
      · next y hy _ =>
        obtain ⟨l, hl⟩ := List.head?_eq_some_iff.mp hy
        exact hfirst y l (fun p => p.ctl.drop 1) hl (by rw [hl]; rfl)
      · have hsent : OwnQueue k (s.modPort k fun p => p.sendFlit f slot) := ⟨by
          rw [modPort_port, if_pos rfl]
          exact sendFlit_ownQueue hown.own hmem⟩
        have hctl : ((s.modPort k fun p => p.sendFlit f slot).port k).ctl = (s.port k).ctl := by
          rw [modPort_port, if_pos rfl]
          rfl
        have hless : ((s.modPort k fun p => p.sendFlit f slot).port k).waiting ≤ n := by
          have hlt := sendFlit_flits (slot := slot) hown.own hmem
          rw [waiting_eq] at hn ⊢
          rw [hctl, modPort_port, if_pos rfl]
          omega
        rw [if_pos (hown.own f hmem).1]
        split
        · exact ih (.inr hsent) (by rw [hctl]; exact hx) hless (modPort_keeps _ _ hk)
        · exact ih (.inr (hsent.emit _)) (by rw [← hctl] at hx; exact hx) hless (emit_keeps _ (modPort_keeps _ _ hk))
/-- A control flit that a station sends leaves at once, when no transit frame waits at the port. -/
theorem control_sends (code data : Nat) (hq : (s.port k).down = true ∨ OwnQueue k s) (hk : Keeps false s0 s) :
    Emits s0 (s.control k code data) (.flit (k / 4) (k % 4) code data) := by
  have hport : (s.modPort k fun p => { p with ctl := p.ctl ++ [(code, data)] }).port k = { s.port k with ctl := (s.port k).ctl ++ [(code, data)] } :=
    (modPort_port ..).trans (if_pos rfl)
  have hfirst : Emits s0 (State.servePort ((s.modPort k fun p => { p with ctl := p.ctl ++ [(code, data)] }).port k).waiting
      (s.modPort k fun p => { p with ctl := p.ctl ++ [(code, data)] }) k) (.flit (k / 4) (k % 4) code data) := by
    refine servePort_sends (x := (code, data)) _ ?_ (by rw [hport]; simp) (le_refl _) (modPort_keeps _ _ hk)
    rw [hport]
    exact hq.imp id fun h => h.of_queue fun _ => rfl
  exact hfirst.of_keeps (servePort_keeps _ _ (.refl false _))

end
end Sys2Proof.Machine
end

section
/-! SUPPORT. Frames in transit, flits that return credit, and a link that goes down (R352-R370). -/

namespace Sys2Proof.Machine

section
variable {s s0 t : State} {k : Nat}

/-! ### A frame that leaves at once (R358, R359) -/

/-- Every class but FC0 has its turn in a round of 8 flits. -/
theorem exists_slotClass (slot : Nat) {c : Nat} (h0 : c ≠ 0) (h4 : c < 4) : ∃ j < 8, slotClass (slot + j) = c := by
  obtain rfl | rfl | rfl : c = 1 ∨ c = 2 ∨ c = 3 := by omega
  · exact ⟨(8 - slot % 8) % 8, by omega, if_pos (by omega)⟩
  · exact ⟨(12 - slot % 8) % 8, by omega, (if_neg (by omega)).trans (if_pos (by omega))⟩
  · exact ⟨(14 - slot % 8) % 8, by omega, (if_neg (by omega)).trans (if_neg (by omega))⟩
/-- The only frame at a port is sent when it is under way or the next buffer has credit for it. -/
theorem choose_single {p : Port} {f : FeltFrame} (hq : p.queue = [f]) (hown : f.own = false) (hcls : f.cls < 4)
    (h : f.left ≠ f.words.length ∨ f.words.length ≤ p.credit f.cls) : ∃ slot, p.choose = some (f, slot) := by
  have hnext : p.nextFrame f.cls = some f := by
    unfold Port.nextFrame
    rw [hq]
    by_cases hl : f.left = f.words.length
    · have hfit : p.fits f = true := by
        unfold Port.fits
        rw [hown]
        simpa using h.resolve_left (by simp [hl])
      simp [hl, hown, Option.filter, hfit]
    · simp [hl]
  have hother (c : Nat) (hc : c ≠ f.cls) : p.nextFrame c = none := by
    unfold Port.nextFrame
    rw [hq]
    simp [Ne.symm hc]
  unfold Port.choose
  by_cases h0 : f.cls = 0
  · rw [← h0, hnext]
    exact ⟨_, rfl⟩
  · rw [hother 0 (Ne.symm h0)]
    dsimp only
    cases hr : ((List.range 8).map (p.slot + ·)).findSome? fun k => (p.nextFrame (slotClass k)).map fun f => (f, (k + 1) % 8) with
    | none =>
      obtain ⟨j, hj, hc⟩ := exists_slotClass p.slot h0 hcls
      have hn := List.findSome?_eq_none_iff.mp hr (p.slot + j) (List.mem_map.mpr ⟨j, List.mem_range.mpr hj, rfl⟩)
      rw [hc, hnext] at hn
      cases hn
    | some x =>
      obtain ⟨j, -, hj⟩ := List.exists_of_findSome?_eq_some hr
      by_cases hc : slotClass j = f.cls
      · rw [hc, hnext] at hj
        cases hj
        exact ⟨_, rfl⟩
      · rw [hother _ hc] at hj
        cases hj
/-- A port that sends one flit of a frame, with no control flit waiting. -/
theorem servePort_succ {n slot : Nat} {f : FeltFrame} (hctl : (s.port k).ctl = []) (hdown : (s.port k).down = false)
    (hchoose : (s.port k).choose = some (f, slot)) :
    State.servePort (n + 1) s k = State.servePort n
      (if 1 < f.left then s.modPort k fun p => p.sendFlit f slot
        else if f.own then (s.modPort k fun p => p.sendFlit f slot).emit (.frame (k / 4) (k % 4 / 2) f.cls f.words)
        else ((s.modPort k fun p => p.sendFlit f slot).emit (.frame (k / 4) (k % 4 / 2) f.cls f.words)).modPort (k / 4 * 4 + f.port) fun p =>
          { p with ctl := p.ctl ++ [(1, f.words.length * 2 ^ (18 - 6 * f.cls))] }) k := by
  rw [State.servePort]
  dsimp only
  rw [hctl, hdown, if_neg (by decide), hchoose]
  rfl
/-- A transit frame with credit that is alone at its port leaves whole, and the port that received it gets its credit to return. -/
theorem servePort_frame {f : FeltFrame} (m : Nat) (hdown : (s.port k).down = false) (hctl : (s.port k).ctl = [])
    (hq : (s.port k).queue = [{ f with left := m + 1 }]) (hfit : m + 1 ≠ f.words.length ∨ f.words.length ≤ (s.port k).credit f.cls) (hown : f.own = false)
    (hcls : f.cls < 4) (hr : k / 4 * 4 + f.port ≠ k) (hm : m + 1 ≤ f.words.length) (hk : Keeps false s0 s) :
    Emits s0 (State.servePort (m + 1) s k) (.frame (k / 4) (k % 4 / 2) f.cls f.words) ∧ Keeps false s0 (State.servePort (m + 1) s k) ∧
      (State.servePort (m + 1) s k).port (k / 4 * 4 + f.port) =
        { s.port (k / 4 * 4 + f.port) with ctl := (s.port (k / 4 * 4 + f.port)).ctl ++ [(1, f.words.length * 2 ^ (18 - 6 * f.cls))] } := by
  induction m generalizing s with
  | zero =>
    obtain ⟨slot, hchoose⟩ := choose_single hq hown hcls hfit
    rw [servePort_succ hctl hdown hchoose, if_neg (by simp), if_neg (by simp [hown])]
    refine ⟨?_, ?_, ?_⟩
    · exact (Emits.after_keeps (modPort_keeps _ _ hk) (emits_emit ..)).of_keeps (modPort_keeps _ _ (.refl false _))
    · exact modPort_keeps _ _ (emit_keeps _ (modPort_keeps _ _ hk))
    · change State.port (State.modPort _ _ _) _ = _
      rw [modPort_port, if_pos rfl, emit_port, modPort_port, if_neg hr]
  | succ m ih =>
    obtain ⟨slot, hchoose⟩ := choose_single hq hown hcls hfit
    rw [servePort_succ hctl hdown hchoose, if_pos (by simp)]
    have hport : (s.modPort k fun p => p.sendFlit { f with left := m + 1 + 1 } slot).port k = (s.port k).sendFlit { f with left := m + 1 + 1 } slot :=
      (modPort_port ..).trans (if_pos rfl)
    have hqueue : ((s.port k).sendFlit { f with left := m + 1 + 1 } slot).queue = [{ f with left := m + 1 }] := by
      unfold Port.sendFlit
      rw [hq]
      simp
    have hnext := ih (s := s.modPort k fun p => p.sendFlit { f with left := m + 1 + 1 } slot) (by rw [hport]; exact hdown) (by rw [hport]; exact hctl)
      (by rw [hport]; exact hqueue) (.inl (by omega)) (by omega) (modPort_keeps _ _ hk)
    rw [modPort_port, if_neg hr] at hnext
    exact hnext

/-! ### Credit (R359) -/

/-- A port without frames takes no credit. -/
theorem servePort_credits_empty (n : Nat) (hq : (s.port k).queue = []) : ((State.servePort n s k).port k).credits = (s.port k).credits := by
  have hkept := servePort_holds (s := s) (k := k) (fun u => (u.port k).credits = (s.port k).credits ∧ (u.port k).queue = []) (fun u g o hu => ?_)
    (fun u f slot hu hf => ?_) (fun u o hu => hu) (fun u j x hu => ?_) n ⟨rfl, hq⟩
  · exact hkept.1
  · rw [emit_port, modPort_port, if_pos rfl]
    exact hu
  · rw [choose_of_empty hu.2] at hf
    cases hf
  · rw [modPort_port]
    split
    · next he =>
      subst he
      exact hu
    · exact hu
/-- What one port sends takes no other port's credit. -/
theorem servePort_credits_ne {j : Nat} (n : Nat) (hne : k ≠ j) : ((State.servePort n s j).port k).credits = (s.port k).credits := by
  refine servePort_holds (s := s) (k := j) (fun u => (u.port k).credits = (s.port k).credits) (fun u g o hu => ?_)
    (fun u f slot hu hf => ?_) (fun u o hu => hu) (fun u i x hu => ?_) n rfl
  · rw [emit_port, modPort_port, if_neg hne]
    exact hu
  · rw [modPort_port, if_neg hne]
    exact hu
  · rw [modPort_port]
    split
    · next he =>
      subst he
      exact hu
    · exact hu
theorem serve_credits (hq : (s.port k).queue = []) : ((s.serve k).port k).credits = (s.port k).credits := by
  unfold State.serve
  rw [servePort_credits_ne _ (by omega), servePort_credits_empty _ hq]

/-! ### A link goes down (R368) -/

/-- The first part of a declaration: the port is down, the link broken, and the ring's pending joins are abandoned (Table 11.11). -/
def State.breakLink (s : State) (d port cause : Nat) : State :=
  let t := s.modPort (portKey d port) fun _ =>
    { down := true, errors := [], credits := (48, 64, 64, 64), probe := none, cleanSince := none, downSince := s.reel, cause := cause, tries := 0 }
  let t := each (t.felt.joins.filter fun e => e.1 / 128 == linkOf d port / 128) (fun s e => s.modPort (linkPorts e.1).1 fun p => { p with cleanSince := none }) t
  t.modFelt fun n => { n with broken := insertNat (linkOf d port) n.broken, joins := n.joins.filter fun e => e.1 / 128 != linkOf d port / 128 }
theorem declareDown_eq {d port : Nat} (cause : Nat) (hd : (s.port (portKey d port)).down = false) : s.declareDown d port cause =
    (((((s.breakLink d port cause).discardFrames d (s.port (portKey d port)).queue).control (portKey d port) 5 0).dieRing d 0x25 (linkOf d port)).setRing d
      (linkOf d port / 128) 3).feltSend d 0x11 1 0 [linkOf d port / 128, linkOf d port % 128] := by
  unfold State.declareDown State.breakLink
  dsimp only
  rw [if_neg (by simp [hd])]
theorem breakLink_spec (s : State) (d port cause : Nat) : ((s.breakLink d port cause).port (portKey d port)).down = true ∧
    linkOf d port ∈ (s.breakLink d port cause).felt.broken ∧ (s.breakLink d port cause).dies = s.dies := by
  unfold State.breakLink
  dsimp only
  refine ⟨?_, ?_, ?_⟩
  · refine each_holds (fun u : State => (u.port (portKey d port)).down = true) _ _ _ (fun u e hu => ?_) (by rw [modPort_port, if_pos rfl])
    rw [modPort_port]
    split
    · next he => rw [← he]; exact hu
    · exact hu
  · exact mem_insertNat ..
  · exact each_keeps State.dies _ _ _ fun _ _ => rfl
theorem breakLink_keeps (d port cause : Nat) (hk : Keeps false s0 s) : Keeps false s0 (s.breakLink d port cause) := by
  unfold State.breakLink
  exact modFelt_keeps _ (each_keepsS _ _ (fun _ _ hu => modPort_keeps _ _ hu) (modPort_keeps _ _ hk))
theorem setRing_die (s : State) (d ring v e : Nat) : ∃ a b, (s.setRing d ring v).die e = { s.die e with ring0 := a, ring1 := b } := by
  unfold State.setRing
  rw [modDie_die]
  split
  · next he =>
    subst he
    split
    · exact ⟨_, _, rfl⟩
    · exact ⟨_, _, rfl⟩
  · exact ⟨_, _, rfl⟩
theorem dieRing_die (s : State) (d kind detail e : Nat) : ∃ l, (s.dieRing d kind detail).die e = { s.die e with ring := l } := by
  unfold State.dieRing
  rw [modDie_die]
  split
  · next he =>
    subst he
    exact ⟨_, rfl⟩
  · exact ⟨_, rfl⟩
/-- A station that declares a link down tells its neighbour and every station. -/
theorem declareDown_spec {d port : Nat} (cause : Nat) (hd : (s.port (portKey d port)).down = false) (hk : Keeps false s0 s) :
    ((s.declareDown d port cause).port (portKey d port)).down = true ∧ linkOf d port ∈ (s.declareDown d port cause).felt.broken ∧
      Emits s0 (s.declareDown d port cause) (.flit (portKey d port / 4) (portKey d port % 4) 5 0) ∧
      (∃ x, Emits s0 (s.declareDown d port cause) (.felt x) ∧ x.src = d ∧ x.type = 0x11 ∧ x.mode = 1) ∧
      (∀ e, ((s.declareDown d port cause).die e).first = (s.die e).first) := by
  obtain ⟨hdown, hbroken, hdies⟩ := breakLink_spec s d port cause
  have hbreak := breakLink_keeps d port cause hk
  rw [declareDown_eq cause hd]
  generalize (s.port (portKey d port)).queue = l
  generalize s.breakLink d port cause = u at hdown hbroken hdies hbreak ⊢
  have hlost := (SameLinks.refl u).discardFrames d l
  have hlostk : Keeps false s0 (u.discardFrames d l) := discardFrames_keeps _ _ hbreak
  have hdown' : ((u.discardFrames d l).port (portKey d port)).down = true := (congrArg Prod.fst (hlost.link _)).trans hdown
  have htold := hlost.control (portKey d port) 5 0
  have hflit := control_sends 5 0 (.inl hdown') hlostk
  have htoldk : Keeps false s0 ((u.discardFrames d l).control (portKey d port) 5 0) := control_keeps _ _ _ hlostk
  generalize (u.discardFrames d l).control (portKey d port) 5 0 = w at htold hflit htoldk ⊢
  have hring (x : State) (a b : Nat) : Keeps false x ((x.dieRing d 0x25 a).setRing d b 3) := setRing_keeps _ _ _ (dieRing_keeps _ _ _ (.refl false x))
  refine ⟨?_, ?_, hflit.of_keeps (feltSend_keeps (kp := false) _ _ _ _ _ _ (hring ..)),
    ⟨_, .after_keeps (kp := false) (setRing_keeps _ _ _ (dieRing_keeps _ _ _ htoldk)) (emits_feltSend ..), rfl, rfl, rfl⟩, fun e => ?_⟩
  · exact (congrArg Prod.fst (feltSend_link ..)).trans ((congrArg Prod.fst (htold.link _)).trans hdown)
  · rw [feltSend_felt Felt.broken (fun _ _ _ _ => rfl)]
    exact (htold.ports.felt Felt.broken (fun _ _ => rfl)).symm ▸ hbroken
  · obtain ⟨a, b, hset⟩ := setRing_die (w.dieRing d 0x25 (linkOf d port)) d (linkOf d port / 128) 3 e
    obtain ⟨l', hring'⟩ := dieRing_die w d 0x25 (linkOf d port) e
    rw [die_of_sansBooks (feltSend_sansBooks ..), hset, hring']
    have hw : w.dies = u.dies := by
      obtain ⟨p, o, heq⟩ := htold.ports
      rw [heq]
    exact (show _ = (w.die e).first from rfl).trans (congrArg Die.first (die_of_dies (hw.trans hdies) e))

end
end Sys2Proof.Machine
end

section
/-! SUPPORT. Records, counts, reactions and dies out of use leave the links of the Felt network as they are (R347, R476). -/

namespace Sys2Proof.Machine

/-- From `s` to `t` no link of the Felt network has broken or come back. -/
structure SameNet (s t : State) : Prop where
  broken : t.felt.broken = s.felt.broken
  link : ∀ k, (t.port k).link = (s.port k).link

section
variable {s t : State}

namespace SameNet

theorem refl (s : State) : SameNet s s := ⟨rfl, fun _ => rfl⟩
theorem trans {u : State} (h1 : SameNet s t) (h2 : SameNet t u) : SameNet s u := ⟨h2.broken.trans h1.broken, fun k => (h2.link k).trans (h1.link k)⟩
theorem of_felt {u : State} (h : SameNet s t) (hu : u.felt = t.felt) : SameNet s u :=
  by
  refine h.trans ⟨congrArg Felt.broken hu, fun k => ?_⟩
  change (tget {} u.felt.ports k).link = (tget {} t.felt.ports k).link
  rw [hu]
theorem ite {c : Prop} [Decidable c] {x y : State} (h1 : SameNet s x) (h2 : SameNet s y) : SameNet s (if c then x else y) := by
  split
  · exact h1
  · exact h2
theorem each {α : Type} {l : List α} {f : State → α → State} (h : SameNet s t) (hf : ∀ u x, SameNet s u → SameNet s (f u x)) :
    SameNet s (Machine.each l f t) := each_holds (SameNet s) l f t hf h
theorem modVat (v : Hub) (f : Vat → Vat) (h : SameNet s t) : SameNet s (t.modVat v f) := h.of_felt (by cases v <;> rfl)
theorem feltSend (src ty mode dst : Nat) (words : List Nat) (ring : Option Nat) (h : SameNet s t) : SameNet s (t.feltSend src ty mode dst words ring) :=
  h.trans ⟨feltSend_felt Felt.broken (fun _ _ _ _ => rfl) .., feltSend_link t src ty mode dst words ring⟩
theorem mirror (h : SameNet s t) : SameNet s t.mirror := by
  unfold State.mirror
  split
  · exact h
  · dsimp only
    split
    · exact h.of_felt rfl
    · exact feltSend _ _ _ _ _ _ (h.of_felt rfl)
theorem postInt (src : Nat) (h : SameNet s t) : SameNet s (t.postInt src) := ite h (h.of_felt rfl)
theorem bump (src m reel : Nat) (h : SameNet s t) : SameNet s (t.bump src m reel).1 := by
  unfold State.bump
  split
  · exact h
  · exact mirror (h.of_felt rfl)
theorem sendMgmt (n : Note) (h : SameNet s t) : SameNet s (t.sendMgmt n) := by
  unfold State.sendMgmt
  dsimp only
  split
  · exact h.of_felt rfl
  · exact ite (h.of_felt rfl) (ite (feltSend _ _ _ _ _ _ (h.of_felt rfl)) (h.of_felt rfl))
theorem sendNote (r : Rec) (held : Nat) (h : SameNet s t) : SameNet s (t.sendNote r held) := by
  unfold State.sendNote State.sendI3c
  exact of_felt (sendMgmt _ (of_felt h (u := t.modSh fun h => { h with noteNext := (h.noteNext + 1) % 2 ^ 32 }) rfl)) rfl
theorem notify (r : Rec) (h : SameNet s t) : SameNet s (t.notify r) := by
  unfold State.notify
  split
  · exact ite (h.of_felt rfl) (sendNote _ _ (h.of_felt rfl))
  · exact sendNote _ _ (h.of_felt rfl)
theorem written (r : Rec) (h : SameNet s t) : SameNet s (t.written r) := ite (h.notify r) h
theorem dropRec (v : Hub) (r : Rec) (h : SameNet s t) : SameNet s (t.dropRec v r) := by
  unfold State.dropRec
  dsimp only
  have hbump := (h.modVat v fun x => { x with lost := x.lost + 1, lostFirst := if x.lost = 0 then r.seq else x.lostFirst })
  exact ite (ite ((hbump.bump ..).postInt _) (hbump.bump ..)) (of_felt (ite ((hbump.bump ..).postInt _) (hbump.bump ..)) rfl)
theorem hubEnter (v : Hub) (r : Rec) (h : SameNet s t) : SameNet s (t.hubEnter v r) := by
  unfold State.hubEnter State.stage
  dsimp only
  refine ite (h.modVat ..) (ite (h.modVat ..) (ite (h.dropRec ..) ?_))
  split
  · exact (h.modVat ..).dropRec ..
  · exact h.dropRec ..
theorem recordAt (code severity source reel : Nat) (unaligned : Bool) (p1 p2 p3 : Nat) (h : SameNet s t) :
    SameNet s (t.recordAt code severity source reel unaligned p1 p2 p3) := by
  unfold State.recordAt
  dsimp only
  split
  · exact h.of_felt rfl
  · unfold State.enterRec
    dsimp only
    have henter (r : Rec) := hubEnter .b r (hubEnter .a r (mirror (of_felt h (u := t.modSh fun h => { h with recSeq := (h.recSeq + 1) % 2 ^ 32 }) rfl)))
    exact ite ((henter _).written _) (henter _)
theorem record (code severity source p1 p2 p3 : Nat) (h : SameNet s t) : SameNet s (t.record code severity source p1 p2 p3) := h.recordAt ..
theorem setPin (src : Nat) (h : SameNet s t) : SameNet s (t.setPin src) := by
  unfold State.setPin State.mramWrite
  exact ite h (record _ _ _ _ _ _ (modVat _ _ (modVat _ _ (of_felt h (u := t.modSh fun h => { h with pins := insertNat src h.pins }) rfl))))
theorem firstStage (d src : Nat) (l : List Detail) (h : SameNet s t) : SameNet s (t.firstStage d src l) := ite h (h.of_felt rfl)
theorem stopSlice (src : Nat) (h : SameNet s t) : SameNet s (t.stopSlice src) := stopSlice_cases (P := SameNet s) src h fun _ => h.of_felt rfl
theorem sendNmi (d src : Nat) (h : SameNet s t) : SameNet s (t.sendNmi d src) := by
  unfold State.sendNmi State.countLater
  refine h.each fun u p hu => ?_
  dsimp only
  have hfirst := (hu.feltSend d 0x0E 2 p [src] none).firstStage d (partSource p 1) [default]
  generalize (u.feltSend d 0x0E 2 p [src] none).firstStage d (partSource p 1) [default] = w at hfirst ⊢
  exact ite hfirst (hfirst.of_felt rfl)
theorem toVat (d ty : Nat) (w : List Nat) (h : SameNet s t) : SameNet s (t.toVat d ty w) := by
  unfold State.toVat
  split
  · exact h.of_felt rfl
  · exact h.feltSend ..
theorem forwardFirst (d : Nat) (h : SameNet s t) : SameNet s (t.forwardFirst d) := ite h (toVat _ _ _ (h.of_felt rfl))
theorem tapRing (p kind detail : Nat) (h : SameNet s t) : SameNet s (t.tapRing p kind detail) := ite h (h.of_felt rfl)
theorem holdDie (d key kind : Nat) (h : SameNet s t) : SameNet s (t.holdDie d key kind) := by
  have hring (u : State) (hu : SameNet s u) (p : Nat) : SameNet s (u.ringHold p key true) :=
    ite (hu.tapRing ..) (hu.tapRing ..)
  have hregion (u : State) (hu : SameNet s u) : SameNet s (u.holdRegion (dieRegion d) key kind) := by
    unfold State.holdRegion
    split
    · exact hu.of_felt rfl
    · exact ite hu (hu.of_felt rfl)
  unfold State.holdDie
  exact ite h (ite h (hregion _ (h.each fun u p hu => hring u hu p)))
/-- A reset of a die's agent touches no link (R282). -/
theorem beginDieReset (target source : Nat) (h : SameNet s t) : SameNet s (t.beginReset 2 target source) := by
  unfold State.beginReset
  exact ite h (holdDie _ _ _ (h.of_felt rfl))
/-- A die that is out of use is counted as failed, and its Vat is held out (R476). -/
theorem agentOut (d test : Nat) (hd : d < 100) (h : SameNet s t) : SameNet s (t.agentOut d test) := by
  have hsrc : sourceDie (dieSource d 7) = d := by simp only [sourceDie, dieSource]; omega
  have hlow : dieSource d 7 % 8192 = 7495 := by simp only [dieSource]; omega
  have hclass : classOf (dieSource d 7) = some 71 := by simp [classOf, hsrc, hlow, hd]
  have hblk (u : State) (hu : SameNet s u) : SameNet s (u.takeBlk (dieSource d 7)) := by
    unfold State.takeBlk
    rw [hclass]
    unfold State.requestReset
    dsimp only
    rw [if_neg (by decide), if_neg (by decide), if_pos (by decide), if_neg (by simp)]
    exact hu.beginDieReset ..
  have hreact (u : State) (m : Nat) (hu : SameNet s u) : SameNet s (u.agentReact d (dieSource d 7) m) := by
    unfold State.agentReact
    dsimp only
    have hnmi := ite (c := bit m 3 = true) (hu.sendNmi d (dieSource d 7)) hu
    have hpin := ite (c := bit m 0 = true) (hnmi.setPin (dieSource d 7)) hnmi
    exact ite (hblk _ hpin) hpin
  have hblock : SameNet s ((t.modDie d fun k => { k with bist := some false }).bistBlock (dieSource d 7) 1 d test) := by
    have hrec := record 0x0F02 3 (dieSource d 7) (1 * 2 ^ 16 + d) test t.pkg.pcycle (of_felt h (u := t.modDie d fun k => { k with bist := some false }) rfl)
    unfold State.bistBlock State.agentCount
    rw [hclass, hsrc]
    have hfirst := (hrec.stopSlice (dieSource d 7)).firstStage d (dieSource d 7) [default]
    exact hreact _ _ (ite (hfirst.forwardFirst d) hfirst)
  unfold State.agentOut
  dsimp only
  refine ite (hblock.of_felt rfl) ?_
  split
  · exact hblock.modVat ..
  · exact hblock
theorem dropCutOff (h : SameNet s t) : SameNet s t.dropCutOff := by
  unfold State.dropCutOff
  refine ite h ?_
  refine List.foldlRecOn _ _ h fun u hu d hd => hu.agentOut d 0 ?_
  exact List.mem_range.mp (List.mem_of_mem_filter hd)

end SameNet

end
end Sys2Proof.Machine
end

section
/-! SUPPORT. What the events of the Felt links do (R352-R370, R380). -/

namespace Sys2Proof.Machine

section
variable {s s0 t : State} {d port : Nat}

theorem fields_of_link {p q : Port} (h : p.link = q.link) : p.down = q.down ∧ p.errors = q.errors ∧ p.probe = q.probe := by
  unfold Port.link at h
  simp only [Prod.mk.injEq] at h
  exact ⟨h.1, h.2.1, h.2.2.1⟩
theorem portKey_lt {port : Nat} (d : Nat) (h : port < 4) : portKey d port = d * 4 + port := by rw [portKey, Nat.mod_eq_of_lt h]
theorem portKey_div {port : Nat} (d : Nat) (h : port < 4) : portKey d port / 4 = d := by rw [portKey_lt d h]; omega
theorem portKey_mod {port : Nat} (d : Nat) (h : port < 4) : portKey d port % 4 = port := by rw [portKey_lt d h]; omega
/-- A link error of a port: what it leaves, and whether the link goes down (R352, R368). -/
theorem linkError_eq (hc : s.calm (dieSource d (10 + port % 4 / 2))) : ∃ l, s.agentCount d (dieSource d (10 + port % 4 / 2)) default = { s with dies := l } ∧
    s.linkError d port =
      (let e := (s.reel :: (s.port (portKey d port)).errors).take 4
       let u := (s.agentCount d (dieSource d (10 + port % 4 / 2)) default).modPort (portKey d port) fun p => { p with errors := e }
       if e.length = 4 && decide (s.reel ≤ e.getD 3 0 + 100000) then u.declareDown d port 1 else u) := by
  obtain ⟨l, hl⟩ := agentCount_dies hc d default
  refine ⟨l, hl, ?_⟩
  unfold State.linkError
  rw [hl]
  rfl

theorem readFlit_cls {x c v : Nat} {a b : Bool} (h : readFlit x = .frame c a b v) : c < 4 := by
  unfold readFlit at h
  dsimp only at h
  split at h
  · cases h
  · split at h
    · split at h
      · cases h
      · cases h
    · cases h
      exact Nat.mod_lt _ (by decide)
/-- A frame that checks is of one of the four classes, and is sent on with as many flits (R355, R361). -/
theorem readFrame_some {flits : List Nat} {f : FrameIn} (h : readFrame flits = some f) : f.cls < 4 ∧ f.forward.length = flits.length ∧ 3 ≤ flits.length := by
  unfold readFrame at h
  obtain ⟨hok, heq⟩ := Option.ite_none_right_eq_some.mp h
  simp only [Bool.and_eq_true, decide_eq_true_eq, List.length_map] at hok
  obtain ⟨⟨⟨⟨-, hlong⟩, -⟩, -⟩, -⟩ := hok
  cases heq
  refine ⟨?_, ?_, hlong⟩
  · dsimp only
    split
    · next c a b v hc =>
      rw [List.head?_map] at hc
      obtain ⟨x, -, hx⟩ := Option.map_eq_some_iff.mp hc
      exact readFlit_cls hx
    · omega
  · simp [FrameIn.forward]
    omega
/-- The two ports of a ring at a station. -/
theorem otherPort (hp : port < 4) : portKey d (port / 2 * 2 + (port + 1) % 2) / 2 * 2 + (portKey d (port / 2 * 2 + (port + 1) % 2) + 1) % 2 = portKey d port ∧
    portKey d (port / 2 * 2 + (port + 1) % 2) / 4 = d ∧ portKey d (port / 2 * 2 + (port + 1) % 2) % 4 / 2 = port / 2 ∧
    portKey d port ≠ portKey d (port / 2 * 2 + (port + 1) % 2) := by
  rw [portKey_lt d hp, portKey_lt d (show port / 2 * 2 + (port + 1) % 2 < 4 by omega)]
  omega
/-- A segment taken is part of a transaction until its last one comes (R356). -/
theorem takeSegment_partial (s : State) (d : Nat) (f : FrameIn) : (d, f.src, f.cls, f.seq) ∈ (s.takeSegment d f).felt.partialTxns ↔ f.last = false := by
  change (d, f.src, f.cls, f.seq) ∈ (if f.last then _ else if _ then _ else _) ↔ _
  cases f.last with
  | true => simp
  | false =>
    simp only [Bool.false_eq_true, if_false, iff_true]
    split
    · next h => exact List.contains_iff_mem.mp h
    · simp
/-- A control flit of a station's port. -/
theorem control_flit {code data : Nat} (hp : port < 4) (hq : (s.port (portKey d port)).down = true ∨ (s.port (portKey d port)).queue = [])
    (hk : Keeps false s0 s) :
    Emits s0 (s.control (portKey d port) code data) (.flit d port code data) := by
  have hsent := control_sends (k := portKey d port) code data (hq.imp id fun h => ⟨by simp [h]⟩) hk
  rwa [portKey_div d hp, portKey_mod d hp] at hsent
/-- A port that goes down changes no Vat's role. -/
theorem declareDown_role (s : State) (d port cause : Nat) (v : Hub) : ((s.declareDown d port cause).vat v).role = (s.vat v).role := by
  by_cases hd : (s.port (portKey d port)).down = true
  · rw [State.declareDown, if_pos hd]
  · have hbreak : (s.breakLink d port cause).sansBooks = s.sansBooks := (modFelt_sansBooks ..).trans (each_sansBooks _ _ _ fun _ _ => rfl)
    have hlost (l : List FeltFrame) : ((s.breakLink d port cause).discardFrames d l).sansBooks = s.sansBooks :=
      (each_sansBooks _ _ _ fun _ _ => control_sansBooks ..).trans hbreak
    rw [declareDown_eq cause (by simpa using hd)]
    have hrole := vatField_of_sansBooks Vat.role (fun _ => rfl) ((control_sansBooks _ (portKey d port) 5 0).trans (hlost (s.port (portKey d port)).queue)) v
    generalize ((s.breakLink d port cause).discardFrames d (s.port (portKey d port)).queue).control (portKey d port) 5 0 = u at hrole ⊢
    have hring : (((u.dieRing d 0x25 (linkOf d port)).setRing d (linkOf d port / 128) 3).vat v) = u.vat v := by cases v <;> rfl
    generalize (u.dieRing d 0x25 (linkOf d port)).setRing d (linkOf d port / 128) 3 = w at hring ⊢
    rw [vatField_of_sansBooks Vat.role (fun _ => rfl) (feltSend_sansBooks w d 0x11 1 0 _ none) v, hring, hrole]
theorem activeHub_of_roles (h : ∀ v, (t.vat v).role = (s.vat v).role) : t.activeHub = s.activeHub := by
  have ha : t.vatA.role = s.vatA.role := h .a
  have hb : t.vatB.role = s.vatB.role := h .b
  rw [State.activeHub, State.activeHub, ha, hb]
theorem calm_of_sansBooks {src : Nat} (h : t.sansBooks = s.sansBooks) (hc : s.calm src) : t.calm src := by
  obtain ⟨key, hkey, heach⟩ := (calm_iff src).mp hc
  exact (calm_iff src).mpr ⟨key, hkey, (cfg_of_sansBooks h key).symm ▸ heach⟩
/-- A block that fails its test is recorded and counted at its die (R481). -/
theorem bistBlock_spec {x k : Nat} (block ident test : Nat) (hc : s.calm x) (hin : (s.die (sourceDie x)).inReset = false) :
    (((s.bistBlock x block ident test).port k).down = (s.port k).down) ∧ Keeps false s (s.bistBlock x block ident test) ∧
      (s.bistBlock x block ident test).firstCount (sourceDie x) x = min 255 (s.firstCount (sourceDie x) x + 1) ∧
      (s.bistBlock x block ident test).activeHub = s.activeHub := by
  have hsame : SameNet s (s.record 0x0F02 3 x (block * 2 ^ 16 + ident) test s.pkg.pcycle) := (SameNet.refl s).record ..
  have hkeeps : Keeps false s (s.record 0x0F02 3 x (block * 2 ^ 16 + ident) test s.pkg.pcycle) := record_keeps _ _ _ _ _ _ (.refl false s)
  have hbooks := record_sansBooks s 0x0F02 3 x (block * 2 ^ 16 + ident) test s.pkg.pcycle
  unfold State.bistBlock
  generalize s.record 0x0F02 3 x (block * 2 ^ 16 + ident) test s.pkg.pcycle = u at hsame hkeeps hbooks ⊢
  have hcalm := calm_of_sansBooks hbooks hc
  have hdies : u.dies = s.dies := dies_of_sansBooks hbooks
  obtain ⟨l, hl⟩ := agentCount_dies hcalm (sourceDie x) default
  refine ⟨?_, agentCount_keeps _ _ _ hkeeps, ?_, activeHub_of_roles fun v => ?_⟩
  · rw [hl]
    exact (fields_of_link (hsame.link k)).1
  · rw [firstCount_agentCount hcalm _ default ((die_of_dies hdies _).symm ▸ hin), State.firstCount, die_of_dies hdies]
    rfl
  · rw [hl]
    exact vatField_of_sansBooks Vat.role (fun _ => rfl) hbooks v

end

/-- Settles O45. -/
theorem linkEventsComplete : Obligations.LinkEventsComplete := by
  refine ⟨fun s d port flits hd hp hf hb =>
      ⟨fun f hr hq hctl => ⟨fun hm hdst => ?_, fun o ho hm hdst httl hdown hoq hoctl hcredit => ?_⟩, fun hr hc hin he => ?_⟩,
    fun s d port a b c hd hp hcalm he hreel hdown => ?_, fun s d port n a b c e hd hp hcr hq => ?_, fun s d port v hd hp hq => ⟨?_, ?_⟩,
    fun s d port hd hp hdown => ?_, fun s d port v c hd hp heven hdown hprobe hclean hlong hjoin => ?_,
    fun s d port hd hp hdown => ⟨?_, ?_, fun hc hin => ?_, ?_, fun n e hr hbad hc hin => ?_⟩, fun s d port flits hd hp hf hb => ?_⟩
  · have hmine : s.frameTarget d f = true := by
      unfold State.frameTarget
      rw [if_pos hm]
      simp [hdst]
    have hexec : exec (.transitFrame d port flits) s = .next (State.returnCredit
        (if f.last && !knownTypes.contains (bits f.w0 24 8) then (s.takeSegment d f).ack d f.src (bits f.w0 24 8) f.seq 3 else s.takeSegment d f)
        d port f.cls flits.length) := by
      refine (guardId_of_true (by simpa [hd, hp] using hf)).trans ?_
      rw [if_neg hb, hr]
      simp only [hmine, hm, if_true, Bool.true_and, Bool.not_true, Bool.or_false, ne_eq, not_true_eq_false, decide_false, Bool.false_and, Bool.and_false,
        Bool.false_eq_true, if_false]
    have hown : OwnQueue (portKey d port) (s.takeSegment d f) := ⟨by
      rw [show (s.takeSegment d f).port (portKey d port) = s.port (portKey d port) from rfl, hq]
      exact fun _ h => nomatch h⟩
    have hpartial := takeSegment_partial s d f
    have hk : Keeps false s (s.takeSegment d f) := takeSegment_keeps _ _ (.refl false s)
    refine ⟨_, hexec, ?_⟩
    dsimp only
    generalize s.takeSegment d f = u at hown hpartial hk ⊢
    have hlast {w : State} (hw : OwnQueue (portKey d port) w) (hu : OnlyPorts u w) (hkw : Keeps false s w) :
        Emits s (w.returnCredit d port f.cls flits.length) (.flit d port 1 (flits.length * 2 ^ (18 - 6 * f.cls))) ∧
          ((d, f.src, f.cls, f.seq) ∈ (w.returnCredit d port f.cls flits.length).felt.partialTxns ↔ f.last = false) := by
      refine ⟨?_, ?_⟩
      · have hsent := control_sends 1 (flits.length * 2 ^ (18 - 6 * f.cls)) (.inr hw) hkw
        rwa [portKey_div d hp, portKey_mod d hp] at hsent
      · rw [State.returnCredit, (hu.control _ _ _).felt Felt.partialTxns (fun _ _ => rfl)]
        exact hpartial
    split
    · exact hlast (hown.ack ..) (((OnlyPorts.refl u).inject _).emit _) (ack_keeps _ _ _ _ _ hk)
    · exact hlast hown (.refl u) hk
  · have hmine : s.frameTarget d f = false := by
      unfold State.frameTarget
      rw [if_pos hm]
      simp [hdst]
    obtain ⟨hcls, hlen, hthree⟩ := readFrame_some hr
    obtain ⟨hback, hdiv, hring, hne⟩ := otherPort (d := d) hp
    rw [← ho] at hback hdiv hring hne
    have hexec : exec (.transitFrame d port flits) s = .next (s.enqueue o
        [{ cls := f.cls, own := false, port := port, words := f.forward, left := flits.length }]) := by
      refine (guardId_of_true (by simpa [hd, hp] using hf)).trans ?_
      rw [if_neg hb, hr, ho]
      simp [hmine, httl]
    refine ⟨_, hexec, ?_⟩
    dsimp only
    unfold State.enqueue
    rw [if_neg (by simp [hdown])]
    have hport : (s.modPort o fun p => { p with queue := p.queue ++
        [{ cls := f.cls, own := false, port := port, words := f.forward, left := flits.length }] }).port o =
        { s.port o with queue := [{ cls := f.cls, own := false, port := port, words := f.forward, left := flits.length }] } := by
      rw [modPort_port, if_pos rfl, hoq]
      rfl
    have hkept : (s.modPort o fun p => { p with queue := p.queue ++
        [{ cls := f.cls, own := false, port := port, words := f.forward, left := flits.length }] }).port (portKey d port) = s.port (portKey d port) := by
      rw [modPort_port, if_neg hne]
    have hk : Keeps false s (s.modPort o fun p => { p with queue := p.queue ++
        [{ cls := f.cls, own := false, port := port, words := f.forward, left := flits.length }] }) := modPort_keeps _ _ (.refl false s)
    generalize (s.modPort o fun p => { p with queue := p.queue ++
        [{ cls := f.cls, own := false, port := port, words := f.forward, left := flits.length }] }) = u at hport hkept hk ⊢
    have hwait : (u.port o).waiting = flits.length - 1 + 1 := by
      rw [waiting_eq, hport, Port.flits]
      simp [hoctl]
      omega
    have hreceived : o / 4 * 4 + port = portKey d port := by rw [hdiv, portKey_lt d hp]
    obtain ⟨hframe, hkf, hctlf⟩ := servePort_frame (s := u) (k := o) (s0 := s)
      (f := { cls := f.cls, own := false, port := port, words := f.forward, left := flits.length }) (flits.length - 1)
      (by rw [hport]; exact hdown) (by rw [hport]; exact hoctl) (by rw [hport]; simp; omega) (.inr (by rw [hport]; exact le_of_eq_of_le hlen hcredit)) rfl hcls
      (by dsimp only; rw [hreceived]; exact hne) (by dsimp only; omega) hk
    dsimp only at hframe hctlf
    rw [hreceived, hkept] at hctlf
    rw [hdiv, hring] at hframe
    unfold State.serve
    dsimp only
    rw [hwait, hback]
    refine ⟨hframe.of_keeps (servePort_keeps _ _ (.refl false _)), ?_⟩
    generalize State.servePort (flits.length - 1 + 1) u o = w at hctlf hkf ⊢
    have hsent := servePort_sends (x := (1, f.forward.length * 2 ^ (18 - 6 * f.cls))) (w.port (portKey d port)).waiting
      (.inr ⟨by rw [hctlf]; simp [hq]⟩) (by rw [hctlf]; simp) (le_refl _) hkf
    rwa [portKey_div d hp, portKey_mod d hp, hlen] at hsent
  · have hmod : port % 4 / 2 = port / 2 := by rw [Nat.mod_eq_of_lt hp]
    obtain ⟨l, hcount, herror⟩ := linkError_eq (d := d) (port := port) (by rw [hmod]; exact hc)
    have hexec : exec (.transitFrame d port flits) s = .next ((s.linkError d port).returnCredit d port (bits (flits.headD 0) 38 2)
        (min flits.length (largestFrame (bits (flits.headD 0) 38 2)))) := by
      refine (guardId_of_true (by simpa [hd, hp] using hf)).trans ?_
      rw [if_neg hb, hr]
    refine ⟨_, hexec, ?_⟩
    have hlink : s.linkError d port = (s.agentCount d (dieSource d (10 + port / 2)) default).modPort (portKey d port) fun p => { p with errors := [s.reel] } := by
      rw [herror, he, hmod]
      rfl
    dsimp only
    rw [hlink]
    have hfirst := firstCount_agentCount hc d default hin
    rw [hmod] at hcount
    refine ⟨?_, ?_⟩
    · obtain ⟨-, herrors, -⟩ := fields_of_link (((SameLinks.refl ((s.agentCount d (dieSource d (10 + port / 2)) default).modPort (portKey d port)
        fun p => { p with errors := [s.reel] })).control (portKey d port) 1 (min flits.length (largestFrame (bits (flits.headD 0) 38 2)) *
          2 ^ (18 - 6 * bits (flits.headD 0) 38 2))).link (portKey d port))
      rw [State.returnCredit, herrors, modPort_port, if_pos rfl]
    · rw [← hfirst]
      obtain ⟨p, o, heq⟩ := (OnlyPorts.refl ((s.agentCount d (dieSource d (10 + port / 2)) default).modPort (portKey d port)
        fun p => { p with errors := [s.reel] })).control (portKey d port) 1 (min flits.length (largestFrame (bits (flits.headD 0) 38 2)) *
          2 ^ (18 - 6 * bits (flits.headD 0) 38 2))
      rw [State.returnCredit, heq]
      rfl
  · have hmod : port % 4 / 2 = port / 2 := by rw [Nat.mod_eq_of_lt hp]
    obtain ⟨l, hcount, herror⟩ := linkError_eq (d := d) (port := port) (by rw [hmod]; exact hcalm)
    rw [hmod, he] at herror
    rw [hmod] at hcount
    rw [hcount] at herror
    have hexec : exec (.feltSpacerTimeout d port) s = .next (State.declareDown (({ s with dies := l } : State).modPort (portKey d port) fun p =>
        { p with errors := [s.reel, a, b, c] }) d port 1) := by
      refine (guardId_of_true (by simp [hd, hp])).trans ?_
      rw [herror]
      simp [hreel]
    have hk : Keeps false s (({ s with dies := l } : State).modPort (portKey d port) fun p => { p with errors := [s.reel, a, b, c] }) :=
      modPort_keeps _ _ (hcount ▸ agentCount_keeps _ _ _ (.refl false s))
    obtain ⟨hdown', hbroken, -, hbreak, -⟩ := declareDown_spec (d := d) (port := port) 1 (by rw [modPort_port, if_pos rfl]; exact hdown) hk
    exact ⟨_, hexec, hdown', hbroken, hbreak⟩
  · have hexec : exec (.credit d port n) s = .next ((s.modPort (portKey d port) fun p =>
        { p with credits := (min 48 (p.credits.1 + bits n 18 6), min 64 (p.credits.2.1 + bits n 12 6), min 64 (p.credits.2.2.1 + bits n 6 6),
                             min 64 (p.credits.2.2.2 + bits n 0 6)) }).serve (portKey d port)) := guardId_of_true (by simp [hd, hp])
    refine ⟨_, hexec, ?_⟩
    dsimp only
    rw [serve_credits (by rw [modPort_port, if_pos rfl]; exact hq), modPort_port, if_pos rfl, hcr]
  · exact ⟨_, guardId_of_true (by simp [hd, hp]), control_flit hp hq (.refl false s)⟩
  · exact ⟨_, guardId_of_true (by simp [hd, hp]), control_flit hp hq (.refl false s)⟩
  · refine ⟨_, guardId_of_true (by simp [hd, hp]), ?_⟩
    dsimp only
    rw [if_pos hdown]
    generalize Config.probeValue s.fresh % 2 ^ 24 = v
    refine ⟨v, ?_, ?_⟩
    · obtain ⟨-, -, hprobe⟩ := fields_of_link (((SameLinks.refl _).control _ _ _).link _)
      rw [hprobe, modPort_port, if_pos rfl]
    · refine control_flit hp (.inl ?_) (modPort_keeps _ _ (draw_keeps (.refl false s)))
      rw [modPort_port, if_pos rfl]
      exact hdown
  · refine ⟨_, guardId_of_true (by simp [hd, hp]), ?_⟩
    dsimp only
    rw [if_neg (by simp [hdown, hprobe]), if_neg (by simp [hprobe]), hclean]
    dsimp only [Option.getD_some]
    rw [if_pos (by
      simp only [Bool.and_eq_true, decide_eq_true_eq]
      exact ⟨⟨heven, hlong⟩, Option.isNone_iff_eq_none.mpr hjoin⟩)]
    refine ⟨?_, _, .after_keeps (kp := false) (modFelt_keeps _ (modPort_keeps _ _ (.refl false s))) (emits_feltSend ..), rfl, rfl, rfl⟩
    rw [feltSend_felt Felt.joins (fun _ _ _ _ => rfl)]
    simp [State.modFelt, dieReel_of_sansBooks (modPort_sansBooks ..)]
  · obtain ⟨hdown', -, hflit, -⟩ := declareDown_spec 2 hdown (.refl false s)
    rw [portKey_div d hp, portKey_mod d hp] at hflit
    exact ⟨_, guardId_of_true (by simp [hd, hp]), hdown', hflit⟩
  · obtain ⟨hdown', hbroken, -⟩ := declareDown_spec 3 hdown (.refl false s)
    exact ⟨_, guardId_of_true (by simp [hd, hp]), hdown', hbroken⟩
  · obtain ⟨l, hl⟩ := agentCount_dies hc d default
    have hdown' : ((s.agentCount d (dieSource d 12) default).port (portKey d port)).down = false := by rw [hl]; exact hdown
    obtain ⟨hfallen, -, -, -, hfirst⟩ := declareDown_spec 0 hdown' (agentCount_keeps _ _ _ (.refl false s))
    refine ⟨_, guardId_of_true (by simp [hd, hp]), hfallen, ?_⟩
    rw [← firstCount_agentCount hc d default hin, State.firstCount, hfirst]
    rfl
  · exact ⟨_, guardId_of_true (by simp [hd, hp]), by simp⟩
  · have hexec : exec (.feltLinkQualDone d port n e) s =
        .next (((s.bistBlock (dieSource d (10 + port / 2)) 2 (linkOf d port % 128) 0).declareDown d port 1).dropCutOff) := by
      refine (guardId_of_true (by simp [hd, hp])).trans (congrArg Host.Outcome.next (if_neg ?_))
      simp only [hr, Bool.false_or, Bool.and_eq_true, beq_iff_eq]
      exact fun h => hbad.elim (· h.1) (· h.2)
    have hdie : sourceDie (dieSource d (10 + port / 2)) = d := by
      simp only [isDie, decide_eq_true_eq] at hd
      simp only [sourceDie, dieSource]
      omega
    obtain ⟨hdown', hk, hcount, hact⟩ := bistBlock_spec (k := portKey d port) 2 (linkOf d port % 128) 0 hc (hdie.symm ▸ hin)
    rw [hdie] at hcount
    obtain ⟨hfallen, hbroken, -, -, hfirst⟩ := declareDown_spec 1 (hdown'.trans hdown) hk
    have hnone := activeHub_of_roles (declareDown_role (s.bistBlock (dieSource d (10 + port / 2)) 2 (linkOf d port % 128) 0) d port 1)
    refine ⟨_, hexec, ?_⟩
    generalize State.declareDown _ d port 1 = u at hfallen hbroken hfirst hnone ⊢
    have hcut := (SameNet.refl u).dropCutOff
    refine ⟨(fields_of_link (hcut.link _)).1.trans hfallen, hcut.broken.symm ▸ hbroken, fun ha => ?_⟩
    have hwhole : u.dropCutOff = u := by
      rw [State.dropCutOff, if_pos (by simp [hnone, hact, ha])]
    rw [hwhole, ← hcount, State.firstCount, hfirst]
    rfl
  · exact ⟨_, guardId_of_true (by simpa [hd, hp] using hf), if_pos hb⟩

end Sys2Proof.Machine
end

section
/-! SUPPORT. What the events of the rings do (R356, R366, R369-R371). -/

namespace Sys2Proof.Machine

section
variable {s t : State} {d : Nat}

/-- What a message of the network that has not been seen does: its sequence is noted, and its effect follows. -/
theorem recv_of_unseen {rcv ty : Nat} {h : Hdr} {f : State → State} (hu : s.unseen rcv h ty = true) : s.recv rcv h ty f =
    if ackedType ty then (f (s.noteSeen rcv h.src ty h.seq)).ack rcv h.src ty h.seq 0 else f (s.noteSeen rcv h.src ty h.seq) := by
  unfold State.recv
  rw [if_neg (by simpa [State.unseen] using hu)]
namespace SameNet

theorem noteSeen (rcv src ty seq : Nat) (h : SameNet s t) : SameNet s (t.noteSeen rcv src ty seq) := h.trans ⟨rfl, fun _ => rfl⟩
theorem links {u : State} (h : SameNet s t) (hu : SameLinks t u) : SameNet s u := h.trans ⟨hu.ports.felt Felt.broken (fun _ _ => rfl), hu.link⟩
theorem settledRing (h : SameNet s t) (ring : Nat) : t.settledRing ring = s.settledRing ring := by
  rw [State.settledRing, State.settledRing, h.broken]

end SameNet

theorem ringOf_setRing (s : State) (d ring v : Nat) : ringOf ((s.setRing d ring v).die d) ring = v := by
  unfold State.setRing ringOf
  rw [modDie_die, if_pos rfl]
  split <;> rfl
/-- A die's routing of a ring and its agent stay as they are when only books change. -/
theorem ringSettled_of_sansBooks (hb : t.sansBooks = s.sansBooks) (hn : SameNet s t) (ring : Nat) (hs : ringOf (s.die d) ring = s.settledRing ring) :
    ringOf (t.die d) ring = t.settledRing ring := by
  rw [die_of_sansBooks hb d, hn.settledRing, hs]
/-- A link that comes back: its restoration is recorded, its two ports are up again, and both dies' rings note it (R370). -/
def State.linkBack (s : State) (l : Nat) : State :=
  let p := s.firstPort l
  let u := if s.felt.logged.contains l then
      s.record 0x0B01 0 (linkSource l) (s.ringWord l p.cause) (sat 24 ((s.reel - p.downSince) / 1000000)) 0
    else s
  (((u.modPort (linkPorts l).1 fun _ => {}).modPort (linkPorts l).2 fun _ => {}).dieRing ((linkPorts l).1 / 4) 0x26 l).dieRing ((linkPorts l).2 / 4) 0x26 l
theorem linkBack_broken (s : State) (l : Nat) : (s.linkBack l).felt.broken = s.felt.broken :=
  (SameNet.ite ((SameNet.refl s).record ..) (.refl s)).broken
/-- A counted reset of the package brings it up, while fewer than its class's count of resets stand. -/
theorem packageReset_bringsUp {source : Nat} (ho : s.pkg.oos = false) (hp : s.pkg.powerPending = false) (hl : (s.leaked (pkgSource 7)).count < (s.cfg 215).n) :
    ∃ u : State, s.packageReset source true = u.bringUp := by
  unfold State.packageReset
  rw [if_pos (by simp [ho])]
  dsimp only
  rw [if_neg (by simp [hp]), if_neg (Nat.not_le.mpr hl)]
  exact ⟨_, rfl⟩
/-- A record leaves a source's count as it is, but that of the records that were lost. -/
theorem leaked_record {k : Nat} (hk : k ≠ pkgSource 9) (s : State) (code severity source p1 p2 p3 : Nat) :
    (s.record code severity source p1 p2 p3).leaked k = s.leaked k := by
  have hb := record_sansBooks s code severity source p1 p2 p3
  have hcount := record_counter s hk code severity source p1 p2 p3
  generalize s.record code severity source p1 p2 p3 = u at hb hcount ⊢
  rw [State.leaked, State.leaked, hcount]
  split
  · rfl
  · rw [cfg_of_sansBooks hb, now_of_sansBooks hb, State.leakTime, State.leakTime, pkg_of_sansBooks hb]

end

/-- Settles O46. -/
theorem ringEventsComplete : Obligations.RingEventsComplete := by
  refine ⟨fun s h d ring link hd hr hl hu => ?_, fun s h d ring link n hd hr hl hu hb => ?_, fun s d ring l n hd hr hj hl => ?_,
    fun s d hd => ⟨fun hready => ?_, fun hready => 
      ⟨⟨s, guardId_of_true hd |>.trans (by simp [hready]), rfl⟩, ⟨s, guardId_of_true hd |>.trans (by simp [hready]), rfl⟩⟩⟩,
    fun s d v hd hready ha ho hp hcount => ?_, fun s d src cls hd hsrc => ?_, fun s h d tag gen hd hr he hu => ?_, fun s d src seq tag gen hd hb => ?_⟩
  · have hexec : exec (.ringBreak h d ring link) s = .next (s.recv d h 0x11 _) := guardId_of_true (by simp [hd, hr, hl])
    rw [recv_of_unseen hu, if_neg (by decide)] at hexec
    refine ⟨_, hexec, ?_⟩
    dsimp only
    generalize ring * 128 + link = l
    generalize hu : (s.noteSeen d h.src 0x11 h.seq).modFelt (fun n => { n with broken := insertNat l n.broken }) = u
    have hbroken : l ∈ u.felt.broken := by
      rw [← hu]
      exact mem_insertNat ..
    generalize hw : u.setRing d ring (u.settledRing ring) = w
    have hnet : SameNet u w := by
      rw [← hw]
      exact (SameNet.refl u).of_felt rfl
    have hset : ringOf (w.die d) ring = w.settledRing ring := by
      rw [hnet.settledRing, ← hw, ringOf_setRing]
    split
    · have hlog : SameNet w (w.modFelt fun n => { n with logged := insertNat l n.logged }) := ⟨rfl, fun _ => rfl⟩
      have hrec := hlog.record 0x0B00 2 (linkSource l) (w.ringWord l (w.firstPort l).cause) (sat 24 ((w.reel - (w.firstPort l).downSince) / 10)) 0
      exact ⟨(hnet.trans hrec).broken.symm ▸ hbroken, ringSettled_of_sansBooks ((record_sansBooks ..).trans (modFelt_sansBooks ..)) hrec ring hset⟩
    · exact ⟨hnet.broken.symm ▸ hbroken, hset⟩
  · have hexec : exec (.ringJoin h d ring link n) s = .next (s.recv d h 0x12 _) := guardId_of_true (by simp [hd, hr, hl])
    rw [recv_of_unseen hu, if_pos (by decide)] at hexec
    refine ⟨_, hexec, ?_⟩
    dsimp only
    rw [if_pos (show (s.noteSeen d h.src 0x12 h.seq).felt.broken.contains (ring * 128 + link) = true by simpa [State.noteSeen, State.modFelt] using hb)]
    refine ⟨?_, emits_ack_of (kp := false) (modFelt_keeps _ (modFelt_keeps _ (.refl false s))) ..⟩
    rw [((SameLinks.refl _).ack ..).ports.felt Felt.joins (fun _ _ => rfl)]
    simp [State.modFelt]
  · have hls : ((s.felt.joins.map (·.1)).filter fun l => l / 128 == ring) = [l] := by simp [hj, hl]
    generalize hu : (s.modFelt fun n =>
      { n with broken := n.broken.filter fun k => !List.contains [l] k, joins := n.joins.filter fun e => !List.contains [l] e.1 }) = u
    generalize hback : [l].filter s.felt.broken.contains = back
    generalize hv : ((each back State.linkBack u).modFelt fun n => { n with logged := n.logged.filter fun l => !back.contains l }) = v
    have hexec : exec (.ringJoinActivation d ring) s = .next (v.setRing d ring (v.settledRing ring)) := by
      refine (guardId_of_true (by simp [hd, hr])).trans ?_
      dsimp only
      rw [hls, hback, hu, ← hv]
      rfl
    have hbroken (k : Nat) : k ∈ u.felt.broken ↔ k ∈ s.felt.broken ∧ k ≠ l := by
      rw [← hu]
      simp [State.modFelt]
    have hsame : v.felt.broken = u.felt.broken := by
      rw [← hv]
      exact each_keeps (fun v : State => v.felt.broken) back _ u linkBack_broken
    refine ⟨_, hexec, ?_, fun k hk => ?_, ringOf_setRing v d ring _⟩
    · change l ∉ v.felt.broken
      simp [hsame, hbroken]
    · change k ∈ v.felt.broken ↔ _
      simp [hsame, hbroken, hk]
  · have hholds := ((OnlyHolds.refl (s.modDie d fun k => { k with isolated := true })).holdDie d isolateKey 1).setPin (dieSource d 12)
    refine ⟨_, (guardId_of_true hd).trans (congrArg Host.Outcome.next (if_pos hready)), ?_, setPin_pins ..⟩
    refine (congrArg Die.isolated (hholds.die d)).trans ?_
    simp [Die.sansHolds]
  · have hb := record_sansBooks s 0x0B02 5 (dieSource d 12) d 0 0
    have hleaked := leaked_record (k := pkgSource 7) (by decide) s 0x0B02 5 (dieSource d 12) d 0 0
    have hexec : exec (.stationIsolated d) s = .next ((s.record 0x0B02 5 (dieSource d 12) d 0 0).packageReset (dieSource d 12) true) :=
      (guardId_of_true hd).trans (congrArg Host.Outcome.next (if_pos (by simp [ha, hready])))
    generalize s.record 0x0B02 5 (dieSource d 12) d 0 0 = u at hb hleaked hexec
    obtain ⟨w, hw⟩ := packageReset_bringsUp (s := u) (source := dieSource d 12) ((congrArg Pkg.oos (pkg_of_sansBooks hb)).trans ho)
      ((congrArg Pkg.powerPending (pkg_of_sansBooks hb)).trans hp) (by rw [hleaked, cfg_of_sansBooks hb]; exact hcount)
    obtain ⟨hboot, -, -, hdies, -, hctxs, -⟩ := bringUp_spec w
    exact ⟨_, hexec, by rw [hw]; exact ⟨hboot, hdies, hctxs⟩⟩
  · refine ⟨_, guardId_of_true (by simp [hd, hsrc]), fun x => ?_⟩
    simp only [State.modFelt, List.mem_filter, Bool.not_eq_true', Bool.and_eq_false_iff, beq_eq_false_iff_ne, not_and, and_congr_right_iff]
    tauto
  · have hexec : exec (.barrier h d tag gen) s = .next (((s.modDie d fun k => { k with epoch := h.epoch }).noteSeen d h.src 0x10 h.seq).modDie d fun k =>
        { k with barriers := k.barriers ++ [(h.src, h.seq, tag, gen)] }) := by
      refine (guardId_of_true hd).trans (congrArg Host.Outcome.next ?_)
      dsimp only
      rw [if_neg (by simp [hr]), if_neg (by omega), if_neg (by simpa [State.unseen] using hu)]
    refine ⟨_, hexec, ?_⟩
    have hdie : (((s.modDie d fun k => { k with epoch := h.epoch }).noteSeen d h.src 0x10 h.seq).modDie d fun k =>
        { k with barriers := k.barriers ++ [(h.src, h.seq, tag, gen)] }).die d =
        { s.die d with epoch := h.epoch, barriers := (s.die d).barriers ++ [(h.src, h.seq, tag, gen)] } := by
      rw [modDie_die, if_pos rfl, State.noteSeen, modFelt_die, modDie_die, if_pos rfl]
    dsimp only
    rw [hdie]
    exact ⟨rfl, rfl⟩
  · refine ⟨_, guardId_of_true hd, ?_⟩
    dsimp only
    rw [hb]
    simp only [List.filter_cons, List.filter_nil, beq_self_eq_true, if_true, each, List.foldl_cons, List.foldl_nil]
    refine ⟨?_, emits_ack_of (kp := false) (modDie_keeps _ _ (.refl false s)) ..⟩
    rw [die_ack, modDie_die, if_pos rfl]
    simp [hb]

end Sys2Proof.Machine
end

section
/-! SUPPORT. Bridged messages and link qualification (R374, R379-R381). -/

namespace Sys2Proof.Machine

section
variable {s t : State}

/-- The counts of a qualification are kept by their lanes. -/
theorem tget_lanes {l : List LaneCount} (hl : (l.map (·.lane)).Nodup) {c : LaneCount} (hc : c ∈ l) (t : Table (Option LaneCount)) :
    tget none (each l (fun t c => tset none t c.lane (some c)) t) c.lane = some c := by
  induction l generalizing t with
  | nil => contradiction
  | cons x l ih =>
    obtain ⟨hx, hrest⟩ := List.nodup_cons.mp hl
    rcases List.mem_cons.mp hc with rfl | hin
    · refine List.foldlRecOn l _ (motive := fun t : Table (Option LaneCount) => tget none t c.lane = some c) (by simp) fun u hu y hy => ?_
      rw [tget_tset, if_neg fun he => hx (List.mem_map.mpr ⟨y, hy, he.symm⟩)]
      exact hu
    · exact ih hrest hin _
/-- Every lane either passes or fails. -/
theorem length_passing (l : List LaneCount) : (l.filter fun c => !laneFails c).length = l.length - (l.filter laneFails).length := by
  have h := List.length_eq_length_filter_add (l := l) laneFails
  omega
/-- What a qualification notes, and its records, change the counts of the lanes alone. -/
theorem noteLanes_sansBooks (s : State) (l : List LaneCount) :
    (s.noteLanes l).sansBooks = (s.modSh fun h => { h with lanes := each l (fun t c => tset none t c.lane (some c)) [] }).sansBooks :=
  each_sansBooks _ _ _ fun _ _ => record_sansBooks ..
theorem pkg_endRuns (s : State) (p : Run → Bool) (status : Nat) (data : List (Nat × Nat)) : (s.endRuns p status data).pkg = s.pkg := by
  refine each_keeps State.pkg _ _ _ fun u x => ?_
  obtain ⟨o, a, b, c, d, h⟩ := endRun_eq u x status data
  rw [h]
/-- A bridged message with a link or with room in the outbound queue is taken by the acting Vat. -/
theorem bridged_exec {v : Hub} {h : Hdr} {m : List Nat} (ha : s.acting = some v) (hc : ((s.vat v).linkUp || decide ((s.vat v).outQ.length < 64)) = true) :
    exec (.bridged h m) s = .next (s.recvVat (.bridged h m) h 0x92 fun s =>
      if (s.vat v).linkUp then s.emit (.vendor 4 m) else s.modVat v fun x => { x with outQ := x.outQ ++ [m] }) := by
  change execBridged h m s = _
  unfold execBridged
  rw [ha]
  dsimp only
  rw [hc, Bool.true_or, if_pos rfl]

end

/-- Settles O47. -/
theorem bridgeAndQualificationComplete : Obligations.BridgeAndQualificationComplete := by
  refine ⟨fun s h v m ha hn => ⟨fun hup => ?_, fun hdown hroom => ?_, fun hdown hfull => ?_⟩, fun s hub i m hroom => ?_, fun s hub m q hq => ?_,
    fun s rq h hrun hqual => ?_, fun s l r hr hl => ?_, fun s rq first n h h1 h15 => ?_, fun s rq h => ?_, fun s c e hlane he hber hc hin => ?_⟩
  · refine gives_recvVat_acked (by rfl) (bridged_exec ha (by simp [hup])) ha hn fun n => ?_
    rw [if_pos (show ((s.withFelt n).vat v).linkUp = true from hup)]
    exact ⟨.of_keeps (.after_keeps (withFelt_keeps n (.refl false s)) (emits_emit ..)) (ack_keeps _ _ _ _ _ (.refl false _)),
      emits_ack_of (kp := false) (emit_keeps _ (withFelt_keeps n (.refl false s))) ..⟩
  · refine gives_recvVat_acked (by rfl) (bridged_exec ha (by simp [hroom])) ha hn fun n => ?_
    rw [if_neg (by simpa using show ((s.withFelt n).vat v).linkUp = false from hdown)]
    refine ⟨?_, emits_ack_of (kp := false) (modVat_keeps _ _ (withFelt_keeps n (.refl false s))) ..⟩
    rw [vatField_of_sansBooks Vat.outQ (fun _ => rfl) (ack_sansBooks ..), modVat_vat_same]
    rfl
  · have hnew : (s.unseen (hubDie v) h 0x92) = true := (Bool.and_eq_true_iff.mp hn).2
    refine ⟨(s.hear h.src).ack (hubDie v) h.src 0x92 h.seq 4, ?_, ?_, emits_ack_of (kp := false) (modFelt_keeps _ (.refl false s)) ..⟩
    · change execBridged h m s = _
      unfold execBridged
      rw [ha]
      dsimp only
      rw [if_neg]
      simpa [hdown, State.unseen, hfull] using hnew
    · exact vatField_of_sansBooks Vat.outQ (fun _ => rfl) ((ack_sansBooks ..).trans (hear_sansBooks ..)) v
  · refine ⟨_, congrArg Host.Outcome.next (if_pos hroom), ?_⟩
    exact congrArg Vat.inQ (modVat_vat_same ..)
  · have hexec : exec (.bridgeInboundAdmit hub) s = .next ((s.modVat hub fun v => { v with inQ := q }).feltSend (hubDie hub) 0x92 0 s.actDie m) := by
      change execBridgeInboundAdmit hub s = _
      unfold execBridgeInboundAdmit
      rw [hq]
    refine ⟨_, hexec, ?_, _, .after_keeps (kp := false) (modVat_keeps _ _ (.refl false s)) (emits_feltSend ..), rfl, rfl, rfl, rfl⟩
    rw [vatField_of_sansBooks Vat.inQ (fun _ => rfl) (feltSend_sansBooks ..), modVat_vat_same]
  · refine gives_of_takes h rfl rfl fun a b => ?_
    rw [if_neg (by simpa [State.running, hqual] using hrun)]
    exact ⟨runs_beginRun .., (emits_emit _ _).after_keeps (beginRun_keeps _ _ _ _ _ (keeps_taken a b))⟩
  · have hb := noteLanes_sansBooks s l
    refine ⟨_, rfl, fun c hc => ?_, ?_, ?_⟩
    · rw [State.endOp, shared_endRuns Shared.lanes (fun _ _ _ _ _ _ => rfl)]
      refine (congrArg (tget none · c.lane) (shared_of_sansBooks Shared.lanes (fun _ => rfl) hb)).trans ?_
      exact tget_lanes hl hc []
    · rw [State.endOp, pkg_endRuns]
      rfl
    · have hruns : ((s.noteLanes l).modPkg fun g => { g with qualifying := false }).sh.runs = s.sh.runs :=
        (shared_of_sansBooks Shared.runs (fun _ => rfl) hb :)
      obtain ⟨herase, hreply⟩ := ended_endOp ((s.noteLanes l).modPkg fun g => { g with qualifying := false }) (op := 0x0900) (c := 0) (hruns.symm ▸ hr) stOk
        [(32, l.length - (l.filter laneFails).length), (32, (l.filter laneFails).length)]
      rw [hruns] at herase
      rw [length_passing]
      exact ⟨herase, hreply⟩
  · refine gives_of_takes h rfl rfl fun a b => ?_
    dsimp only
    rw [clampTo_of_le h1 h15]
    exact answers_finish_nil ..
  · exact gives_of_takes h rfl rfl fun a b => answers_finish_of (by simp [ringOf])
  · have hd : isDie (c.lane / 512 % 128) = true := by
      rw [isDie, decide_eq_true_eq]
      omega
    refine ⟨_, (guardId_of_true hd).trans (congrArg Host.Outcome.next (if_pos (by simpa using hber))), ?_⟩
    subst he
    exact firstCount_agentCount hc _ _ hin

end Sys2Proof.Machine
end

section
/-! SUPPORT. The reel counter's alignment, comparison and loss of lock (R66-R72). -/

namespace Sys2Proof.Machine

section
variable {s s0 t : State} {d : Nat}

/-- A die's copy of the reel counter stands as its own fields say. -/
theorem dieReel_of_fields (hr : t.reel = s.reel) (h : (t.die d).reelOn = (s.die d).reelOn ∧ (t.die d).reelFree = (s.die d).reelFree ∧
    (t.die d).reelHeld = (s.die d).reelHeld ∧ (t.die d).reelAdj = (s.die d).reelAdj) : t.dieReel d = s.dieReel d := by
  obtain ⟨hon, hfree, hheld, hadj⟩ := h
  simp only [State.dieReel, hr, hon, hfree, hheld, hadj]
theorem OnlyHolds.dieReel (h : OnlyHolds s t) (d : Nat) : t.dieReel d = s.dieReel d :=
  dieReel_of_fields h.reel ⟨h.dieField Die.reelOn (fun _ => rfl) d, h.dieField Die.reelFree (fun _ => rfl) d,
    h.dieField Die.reelHeld (fun _ => rfl) d, h.dieField Die.reelAdj (fun _ => rfl) d⟩
/-- An event whose class takes no reaction leaves only its count and a stop of the slice. -/
theorem OnlyHolds.agentCount_calm {src : Nat} (hc : t.calm src = true) (d : Nat) (x : Detail) (h : OnlyHolds s t) : OnlyHolds s (t.agentCount d src x) := by
  rw [Machine.agentCount_calm hc]
  exact (h.stopSlice src).firstStage d src [x]
/-- A copy takes the correct count, never backward (R71). -/
theorem correctReel_spec (s : State) (d c : Nat) : (s.correctReel d c).dieReel d = max (s.dieReel d) c ∧
    ∃ a h, (s.correctReel d c).die d = { s.die d with reelOn := true, reelLock := true, reelFree := none, reelAdj := a, reelHeld := h,
                                                      unaligned := decide (c < s.dieReel d) } := by
  have hdie : (s.correctReel d c).die d = { s.die d with
      reelOn := true, reelLock := true, reelFree := none, reelAdj := (c : Int) - s.reel, reelHeld := if s.dieReel d ≤ c then none else some (s.dieReel d),
      unaligned := decide (c < s.dieReel d) } := (modDie_die ..).trans (if_pos rfl)
  refine ⟨?_, _, _, hdie⟩
  have hreel : (s.correctReel d c).reel = s.reel := rfl
  rw [State.dieReel, hdie, hreel]
  dsimp only
  rw [if_neg (by decide)]
  split
  · next h heq =>
    obtain ⟨hle, hh⟩ := Option.ite_none_left_eq_some.mp heq
    cases hh
    omega
  · next heq =>
    have hle : s.dieReel d ≤ c := by simpa using heq
    omega
/-- A die that loses lock counts on from where it is, unaligned (R72). -/
theorem loseLock_die (s : State) (d e : Nat) : (s.loseLock d).die e = if e = d then { s.die d with
    reelLock := false, unaligned := true, reelFree := if (s.die d).reelFree.isSome then (s.die d).reelFree else some (s.dieReel d, s.reel) } else s.die e := by
  rw [State.loseLock, modDie_die]
theorem loseLock_dieReel (s : State) (d : Nat) : (s.loseLock d).dieReel d = s.dieReel d := by
  have hreel : (s.loseLock d).reel = s.reel := rfl
  rw [State.dieReel, loseLock_die, if_pos rfl, hreel]
  dsimp only
  by_cases hon : (s.die d).reelOn = true
  · cases hfree : (s.die d).reelFree with
    | none => simp [hon]
    | some x => simp [State.dieReel, hon, hfree]
  · simp [State.dieReel, hon]
/-- A count kept of an edge leaves every copy as it stands. -/
theorem dieReel_modEdge (s : State) (d e : Nat) (x : Option Nat) : (s.modDie e fun k => { k with reelEdge := x }).dieReel d = s.dieReel d := by
  refine dieReel_of_fields rfl ?_
  rw [modDie_die]
  split
  · next he => exact he ▸ ⟨rfl, rfl, rfl, rfl⟩
  · exact ⟨rfl, rfl, rfl, rfl⟩
/-- The probes of a hop (R66). -/
theorem alignHop_sansBooks (s : State) (d n ring : Nat) : (s.alignHop d n ring).sansBooks = s.sansBooks := each_sansBooks _ _ _ fun _ _ => feltSend_sansBooks ..
theorem alignHop_sends (s : State) (d n ring : Nat) {i : Nat} (hi : i < 3) :
    ∃ x, Emits s (s.alignHop d n ring) (.felt x) ∧ x.src = d ∧ x.type = 0x82 ∧ x.dst = n ∧ x.words = [i] :=
  emits_each (a := i) (Q := fun x => x.src = d ∧ x.type = 0x82 ∧ x.dst = n ∧ x.words = [i]) (fun _ => True) trivial (fun _ _ _ => trivial)
    (fun _ _ _ hu => feltSend_keeps _ _ _ _ _ _ hu) (by simp; omega) fun u _ => ⟨_, emits_feltSend u d 0x82 0 n [i] (some ring), rfl, rfl, rfl, rfl⟩
theorem feltSend_tries (s : State) (src ty mode dst : Nat) (words : List Nat) (ring : Option Nat) (k : Nat) :
    ((s.feltSend src ty mode dst words ring).port k).tries = (s.port k).tries := congrArg (fun l => l.2.2.2.2.2.2) (feltSend_link s src ty mode dst words ring k)
theorem alignHop_tries (s : State) (d n ring k : Nat) : ((s.alignHop d n ring).port k).tries = (s.port k).tries :=
  each_keeps (fun u : State => (u.port k).tries) _ _ _ fun _ _ => feltSend_tries ..
/-- A neighbour that is left after the eighth invalid attempt is unaligned (R67). -/
theorem leaveHop_unaligned (s : State) (d n port : Nat) : ((s.leaveHop d n port).die n).unaligned = true := by
  have hmark : ((s.modDie n fun k => { k with unaligned := true }).die n).unaligned = true := congrArg Die.unaligned ((modDie_die ..).trans (if_pos rfl))
  unfold State.leaveHop
  dsimp only
  split
  · exact hmark
  · split
    · refine each_holds (fun u : State => (u.die n).unaligned = true) _ _ _ (fun u k hu => ?_) hmark
      rw [die_of_sansBooks (alignHop_sansBooks ..)]
      exact hu
    · exact hmark

end

/-- Settles O48. -/
theorem alignmentCompletes : Obligations.AlignmentCompletes := by
  refine ⟨fun s h d v hd hu => ?_, fun s d n port a b c hd hn hp => ⟨fun hv => ?_, fun hv ht => ?_, fun hv ht => ?_⟩, fun s h d v half e hd hsrc hu => ?_,
    fun s d hd => ?_, fun s h d n e hd hu he hfree => ⟨?_, fun hc hin hne => ?_⟩, fun s d n hd hh => ?_, fun s d hd => ⟨fun hc hin => ?_, fun hon hle => ?_⟩,
    fun s h1 h1' => ?_⟩
  · have hexec : exec (.alignProbe h d v) s = .next (s.recv d h 0x82 _) := guardId_of_true hd
    rw [recv_of_unseen hu, if_neg (by decide)] at hexec
    exact ⟨_, hexec, _, .after_keeps (kp := false) (modFelt_keeps _ (.refl false s)) (emits_feltSend _ d 0x83 0 h.src [v] (some h.ring)), rfl, rfl, rfl, rfl⟩
  · refine ⟨_, (guardId_of_true (by simp [hd, hn, hp])).trans (congrArg Host.Outcome.next (if_pos hv)), ?_,
      _, .after_keeps (kp := false) (modPort_keeps _ _ (.refl false s)) (emits_feltSend _ d 0x84 0 n _ (some (port / 2))), rfl, rfl, rfl, rfl⟩
    rw [feltSend_tries, modPort_port, if_pos rfl]
  · have hexec : exec (.alignEcho d n port a b c) s = .next ((s.modPort (portKey d port) fun p =>
        { p with tries := min 8 ((s.port (portKey d port)).tries + 1) }).alignHop d n (port / 2)) := by
      refine (guardId_of_true (by simp [hd, hn, hp])).trans (congrArg Host.Outcome.next ?_)
      rw [if_neg (by simp [hv])]
      exact if_neg (by omega)
    refine ⟨_, hexec, ?_, fun i hi => ?_⟩
    · rw [alignHop_tries, modPort_port, if_pos rfl]
      dsimp only
      omega
    · obtain ⟨x, hx, hrest⟩ := alignHop_sends (s.modPort (portKey d port) fun p => { p with tries := min 8 ((s.port (portKey d port)).tries + 1) }) d n
        (port / 2) hi
      exact ⟨x, .after_keeps (modPort_keeps _ _ (.refl false s)) hx, hrest⟩
  · have hexec : exec (.alignEcho d n port a b c) s = .next ((s.modPort (portKey d port) fun p =>
        { p with tries := min 8 ((s.port (portKey d port)).tries + 1) }).leaveHop d n port) := by
      refine (guardId_of_true (by simp [hd, hn, hp])).trans (congrArg Host.Outcome.next ?_)
      rw [if_neg (by simp [hv])]
      exact if_pos (by omega)
    exact ⟨_, hexec, leaveHop_unaligned ..⟩
  · have hexec : exec (.alignSet h d v half e) s = .next (s.recv d h 0x84 _) := guardId_of_true (by simp [hd, hsrc])
    rw [recv_of_unseen hu, if_pos (by decide)] at hexec
    refine ⟨_, hexec, ?_⟩
    dsimp only
    generalize nearest10 (v + half + e) - e = c
    obtain ⟨hreel, x, y, hdie⟩ := correctReel_spec (s.noteSeen d h.src 0x84 h.seq) d c
    have hk : Keeps false s ((s.noteSeen d h.src 0x84 h.seq).correctReel d c) := correctReel_keeps _ _ (noteSeen_keeps _ _ _ _ (.refl false s))
    generalize (s.noteSeen d h.src 0x84 h.seq).correctReel d c = u at hreel hdie hk ⊢
    generalize (if h.src = prevDie d then nextDie d else prevDie d) = n
    have hhop : (if (u.die n).unaligned = true then u.alignHop d n h.ring else u).sansBooks = u.sansBooks := by
      split
      · exact alignHop_sansBooks ..
      · rfl
    have hhopk : Keeps false s (if (u.die n).unaligned = true then u.alignHop d n h.ring else u) := by
      split
      · exact alignHop_keeps _ _ _ hk
      · exact hk
    generalize (if (u.die n).unaligned = true then u.alignHop d n h.ring else u) = w at hhop hhopk ⊢
    have hbooks := (ack_sansBooks w d h.src 0x84 h.seq 0).trans hhop
    refine ⟨(dieReel_of_sansBooks hbooks d).trans hreel, ?_, emits_ack_of hhopk ..⟩
    rw [die_of_sansBooks hbooks, hdie]
    rfl
  · refine ⟨_, guardId_of_true hd, ?_, _, .after_keeps (kp := false) (modDie_keeps _ _ (.refl false s))
      (emits_feltSend _ d 0x86 0 (nextDie d) _ (some 0)), rfl, rfl, rfl, rfl⟩
    rw [die_of_sansBooks (feltSend_sansBooks ..), modDie_die, if_pos rfl]
  · have hexec : exec (.reelCmp h d e) s = .next (s.recv d h 0x86 _) := guardId_of_true hd
    rw [recv_of_unseen hu, if_pos (by decide)] at hexec
    refine ⟨_, hexec, ?_⟩
    dsimp only
    rw [show (((s.noteSeen d h.src 0x86 h.seq).die d).reelEdge = some e) from he]
    dsimp only
    rw [if_pos rfl, die_ack, dieReel_of_sansBooks (ack_sansBooks ..), dieReel_modEdge]
    exact ⟨by rw [modDie_die, if_pos rfl], rfl⟩
  · have hexec : exec (.reelCmp h d n) s = .next (s.recv d h 0x86 _) := guardId_of_true hd
    rw [recv_of_unseen hu, if_pos (by decide)] at hexec
    refine ⟨_, hexec, ?_⟩
    dsimp only
    rw [show (((s.noteSeen d h.src 0x86 h.seq).die d).reelEdge = some e) from he]
    dsimp only
    rw [if_neg hne]
    generalize hu1 : (s.noteSeen d h.src 0x86 h.seq).modDie d (fun k => { k with reelEdge := none }) = u
    have hdie : u.die d = { s.die d with reelEdge := none } := by
      rw [← hu1]
      exact (modDie_die ..).trans (if_pos rfl)
    have hown : u.dieReel d = s.dieReel d := by
      rw [← hu1, dieReel_modEdge]
      rfl
    have hcalm : u.calm (dieSource d 1) := by
      rw [← hu1]
      exact hc
    have hcount := firstCount_agentCount hcalm d default (show (u.die d).inReset = false by rw [hdie]; exact hin)
    have hholds := (OnlyHolds.refl u).agentCount_calm hcalm d default
    generalize u.agentCount d (dieSource d 1) default = w at hcount hholds ⊢
    rw [if_neg (by rw [hdie, hfree]; decide), hown]
    obtain ⟨hreel, x, y, hset⟩ := correctReel_spec w d (s.dieReel d + n - e)
    have hedge : (w.die d).reelEdge = none := (hholds.dieField Die.reelEdge (fun _ => rfl) d).trans (by rw [hdie])
    rw [hholds.dieReel, hown] at hreel hset
    generalize w.correctReel d (s.dieReel d + n - e) = z at hreel hset ⊢
    rw [die_ack, dieReel_of_sansBooks (ack_sansBooks ..), hset, hreel]
    refine ⟨hedge, rfl, decide_eq_decide.mpr (by omega), ?_⟩
    have hstart : u.firstCount d (dieSource d 1) = s.firstCount d (dieSource d 1) := by rw [State.firstCount, hdie]; rfl
    rw [State.firstCount, die_ack, hset, ← hstart, ← hcount]
    rfl
  · refine ⟨_, (guardId_of_true hd).trans (congrArg Host.Outcome.next (if_pos (by simp [hh]))), ?_⟩
    dsimp only
    rw [modDie_die, if_pos rfl]
    exact ⟨rfl, rfl⟩
  · have hcalm : (s.loseLock d).calm (dieSource d 2) := hc
    have hdie := loseLock_die s d d
    rw [if_pos rfl] at hdie
    have hcount := firstCount_agentCount hcalm d default (show ((s.loseLock d).die d).inReset = false by rw [hdie]; exact hin)
    have hholds := (OnlyHolds.refl (s.loseLock d)).agentCount_calm hcalm d default
    have hown := loseLock_dieReel s d
    refine ⟨_, guardId_of_true hd, ?_, ?_, (hholds.dieReel d).trans hown, hcount.trans ?_⟩
    · exact (hholds.dieField Die.reelLock (fun _ => rfl) d).trans (by rw [hdie])
    · exact (hholds.dieField Die.unaligned (fun _ => rfl) d).trans (by rw [hdie])
    · rw [State.firstCount, hdie]
      rfl
  · obtain ⟨hreel, x, y, hdie⟩ := correctReel_spec s d s.reel
    refine ⟨_, (guardId_of_true hd).trans (congrArg Host.Outcome.next (if_pos hon)), ?_⟩
    dsimp only
    rw [hreel, hdie, max_eq_right hle]
    exact ⟨rfl, rfl, decide_eq_false (Nat.not_lt.mpr hle)⟩
  · have hsh : (each (List.range 100) State.loseLock s).sh = s.sh := each_keeps State.sh _ _ _ fun _ _ => rfl
    have hlost := each_establishes (fun d (u : State) => (u.die d).reelLock = false ∧ (u.die d).unaligned = true) State.loseLock
      (fun u d => by rw [loseLock_die, if_pos rfl]; exact ⟨rfl, rfl⟩) (fun u d e hu => by
        rw [loseLock_die]
        split
        · exact ⟨rfl, rfl⟩
        · exact hu) (List.range 100) s
    have hexec : exec .refLoss s = .next ((each (List.range 100) State.loseLock s).vatCount (pkgSource 0) default) := rfl
    refine ⟨_, hexec, fun d hd => ?_⟩
    generalize each (List.range 100) State.loseLock s = u at hsh hlost ⊢
    have hholds := OnlyHolds.vatCount_pkgSource (n := 0) default (by decide) (show u.noPkg 208 by rw [State.noPkg, State.cfg, hsh]; exact ⟨h1, h1'⟩) (.refl u)
    obtain ⟨hlock, hun⟩ := hlost d (List.mem_range.mpr hd)
    exact ⟨(hholds.dieField Die.reelLock (fun _ => rfl) d).trans hlock, (hholds.dieField Die.unaligned (fun _ => rfl) d).trans hun⟩

end Sys2Proof.Machine
end

section
/-! SUPPORT. A stall interval that saturates while a region is held for its partition's rung (R84, R86). -/

namespace Sys2Proof.Machine

/-- Die 0's region is held for the reset rung of its partition: the hold's key is 33, of reason 1. -/
def rungHeld : State := { State.reset with
  vatA := { role := .active }
  sh := { intervals := [(dieRegion 0, some
    { reason := 1, start := 0, step := 0, layer := 0, oper := 0, core := 0xFF, further := 0, inForce := [(rungKey, 0)], kind := 2, cont := false })] } }
/-- The reason of a region's stall interval after a command; none when there is no interval, or the command is not answered with a next state. -/
def reasonAfter (i : Instr) (s : State) (region : Nat) : Option Nat :=
  match exec i s with | .next t => (tget none t.sh.intervals region).map (·.reason) | _ => none
theorem reasonAfter_of_gives {i : Instr} {s : State} {region r : Nat} (h : Gives i s fun t => ∃ j, tget none t.sh.intervals region = some j ∧ j.reason = r) :
    reasonAfter i s region = some r := by
  obtain ⟨t, ht, j, hj, hr⟩ := h
  rw [reasonAfter, ht]
  simp [hj, hr]
set_option maxRecDepth 100000 in
/-- The new interval begins with the reason of the earliest hold in force, not with its key. -/
theorem reasonAfter_rungHeld : reasonAfter (.stallIntervalSaturate (dieRegion 0)) rungHeld (dieRegion 0) = some 1 := by decide +kernel

/-- Refutes O49: a region is held for its partition's rung, whose hold has the key 33; when its interval saturates, the next one carries the hold's
    reason, 1, and not the key. -/
theorem not_launchAndRelaxComplete : ¬ Obligations.LaunchAndRelaxComplete := by
  intro h
  obtain ⟨-, -, -, hsaturate, -⟩ := h
  obtain ⟨t, ht, j, hj, -, -, -, -, hreason⟩ := hsaturate rungHeld (dieRegion 0) _ rfl
  have hkey := reasonAfter_of_gives ⟨t, ht, j, hj, hreason⟩
  rw [reasonAfter_rungHeld] at hkey
  exact absurd hkey (by decide)

end Sys2Proof.Machine
end

section
/-! SUPPORT. Calender's samples: readings that are taken, the holds that follow, the write windows, the analogue BIST (R386-R404). -/

namespace Sys2Proof.Machine

/-- From `s` to `t` no reading of a temperature sensor has changed. -/
structure SameTemps (s t : State) : Prop where
  temps : ∀ d, (t.die d).cal.temps = (s.die d).cal.temps

section
variable {s t u : State} {d : Nat}

/-! ### Events at Calender's sources (Table 7.3) -/

theorem classOf_calender {d k : Nat} (hd : isDie d = true) (h1 : 17 ≤ k) (h2 : k ≤ 22) : classOf (dieSource d k) = some (64 + k) := by
  have hlt : d < 100 := by simpa [isDie] using hd
  have hdie : sourceDie (dieSource d k) = d := by simp only [sourceDie, dieSource]; omega
  have hlow : dieSource d k % 8192 = 7488 + k := by simp only [dieSource]; omega
  simp [classOf, hdie, hlow, hlt, show 7488 + k < 7520 by omega, show 1 ≤ k by omega, h2]
/-- BLK at one of Calender's sources blocks nothing. -/
theorem takeBlk_calender {d k : Nat} (hd : isDie d = true) (h1 : 17 ≤ k) (h2 : k ≤ 22) (u : State) : u.takeBlk (dieSource d k) = u := by
  have hlt : d < 100 := by simpa [isDie] using hd
  have hdie : sourceDie (dieSource d k) = d := by simp only [sourceDie, dieSource]; omega
  have hctx : sourceCtx (dieSource d k) = none := by
    unfold sourceCtx
    rw [hdie, if_neg (by simp; omega)]
  have hkey : ¬ 64 + k = 31 ∧ ¬ 64 + k < 64 ∧ ¬ 64 + k = 70 ∧ ¬ 64 + k = 71 ∧ ¬ 128 ≤ 64 + k ∧ ¬ 160 ≤ 64 + k ∧ ¬ 224 ≤ 64 + k := by omega
  unfold State.takeBlk
  rw [classOf_calender hd h1 h2, hctx]
  simp [hkey]
theorem OnlyHolds.agentCount_calender {k : Nat} (hd : isDie d = true) (h1 : 17 ≤ k) (h2 : k ≤ 22) (e : Nat) (x : Detail) (h : OnlyHolds s t) :
    OnlyHolds s (t.agentCount e (dieSource d k) x) :=
  h.agentCount_noBlk e x (classOf_calender hd h1 h2) (by omega) (by omega) (takeBlk_calender hd h1 h2)

/-! ### What keeps the readings -/

theorem modCal_die (s : State) (d : Nat) (f : Cal → Cal) (e : Nat) : (s.modCal d f).die e = if e = d then { s.die d with cal := f (s.die d).cal } else s.die e := by
  rw [State.modCal, modDie_die]
namespace SameTemps

theorem refl (s : State) : SameTemps s s := ⟨fun _ => rfl⟩
theorem trans (h1 : SameTemps s t) (h2 : SameTemps t u) : SameTemps s u := ⟨fun e => (h2.temps e).trans (h1.temps e)⟩
theorem of_dies (h : SameTemps s t) (hu : u.dies = t.dies) : SameTemps s u := h.trans ⟨fun e => by rw [die_of_dies hu]⟩
theorem holds (h : SameTemps s t) (hu : OnlyHolds t u) : SameTemps s u := h.trans ⟨fun e => congrArg Cal.temps (hu.dieField Die.cal (fun _ => rfl) e)⟩
theorem ite {c : Prop} [Decidable c] (h1 : SameTemps s t) (h2 : SameTemps s u) : SameTemps s (if c then t else u) := by
  split
  · exact h1
  · exact h2
theorem modCal {f : Cal → Cal} (h : SameTemps s t) (d : Nat) (hf : ∀ c, (f c).temps = c.temps) : SameTemps s (t.modCal d f) :=
  h.trans ⟨fun e => by
    rw [modCal_die]
    split
    · next he => rw [he]; exact hf _
    · rfl⟩
theorem sensor (h : SameTemps s t) (d n : Nat) : t.sensor d n = s.sensor d n := by rw [State.sensor, State.sensor, h.temps]
theorem evalNear (n : Nat) (x : Int) (hd : isDie d = true) (h : SameTemps s t) : SameTemps s (t.evalNear d n x) := by
  have hnear := h.modCal (f := fun c => { c with near := true, farSince := none }) d fun _ => rfl
  unfold State.evalNear
  dsimp only
  refine ite (ite ?_ h) (ite ?_ (h.modCal d fun _ => rfl))
  · refine holds ?_ (OnlyHolds.agentCount_calender hd (by decide) (by decide) d _ (.refl _))
    exact ite (hnear.of_dies rfl) hnear
  · exact (h.modCal (f := fun c => { c with near := false, farSince := none }) d fun _ => rfl).of_dies rfl
theorem beginCalHold (therm : Bool) (h : SameTemps s t) : SameTemps s (t.beginCalHold d therm) :=
  ite ((h.modCal d fun c => by cases therm <;> rfl).holds ((OnlyHolds.refl _).holdDie d 4 1)) h
theorem endCalHold (h : SameTemps s t) : SameTemps s (t.endCalHold d) := ite h (h.holds ((OnlyHolds.refl t).unholdDie d 4))
theorem evalThermHold (h : SameTemps s t) : SameTemps s (t.evalThermHold d) :=
  ite (ite (h.modCal (f := fun c => { c with thermHold := false, thermOkSince := none }) d fun _ => rfl).endCalHold (h.modCal d fun _ => rfl)) h
theorem record (code severity source p1 p2 p3 : Nat) (h : SameTemps s t) : SameTemps s (t.record code severity source p1 p2 p3) := h.of_dies (dies_record ..)
theorem modVat (v : Hub) (f : Vat → Vat) (h : SameTemps s t) : SameTemps s (t.modVat v f) := h.of_dies (by cases v <;> rfl)
theorem keepDurable (h : SameTemps s t) : SameTemps s t.keepDurable := ite h (h.of_dies rfl)
theorem closeMram (v : Hub) (code : Nat) (h : SameTemps s t) : SameTemps s (t.closeMram v code) := ite ((h.modVat v _).keepDurable.record ..) h
theorem recClear (scope priv : Nat) (h : SameTemps s t) : SameTemps s (t.recClear scope priv) := by
  unfold State.recClear
  dsimp only
  refine modVat _ _ (modVat _ _ (record _ _ _ _ _ _ (ite ?_ ?_)))
  · exact of_dies (modVat _ _ (modVat _ _ h)) rfl
  · exact modVat _ _ (modVat _ _ h)
theorem endRun (x : Run) (status : Nat) (data : List (Nat × Nat)) (h : SameTemps s t) : SameTemps s (t.endRun x status data) := by
  obtain ⟨o, a, b, c, e, heq⟩ := endRun_eq t x status data
  rw [heq]
  exact h.of_dies rfl
theorem clearWaiting (h : SameTemps s t) : SameTemps s t.clearWaiting :=
  ite (each_holds (SameTemps s) _ _ t (fun _ _ hu => (hu.recClear ..).endRun ..) h) h
theorem openMram (v : Hub) (h : SameTemps s t) : SameTemps s (t.openMram v) := by
  unfold State.openMram State.windowRec
  dsimp only
  refine clearWaiting (record _ _ _ _ _ _ (of_dies (ite ?_ ?_) (dies_of_sansBooks (refill_sansBooks v))))
  · exact of_dies (of_dies (modVat v _ h) rfl) rfl
  · exact of_dies (modVat v _ h) rfl
theorem closeFlash (code : Nat) (h : SameTemps s t) : SameTemps s (t.closeFlash code) := ite (record _ _ _ _ _ _ (h.of_dies rfl)) h
theorem openFlash (h : SameTemps s t) : SameTemps s t.openFlash := by
  unfold State.openFlash State.windowRec
  dsimp only
  refine of_dies ?_ (dies_endRuns ..)
  exact record _ _ _ _ _ _ (h.of_dies rfl)
theorem evalMram (v : Hub) (n : Nat) (x : Int) (h : SameTemps s t) : SameTemps s (t.evalMram v n x) :=
  ite (ite (h.closeMram ..) h) (ite (h.openMram v) (h.modVat ..))
theorem evalFlash (n : Nat) (x : Int) (h : SameTemps s t) : SameTemps s (t.evalFlash n x) := by
  unfold State.evalFlash
  split
  · exact h
  · exact ite (ite (h.closeFlash _) h) (ite h.openFlash (h.of_dies rfl))
theorem showWins (v : Hub) (h : SameTemps s t) : SameTemps s (t.showWins v) := h.modCal _ fun _ => rfl
theorem evalThermal (h : SameTemps s t) : SameTemps s t.evalThermal :=
  ite (ite (of_dies (of_dies (of_dies h rfl) rfl) (dies_clearVoid ..)) (of_dies h rfl)) h

end SameTemps

/-! ### A reading is taken (R388-R394) -/

theorem evalNear_pkg (n : Nat) (x : Int) (hd : isDie d = true) : (s.evalNear d n x).pkg = s.pkg := by
  unfold State.evalNear
  dsimp only
  split
  · split
    · rw [(OnlyHolds.agentCount_calender hd (by decide) (by decide) d _ (.refl _)).pkg]
      split <;> rfl
    · rfl
  · split <;> rfl
theorem beginCalHold_pkg (s : State) (d : Nat) (therm : Bool) : (s.beginCalHold d therm).pkg = s.pkg := by
  unfold State.beginCalHold
  split
  · exact ((OnlyHolds.refl _).holdDie d 4 1).pkg
  · rfl
/-- A die that crosses a limit while THERMAL is set already is noted alone. -/
theorem noteThermal_of_set (hb : bit s.pkg.voidReasons 4 = true) : s.noteThermal d =
    if d < 98 then s.modPkg fun g => { g with thermalDies := (g.thermalDies.filter fun e => e.1 != d) ++ [(d, none)] } else s := by
  unfold State.noteThermal State.setVoid
  split
  · exact if_pos hb
  · rfl
/-- A reading that is taken is the sensor's; what follows changes no sensor's reading. -/
theorem takeTemp_temps (n : Nat) (x : Int) (hd : isDie d = true)
    (hv : s.isBeyond d n x = true → (s.sensor d n).beyond = false → bit s.pkg.voidReasons 4 = true) :
    SameTemps (s.modCal d fun c => { c with temps := tset {} c.temps n { tget {} c.temps n with sampled := true, temp := x, beyond := s.isBeyond d n x } })
      (s.takeTemp d n x) := by
  unfold State.takeTemp
  dsimp only
  generalize hu : (s.modCal d fun c => { c with temps := tset {} c.temps n { tget {} c.temps n with sampled := true, temp := x, beyond := s.isBeyond d n x } }) = u
  have hnear := (SameTemps.refl u).evalNear n x hd
  have hpkg : (u.evalNear d n x).pkg = s.pkg := (evalNear_pkg n x hd).trans (by rw [← hu]; rfl)
  generalize u.evalNear d n x = w at hnear hpkg ⊢
  have hcount := OnlyHolds.agentCount_calender (k := 20) hd (by decide) (by decide) d (calDetail (twos 12 x) 0 n) (.refl w)
  generalize w.agentCount d (dieSource d 20) (calDetail (twos 12 x) 0 n) = z at hcount ⊢
  have hlimit : SameTemps u (if (s.isBeyond d n x && !(s.sensor d n).beyond) = true then (z.beginCalHold d true).noteThermal d else w) := by
    split
    · next h =>
      simp only [Bool.and_eq_true, Bool.not_eq_true'] at h
      rw [noteThermal_of_set (by rw [beginCalHold_pkg, hcount.pkg, hpkg]; exact hv h.1 h.2)]
      have hhold := (hnear.holds hcount).beginCalHold (d := d) true
      exact .ite (hhold.of_dies rfl) hhold
    · exact hnear
  refine SameTemps.evalThermal ?_
  split
  · exact ((hlimit.evalThermHold.evalMram ..).evalFlash ..).showWins _
  · exact hlimit.evalThermHold
theorem sensor_modTemp (s : State) (d n : Nat) (f : Sensor → Sensor) :
    (s.modCal d fun c => { c with temps := tset {} c.temps n (f (tget {} c.temps n)) }).sensor d n = f (s.sensor d n) := by
  rw [State.sensor, modCal_die, if_pos rfl]
  simp [State.sensor]

end
end Sys2Proof.Machine
end

section
/-! SUPPORT. What a sample that is out of its limits holds, and the analogue BIST (R391, R395, R396, R402, R403). -/

namespace Sys2Proof.Machine

/-- A region of a die is held for a key. -/
def State.dieHeld (s : State) (d key : Nat) : Prop := ∃ i, tget none s.sh.intervals (dieRegion d) = some i ∧ ∃ e ∈ i.inForce, e.1 = key

section
variable {s t : State} {d : Nat}

theorem dieHeld_of_intervals {key : Nat} (h : t.sh.intervals = s.sh.intervals) (hs : s.dieHeld d key) : t.dieHeld d key := by
  unfold State.dieHeld
  rw [h]
  exact hs
theorem newInterval_inForce (s : State) (region key kind further : Nat) (l : List (Nat × Nat)) (cont : Bool) :
    (s.newInterval region key kind further l cont).inForce = l := by
  unfold State.newInterval
  dsimp only
  split
  · rfl
  · split <;> rfl
theorem dieHeld_of_set {key : Nat} {i : Interval} (h : (key, s.now) ∈ i.inForce) :
    (s.modSh fun h => { h with intervals := tset none h.intervals (dieRegion d) (some i) }).dieHeld d key :=
  ⟨i, by simp [State.modSh], _, h, rfl⟩
theorem holdRegion_held (s : State) (d key kind : Nat) : (s.holdRegion (dieRegion d) key kind).dieHeld d key := by
  unfold State.holdRegion
  split
  · exact dieHeld_of_set (by rw [newInterval_inForce]; exact List.mem_singleton_self _)
  · next i hi =>
    split
    · next h =>
      obtain ⟨e, he, hk⟩ := List.any_eq_true.mp h
      exact ⟨i, hi, e, he, by simpa using hk⟩
    · exact dieHeld_of_set (List.mem_append_right _ (List.mem_singleton_self _))
theorem holdDie_held (key kind : Nat) (hc : isCompute d = true) : (s.holdDie d key kind).dieHeld d key := by
  have hregion := holdRegion_held (each (dieCores d) (fun s p => s.ringHold p key true) s) d key kind
  unfold State.holdDie
  rw [if_neg (by simp [hc])]
  cases hi : tget none s.sh.intervals (dieRegion d) with
  | none => exact hregion
  | some i =>
    dsimp only
    split
    · next h =>
      obtain ⟨e, he, hk⟩ := List.any_eq_true.mp h
      exact ⟨i, hi, e, he, by simpa using hk⟩
    · exact hregion
/-- A Calender hold on a compute die: its cause, and the hold of its cores. -/
theorem beginCalHold_spec (s : State) (therm : Bool) (hc : isCompute d = true) : (s.beginCalHold d therm).dieHeld d 4 ∧
    ((s.beginCalHold d therm).die d).cal =
      if therm then { (s.die d).cal with thermHold := true, thermOkSince := none } else { (s.die d).cal with vmonHold := true, vmonOkSince := none } := by
  unfold State.beginCalHold
  rw [if_pos hc]
  refine ⟨holdDie_held _ _ hc, ?_⟩
  rw [((OnlyHolds.refl _).holdDie d 4 1).dieField Die.cal (fun _ => rfl), modCal_die, if_pos rfl]
theorem clearVoid_intervals (s : State) (b : Nat) : (s.clearVoid b).sh.intervals = s.sh.intervals := by
  unfold State.clearVoid
  dsimp only
  split
  · split
    · exact (shared_of_sansBooks Shared.intervals (fun _ => rfl) (record_sansBooks ..)).trans rfl
    · rfl
  · rfl
theorem evalThermal_dies (s : State) : s.evalThermal.dies = s.dies := by
  unfold State.evalThermal
  dsimp only
  split
  · split
    · exact (dies_clearVoid ..).trans rfl
    · rfl
  · rfl
theorem evalThermal_intervals (s : State) : s.evalThermal.sh.intervals = s.sh.intervals := by
  unfold State.evalThermal
  dsimp only
  split
  · split
    · exact (clearVoid_intervals ..).trans rfl
    · rfl
  · rfl
/-- The thermal hold goes on while one sensor that has been sampled reads beyond a limit. -/
theorem evalThermHold_goesOn {n : Nat} (hn : n < sensorCount d) (hhold : (s.die d).cal.thermHold = true) (hs : (s.sensor d n).sampled = true)
    (hb : s.isBeyond d n (s.sensor d n).temp = true) : s.evalThermHold d = s.modCal d fun c => { c with thermOkSince := none } := by
  have hok : (s.sensorsAll d fun n t => !hasLimit d n || (decide (s.lowOf d + 24 ≤ t) && decide (t ≤ s.highOf d - 24))) = false := by
    simp only [State.isBeyond, Bool.and_eq_true, Bool.or_eq_true, decide_eq_true_eq] at hb
    obtain ⟨hlim, hx⟩ := hb
    rw [State.sensorsAll, List.all_eq_false]
    refine ⟨n, List.mem_range.mpr hn, ?_⟩
    simp only [hs, hlim, Bool.not_true, Bool.false_or, Bool.and_eq_true, decide_eq_true_eq]
    omega
  unfold State.evalThermHold
  rw [if_pos hhold, hok]
  rfl
/-- A compute die's sensor that crosses a limit holds its die (R391). -/
theorem takeTemp_holds {n : Nat} {x : Int} (hd : isDie d = true) (hc : isCompute d = true) (hn : n < sensorCount d) (hb : s.isBeyond d n x = true)
    (hwas : (s.sensor d n).beyond = false) (hv : bit s.pkg.voidReasons 4 = true) :
    ((s.takeTemp d n x).die d).cal.thermHold = true ∧ (s.takeTemp d n x).dieHeld d 4 := by
  have hhub : dieHub d = none := by
    simp only [isCompute, decide_eq_true_eq] at hc
    rw [dieHub, if_neg (by omega), if_neg (by omega)]
  unfold State.takeTemp
  dsimp only
  rw [if_pos (by simp [hb, hwas]), hhub]
  dsimp only
  generalize hu : (s.modCal d fun c => { c with temps := tset {} c.temps n { tget {} c.temps n with sampled := true, temp := x, beyond := s.isBeyond d n x } }) = u
  have hread : u.sensor d n = { s.sensor d n with sampled := true, temp := x, beyond := s.isBeyond d n x } := by
    rw [← hu, sensor_modTemp s d n fun k => { k with sampled := true, temp := x, beyond := s.isBeyond d n x }]
  have hnear := (SameTemps.refl u).evalNear n x hd
  have hpkg : (u.evalNear d n x).pkg = s.pkg := (evalNear_pkg n x hd).trans (by rw [← hu]; rfl)
  generalize u.evalNear d n x = w at hnear hpkg ⊢
  have hcount := OnlyHolds.agentCount_calender (k := 20) hd (by decide) (by decide) d (calDetail (twos 12 x) 0 n) (.refl w)
  generalize w.agentCount d (dieSource d 20) (calDetail (twos 12 x) 0 n) = z at hcount ⊢
  have hhold := (hnear.holds hcount).beginCalHold (d := d) true
  have hpkg' : (z.beginCalHold d true).pkg = s.pkg := (beginCalHold_pkg ..).trans (hcount.pkg.trans hpkg)
  obtain ⟨hheld, hcal⟩ := beginCalHold_spec z true hc
  generalize z.beginCalHold d true = y at hhold hpkg' hheld hcal ⊢
  rw [noteThermal_of_set (by rw [hpkg']; exact hv), if_pos (by simp only [isCompute, decide_eq_true_eq] at hc; omega)]
  generalize hq : y.modPkg (fun g => { g with thermalDies := (g.thermalDies.filter fun e => e.1 != d) ++ [(d, none)] }) = q
  have hqread : q.sensor d n = { s.sensor d n with sampled := true, temp := x, beyond := s.isBeyond d n x } := by
    rw [← hq, ← hread, ← hhold.sensor d n]
    rfl
  have hqbeyond : q.isBeyond d n x = true := by
    rw [← hb, ← hq]
    simp only [State.isBeyond, State.highOf, State.lowOf, State.modPkg, hpkg']
    rfl
  have hqcal : (q.die d).cal.thermHold = true := by
    rw [← hq]
    exact (congrArg Cal.thermHold hcal).trans (by simp)
  have hqheld : q.dieHeld d 4 := by
    rw [← hq]
    exact hheld
  rw [evalThermHold_goesOn hn hqcal (by rw [hqread]) (by rw [hqread]; exact hqbeyond)]
  refine ⟨?_, dieHeld_of_intervals (evalThermal_intervals _) hqheld⟩
  rw [die_of_dies (evalThermal_dies _), modCal_die, if_pos rfl]
  exact hqcal

end
end Sys2Proof.Machine
end

section
/-! SUPPORT. Calender's samples and its analogue BIST settle their statements (R386-R404). -/

namespace Sys2Proof.Machine

section
variable {s t : State} {d : Nat}

theorem dieHub_of_compute (hc : isCompute d = true) : dieHub d = none := by
  simp only [isCompute, decide_eq_true_eq] at hc
  rw [dieHub, if_neg (by omega), if_neg (by omega)]
theorem endCalHold_cal (s : State) (d e : Nat) : ((s.endCalHold d).die e).cal = (s.die e).cal := by
  unfold State.endCalHold
  split
  · rfl
  · exact ((OnlyHolds.refl s).unholdDie d 4).dieField Die.cal (fun _ => rfl) e
theorem modCal_cal (s : State) (d : Nat) (f : Cal → Cal) : ((s.modCal d f).die d).cal = f (s.die d).cal := by rw [modCal_die, if_pos rfl]
/-- A sensor after a step that keeps the readings of a state in which it was set. -/
theorem sensor_of_set {n : Nat} {f : Sensor → Sensor} (h : SameTemps (s.modCal d fun c => { c with temps := tset {} c.temps n (f (tget {} c.temps n)) }) t) :
    t.sensor d n = f (s.sensor d n) := (h.sensor d n).trans (sensor_modTemp ..)
/-- A count of Calender's leaves the die's cal part. -/
theorem agentCount_cal {k : Nat} (hd : isDie d = true) (h1 : 17 ≤ k) (h2 : k ≤ 22) (s : State) (x : Detail) :
    ((s.agentCount d (dieSource d k) x).die d).cal = (s.die d).cal :=
  (OnlyHolds.agentCount_calender hd h1 h2 d x (.refl s)).dieField Die.cal (fun _ => rfl) d
/-- The voltage condition of a Calender hold's end, after a sample (Table 12.8). -/
def State.evalVmonHold (s : State) (d : Nat) : State :=
  if (s.die d).cal.vmonHold then
    let f := since (s.vmonsOk d) (s.die d).cal.vmonOkSince s.reel
    if heldFor f s.reel 10000000 then (s.modCal d fun c => { c with vmonHold := false, vmonOkSince := none }).endCalHold d
    else s.modCal d fun c => { c with vmonOkSince := f }
  else s
theorem evalVmonHold_vmons (s : State) (d : Nat) : ((s.evalVmonHold d).die d).cal.vmons = (s.die d).cal.vmons := by
  unfold State.evalVmonHold
  dsimp only
  split
  · split
    · rw [endCalHold_cal, modCal_cal]
    · rw [modCal_cal]
  · rfl
/-- The hold goes on while a monitor is out of tolerance. -/
theorem evalVmonHold_goesOn {m : Nat} (hm : m < 4) (hhold : (s.die d).cal.vmonHold = true) (hout : (tget {} (s.die d).cal.vmons m).out = true) :
    s.evalVmonHold d = s.modCal d fun c => { c with vmonOkSince := none } := by
  have hok : s.vmonsOk d = false := by
    rw [State.vmonsOk, List.all_eq_false]
    exact ⟨m, List.mem_range.mpr hm, by simp [hout]⟩
  unfold State.evalVmonHold
  rw [if_pos hhold, hok]
  rfl
theorem firstCount_modCal (s : State) (d : Nat) (f : Cal → Cal) (e src : Nat) : (s.modCal d f).firstCount e src = s.firstCount e src := by
  rw [State.firstCount, modCal_die, State.firstCount]
  split
  · next he => rw [he]
  · rfl
/-- A failing item is recorded and counted at its source; a count without reactions leaves Calender's state (R403). -/
theorem bistFail_spec (item index : Nat) (measured limit : Int) (hc : s.calm (bistSource d item index)) (hr : (s.die d).inReset = false) :
    (s.bistFail d item index measured limit).firstCount d (bistSource d item index) = min 255 (s.firstCount d (bistSource d item index) + 1) ∧
      ((s.bistFail d item index measured limit).die d).cal = (s.die d).cal := by
  unfold State.bistFail
  have hbooks := record_sansBooks s 0x0C03 3 (bistSource d item index) (item * 2 ^ 16 + index % 65536) (twos 24 measured) (twos 24 limit)
  generalize s.record 0x0C03 3 (bistSource d item index) (item * 2 ^ 16 + index % 65536) (twos 24 measured) (twos 24 limit) = u at hbooks ⊢
  have hdies : u.dies = s.dies := dies_of_sansBooks hbooks
  have hcalm := calm_of_sansBooks hbooks hc
  refine ⟨?_, ?_⟩
  · rw [firstCount_agentCount hcalm _ _ (by rw [die_of_dies hdies]; exact hr), State.firstCount, die_of_dies hdies]
    rfl
  · rw [((OnlyHolds.refl u).agentCount_calm hcalm d _).dieField Die.cal (fun _ => rfl), die_of_dies hdies]

end

/-- Settles O50. -/
theorem calenderSamplesComplete : Obligations.CalenderSamplesComplete := by
  refine ⟨fun s d n raw hd hn hr => ⟨fun hb => ?_, fun hb hc hwas hv => ?_⟩, fun s d m raw v nominal hd hm hr hv => ⟨fun hin => ?_, fun hout hc => ?_⟩,
    fun s d m raw v hd hm hr hv => ⟨fun hin => ?_, fun hlow => ?_⟩, fun s d n a b hd hn hr => ⟨fun hpass hfail hok hp => ?_, fun hbad hsub hv => ?_⟩,
    fun s d item i m l sig hd hi hr hg h5 => ⟨fun hpass => ?_, fun hfail hc => ?_⟩⟩
  · refine ⟨_, (guardId_of_true (by simp [hd, hn])).trans (congrArg Host.Outcome.next (if_neg (by simp [hr]))), ?_⟩
    have hread := sensor_of_set (f := fun k => { k with sampled := true, temp := s.reading d n raw, beyond := s.isBeyond d n (s.reading d n raw) })
      (takeTemp_temps n (s.reading d n raw) hd fun h => by rw [hb] at h; cases h)
    dsimp only
    rw [hread]
    exact ⟨rfl, rfl, hb⟩
  · refine ⟨_, (guardId_of_true (by simp [hd, hn])).trans (congrArg Host.Outcome.next (if_neg (by simp [hr]))), ?_⟩
    have hread := sensor_of_set (f := fun k => { k with sampled := true, temp := s.reading d n raw, beyond := s.isBeyond d n (s.reading d n raw) })
      (takeTemp_temps n (s.reading d n raw) hd fun _ _ => hv)
    dsimp only
    rw [hread]
    exact ⟨hb, takeTemp_holds hd hc hn hb hwas hv⟩
  · have hexec : exec (.vmonSample d m raw nominal) s = .next _ :=
      (guardId_of_true (by simp [hd, hm])).trans (congrArg Host.Outcome.next (if_neg (by simp [hr])))
    dsimp only at hexec
    rw [← hv, decide_eq_false (Nat.not_lt.mpr hin)] at hexec
    have hcal := modCal_cal s d fun c => { c with vmons := tset {} c.vmons m { sampled := true, out := false, unverified := !c.vrefOk, volt := v } }
    generalize (s.modCal d fun c => { c with vmons := tset {} c.vmons m { sampled := true, out := false, unverified := !c.vrefOk, volt := v } }) = u at hcal hexec
    have hnext : exec (.vmonSample d m raw nominal) s = .next (u.evalVmonHold d) := by
      rw [hexec]
      cases dieHub d <;> rfl
    refine ⟨_, hnext, ?_⟩
    dsimp only
    rw [evalVmonHold_vmons, hcal]
    simp
  · have hexec : exec (.vmonSample d m raw nominal) s = .next _ :=
      (guardId_of_true (by simp [hd, hm])).trans (congrArg Host.Outcome.next (if_neg (by simp [hr])))
    dsimp only at hexec
    rw [← hv, decide_eq_true hout, dieHub_of_compute hc] at hexec
    have hcal := modCal_cal s d fun c => { c with vmons := tset {} c.vmons m { sampled := true, out := true, unverified := !c.vrefOk, volt := v } }
    generalize (s.modCal d fun c => { c with vmons := tset {} c.vmons m { sampled := true, out := true, unverified := !c.vrefOk, volt := v } }) = u at hcal hexec
    have hcount := agentCount_cal (k := 17) hd (by decide) (by decide) u (calDetail v 1 m)
    obtain ⟨hheld, hhold⟩ := beginCalHold_spec (u.agentCount d (dieSource d 17) (calDetail v 1 m)) false hc
    generalize (u.agentCount d (dieSource d 17) (calDetail v 1 m)).beginCalHold d false = w at hheld hhold hexec
    have hnext : exec (.vmonSample d m raw nominal) s = .next (w.evalVmonHold d) := hexec
    have hout' : (tget {} (w.die d).cal.vmons m).out = true := by
      rw [hhold, hcount, hcal]
      simp
    rw [evalVmonHold_goesOn hm (by rw [hhold]; rfl) hout'] at hnext
    refine ⟨_, hnext, ?_⟩
    dsimp only
    rw [modCal_cal]
    exact ⟨hout', congrArg Cal.vmonHold hhold, hheld⟩
  · have hexec : exec (.paceSample d m raw) s = .next _ :=
      (guardId_of_true (by simp [hd, hm])).trans (congrArg Host.Outcome.next (if_neg (by simp [hr])))
    refine ⟨_, hexec, ?_⟩
    dsimp only
    rw [← hv, decide_eq_false (Nat.not_lt.mpr hin)]
    have hcal := modCal_cal s d fun c => { c with paces := tset {} c.paces m { sampled := true, low := false, pace := v } }
    generalize (s.modCal d fun c => { c with paces := tset {} c.paces m { sampled := true, low := false, pace := v } }) = u at hcal ⊢
    have hpaces : tget {} (u.die d).cal.paces m = { sampled := true, low := false, pace := v } := by
      rw [hcal]
      simp
    rw [if_neg (by decide)]
    split
    · split
      · rw [modCal_cal]
        exact hpaces
      · rw [modCal_cal]
        exact hpaces
    · exact hpaces
  · have hexec : exec (.paceSample d m raw) s = .next _ :=
      (guardId_of_true (by simp [hd, hm])).trans (congrArg Host.Outcome.next (if_neg (by simp [hr])))
    refine ⟨_, hexec, ?_⟩
    dsimp only
    rw [← hv, decide_eq_true hlow, if_pos rfl, agentCount_cal hd (by decide) (by decide), modCal_cal, modCal_cal]
    simp
  · have hexec : exec (.sensorRefCheck d n a b) s = .next (s.modSensor d n fun t => { t with failed := false, subst := false, passes := 0 }) := by
      refine (guardId_of_true (by simp [hd, hn])).trans (congrArg Host.Outcome.next ?_)
      dsimp only
      rw [if_neg (by simp [hr]), if_pos (decide_eq_true hpass), if_neg (by simp [hfail, hok]), if_pos (by omega)]
    refine ⟨_, hexec, ?_⟩
    have hset := sensor_modTemp s d n fun t => { t with failed := false, subst := false, passes := 0 }
    exact ⟨congrArg Sensor.failed hset, congrArg Sensor.subst hset⟩
  · have hexec : exec (.sensorRefCheck d n a b) s = .next _ := guardId_of_true (by simp [hd, hn])
    have hset := sensor_modTemp s d n fun t => { t with failed := true, passes := 0 }
    dsimp only at hexec
    rw [if_neg (by simp [hr]), if_neg (by simpa using hbad)] at hexec
    have hpkg : (s.modSensor d n fun t => { t with failed := true, passes := 0 }).pkg = s.pkg := rfl
    change ((s.modSensor d n fun t => { t with failed := true, passes := 0 }).sensor d n) = _ at hset
    generalize (s.modSensor d n fun t => { t with failed := true, passes := 0 }) = u at hexec hset hpkg
    rw [if_neg (by rw [hset]; simp [hsub])] at hexec
    have hcount := OnlyHolds.agentCount_calender (k := 21) hd (by decide) (by decide) d (calDetail (twos 12 topTemp) 0 n) (.refl u)
    generalize u.agentCount d (dieSource d 21) (calDetail (twos 12 topTemp) 0 n) = w at hcount hexec
    have hread := sensor_of_set (f := fun k => { k with sampled := true, temp := topTemp, beyond := w.isBeyond d n topTemp })
      (takeTemp_temps n topTemp hd fun _ _ => by rw [hcount.pkg, hpkg]; exact hv)
    refine ⟨_, hexec, ?_⟩
    dsimp only
    rw [hread, ((SameTemps.refl u).holds hcount).sensor, hset]
    exact ⟨rfl, rfl⟩
  · refine ⟨_, (guardId_of_true (by simp [hd, hi])).trans (congrArg Host.Outcome.next (if_neg (by simpa [hr, hg] using h5))), ?_⟩
    dsimp only
    rw [hpass, if_pos rfl]
    refine ⟨?_, fun h3 => ?_⟩
    · split
      · exact firstCount_modCal ..
      · rfl
    · rw [if_pos h3, modCal_cal]
  · have hexec : exec (.analogBistSlice d item i m l sig) s = .next _ :=
      (guardId_of_true (by simp [hd, hi])).trans (congrArg Host.Outcome.next (if_neg (by simpa [hr, hg] using h5)))
    refine ⟨_, hexec, ?_⟩
    dsimp only
    rw [hfail, if_neg (by decide)]
    by_cases h3 : item = 3
    · rw [if_pos h3]
      obtain ⟨hcount, hcal⟩ := bistFail_spec (s := s.modCal d fun c =>
        { c with vrefOk := false, vmons := c.vmons.map fun e => (e.1, { e.2 with unverified := !false }) }) item i m _ hc (by rw [modCal_die, if_pos rfl]; exact hr)
      refine ⟨hcount.trans (by rw [firstCount_modCal]), fun _ => ?_⟩
      rw [hcal, modCal_cal]
    · rw [if_neg h3]
      obtain ⟨hcount, -⟩ := bistFail_spec (s := s) item i m _ hc hr
      exact ⟨hcount, fun h => absurd h h3⟩

end Sys2Proof.Machine
end

section
/-! SUPPORT. Calender's commands (R387, R394, R402, R404, R421). -/

namespace Sys2Proof.Machine

/-- The factory and user calibration of a package with one user field set (Table 12.2). -/
def Pkg.withCal (g : Pkg) (field scope : Nat) (u : Int) : Pkg :=
  match field with
  | 0 => { g with userOffset := tset 0 g.userOffset scope u }
  | 1 => { g with high := tset 0 g.high scope (u - (calRange field scope).2.2) }
  | 2 => { g with low := tset 0 g.low scope (u - (calRange field scope).2.2) }
  | 3 => { g with screenMargin := u.toNat }
  | 4 => { g with vmonTol := u.toNat }
  | _ => { g with paceMin := u.toNat }

section
variable {s t : State} {rq : Req}

/-- A calibration value within its range is stored as it is. -/
theorem gives_calSet {field scope : Nat} {v : Int} (h : s.admits (.calSet rq field scope v) = true) (h0 : v ≠ 0) (hlo : (calRange field scope).1 ≤ v)
    (hhi : v ≤ (calRange field scope).2.1) : Gives (.calSet rq field scope v) s fun t => t.pkg = s.pkg.withCal field scope v ∧ t.answers rq 0x0A00 stOk [] := by
  refine gives_of_takes h rfl rfl fun a b => ?_
  have hu : (if v = 0 then (calRange field scope).2.2 else max (calRange field scope).1 (min (calRange field scope).2.1 v)) = v := by
    rw [if_neg h0]
    omega
  dsimp only
  rw [hu]
  refine ⟨?_, ?_⟩
  · rw [pkg_finish, pkg_record, pkg_of_sansBooks (mramWrite_sansBooks _)]
    rfl
  · simp only [ne_eq, not_true_eq_false, decide_false, Bool.and_false, Bool.false_eq_true, if_false]
    exact answers_finish_nil ..
/-- A command that a die's agent obeys goes on after the agent's reply. -/
theorem askAgent_of_obeys {d op : Nat} {words : List Nat} {f : State → State} (ho : s.obeys d = true) : s.askAgent rq d op words f =
    f ((s.orderNow d 0x80 (op :: words)).feltSend d 0x81 0 s.actDie [op]) := by
  unfold State.askAgent
  exact if_pos ho
/-- An order that its die obeys leaves the die's sensors. -/
theorem orderNow_cal {d : Nat} (ty : Nat) (words : List Nat) (ho : s.obeys d = true) : ((s.orderNow d ty words).die d).cal = (s.die d).cal := by
  have hsent : (s.orderSent d ty words).sansBooks = s.sansBooks :=
    (emit_sansBooks ..).trans ((inject_sansBooks ..).trans (modFelt_sansBooks ..))
  rw [orderNow_of_obeys ty words ho, die_ack, State.noteSeen, modFelt_die, modDie_die, if_pos rfl]
  rw [die_of_sansBooks hsent d]

end

/-- Settles O51. -/
theorem calenderCommandsComplete : Obligations.CalenderCommandsComplete := by
  refine ⟨fun s rq scope v h0 => ⟨fun h hlo hhi => ?_, fun h hlo hhi => ?_, fun h hlo hhi => ?_, fun h hlo hhi => ?_, fun h hlo hhi => ?_,
    fun h hlo hhi => ?_⟩, fun s rq d n h hf => ?_, fun s rq lane b h hu hr ho => ?_, fun s rq d h hr ho => ?_⟩
  · obtain ⟨t, ht, hpkg, hans⟩ := gives_calSet h h0 hlo hhi
    exact ⟨t, ht, by simp [hpkg, Pkg.withCal], hans⟩
  · obtain ⟨t, ht, hpkg, hans⟩ := gives_calSet h h0 hlo hhi
    exact ⟨t, ht, by simp [hpkg, Pkg.withCal], hans⟩
  · obtain ⟨t, ht, hpkg, hans⟩ := gives_calSet h h0 hlo hhi
    exact ⟨t, ht, by simp [hpkg, Pkg.withCal], hans⟩
  · obtain ⟨t, ht, hpkg, hans⟩ := gives_calSet h h0 hlo hhi
    exact ⟨t, ht, by simp [hpkg, Pkg.withCal], hans⟩
  · obtain ⟨t, ht, hpkg, hans⟩ := gives_calSet h h0 hlo hhi
    exact ⟨t, ht, by simp [hpkg, Pkg.withCal], hans⟩
  · obtain ⟨t, ht, hpkg, hans⟩ := gives_calSet h h0 hlo hhi
    exact ⟨t, ht, by simp [hpkg, Pkg.withCal], hans⟩
  · refine gives_of_takes h rfl rfl fun a b => ?_
    dsimp only
    rw [if_neg (by simpa using (show ((s.taken a b).sensor d n).failed = true from hf))]
    have hset := sensor_modTemp (s.taken a b) d n fun x => { x with subst := true, temp := (s.taken a b).substReading d n }
    have hsame (u : State) :
        ((u.record 0x0C01 0 (dieSource d 21) n (twos 12 ((s.taken a b).substReading d n)) (privCode rq.priv)).finish rq 0x0A01 stOk [] []).sensor d n =
        u.sensor d n := by
      rw [State.sensor, die_finish, die_of_sansBooks (record_sansBooks ..)]
      rfl
    rw [hsame]
    exact ⟨congrArg Sensor.subst hset, congrArg Sensor.temp hset, answers_finish_nil ..⟩
  · refine gives_of_takes h rfl rfl fun a b => ?_
    rw [if_neg (by simpa using (show (s.taken a b).laneUsed lane = false from hu)), if_neg (by simp [hr]),
      askAgent_of_obeys (show (s.taken a b).obeys _ = true from ho),
      if_pos rfl]
    exact answers_finish_nil ..
  · refine gives_of_takes h rfl rfl fun a b => ?_
    rw [if_neg (by simp [hr]), askAgent_of_obeys (show (s.taken a b).obeys _ = true from ho)]
    have hcal : (((s.taken a b).orderNow d 0x80 [0x0A03] |>.feltSend d 0x81 0 (s.taken a b).actDie [0x0A03]).die d).cal = (s.die d).cal := by
      rw [die_of_sansBooks (feltSend_sansBooks ..), orderNow_cal _ _ (show (s.taken a b).obeys _ = true from ho)]
      rfl
    refine answers_finish_of ?_
    simp only [State.sensorBits, State.sensor, hcal]

end Sys2Proof.Machine
end

section
/-! SUPPORT. A fault report that takes another core's triage on, to a verdict that resets the package (R32, R178, R230, R283). -/

namespace Sys2Proof.Machine

/-- A triage of core 0 of die 1 whose stages have ended, with the failure reproduced on its own core and another one on the spare: its verdict is a
    unit that fails everywhere, and a contract breach of context 0. -/
def brokenUnit : Triage :=
  { core := 256, lc := 1, ticket := 16, ctx := 0, layer := 0, oper := 0, source := 0, primary := 0, detReel := 0, detStep := 0, startReel := 0,
    regs := { row := 0, a := 0, b := 0 }, partner := none, asGate := false, pgroup := none, stageA := 1, stageADone := true, stageS := some true,
    stageB := 1, stageBDone := true, orig := [], replayed := none, spareDigest := none, spare := none, filled := false, borrowed := false,
    lendersFailed := 0, needReel := 0, frozenReel := 0, aReel := 0, fillReel := 0, bReel := 0, replayLen := 0, verdict := none, bStarted := false,
    placing := false, bCore := none, rstep := 0, freezeStep := 0, anchor := false, members := 0, fillStart := 0, anchorLc := 0, rseq := 0, joined := false,
    placeLen := 0, waitA := none }
/-- The triage of `brokenUnit` waits, and a contract breach asks for the package rung. -/
def breachWaits : State := { State.reset with
  vatA := { role := .active }, pkg := { oos := true }
  sh := { triages := [brokenUnit], ctxs := [(0, { state := 2 })]
          classCfg := [(232, some { each := 2, thresh := 0, n := 1, w := 0, record := false })] } }
/-- The triages under way after a command; none when the command is not answered with a next state. -/
def triagesAfter (i : Instr) (s : State) : List Triage := match exec i s with | .next t => t.sh.triages | _ => []
theorem mem_triagesAfter_of_gives {i : Instr} {s : State} {p : Triage → Prop} (h : Gives i s fun t => ∃ y ∈ t.sh.triages, p y) :
    ∃ y ∈ triagesAfter i s, p y := by
  obtain ⟨t, ht, hy⟩ := h
  rw [triagesAfter, ht]
  exact hy
set_option maxRecDepth 100000 in
/-- The report's own triage starts; the one that waits goes on to its verdict, whose contract breach resets the package and ends both. -/
theorem triagesAfter_breachWaits : triagesAfter (.faultReport { src := 0, seq := 0, ring := 0, epoch := 0 } [0, 0, 0, 0, 0, 0, 0, 0]) breachWaits = [] := by
  decide +kernel

/-- Refutes O17: a fault report takes every triage on that can go on; where the verdict on another core's unit is a contract breach that is configured
    for the package rung, the package resets, and the reported core's triage ends with it. -/
theorem not_triageStagesComplete : ¬ Obligations.TriageStagesComplete := by
  intro h
  obtain ⟨hreport, -⟩ := h
  obtain ⟨t, ht, ⟨y, hy, hcore, -⟩, -, -⟩ := hreport breachWaits { src := 0, seq := 0, ring := 0, epoch := 0 } .a 0 0 0 0 0 0 0 0 0 _ (by decide)
    (by decide) (by decide)
    (by decide) (by decide) (by decide) (by decide) (by decide) (by decide) rfl (by decide +kernel) rfl rfl (by decide +kernel) (by decide) (by decide +kernel)
  obtain ⟨z, hz, -⟩ := mem_triagesAfter_of_gives (p := fun y => y.core = 0) ⟨t, ht, y, hy, hcore⟩
  exact List.not_mem_nil ((congrArg (z ∈ ·) triagesAfter_breachWaits).mp hz)

end Sys2Proof.Machine
end
